-- ==== Sys2Proof/Word.lean ====
section
/-!
DEFINITION. The word types of the EL512 and the sparse map every memory and register file is kept in.
-/
namespace Sys2Proof

/-- A device register: 32 bits (R17). -/
abbrev Word := BitVec 32

/-- The smallest addressable unit of the part's memories (R8). -/
abbrev Byte := BitVec 8

/-- A sparse table of values by key, in one canonical form: keys strictly rising, and no entry
equal to what an unlisted key reads as (Machine/Maps.lean holds its operations). -/
abbrev SMap (α : Type) := List (Nat × α)

/-- An addressed memory: bytes by address (Host.Cell is the same pair type). -/
abbrev Memory := SMap Byte

/-- A set of keys, strictly rising (poison marks, masked vectors). -/
abbrev NSet := List Nat

end Sys2Proof
end

