-- ==== Sys2Proof/Machine/TypesOp.lean ====
section
/-!
DEFINITION. What commands carry besides numbers: data and observations from outside the part (the user logic, the flash,
other seats, the environment).
-/
namespace Sys2Proof.Machine

open Sys2Proof

/-- One memory error found by a read: an offset in the tile's window (R527), in Kitty or in the MRAM; corrected or not. -/
structure SramErr where
  off : Nat
  ue : Bool
deriving DecidableEq, Repr

/-- How an access to the user register window fared: no user register port (R320), an acknowledgement with its read
data, or none within FAB_UREG_TMO (R321). -/
inductive UAns where
  | noPort
  | value (v : Nat)
  | timeout
deriving DecidableEq, Repr

/-- Who makes an access to the user register window (R319): a REG_READ or REG_WRITE, the test access port, or the request
packet `k` of those in flight. -/
inductive UFrom where
  | dealer (m k : Nat)
  | tap
  | packet (k : Nat)
deriving DecidableEq, Repr

/-- One register write of a cycle (R21): Dealer-map address, value, source node, width in bytes, whether its byte parity
fails at the register, the user register port's answer, and the flags of the register whose events, run just before, fall
in the cycle of the write (R1175). -/
structure RegWr where
  a : Nat
  v : Nat
  src : Nat
  bytes : Nat
  parity : Bool
  ans : UAns
  ev : Nat
deriving DecidableEq, Repr

/-- What the internal TAP master takes the TAP for (R172). -/
inductive TapUse where
  | boot | load | repair | fuse
deriving DecidableEq, Repr

/-- One scan of the data register of the instruction in force: what the cells show at Capture-DR, and what Update-DR
loads (IEEE 1149.1, R188). -/
structure DrScan where
  cap : Nat
  upd : Nat
deriving DecidableEq, Repr

/-- A packet that user logic presents on a transmit stream: the header flit, laid out as R696 gives it, and its data flits,
each with its POISON (R313). -/
structure UserPkt where
  hdr : BitVec 256
  flits : List (BitVec 256 × Bool)
deriving DecidableEq, Repr

/-- Where a stream word comes from. -/
inductive StreamSrc where
  /-- shifted in by a probe -/
  | pins (w : Word)
  /-- the next word of the flash -/
  | flash
  /-- the next word of the loading command's host buffer -/
  | host
deriving DecidableEq, Repr

/-- What the flash device answered to a command: an error code of R381 (0 none) and what the range then holds where the
operation failed. -/
structure FlashObs where
  code : Nat
  bytes : List Byte
deriving DecidableEq, Repr

/-- An open partition of the lost seat, as the coordinator observes it through registers: its number, slice base and
MLEN, and the slice copy its entry names where this seat does not hold it. -/
structure LostPart where
  part : Nat
  oldBase : Nat
  mlen : Nat
  newBase : Nat
deriving DecidableEq, Repr

/-- One partition's entry of the seat map (R1126). -/
structure MapEnt where
  seat : Nat
  part : Nat
  st : Nat
  hostSeat : Nat
  hostPart : Nat
  oldBase : Nat
  mlen : Nat
  newBase : Nat
deriving DecidableEq, Repr

/-- What runs a NOP: the mailbox command of handle `k` of mailbox `m` (R406), or signal core `k` (R918). -/
inductive NopAt where
  | mailbox (m k : Nat)
  | core (k : Nat)
deriving DecidableEq, Repr

end Sys2Proof.Machine
end

