-- ==== Sys2Proof/Syntax.lean ====
section
/-!
DEFINITION. The commands of the EL512: one constructor per row of spec/opcode_table.json. `m` and `k` are a mailbox and
a handle; `far`, `farOk`, `ans` and `obs` are what comes from outside the part.
-/
namespace Sys2Proof

inductive Instr where
  /-- REGISTER_WRITE (R10): the writes that arrive in one cycle (R21) -/
  | registerWrite (ws : List Machine.RegWr)
  /-- MONITOR_WINDOW (R68): monitored input 0 to 3 and the edges counted -/
  | monitorWindow (i : Nat) (n : Nat)
  /-- XTAL32_WINDOW (R67) -/
  | xtal32Window
  /-- PLL_LOCK_LOSS (R70): PLL number -/
  | pllLockLoss (p : Nat)
  /-- PLL_LOCK_HELD (R70): PLL number -/
  | pllLockHeld (p : Nat)
  /-- CLOCK_LOSS_CLEAR (R73): the word written -/
  | clockLossClear (v : Nat)
  /-- STEP_COMPLETE (R63): partition -/
  | stepComplete (p : Nat)
  /-- TABLE_TIME_FORWARD (R61): how many forwards in a row -/
  | tableTimeForward (n : Nat)
  /-- POR_DETECT (R102) -/
  | porDetect
  /-- POR_RELEASE (R102) -/
  | porRelease
  /-- RESET_PIN_ASSERT (R98): pin 0 POR_N, 1 SYS_RST_N, 2 CORE_RST_N -/
  | resetPinAssert (p : Nat)
  /-- RESET_PIN_GLITCH (R100): pin -/
  | resetPinGlitch (p : Nat)
  /-- RESET_PIN_RELEASE (R101): pin -/
  | resetPinRelease (p : Nat)
  /-- SYSTEM_RESET (R103): the SEAT and BOOT_SRC straps sampled at release -/
  | systemReset (seat : Nat) (boot : Nat)
  /-- CORE_RESET (R104): VDDIO of the banks as the local staged release senses it, two bits a bank -/
  | coreReset (volts : Nat)
  /-- RESET_PEND_NOCLK_START (R94) -/
  | resetPendNoclkStart
  /-- RESET_NV_DELAY_END (R117) -/
  | resetNvDelayEnd
  /-- WDT_TIMEOUT (R90): milliseconds without a kick -/
  | wdtTimeout (ms : Nat)
  /-- SYS_WDT_KICK (R160): the word written -/
  | sysWdtKick (v : Nat)
  /-- SYS_RST_REQ_CORE (R158) -/
  | sysRstReqCore
  /-- SYS_RST_REQ_SYSTEM (R158) -/
  | sysRstReqSystem
  /-- PWR_TARGET_RUN (R126): PCIE_TMO of the same write -/
  | pwrTargetRun (tmo : Nat)
  /-- PWR_TARGET_IDLE (R124): PCIE_TMO of the same write -/
  | pwrTargetIdle (tmo : Nat)
  /-- PWR_TARGET_PARK (R127): PCIE_TMO of the same write -/
  | pwrTargetPark (tmo : Nat)
  /-- PWR_TARGET_LISTEN (R131): PCIE_TMO of the same write -/
  | pwrTargetListen (tmo : Nat)
  /-- PWR_TARGET_DEEP (R135): PCIE_TMO of the same write -/
  | pwrTargetDeep (tmo : Nat)
  /-- PWR_HELD_TARGET_APPLY (R149) -/
  | pwrHeldTargetApply
  /-- LISTEN_L2_READY (R131) -/
  | listenL2Ready
  /-- LISTEN_ABORT (R132) -/
  | listenAbort
  /-- LISTEN_DEEP_TIMEOUT (R167) -/
  | listenDeepTimeout
  /-- WAKE_EXIT (R144) -/
  | wakeExit
  /-- WAKE_EXIT_CLOCKS_GOOD (R144): what the always-on counter has gained, the straps a DEEP exit samples, and VDDIO of the banks -/
  | wakeExitClocksGood (ticks : Nat) (seat : Nat) (boot : Nat) (volts : Nat)
  /-- WAKE_IN_EDGE (R138): pin and its new level -/
  | wakeInEdge (n : Nat) (level : Bool)
  /-- AOT_COMPARE_MATCH (R137) -/
  | aotCompareMatch
  /-- PCIE_PERST_RISE (R137) -/
  | pciePerstRise
  /-- TEST_LOGIC_RESET (R176) -/
  | testLogicReset
  /-- TRST_N_ASSERT (R201) -/
  | trstNAssert
  /-- CAPTURE_IR (R177): the level on DONE where this seat does not drive it -/
  | captureIr (done : Bool)
  /-- UPDATE_IR (R178): opcode, the input cells, and the scans made under the instruction that leaves -/
  | updateIr (op : Nat) (cells : Nat) (scans : List Machine.DrScan)
  /-- CFG_IN (R208): where the word comes from -/
  | cfgIn (src : Machine.StreamSrc)
  /-- CFG_PARTIAL (R256): where the word comes from -/
  | cfgPartial (src : Machine.StreamSrc)
  /-- CFG_STAT (R271) -/
  | cfgStat
  /-- FUSE_PROGRAM (R199): fuse bit -/
  | fuseProgram (a : Nat)
  /-- FUSE_READ (R199): fuse word -/
  | fuseRead (a : Nat)
  /-- FUSE_PULSE_DONE (R199): the bit read back -/
  | fusePulseDone (obs : Bool)
  /-- HBM_PORT (R195): the bits updated, none for a capture -/
  | hbmPort (upd : Option Nat)
  /-- USER_WRITE (R198): USERn, the word and the user register port's answer -/
  | userWrite (n : Nat) (v : Nat) (ans : Machine.UAns)
  /-- USER_READ (R198): USERn and the user register port's answer -/
  | userRead (n : Nat) (ans : Machine.UAns)
  /-- DBG_ACCESS (R197): address, the word of a write, and the user register port's answer -/
  | dbgAccess (a : Nat) (wr : Option Nat) (ans : Machine.UAns)
  /-- DBG_CTL_HALT (R206): HALT and the source node -/
  | dbgCtlHalt (b : Bool) (src : Nat)
  /-- TAP_MASTER_TAKE (R175): what for, and TMS of the pins until the take -/
  | tapMasterTake (u : Machine.TapUse) (tms : List Bool)
  /-- CONFIG_START (R207): what the flash declares: MiB and an 8D-8D-8D mode -/
  | configStart (probe : Option (Nat × Bool))
  /-- DATA_RECORD (R216) -/
  | dataRecord
  /-- REPEAT_RECORD (R216) -/
  | repeatRecord
  /-- END_RECORD (R223) -/
  | endRecord
  /-- CFG_STREAM_END (R247) -/
  | cfgStreamEnd
  /-- CLEAR_PASS_DONE (R239) -/
  | clearPassDone
  /-- DONE_RELEASE (R250) -/
  | doneRelease
  /-- DONE_SEEN_HIGH (R252): VDDIO of the banks, two bits a bank -/
  | doneSeenHigh (volts : Nat)
  /-- RELEASE_STAGE (R252): VDDIO of the banks, sensed at the first stage of a partial load's release -/
  | releaseStage (volts : Nat)
  /-- DONE_SEEN_LOW (R263) -/
  | doneSeenLow
  /-- PROG_N (R266) -/
  | progN
  /-- CFG_CTL_RESTART (R266) -/
  | cfgCtlRestart
  /-- CFG_CTL_LOCK (R253) -/
  | cfgCtlLock
  /-- PARTIAL_FOLD_DONE (R260) -/
  | partialFoldDone
  /-- SCRUB_FRAME (R1172): bits of the frame's cells that have changed -/
  | scrubFrame (upset : BitVec 2048)
  /-- FAB_UREG_ACCESS (R319): who, address, the word of a write, and the port's answer, none while it waits -/
  | fabUregAccess (f : Machine.UFrom) (a : Nat) (wr : Option Nat) (ans : Option Machine.UAns)
  /-- FAB_UREG_TIMEOUT (R321) -/
  | fabUregTimeout
  /-- FAB_PLL_LOSS_CLEAR (R336): the word written -/
  | fabPllLossClear (v : Nat)
  /-- FABRIC_PORT_TX (R315): fabric port and what user logic presents -/
  | fabricPortTx (i : Nat) (u : Machine.UserPkt)
  /-- FABRIC_PORT_RX (R317): packet, and whether its CRC fails -/
  | fabricPortRx (k : Nat) (crc : Bool)
  /-- MBX_DB_CMD (R356): mailbox and the word written -/
  | mbxDbCmd (m : Nat) (v : Nat)
  /-- MBX_DB_CPL (R357): mailbox and the word written -/
  | mbxDbCpl (m : Nat) (v : Nat)
  /-- MBX_NEXT (R359) -/
  | mbxNext
  /-- MBX_POST_GO (R401): mailbox and handle -/
  | mbxPostGo (m : Nat) (k : Nat)
  /-- MBX_POST_EVENT (R379): mailbox -/
  | mbxPostEvent (m : Nat)
  /-- MBX_EVENT_DEQUEUE (R379): mailbox -/
  | mbxEventDequeue (m : Nat)
  /-- MBX_CMD_TIMEOUT (R370): mailbox and handle -/
  | mbxCmdTimeout (m : Nat) (k : Nat)
  /-- MBX_COAL_TIMEOUT (R375): mailbox -/
  | mbxCoalTimeout (m : Nat)
  /-- DMA_ENGINE_ASSIGN (R372) -/
  | dmaEngineAssign
  /-- NOP (R406): the mailbox command, or the signal core and its cycle count -/
  | nop (at_ : Machine.NopAt) (cyc : Nat)
  /-- INFO (R406): mailbox and handle -/
  | info (m : Nat) (k : Nat)
  /-- RESET (R393): mailbox and handle -/
  | reset (m : Nat) (k : Nat)
  /-- REG_READ (R406): mailbox, handle and the user register port's answer -/
  | regRead (m : Nat) (k : Nat) (ans : Machine.UAns)
  /-- REG_WRITE (R406): mailbox, handle and the user register port's answer -/
  | regWrite (m : Nat) (k : Nat) (ans : Machine.UAns)
  /-- MEM_READ (R406): mailbox, handle, other seats' bytes, and the user register port's answers by address -/
  | memRead (m : Nat) (k : Nat) (far : Memory) (ans : List (Nat × Machine.UAns))
  /-- MEM_WRITE (R406): mailbox, handle, whether other seats answer with success, and the user register port's answers by address -/
  | memWrite (m : Nat) (k : Nat) (farOk : Bool) (ans : List (Nat × Machine.UAns))
  /-- POWER (R406): mailbox and handle -/
  | power (m : Nat) (k : Nat)
  /-- IMAGE_LOAD (R406): mailbox and handle -/
  | imageLoad (m : Nat) (k : Nat)
  /-- PARTIAL_LOAD (R406): mailbox and handle -/
  | partialLoad (m : Nat) (k : Nat)
  /-- FLASH_READ (R406): mailbox, handle and the flash device's answer -/
  | flashRead (m : Nat) (k : Nat) (obs : Machine.FlashObs)
  /-- FLASH_WRITE (R406): mailbox, handle and the flash device's answer -/
  | flashWrite (m : Nat) (k : Nat) (obs : Machine.FlashObs)
  /-- FLASH_ERASE (R406): mailbox, handle and the flash device's answer -/
  | flashErase (m : Nat) (k : Nat) (obs : Machine.FlashObs)
  /-- PART_OPEN (R798): mailbox and handle -/
  | partOpen (m : Nat) (k : Nat)
  /-- PART_FOLD (R798): mailbox and handle -/
  | partFold (m : Nat) (k : Nat)
  /-- PART_OFF (R798): mailbox and handle -/
  | partOff (m : Nat) (k : Nat)
  /-- PART_PACE (R846): mailbox and handle -/
  | partPace (m : Nat) (k : Nat)
  /-- PART_BW (R675): mailbox and handle -/
  | partBw (m : Nat) (k : Nat)
  /-- PROGRAM_LOAD (R818): mailbox, handle and other seats' bytes -/
  | programLoad (m : Nat) (k : Nat) (far : List Byte)
  /-- JOB_START (R821): mailbox and handle -/
  | jobStart (m : Nat) (k : Nat)
  /-- CHECKPOINT (R837): mailbox and handle -/
  | checkpoint (m : Nat) (k : Nat)
  /-- PART_STATUS (R409): mailbox and handle -/
  | partStatus (m : Nat) (k : Nat)
  /-- SNS_CONFIG (R907): mailbox, handle and other seats' bytes -/
  | snsConfig (m : Nat) (k : Nat) (far : Memory)
  /-- SNS_CAPTURE (R902): mailbox and handle -/
  | snsCapture (m : Nat) (k : Nat)
  /-- SNS_WAKE (R908): mailbox, handle and other seats' bytes -/
  | snsWake (m : Nat) (k : Nat) (far : Memory)
  /-- SNS_STATUS (R910): mailbox and handle -/
  | snsStatus (m : Nat) (k : Nat)
  /-- SIG_LOAD (R934): mailbox, handle and other seats' bytes -/
  | sigLoad (m : Nat) (k : Nat) (far : List Byte)
  /-- SIG_RUN (R935): mailbox and handle -/
  | sigRun (m : Nat) (k : Nat)
  /-- SIG_STOP (R940): mailbox and handle -/
  | sigStop (m : Nat) (k : Nat)
  /-- SIG_STATUS (R952): mailbox and handle -/
  | sigStatus (m : Nat) (k : Nat)
  /-- GFX_SUBMIT (R1003): mailbox, handle and other seats' bytes -/
  | gfxSubmit (m : Nat) (k : Nat) (far : Memory)
  /-- DPY_MODE (R990): mailbox, handle, other seats' bytes, and whether link training succeeds -/
  | dpyMode (m : Nat) (k : Nat) (far : List Byte) (trained : Bool)
  /-- DPY_PLANE (R993): mailbox, handle and other seats' bytes -/
  | dpyPlane (m : Nat) (k : Nat) (far : List Byte)
  /-- GFX_STATUS (R1003): mailbox and handle -/
  | gfxStatus (m : Nat) (k : Nat)
  /-- NET_PORT (R1047): mailbox and handle -/
  | netPort (m : Nat) (k : Nat)
  /-- NET_RULE (R1019): mailbox, handle and other seats' bytes -/
  | netRule (m : Nat) (k : Nat) (far : List Byte)
  /-- NET_QUEUE (R1024): mailbox and handle -/
  | netQueue (m : Nat) (k : Nat)
  /-- NET_SHAPER (R1036): mailbox and handle -/
  | netShaper (m : Nat) (k : Nat)
  /-- NET_PTP (R1041): mailbox and handle -/
  | netPtp (m : Nat) (k : Nat)
  /-- NET_STATUS (R1052): mailbox and handle -/
  | netStatus (m : Nat) (k : Nat)
  /-- TBL_STATUS (R1143): mailbox, handle and the level of DONE -/
  | tblStatus (m : Nat) (k : Nat) (high : Bool)
  /-- TBL_SPARE (R1144): mailbox and handle -/
  | tblSpare (m : Nat) (k : Nat)
  /-- TBL_SLEEP (R1129): mailbox and handle -/
  | tblSleep (m : Nat) (k : Nat)
  /-- TBL_TIME_READ (R1145): mailbox and handle -/
  | tblTimeRead (m : Nat) (k : Nat)
  /-- TBL_TIME_STEP (R1145): mailbox and handle -/
  | tblTimeStep (m : Nat) (k : Nat)
  /-- SET_READ (R469): mailbox and handle -/
  | setRead (m : Nat) (k : Nat)
  /-- SET_WRITE (R470): mailbox and handle -/
  | setWrite (m : Nat) (k : Nat)
  /-- FW_WRITE (R452): mailbox and handle -/
  | fwWrite (m : Nat) (k : Nat)
  /-- FW_SELECT (R456): mailbox and handle -/
  | fwSelect (m : Nat) (k : Nat)
  /-- FW_CONFIRM (R457): mailbox and handle -/
  | fwConfirm (m : Nat) (k : Nat)
  /-- LOG_READ (R1170): mailbox and handle -/
  | logRead (m : Nat) (k : Nat)
  /-- SELF_TEST (R411): mailbox and handle -/
  | selfTest (m : Nat) (k : Nat)
  /-- BOOT_SLOT_SELECT (R423) -/
  | bootSlotSelect
  /-- MRAM_PULSE_START (R446): whether the wait of R446 has been kept -/
  | mramPulseStart (waited : Bool)
  /-- MRAM_PULSE_DONE (R414): what the word group holds, where the pulse went wrong; address and DLCLK cycles of a Dealer
  fetch that waited in the bank (R445, R448) -/
  | mramPulseDone (obs : Option (List Byte)) (fetch : Option (Nat × Nat))
  /-- WIDE_WORD (R535): tile, cycles passed, and SRAM errors found -/
  | wideWord (t : Nat) (n : Nat) (es : List Machine.SramErr)
  /-- MATRIX_WRITEBACK (R547): tile -/
  | matrixWriteback (t : Nat)
  /-- TIL_CTL_RUN (R578): tile -/
  | tilCtlRun (t : Nat)
  /-- TIL_CTL_STEP (R578): tile -/
  | tilCtlStep (t : Nat)
  /-- TIL_CTL_HALT (R563): tile -/
  | tilCtlHalt (t : Nat)
  /-- TIL_SEED (R571): tile and seed -/
  | tilSeed (t : Nat) (v : Nat)
  /-- STREAM_REQUEST (R636): tile, and whether a fill is served -/
  | streamRequest (n : Nat) (fill : Bool)
  /-- STREAM_RESPONSE (R654): tile and tag -/
  | streamResponse (n : Nat) (tag : Nat)
  /-- LAYER_LIST_READ (R661): tile and other seats' bytes -/
  | layerListRead (n : Nat) (far : List Byte)
  /-- PREFETCH_FILL (R659): tile and other seats' bytes -/
  | prefetchFill (n : Nat) (far : List Byte)
  /-- JOB_RELEASE (R667): partition -/
  | jobRelease (p : Nat)
  /-- JOB_END (R670): partition -/
  | jobEnd (p : Nat)
  /-- RD (R698): packet, whether its CRC fails, SRAM errors found, and the user register port's answer -/
  | rd (k : Nat) (crc : Bool) (es : List Machine.SramErr) (ans : Machine.UAns)
  /-- WR (R698): packet, whether its CRC fails, SRAM errors found, whether register parity fails, and the user register port's answer -/
  | wr (k : Nat) (crc : Bool) (es : List Machine.SramErr) (parity : Bool) (ans : Machine.UAns)
  /-- RD_RSP (R703): packet, and whether its CRC fails -/
  | rdRsp (k : Nat) (crc : Bool)
  /-- WR_RSP (R703): packet, and whether its CRC fails -/
  | wrRsp (k : Nat) (crc : Bool)
  /-- FOLD_REQ (R715): node -/
  | foldReq (n : Nat)
  /-- FOLD_OUT_DRAINED (R715): node -/
  | foldOutDrained (n : Nat)
  /-- FOLD_IN_DRAINED (R715): node -/
  | foldInDrained (n : Nat)
  /-- FENCE_DONE (R715): node -/
  | fenceDone (n : Nat)
  /-- FOLD_ACK (R715): region: partition, or 16 + port -/
  | foldAck (k : Nat)
  /-- HEARTBEAT (R1110): packet, whether its CRC fails, and the loss it reports -/
  | heartbeat (k : Nat) (crc : Bool) (lost : Option Nat)
  /-- INTERRUPT (R698): packet, and whether its CRC fails -/
  | interrupt (k : Nat) (crc : Bool)
  /-- NOC_FOLD (R715): fabric port or partition, its number, PGATE -/
  | nocFold (port : Bool) (i : Nat) (pgate : Bool)
  /-- NOC_UNFOLD (R720): fabric port or partition, and its number -/
  | nocUnfold (port : Bool) (i : Nat)
  /-- FOLD_TIMEOUT (R718): region -/
  | foldTimeout (k : Nat)
  /-- RSP_TIMEOUT (R724): node and tag -/
  | rspTimeout (n : Nat) (tag : Nat)
  /-- BURST_ISSUE (R743): pseudo-channel, parity retries seen, and symbol errors in the data -/
  | burstIssue (c : Nat) (par : Nat) (err : List (Nat × Nat))
  /-- THROTTLE_END (R772): pseudo-channel -/
  | throttleEnd (c : Nat)
  /-- REFRESH (R749): pseudo-channel -/
  | refresh (c : Nat)
  /-- REFRESH_WINDOW (R769): stack -/
  | refreshWindow (st : Nat)
  /-- ROW_CLOSE (R746): pseudo-channel and bank -/
  | rowClose (c : Nat) (bank : Nat)
  /-- POWER_DOWN (R746): stack -/
  | powerDown (st : Nat)
  /-- MEM_TEMP_UPDATE (R750): stack and temperature in 1/16 °C -/
  | memTempUpdate (st : Nat) (temp : Nat)
  /-- TEMP_STALE (R750): stack -/
  | tempStale (st : Nat)
  /-- HBM_CATASTROPHIC_TEMP (R751): stack and the level of its output -/
  | hbmCatastrophicTemp (st : Nat) (on : Bool)
  /-- TRAINING_DONE (R752): stack; none success, some none a failed step, some lane a failed lane -/
  | trainingDone (st : Nat) (res : Option (Option (Nat × Nat)))
  /-- LANE_REPAIR (R754): stack -/
  | laneRepair (st : Nat)
  /-- RETRAIN (R791): stack -/
  | retrain (st : Nat)
  /-- PACING_SAMPLE (R809): partition -/
  | pacingSample (p : Nat)
  /-- PACING_WINDOW (R811): partition -/
  | pacingWindow (p : Nat)
  /-- PACING_CORRECT (R813): partition -/
  | pacingCorrect (p : Nat)
  /-- CHECKPOINT_WRITE (R834): partition -/
  | checkpointWrite (p : Nat)
  /-- CHECKPOINT_COMMIT (R834): partition -/
  | checkpointCommit (p : Nat)
  /-- DUMMY_COPY_ACK (R1120): partition; whether this seat holds its predecessor's copy; MLEN; whether the partner refused -/
  | dummyCopyAck (p : Nat) (partner : Bool) (mlen : Nat) (refused : Bool)
  /-- SNS_OUTPUT_SAMPLE (R863): group and the PDM bits captured per enabled channel -/
  | snsOutputSample (g : Nat) (pdm : List Nat)
  /-- SNS_TRIG (R885): the bits written -/
  | snsTrig (mask : Nat)
  /-- CAPTURE_BLOCK_COMPLETE (R883): capture source, and whether another seat answers with success -/
  | captureBlockComplete (u : Nat) (farOk : Bool)
  /-- WAKE_FRAME (R895): the PDM bits captured per channel -/
  | wakeFrame (pdm : List Nat)
  /-- SIG_TRIGGER (R935): core -/
  | sigTrigger (k : Nat)
  /-- SIG_SOFT (R951): the bits written -/
  | sigSoft (mask : Nat)
  /-- SIG_RUN_END (R935): core and its cycle count -/
  | sigRunEnd (k : Nat) (cyc : Nat)
  /-- SIG_TRANSFER_RESPONSE (R941): tag -/
  | sigTransferResponse (tag : Nat)
  /-- SIG_COREK_MDATA (R950): core and the word of a write -/
  | sigCorekMdata (k : Nat) (wr : Option Nat)
  /-- FMAC (R921): core and its cycle count -/
  | fmac (k : Nat) (cyc : Nat)
  /-- FMSC (R918): core and its cycle count -/
  | fmsc (k : Nat) (cyc : Nat)
  /-- FMUL (R918): core and its cycle count -/
  | fmul (k : Nat) (cyc : Nat)
  /-- FADD (R918): core and its cycle count -/
  | fadd (k : Nat) (cyc : Nat)
  /-- FSUB (R918): core and its cycle count -/
  | fsub (k : Nat) (cyc : Nat)
  /-- FABS (R918): core and its cycle count -/
  | fabs (k : Nat) (cyc : Nat)
  /-- FNEG (R918): core and its cycle count -/
  | fneg (k : Nat) (cyc : Nat)
  /-- FMIN (R918): core and its cycle count -/
  | fmin (k : Nat) (cyc : Nat)
  /-- FMAX (R918): core and its cycle count -/
  | fmax (k : Nat) (cyc : Nat)
  /-- FCMP (R919): core and its cycle count -/
  | fcmp (k : Nat) (cyc : Nat)
  /-- FCVTQ (R918): core and its cycle count -/
  | fcvtq (k : Nat) (cyc : Nat)
  /-- FCVTF (R918): core and its cycle count -/
  | fcvtf (k : Nat) (cyc : Nat)
  /-- FRCP (R918): core and its cycle count -/
  | frcp (k : Nat) (cyc : Nat)
  /-- FRSQRT (R918): core and its cycle count -/
  | frsqrt (k : Nat) (cyc : Nat)
  /-- IADD (R918): core and its cycle count -/
  | iadd (k : Nat) (cyc : Nat)
  /-- ISUB (R918): core and its cycle count -/
  | isub (k : Nat) (cyc : Nat)
  /-- IAND (R918): core and its cycle count -/
  | iand (k : Nat) (cyc : Nat)
  /-- IOR (R918): core and its cycle count -/
  | ior (k : Nat) (cyc : Nat)
  /-- ISHL (R918): core and its cycle count -/
  | ishl (k : Nat) (cyc : Nat)
  /-- ISHR (R918): core and its cycle count -/
  | ishr (k : Nat) (cyc : Nat)
  /-- IMOV (R918): core and its cycle count -/
  | imov (k : Nat) (cyc : Nat)
  /-- ICMP (R919): core and its cycle count -/
  | icmp (k : Nat) (cyc : Nat)
  /-- SETA (R924): core and its cycle count -/
  | seta (k : Nat) (cyc : Nat)
  /-- MOVA (R918): core and its cycle count -/
  | mova (k : Nat) (cyc : Nat)
  /-- MOVR (R918): core and its cycle count -/
  | movr (k : Nat) (cyc : Nat)
  /-- LOOP (R927): core and its cycle count -/
  | loop (k : Nat) (cyc : Nat)
  /-- SIG_BR (R920): core and its cycle count -/
  | sigBr (k : Nat) (cyc : Nat)
  /-- SIG_JMP (R920): core and its cycle count -/
  | sigJmp (k : Nat) (cyc : Nat)
  /-- SIG_CALL (R920): core and its cycle count -/
  | sigCall (k : Nat) (cyc : Nat)
  /-- RET (R920): core and its cycle count -/
  | ret (k : Nat) (cyc : Nat)
  /-- SIG_HALT (R935): core and its cycle count -/
  | sigHalt (k : Nat) (cyc : Nat)
  /-- WAITT (R918): core and its cycle count -/
  | waitt (k : Nat) (cyc : Nat)
  /-- GET (R941): core and its cycle count -/
  | get (k : Nat) (cyc : Nat)
  /-- PUT (R941): core and its cycle count -/
  | put (k : Nat) (cyc : Nat)
  /-- SIGNAL (R943): core and its cycle count -/
  | signal (k : Nat) (cyc : Nat)
  /-- PASS (R961): other seats' bytes -/
  | pass (far : Memory)
  /-- SHADER (R975): other seats' bytes -/
  | shader (far : Memory)
  /-- DRAW (R957): other seats' bytes -/
  | draw (far : Memory)
  /-- BIN_JOB_START (R971): other seats' bytes -/
  | binJobStart (far : Memory)
  /-- WAVE_RECORD_WRITE (R973): tile, other seats' bytes, and whether they answer writes with success -/
  | waveRecordWrite (t : Nat) (far : Memory) (farOk : Bool)
  /-- BIN_JOB_STORE (R971): tile, and whether another seat answers with success -/
  | binJobStore (t : Nat) (farOk : Bool)
  /-- GFX_RELEASE (R985): partition -/
  | gfxRelease (q : Nat)
  /-- GFX_AUTO_CLR (R964): the word written -/
  | gfxAutoClr (v : Nat)
  /-- VBLANK (R993) -/
  | vblank
  /-- SCANOUT_UNDERFLOW (R994): whether the data was poisoned -/
  | scanoutUnderflow (poisoned : Bool)
  /-- HPD_UNPLUG (R995) -/
  | hpdUnplug
  /-- IRQ_HPD (R995): whether the sink reports lock lost, and whether retraining succeeds -/
  | irqHpd (lost : Bool) (trained : Bool)
  /-- HPD_PLUG (R995) -/
  | hpdPlug
  /-- DPY_AUX_GO (R1002): the word written -/
  | dpyAuxGo (v : Nat)
  /-- RX_FRAME (R1007): port, the frame with its FCS, other seats' bytes, and whether they answer writes with success -/
  | rxFrame (n : Nat) (bs : List Byte) (far : Memory) (farOk : Bool)
  /-- RX_DESCRIPTOR_WRITE (R1027): port, queue, and whether another seat answers with success -/
  | rxDescriptorWrite (n : Nat) (q : Nat) (farOk : Bool)
  /-- TX_FRAME_START (R1032): port, a packet CRC failure, other seats' bytes and answers -/
  | txFrameStart (n : Nat) (crc : Bool) (far : Memory) (farOk : Bool)
  /-- TX_FRAME_DONE (R1027): port, and whether another seat answers with success -/
  | txFrameDone (n : Nat) (farOk : Bool)
  /-- SHAPER_TICK (R1031) -/
  | shaperTick
  /-- FORGIVE (R1034): port and queue -/
  | forgive (n : Nat) (q : Nat)
  /-- NET_PN_SHPQ_RATE (R1033): port, queue and the word written -/
  | netPnShpqRate (n : Nat) (q : Nat) (v : Nat)
  /-- NET_PN_SHPQ_BUCKET (R1035): port, queue and the word written -/
  | netPnShpqBucket (n : Nat) (q : Nat) (v : Nat)
  /-- HOST_MEM_READ (R1064): function, BAR, offset, length, ECRC failure, SRAM errors found, the user register port's answer -/
  | hostMemRead (fn : Nat) (bar : Nat) (o : Nat) (n : Nat) (ecrc : Bool) (es : List Machine.SramErr) (ans : Machine.UAns)
  /-- HOST_MEM_WRITE (R1063): function, BAR, offset, bytes, EP, ECRC failure, the user register port's answer -/
  | hostMemWrite (fn : Nat) (bar : Nat) (o : Nat) (bs : List Byte) (ep : Bool) (ecrc : Bool) (ans : Machine.UAns)
  /-- CONFIG_REQUEST (R1081): function, offset and the word of a write -/
  | configRequest (fn : Nat) (off : Nat) (wr : Option Nat)
  /-- FUNCTION_LEVEL_RESET (R1076): VF -/
  | functionLevelReset (n : Nat)
  /-- PME_TURN_OFF (R131) -/
  | pmeTurnOff
  /-- PCIE_LINK_DOWN (R1082): whether PCIE_PERST_N is low -/
  | pcieLinkDown (perst : Bool)
  /-- DMA_COMPLETION (R1073): engine, its read, counted from the oldest, completion status, bytes and EP -/
  | dmaCompletion (e : Nat) (j : Nat) (st : Nat) (bs : List Byte) (ep : Bool)
  /-- HELLO (R1091): link, the frame, and the peer's seat and port letter it carries -/
  | hello (k : Nat) (bs : List Byte) (seat : Nat) (letter : Nat)
  /-- DATA (R1097): link and the frame -/
  | data (k : Nat) (bs : List Byte)
  /-- IDLE (R1095): link and the frame -/
  | idle (k : Nat) (bs : List Byte)
  /-- NAK (R1098): link and the frame -/
  | nak (k : Nat) (bs : List Byte)
  /-- TIME (R1115): link, the frame, the time it was sent, round trip and turnaround in 1/16 ns -/
  | time (k : Nat) (bs : List Byte) (sent : Nat) (rtt : Nat) (turn : Nat)
  /-- IDENT (R1103): link and the frame -/
  | ident (k : Nat) (bs : List Byte)
  /-- REPLAY_TIMEOUT (R1098): link -/
  | replayTimeout (k : Nat)
  /-- LINK_UP (R1089): link and the lanes that passed -/
  | linkUp (k : Nat) (lanes : Nat)
  /-- LINK_DOWN (R1092): link -/
  | linkDown (k : Nat)
  /-- LINK_RESTART (R1089): link -/
  | linkRestart (k : Nat)
  /-- IDENT_SEND (R1103) -/
  | identSend
  /-- IDENT_COMPLETE (R1103): the seat map of the seat with the highest epoch -/
  | identComplete (map : List Machine.MapEnt)
  /-- XWAIT_TIMEOUT (R1104) -/
  | xwaitTimeout
  /-- HEARTBEAT_SEND (R1110) -/
  | heartbeatSend
  /-- HEARTBEAT_TIMEOUT (R1111): seat -/
  | heartbeatTimeout (seat : Nat)
  /-- CUT_WAIT (R1112): whether DONE was seen low -/
  | cutWait (low : Bool)
  /-- REDEAL_DONE (R1124): the lost seat's open partitions, and P's valid copies and spares where P is another seat -/
  | redealDone (opened : List Machine.LostPart) (valid : Nat) (spares : Nat)
  /-- TIME_EXCHANGE (R1115) -/
  | timeExchange
  /-- TBL_TIME_OFS (R1118): the word written -/
  | tblTimeOfs (v : Nat)
  /-- TBL_ALARM (R1117) -/
  | tblAlarm
  /-- ERROR_REPORT (R1159) -/
  | errorReport
  /-- THERMAL_SAMPLE (R1222): what the 18 sensors read -/
  | thermalSample (l : List Nat)
  /-- THERMAL_CAP_INTERVAL (R1224) -/
  | thermalCapInterval
  /-- RAIL_CHANGE (R1202): rail, and whether it is within tolerance -/
  | railChange (r : Nat) (good : Bool)
  /-- XTAL32_RISING_EDGE (R67) -/
  | xtal32RisingEdge
  /-- PCIE_LINK_UP (R1081): rate and width as PCIE_STAT encodes them -/
  | pcieLinkUp (speed : Nat) (width : Nat)
  /-- ETH_LINK_UP (R1051): port -/
  | ethLinkUp (n : Nat)
  /-- ETH_LINK_DOWN (R1051): port -/
  | ethLinkDown (n : Nat)
  /-- WAKE_OUT_PULSE_END (R136) -/
  | wakeOutPulseEnd
  /-- FLASH_READ_TIMEOUT (R223) -/
  | flashReadTimeout
  /-- DPY_AUX_DONE (R1002): reply and the bytes read -/
  | dpyAuxDone (reply : Nat) (data : List Byte)
  /-- NET_RULE_SLOT_TIMEOUT (R1023) -/
  | netRuleSlotTimeout
deriving DecidableEq, Repr

end Sys2Proof
end

