-- ==== Sys2Proof/Decode.lean ====
section
/-!
DEFINITION. Commands by bits: spec/opcode_table.json gives bits to none of its rows, so no word spells a command.
-/
namespace Sys2Proof

/-- The command that the low `nbits` bits of `w` spell. -/
def decodeTableWord (_nbits _w : Nat) : Option Instr := none

end Sys2Proof
end

