-- ==== Sys2Proof/Machine/CfgSpace.lean ====
section
/-!
DEFINITION. Words of the PCIe configuration space: reset values, and bits that software writes. Layout by the PCIe base
specification (assumption 7).
-/
namespace Sys2Proof.Machine

open Sys2Proof

/-! ### Configuration space (R1055, R1056) -/

/-- Capability words of PF0, by offset. -/
def pfConst : List (Nat × Nat) :=
  [(0x000, 0xE5121D8E), (0x004, 0x00100000), (0x008, 0x120000A1), (0x010, 0x4), (0x018, 0xC), (0x020, 0x4),
   (0x02C, 0x00011D8E), (0x034, 0x40), (0x040, 0xC0035001), (0x050, 0x003F7011), (0x054, 0x200000), (0x058, 0x208000),
   (0x070, 0x00020010), (0x074, 0x00008022), (0x078, 0x2000), (0x094, 0x00030013)] ++
  [(0x100, 0x14820001), (0x10C, 0x00062010), (0x148, 0x1501000E), (0x150, 0x17010019), (0x170, 0x1A010026),
   (0x1A0, 0x20010027), (0x200, 0x00010010), (0x20C, 0x00100010), (0x214, 0x00010001), (0x218, 0xE51F0000),
   (0x21C, 0x11), (0x220, 0x1), (0x224, 0x4), (0x22C, 0xC), (0x234, 0x4)]

/-- Capability words of a VF. -/
def vfConst : List (Nat × Nat) :=
  [(0x000, 0xE51F1D8E), (0x004, 0x00100000), (0x008, 0x120000A1), (0x02C, 0x00011D8E), (0x034, 0x50),
   (0x050, 0x00077011), (0x054, 0x4), (0x058, 0x8004), (0x070, 0x00020010), (0x074, 0x10008022), (0x078, 0x2000),
   (0x094, 0x00030013), (0x100, 0x14820001), (0x10C, 0x00062010), (0x148, 0x0001000E)]

/-- Reset value of a configuration word: function × 4,096 + offset. -/
def cfgReset (k : Nat) : Word :=
  let l := if k / 4096 = 0 then pfConst else vfConst
  match l.find? (fun e => e.1 == k % 4096) with
  | some e => BitVec.ofNat 32 e.2
  | none => 0

/-- Bits of a configuration word that software writes, and those that a 1 clears. -/
def cfgMasks (fn off : Nat) : Nat × Nat :=
  if off = 0x004 then (0x547, 0xF9000000)
  else if off = 0x044 then (if fn = 0 then (0x103, 0x8000) else (0, 0))
  else if off = 0x050 then (0xC0000000, 0)
  else if off = 0x078 then (0xF7FF % 0x8000, 0xF0000)
  else if off = 0x098 then (0x101F, 0)
  else if off = 0x104 then (0, 0x005FF010)
  else if off = 0x110 then (0, 0x0000F1C1)
  else if off = 0x108 ∨ off = 0x10C then (0x005FF010, 0)
  else if off = 0x114 then (0x0000F1C1, 0)
  else if off = 0x118 then (0x140, 0)
  else if fn = 0 ∧ (off = 0x010 ∨ off = 0x020) then ((if off = 0x010 then 0xFF800000 else 0xFF000000), 0)
  else if fn = 0 ∧ (off = 0x014 ∨ off = 0x01C ∨ off = 0x024) then (if off = 0x01C then 0xFFFFFFF0 else 0xFFFFFFFF, 0)
  else if fn = 0 ∧ off = 0x208 then (0x19, 0)
  else if fn = 0 ∧ off = 0x210 then (0xFFFF, 0)
  else if fn = 0 ∧ off = 0x220 then (0x11, 0)
  else if fn = 0 ∧ 0x224 ≤ off ∧ off < 0x23C then (0xFFFF0000, 0)
  else (0, 0)

end Sys2Proof.Machine
end

