-- ==== Sys2Proof/Machine/Bits.lean ====
section
/-!
DEFINITION. Bit fields, sign extension and byte order (R7, R8, R9) over natural numbers.
-/
namespace Sys2Proof.Machine

/-- Bits [hi:lo] of `v` (R7: bit 0 is the least significant). -/
def bits (v hi lo : Nat) : Nat := (v >>> lo) % 2 ^ (hi + 1 - lo)

/-- Bit `n` of `v`. -/
def bit (v n : Nat) : Bool := (v >>> n) % 2 == 1

/-- `v` with bits [hi:lo] replaced by the low bits of `x`. -/
def setBits (v hi lo x : Nat) : Nat :=
  v - (bits v hi lo) <<< lo + (x % 2 ^ (hi + 1 - lo)) <<< lo

/-- `v` with bit `n` set to `b`. -/
def setBit (v n : Nat) (b : Bool) : Nat := setBits v n n (if b then 1 else 0)

/-- The two's complement value of the low `w` bits of `v`. -/
def sext (w v : Nat) : Int :=
  let x := v % 2 ^ w
  if x < 2 ^ (w - 1) then (x : Int) else (x : Int) - (2 ^ w : Nat)

/-- The low `w` bits of an integer, as an unsigned number. -/
def wrapI (w : Nat) (i : Int) : Nat := (i % ((2 ^ w : Nat) : Int)).toNat

/-- `a - b` modulo 2 ^ w (free-running indices). -/
def subMod (w a b : Nat) : Nat := (a % 2 ^ w + 2 ^ w - b % 2 ^ w) % 2 ^ w

/-- The 0/1 value of a Boolean. -/
def b2n (b : Bool) : Nat := if b then 1 else 0

/-- A saturating sum at `m`. -/
def satAdd (m a b : Nat) : Nat := min m (a + b)

/-- Little-endian bytes of `v` (R8). -/
def leBytes : Nat → Nat → List (BitVec 8)
  | 0, _ => []
  | n + 1, v => BitVec.ofNat 8 v :: leBytes n (v / 256)

/-- The number a little-endian byte list spells (R8). -/
def ofLe : List (BitVec 8) → Nat
  | [] => 0
  | b :: bs => b.toNat + 256 * ofLe bs

/-- The little-endian number in bytes [k, k + n) of a byte list; missing bytes read 0. -/
def leAt (bs : List (BitVec 8)) (k n : Nat) : Nat := ofLe ((bs.drop k).take n)

/-- The `n` big-endian bytes of a value. -/
def beBytes (n v : Nat) : List (BitVec 8) := (leBytes n v).reverse

/-- The big-endian number a byte list spells. -/
def ofBe (bs : List (BitVec 8)) : Nat := ofLe bs.reverse

/-- Number of set bits among the low `w` bits. -/
def popCount : Nat → Nat → Nat
  | 0, _ => 0
  | w + 1, v => v % 2 + popCount w (v / 2)

/-- The positions of the set bits among the low `w`, rising. -/
def bitList (w v : Nat) : List Nat := (List.range w).filter (fun k => bit v k)

/-- The mask with the bits of the list set. -/
def maskOf (l : List Nat) : Nat := l.foldl (fun a k => a ||| 2 ^ k) 0

/-- The lowest set bit among the low `w`, if any. -/
def lowBit (w v : Nat) : Option Nat := (List.range w).find? (fun k => bit v k)

/-- Floor of the base-2 logarithm, by fuel (0 for 0 and 1). -/
def log2 (v : Nat) : Nat := Nat.log2 v

end Sys2Proof.Machine
end

