-- ==== Sys2Proof/Machine/Maps.lean ====
section
/-!
DEFINITION. Operations of the sparse maps: one canonical form (keys strictly rising, no entry
equal to the default), so that equal maps are equal data.
-/
namespace Sys2Proof.Machine

open Sys2Proof

variable {α : Type}

/-- The value at key `k`; `d k` where the map lists none. -/
def SMap.get (d : Nat → α) : SMap α → Nat → α
  | [], k => d k
  | (j, v) :: m, k => if j = k then v else SMap.get d m k

/-- Drop every entry of key `k`. -/
def SMap.erase : SMap α → Nat → SMap α
  | [], _ => []
  | (j, v) :: m, k => if j = k then SMap.erase m k else (j, v) :: SMap.erase m k

/-- Enter `v` at key `k`, keeping keys rising. -/
def SMap.ins : SMap α → Nat → α → SMap α
  | [], k, v => [(k, v)]
  | (j, w) :: m, k, v =>
    if j = k then (k, v) :: m else if k < j then (k, v) :: (j, w) :: m else (j, w) :: SMap.ins m k v

/-- Write `v` at key `k`: an entry, or none where `v` is the default of `k`. -/
def SMap.set [DecidableEq α] (d : Nat → α) (m : SMap α) (k : Nat) (v : α) : SMap α :=
  if v = d k then SMap.erase m k else SMap.ins m k v

/-- Keys strictly rising from above `lo`. -/
def SMap.rising : Nat → SMap α → Bool
  | _, [] => true
  | lo, (j, _) :: m => decide (lo ≤ j) && SMap.rising (j + 1) m

/-- The canonical form. -/
def SMap.wf [DecidableEq α] (d : Nat → α) (m : SMap α) : Bool :=
  SMap.rising 0 m && m.all (fun e => decide (e.2 ≠ d e.1))

/-- Memories read 0 where nothing is listed (assumption 3). -/
def memDefault : Nat → Byte := fun _ => 0

/-- One byte of a memory. -/
def Mem.get (m : Memory) (a : Nat) : Byte := SMap.get memDefault m a

/-- Write one byte. -/
def Mem.set (m : Memory) (a : Nat) (b : Byte) : Memory := SMap.set memDefault m a b

/-- The canonical form of a memory. -/
def Memory.wf (m : Memory) : Bool := SMap.wf memDefault m

/-- `n` bytes from address `a`, lowest first. -/
def Mem.bytes (m : Memory) (a : Nat) : Nat → List Byte
  | 0 => []
  | n + 1 => Mem.get m a :: Mem.bytes m (a + 1) n

/-- Write a byte list from address `a` up. -/
def Mem.write (m : Memory) (a : Nat) : List Byte → Memory
  | [] => m
  | b :: bs => Mem.write (Mem.set m a b) (a + 1) bs

/-- The `n`-byte little-endian number at address `a` (R8). -/
def Mem.rd (m : Memory) (a n : Nat) : Nat := ofLe (Mem.bytes m a n)

/-- Write the `n`-byte little-endian number `v` at address `a` (R8). -/
def Mem.wr (m : Memory) (a n v : Nat) : Memory := Mem.write m a (leBytes n v)

/-- Every byte of [lo, hi) reads 0 afterwards; other addresses are unchanged. -/
def Mem.zero (m : Memory) (lo hi : Nat) : Memory := m.filter (fun e => decide (e.1 < lo ∨ hi ≤ e.1))

/-- Fill [a, a + n) with one byte value. -/
def Mem.fill (m : Memory) (a : Nat) : Nat → Byte → Memory
  | 0, _ => m
  | n + 1, b => Mem.fill (Mem.set m a b) (a + 1) n b

/-- A map of numbers, 0 where unlisted. -/
def NMap.get (m : SMap Nat) (k : Nat) : Nat := SMap.get (fun _ => 0) m k

/-- Write an entry of a map of numbers. -/
def NMap.set (m : SMap Nat) (k v : Nat) : SMap Nat := SMap.set (fun _ => 0) m k v

/-- Membership of a key set. -/
def NSet.has (s : NSet) (k : Nat) : Bool := s.contains k

/-- Enter a key, keeping keys rising. -/
def NSet.add : NSet → Nat → NSet
  | [], k => [k]
  | j :: s, k => if j = k then j :: s else if k < j then k :: j :: s else j :: NSet.add s k

/-- Drop a key. -/
def NSet.del (s : NSet) (k : Nat) : NSet := s.filter (fun j => j != k)

/-- Enter or drop a key. -/
def NSet.put (s : NSet) (k : Nat) (b : Bool) : NSet := if b then NSet.add s k else NSet.del s k

/-- Keys strictly rising. -/
def NSet.wf : Nat → NSet → Bool
  | _, [] => true
  | lo, j :: s => decide (lo ≤ j) && NSet.wf (j + 1) s

/-- Replace element `k` of a list by `f` of it. -/
def listUpd (f : α → α) : List α → Nat → List α
  | [], _ => []
  | x :: xs, 0 => f x :: xs
  | x :: xs, k + 1 => x :: listUpd f xs k

/-- Element `k` of a list, or `d`. -/
def listAt (d : α) : List α → Nat → α
  | [], _ => d
  | x :: _, 0 => x
  | _ :: xs, k + 1 => listAt d xs k

end Sys2Proof.Machine
end

