-- ==== Sys2Proof/Machine/Regs.lean ====
section
/-!
DEFINITION. Names of the device registers and their fields (the spec's names; an array register takes
its indices as arguments). A `Fld` is a field's address and bit range.
-/
namespace Sys2Proof.Machine

/-- A field of a device register. -/
structure Fld where
  addr : Nat
  hi : Nat
  lo : Nat
deriving DecidableEq, Repr

namespace R

/-- SYS_HWID (R45). -/
def SYS_HWID : Nat := 0x40000F00
def SYS_HWID_PART : Fld := ⟨SYS_HWID, 31, 16⟩
def SYS_HWID_STEP_MAJ : Fld := ⟨SYS_HWID, 15, 12⟩
def SYS_HWID_STEP_MIN : Fld := ⟨SYS_HWID, 11, 8⟩
def SYS_HWID_SPEED : Fld := ⟨SYS_HWID, 7, 4⟩
def SYS_HWID_TEMP : Fld := ⟨SYS_HWID, 3, 0⟩
/-- SYS_BIN (R46). -/
def SYS_BIN : Nat := 0x40000F04
def SYS_BIN_HBM_CAP : Fld := ⟨SYS_BIN, 19, 16⟩
def SYS_BIN_VARIANT : Fld := ⟨SYS_BIN, 0, 0⟩
/-- SYS_PARTEN (R47). -/
def SYS_PARTEN : Nat := 0x40000F08
def SYS_PARTEN_PART_EN : Fld := ⟨SYS_PARTEN, 15, 0⟩
/-- SYS_IDCODE (R49). -/
def SYS_IDCODE : Nat := 0x40000F0C
def SYS_IDCODE_IDCODE : Fld := ⟨SYS_IDCODE, 31, 0⟩
/-- SYS_FEAT (R468). -/
def SYS_FEAT : Nat := 0x40000F10
def SYS_FEAT_AES : Fld := ⟨SYS_FEAT, 3, 3⟩
def SYS_FEAT_DPY : Fld := ⟨SYS_FEAT, 2, 2⟩
def SYS_FEAT_NET : Fld := ⟨SYS_FEAT, 1, 1⟩
def SYS_FEAT_TBL : Fld := ⟨SYS_FEAT, 0, 0⟩
/-- SYS_CLK_STAT (R82). -/
def SYS_CLK_STAT : Nat := 0x40000200
def SYS_CLK_STAT_SNS_SRC_ACT : Fld := ⟨SYS_CLK_STAT, 17, 17⟩
def SYS_CLK_STAT_XTAL32_OK : Fld := ⟨SYS_CLK_STAT, 16, 16⟩
def SYS_CLK_STAT_UPLL_LOCK : Fld := ⟨SYS_CLK_STAT, 15, 8⟩
def SYS_CLK_STAT_DPY_LOCK : Fld := ⟨SYS_CLK_STAT, 7, 7⟩
def SYS_CLK_STAT_AUD_LOCK : Fld := ⟨SYS_CLK_STAT, 6, 6⟩
def SYS_CLK_STAT_LNK_LOCK : Fld := ⟨SYS_CLK_STAT, 5, 5⟩
def SYS_CLK_STAT_ETH_LOCK : Fld := ⟨SYS_CLK_STAT, 4, 4⟩
def SYS_CLK_STAT_PCIE_LOCK : Fld := ⟨SYS_CLK_STAT, 3, 3⟩
def SYS_CLK_STAT_MEM_LOCK : Fld := ⟨SYS_CLK_STAT, 2, 2⟩
def SYS_CLK_STAT_NOC_LOCK : Fld := ⟨SYS_CLK_STAT, 1, 1⟩
def SYS_CLK_STAT_SYS_LOCK : Fld := ⟨SYS_CLK_STAT, 0, 0⟩
/-- SYS_CLK_LOSS (R83). -/
def SYS_CLK_LOSS : Nat := 0x40000204
def SYS_CLK_LOSS_MARG_OVF : Fld := ⟨SYS_CLK_LOSS, 28, 24⟩
def SYS_CLK_LOSS_LOST_OVF : Fld := ⟨SYS_CLK_LOSS, 20, 16⟩
def SYS_CLK_LOSS_MARG : Fld := ⟨SYS_CLK_LOSS, 12, 8⟩
def SYS_CLK_LOSS_LOST : Fld := ⟨SYS_CLK_LOSS, 4, 0⟩
/-- SYS_CLK_CFG (R84). -/
def SYS_CLK_CFG : Nat := 0x40000208
def SYS_CLK_CFG_AOT_SRC : Fld := ⟨SYS_CLK_CFG, 1, 1⟩
def SYS_CLK_CFG_SNS_SRC : Fld := ⟨SYS_CLK_CFG, 0, 0⟩
/-- SYS_TCLK_CUR (R85). -/
def SYS_TCLK_CUR (i : Nat) : Nat := 0x40000240 + 0x4 * i
def SYS_TCLK_CUR_STOPPED (i : Nat) : Fld := ⟨SYS_TCLK_CUR i, 9, 9⟩
def SYS_TCLK_CUR_SLEWING (i : Nat) : Fld := ⟨SYS_TCLK_CUR i, 8, 8⟩
def SYS_TCLK_CUR_STEP (i : Nat) : Fld := ⟨SYS_TCLK_CUR i, 4, 0⟩
/-- SYS_RST_CAUSE (R153). -/
def SYS_RST_CAUSE : Nat := 0x40000000
def SYS_RST_CAUSE_FATAL_CODE : Fld := ⟨SYS_RST_CAUSE, 31, 16⟩
def SYS_RST_CAUSE_PROMOTED : Fld := ⟨SYS_RST_CAUSE, 11, 11⟩
def SYS_RST_CAUSE_DEEP_WAKE : Fld := ⟨SYS_RST_CAUSE, 10, 10⟩
def SYS_RST_CAUSE_CORE_CMD : Fld := ⟨SYS_RST_CAUSE, 9, 9⟩
def SYS_RST_CAUSE_CORE_PIN : Fld := ⟨SYS_RST_CAUSE, 8, 8⟩
def SYS_RST_CAUSE_FATAL : Fld := ⟨SYS_RST_CAUSE, 7, 7⟩
def SYS_RST_CAUSE_WDT : Fld := ⟨SYS_RST_CAUSE, 6, 6⟩
def SYS_RST_CAUSE_SYS_CMD : Fld := ⟨SYS_RST_CAUSE, 5, 5⟩
def SYS_RST_CAUSE_SYS_PIN : Fld := ⟨SYS_RST_CAUSE, 4, 4⟩
def SYS_RST_CAUSE_POR_PIN : Fld := ⟨SYS_RST_CAUSE, 3, 3⟩
def SYS_RST_CAUSE_POR_DET : Fld := ⟨SYS_RST_CAUSE, 2, 2⟩
/-- SYS_RST_STAT (R154). -/
def SYS_RST_STAT : Nat := 0x40000004
def SYS_RST_STAT_RESTARTS : Fld := ⟨SYS_RST_STAT, 31, 24⟩
def SYS_RST_STAT_MEM_KEPT : Fld := ⟨SYS_RST_STAT, 4, 4⟩
def SYS_RST_STAT_PEND_WAKE : Fld := ⟨SYS_RST_STAT, 3, 3⟩
def SYS_RST_STAT_PEND_NV : Fld := ⟨SYS_RST_STAT, 2, 2⟩
def SYS_RST_STAT_PEND_NOCLK : Fld := ⟨SYS_RST_STAT, 1, 1⟩
/-- SYS_RST_CFG (R155). -/
def SYS_RST_CFG : Nat := 0x40000008
def SYS_RST_CFG_FATAL_RST : Fld := ⟨SYS_RST_CFG, 1, 1⟩
def SYS_RST_CFG_MEM_KEEP : Fld := ⟨SYS_RST_CFG, 0, 0⟩
/-- SYS_RST_GLITCH (R156). -/
def SYS_RST_GLITCH : Nat := 0x4000000C
def SYS_RST_GLITCH_CORE : Fld := ⟨SYS_RST_GLITCH, 23, 16⟩
def SYS_RST_GLITCH_SYS : Fld := ⟨SYS_RST_GLITCH, 15, 8⟩
def SYS_RST_GLITCH_POR : Fld := ⟨SYS_RST_GLITCH, 7, 0⟩
/-- SYS_RST_NVDELAY (R157). -/
def SYS_RST_NVDELAY : Nat := 0x40000010
def SYS_RST_NVDELAY_FUSE : Fld := ⟨SYS_RST_NVDELAY, 31, 16⟩
def SYS_RST_NVDELAY_MRAM : Fld := ⟨SYS_RST_NVDELAY, 15, 0⟩
/-- SYS_RST_REQ (R158). -/
def SYS_RST_REQ : Nat := 0x40000014
def SYS_RST_REQ_KEY : Fld := ⟨SYS_RST_REQ, 15, 8⟩
def SYS_RST_REQ_LEVEL : Fld := ⟨SYS_RST_REQ, 1, 0⟩
/-- SYS_WDT_CTL (R159). -/
def SYS_WDT_CTL : Nat := 0x40000018
def SYS_WDT_CTL_TIMEOUT : Fld := ⟨SYS_WDT_CTL, 31, 16⟩
def SYS_WDT_CTL_DBG_PAUSE : Fld := ⟨SYS_WDT_CTL, 1, 1⟩
def SYS_WDT_CTL_EN : Fld := ⟨SYS_WDT_CTL, 0, 0⟩
/-- SYS_WDT_KICK (R160). -/
def SYS_WDT_KICK : Nat := 0x4000001C
def SYS_WDT_KICK_KICK : Fld := ⟨SYS_WDT_KICK, 31, 0⟩
/-- PWR_STATE (R161). -/
def PWR_STATE : Nat := 0x40000400
def PWR_STATE_TARGET : Fld := ⟨PWR_STATE, 7, 5⟩
def PWR_STATE_BUSY : Fld := ⟨PWR_STATE, 4, 4⟩
def PWR_STATE_STATE : Fld := ⟨PWR_STATE, 2, 0⟩
/-- PWR_CTL (R162). -/
def PWR_CTL : Nat := 0x40000404
def PWR_CTL_PCIE_TMO : Fld := ⟨PWR_CTL, 15, 8⟩
def PWR_CTL_TARGET : Fld := ⟨PWR_CTL, 2, 0⟩
/-- PWR_WAKE_CFG (R163). -/
def PWR_WAKE_CFG : Nat := 0x40000408
def PWR_WAKE_CFG_PCIE_DRV : Fld := ⟨PWR_WAKE_CFG, 26, 26⟩
def PWR_WAKE_CFG_WO_MODE : Fld := ⟨PWR_WAKE_CFG, 25, 25⟩
def PWR_WAKE_CFG_WIN_DEB : Fld := ⟨PWR_WAKE_CFG, 23, 16⟩
def PWR_WAKE_CFG_WIN_EDGE : Fld := ⟨PWR_WAKE_CFG, 15, 12⟩
def PWR_WAKE_CFG_WIN_POL : Fld := ⟨PWR_WAKE_CFG, 11, 8⟩
def PWR_WAKE_CFG_WIN_EN : Fld := ⟨PWR_WAKE_CFG, 7, 4⟩
def PWR_WAKE_CFG_PCIE_EN : Fld := ⟨PWR_WAKE_CFG, 2, 2⟩
def PWR_WAKE_CFG_AOT_EN : Fld := ⟨PWR_WAKE_CFG, 1, 1⟩
def PWR_WAKE_CFG_AW_EN : Fld := ⟨PWR_WAKE_CFG, 0, 0⟩
/-- PWR_WAKE_STAT (R164). -/
def PWR_WAKE_STAT : Nat := 0x4000040C
def PWR_WAKE_STAT_FROM : Fld := ⟨PWR_WAKE_STAT, 31, 29⟩
def PWR_WAKE_STAT_OVF : Fld := ⟨PWR_WAKE_STAT, 23, 16⟩
def PWR_WAKE_STAT_ABORT : Fld := ⟨PWR_WAKE_STAT, 9, 9⟩
def PWR_WAKE_STAT_RST : Fld := ⟨PWR_WAKE_STAT, 8, 8⟩
def PWR_WAKE_STAT_WIN : Fld := ⟨PWR_WAKE_STAT, 7, 4⟩
def PWR_WAKE_STAT_PCIE : Fld := ⟨PWR_WAKE_STAT, 2, 2⟩
def PWR_WAKE_STAT_AOT : Fld := ⟨PWR_WAKE_STAT, 1, 1⟩
def PWR_WAKE_STAT_AW : Fld := ⟨PWR_WAKE_STAT, 0, 0⟩
/-- PWR_AOT_CNT_LO (R165). -/
def PWR_AOT_CNT_LO : Nat := 0x40000410
def PWR_AOT_CNT_LO_CNT : Fld := ⟨PWR_AOT_CNT_LO, 31, 0⟩
/-- PWR_AOT_CNT_HI (R165). -/
def PWR_AOT_CNT_HI : Nat := 0x40000414
def PWR_AOT_CNT_HI_CNT : Fld := ⟨PWR_AOT_CNT_HI, 15, 0⟩
/-- PWR_AOT_CMP_LO (R166). -/
def PWR_AOT_CMP_LO : Nat := 0x40000418
def PWR_AOT_CMP_LO_CMP : Fld := ⟨PWR_AOT_CMP_LO, 31, 0⟩
/-- PWR_AOT_CMP_HI (R166). -/
def PWR_AOT_CMP_HI : Nat := 0x4000041C
def PWR_AOT_CMP_HI_CMP : Fld := ⟨PWR_AOT_CMP_HI, 15, 0⟩
/-- PWR_LD_TMO (R167). -/
def PWR_LD_TMO : Nat := 0x40000420
def PWR_LD_TMO_SECONDS : Fld := ⟨PWR_LD_TMO, 23, 0⟩
/-- PWR_TT_SNAP_LO (R168). -/
def PWR_TT_SNAP_LO : Nat := 0x40000428
def PWR_TT_SNAP_LO_SNAP : Fld := ⟨PWR_TT_SNAP_LO, 31, 0⟩
/-- PWR_TT_SNAP_HI (R168). -/
def PWR_TT_SNAP_HI : Nat := 0x4000042C
def PWR_TT_SNAP_HI_SNAP : Fld := ⟨PWR_TT_SNAP_HI, 31, 0⟩
/-- PWR_AOT_SNAP_LO (R168). -/
def PWR_AOT_SNAP_LO : Nat := 0x40000430
def PWR_AOT_SNAP_LO_SNAP : Fld := ⟨PWR_AOT_SNAP_LO, 31, 0⟩
/-- PWR_AOT_SNAP_HI (R168). -/
def PWR_AOT_SNAP_HI : Nat := 0x40000434
def PWR_AOT_SNAP_HI_SNAP : Fld := ⟨PWR_AOT_SNAP_HI, 15, 0⟩
/-- SYS_FW_STAT (R464). -/
def SYS_FW_STAT : Nat := 0x40000600
def SYS_FW_STAT_TRIES : Fld := ⟨SYS_FW_STAT, 31, 24⟩
def SYS_FW_STAT_ROM_VER : Fld := ⟨SYS_FW_STAT, 23, 16⟩
def SYS_FW_STAT_S1_STATE : Fld := ⟨SYS_FW_STAT, 15, 12⟩
def SYS_FW_STAT_S0_STATE : Fld := ⟨SYS_FW_STAT, 11, 8⟩
def SYS_FW_STAT_FELLBACK : Fld := ⟨SYS_FW_STAT, 3, 3⟩
def SYS_FW_STAT_TRIAL : Fld := ⟨SYS_FW_STAT, 2, 2⟩
def SYS_FW_STAT_ROM_SVC : Fld := ⟨SYS_FW_STAT, 1, 1⟩
def SYS_FW_STAT_SLOT : Fld := ⟨SYS_FW_STAT, 0, 0⟩
/-- SYS_MRAM_CTL (R465). -/
def SYS_MRAM_CTL : Nat := 0x40000610
def SYS_MRAM_CTL_WEN : Fld := ⟨SYS_MRAM_CTL, 3, 0⟩
/-- SYS_MRAM_ERR (R466). -/
def SYS_MRAM_ERR : Nat := 0x40000614
def SYS_MRAM_ERR_OVF : Fld := ⟨SYS_MRAM_ERR, 18, 16⟩
def SYS_MRAM_ERR_CE : Fld := ⟨SYS_MRAM_ERR, 2, 2⟩
def SYS_MRAM_ERR_UE : Fld := ⟨SYS_MRAM_ERR, 1, 1⟩
def SYS_MRAM_ERR_WP : Fld := ⟨SYS_MRAM_ERR, 0, 0⟩
/-- SYS_MRAM_STALL (R467). -/
def SYS_MRAM_STALL : Nat := 0x40000618
def SYS_MRAM_STALL_COUNT : Fld := ⟨SYS_MRAM_STALL, 31, 0⟩
/-- SYS_PART_STAT (R851). -/
def SYS_PART_STAT (i : Nat) : Nat := 0x40000800 + 0x4 * i
def SYS_PART_STAT_STATE (i : Nat) : Fld := ⟨SYS_PART_STAT i, 2, 0⟩
def SYS_PART_STAT_BUSY (i : Nat) : Fld := ⟨SYS_PART_STAT i, 3, 3⟩
def SYS_PART_STAT_FUSED (i : Nat) : Fld := ⟨SYS_PART_STAT i, 4, 4⟩
def SYS_PART_STAT_LOADED (i : Nat) : Fld := ⟨SYS_PART_STAT i, 5, 5⟩
def SYS_PART_STAT_RUNNING (i : Nat) : Fld := ⟨SYS_PART_STAT i, 6, 6⟩
def SYS_PART_STAT_QUEUED (i : Nat) : Fld := ⟨SYS_PART_STAT i, 7, 7⟩
def SYS_PART_STAT_CKPT_BUSY (i : Nat) : Fld := ⟨SYS_PART_STAT i, 8, 8⟩
def SYS_PART_STAT_CKPT_ACT (i : Nat) : Fld := ⟨SYS_PART_STAT i, 9, 9⟩
def SYS_PART_STAT_CKPT_ERR (i : Nat) : Fld := ⟨SYS_PART_STAT i, 16, 16⟩
def SYS_PART_STAT_CKPT_ERR_OVF (i : Nat) : Fld := ⟨SYS_PART_STAT i, 24, 24⟩
/-- SYS_PART_FAULT (R852). -/
def SYS_PART_FAULT (i : Nat) : Nat := 0x40000840 + 0x4 * i
def SYS_PART_FAULT_CODE (i : Nat) : Fld := ⟨SYS_PART_FAULT i, 7, 0⟩
def SYS_PART_FAULT_TILE (i : Nat) : Fld := ⟨SYS_PART_FAULT i, 12, 8⟩
/-- SYS_PART_CKPT (R853). -/
def SYS_PART_CKPT (i : Nat) : Nat := 0x40000880 + 0x4 * i
def SYS_PART_CKPT_BASE (i : Nat) : Fld := ⟨SYS_PART_CKPT i, 15, 0⟩
def SYS_PART_CKPT_MLEN (i : Nat) : Fld := ⟨SYS_PART_CKPT i, 31, 16⟩
/-- SYS_PART_SEQ (R854). -/
def SYS_PART_SEQ (i : Nat) : Nat := 0x400008C0 + 0x4 * i
def SYS_PART_SEQ_SEQ (i : Nat) : Fld := ⟨SYS_PART_SEQ i, 31, 0⟩
/-- DBG_CTL (R206). -/
def DBG_CTL : Nat := 0x400E0000
def DBG_CTL_TAP_OWN : Fld := ⟨DBG_CTL, 2, 2⟩
def DBG_CTL_HALTED : Fld := ⟨DBG_CTL, 1, 1⟩
def DBG_CTL_HALT : Fld := ⟨DBG_CTL, 0, 0⟩
/-- CFG_STAT (R271). -/
def CFG_STAT : Nat := 0x40010000
def CFG_STAT_LAST_REASON : Fld := ⟨CFG_STAT, 31, 24⟩
def CFG_STAT_PRI_REASON : Fld := ⟨CFG_STAT, 23, 16⟩
def CFG_STAT_STATE : Fld := ⟨CFG_STAT, 15, 12⟩
def CFG_STAT_SOURCE : Fld := ⟨CFG_STAT, 11, 10⟩
def CFG_STAT_IMAGE : Fld := ⟨CFG_STAT, 9, 8⟩
def CFG_STAT_ATTEMPT : Fld := ⟨CFG_STAT, 7, 7⟩
def CFG_STAT_HBM_OK : Fld := ⟨CFG_STAT, 6, 6⟩
def CFG_STAT_IDENT_OK : Fld := ⟨CFG_STAT, 5, 5⟩
def CFG_STAT_LOADED : Fld := ⟨CFG_STAT, 4, 4⟩
def CFG_STAT_RELEASED : Fld := ⟨CFG_STAT, 3, 3⟩
def CFG_STAT_LOCK : Fld := ⟨CFG_STAT, 2, 2⟩
def CFG_STAT_IGN_STREAM : Fld := ⟨CFG_STAT, 1, 1⟩
def CFG_STAT_ERR : Fld := ⟨CFG_STAT, 0, 0⟩
/-- CFG_CTL (R272). -/
def CFG_CTL : Nat := 0x40010004
def CFG_CTL_KEY : Fld := ⟨CFG_CTL, 15, 8⟩
def CFG_CTL_RESTART : Fld := ⟨CFG_CTL, 1, 1⟩
def CFG_CTL_LOCK : Fld := ⟨CFG_CTL, 0, 0⟩
/-- CFG_REL_GAP (R273). -/
def CFG_REL_GAP : Nat := 0x40010008
def CFG_REL_GAP_GAP : Fld := ⟨CFG_REL_GAP, 7, 0⟩
/-- CFG_SHELL (R274). -/
def CFG_SHELL : Nat := 0x4001000C
def CFG_SHELL_HI : Fld := ⟨CFG_SHELL, 31, 16⟩
def CFG_SHELL_LO : Fld := ⟨CFG_SHELL, 15, 0⟩
/-- CFG_PRI_ADDR (R275). -/
def CFG_PRI_ADDR : Nat := 0x40010010
def CFG_PRI_ADDR_ADDR : Fld := ⟨CFG_PRI_ADDR, 31, 0⟩
/-- CFG_FLASH (R276). -/
def CFG_FLASH : Nat := 0x40010014
def CFG_FLASH_SIZE : Fld := ⟨CFG_FLASH, 31, 16⟩
def CFG_FLASH_TBL_OK : Fld := ⟨CFG_FLASH, 8, 8⟩
def CFG_FLASH_OCTAL : Fld := ⟨CFG_FLASH, 7, 7⟩
def CFG_FLASH_RATE : Fld := ⟨CFG_FLASH, 2, 0⟩
/-- CFG_FAILS (R277). -/
def CFG_FAILS : Nat := 0x40010018
def CFG_FAILS_STOCK : Fld := ⟨CFG_FAILS, 15, 8⟩
def CFG_FAILS_PRIMARY : Fld := ⟨CFG_FAILS, 7, 0⟩
/-- CFG_PR_ISO_LO (R278). -/
def CFG_PR_ISO_LO : Nat := 0x40010020
def CFG_PR_ISO_LO_ISO : Fld := ⟨CFG_PR_ISO_LO, 31, 0⟩
/-- CFG_PR_ISO_HI (R278). -/
def CFG_PR_ISO_HI : Nat := 0x40010024
def CFG_PR_ISO_HI_ISO : Fld := ⟨CFG_PR_ISO_HI, 31, 0⟩
/-- CFG_SEC (R279). -/
def CFG_SEC : Nat := 0x40010030
def CFG_SEC_SEC : Fld := ⟨CFG_SEC, 31, 0⟩
/-- CFG_DIGEST (R280). -/
def CFG_DIGEST (i : Nat) : Nat := 0x40010040 + 0x4 * i
def CFG_DIGEST_DIGEST (i : Nat) : Fld := ⟨CFG_DIGEST i, 31, 0⟩
/-- FAB_INFO (R341). -/
def FAB_INFO : Nat := 0x61000000
def FAB_INFO_GEOM : Fld := ⟨FAB_INFO, 31, 16⟩
def FAB_INFO_BLOCKS : Fld := ⟨FAB_INFO, 15, 0⟩
/-- FAB_UREG_TMO (R342). -/
def FAB_UREG_TMO : Nat := 0x61000004
def FAB_UREG_TMO_CYCLES : Fld := ⟨FAB_UREG_TMO, 15, 0⟩
/-- FAB_UREG_ERR (R343). -/
def FAB_UREG_ERR : Nat := 0x61000008
def FAB_UREG_ERR_TMO : Fld := ⟨FAB_UREG_ERR, 0, 0⟩
def FAB_UREG_ERR_OVF : Fld := ⟨FAB_UREG_ERR, 16, 16⟩
/-- FAB_PLL_LOSS (R344). -/
def FAB_PLL_LOSS : Nat := 0x6100000C
def FAB_PLL_LOSS_OVF : Fld := ⟨FAB_PLL_LOSS, 23, 16⟩
def FAB_PLL_LOSS_LOSS : Fld := ⟨FAB_PLL_LOSS, 7, 0⟩
/-- FAB_IO_VMIS (R345). -/
def FAB_IO_VMIS : Nat := 0x61000010
def FAB_IO_VMIS_BANK : Fld := ⟨FAB_IO_VMIS, 12, 0⟩
/-- MBX_DB_CMD (R398). -/
def MBX_DB_CMD (i : Nat) : Nat := 0x40020000 + 0x100 * i
def MBX_DB_CMD_TAIL (i : Nat) : Fld := ⟨MBX_DB_CMD i, 15, 0⟩
/-- MBX_DB_CPL (R398). -/
def MBX_DB_CPL (i : Nat) : Nat := 0x40020004 + 0x100 * i
def MBX_DB_CPL_HEAD (i : Nat) : Fld := ⟨MBX_DB_CPL i, 15, 0⟩
/-- MBX_CMD_HEAD (R398). -/
def MBX_CMD_HEAD (i : Nat) : Nat := 0x40020008 + 0x100 * i
def MBX_CMD_HEAD_HEAD (i : Nat) : Fld := ⟨MBX_CMD_HEAD i, 15, 0⟩
/-- MBX_CPL_TAIL (R398). -/
def MBX_CPL_TAIL (i : Nat) : Nat := 0x4002000C + 0x100 * i
def MBX_CPL_TAIL_TAIL (i : Nat) : Fld := ⟨MBX_CPL_TAIL i, 15, 0⟩
/-- MBX_STATUS (R398). -/
def MBX_STATUS (i : Nat) : Nat := 0x40020010 + 0x100 * i
def MBX_STATUS_READY (i : Nat) : Fld := ⟨MBX_STATUS i, 0, 0⟩
def MBX_STATUS_ROM (i : Nat) : Fld := ⟨MBX_STATUS i, 1, 1⟩
def MBX_STATUS_INFLIGHT (i : Nat) : Fld := ⟨MBX_STATUS i, 11, 8⟩
def MBX_STATUS_EVTQ (i : Nat) : Fld := ⟨MBX_STATUS i, 21, 16⟩
/-- MBX_CTL (R398). -/
def MBX_CTL (i : Nat) : Nat := 0x40020014 + 0x100 * i
def MBX_CTL_IRQ_EN (i : Nat) : Fld := ⟨MBX_CTL i, 0, 0⟩
def MBX_CTL_IRQ_FN (i : Nat) : Fld := ⟨MBX_CTL i, 1, 1⟩
def MBX_CTL_COAL_N (i : Nat) : Fld := ⟨MBX_CTL i, 13, 8⟩
def MBX_CTL_COAL_US (i : Nat) : Fld := ⟨MBX_CTL i, 23, 16⟩
/-- MBX_ERR (R398). -/
def MBX_ERR (i : Nat) : Nat := 0x40020018 + 0x100 * i
def MBX_ERR_DB_RANGE (i : Nat) : Fld := ⟨MBX_ERR i, 0, 0⟩
def MBX_ERR_DB_BACK (i : Nat) : Fld := ⟨MBX_ERR i, 1, 1⟩
def MBX_ERR_LATE (i : Nat) : Fld := ⟨MBX_ERR i, 2, 2⟩
def MBX_ERR_EVT_LOST (i : Nat) : Fld := ⟨MBX_ERR i, 3, 3⟩
def MBX_ERR_TMO (i : Nat) : Fld := ⟨MBX_ERR i, 4, 4⟩
def MBX_ERR_OVF (i : Nat) : Fld := ⟨MBX_ERR i, 20, 16⟩
/-- MBX_CMD_TMO (R398). -/
def MBX_CMD_TMO (i : Nat) : Nat := 0x4002001C + 0x100 * i
def MBX_CMD_TMO_MS (i : Nat) : Fld := ⟨MBX_CMD_TMO i, 15, 0⟩
/-- MBX_NEXT (R399). -/
def MBX_NEXT : Nat := 0x40022000
def MBX_NEXT_VALID : Fld := ⟨MBX_NEXT, 31, 31⟩
def MBX_NEXT_MB : Fld := ⟨MBX_NEXT, 20, 16⟩
def MBX_NEXT_HANDLE : Fld := ⟨MBX_NEXT, 10, 8⟩
def MBX_NEXT_SLOT : Fld := ⟨MBX_NEXT, 5, 0⟩
/-- MBX_GCTL (R399). -/
def MBX_GCTL : Nat := 0x40022004
def MBX_GCTL_READY : Fld := ⟨MBX_GCTL, 0, 0⟩
/-- MBX_VERSION (R399). -/
def MBX_VERSION : Nat := 0x40022008
def MBX_VERSION_PROTO : Fld := ⟨MBX_VERSION, 7, 0⟩
/-- MBX_POST_SD (R399). -/
def MBX_POST_SD : Nat := 0x40022010
def MBX_POST_SD_DETAIL : Fld := ⟨MBX_POST_SD, 31, 16⟩
def MBX_POST_SD_STATUS : Fld := ⟨MBX_POST_SD, 14, 0⟩
/-- MBX_POST_RES_LO (R399). -/
def MBX_POST_RES_LO : Nat := 0x40022014
def MBX_POST_RES_LO_RES : Fld := ⟨MBX_POST_RES_LO, 31, 0⟩
/-- MBX_POST_RES_HI (R399). -/
def MBX_POST_RES_HI : Nat := 0x40022018
def MBX_POST_RES_HI_RES : Fld := ⟨MBX_POST_RES_HI, 31, 0⟩
/-- MBX_POST_GO (R399). -/
def MBX_POST_GO : Nat := 0x4002201C
def MBX_POST_GO_EVENT : Fld := ⟨MBX_POST_GO, 31, 31⟩
def MBX_POST_GO_MB : Fld := ⟨MBX_POST_GO, 20, 16⟩
def MBX_POST_GO_HANDLE : Fld := ⟨MBX_POST_GO, 10, 8⟩
/-- MBX_ENTRY (R399). -/
def MBX_ENTRY (i : Nat) : Nat := 0x40022040 + 0x4 * i
def MBX_ENTRY_DATA (i : Nat) : Fld := ⟨MBX_ENTRY i, 31, 0⟩
/-- PACE_BW (R687). -/
def PACE_BW (i : Nat) : Nat := 0x400D0400 + 0x4 * i
def PACE_BW_REMOTE (i : Nat) : Fld := ⟨PACE_BW i, 28, 24⟩
def PACE_BW_WRITE (i : Nat) : Fld := ⟨PACE_BW i, 20, 16⟩
def PACE_BW_READ (i : Nat) : Fld := ⟨PACE_BW i, 12, 8⟩
def PACE_BW_MODE (i : Nat) : Fld := ⟨PACE_BW i, 0, 0⟩
/-- PACE_CFG (R855). -/
def PACE_CFG (i : Nat) : Nat := 0x400D0000 + 0x10 * i
def PACE_CFG_FLOOR (i : Nat) : Fld := ⟨PACE_CFG i, 4, 0⟩
def PACE_CFG_CEIL (i : Nat) : Fld := ⟨PACE_CFG i, 12, 8⟩
def PACE_CFG_WIN_US (i : Nat) : Fld := ⟨PACE_CFG i, 21, 16⟩
/-- PACE_BAND (R855). -/
def PACE_BAND (i : Nat) : Nat := 0x400D0004 + 0x10 * i
def PACE_BAND_LO (i : Nat) : Fld := ⟨PACE_BAND i, 7, 0⟩
def PACE_BAND_HI (i : Nat) : Fld := ⟨PACE_BAND i, 15, 8⟩
/-- PACE_STAT (R855). -/
def PACE_STAT (i : Nat) : Nat := 0x400D0008 + 0x10 * i
def PACE_STAT_STEP (i : Nat) : Fld := ⟨PACE_STAT i, 4, 0⟩
def PACE_STAT_CEIL_EFF (i : Nat) : Fld := ⟨PACE_STAT i, 12, 8⟩
def PACE_STAT_F (i : Nat) : Fld := ⟨PACE_STAT i, 23, 16⟩
def PACE_STAT_LAST (i : Nat) : Fld := ⟨PACE_STAT i, 25, 24⟩
def PACE_STAT_THM (i : Nat) : Fld := ⟨PACE_STAT i, 26, 26⟩
/-- PACE_CNT (R855). -/
def PACE_CNT (i : Nat) : Nat := 0x400D000C + 0x10 * i
def PACE_CNT_UP (i : Nat) : Fld := ⟨PACE_CNT i, 15, 0⟩
def PACE_CNT_DOWN (i : Nat) : Fld := ⟨PACE_CNT i, 31, 16⟩
/-- NOC_FOLD_REQ (R731). -/
def NOC_FOLD_REQ : Nat := 0x40030000
def NOC_FOLD_REQ_INDEX : Fld := ⟨NOC_FOLD_REQ, 5, 0⟩
def NOC_FOLD_REQ_KIND : Fld := ⟨NOC_FOLD_REQ, 8, 8⟩
def NOC_FOLD_REQ_PGATE : Fld := ⟨NOC_FOLD_REQ, 14, 14⟩
def NOC_FOLD_REQ_OP : Fld := ⟨NOC_FOLD_REQ, 15, 15⟩
/-- NOC_FOLD_STAT (R731). -/
def NOC_FOLD_STAT : Nat := 0x40030004
def NOC_FOLD_STAT_P : Fld := ⟨NOC_FOLD_STAT, 31, 0⟩
/-- NOC_FOLD_FSTAT (R731). -/
def NOC_FOLD_FSTAT (i : Nat) : Nat := 0x40030008 + 0x4 * i
def NOC_FOLD_FSTAT_F (i : Nat) : Fld := ⟨NOC_FOLD_FSTAT i, 31, 0⟩
/-- NOC_FOLD_FORCED (R731). -/
def NOC_FOLD_FORCED : Nat := 0x40030018
def NOC_FOLD_FORCED_PART : Fld := ⟨NOC_FOLD_FORCED, 15, 0⟩
def NOC_FOLD_FORCED_PART_OVF : Fld := ⟨NOC_FOLD_FORCED, 31, 16⟩
/-- NOC_FOLD_FFORCED (R731). -/
def NOC_FOLD_FFORCED : Nat := 0x4003001C
def NOC_FOLD_FFORCED_PORTG : Fld := ⟨NOC_FOLD_FFORCED, 15, 0⟩
def NOC_FOLD_FFORCED_PORTG_OVF : Fld := ⟨NOC_FOLD_FFORCED, 31, 16⟩
/-- NOC_FOLD_TMO (R731). -/
def NOC_FOLD_TMO : Nat := 0x40030020
def NOC_FOLD_TMO_US : Fld := ⟨NOC_FOLD_TMO, 15, 0⟩
/-- NOC_RSP_TMO (R731). -/
def NOC_RSP_TMO : Nat := 0x40030024
def NOC_RSP_TMO_US : Fld := ⟨NOC_RSP_TMO, 15, 0⟩
/-- NOC_ARB (R731). -/
def NOC_ARB : Nat := 0x40030028
def NOC_ARB_W_RSP : Fld := ⟨NOC_ARB, 3, 0⟩
def NOC_ARB_W_REQ : Fld := ⟨NOC_ARB, 11, 8⟩
def NOC_ARB_W_BULK : Fld := ⟨NOC_ARB, 19, 16⟩
/-- NOC_EPRIO (R731). -/
def NOC_EPRIO : Nat := 0x4003002C
def NOC_EPRIO_N : Fld := ⟨NOC_EPRIO, 29, 0⟩
/-- NOC_SEAT_GW (R731). -/
def NOC_SEAT_GW : Nat := 0x40030030
def NOC_SEAT_GW_GW : Fld := ⟨NOC_SEAT_GW, 15, 0⟩
def NOC_SEAT_GW_SEAT_EN : Fld := ⟨NOC_SEAT_GW, 23, 16⟩
/-- NOC_PRIO (R731). -/
def NOC_PRIO (i : Nat) : Nat := 0x40030040 + 0x4 * i
def NOC_PRIO_PRIO (i : Nat) : Fld := ⟨NOC_PRIO i, 1, 0⟩
/-- NOC_ISO_SLICE (R732). -/
def NOC_ISO_SLICE (i : Nat) : Nat := 0x40030100 + 0x10 * i
def NOC_ISO_SLICE_SLICE_BASE (i : Nat) : Fld := ⟨NOC_ISO_SLICE i, 15, 0⟩
def NOC_ISO_SLICE_SLICE_LEN (i : Nat) : Fld := ⟨NOC_ISO_SLICE i, 31, 16⟩
/-- NOC_ISO_PERM (R732). -/
def NOC_ISO_PERM (i : Nat) : Nat := 0x40030104 + 0x10 * i
def NOC_ISO_PERM_PEER (i : Nat) : Fld := ⟨NOC_ISO_PERM i, 15, 0⟩
def NOC_ISO_PERM_KITTY (i : Nat) : Fld := ⟨NOC_ISO_PERM i, 16, 16⟩
def NOC_ISO_PERM_DEVREG (i : Nat) : Fld := ⟨NOC_ISO_PERM i, 17, 17⟩
def NOC_ISO_PERM_REMOTE (i : Nat) : Fld := ⟨NOC_ISO_PERM i, 18, 18⟩
/-- NOC_ISO_KITTY (R732). -/
def NOC_ISO_KITTY (i : Nat) : Nat := 0x40030108 + 0x10 * i
def NOC_ISO_KITTY_KBASE (i : Nat) : Fld := ⟨NOC_ISO_KITTY i, 10, 0⟩
def NOC_ISO_KITTY_KLEN (i : Nat) : Fld := ⟨NOC_ISO_KITTY i, 26, 16⟩
/-- NOC_ISO_CNT (R732). -/
def NOC_ISO_CNT (i : Nat) : Nat := 0x4003010C + 0x10 * i
def NOC_ISO_CNT_CNT (i : Nat) : Fld := ⟨NOC_ISO_CNT i, 15, 0⟩
/-- MEM_STAT (R791). -/
def MEM_STAT (i : Nat) : Nat := 0x40040000 + 0x10000 * i
def MEM_STAT_STATE (i : Nat) : Fld := ⟨MEM_STAT i, 2, 0⟩
def MEM_STAT_TRAINED (i : Nat) : Fld := ⟨MEM_STAT i, 3, 3⟩
def MEM_STAT_DERATED (i : Nat) : Fld := ⟨MEM_STAT i, 4, 4⟩
def MEM_STAT_TEMP_STALE (i : Nat) : Fld := ⟨MEM_STAT i, 5, 5⟩
def MEM_STAT_STEP (i : Nat) : Fld := ⟨MEM_STAT i, 11, 8⟩
def MEM_STAT_ATTEMPTS (i : Nat) : Fld := ⟨MEM_STAT i, 15, 12⟩
/-- MEM_CTL (R791). -/
def MEM_CTL (i : Nat) : Nat := 0x40040004 + 0x10000 * i
def MEM_CTL_RETRAIN (i : Nat) : Fld := ⟨MEM_CTL i, 0, 0⟩
def MEM_CTL_PD_IDLE (i : Nat) : Fld := ⟨MEM_CTL i, 15, 8⟩
/-- MEM_TEMP (R791). -/
def MEM_TEMP (i : Nat) : Nat := 0x40040008 + 0x10000 * i
def MEM_TEMP_TEMP (i : Nat) : Fld := ⟨MEM_TEMP i, 15, 0⟩
/-- MEM_REF_CFG (R791). -/
def MEM_REF_CFG (i : Nat) : Nat := 0x4004000C + 0x10000 * i
def MEM_REF_CFG_MODE (i : Nat) : Fld := ⟨MEM_REF_CFG i, 0, 0⟩
def MEM_REF_CFG_POSTPONE (i : Nat) : Fld := ⟨MEM_REF_CFG i, 11, 8⟩
/-- MEM_SCHED (R791). -/
def MEM_SCHED (i : Nat) : Nat := 0x40040010 + 0x10000 * i
def MEM_SCHED_AGE_CAP (i : Nat) : Fld := ⟨MEM_SCHED i, 11, 0⟩
def MEM_SCHED_WR_HI (i : Nat) : Fld := ⟨MEM_SCHED i, 22, 16⟩
def MEM_SCHED_WR_LO (i : Nat) : Fld := ⟨MEM_SCHED i, 29, 24⟩
/-- MEM_RH_THRESH (R791). -/
def MEM_RH_THRESH (i : Nat) : Nat := 0x40040014 + 0x10000 * i
def MEM_RH_THRESH_THRESH (i : Nat) : Fld := ⟨MEM_RH_THRESH i, 15, 0⟩
/-- MEM_RH_CFG (R791). -/
def MEM_RH_CFG (i : Nat) : Nat := 0x40040018 + 0x10000 * i
def MEM_RH_CFG_GAP (i : Nat) : Fld := ⟨MEM_RH_CFG i, 9, 0⟩
def MEM_RH_CFG_EN (i : Nat) : Fld := ⟨MEM_RH_CFG i, 16, 16⟩
/-- MEM_ERR_MODE (R791). -/
def MEM_ERR_MODE (i : Nat) : Nat := 0x4004001C + 0x10000 * i
def MEM_ERR_MODE_MODE (i : Nat) : Fld := ⟨MEM_ERR_MODE i, 31, 0⟩
/-- MEM_FROZEN (R791). -/
def MEM_FROZEN (i : Nat) : Nat := 0x40040020 + 0x10000 * i
def MEM_FROZEN_FROZEN (i : Nat) : Fld := ⟨MEM_FROZEN i, 31, 0⟩
/-- MEM_ECC_CFG (R791). -/
def MEM_ECC_CFG (i : Nat) : Nat := 0x40040024 + 0x10000 * i
def MEM_ECC_CFG_CE_LOG (i : Nat) : Fld := ⟨MEM_ECC_CFG i, 0, 0⟩
def MEM_ECC_CFG_WB (i : Nat) : Fld := ⟨MEM_ECC_CFG i, 1, 1⟩
/-- MEM_REPAIR_CFG (R791). -/
def MEM_REPAIR_CFG (i : Nat) : Nat := 0x40040028 + 0x10000 * i
def MEM_REPAIR_CFG_AUTO (i : Nat) : Fld := ⟨MEM_REPAIR_CFG i, 0, 0⟩
def MEM_REPAIR_CFG_HARD (i : Nat) : Fld := ⟨MEM_REPAIR_CFG i, 1, 1⟩
def MEM_REPAIR_CFG_REQ (i : Nat) : Fld := ⟨MEM_REPAIR_CFG i, 2, 2⟩
/-- MEM_LANE_FAIL (R791). -/
def MEM_LANE_FAIL (i : Nat) : Nat := 0x4004002C + 0x10000 * i
def MEM_LANE_FAIL_PC (i : Nat) : Fld := ⟨MEM_LANE_FAIL i, 4, 0⟩
def MEM_LANE_FAIL_LANE (i : Nat) : Fld := ⟨MEM_LANE_FAIL i, 10, 5⟩
def MEM_LANE_FAIL_VALID (i : Nat) : Fld := ⟨MEM_LANE_FAIL i, 11, 11⟩
/-- MEM_PC_FLAGS (R792). -/
def MEM_PC_FLAGS (i : Nat) (j : Nat) : Nat := 0x40041000 + 0x10000 * i + 0x40 * j
def MEM_PC_FLAGS_CE (i : Nat) (j : Nat) : Fld := ⟨MEM_PC_FLAGS i j, 0, 0⟩
def MEM_PC_FLAGS_UE (i : Nat) (j : Nat) : Fld := ⟨MEM_PC_FLAGS i j, 1, 1⟩
def MEM_PC_FLAGS_RH (i : Nat) (j : Nat) : Fld := ⟨MEM_PC_FLAGS i j, 2, 2⟩
def MEM_PC_FLAGS_THR_FULL (i : Nat) (j : Nat) : Fld := ⟨MEM_PC_FLAGS i j, 3, 3⟩
def MEM_PC_FLAGS_OVF (i : Nat) (j : Nat) : Fld := ⟨MEM_PC_FLAGS i j, 19, 16⟩
/-- MEM_PC_CE (R792). -/
def MEM_PC_CE (i : Nat) (j : Nat) : Nat := 0x40041004 + 0x10000 * i + 0x40 * j
def MEM_PC_CE_COUNT (i : Nat) (j : Nat) : Fld := ⟨MEM_PC_CE i j, 31, 0⟩
/-- MEM_PC_UE (R792). -/
def MEM_PC_UE (i : Nat) (j : Nat) : Nat := 0x40041008 + 0x10000 * i + 0x40 * j
def MEM_PC_UE_COUNT (i : Nat) (j : Nat) : Fld := ⟨MEM_PC_UE i j, 31, 0⟩
/-- MEM_PC_POISON (R792). -/
def MEM_PC_POISON (i : Nat) (j : Nat) : Nat := 0x4004100C + 0x10000 * i + 0x40 * j
def MEM_PC_POISON_COUNT (i : Nat) (j : Nat) : Fld := ⟨MEM_PC_POISON i j, 31, 0⟩
/-- MEM_PC_RHCNT (R792). -/
def MEM_PC_RHCNT (i : Nat) (j : Nat) : Nat := 0x40041010 + 0x10000 * i + 0x40 * j
def MEM_PC_RHCNT_COUNT (i : Nat) (j : Nat) : Fld := ⟨MEM_PC_RHCNT i j, 31, 0⟩
/-- MEM_PC_RHLAST (R792). -/
def MEM_PC_RHLAST (i : Nat) (j : Nat) : Nat := 0x40041014 + 0x10000 * i + 0x40 * j
def MEM_PC_RHLAST_ROW (i : Nat) (j : Nat) : Fld := ⟨MEM_PC_RHLAST i j, 13, 0⟩
def MEM_PC_RHLAST_BANK (i : Nat) (j : Nat) : Fld := ⟨MEM_PC_RHLAST i j, 18, 14⟩
def MEM_PC_RHLAST_NODE (i : Nat) (j : Nat) : Fld := ⟨MEM_PC_RHLAST i j, 28, 19⟩
def MEM_PC_RHLAST_SEAT (i : Nat) (j : Nat) : Fld := ⟨MEM_PC_RHLAST i j, 31, 29⟩
/-- MEM_PC_THR (R792). -/
def MEM_PC_THR (i : Nat) (j : Nat) : Nat := 0x40041018 + 0x10000 * i + 0x40 * j
def MEM_PC_THR_ACTIVE (i : Nat) (j : Nat) : Fld := ⟨MEM_PC_THR i j, 3, 0⟩
/-- DIAG_CAUSE (R793). -/
def DIAG_CAUSE (i : Nat) (j : Nat) : Nat := 0x40043000 + 0x10000 * i + 0x100 * j
def DIAG_CAUSE_CAUSE (i : Nat) (j : Nat) : Fld := ⟨DIAG_CAUSE i j, 1, 0⟩
/-- DIAG_SYND (R793). -/
def DIAG_SYND (i : Nat) (j : Nat) : Nat := 0x40043004 + 0x10000 * i + 0x100 * j
def DIAG_SYND_SYND (i : Nat) (j : Nat) : Fld := ⟨DIAG_SYND i j, 31, 0⟩
/-- DIAG_ADDR (R793). -/
def DIAG_ADDR (i : Nat) (j : Nat) : Nat := 0x40043008 + 0x10000 * i + 0x100 * j
def DIAG_ADDR_L (i : Nat) (j : Nat) : Fld := ⟨DIAG_ADDR i j, 28, 0⟩
/-- DIAG_REQ (R793). -/
def DIAG_REQ (i : Nat) (j : Nat) : Nat := 0x4004300C + 0x10000 * i + 0x100 * j
def DIAG_REQ_NODE (i : Nat) (j : Nat) : Fld := ⟨DIAG_REQ i j, 9, 0⟩
def DIAG_REQ_SEAT (i : Nat) (j : Nat) : Fld := ⟨DIAG_REQ i j, 12, 10⟩
/-- DIAG_TIME (R793). -/
def DIAG_TIME (i : Nat) (j : Nat) : Nat := 0x40043010 + 0x10000 * i + 0x100 * j
def DIAG_TIME_TIME (i : Nat) (j : Nat) : Fld := ⟨DIAG_TIME i j, 31, 0⟩
/-- DIAG_OPEN (R793). -/
def DIAG_OPEN (i : Nat) (j : Nat) : Nat := 0x40043014 + 0x10000 * i + 0x100 * j
def DIAG_OPEN_OPEN (i : Nat) (j : Nat) : Fld := ⟨DIAG_OPEN i j, 31, 0⟩
/-- DIAG_QCNT (R793). -/
def DIAG_QCNT (i : Nat) (j : Nat) : Nat := 0x40043018 + 0x10000 * i + 0x100 * j
def DIAG_QCNT_RDQ (i : Nat) (j : Nat) : Fld := ⟨DIAG_QCNT i j, 6, 0⟩
def DIAG_QCNT_WRQ (i : Nat) (j : Nat) : Fld := ⟨DIAG_QCNT i j, 14, 8⟩
def DIAG_QCNT_HELD (i : Nat) (j : Nat) : Fld := ⟨DIAG_QCNT i j, 31, 16⟩
/-- DIAG_Q (R793). -/
def DIAG_Q (i : Nat) (j : Nat) (k : Nat) : Nat := 0x40043040 + 0x10000 * i + 0x100 * j + 0x4 * k
def DIAG_Q_WORD (i : Nat) (j : Nat) (k : Nat) : Fld := ⟨DIAG_Q i j k, 31, 0⟩
/-- SNS_CH_EN (R906). -/
def SNS_CH_EN : Nat := 0x40060000
def SNS_CH_EN_EN : Fld := ⟨SNS_CH_EN, 31, 0⟩
/-- SNS_FLAGS (R906). -/
def SNS_FLAGS : Nat := 0x40060004
def SNS_FLAGS_CLIP : Fld := ⟨SNS_FLAGS, 3, 0⟩
def SNS_FLAGS_RCHG : Fld := ⟨SNS_FLAGS, 7, 4⟩
def SNS_FLAGS_RATE : Fld := ⟨SNS_FLAGS, 11, 8⟩
def SNS_FLAGS_OVF : Fld := ⟨SNS_FLAGS, 27, 16⟩
/-- SNS_FIR_CFG (R906). -/
def SNS_FIR_CFG : Nat := 0x40060008
def SNS_FIR_CFG_NTAP : Fld := ⟨SNS_FIR_CFG, 6, 0⟩
/-- SNS_BMRATE (R906). -/
def SNS_BMRATE : Nat := 0x4006000C
def SNS_BMRATE_BMRATE : Fld := ⟨SNS_BMRATE, 7, 0⟩
def SNS_BMRATE_OVF : Fld := ⟨SNS_BMRATE, 15, 8⟩
/-- SNS_GRP_CFG (R906). -/
def SNS_GRP_CFG (i : Nat) : Nat := 0x40060010 + 0x4 * i
def SNS_GRP_CFG_DIV (i : Nat) : Fld := ⟨SNS_GRP_CFG i, 4, 0⟩
def SNS_GRP_CFG_R_M1 (i : Nat) : Fld := ⟨SNS_GRP_CFG i, 15, 8⟩
def SNS_GRP_CFG_H (i : Nat) : Fld := ⟨SNS_GRP_CFG i, 17, 16⟩
def SNS_GRP_CFG_FIRDEC (i : Nat) : Fld := ⟨SNS_GRP_CFG i, 18, 18⟩
def SNS_GRP_CFG_FMT (i : Nat) : Fld := ⟨SNS_GRP_CFG i, 19, 19⟩
def SNS_GRP_CFG_DLY (i : Nat) : Fld := ⟨SNS_GRP_CFG i, 22, 20⟩
def SNS_GRP_CFG_AUTO (i : Nat) : Fld := ⟨SNS_GRP_CFG i, 24, 24⟩
def SNS_GRP_CFG_STEP (i : Nat) : Fld := ⟨SNS_GRP_CFG i, 26, 25⟩
def SNS_GRP_CFG_KEEP (i : Nat) : Fld := ⟨SNS_GRP_CFG i, 28, 27⟩
/-- SNS_GRP_RNG (R906). -/
def SNS_GRP_RNG (i : Nat) : Nat := 0x40060020 + 0x4 * i
def SNS_GRP_RNG_HI (i : Nat) : Fld := ⟨SNS_GRP_RNG i, 7, 0⟩
def SNS_GRP_RNG_LO (i : Nat) : Fld := ⟨SNS_GRP_RNG i, 15, 8⟩
def SNS_GRP_RNG_HOLD (i : Nat) : Fld := ⟨SNS_GRP_RNG i, 31, 16⟩
/-- SNS_GRP_STAT (R906). -/
def SNS_GRP_STAT (i : Nat) : Nat := 0x40060030 + 0x4 * i
def SNS_GRP_STAT_STEP (i : Nat) : Fld := ⟨SNS_GRP_STAT i, 1, 0⟩
def SNS_GRP_STAT_TRANS (i : Nat) : Fld := ⟨SNS_GRP_STAT i, 2, 2⟩
def SNS_GRP_STAT_W (i : Nat) : Fld := ⟨SNS_GRP_STAT i, 14, 8⟩
/-- SNS_FIR0 (R906). -/
def SNS_FIR0 : Nat := 0x40060080
def SNS_FIR0_C : Fld := ⟨SNS_FIR0, 23, 0⟩
/-- SNS_FIR (R906). -/
def SNS_FIR (i : Nat) : Nat := 0x40060084 + 0x4 * i
def SNS_FIR_C (i : Nat) : Fld := ⟨SNS_FIR i, 23, 0⟩
/-- SNS_GAIN (R906). -/
def SNS_GAIN (i : Nat) : Nat := 0x40060100 + 0x4 * i
def SNS_GAIN_G (i : Nat) : Fld := ⟨SNS_GAIN i, 23, 0⟩
/-- SNS_FRAC (R906). -/
def SNS_FRAC (i : Nat) (j : Nat) : Nat := 0x40060300 + 0x20 * i + 0x4 * j
def SNS_FRAC_F (i : Nat) (j : Nat) : Fld := ⟨SNS_FRAC i j, 23, 0⟩
/-- SNS_BM_MASK (R906). -/
def SNS_BM_MASK (i : Nat) : Nat := 0x40060800 + 0x4 * i
def SNS_BM_MASK_MASK (i : Nat) : Fld := ⟨SNS_BM_MASK i, 31, 0⟩
/-- SNS_BM_DLY (R906). -/
def SNS_BM_DLY (i : Nat) : Nat := 0x40061000 + 0x8 * i
def SNS_BM_DLY_DLY (i : Nat) : Fld := ⟨SNS_BM_DLY i, 11, 0⟩
def SNS_BM_DLY_PH (i : Nat) : Fld := ⟨SNS_BM_DLY i, 19, 16⟩
/-- SNS_BM_W (R906). -/
def SNS_BM_W (i : Nat) : Nat := 0x40061004 + 0x8 * i
def SNS_BM_W_W (i : Nat) : Fld := ⟨SNS_BM_W i, 31, 0⟩
/-- SNS_CAP_BASE_LO (R906). -/
def SNS_CAP_BASE_LO (i : Nat) : Nat := 0x40062000 + 0x20 * i
def SNS_CAP_BASE_LO_BASE (i : Nat) : Fld := ⟨SNS_CAP_BASE_LO i, 31, 0⟩
/-- SNS_CAP_BASE_HI (R906). -/
def SNS_CAP_BASE_HI (i : Nat) : Nat := 0x40062004 + 0x20 * i
def SNS_CAP_BASE_HI_BASE (i : Nat) : Fld := ⟨SNS_CAP_BASE_HI i, 15, 0⟩
/-- SNS_CAP_SIZE (R906). -/
def SNS_CAP_SIZE (i : Nat) : Nat := 0x40062008 + 0x20 * i
def SNS_CAP_SIZE_SIZE (i : Nat) : Fld := ⟨SNS_CAP_SIZE i, 31, 0⟩
/-- SNS_CAP_CTL (R906). -/
def SNS_CAP_CTL (i : Nat) : Nat := 0x4006200C + 0x20 * i
def SNS_CAP_CTL_TRIG (i : Nat) : Fld := ⟨SNS_CAP_CTL i, 7, 0⟩
def SNS_CAP_CTL_POLICY (i : Nat) : Fld := ⟨SNS_CAP_CTL i, 9, 8⟩
/-- SNS_CAP_THR (R906). -/
def SNS_CAP_THR (i : Nat) : Nat := 0x40062010 + 0x20 * i
def SNS_CAP_THR_THR (i : Nat) : Fld := ⟨SNS_CAP_THR i, 31, 0⟩
/-- SNS_CAP_STAT (R906). -/
def SNS_CAP_STAT (i : Nat) : Nat := 0x40062014 + 0x20 * i
def SNS_CAP_STAT_ARMED (i : Nat) : Fld := ⟨SNS_CAP_STAT i, 0, 0⟩
def SNS_CAP_STAT_RUN (i : Nat) : Fld := ⟨SNS_CAP_STAT i, 1, 1⟩
def SNS_CAP_STAT_PEND (i : Nat) : Fld := ⟨SNS_CAP_STAT i, 2, 2⟩
def SNS_CAP_STAT_ERR (i : Nat) : Fld := ⟨SNS_CAP_STAT i, 8, 8⟩
def SNS_CAP_STAT_ERR_OVF (i : Nat) : Fld := ⟨SNS_CAP_STAT i, 24, 24⟩
/-- SNS_CAP_WIDX (R906). -/
def SNS_CAP_WIDX (i : Nat) : Nat := 0x40062018 + 0x20 * i
def SNS_CAP_WIDX_WIDX (i : Nat) : Fld := ⟨SNS_CAP_WIDX i, 31, 0⟩
/-- SNS_CAP_CNT (R906). -/
def SNS_CAP_CNT (i : Nat) : Nat := 0x4006201C + 0x20 * i
def SNS_CAP_CNT_OVR (i : Nat) : Fld := ⟨SNS_CAP_CNT i, 15, 0⟩
def SNS_CAP_CNT_IGN (i : Nat) : Fld := ⟨SNS_CAP_CNT i, 31, 16⟩
/-- SNS_TRIG_LO (R906). -/
def SNS_TRIG_LO : Nat := 0x40062800
def SNS_TRIG_LO_TRIG : Fld := ⟨SNS_TRIG_LO, 31, 0⟩
/-- SNS_TRIG_HI (R906). -/
def SNS_TRIG_HI : Nat := 0x40062804
def SNS_TRIG_HI_TRIG : Fld := ⟨SNS_TRIG_HI, 7, 0⟩
/-- SNS_WAKE_CFG (R906). -/
def SNS_WAKE_CFG : Nat := 0x40063000
def SNS_WAKE_CFG_SRC : Fld := ⟨SNS_WAKE_CFG, 2, 0⟩
def SNS_WAKE_CFG_RW_SEL : Fld := ⟨SNS_WAKE_CFG, 5, 4⟩
def SNS_WAKE_CFG_LOG2L : Fld := ⟨SNS_WAKE_CFG, 11, 8⟩
def SNS_WAKE_CFG_K_M1 : Fld := ⟨SNS_WAKE_CFG, 15, 12⟩
def SNS_WAKE_CFG_BANDEN : Fld := ⟨SNS_WAKE_CFG, 19, 16⟩
def SNS_WAKE_CFG_COMB : Fld := ⟨SNS_WAKE_CFG, 20, 20⟩
def SNS_WAKE_CFG_RNG : Fld := ⟨SNS_WAKE_CFG, 23, 22⟩
/-- SNS_WAKE_BQ (R906). -/
def SNS_WAKE_BQ (i : Nat) (j : Nat) : Nat := 0x40063010 + 0x20 * i + 0x4 * j
def SNS_WAKE_BQ_COEF (i : Nat) (j : Nat) : Fld := ⟨SNS_WAKE_BQ i j, 23, 0⟩
/-- SNS_WAKE_BAND (R906). -/
def SNS_WAKE_BAND (i : Nat) : Nat := 0x40063090 + 0x4 * i
def SNS_WAKE_BAND_MARGIN (i : Nat) : Fld := ⟨SNS_WAKE_BAND i, 4, 0⟩
def SNS_WAKE_BAND_RISE (i : Nat) : Fld := ⟨SNS_WAKE_BAND i, 13, 8⟩
/-- SNS_WAKE_FLOOR (R906). -/
def SNS_WAKE_FLOOR (i : Nat) : Nat := 0x400630A0 + 0x4 * i
def SNS_WAKE_FLOOR_FLOOR (i : Nat) : Fld := ⟨SNS_WAKE_FLOOR i, 15, 0⟩
/-- SNS_WAKE_E (R906). -/
def SNS_WAKE_E (i : Nat) : Nat := 0x400630B0 + 0x4 * i
def SNS_WAKE_E_E (i : Nat) : Fld := ⟨SNS_WAKE_E i, 15, 0⟩
/-- SNS_WAKE_STAT (R906). -/
def SNS_WAKE_STAT : Nat := 0x400630C0
def SNS_WAKE_STAT_RUN : Fld := ⟨SNS_WAKE_STAT, 0, 0⟩
def SNS_WAKE_STAT_BANDS : Fld := ⟨SNS_WAKE_STAT, 7, 4⟩
def SNS_WAKE_STAT_COUNT : Fld := ⟨SNS_WAKE_STAT, 12, 8⟩
/-- SNS_WAKE_BEAM (R906). -/
def SNS_WAKE_BEAM (i : Nat) : Nat := 0x400630D0 + 0x4 * i
def SNS_WAKE_BEAM_DLY (i : Nat) : Fld := ⟨SNS_WAKE_BEAM i, 5, 0⟩
def SNS_WAKE_BEAM_W (i : Nat) : Fld := ⟨SNS_WAKE_BEAM i, 31, 16⟩
/-- SIG_CORE_STAT (R950). -/
def SIG_CORE_STAT (i : Nat) : Nat := 0x40070000 + 0x100 * i
def SIG_CORE_STAT_STATE (i : Nat) : Fld := ⟨SIG_CORE_STAT i, 2, 0⟩
def SIG_CORE_STAT_PEND (i : Nat) : Fld := ⟨SIG_CORE_STAT i, 3, 3⟩
def SIG_CORE_STAT_XOUT (i : Nat) : Fld := ⟨SIG_CORE_STAT i, 11, 8⟩
def SIG_CORE_STAT_PC (i : Nat) : Fld := ⟨SIG_CORE_STAT i, 26, 16⟩
/-- SIG_CORE_TRIG (R950). -/
def SIG_CORE_TRIG (i : Nat) : Nat := 0x40070004 + 0x100 * i
def SIG_CORE_TRIG_TRIG (i : Nat) : Fld := ⟨SIG_CORE_TRIG i, 7, 0⟩
def SIG_CORE_TRIG_POLICY (i : Nat) : Fld := ⟨SIG_CORE_TRIG i, 9, 8⟩
/-- SIG_CORE_ENTRY (R950). -/
def SIG_CORE_ENTRY (i : Nat) : Nat := 0x40070008 + 0x100 * i
def SIG_CORE_ENTRY_ENTRY (i : Nat) : Fld := ⟨SIG_CORE_ENTRY i, 10, 0⟩
/-- SIG_CORE_FLAGS (R950). -/
def SIG_CORE_FLAGS (i : Nat) : Nat := 0x4007000C + 0x100 * i
def SIG_CORE_FLAGS_FLAGS (i : Nat) : Fld := ⟨SIG_CORE_FLAGS i, 31, 0⟩
/-- SIG_CORE_FAULT (R950). -/
def SIG_CORE_FAULT (i : Nat) : Nat := 0x40070010 + 0x100 * i
def SIG_CORE_FAULT_CODE (i : Nat) : Fld := ⟨SIG_CORE_FAULT i, 7, 0⟩
def SIG_CORE_FAULT_PC (i : Nat) : Fld := ⟨SIG_CORE_FAULT i, 18, 8⟩
/-- SIG_CORE_CNT (R950). -/
def SIG_CORE_CNT (i : Nat) : Nat := 0x40070014 + 0x100 * i
def SIG_CORE_CNT_OVR (i : Nat) : Fld := ⟨SIG_CORE_CNT i, 15, 0⟩
def SIG_CORE_CNT_IGN (i : Nat) : Fld := ⟨SIG_CORE_CNT i, 31, 16⟩
/-- SIG_CORE_RUNS (R950). -/
def SIG_CORE_RUNS (i : Nat) : Nat := 0x40070018 + 0x100 * i
def SIG_CORE_RUNS_RUNS (i : Nat) : Fld := ⟨SIG_CORE_RUNS i, 31, 0⟩
/-- SIG_CORE_CYC (R950). -/
def SIG_CORE_CYC (i : Nat) : Nat := 0x4007001C + 0x100 * i
def SIG_CORE_CYC_CYC (i : Nat) : Fld := ⟨SIG_CORE_CYC i, 31, 0⟩
/-- SIG_CORE_MADDR (R950). -/
def SIG_CORE_MADDR (i : Nat) : Nat := 0x40070020 + 0x100 * i
def SIG_CORE_MADDR_WORD (i : Nat) : Fld := ⟨SIG_CORE_MADDR i, 12, 0⟩
def SIG_CORE_MADDR_MEM (i : Nat) : Fld := ⟨SIG_CORE_MADDR i, 17, 16⟩
/-- SIG_CORE_MDATA (R950). -/
def SIG_CORE_MDATA (i : Nat) : Nat := 0x40070024 + 0x100 * i
def SIG_CORE_MDATA_DATA (i : Nat) : Fld := ⟨SIG_CORE_MDATA i, 31, 0⟩
/-- SIG_SOFT (R951). -/
def SIG_SOFT : Nat := 0x40071000
def SIG_SOFT_SOFT : Fld := ⟨SIG_SOFT, 15, 0⟩
/-- GFX_STAT (R1002). -/
def GFX_STAT : Nat := 0x40080000
def GFX_STAT_STATE : Fld := ⟨GFX_STAT, 2, 0⟩
def GFX_STAT_MODE : Fld := ⟨GFX_STAT, 3, 3⟩
def GFX_STAT_GTILES : Fld := ⟨GFX_STAT, 8, 4⟩
/-- GFX_FLAGS (R1002). -/
def GFX_FLAGS : Nat := 0x40080004
def GFX_FLAGS_BIN_LOST : Fld := ⟨GFX_FLAGS, 0, 0⟩
def GFX_FLAGS_BIN_LOST_OVF : Fld := ⟨GFX_FLAGS, 16, 16⟩
/-- GFX_BINMEM_BASE_LO (R1002). -/
def GFX_BINMEM_BASE_LO : Nat := 0x40080008
def GFX_BINMEM_BASE_LO_BASE : Fld := ⟨GFX_BINMEM_BASE_LO, 31, 0⟩
/-- GFX_BINMEM_BASE_HI (R1002). -/
def GFX_BINMEM_BASE_HI : Nat := 0x4008000C
def GFX_BINMEM_BASE_HI_BASE : Fld := ⟨GFX_BINMEM_BASE_HI, 15, 0⟩
/-- GFX_BINMEM_SIZE (R1002). -/
def GFX_BINMEM_SIZE : Nat := 0x40080010
def GFX_BINMEM_SIZE_SIZE : Fld := ⟨GFX_BINMEM_SIZE, 31, 0⟩
/-- GFX_AUTO_CLR (R1002). -/
def GFX_AUTO_CLR : Nat := 0x40080014
def GFX_AUTO_CLR_CLR : Fld := ⟨GFX_AUTO_CLR, 15, 0⟩
/-- GFX_CNT_FLUSH (R1002). -/
def GFX_CNT_FLUSH : Nat := 0x40080018
def GFX_CNT_FLUSH_COUNT : Fld := ⟨GFX_CNT_FLUSH, 31, 0⟩
/-- GFX_CNT_DISC (R1002). -/
def GFX_CNT_DISC : Nat := 0x4008001C
def GFX_CNT_DISC_COUNT : Fld := ⟨GFX_CNT_DISC, 31, 0⟩
/-- GFX_FBK_CNT (R1002). -/
def GFX_FBK_CNT : Nat := 0x40080020
def GFX_FBK_CNT_COUNT : Fld := ⟨GFX_FBK_CNT, 31, 0⟩
/-- GFX_FBK_DROP (R1002). -/
def GFX_FBK_DROP : Nat := 0x40080024
def GFX_FBK_DROP_COUNT : Fld := ⟨GFX_FBK_DROP, 31, 0⟩
/-- GFX_AUTO_HIST (R1002). -/
def GFX_AUTO_HIST (i : Nat) : Nat := 0x40080040 + 0x4 * i
def GFX_AUTO_HIST_DEMAND (i : Nat) : Fld := ⟨GFX_AUTO_HIST i, 30, 0⟩
def GFX_AUTO_HIST_VALID (i : Nat) : Fld := ⟨GFX_AUTO_HIST i, 31, 31⟩
/-- DPY_STAT (R1002). -/
def DPY_STAT : Nat := 0x40088000
def DPY_STAT_STATE : Fld := ⟨DPY_STAT, 2, 0⟩
def DPY_STAT_HPD : Fld := ⟨DPY_STAT, 3, 3⟩
def DPY_STAT_LANES : Fld := ⟨DPY_STAT, 6, 4⟩
def DPY_STAT_RATE : Fld := ⟨DPY_STAT, 9, 8⟩
/-- DPY_FLAGS (R1002). -/
def DPY_FLAGS : Nat := 0x40088004
def DPY_FLAGS_UNDERFLOW : Fld := ⟨DPY_FLAGS, 0, 0⟩
def DPY_FLAGS_HPD_IRQ : Fld := ⟨DPY_FLAGS, 1, 1⟩
def DPY_FLAGS_OVF : Fld := ⟨DPY_FLAGS, 17, 16⟩
/-- DPY_AUX_CTL (R1002). -/
def DPY_AUX_CTL : Nat := 0x40088010
def DPY_AUX_CTL_ADDR : Fld := ⟨DPY_AUX_CTL, 19, 0⟩
def DPY_AUX_CTL_LEN_M1 : Fld := ⟨DPY_AUX_CTL, 23, 20⟩
def DPY_AUX_CTL_I2C : Fld := ⟨DPY_AUX_CTL, 24, 24⟩
def DPY_AUX_CTL_MOT : Fld := ⟨DPY_AUX_CTL, 25, 25⟩
def DPY_AUX_CTL_WR : Fld := ⟨DPY_AUX_CTL, 26, 26⟩
def DPY_AUX_CTL_GO : Fld := ⟨DPY_AUX_CTL, 31, 31⟩
/-- DPY_AUX_STAT (R1002). -/
def DPY_AUX_STAT : Nat := 0x40088014
def DPY_AUX_STAT_REPLY : Fld := ⟨DPY_AUX_STAT, 1, 0⟩
/-- DPY_AUX_DATA (R1002). -/
def DPY_AUX_DATA (i : Nat) : Nat := 0x40088020 + 0x4 * i
def DPY_AUX_DATA_DATA (i : Nat) : Fld := ⟨DPY_AUX_DATA i, 31, 0⟩
/-- NET_P_CFG (R1051). -/
def NET_P_CFG (i : Nat) : Nat := 0x40090000 + 0x1000 * i
def NET_P_CFG_MODE (i : Nat) : Fld := ⟨NET_P_CFG i, 1, 0⟩
def NET_P_CFG_PAUSE_EN (i : Nat) : Fld := ⟨NET_P_CFG i, 2, 2⟩
def NET_P_CFG_AN_EN (i : Nat) : Fld := ⟨NET_P_CFG i, 3, 3⟩
def NET_P_CFG_PTP (i : Nat) : Fld := ⟨NET_P_CFG i, 5, 4⟩
def NET_P_CFG_MTU (i : Nat) : Fld := ⟨NET_P_CFG i, 29, 16⟩
/-- NET_P_STAT (R1051). -/
def NET_P_STAT (i : Nat) : Nat := 0x40090004 + 0x1000 * i
def NET_P_STAT_LINK (i : Nat) : Fld := ⟨NET_P_STAT i, 0, 0⟩
def NET_P_STAT_AN_DONE (i : Nat) : Fld := ⟨NET_P_STAT i, 1, 1⟩
/-- NET_P_FLAGS (R1051). -/
def NET_P_FLAGS (i : Nat) : Nat := 0x40090008 + 0x1000 * i
def NET_P_FLAGS_FLAGS (i : Nat) : Fld := ⟨NET_P_FLAGS i, 6, 0⟩
def NET_P_FLAGS_OVF (i : Nat) : Fld := ⟨NET_P_FLAGS i, 22, 16⟩
/-- NET_EXC_POLICY (R1051). -/
def NET_EXC_POLICY (i : Nat) : Nat := 0x4009000C + 0x1000 * i
def NET_EXC_POLICY_DEEP (i : Nat) : Fld := ⟨NET_EXC_POLICY i, 0, 0⟩
def NET_EXC_POLICY_LEN (i : Nat) : Fld := ⟨NET_EXC_POLICY i, 1, 1⟩
def NET_EXC_POLICY_QUEUE (i : Nat) : Fld := ⟨NET_EXC_POLICY i, 7, 4⟩
/-- NET_P_DEF (R1051). -/
def NET_P_DEF (i : Nat) : Nat := 0x40090010 + 0x1000 * i
def NET_P_DEF_QUEUE (i : Nat) : Fld := ⟨NET_P_DEF i, 3, 0⟩
def NET_P_DEF_DROP (i : Nat) : Fld := ⟨NET_P_DEF i, 4, 4⟩
/-- NET_P_TS_LAT (R1051). -/
def NET_P_TS_LAT (i : Nat) : Nat := 0x40090014 + 0x1000 * i
def NET_P_TS_LAT_RX (i : Nat) : Fld := ⟨NET_P_TS_LAT i, 15, 0⟩
def NET_P_TS_LAT_TX (i : Nat) : Fld := ⟨NET_P_TS_LAT i, 31, 16⟩
/-- NET_P_CNT_RX_OK (R1051). -/
def NET_P_CNT_RX_OK (i : Nat) : Nat := 0x40090020 + 0x1000 * i
def NET_P_CNT_RX_OK_COUNT (i : Nat) : Fld := ⟨NET_P_CNT_RX_OK i, 31, 0⟩
/-- NET_P_CNT_FCS (R1051). -/
def NET_P_CNT_FCS (i : Nat) : Nat := 0x40090024 + 0x1000 * i
def NET_P_CNT_FCS_COUNT (i : Nat) : Fld := ⟨NET_P_CNT_FCS i, 31, 0⟩
/-- NET_P_CNT_RUNT (R1051). -/
def NET_P_CNT_RUNT (i : Nat) : Nat := 0x40090028 + 0x1000 * i
def NET_P_CNT_RUNT_COUNT (i : Nat) : Fld := ⟨NET_P_CNT_RUNT i, 31, 0⟩
/-- NET_P_CNT_LONG (R1051). -/
def NET_P_CNT_LONG (i : Nat) : Nat := 0x4009002C + 0x1000 * i
def NET_P_CNT_LONG_COUNT (i : Nat) : Fld := ⟨NET_P_CNT_LONG i, 31, 0⟩
/-- NET_P_CNT_DEEP (R1051). -/
def NET_P_CNT_DEEP (i : Nat) : Nat := 0x40090030 + 0x1000 * i
def NET_P_CNT_DEEP_COUNT (i : Nat) : Fld := ⟨NET_P_CNT_DEEP i, 31, 0⟩
/-- NET_P_CNT_LEN (R1051). -/
def NET_P_CNT_LEN (i : Nat) : Nat := 0x40090034 + 0x1000 * i
def NET_P_CNT_LEN_COUNT (i : Nat) : Fld := ⟨NET_P_CNT_LEN i, 31, 0⟩
/-- NET_P_CNT_NOBUF (R1051). -/
def NET_P_CNT_NOBUF (i : Nat) : Nat := 0x40090038 + 0x1000 * i
def NET_P_CNT_NOBUF_COUNT (i : Nat) : Fld := ⟨NET_P_CNT_NOBUF i, 31, 0⟩
/-- NET_P_CNT_TX_OK (R1051). -/
def NET_P_CNT_TX_OK (i : Nat) : Nat := 0x4009003C + 0x1000 * i
def NET_P_CNT_TX_OK_COUNT (i : Nat) : Fld := ⟨NET_P_CNT_TX_OK i, 31, 0⟩
/-- NET_P_CNT_STOMP (R1051). -/
def NET_P_CNT_STOMP (i : Nat) : Nat := 0x40090040 + 0x1000 * i
def NET_P_CNT_STOMP_COUNT (i : Nat) : Fld := ⟨NET_P_CNT_STOMP i, 31, 0⟩
/-- NET_P_RX_TAIL (R1051). -/
def NET_P_RX_TAIL (i : Nat) (j : Nat) : Nat := 0x40090100 + 0x1000 * i + 0x10 * j
def NET_P_RX_TAIL_TAIL (i : Nat) (j : Nat) : Fld := ⟨NET_P_RX_TAIL i j, 15, 0⟩
/-- NET_P_RX_HEAD (R1051). -/
def NET_P_RX_HEAD (i : Nat) (j : Nat) : Nat := 0x40090104 + 0x1000 * i + 0x10 * j
def NET_P_RX_HEAD_HEAD (i : Nat) (j : Nat) : Fld := ⟨NET_P_RX_HEAD i j, 15, 0⟩
/-- NET_P_RX_ENTRIES (R1051). -/
def NET_P_RX_ENTRIES (i : Nat) (j : Nat) : Nat := 0x40090108 + 0x1000 * i + 0x10 * j
def NET_P_RX_ENTRIES_ENTRIES (i : Nat) (j : Nat) : Fld := ⟨NET_P_RX_ENTRIES i j, 15, 0⟩
/-- NET_P_TX_TAIL (R1051). -/
def NET_P_TX_TAIL (i : Nat) (j : Nat) : Nat := 0x40090200 + 0x1000 * i + 0x10 * j
def NET_P_TX_TAIL_TAIL (i : Nat) (j : Nat) : Fld := ⟨NET_P_TX_TAIL i j, 15, 0⟩
/-- NET_P_TX_HEAD (R1051). -/
def NET_P_TX_HEAD (i : Nat) (j : Nat) : Nat := 0x40090204 + 0x1000 * i + 0x10 * j
def NET_P_TX_HEAD_HEAD (i : Nat) (j : Nat) : Fld := ⟨NET_P_TX_HEAD i j, 15, 0⟩
/-- NET_P_TX_ENTRIES (R1051). -/
def NET_P_TX_ENTRIES (i : Nat) (j : Nat) : Nat := 0x40090208 + 0x1000 * i + 0x10 * j
def NET_P_TX_ENTRIES_ENTRIES (i : Nat) (j : Nat) : Fld := ⟨NET_P_TX_ENTRIES i j, 15, 0⟩
/-- NET_P_SHP_RATE (R1051). -/
def NET_P_SHP_RATE (i : Nat) (j : Nat) : Nat := 0x40090300 + 0x1000 * i + 0x10 * j
def NET_P_SHP_RATE_RATE (i : Nat) (j : Nat) : Fld := ⟨NET_P_SHP_RATE i j, 13, 0⟩
/-- NET_P_SHP_BUCKET (R1051). -/
def NET_P_SHP_BUCKET (i : Nat) (j : Nat) : Nat := 0x40090304 + 0x1000 * i + 0x10 * j
def NET_P_SHP_BUCKET_BUCKET (i : Nat) (j : Nat) : Fld := ⟨NET_P_SHP_BUCKET i j, 20, 0⟩
/-- NET_P_SHP_CNT (R1051). -/
def NET_P_SHP_CNT (i : Nat) (j : Nat) : Nat := 0x40090308 + 0x1000 * i + 0x10 * j
def NET_P_SHP_CNT_CNT (i : Nat) (j : Nat) : Fld := ⟨NET_P_SHP_CNT i j, 31, 0⟩
/-- NET_SHP_CTL (R1051). -/
def NET_SHP_CTL : Nat := 0x40092000
def NET_SHP_CTL_FORGIVE : Fld := ⟨NET_SHP_CTL, 0, 0⟩
def NET_SHP_CTL_QUEUE : Fld := ⟨NET_SHP_CTL, 6, 4⟩
def NET_SHP_CTL_PORT : Fld := ⟨NET_SHP_CTL, 8, 8⟩
/-- NET_HST_PORT (R1051). -/
def NET_HST_PORT : Nat := 0x40092004
def NET_HST_PORT_PORT : Fld := ⟨NET_HST_PORT, 15, 0⟩
def NET_HST_PORT_EN : Fld := ⟨NET_HST_PORT, 16, 16⟩
/-- NET_RULE_FREE (R1051). -/
def NET_RULE_FREE : Nat := 0x40092008
def NET_RULE_FREE_FREE : Fld := ⟨NET_RULE_FREE, 11, 0⟩
/-- PCIE_STAT (R1087). -/
def PCIE_STAT : Nat := 0x400A0000
def PCIE_STAT_SPEED : Fld := ⟨PCIE_STAT, 2, 0⟩
def PCIE_STAT_WIDTH : Fld := ⟨PCIE_STAT, 7, 4⟩
def PCIE_STAT_DL_UP : Fld := ⟨PCIE_STAT, 8, 8⟩
def PCIE_STAT_VF_EN : Fld := ⟨PCIE_STAT, 9, 9⟩
def PCIE_STAT_L2 : Fld := ⟨PCIE_STAT, 10, 10⟩
/-- PCIE_CTL (R1087). -/
def PCIE_CTL : Nat := 0x400A0004
def PCIE_CTL_BAR2_DEVREG : Fld := ⟨PCIE_CTL, 0, 0⟩
/-- PCIE_VF_CFG (R1087). -/
def PCIE_VF_CFG : Nat := 0x400A0008
def PCIE_VF_CFG_BAR2_LOG2 : Fld := ⟨PCIE_VF_CFG, 5, 0⟩
/-- PCIE_FLAGS (R1087). -/
def PCIE_FLAGS : Nat := 0x400A000C
def PCIE_FLAGS_LINK_DOWN : Fld := ⟨PCIE_FLAGS, 0, 0⟩
def PCIE_FLAGS_ECRC : Fld := ⟨PCIE_FLAGS, 1, 1⟩
def PCIE_FLAGS_POISON_RX : Fld := ⟨PCIE_FLAGS, 2, 2⟩
def PCIE_FLAGS_CPL_TMO : Fld := ⟨PCIE_FLAGS, 3, 3⟩
def PCIE_FLAGS_REFUSED : Fld := ⟨PCIE_FLAGS, 4, 4⟩
def PCIE_FLAGS_IRQ_DROP : Fld := ⟨PCIE_FLAGS, 5, 5⟩
def PCIE_FLAGS_OVF : Fld := ⟨PCIE_FLAGS, 21, 16⟩
/-- PCIE_FLR_STAT (R1087). -/
def PCIE_FLR_STAT : Nat := 0x400A0010
def PCIE_FLR_STAT_FLR : Fld := ⟨PCIE_FLR_STAT, 16, 1⟩
/-- PCIE_DMA_STAT (R1087). -/
def PCIE_DMA_STAT : Nat := 0x400A0014
def PCIE_DMA_STAT_BUSY : Fld := ⟨PCIE_DMA_STAT, 7, 0⟩
/-- TBL_STAT (R1142). -/
def TBL_STAT : Nat := 0x400B0000
def TBL_STAT_SEAT : Fld := ⟨TBL_STAT, 2, 0⟩
def TBL_STAT_XSTATE : Fld := ⟨TBL_STAT, 6, 4⟩
def TBL_STAT_PRESENT : Fld := ⟨TBL_STAT, 15, 8⟩
def TBL_STAT_LOST : Fld := ⟨TBL_STAT, 23, 16⟩
def TBL_STAT_MASTER : Fld := ⟨TBL_STAT, 26, 24⟩
def TBL_STAT_TIME_BAD : Fld := ⟨TBL_STAT, 27, 27⟩
def TBL_STAT_SLEEP_OK : Fld := ⟨TBL_STAT, 28, 28⟩
def TBL_STAT_QUEUED : Fld := ⟨TBL_STAT, 29, 29⟩
/-- TBL_DIS (R1142). -/
def TBL_DIS : Nat := 0x400B0004
def TBL_DIS_DIS : Fld := ⟨TBL_DIS, 9, 0⟩
def TBL_DIS_OVF : Fld := ⟨TBL_DIS, 25, 16⟩
/-- TBL_CFG (R1142). -/
def TBL_CFG : Nat := 0x400B0008
def TBL_CFG_XWAIT : Fld := ⟨TBL_CFG, 7, 0⟩
def TBL_CFG_AUTORUN : Fld := ⟨TBL_CFG, 8, 8⟩
def TBL_CFG_REDEAL_EN : Fld := ⟨TBL_CFG, 9, 9⟩
/-- TBL_EPOCH (R1142). -/
def TBL_EPOCH : Nat := 0x400B000C
def TBL_EPOCH_EPOCH : Fld := ⟨TBL_EPOCH, 31, 0⟩
/-- TBL_PROTO (R1142). -/
def TBL_PROTO : Nat := 0x400B0010
def TBL_PROTO_MIN : Fld := ⟨TBL_PROTO, 7, 0⟩
def TBL_PROTO_MAX : Fld := ⟨TBL_PROTO, 15, 8⟩
def TBL_PROTO_IN_USE : Fld := ⟨TBL_PROTO, 23, 16⟩
/-- TBL_SPARE (R1142). -/
def TBL_SPARE : Nat := 0x400B0014
def TBL_SPARE_MASK : Fld := ⟨TBL_SPARE, 15, 0⟩
/-- TBL_MIRROR (R1142). -/
def TBL_MIRROR : Nat := 0x400B0018
def TBL_MIRROR_BASE : Fld := ⟨TBL_MIRROR, 15, 0⟩
def TBL_MIRROR_SLOT : Fld := ⟨TBL_MIRROR, 31, 16⟩
/-- TBL_MIRSTAT (R1142). -/
def TBL_MIRSTAT : Nat := 0x400B001C
def TBL_MIRSTAT_VALID : Fld := ⟨TBL_MIRSTAT, 15, 0⟩
def TBL_MIRSTAT_PRED : Fld := ⟨TBL_MIRSTAT, 18, 16⟩
def TBL_MIRSTAT_PARTNER : Fld := ⟨TBL_MIRSTAT, 22, 20⟩
/-- TBL_ROUTE (R1142). -/
def TBL_ROUTE : Nat := 0x400B0020
def TBL_ROUTE_LINK : Fld := ⟨TBL_ROUTE, 15, 0⟩
/-- TBL_TIME_LO (R1142). -/
def TBL_TIME_LO : Nat := 0x400B0030
def TBL_TIME_LO_TIME : Fld := ⟨TBL_TIME_LO, 31, 0⟩
/-- TBL_TIME_HI (R1142). -/
def TBL_TIME_HI : Nat := 0x400B0034
def TBL_TIME_HI_TIME : Fld := ⟨TBL_TIME_HI, 31, 0⟩
/-- TBL_TIME_TOL (R1142). -/
def TBL_TIME_TOL : Nat := 0x400B0038
def TBL_TIME_TOL_NS : Fld := ⟨TBL_TIME_TOL, 15, 0⟩
/-- TBL_TIME_OFS (R1142). -/
def TBL_TIME_OFS : Nat := 0x400B003C
def TBL_TIME_OFS_OFS : Fld := ⟨TBL_TIME_OFS, 31, 0⟩
/-- TBL_TIME_ERR (R1142). -/
def TBL_TIME_ERR : Nat := 0x400B0040
def TBL_TIME_ERR_ERR : Fld := ⟨TBL_TIME_ERR, 31, 0⟩
/-- TBL_ALARM_LO (R1142). -/
def TBL_ALARM_LO : Nat := 0x400B0048
def TBL_ALARM_LO_TIME : Fld := ⟨TBL_ALARM_LO, 31, 0⟩
/-- TBL_ALARM_HI (R1142). -/
def TBL_ALARM_HI : Nat := 0x400B004C
def TBL_ALARM_HI_TIME : Fld := ⟨TBL_ALARM_HI, 31, 0⟩
/-- TBL_ALARM_SNS (R1142). -/
def TBL_ALARM_SNS : Nat := 0x400B0050
def TBL_ALARM_SNS_SRC : Fld := ⟨TBL_ALARM_SNS, 31, 0⟩
/-- TBL_ALARM_CTL (R1142). -/
def TBL_ALARM_CTL : Nat := 0x400B0054
def TBL_ALARM_CTL_SRC_HI : Fld := ⟨TBL_ALARM_CTL, 7, 0⟩
def TBL_ALARM_CTL_ARM : Fld := ⟨TBL_ALARM_CTL, 8, 8⟩
def TBL_ALARM_CTL_CORES : Fld := ⟨TBL_ALARM_CTL, 31, 16⟩
/-- TBL_PEER0 (R1142). -/
def TBL_PEER0 (i : Nat) : Nat := 0x400B0080 + 0x8 * i
def TBL_PEER0_PART_EN (i : Nat) : Fld := ⟨TBL_PEER0 i, 15, 0⟩
def TBL_PEER0_TBL_MAX (i : Nat) : Fld := ⟨TBL_PEER0 i, 23, 16⟩
def TBL_PEER0_TBL_MIN (i : Nat) : Fld := ⟨TBL_PEER0 i, 31, 24⟩
/-- TBL_PEER1 (R1142). -/
def TBL_PEER1 (i : Nat) : Nat := 0x400B0084 + 0x8 * i
def TBL_PEER1_FW_VER (i : Nat) : Fld := ⟨TBL_PEER1 i, 23, 0⟩
def TBL_PEER1_STATE (i : Nat) : Fld := ⟨TBL_PEER1 i, 26, 24⟩
def TBL_PEER1_VALID (i : Nat) : Fld := ⟨TBL_PEER1 i, 31, 31⟩
/-- TBL_MAP0 (R1142). -/
def TBL_MAP0 (i : Nat) : Nat := 0x400B0400 + 0x8 * i
def TBL_MAP0_STATE (i : Nat) : Fld := ⟨TBL_MAP0 i, 1, 0⟩
def TBL_MAP0_HOST_SEAT (i : Nat) : Fld := ⟨TBL_MAP0 i, 6, 4⟩
def TBL_MAP0_HOST_PART (i : Nat) : Fld := ⟨TBL_MAP0 i, 11, 8⟩
def TBL_MAP0_OLD_BASE (i : Nat) : Fld := ⟨TBL_MAP0 i, 31, 16⟩
/-- TBL_MAP1 (R1142). -/
def TBL_MAP1 (i : Nat) : Nat := 0x400B0404 + 0x8 * i
def TBL_MAP1_MLEN (i : Nat) : Fld := ⟨TBL_MAP1 i, 15, 0⟩
def TBL_MAP1_NEW_BASE (i : Nat) : Fld := ⟨TBL_MAP1 i, 31, 16⟩
/-- LNK_STAT (R1142). -/
def LNK_STAT (i : Nat) : Nat := 0x400B1000 + 0x100 * i
def LNK_STAT_STATE (i : Nat) : Fld := ⟨LNK_STAT i, 2, 0⟩
def LNK_STAT_WIDTH4 (i : Nat) : Fld := ⟨LNK_STAT i, 3, 3⟩
def LNK_STAT_PEER_SEAT (i : Nat) : Fld := ⟨LNK_STAT i, 6, 4⟩
def LNK_STAT_PEER_LINK (i : Nat) : Fld := ⟨LNK_STAT i, 9, 8⟩
/-- LNK_FLAGS (R1142). -/
def LNK_FLAGS (i : Nat) : Nat := 0x400B1004 + 0x100 * i
def LNK_FLAGS_FLAGS (i : Nat) : Fld := ⟨LNK_FLAGS i, 4, 0⟩
def LNK_FLAGS_OVF (i : Nat) : Fld := ⟨LNK_FLAGS i, 20, 16⟩
/-- LNK_CNT_LCRC (R1142). -/
def LNK_CNT_LCRC (i : Nat) : Nat := 0x400B1008 + 0x100 * i
def LNK_CNT_LCRC_COUNT (i : Nat) : Fld := ⟨LNK_CNT_LCRC i, 31, 0⟩
/-- LNK_CNT_REPLAY (R1142). -/
def LNK_CNT_REPLAY (i : Nat) : Nat := 0x400B100C + 0x100 * i
def LNK_CNT_REPLAY_COUNT (i : Nat) : Fld := ⟨LNK_CNT_REPLAY i, 31, 0⟩
/-- LNK_DELAY (R1142). -/
def LNK_DELAY (i : Nat) : Nat := 0x400B1010 + 0x100 * i
def LNK_DELAY_DELAY (i : Nat) : Fld := ⟨LNK_DELAY i, 31, 0⟩
/-- ERR_FATAL (R1185). -/
def ERR_FATAL : Nat := 0x400C0000
def ERR_FATAL_CLASS : Fld := ⟨ERR_FATAL, 14, 1⟩
def ERR_FATAL_OVF : Fld := ⟨ERR_FATAL, 30, 17⟩
/-- ERR_FATAL_CODE (R1185). -/
def ERR_FATAL_CODE : Nat := 0x400C0004
def ERR_FATAL_CODE_CODE : Fld := ⟨ERR_FATAL_CODE, 15, 0⟩
/-- ERR_ALERT (R1185). -/
def ERR_ALERT : Nat := 0x400C0008
def ERR_ALERT_ALERT : Fld := ⟨ERR_ALERT, 2, 0⟩
def ERR_ALERT_OVF : Fld := ⟨ERR_ALERT, 18, 16⟩
/-- ERR_ALERT_EN (R1185). -/
def ERR_ALERT_EN : Nat := 0x400C000C
def ERR_ALERT_EN_EN : Fld := ⟨ERR_ALERT_EN, 2, 0⟩
/-- ERR_MASK (R1185). -/
def ERR_MASK : Nat := 0x400C0010
def ERR_MASK_MASK : Fld := ⟨ERR_MASK, 14, 1⟩
/-- ERR_LOG_WIDX (R1185). -/
def ERR_LOG_WIDX : Nat := 0x400C0014
def ERR_LOG_WIDX_WIDX : Fld := ⟨ERR_LOG_WIDX, 31, 0⟩
/-- ERR_DROP (R1185). -/
def ERR_DROP : Nat := 0x400C0018
def ERR_DROP_COUNT : Fld := ⟨ERR_DROP, 15, 0⟩
/-- ERR_FLAGS (R1185). -/
def ERR_FLAGS : Nat := 0x400C001C
def ERR_FLAGS_DROP : Fld := ⟨ERR_FLAGS, 0, 0⟩
def ERR_FLAGS_WRAP : Fld := ⟨ERR_FLAGS, 1, 1⟩
def ERR_FLAGS_OVF : Fld := ⟨ERR_FLAGS, 17, 16⟩
/-- ERR_SCRUB_CFG (R1185). -/
def ERR_SCRUB_CFG : Nat := 0x400C0020
def ERR_SCRUB_CFG_EN : Fld := ⟨ERR_SCRUB_CFG, 0, 0⟩
def ERR_SCRUB_CFG_GAP : Fld := ⟨ERR_SCRUB_CFG, 15, 8⟩
/-- ERR_SCRUB_STAT (R1185). -/
def ERR_SCRUB_STAT : Nat := 0x400C0024
def ERR_SCRUB_STAT_FRAME : Fld := ⟨ERR_SCRUB_STAT, 16, 0⟩
def ERR_SCRUB_STAT_RUN : Fld := ⟨ERR_SCRUB_STAT, 31, 31⟩
/-- ERR_SCRUB_PASS (R1185). -/
def ERR_SCRUB_PASS : Nat := 0x400C0028
def ERR_SCRUB_PASS_COUNT : Fld := ⟨ERR_SCRUB_PASS, 31, 0⟩
/-- ERR_CNT (R1185). -/
def ERR_CNT (i : Nat) : Nat := 0x400C0104 + 0x4 * i
def ERR_CNT_COUNT (i : Nat) : Fld := ⟨ERR_CNT i, 31, 0⟩
/-- THM_TEMP (R1234). -/
def THM_TEMP (i : Nat) : Nat := 0x400D0800 + 0x4 * i
def THM_TEMP_TEMP (i : Nat) : Fld := ⟨THM_TEMP i, 15, 0⟩
/-- THM_TMAX (R1234). -/
def THM_TMAX : Nat := 0x400D0850
def THM_TMAX_TEMP : Fld := ⟨THM_TMAX, 15, 0⟩
def THM_TMAX_SENSOR : Fld := ⟨THM_TMAX, 20, 16⟩
/-- THM_CAP_CFG (R1234). -/
def THM_CAP_CFG : Nat := 0x400D0860
def THM_CAP_CFG_T_ON : Fld := ⟨THM_CAP_CFG, 7, 0⟩
def THM_CAP_CFG_T_OFF : Fld := ⟨THM_CAP_CFG, 15, 8⟩
def THM_CAP_CFG_FLOOR : Fld := ⟨THM_CAP_CFG, 20, 16⟩
def THM_CAP_CFG_INT : Fld := ⟨THM_CAP_CFG, 31, 24⟩
/-- THM_CAP_STAT (R1234). -/
def THM_CAP_STAT : Nat := 0x400D0864
def THM_CAP_STAT_CAP : Fld := ⟨THM_CAP_STAT, 4, 0⟩
def THM_CAP_STAT_ACTIVE : Fld := ⟨THM_CAP_STAT, 8, 8⟩
/-- THM_ALARM (R1234). -/
def THM_ALARM : Nat := 0x400D0868
def THM_ALARM_DIE : Fld := ⟨THM_ALARM, 7, 0⟩
def THM_ALARM_HBM : Fld := ⟨THM_ALARM, 15, 8⟩
/-- THM_CRIT (R1234). -/
def THM_CRIT : Nat := 0x400D086C
def THM_CRIT_DIE : Fld := ⟨THM_CRIT, 7, 0⟩
/-- THM_VID (R1234). -/
def THM_VID : Nat := 0x400D0870
def THM_VID_VCORE : Fld := ⟨THM_VID, 9, 0⟩
/-- THM_RAIL (R1234). -/
def THM_RAIL : Nat := 0x400D0874
def THM_RAIL_GOOD : Fld := ⟨THM_RAIL, 9, 0⟩

end R

end Sys2Proof.Machine
end

