-- ==== Sys2Proof/Config.lean ====
section
/-!
DEFINITION. Values the manual leaves open: constants without a body, so that no proof can rest on a value of
theirs. `freeValue` is applied to a counter of the state (assumption 1), the others to their operands.
-/
namespace Sys2Proof.Config

/-- A fresh open value of 4,096 bits; a step takes the bits it needs and moves the counter on. -/
opaque freeValue : Nat → BitVec 4096

/-- Which of the results that R508 allows an approximation returns: function code (0 exp2, 1 log2, 2 reciprocal,
3 reciprocal square root) and FP32 operand. -/
opaque approxPick : Nat → BitVec 32 → BitVec 64

/-- The Helinsen firmware public key that the boot ROM holds (chapter 8 gives no value). -/
opaque fwKey : BitVec 384 × BitVec 384

/-- Fuse words 0 to 31: identity, bin and trim, whose layout the manual does not give (R228). -/
opaque fuseIdent : Nat → BitVec 32

/-- The I/O standard that a cell's frame selects (R309; the bit assignment is in EL512_A1.fdb): 0 unused, 1 LVCMOS33,
2 LVTTL, 3 LVCMOS25, 4 LVCMOS18, 5 LVDS25 output, 6 LVDS input. -/
opaque fdbIoStd : BitVec 2048 → Nat

/-- The place in the boundary register of a pin's cell: pin in the order of R188, and which of its cells (the order is in
EL512_A1.bsd). -/
opaque bsdlCell : Nat → Nat → Nat

/-- The clock spine of the user register port, from the fabric's frames (the bits are in EL512_A1.fdb). -/
opaque fdbUregClk : List (Nat × BitVec 2048) → Nat

/-- The block whose switch box the buffer of pin IO_Bn_m joins, and the choices of the fabric's routing words: the driver of
a wire, the source of a block input, and that of an input of a pool RAM port or mult cell, each as a place in the list of
permitted ones (EL512_A1.fdb). -/
opaque fdbPinBlock : Nat → Nat → Nat
opaque fdbWire : Nat → BitVec 2048 → Nat
opaque fdbIn : Nat → Nat → BitVec 2048 → Nat
opaque fdbCell : Nat → Nat → BitVec 2048 → Nat

/-- From the frames of a fabric port: the clock spine it runs on, 24 and above for none. -/
opaque fdbPortClk : List (BitVec 2048) → Nat

/-- From the frame of an I/O cell: the spines of its input, output and output-enable registers and which of them are used
(bit 0, 1, 2), and the sources of its output and output enable as places among the permitted ones. -/
opaque fdbIoClk : BitVec 2048 → Nat × Nat × Nat
opaque fdbIoUse : BitVec 2048 → Nat
opaque fdbIoSrc : BitVec 2048 → Nat × Nat

end Sys2Proof.Config
end

