-- ==== Sys2Proof/Machine/RegTable.lean ====
section
/-!
DEFINITION. The device registers of the Dealer map: address, fields, access codes, reserved
encodings and reset values, from the register tables of the spec (each entry cites its rule).
-/
namespace Sys2Proof.Machine

/-- Access codes of R10. -/
inductive Acc where
  | rw | ro | wo | w1c | w1s | rc | rwl
deriving DecidableEq, Repr

/-- What clears a register (R11, R86, R148): `fuse` nothing (loaded from eFuse or constant, R38);
`debug` POR only (reset-cause and debug logic); `aon` POR and system reset (always-on domain);
`keep` POR, system reset and DEEP (retained in LISTEN); `vol` POR, system reset, LISTEN and DEEP
(power-gated without retention, R131); `core` POR, system, core reset, LISTEN and DEEP. -/
inductive Surv where
  | fuse | debug | aon | keep | vol | core
deriving DecidableEq, Repr

/-- The block a register belongs to, for R25. -/
inductive Blk where
  | sys | aon | dbg | cfg | mbx | fab | noc | mem | sns | snsw | sig | gfx | dpy | net | pcie | tbl | lnk | err | pace
deriving DecidableEq, Repr

/-- One field: bits [hi:lo], access, reset value, reserved encodings as ranges (R16). -/
structure FieldDef where
  hi : Nat
  lo : Nat
  acc : Acc
  reset : Nat
  rsv : List (Nat × Nat)
deriving DecidableEq, Repr

/-- One register table: base address, array dimensions (count, stride), block, survival, fields. -/
structure RegDef where
  base : Nat
  dims : List (Nat × Nat)
  blk : Blk
  surv : Surv
  fields : List FieldDef
deriving DecidableEq, Repr


/-- Registers of page 0x4000, part 1: R45 SYS_HWID, R46 SYS_BIN, R47 SYS_PARTEN, R49 SYS_IDCODE, R468 SYS_FEAT, R82 SYS_CLK_STAT, R83 SYS_CLK_LOSS, R84 SYS_CLK_CFG, R85 SYS_TCLK_CUR, R153 SYS_RST_CAUSE, R154 SYS_RST_STAT, R155 SYS_RST_CFG, R156 SYS_RST_GLITCH, R157 SYS_RST_NVDELAY, R158 SYS_RST_REQ, R159 SYS_WDT_CTL, R160 SYS_WDT_KICK, R161 PWR_STATE, R162 PWR_CTL, R163 PWR_WAKE_CFG, R164 PWR_WAKE_STAT, R165 PWR_AOT_CNT_LO, R165 PWR_AOT_CNT_HI, R166 PWR_AOT_CMP_LO. -/
def regs4000a : List RegDef := [
  ⟨0x40000F00, [], .sys, .fuse, [⟨31, 16, .ro, 0, []⟩, ⟨15, 12, .ro, 0, []⟩, ⟨11, 8, .ro, 0, []⟩, ⟨7, 4, .ro, 0, []⟩, ⟨3, 0, .ro, 0, []⟩]⟩,
  ⟨0x40000F04, [], .sys, .fuse, [⟨19, 16, .ro, 0, []⟩, ⟨0, 0, .ro, 0, []⟩]⟩,
  ⟨0x40000F08, [], .sys, .fuse, [⟨15, 0, .ro, 0, []⟩]⟩,
  ⟨0x40000F0C, [], .sys, .fuse, [⟨31, 0, .ro, 0, []⟩]⟩,
  ⟨0x40000F10, [], .sys, .fuse, [⟨3, 3, .ro, 0, []⟩, ⟨2, 2, .ro, 0, []⟩, ⟨1, 1, .ro, 0, []⟩, ⟨0, 0, .ro, 0, []⟩]⟩,
  ⟨0x40000200, [], .sys, .vol, [⟨17, 17, .ro, 1, []⟩, ⟨16, 16, .ro, 0, []⟩, ⟨15, 8, .ro, 0, []⟩, ⟨7, 7, .ro, 0, []⟩, ⟨6, 6, .ro, 0, []⟩, ⟨5, 5, .ro, 0, []⟩, ⟨4, 4, .ro, 0, []⟩, ⟨3, 3, .ro, 0, []⟩, ⟨2, 2, .ro, 0, []⟩, ⟨1, 1, .ro, 0, []⟩, ⟨0, 0, .ro, 0, []⟩]⟩,
  ⟨0x40000204, [], .sys, .vol, [⟨28, 24, .w1c, 0, []⟩, ⟨20, 16, .w1c, 0, []⟩, ⟨12, 8, .w1c, 0, []⟩, ⟨4, 0, .w1c, 0, []⟩]⟩,
  ⟨0x40000208, [], .sys, .vol, [⟨1, 1, .rw, 0, []⟩, ⟨0, 0, .rw, 1, []⟩]⟩,
  ⟨0x40000240, [(16, 4)], .sys, .vol, [⟨9, 9, .ro, 1, []⟩, ⟨8, 8, .ro, 0, []⟩, ⟨4, 0, .ro, 0, []⟩]⟩,
  ⟨0x40000000, [], .sys, .debug, [⟨31, 16, .ro, 0, []⟩, ⟨11, 11, .w1c, 0, []⟩, ⟨10, 10, .w1c, 0, []⟩, ⟨9, 9, .w1c, 0, []⟩, ⟨8, 8, .w1c, 0, []⟩, ⟨7, 7, .w1c, 0, []⟩, ⟨6, 6, .w1c, 0, []⟩, ⟨5, 5, .w1c, 0, []⟩, ⟨4, 4, .w1c, 0, []⟩, ⟨3, 3, .w1c, 0, []⟩, ⟨2, 2, .w1c, 0, []⟩]⟩,
  ⟨0x40000004, [], .sys, .debug, [⟨31, 24, .ro, 0, []⟩, ⟨4, 4, .ro, 0, []⟩, ⟨3, 3, .ro, 0, []⟩, ⟨2, 2, .ro, 0, []⟩, ⟨1, 1, .ro, 0, []⟩]⟩,
  ⟨0x40000008, [], .sys, .debug, [⟨1, 1, .rw, 0, []⟩, ⟨0, 0, .rw, 0, []⟩]⟩,
  ⟨0x4000000C, [], .sys, .debug, [⟨23, 16, .rw, 0, []⟩, ⟨15, 8, .rw, 0, []⟩, ⟨7, 0, .rw, 0, []⟩]⟩,
  ⟨0x40000010, [], .sys, .debug, [⟨31, 16, .rw, 0, []⟩, ⟨15, 0, .rw, 0, []⟩]⟩,
  ⟨0x40000014, [], .sys, .vol, [⟨15, 8, .wo, 0, []⟩, ⟨1, 0, .wo, 0, []⟩]⟩,
  ⟨0x40000018, [], .sys, .vol, [⟨31, 16, .rw, 2000, [(0, 0)]⟩, ⟨1, 1, .rw, 1, []⟩, ⟨0, 0, .rw, 1, []⟩]⟩,
  ⟨0x4000001C, [], .sys, .vol, [⟨31, 0, .wo, 0, []⟩]⟩,
  ⟨0x40000400, [], .aon, .aon, [⟨7, 5, .ro, 0, []⟩, ⟨4, 4, .ro, 0, []⟩, ⟨2, 0, .ro, 0, []⟩]⟩,
  ⟨0x40000404, [], .aon, .aon, [⟨15, 8, .rw, 100, [(0, 0)]⟩, ⟨2, 0, .rw, 0, [(5, 7)]⟩]⟩,
  ⟨0x40000408, [], .aon, .aon, [⟨26, 26, .rw, 0, []⟩, ⟨25, 25, .rw, 0, []⟩, ⟨23, 16, .rw, 0, []⟩, ⟨15, 12, .rw, 0, []⟩, ⟨11, 8, .rw, 0, []⟩, ⟨7, 4, .rw, 0, []⟩, ⟨2, 2, .rw, 0, []⟩, ⟨1, 1, .rw, 0, []⟩, ⟨0, 0, .rw, 0, []⟩]⟩,
  ⟨0x4000040C, [], .aon, .aon, [⟨31, 29, .ro, 0, []⟩, ⟨23, 16, .w1c, 0, []⟩, ⟨9, 9, .w1c, 0, []⟩, ⟨8, 8, .w1c, 0, []⟩, ⟨7, 4, .w1c, 0, []⟩, ⟨2, 2, .w1c, 0, []⟩, ⟨1, 1, .w1c, 0, []⟩, ⟨0, 0, .w1c, 0, []⟩]⟩,
  ⟨0x40000410, [], .aon, .aon, [⟨31, 0, .rw, 0, []⟩]⟩,
  ⟨0x40000414, [], .aon, .aon, [⟨15, 0, .rw, 0, []⟩]⟩,
  ⟨0x40000418, [], .aon, .aon, [⟨31, 0, .rw, 4294967295, []⟩]⟩]

/-- Registers of page 0x4000, part 2: R166 PWR_AOT_CMP_HI, R167 PWR_LD_TMO, R168 PWR_TT_SNAP_LO, R168 PWR_TT_SNAP_HI, R168 PWR_AOT_SNAP_LO, R168 PWR_AOT_SNAP_HI, R464 SYS_FW_STAT, R465 SYS_MRAM_CTL, R466 SYS_MRAM_ERR, R467 SYS_MRAM_STALL, R851 SYS_PART_STAT, R852 SYS_PART_FAULT, R853 SYS_PART_CKPT, R854 SYS_PART_SEQ. -/
def regs4000b : List RegDef := [
  ⟨0x4000041C, [], .aon, .aon, [⟨15, 0, .rw, 65535, []⟩]⟩,
  ⟨0x40000420, [], .aon, .aon, [⟨23, 0, .rw, 0, []⟩]⟩,
  ⟨0x40000428, [], .aon, .aon, [⟨31, 0, .ro, 0, []⟩]⟩,
  ⟨0x4000042C, [], .aon, .aon, [⟨31, 0, .ro, 0, []⟩]⟩,
  ⟨0x40000430, [], .aon, .aon, [⟨31, 0, .ro, 0, []⟩]⟩,
  ⟨0x40000434, [], .aon, .aon, [⟨15, 0, .ro, 0, []⟩]⟩,
  ⟨0x40000600, [], .sys, .vol, [⟨31, 24, .rw, 0, []⟩, ⟨23, 16, .rw, 0, []⟩, ⟨15, 12, .rw, 0, []⟩, ⟨11, 8, .rw, 0, []⟩, ⟨3, 3, .rw, 0, []⟩, ⟨2, 2, .rw, 0, []⟩, ⟨1, 1, .rw, 0, []⟩, ⟨0, 0, .rw, 0, []⟩]⟩,
  ⟨0x40000610, [], .sys, .vol, [⟨3, 0, .rw, 0, []⟩]⟩,
  ⟨0x40000614, [], .sys, .vol, [⟨18, 16, .w1c, 0, []⟩, ⟨2, 2, .w1c, 0, []⟩, ⟨1, 1, .w1c, 0, []⟩, ⟨0, 0, .w1c, 0, []⟩]⟩,
  ⟨0x40000618, [], .sys, .vol, [⟨31, 0, .rw, 0, []⟩]⟩,
  ⟨0x40000800, [(16, 4)], .sys, .vol, [⟨2, 0, .ro, 0, []⟩, ⟨3, 3, .ro, 0, []⟩, ⟨4, 4, .ro, 0, []⟩, ⟨5, 5, .ro, 0, []⟩, ⟨6, 6, .ro, 0, []⟩, ⟨7, 7, .ro, 0, []⟩, ⟨8, 8, .ro, 0, []⟩, ⟨9, 9, .ro, 0, []⟩, ⟨16, 16, .w1c, 0, []⟩, ⟨24, 24, .w1c, 0, []⟩]⟩,
  ⟨0x40000840, [(16, 4)], .sys, .vol, [⟨7, 0, .ro, 0, []⟩, ⟨12, 8, .ro, 0, []⟩]⟩,
  ⟨0x40000880, [(16, 4)], .sys, .vol, [⟨15, 0, .rw, 0, []⟩, ⟨31, 16, .rw, 0, []⟩]⟩,
  ⟨0x400008C0, [(16, 4)], .sys, .vol, [⟨31, 0, .ro, 0, []⟩]⟩]

/-- Registers of page 0x4001, part 1: R271 CFG_STAT, R272 CFG_CTL, R273 CFG_REL_GAP, R274 CFG_SHELL, R275 CFG_PRI_ADDR, R276 CFG_FLASH, R277 CFG_FAILS, R278 CFG_PR_ISO_LO, R278 CFG_PR_ISO_HI, R279 CFG_SEC, R280 CFG_DIGEST. -/
def regs4001a : List RegDef := [
  ⟨0x40010000, [], .cfg, .keep, [⟨31, 24, .ro, 0, []⟩, ⟨23, 16, .ro, 0, []⟩, ⟨15, 12, .ro, 0, []⟩, ⟨11, 10, .ro, 0, []⟩, ⟨9, 8, .ro, 0, []⟩, ⟨7, 7, .ro, 0, []⟩, ⟨6, 6, .ro, 0, []⟩, ⟨5, 5, .ro, 0, []⟩, ⟨4, 4, .ro, 0, []⟩, ⟨3, 3, .ro, 0, []⟩, ⟨2, 2, .ro, 0, []⟩, ⟨1, 1, .w1c, 0, []⟩, ⟨0, 0, .ro, 1, []⟩]⟩,
  ⟨0x40010004, [], .cfg, .keep, [⟨15, 8, .wo, 0, []⟩, ⟨1, 1, .wo, 0, []⟩, ⟨0, 0, .w1s, 0, []⟩]⟩,
  ⟨0x40010008, [], .cfg, .keep, [⟨7, 0, .rwl, 16, [(0, 1)]⟩]⟩,
  ⟨0x4001000C, [], .cfg, .keep, [⟨31, 16, .rwl, 65535, []⟩, ⟨15, 0, .rwl, 0, []⟩]⟩,
  ⟨0x40010010, [], .cfg, .keep, [⟨31, 0, .ro, 16777216, []⟩]⟩,
  ⟨0x40010014, [], .cfg, .keep, [⟨31, 16, .ro, 0, []⟩, ⟨8, 8, .ro, 0, []⟩, ⟨7, 7, .ro, 0, []⟩, ⟨2, 0, .ro, 4, []⟩]⟩,
  ⟨0x40010018, [], .cfg, .keep, [⟨15, 8, .rw, 0, []⟩, ⟨7, 0, .rw, 0, []⟩]⟩,
  ⟨0x40010020, [], .cfg, .keep, [⟨31, 0, .ro, 0, []⟩]⟩,
  ⟨0x40010024, [], .cfg, .keep, [⟨31, 0, .ro, 0, []⟩]⟩,
  ⟨0x40010030, [], .cfg, .fuse, [⟨31, 0, .ro, 0, []⟩]⟩,
  ⟨0x40010040, [(12, 4)], .cfg, .keep, [⟨31, 0, .ro, 0, []⟩]⟩]

/-- Registers of page 0x4002, part 1: R398 MBX_DB_CMD, R398 MBX_DB_CPL, R398 MBX_CMD_HEAD, R398 MBX_CPL_TAIL, R398 MBX_STATUS, R398: mailbox 16, IRQ_FN reserved, R398 MBX_CTL, R398 MBX_ERR, R398 MBX_CMD_TMO, R399 MBX_NEXT, R399 MBX_GCTL, R399 MBX_VERSION, R399 MBX_POST_SD, R399 MBX_POST_RES_LO, R399 MBX_POST_RES_HI, R399 MBX_POST_GO, R399 MBX_ENTRY. -/
def regs4002a : List RegDef := [
  ⟨0x40020000, [(17, 256)], .mbx, .vol, [⟨15, 0, .rw, 0, []⟩]⟩,
  ⟨0x40020004, [(17, 256)], .mbx, .vol, [⟨15, 0, .rw, 0, []⟩]⟩,
  ⟨0x40020008, [(17, 256)], .mbx, .vol, [⟨15, 0, .ro, 0, []⟩]⟩,
  ⟨0x4002000C, [(17, 256)], .mbx, .vol, [⟨15, 0, .ro, 0, []⟩]⟩,
  ⟨0x40020010, [(17, 256)], .mbx, .vol, [⟨0, 0, .ro, 0, []⟩, ⟨1, 1, .ro, 0, []⟩, ⟨11, 8, .ro, 0, []⟩, ⟨21, 16, .ro, 0, []⟩]⟩,
  ⟨0x40021014, [], .mbx, .vol, [⟨0, 0, .rw, 1, []⟩, ⟨13, 8, .rw, 1, [(0, 0)]⟩, ⟨23, 16, .rw, 0, []⟩]⟩,
  ⟨0x40020014, [(17, 256)], .mbx, .vol, [⟨0, 0, .rw, 1, []⟩, ⟨1, 1, .rw, 0, []⟩, ⟨13, 8, .rw, 1, [(0, 0)]⟩, ⟨23, 16, .rw, 0, []⟩]⟩,
  ⟨0x40020018, [(17, 256)], .mbx, .vol, [⟨0, 0, .w1c, 0, []⟩, ⟨1, 1, .w1c, 0, []⟩, ⟨2, 2, .w1c, 0, []⟩, ⟨3, 3, .w1c, 0, []⟩, ⟨4, 4, .w1c, 0, []⟩, ⟨20, 16, .w1c, 0, []⟩]⟩,
  ⟨0x4002001C, [(17, 256)], .mbx, .vol, [⟨15, 0, .rw, 5000, []⟩]⟩,
  ⟨0x40022000, [], .mbx, .vol, [⟨31, 31, .rc, 0, []⟩, ⟨20, 16, .ro, 0, []⟩, ⟨10, 8, .ro, 0, []⟩, ⟨5, 0, .ro, 0, []⟩]⟩,
  ⟨0x40022004, [], .mbx, .vol, [⟨0, 0, .rw, 0, []⟩]⟩,
  ⟨0x40022008, [], .mbx, .vol, [⟨7, 0, .ro, 3, []⟩]⟩,
  ⟨0x40022010, [], .mbx, .vol, [⟨31, 16, .rw, 0, []⟩, ⟨14, 0, .rw, 0, []⟩]⟩,
  ⟨0x40022014, [], .mbx, .vol, [⟨31, 0, .rw, 0, []⟩]⟩,
  ⟨0x40022018, [], .mbx, .vol, [⟨31, 0, .rw, 0, []⟩]⟩,
  ⟨0x4002201C, [], .mbx, .vol, [⟨31, 31, .wo, 0, []⟩, ⟨20, 16, .wo, 0, []⟩, ⟨10, 8, .wo, 0, []⟩]⟩,
  ⟨0x40022040, [(16, 4)], .mbx, .vol, [⟨31, 0, .ro, 0, []⟩]⟩]

/-- Registers of page 0x4003, part 1: R731 NOC_FOLD_REQ, R731 NOC_FOLD_STAT, R731 NOC_FOLD_FSTAT, R731 NOC_FOLD_FORCED, R731 NOC_FOLD_FFORCED, R731 NOC_FOLD_TMO, R731 NOC_RSP_TMO, R731 NOC_ARB, R731 NOC_EPRIO, R731 NOC_SEAT_GW, R731 NOC_PRIO, R732 NOC_ISO_SLICE, R732 NOC_ISO_PERM, R732 NOC_ISO_KITTY, R732 NOC_ISO_CNT. -/
def regs4003a : List RegDef := [
  ⟨0x40030000, [], .noc, .vol, [⟨5, 0, .wo, 0, []⟩, ⟨8, 8, .wo, 0, []⟩, ⟨14, 14, .wo, 0, []⟩, ⟨15, 15, .wo, 0, []⟩]⟩,
  ⟨0x40030004, [], .noc, .vol, [⟨31, 0, .ro, 2863311530, []⟩]⟩,
  ⟨0x40030008, [(4, 4)], .noc, .vol, [⟨31, 0, .ro, 2863311530, []⟩]⟩,
  ⟨0x40030018, [], .noc, .vol, [⟨15, 0, .w1c, 0, []⟩, ⟨31, 16, .w1c, 0, []⟩]⟩,
  ⟨0x4003001C, [], .noc, .vol, [⟨15, 0, .w1c, 0, []⟩, ⟨31, 16, .w1c, 0, []⟩]⟩,
  ⟨0x40030020, [], .noc, .vol, [⟨15, 0, .rw, 1000, [(0, 99)]⟩]⟩,
  ⟨0x40030024, [], .noc, .vol, [⟨15, 0, .rw, 2000, [(0, 9)]⟩]⟩,
  ⟨0x40030028, [], .noc, .vol, [⟨3, 0, .rw, 4, [(0, 0)]⟩, ⟨11, 8, .rw, 2, [(0, 0)]⟩, ⟨19, 16, .rw, 1, [(0, 0)]⟩]⟩,
  ⟨0x4003002C, [], .noc, .vol, [⟨29, 0, .rw, 715827882, []⟩]⟩,
  ⟨0x40030030, [], .noc, .vol, [⟨15, 0, .rw, 0, []⟩, ⟨23, 16, .rw, 0, []⟩]⟩,
  ⟨0x40030040, [(16, 4)], .noc, .vol, [⟨1, 0, .rw, 1, []⟩]⟩,
  ⟨0x40030100, [(17, 16)], .noc, .vol, [⟨15, 0, .rw, 0, []⟩, ⟨31, 16, .rw, 0, []⟩]⟩,
  ⟨0x40030104, [(17, 16)], .noc, .vol, [⟨15, 0, .rw, 0, []⟩, ⟨16, 16, .rw, 0, []⟩, ⟨17, 17, .rw, 0, []⟩, ⟨18, 18, .rw, 0, []⟩]⟩,
  ⟨0x40030108, [(17, 16)], .noc, .vol, [⟨10, 0, .rw, 0, []⟩, ⟨26, 16, .rw, 0, []⟩]⟩,
  ⟨0x4003010C, [(17, 16)], .noc, .vol, [⟨15, 0, .rw, 0, []⟩]⟩]

/-- Registers of page 0x4004, part 1: R791 MEM_STAT, R791 MEM_CTL, R791 MEM_TEMP, R791 MEM_REF_CFG, R791 MEM_SCHED, R791 MEM_RH_THRESH, R791 MEM_RH_CFG, R791 MEM_ERR_MODE, R791 MEM_FROZEN, R791 MEM_ECC_CFG, R791 MEM_REPAIR_CFG, R791 MEM_LANE_FAIL, R792 MEM_PC_FLAGS, R792 MEM_PC_CE, R792 MEM_PC_UE, R792 MEM_PC_POISON, R792 MEM_PC_RHCNT, R792 MEM_PC_RHLAST, R792 MEM_PC_THR, R793 DIAG_CAUSE, R793 DIAG_SYND, R793 DIAG_ADDR, R793 DIAG_REQ, R793 DIAG_TIME. -/
def regs4004a : List RegDef := [
  ⟨0x40040000, [(2, 65536)], .mem, .vol, [⟨2, 0, .ro, 0, []⟩, ⟨3, 3, .ro, 0, []⟩, ⟨4, 4, .ro, 1, []⟩, ⟨5, 5, .ro, 0, []⟩, ⟨11, 8, .ro, 0, []⟩, ⟨15, 12, .ro, 0, []⟩]⟩,
  ⟨0x40040004, [(2, 65536)], .mem, .vol, [⟨0, 0, .wo, 0, []⟩, ⟨15, 8, .rw, 10, []⟩]⟩,
  ⟨0x40040008, [(2, 65536)], .mem, .vol, [⟨15, 0, .rw, 1680, []⟩]⟩,
  ⟨0x4004000C, [(2, 65536)], .mem, .vol, [⟨0, 0, .rw, 0, []⟩, ⟨11, 8, .rw, 8, [(0, 0), (9, 15)]⟩]⟩,
  ⟨0x40040010, [(2, 65536)], .mem, .vol, [⟨11, 0, .rw, 256, [(0, 0)]⟩, ⟨22, 16, .rw, 48, [(0, 1), (65, 127)]⟩, ⟨29, 24, .rw, 16, [(63, 63)]⟩]⟩,
  ⟨0x40040014, [(2, 65536)], .mem, .vol, [⟨15, 0, .rw, 2048, [(0, 63)]⟩]⟩,
  ⟨0x40040018, [(2, 65536)], .mem, .vol, [⟨9, 0, .rw, 100, [(0, 0)]⟩, ⟨16, 16, .rw, 1, []⟩]⟩,
  ⟨0x4004001C, [(2, 65536)], .mem, .vol, [⟨31, 0, .rw, 0, []⟩]⟩,
  ⟨0x40040020, [(2, 65536)], .mem, .vol, [⟨31, 0, .ro, 0, []⟩]⟩,
  ⟨0x40040024, [(2, 65536)], .mem, .vol, [⟨0, 0, .rw, 1, []⟩, ⟨1, 1, .rw, 1, []⟩]⟩,
  ⟨0x40040028, [(2, 65536)], .mem, .vol, [⟨0, 0, .rw, 1, []⟩, ⟨1, 1, .rw, 0, []⟩, ⟨2, 2, .ro, 0, []⟩]⟩,
  ⟨0x4004002C, [(2, 65536)], .mem, .vol, [⟨4, 0, .ro, 0, []⟩, ⟨10, 5, .ro, 0, []⟩, ⟨11, 11, .ro, 0, []⟩]⟩,
  ⟨0x40041000, [(2, 65536), (32, 64)], .mem, .vol, [⟨0, 0, .w1c, 0, []⟩, ⟨1, 1, .w1c, 0, []⟩, ⟨2, 2, .w1c, 0, []⟩, ⟨3, 3, .w1c, 0, []⟩, ⟨19, 16, .w1c, 0, []⟩]⟩,
  ⟨0x40041004, [(2, 65536), (32, 64)], .mem, .vol, [⟨31, 0, .rw, 0, []⟩]⟩,
  ⟨0x40041008, [(2, 65536), (32, 64)], .mem, .vol, [⟨31, 0, .rw, 0, []⟩]⟩,
  ⟨0x4004100C, [(2, 65536), (32, 64)], .mem, .vol, [⟨31, 0, .rw, 0, []⟩]⟩,
  ⟨0x40041010, [(2, 65536), (32, 64)], .mem, .vol, [⟨31, 0, .rw, 0, []⟩]⟩,
  ⟨0x40041014, [(2, 65536), (32, 64)], .mem, .vol, [⟨13, 0, .ro, 0, []⟩, ⟨18, 14, .ro, 0, []⟩, ⟨28, 19, .ro, 0, []⟩, ⟨31, 29, .ro, 0, []⟩]⟩,
  ⟨0x40041018, [(2, 65536), (32, 64)], .mem, .vol, [⟨3, 0, .ro, 0, []⟩]⟩,
  ⟨0x40043000, [(2, 65536), (32, 256)], .mem, .vol, [⟨1, 0, .ro, 0, []⟩]⟩,
  ⟨0x40043004, [(2, 65536), (32, 256)], .mem, .vol, [⟨31, 0, .ro, 0, []⟩]⟩,
  ⟨0x40043008, [(2, 65536), (32, 256)], .mem, .vol, [⟨28, 0, .ro, 0, []⟩]⟩,
  ⟨0x4004300C, [(2, 65536), (32, 256)], .mem, .vol, [⟨9, 0, .ro, 0, []⟩, ⟨12, 10, .ro, 0, []⟩]⟩,
  ⟨0x40043010, [(2, 65536), (32, 256)], .mem, .vol, [⟨31, 0, .ro, 0, []⟩]⟩]

/-- Registers of page 0x4004, part 2: R793 DIAG_OPEN, R793 DIAG_QCNT, R793 DIAG_Q. -/
def regs4004b : List RegDef := [
  ⟨0x40043014, [(2, 65536), (32, 256)], .mem, .vol, [⟨31, 0, .ro, 0, []⟩]⟩,
  ⟨0x40043018, [(2, 65536), (32, 256)], .mem, .vol, [⟨6, 0, .ro, 0, []⟩, ⟨14, 8, .ro, 0, []⟩, ⟨31, 16, .ro, 0, []⟩]⟩,
  ⟨0x40043040, [(2, 65536), (32, 256), (48, 4)], .mem, .vol, [⟨31, 0, .ro, 0, []⟩]⟩]

/-- Registers of page 0x4006, part 1: R906 SNS_CH_EN, R906 SNS_FLAGS, R906 SNS_FIR_CFG, R906 SNS_BMRATE, R906 SNS_GRP_CFG, R906 SNS_GRP_RNG, R906 SNS_GRP_STAT, R906 SNS_FIR0, R906 SNS_FIR, R906 SNS_GAIN, R906, R878: row t = 3, R906 SNS_FRAC, R906 SNS_BM_MASK, R906 SNS_BM_DLY, R906 SNS_BM_W, R906 SNS_CAP_BASE_LO, R906 SNS_CAP_BASE_HI, R906 SNS_CAP_SIZE, R906 SNS_CAP_CTL, R906 SNS_CAP_THR, R906 SNS_CAP_STAT, R906 SNS_CAP_WIDX, R906 SNS_CAP_CNT, R906 SNS_TRIG_LO. -/
def regs4006a : List RegDef := [
  ⟨0x40060000, [], .sns, .keep, [⟨31, 0, .rw, 0, []⟩]⟩,
  ⟨0x40060004, [], .sns, .keep, [⟨3, 0, .w1c, 0, []⟩, ⟨7, 4, .w1c, 0, []⟩, ⟨11, 8, .w1c, 0, []⟩, ⟨27, 16, .w1c, 0, []⟩]⟩,
  ⟨0x40060008, [], .sns, .keep, [⟨6, 0, .rw, 1, [(0, 0), (65, 127)]⟩]⟩,
  ⟨0x4006000C, [], .sns, .keep, [⟨7, 0, .w1c, 0, []⟩, ⟨15, 8, .w1c, 0, []⟩]⟩,
  ⟨0x40060010, [(4, 4)], .sns, .keep, [⟨4, 0, .rw, 4, [(17, 31)]⟩, ⟨15, 8, .rw, 15, [(0, 6)]⟩, ⟨17, 16, .rw, 1, [(3, 3)]⟩, ⟨18, 18, .rw, 0, []⟩, ⟨19, 19, .rw, 0, []⟩, ⟨22, 20, .rw, 0, []⟩, ⟨24, 24, .rw, 1, []⟩, ⟨26, 25, .rw, 0, []⟩, ⟨28, 27, .rw, 0, [(3, 3)]⟩]⟩,
  ⟨0x40060020, [(4, 4)], .sns, .keep, [⟨7, 0, .rw, 243, []⟩, ⟨15, 8, .rw, 48, []⟩, ⟨31, 16, .rw, 9600, [(0, 0)]⟩]⟩,
  ⟨0x40060030, [(4, 4)], .sns, .keep, [⟨1, 0, .ro, 0, []⟩, ⟨2, 2, .ro, 0, []⟩, ⟨14, 8, .ro, 8, []⟩]⟩,
  ⟨0x40060080, [], .sns, .keep, [⟨23, 0, .rw, 8388607, []⟩]⟩,
  ⟨0x40060084, [(31, 4)], .sns, .keep, [⟨23, 0, .rw, 0, []⟩]⟩,
  ⟨0x40060100, [(128, 4)], .sns, .keep, [⟨23, 0, .rw, 65536, []⟩]⟩,
  ⟨0x4006030C, [(16, 32)], .sns, .keep, [⟨23, 0, .rw, 4194304, []⟩]⟩,
  ⟨0x40060300, [(16, 32), (8, 4)], .sns, .keep, [⟨23, 0, .rw, 0, []⟩]⟩,
  ⟨0x40060800, [(8, 4)], .sns, .keep, [⟨31, 0, .rw, 0, []⟩]⟩,
  ⟨0x40061000, [(256, 8)], .sns, .keep, [⟨11, 0, .rw, 0, []⟩, ⟨19, 16, .rw, 0, []⟩]⟩,
  ⟨0x40061004, [(256, 8)], .sns, .keep, [⟨31, 0, .rw, 0, []⟩]⟩,
  ⟨0x40062000, [(40, 32)], .sns, .keep, [⟨31, 0, .ro, 0, []⟩]⟩,
  ⟨0x40062004, [(40, 32)], .sns, .keep, [⟨15, 0, .ro, 0, []⟩]⟩,
  ⟨0x40062008, [(40, 32)], .sns, .keep, [⟨31, 0, .ro, 0, []⟩]⟩,
  ⟨0x4006200C, [(40, 32)], .sns, .keep, [⟨7, 0, .ro, 0, []⟩, ⟨9, 8, .ro, 0, []⟩]⟩,
  ⟨0x40062010, [(40, 32)], .sns, .keep, [⟨31, 0, .rw, 2139095040, []⟩]⟩,
  ⟨0x40062014, [(40, 32)], .sns, .keep, [⟨0, 0, .ro, 0, []⟩, ⟨1, 1, .ro, 0, []⟩, ⟨2, 2, .ro, 0, []⟩, ⟨8, 8, .w1c, 0, []⟩, ⟨24, 24, .w1c, 0, []⟩]⟩,
  ⟨0x40062018, [(40, 32)], .sns, .keep, [⟨31, 0, .ro, 0, []⟩]⟩,
  ⟨0x4006201C, [(40, 32)], .sns, .keep, [⟨15, 0, .rw, 0, []⟩, ⟨31, 16, .rw, 0, []⟩]⟩,
  ⟨0x40062800, [], .sns, .keep, [⟨31, 0, .wo, 0, []⟩]⟩]

/-- Registers of page 0x4006, part 2: R906 SNS_TRIG_HI, R906 SNS_WAKE_CFG, R906 SNS_WAKE_BQ, R906 SNS_WAKE_BAND, R906 SNS_WAKE_FLOOR, R906 SNS_WAKE_E, R906 SNS_WAKE_STAT, R906 SNS_WAKE_BEAM. -/
def regs4006b : List RegDef := [
  ⟨0x40062804, [], .sns, .keep, [⟨7, 0, .wo, 0, []⟩]⟩,
  ⟨0x40063000, [], .snsw, .aon, [⟨2, 0, .rw, 0, [(5, 7)]⟩, ⟨5, 4, .rw, 2, [(3, 3)]⟩, ⟨11, 8, .rw, 9, [(0, 5), (11, 15)]⟩, ⟨15, 12, .rw, 3, []⟩, ⟨19, 16, .rw, 0, []⟩, ⟨20, 20, .rw, 0, []⟩, ⟨23, 22, .rw, 0, []⟩]⟩,
  ⟨0x40063010, [(4, 32), (5, 4)], .snsw, .aon, [⟨23, 0, .rw, 0, []⟩]⟩,
  ⟨0x40063090, [(4, 4)], .snsw, .aon, [⟨4, 0, .rw, 12, [(0, 2), (31, 31)]⟩, ⟨13, 8, .rw, 10, [(0, 0), (61, 63)]⟩]⟩,
  ⟨0x400630A0, [(4, 4)], .snsw, .aon, [⟨15, 0, .rw, 0, []⟩]⟩,
  ⟨0x400630B0, [(4, 4)], .snsw, .aon, [⟨15, 0, .ro, 62976, []⟩]⟩,
  ⟨0x400630C0, [], .snsw, .aon, [⟨0, 0, .ro, 0, []⟩, ⟨7, 4, .ro, 0, []⟩, ⟨12, 8, .ro, 0, []⟩]⟩,
  ⟨0x400630D0, [(4, 4)], .snsw, .aon, [⟨5, 0, .rw, 0, []⟩, ⟨31, 16, .rw, 0, []⟩]⟩]

/-- Registers of page 0x4007, part 1: R950 SIG_CORE_STAT, R950 SIG_CORE_TRIG, R950 SIG_CORE_ENTRY, R950 SIG_CORE_FLAGS, R950 SIG_CORE_FAULT, R950 SIG_CORE_CNT, R950 SIG_CORE_RUNS, R950 SIG_CORE_CYC, R950 SIG_CORE_MADDR, R950 SIG_CORE_MDATA, R951 SIG_SOFT. -/
def regs4007a : List RegDef := [
  ⟨0x40070000, [(16, 256)], .sig, .vol, [⟨2, 0, .ro, 0, []⟩, ⟨3, 3, .ro, 0, []⟩, ⟨11, 8, .ro, 0, []⟩, ⟨26, 16, .ro, 0, []⟩]⟩,
  ⟨0x40070004, [(16, 256)], .sig, .vol, [⟨7, 0, .ro, 0, []⟩, ⟨9, 8, .ro, 0, []⟩]⟩,
  ⟨0x40070008, [(16, 256)], .sig, .vol, [⟨10, 0, .rw, 0, []⟩]⟩,
  ⟨0x4007000C, [(16, 256)], .sig, .vol, [⟨31, 0, .w1c, 0, []⟩]⟩,
  ⟨0x40070010, [(16, 256)], .sig, .vol, [⟨7, 0, .ro, 0, []⟩, ⟨18, 8, .ro, 0, []⟩]⟩,
  ⟨0x40070014, [(16, 256)], .sig, .vol, [⟨15, 0, .rw, 0, []⟩, ⟨31, 16, .rw, 0, []⟩]⟩,
  ⟨0x40070018, [(16, 256)], .sig, .vol, [⟨31, 0, .rw, 0, []⟩]⟩,
  ⟨0x4007001C, [(16, 256)], .sig, .vol, [⟨31, 0, .ro, 0, []⟩]⟩,
  ⟨0x40070020, [(16, 256)], .sig, .vol, [⟨12, 0, .rw, 0, []⟩, ⟨17, 16, .rw, 0, []⟩]⟩,
  ⟨0x40070024, [(16, 256)], .sig, .vol, [⟨31, 0, .rw, 0, []⟩]⟩,
  ⟨0x40071000, [], .sig, .vol, [⟨15, 0, .wo, 0, []⟩]⟩]

/-- Registers of page 0x4008, part 1: R1002 GFX_STAT, R1002 GFX_FLAGS, R1002 GFX_BINMEM_BASE_LO, R1002 GFX_BINMEM_BASE_HI, R1002 GFX_BINMEM_SIZE, R1002 GFX_AUTO_CLR, R1002 GFX_CNT_FLUSH, R1002 GFX_CNT_DISC, R1002 GFX_FBK_CNT, R1002 GFX_FBK_DROP, R1002 GFX_AUTO_HIST, R1002 DPY_STAT, R1002 DPY_FLAGS, R1002 DPY_AUX_CTL, R1002 DPY_AUX_STAT, R1002 DPY_AUX_DATA. -/
def regs4008a : List RegDef := [
  ⟨0x40080000, [], .gfx, .core, [⟨2, 0, .ro, 0, []⟩, ⟨3, 3, .ro, 0, []⟩, ⟨8, 4, .ro, 0, []⟩]⟩,
  ⟨0x40080004, [], .gfx, .core, [⟨0, 0, .w1c, 0, []⟩, ⟨16, 16, .w1c, 0, []⟩]⟩,
  ⟨0x40080008, [], .gfx, .core, [⟨31, 0, .rw, 0, []⟩]⟩,
  ⟨0x4008000C, [], .gfx, .core, [⟨15, 0, .rw, 0, []⟩]⟩,
  ⟨0x40080010, [], .gfx, .core, [⟨31, 0, .rw, 0, []⟩]⟩,
  ⟨0x40080014, [], .gfx, .core, [⟨15, 0, .wo, 0, []⟩]⟩,
  ⟨0x40080018, [], .gfx, .core, [⟨31, 0, .rw, 0, []⟩]⟩,
  ⟨0x4008001C, [], .gfx, .core, [⟨31, 0, .rw, 0, []⟩]⟩,
  ⟨0x40080020, [], .gfx, .core, [⟨31, 0, .ro, 0, []⟩]⟩,
  ⟨0x40080024, [], .gfx, .core, [⟨31, 0, .rw, 0, []⟩]⟩,
  ⟨0x40080040, [(16, 4)], .gfx, .core, [⟨30, 0, .ro, 0, []⟩, ⟨31, 31, .ro, 0, []⟩]⟩,
  ⟨0x40088000, [], .dpy, .vol, [⟨2, 0, .ro, 0, []⟩, ⟨3, 3, .ro, 0, []⟩, ⟨6, 4, .ro, 0, []⟩, ⟨9, 8, .ro, 0, []⟩]⟩,
  ⟨0x40088004, [], .dpy, .vol, [⟨0, 0, .w1c, 0, []⟩, ⟨1, 1, .w1c, 0, []⟩, ⟨17, 16, .w1c, 0, []⟩]⟩,
  ⟨0x40088010, [], .dpy, .vol, [⟨19, 0, .rw, 0, []⟩, ⟨23, 20, .rw, 0, []⟩, ⟨24, 24, .rw, 0, []⟩, ⟨25, 25, .rw, 0, []⟩, ⟨26, 26, .rw, 0, []⟩, ⟨31, 31, .w1s, 0, []⟩]⟩,
  ⟨0x40088014, [], .dpy, .vol, [⟨1, 0, .ro, 0, []⟩]⟩,
  ⟨0x40088020, [(4, 4)], .dpy, .vol, [⟨31, 0, .rw, 0, []⟩]⟩]

/-- Registers of page 0x4009, part 1: R1051 NET_P_CFG, R1051 NET_P_STAT, R1051 NET_P_FLAGS, R1051 NET_EXC_POLICY, R1051 NET_P_DEF, R1051 NET_P_TS_LAT, R1051 NET_P_CNT_RX_OK, R1051 NET_P_CNT_FCS, R1051 NET_P_CNT_RUNT, R1051 NET_P_CNT_LONG, R1051 NET_P_CNT_DEEP, R1051 NET_P_CNT_LEN, R1051 NET_P_CNT_NOBUF, R1051 NET_P_CNT_TX_OK, R1051 NET_P_CNT_STOMP, R1051 NET_P_RX_TAIL, R1051 NET_P_RX_HEAD, R1051 NET_P_RX_ENTRIES, R1051 NET_P_TX_TAIL, R1051 NET_P_TX_HEAD, R1051 NET_P_TX_ENTRIES, R1051 NET_P_SHP_RATE, R1051 NET_P_SHP_BUCKET, R1051 NET_P_SHP_CNT. -/
def regs4009a : List RegDef := [
  ⟨0x40090000, [(2, 4096)], .net, .keep, [⟨1, 0, .ro, 0, []⟩, ⟨2, 2, .rw, 0, []⟩, ⟨3, 3, .rw, 1, []⟩, ⟨5, 4, .ro, 0, []⟩, ⟨29, 16, .rw, 1518, [(0, 63), (9217, 16383)]⟩]⟩,
  ⟨0x40090004, [(2, 4096)], .net, .keep, [⟨0, 0, .ro, 0, []⟩, ⟨1, 1, .ro, 0, []⟩]⟩,
  ⟨0x40090008, [(2, 4096)], .net, .keep, [⟨6, 0, .w1c, 0, []⟩, ⟨22, 16, .w1c, 0, []⟩]⟩,
  ⟨0x4009000C, [(2, 4096)], .net, .keep, [⟨0, 0, .rw, 0, []⟩, ⟨1, 1, .rw, 0, []⟩, ⟨7, 4, .rw, 15, []⟩]⟩,
  ⟨0x40090010, [(2, 4096)], .net, .keep, [⟨3, 0, .rw, 0, []⟩, ⟨4, 4, .rw, 0, []⟩]⟩,
  ⟨0x40090014, [(2, 4096)], .net, .keep, [⟨15, 0, .rw, 0, []⟩, ⟨31, 16, .rw, 0, []⟩]⟩,
  ⟨0x40090020, [(2, 4096)], .net, .keep, [⟨31, 0, .rw, 0, []⟩]⟩,
  ⟨0x40090024, [(2, 4096)], .net, .keep, [⟨31, 0, .rw, 0, []⟩]⟩,
  ⟨0x40090028, [(2, 4096)], .net, .keep, [⟨31, 0, .rw, 0, []⟩]⟩,
  ⟨0x4009002C, [(2, 4096)], .net, .keep, [⟨31, 0, .rw, 0, []⟩]⟩,
  ⟨0x40090030, [(2, 4096)], .net, .keep, [⟨31, 0, .rw, 0, []⟩]⟩,
  ⟨0x40090034, [(2, 4096)], .net, .keep, [⟨31, 0, .rw, 0, []⟩]⟩,
  ⟨0x40090038, [(2, 4096)], .net, .keep, [⟨31, 0, .rw, 0, []⟩]⟩,
  ⟨0x4009003C, [(2, 4096)], .net, .keep, [⟨31, 0, .rw, 0, []⟩]⟩,
  ⟨0x40090040, [(2, 4096)], .net, .keep, [⟨31, 0, .rw, 0, []⟩]⟩,
  ⟨0x40090100, [(2, 4096), (16, 16)], .net, .keep, [⟨15, 0, .rw, 0, []⟩]⟩,
  ⟨0x40090104, [(2, 4096), (16, 16)], .net, .keep, [⟨15, 0, .ro, 0, []⟩]⟩,
  ⟨0x40090108, [(2, 4096), (16, 16)], .net, .keep, [⟨15, 0, .ro, 0, []⟩]⟩,
  ⟨0x40090200, [(2, 4096), (8, 16)], .net, .keep, [⟨15, 0, .rw, 0, []⟩]⟩,
  ⟨0x40090204, [(2, 4096), (8, 16)], .net, .keep, [⟨15, 0, .ro, 0, []⟩]⟩,
  ⟨0x40090208, [(2, 4096), (8, 16)], .net, .keep, [⟨15, 0, .ro, 0, []⟩]⟩,
  ⟨0x40090300, [(2, 4096), (8, 16)], .net, .keep, [⟨13, 0, .rw, 10000, [(0, 0), (10001, 16383)]⟩]⟩,
  ⟨0x40090304, [(2, 4096), (8, 16)], .net, .keep, [⟨20, 0, .rw, 16384, [(1048577, 2097151)]⟩]⟩,
  ⟨0x40090308, [(2, 4096), (8, 16)], .net, .keep, [⟨31, 0, .ro, 16384, []⟩]⟩]

/-- Registers of page 0x4009, part 2: R1051 NET_SHP_CTL, R1051 NET_HST_PORT, R1051 NET_RULE_FREE. -/
def regs4009b : List RegDef := [
  ⟨0x40092000, [], .net, .keep, [⟨0, 0, .wo, 0, []⟩, ⟨6, 4, .wo, 0, []⟩, ⟨8, 8, .wo, 0, []⟩]⟩,
  ⟨0x40092004, [], .net, .keep, [⟨15, 0, .rw, 18515, []⟩, ⟨16, 16, .rw, 0, []⟩]⟩,
  ⟨0x40092008, [], .net, .keep, [⟨11, 0, .ro, 2304, []⟩]⟩]

/-- Registers of page 0x400A, part 1: R1087 PCIE_STAT, R1087 PCIE_CTL, R1087 PCIE_VF_CFG, R1087 PCIE_FLAGS, R1087 PCIE_FLR_STAT, R1087 PCIE_DMA_STAT. -/
def regs400Aa : List RegDef := [
  ⟨0x400A0000, [], .pcie, .keep, [⟨2, 0, .ro, 0, []⟩, ⟨7, 4, .ro, 0, []⟩, ⟨8, 8, .ro, 0, []⟩, ⟨9, 9, .ro, 0, []⟩, ⟨10, 10, .ro, 0, []⟩]⟩,
  ⟨0x400A0004, [], .pcie, .keep, [⟨0, 0, .rw, 0, []⟩]⟩,
  ⟨0x400A0008, [], .pcie, .keep, [⟨5, 0, .rw, 30, [(0, 25), (36, 63)]⟩]⟩,
  ⟨0x400A000C, [], .pcie, .keep, [⟨0, 0, .w1c, 0, []⟩, ⟨1, 1, .w1c, 0, []⟩, ⟨2, 2, .w1c, 0, []⟩, ⟨3, 3, .w1c, 0, []⟩, ⟨4, 4, .w1c, 0, []⟩, ⟨5, 5, .w1c, 0, []⟩, ⟨21, 16, .w1c, 0, []⟩]⟩,
  ⟨0x400A0010, [], .pcie, .keep, [⟨16, 1, .ro, 0, []⟩]⟩,
  ⟨0x400A0014, [], .pcie, .keep, [⟨7, 0, .ro, 0, []⟩]⟩]

/-- Registers of page 0x400B, part 1: R1142 TBL_STAT, R1142 TBL_DIS, R1142 TBL_CFG, R1142 TBL_EPOCH, R1142 TBL_PROTO, R1142 TBL_SPARE, R1142 TBL_MIRROR, R1142 TBL_MIRSTAT, R1142 TBL_ROUTE, R1142 TBL_TIME_LO, R1142 TBL_TIME_HI, R1142 TBL_TIME_TOL, R1142 TBL_TIME_OFS, R1142 TBL_TIME_ERR, R1142 TBL_ALARM_LO, R1142 TBL_ALARM_HI, R1142 TBL_ALARM_SNS, R1142 TBL_ALARM_CTL, R1142 TBL_PEER0, R1142 TBL_PEER1, R1142 TBL_MAP0, R1142 TBL_MAP1, R1142 LNK_STAT, R1142 LNK_FLAGS. -/
def regs400Ba : List RegDef := [
  ⟨0x400B0000, [], .tbl, .keep, [⟨2, 0, .ro, 0, []⟩, ⟨6, 4, .ro, 0, []⟩, ⟨15, 8, .ro, 0, []⟩, ⟨23, 16, .ro, 0, []⟩, ⟨26, 24, .ro, 0, []⟩, ⟨27, 27, .ro, 0, []⟩, ⟨28, 28, .ro, 0, []⟩, ⟨29, 29, .ro, 0, []⟩]⟩,
  ⟨0x400B0004, [], .tbl, .keep, [⟨9, 0, .w1c, 0, []⟩, ⟨25, 16, .w1c, 0, []⟩]⟩,
  ⟨0x400B0008, [], .tbl, .keep, [⟨7, 0, .rw, 20, [(0, 0)]⟩, ⟨8, 8, .rw, 1, []⟩, ⟨9, 9, .rw, 1, []⟩]⟩,
  ⟨0x400B000C, [], .tbl, .keep, [⟨31, 0, .ro, 0, []⟩]⟩,
  ⟨0x400B0010, [], .tbl, .keep, [⟨7, 0, .rwl, 2, []⟩, ⟨15, 8, .rwl, 2, []⟩, ⟨23, 16, .ro, 0, []⟩]⟩,
  ⟨0x400B0014, [], .tbl, .keep, [⟨15, 0, .ro, 0, []⟩]⟩,
  ⟨0x400B0018, [], .tbl, .keep, [⟨15, 0, .rw, 0, []⟩, ⟨31, 16, .rw, 0, []⟩]⟩,
  ⟨0x400B001C, [], .tbl, .keep, [⟨15, 0, .ro, 0, []⟩, ⟨18, 16, .ro, 0, []⟩, ⟨22, 20, .ro, 0, []⟩]⟩,
  ⟨0x400B0020, [], .tbl, .keep, [⟨15, 0, .ro, 0, []⟩]⟩,
  ⟨0x400B0030, [], .tbl, .keep, [⟨31, 0, .ro, 0, []⟩]⟩,
  ⟨0x400B0034, [], .tbl, .keep, [⟨31, 0, .ro, 0, []⟩]⟩,
  ⟨0x400B0038, [], .tbl, .keep, [⟨15, 0, .rw, 100, [(0, 0)]⟩]⟩,
  ⟨0x400B003C, [], .tbl, .keep, [⟨31, 0, .wo, 0, []⟩]⟩,
  ⟨0x400B0040, [], .tbl, .keep, [⟨31, 0, .ro, 0, []⟩]⟩,
  ⟨0x400B0048, [], .tbl, .keep, [⟨31, 0, .rw, 0, []⟩]⟩,
  ⟨0x400B004C, [], .tbl, .keep, [⟨31, 0, .rw, 0, []⟩]⟩,
  ⟨0x400B0050, [], .tbl, .keep, [⟨31, 0, .rw, 0, []⟩]⟩,
  ⟨0x400B0054, [], .tbl, .keep, [⟨7, 0, .rw, 0, []⟩, ⟨8, 8, .rw, 0, []⟩, ⟨31, 16, .rw, 0, []⟩]⟩,
  ⟨0x400B0080, [(8, 8)], .tbl, .keep, [⟨15, 0, .ro, 0, []⟩, ⟨23, 16, .ro, 0, []⟩, ⟨31, 24, .ro, 0, []⟩]⟩,
  ⟨0x400B0084, [(8, 8)], .tbl, .keep, [⟨23, 0, .ro, 0, []⟩, ⟨26, 24, .ro, 0, []⟩, ⟨31, 31, .ro, 0, []⟩]⟩,
  ⟨0x400B0400, [(128, 8)], .tbl, .keep, [⟨1, 0, .ro, 0, []⟩, ⟨6, 4, .ro, 0, []⟩, ⟨11, 8, .ro, 0, []⟩, ⟨31, 16, .ro, 0, []⟩]⟩,
  ⟨0x400B0404, [(128, 8)], .tbl, .keep, [⟨15, 0, .ro, 0, []⟩, ⟨31, 16, .ro, 0, []⟩]⟩,
  ⟨0x400B1000, [(4, 256)], .lnk, .vol, [⟨2, 0, .ro, 0, []⟩, ⟨3, 3, .ro, 0, []⟩, ⟨6, 4, .ro, 0, []⟩, ⟨9, 8, .ro, 0, []⟩]⟩,
  ⟨0x400B1004, [(4, 256)], .lnk, .vol, [⟨4, 0, .w1c, 0, []⟩, ⟨20, 16, .w1c, 0, []⟩]⟩]

/-- Registers of page 0x400B, part 2: R1142 LNK_CNT_LCRC, R1142 LNK_CNT_REPLAY, R1142 LNK_DELAY. -/
def regs400Bb : List RegDef := [
  ⟨0x400B1008, [(4, 256)], .lnk, .vol, [⟨31, 0, .rw, 0, []⟩]⟩,
  ⟨0x400B100C, [(4, 256)], .lnk, .vol, [⟨31, 0, .rw, 0, []⟩]⟩,
  ⟨0x400B1010, [(4, 256)], .lnk, .vol, [⟨31, 0, .ro, 0, []⟩]⟩]

/-- Registers of page 0x400C, part 1: R1185 ERR_FATAL, R1185 ERR_FATAL_CODE, R1185 ERR_ALERT, R1185 ERR_ALERT_EN, R1185 ERR_MASK, R1185 ERR_LOG_WIDX, R1185 ERR_DROP, R1185 ERR_FLAGS, R1185 ERR_SCRUB_CFG, R1185 ERR_SCRUB_STAT, R1185 ERR_SCRUB_PASS, R1185 ERR_CNT. -/
def regs400Ca : List RegDef := [
  ⟨0x400C0000, [], .err, .vol, [⟨14, 1, .w1c, 0, []⟩, ⟨30, 17, .w1c, 0, []⟩]⟩,
  ⟨0x400C0004, [], .err, .vol, [⟨15, 0, .ro, 0, []⟩]⟩,
  ⟨0x400C0008, [], .err, .vol, [⟨2, 0, .w1c, 0, []⟩, ⟨18, 16, .w1c, 0, []⟩]⟩,
  ⟨0x400C000C, [], .err, .vol, [⟨2, 0, .rw, 7, []⟩]⟩,
  ⟨0x400C0010, [], .err, .vol, [⟨14, 1, .rw, 0, []⟩]⟩,
  ⟨0x400C0014, [], .err, .vol, [⟨31, 0, .ro, 0, []⟩]⟩,
  ⟨0x400C0018, [], .err, .vol, [⟨15, 0, .rw, 0, []⟩]⟩,
  ⟨0x400C001C, [], .err, .vol, [⟨0, 0, .w1c, 0, []⟩, ⟨1, 1, .w1c, 0, []⟩, ⟨17, 16, .w1c, 0, []⟩]⟩,
  ⟨0x400C0020, [], .err, .vol, [⟨0, 0, .rw, 1, []⟩, ⟨15, 8, .rw, 8, [(0, 0)]⟩]⟩,
  ⟨0x400C0024, [], .err, .vol, [⟨16, 0, .ro, 0, []⟩, ⟨31, 31, .ro, 0, []⟩]⟩,
  ⟨0x400C0028, [], .err, .vol, [⟨31, 0, .rw, 0, []⟩]⟩,
  ⟨0x400C0104, [(14, 4)], .err, .vol, [⟨31, 0, .rw, 0, []⟩]⟩]

/-- Registers of page 0x400D, part 1: R687 PACE_BW, R855 PACE_CFG, R855 PACE_BAND, R855 PACE_STAT, R855 PACE_CNT, R1234 THM_TEMP, R1234 THM_TMAX, R1234 THM_CAP_CFG, R1234 THM_CAP_STAT, R1234 THM_ALARM, R1234 THM_CRIT, R1234 THM_VID, R1234 THM_RAIL. -/
def regs400Da : List RegDef := [
  ⟨0x400D0400, [(16, 4)], .pace, .vol, [⟨28, 24, .rw, 0, [(17, 31)]⟩, ⟨20, 16, .rw, 0, [(17, 31)]⟩, ⟨12, 8, .rw, 0, [(17, 31)]⟩, ⟨0, 0, .rw, 0, []⟩]⟩,
  ⟨0x400D0000, [(16, 16)], .pace, .vol, [⟨4, 0, .rw, 0, [(29, 31)]⟩, ⟨12, 8, .rw, 28, [(29, 31)]⟩, ⟨21, 16, .rw, 16, [(0, 3), (5, 7), (9, 11), (13, 15), (17, 19), (21, 23), (25, 27), (29, 31), (33, 35), (37, 39), (41, 43), (45, 47), (49, 51), (53, 55), (57, 59), (61, 63)]⟩]⟩,
  ⟨0x400D0004, [(16, 16)], .pace, .vol, [⟨7, 0, .rw, 16, []⟩, ⟨15, 8, .rw, 32, []⟩]⟩,
  ⟨0x400D0008, [(16, 16)], .pace, .vol, [⟨4, 0, .ro, 0, []⟩, ⟨12, 8, .ro, 0, []⟩, ⟨23, 16, .ro, 0, []⟩, ⟨25, 24, .ro, 3, []⟩, ⟨26, 26, .ro, 0, []⟩]⟩,
  ⟨0x400D000C, [(16, 16)], .pace, .vol, [⟨15, 0, .rw, 0, []⟩, ⟨31, 16, .rw, 0, []⟩]⟩,
  ⟨0x400D0800, [(18, 4)], .pace, .vol, [⟨15, 0, .ro, 0, []⟩]⟩,
  ⟨0x400D0850, [], .pace, .vol, [⟨15, 0, .ro, 0, []⟩, ⟨20, 16, .ro, 0, []⟩]⟩,
  ⟨0x400D0860, [], .pace, .vol, [⟨7, 0, .rw, 102, []⟩, ⟨15, 8, .rw, 98, []⟩, ⟨20, 16, .rw, 0, [(29, 31)]⟩, ⟨31, 24, .rw, 10, [(0, 0)]⟩]⟩,
  ⟨0x400D0864, [], .pace, .vol, [⟨4, 0, .ro, 28, []⟩, ⟨8, 8, .ro, 0, []⟩]⟩,
  ⟨0x400D0868, [], .pace, .vol, [⟨7, 0, .rw, 100, []⟩, ⟨15, 8, .rw, 95, []⟩]⟩,
  ⟨0x400D086C, [], .pace, .fuse, [⟨7, 0, .ro, 115, []⟩]⟩,
  ⟨0x400D0870, [], .pace, .fuse, [⟨9, 0, .ro, 0, []⟩]⟩,
  ⟨0x400D0874, [], .pace, .vol, [⟨9, 0, .ro, 0, []⟩]⟩]

/-- Registers of page 0x400E, part 1: R206 DBG_CTL. -/
def regs400Ea : List RegDef := [
  ⟨0x400E0000, [], .dbg, .debug, [⟨2, 2, .ro, 0, []⟩, ⟨1, 1, .ro, 0, []⟩, ⟨0, 0, .rw, 0, []⟩]⟩]

/-- Registers of page 0x6100, part 1: R341 FAB_INFO, R342 FAB_UREG_TMO, R343 FAB_UREG_ERR, R344 FAB_PLL_LOSS, R345 FAB_IO_VMIS. -/
def regs6100a : List RegDef := [
  ⟨0x61000000, [], .fab, .fuse, [⟨31, 16, .ro, 36976, []⟩, ⟨15, 0, .ro, 12288, []⟩]⟩,
  ⟨0x61000004, [], .fab, .keep, [⟨15, 0, .rw, 1024, [(0, 15)]⟩]⟩,
  ⟨0x61000008, [], .fab, .keep, [⟨0, 0, .w1c, 0, []⟩, ⟨16, 16, .w1c, 0, []⟩]⟩,
  ⟨0x6100000C, [], .fab, .keep, [⟨23, 16, .w1c, 0, []⟩, ⟨7, 0, .w1c, 0, []⟩]⟩,
  ⟨0x61000010, [], .fab, .keep, [⟨12, 0, .ro, 0, []⟩]⟩]

/-- The registers that lie on 64 KiB page `p` of the Dealer map (stack E's page repeats stack W's). -/
def regPage (p : Nat) : List RegDef :=
  if p = 0x4000 then regs4000a ++ regs4000b
  else if p = 0x4001 then regs4001a
  else if p = 0x4002 then regs4002a
  else if p = 0x4003 then regs4003a
  else if p = 0x4004 ∨ p = 0x4005 then regs4004a ++ regs4004b
  else if p = 0x4006 then regs4006a ++ regs4006b
  else if p = 0x4007 then regs4007a
  else if p = 0x4008 then regs4008a
  else if p = 0x4009 then regs4009a ++ regs4009b
  else if p = 0x400A then regs400Aa
  else if p = 0x400B then regs400Ba ++ regs400Bb
  else if p = 0x400C then regs400Ca
  else if p = 0x400D then regs400Da
  else if p = 0x400E then regs400Ea
  else if p = 0x6100 then regs6100a
  else []

/-- Is `off` an offset of an array with these dimensions? -/
def dimsHit : List (Nat × Nat) → Nat → Bool
  | [], off => off == 0
  | (n, s) :: ds, off =>
    if dimsHit ds (off % s) then decide (off / s < n) else false

/-- Does the register table hold address `a`? -/
def RegDef.hit (r : RegDef) (a : Nat) : Bool := decide (r.base ≤ a) && dimsHit r.dims (a - r.base)

/-- The table entry of the register at address `a`, if one is assigned. -/
def regDef? (a : Nat) : Option RegDef := (regPage (a / 0x10000)).find? (fun r => r.hit a)

/-- The reset value of the register at address `a` (R11); unassigned addresses read 0 (R15). -/
def resetWord (a : Nat) : BitVec 32 :=
  match regDef? a with
  | some r => BitVec.ofNat 32 (r.fields.foldl (fun v f => v + f.reset <<< f.lo) 0)
  | none => 0

/-- Is `x` a reserved encoding of the field (R16)? -/
def FieldDef.reserved (f : FieldDef) (x : Nat) : Bool := f.rsv.any (fun r => decide (r.1 ≤ x ∧ x ≤ r.2))

end Sys2Proof.Machine
end

