-- ==== Sys2Proof/Machine/TypesCore.lean ====
section
/-!
DEFINITION. Parts of the state shared by every block: error reports and the collector (chapter 22), mailboxes
(chapter 7), PCIe and its DMA engines (chapter 20), packets, network interfaces and folds (chapter 13),
and the part's memories with their poison marks.
-/
namespace Sys2Proof.Machine

open Sys2Proof

/-- An error report on its way to the collector (R1164, R1165). `blk` names the reporting block's own queue (R1240). -/
structure Report where
  cls : Nat
  code : Nat
  node : Nat
  seat : Nat
  blk : Nat
  addr : Option Nat
  synd : Nat
  count : Nat
  poison : Bool
  time : Nat
deriving DecidableEq, Repr

/-- The last log entry written, for merging (R1168). -/
structure LastEntry where
  cls : Nat
  code : Nat
  node : Nat
  addr : Option Nat
  time : Nat
  slot : Nat
deriving DecidableEq, Repr

/-- The error collector, node 648. -/
structure ErrState where
  /-- reports in the block queues, in the order raised (R1240) -/
  blkQ : List Report
  /-- reports each block has dropped and not yet handed on (R1240) -/
  blkDrop : SMap Nat
  /-- block the round-robin served last (R1240) -/
  lastBlk : Nat
  /-- the collector's queue of non-fatal reports, 64 deep (R1159) -/
  queue : List Report
  last : Option LastEntry
  /-- lasting fatal conditions, as class × 256 + code (R1241) -/
  lasting : NSet
  /-- a system reset that a fatal error requested is pending (R1181) -/
  rstPend : Bool
  /-- alarm conditions that are on (R1226: 0 DIE, 1 HBM_W, 2 HBM_E) and catastrophic-temperature outputs driven (3, 4) -/
  alarm : NSet
  /-- next frame of the configuration scrub (R1172) -/
  scrubNext : Nat
deriving DecidableEq, Repr

/-- A command in flight (R359, R362): the entry's 64 bytes and its place in take order. -/
structure InFlight where
  mb : Nat
  hd : Nat
  seq : Nat
  entry : List Byte
  /-- its unit has begun it, and it ends by a later event -/
  started : Bool
deriving DecidableEq, Repr

/-- An event entry waiting for a completion slot (R378, R379). -/
structure Evt where
  code : Nat
  result : Nat
  status : Nat
deriving DecidableEq, Repr

/-- The mailbox block's state beside its registers. -/
structure MbxState where
  infl : List InFlight
  nextSeq : Nat
  /-- unsignalled completions of each mailbox (R375) -/
  unsig : SMap Nat
  /-- events waiting in each mailbox (R379) -/
  events : SMap (List Evt)
  /-- partition mailbox served last (R363) -/
  lastPart : Nat
  /-- mailbox 16 had the last take (R363) -/
  lastMgmt : Bool
  /-- entry copies of the last take (MBX_ENTRY, R399) -/
  entry : List Byte
  /-- mailbox, handle and slot of the last take, as MBX_NEXT shows them -/
  lastTake : Nat × Nat × Nat
deriving DecidableEq, Repr

/-- A read a DMA engine has issued (R1070): its length, and what has come back. -/
structure DmaReq where
  len : Nat
  got : List Byte
deriving DecidableEq, Repr

/-- A host DMA engine holding a command (R372): its host range, what has arrived in order, and the reads after that. -/
structure DmaEng where
  eng : Nat
  mb : Nat
  hd : Nat
  addr : Nat
  len : Nat
  /-- the engine reads host memory (a command that takes data from HOST) -/
  rd : Bool
  got : List Byte
  reqs : List DmaReq
deriving DecidableEq, Repr

/-- A completion TLP the endpoint returned to the host: status 0 success, 1 Unsupported Request, 4 Completer Abort. -/
structure HostCpl where
  status : Nat
  data : List Byte
  ep : Bool
deriving DecidableEq, Repr

/-- The PCIe endpoint, node 646. -/
structure PcieState where
  /-- configuration space words, by function × 4,096 + offset (R1056) -/
  cfg : SMap Word
  /-- MSI-X table words, by function × 65,536 + offset (R1058) -/
  msix : SMap Word
  /-- pending bits, by function × 64 + vector (R377) -/
  pend : NSet
  /-- MSI-X messages sent, by function × 64 + vector -/
  sent : SMap Nat
  engines : List DmaEng
  /-- level on PCIE_PERST_N -/
  perst : Bool
  /-- the link has reached L0 since configuration requests were last unserved (R1081) -/
  cfgUp : Bool
  /-- completions returned to the last read or configuration request -/
  cpl : List HostCpl
  /-- memory writes of the last DMA write: function, PCIe address, bytes (R1070) -/
  posted : List (Nat × Nat × Nat)
deriving DecidableEq, Repr

/-- A packet of the network (R696): header fields, data bytes with the POISON of each line, CRC state. -/
structure Packet where
  op : Nat
  addr : Nat
  srcSeat : Nat
  srcNode : Nat
  dstSeat : Nat
  dstNode : Nat
  prio : Nat
  tag : Nat
  status : Nat
  bytes : Nat
  aux : Nat
  data : List Byte
  /-- POISON of each 32-byte data flit -/
  poison : List Bool
  crcBad : Bool
deriving DecidableEq, Repr

/-- Why an NI closed a tag before its response (R723, R724, R728). -/
inductive Closed where
  | live | byFold | byTimeout
deriving DecidableEq, Repr

/-- A request an NI has sent without a response yet, or a tag it has closed (R704, R723). -/
structure Outst where
  node : Nat
  tag : Nat
  addr : Nat
  bytes : Nat
  write : Bool
  closed : Closed
deriving DecidableEq, Repr

/-- A response delivered at an NI and not yet consumed by its endpoint. Status 0 OK, 1 ERROR, 2 FENCED; 8 tells a failed
packet CRC (R702). -/
structure Arrived where
  node : Nat
  tag : Nat
  status : Nat
  data : List Byte
  poison : List Bool
deriving DecidableEq, Repr

/-- One fold state machine of the controller (R715, R720), while its region is FOLDING. -/
structure FoldSm where
  /-- gate the partition's power at step 7 -/
  pgate : Bool
  forced : Bool
  /-- nodes that the FOLD_REQ has not reached (step 2) -/
  waitReq : NSet
  /-- nodes whose endpoint stops and whose OUT count drains (step 3) -/
  waitOut : NSet
  /-- fenced nodes whose IN count drains (step 5) -/
  waitIn : NSet
  /-- nodes whose FENCE_DONE is on its way (step 6) -/
  waitDone : NSet
  /-- an unfold is held until step 8 (R726) -/
  held : Bool
  /-- mailbox commands (32 × mailbox + handle) waiting for the FOLD_ACK -/
  acks : List Nat
deriving DecidableEq, Repr

/-- The network: packets in flight, NIs, fences and folds. -/
structure NocState where
  pkts : List Packet
  outst : List Outst
  inbox : List Arrived
  /-- requests a fabric port has handed to user logic and that are not yet answered (R715 step 5) -/
  accepted : List Packet
  /-- INTERRUPT packets delivered and not yet consumed, as node and vector (R698) -/
  irq : List (Nat × Nat)
  nextTag : SMap Nat
  /-- fence causes of each node, as a mask -/
  fence : SMap Nat
  /-- fold machines of partitions 0-15 and fabric ports 16-79 -/
  folds : SMap FoldSm
  /-- partitions whose power is gated -/
  gated : NSet
deriving DecidableEq, Repr

/-- The part's memories (bytes by address) and their poisoned granules (R1153). -/
structure Mems where
  /-- Kitty, 8 MiB (offset in Kitty) -/
  kitty : Memory
  /-- HBM of this seat, 32 GiB -/
  hbm : Memory
  /-- Dealer SRAM, 512 KiB -/
  dsram : Memory
  /-- MRAM, 4 MiB -/
  mram : Memory
  /-- configuration flash -/
  flash : Memory
  /-- boot ROM, 64 KiB -/
  rom : Memory
  /-- bytes the part has written to host memory -/
  host : Memory
  /-- poisoned 32-byte lines of Kitty -/
  kittyP : NSet
  /-- poisoned 32-byte bursts of HBM -/
  hbmP : NSet
  /-- poisoned words (8 bytes) of the Dealer SRAM -/
  dsramP : NSet
deriving DecidableEq, Repr

/-- The collector after a system reset. -/
def ErrState.reset : ErrState :=
  { blkQ := [], blkDrop := [], lastBlk := 0, queue := [], last := none, lasting := [], rstPend := false, alarm := [],
    scrubNext := 0 }

/-- The mailboxes after a system reset. DESIGN CHOICE (assumption 79): the round-robin of R363 then starts at mailbox 0, and
mailbox 16 takes its turn first. -/
def MbxState.reset : MbxState :=
  { infl := [], nextSeq := 0, unsig := [], events := [], lastPart := 15, lastMgmt := false, entry := [],
    lastTake := (0, 0, 0) }

/-- The endpoint after a system reset, with the level of PCIE_PERST_N. -/
def PcieState.reset (perst : Bool) : PcieState :=
  { cfg := [], msix := [], pend := [], sent := [], engines := [], perst := perst, cfgUp := false, cpl := [], posted := [] }

/-- The network after a system reset: fence causes at their reset values. -/
def NocState.reset : NocState :=
  { pkts := [], outst := [], inbox := [], accepted := [], irq := [], nextTag := [], fence := [], folds := [],
    gated := [] }

/-- The memories when a part is first powered (assumption 3). -/
def Mems.reset : Mems :=
  { kitty := [], hbm := [], dsram := [], mram := [], flash := [], rom := [], host := [], kittyP := [], hbmP := [],
    dsramP := [] }

end Sys2Proof.Machine
end

