-- ==== Sys2Proof/Machine/TypesCfg.lean ====
section
/-!
DEFINITION. State of the configuration engine and of the fabric it writes (chapters 5 and 6).
-/
namespace Sys2Proof.Machine

open Sys2Proof

/-- The attempt that runs (R239, R242, R260). -/
inductive Attempt where
  | none
  /-- flash: primary_1, primary_2, stock -/
  | primary1 | primary2 | stock
  /-- a CFG_IN stream of the pins -/
  | pins
  /-- a CFG_IN stream of IMAGE_LOAD -/
  | host
  /-- a CFG_PARTIAL stream of the pins, or of PARTIAL_LOAD -/
  | partPins | partHost
deriving DecidableEq, Repr

/-- Where a partial load stands (R260). -/
inductive PartStep where
  | none
  /-- step 1: the fabric ports of its regions fold -/
  | folding
  /-- steps 2 to 4 -/
  | writing
  /-- step 5: local stages done so far -/
  | releasing (n : Nat)
deriving DecidableEq, Repr

/-- The configuration engine. -/
structure CfgEng where
  /-- a system reset or a restart has finished and the engine has not yet started from its source -/
  startPend : Bool
  /-- the clear pass under way is that of a restart (R266) -/
  restart : Bool
  attempt : Attempt
  /-- header bytes received -/
  hdr : List Byte
  /-- body bytes received, and plaintext bytes not yet judged as a record -/
  pos : Nat
  buf : List Byte
  cipher : List Byte
  plain : List Byte
  /-- data of the most recent DATA record -/
  lastData : BitVec 2048
  /-- records of the body accepted so far -/
  idx : Nat
  wrote : Bool
  /-- next byte of the image in flash -/
  fpos : Nat
  /-- stream bytes taken from the command's host buffer -/
  taken : Nat
  cmd : Option (Nat × Nat)
  /-- the AES key as the last header check read it (R232) -/
  key : List Byte
  /-- the pins' stream has ended its attempt; its further words are discarded -/
  spent : Bool
  part : PartStep
  /-- regions named by the partial image -/
  regions : Nat
  /-- PART_MASK of the loaded base image -/
  baseMask : Nat
deriving DecidableEq, Repr

/-- Who waits for the user register port. -/
inductive UReq where
  | dealer (m k : Nat)
  | tap
  | packet (p : Packet)
deriving DecidableEq, Repr

/-- An access that waits for the user register port: address, the value of a write, and its requester. -/
structure UWait where
  a : Nat
  wr : Option Nat
  who : UReq
deriving DecidableEq, Repr

/-- What the fabric's registers hold: the 16 registers of a block; of pool RAM port 2j + (1 for B) the word read and its
output register, PERR as bit 72; of a mult cell the operand registers (A in the low 24 bits), P and the output register;
of I/O pin 32n + m the input, output and output-enable registers (bits 0 to 2); and, by isolated region, the signals
leaving it that hold 1 (R260, R338). -/
structure FabRegs where
  q : SMap (BitVec 16)
  read : SMap (BitVec 73)
  readOut : SMap (BitVec 73)
  mulIn : SMap (BitVec 42)
  mulP : SMap (BitVec 48)
  mulOut : SMap (BitVec 48)
  io : SMap (BitVec 3)
  held : SMap (List Nat)
deriving DecidableEq, Repr

/-- No register of the fabric holds a 1. -/
def FabRegs.reset : FabRegs where
  q := []
  read := []
  readOut := []
  mulIn := []
  mulP := []
  mulOut := []
  io := []
  held := []

/-- DONE, release and the fabric's content. -/
structure FabState where
  /-- this seat drives DONE low for its configuration -/
  drive : Bool
  /-- DONE as the seat sees it (R249) -/
  doneHigh : Bool
  /-- steps of the staged release done: 0 unreleased to 4 (R252) -/
  stage : Nat
  /-- a local staged release after a core reset runs (R254) -/
  localRel : Bool
  /-- user outputs enabled, write enables on, user resets released (R251, R252) -/
  outEn : Bool
  writeEn : Bool
  userRun : Bool
  /-- every fabric flip-flop holds its initial value (R251); afterwards user logic owns them -/
  ffInit : Bool
  /-- regions of a partial load whose write enables are off, and whose user resets are asserted (R260) -/
  weOff : Nat
  rstOn : Nat
  /-- fabric clocks are gated: PARK, LISTEN or DEEP (R124, R131) -/
  gated : Bool
  /-- VDDIO of each bank as sensed at step 1 of the last staged release, two bits a bank: 0 none, 1 1.8 V, 2 2.5 V,
  3 3.3 V (R335) -/
  volts : Nat
  /-- configuration cells by frame, and the stored CRC of each frame (R1171) -/
  frames : SMap (BitVec 2048)
  crcs : SMap Word
  /-- pool RAM rows of 72 bits, by pool RAM × 512 + row (R303-R325) -/
  pool : SMap (BitVec 72)
  /-- registers of user logic -/
  regs : FabRegs
  /-- accesses passed to the user register port and not yet answered, oldest first (R319) -/
  ureg : List UWait
  /-- packets given to user logic through a port's receive stream: port, packet, RX_POISON (R317) -/
  rx : List (Nat × Packet × Bool)
  /-- ports that the loss of each user PLL has fenced, as masks (R70, R336) -/
  pllPorts : SMap Nat
deriving DecidableEq, Repr

/-- The engine after a reset. -/
def CfgEng.reset : CfgEng where
  startPend := true
  restart := false
  attempt := .none
  hdr := []
  pos := 0
  buf := []
  cipher := []
  plain := []
  lastData := 0
  idx := 0
  wrote := false
  fpos := 0
  taken := 0
  cmd := none
  key := []
  spent := false
  part := .none
  regions := 0
  baseMask := 0

/-- The fabric after a system reset: lost and unreleased. -/
def FabState.reset : FabState where
  drive := true
  doneHigh := false
  stage := 0
  localRel := false
  outEn := false
  writeEn := false
  userRun := false
  ffInit := true
  weOff := 0
  rstOn := 0
  gated := false
  volts := 0
  frames := []
  crcs := []
  pool := []
  regs := FabRegs.reset
  ureg := []
  rx := []
  pllPorts := []

end Sys2Proof.Machine
end

