-- ==== Sys2Proof/Machine/TypesFw.lean ====
section
/-!
DEFINITION. State of the MRAM controller and of the firmware's MRAM command (chapter 8).
-/
namespace Sys2Proof.Machine

open Sys2Proof

/-- A write of one aligned 32-byte word group (R414). -/
structure MWrite where
  group : Nat
  data : List Byte
deriving DecidableEq, Repr

/-- The MRAM command that runs: its completion once its writes are done, and whether each group read back as written
(R452). -/
structure MCmd where
  mb : Nat
  hd : Nat
  status : Nat
  detail : Nat
  result : Nat
  differs : Bool
deriving DecidableEq, Repr

/-- The MRAM controller. -/
structure MramState where
  /-- word groups the Dealer writes, in order: two in the controller's queue, the rest behind its stalled store (R415) -/
  q : List MWrite
  pulse : Option MWrite
  /-- bank of the last pulse in the bank of the running slot (R446) -/
  last : Option Nat
  /-- groups that read back with an uncorrectable error -/
  bad : NSet
  cmd : Option MCmd
  /-- WEN closes once the queue is empty: the boot ROM, or a command that a core reset ended, had opened it (R416) -/
  shut : Bool
  /-- the boot ROM runs and has not chosen a slot (R422) -/
  boot : Bool
deriving DecidableEq, Repr

/-- The controller at rest. -/
def MramState.reset : MramState := { q := [], pulse := none, last := none, bad := [], cmd := none, shut := false, boot := true }

end Sys2Proof.Machine
end

