-- ==== Sys2Proof/Machine/TypesGfx.lean ====
section
/-!
DEFINITION. State of the raster unit and the display source beside their registers (chapter 18).
-/
namespace Sys2Proof.Machine

open Sys2Proof

/-- A triangle of the open segment: its draw within the pass and its three vertices as fetched (R958). -/
structure GTri where
  draw : Nat
  v0 : List Byte
  v1 : List Byte
  v2 : List Byte
deriving DecidableEq, Repr

/-- A draw of the pass: its descriptor and sampler descriptors (R957, R978). -/
structure GDraw where
  desc : List Byte
  samps : List Byte
deriving DecidableEq, Repr

/-- A fragment: its triangle's place in the segment, and its pixel 32 py + px in the bin. -/
structure GFrag where
  tri : Nat
  px : Nat
deriving DecidableEq, Repr

/-- A wave record's draw, lanes and ranks (R970, R976, R977). -/
structure GWave where
  draw : Nat
  frags : List GFrag
  ranks : List Nat
deriving DecidableEq, Repr

/-- A bin job. -/
structure GJob where
  bX : Nat
  bY : Nat
  /-- the bin buffer loads the targets, whatever LOAD says (R962, R965) -/
  load : Bool
  /-- failed once already (R987) -/
  tried : Bool
  tile : Nat
  waves : List GWave
  /-- wave records written -/
  sent : Nat
deriving DecidableEq, Repr

/-- The running pass. -/
structure GPass where
  desc : List Byte
  tiled : Bool
  draws : List GDraw
  /-- triangles of the open or running segment, in submission order -/
  tris : List GTri
  /-- bin memory in use, and whether it was freed for the triangle that comes next (R965) -/
  used : Nat
  fresh : Bool
  seg : Nat
  demand : Nat
  /-- bin jobs of the segment not yet started, and those on tiles -/
  jobs : List GJob
  run : List GJob
  /-- the pass has no further entry -/
  ended : Bool
  /-- bins that an IMMEDIATE pass has already had a job for -/
  seen : NSet
  /-- feedback records written -/
  fbk : Nat
  /-- each texel unit's last 64 records, as draw, slot and page (R983) -/
  recent : SMap (List (Nat × Nat × Nat))
  /-- a poisoned texel is logged for this pass (R1157) -/
  logged : Bool
  /-- memory as the pass's entry found it (R996) -/
  oldHbm : Memory
  oldKitty : Memory
deriving DecidableEq, Repr

/-- The frame of a GFX_SUBMIT. -/
structure GFrame where
  mb : Nat
  hd : Nat
  list : Nat
  /-- entries of the list, index of the present entry and its bytes -/
  n : Nat
  idx : Nat
  ent : List Byte
  /-- the present DRAW has begun, and the triangles of it taken -/
  inDraw : Bool
  taken : Nat
  passes : Nat
  lastTiled : Bool
  /-- how the frame fails: status, detail, result -/
  fail : Option (Nat × Nat × Nat)
  lost : Bool
  pass : Option GPass
deriving DecidableEq, Repr

/-- The raster unit. -/
structure GfxState where
  frame : Option GFrame
  /-- the most recent shader image, and the partitions that hold it (R975) -/
  image : Option (List Byte)
  have_ : NSet
  /-- when each tile began to wait, as a count of events (R972) -/
  since : SMap Nat
  seq : Nat
  /-- bin jobs started -/
  jseq : Nat
  /-- folding partitions the unit has released (R985) -/
  released : NSet
deriving DecidableEq, Repr

/-- A plane of the display (R991). -/
structure DPlane where
  addr : Nat
  pitch : Nat
  fmt : Nat
  en : Bool
  alpha : Nat
  amode : Nat
  x : Nat
  y : Nat
  w : Nat
  h : Nat
deriving DecidableEq, Repr

/-- The display source: timing block, planes in force and planes due at the next vertical blanking. -/
structure DpyState where
  mode : List Byte
  planes : SMap DPlane
  next : SMap DPlane
  /-- last LANES and RATE trained for (R995) -/
  lanes : Nat
  rate : Nat
deriving DecidableEq, Repr

/-- A disabled plane. -/
def DPlane.off : DPlane := ⟨0, 0, 0, false, 0, 0, 0, 0, 0, 0⟩

/-- The raster unit after a core reset. -/
def GfxState.reset : GfxState := ⟨none, none, [], [], 0, 0, []⟩

/-- The display source after a system reset. -/
def DpyState.reset : DpyState := ⟨[], [], [], 0, 0⟩

end Sys2Proof.Machine
end

