-- ==== Sys2Proof/Machine/TypesMem.lean ====
section
/-!
DEFINITION. State of the HBM controllers beside their registers (chapter 14). Times are in 1/16 ns.
-/
namespace Sys2Proof.Machine

open Sys2Proof

/-- What a queued burst does. -/
inductive BKind where
  | read
  /-- a full-burst write, already answered (R738) -/
  | full
  /-- a read-modify-write (R766) -/
  | rmw
deriving DecidableEq, Repr

/-- One burst waiting in a controller's queues (R735), in arrival order. -/
structure HBurst where
  /-- request it belongs to -/
  id : Nat
  kind : BKind
  /-- 32-byte aligned HBM offset -/
  off : Nat
  data : List Byte
  /-- bytes a read-modify-write covers -/
  mask : List Bool
  poison : Bool
  node : Nat
  seat : Nat
  prio : Nat
  /-- partition whose share the request uses; 16 for FCFS traffic (R674, R676) -/
  part : Nat
  arr : Nat
deriving DecidableEq, Repr

/-- A request being served: its packet, bursts still to do, and the data read so far by burst index. -/
structure HReq where
  id : Nat
  pkt : Packet
  left : Nat
  got : SMap (List Byte)
  /-- burst indices read poisoned -/
  bad : NSet
  err : Bool
deriving DecidableEq, Repr

/-- A requester (R745). -/
structure Requester where
  seat : Nat
  node : Nat
deriving DecidableEq, Repr

/-- One requester slot of a tracker entry (R768). -/
structure TSlot where
  req : Requester
  count : Nat
deriving DecidableEq, Repr

/-- One tracker entry (R768). -/
structure TEntry where
  row : Nat
  count : Nat
  slots : List TSlot
deriving DecidableEq, Repr

/-- A requester's throttle record on a pseudo-channel (R772-R774). -/
structure Throttle where
  req : Requester
  level : Nat
  active : Bool
  /-- end of the throttle, or when the last one ended -/
  till : Nat
  /-- time of the last activation it was allowed -/
  lastAct : Nat
  /-- it caused a trigger in the present refresh window -/
  trig : Bool
deriving DecidableEq, Repr

/-- One pseudo-channel controller. -/
structure PcState where
  q : List HBurst
  drain : Bool
  /-- open row + 1 by bank; 0 closed -/
  rows : SMap Nat
  /-- last access by bank -/
  used : SMap Nat
  trk : SMap (List TEntry)
  thr : List Throttle
  /-- calendar in force, owner + 1 by slot (R672): read, write -/
  calR : List Nat
  calW : List Nat
  slotR : Nat
  slotW : Nat
  /-- bank next in the refresh rotation, and intervals each due bank is postponed, plus one (R749) -/
  rot : Nat
  due : SMap Nat
  /-- held request headers at a frozen port (R778) -/
  held : List Packet
deriving DecidableEq, Repr

/-- The memory stacks. -/
structure HbmState where
  /-- pseudo-channels by the hash value c (R740) -/
  pc : SMap PcState
  reqs : List HReq
  nextId : Nat
  /-- stacks in power-down (R746) -/
  pdown : NSet
  /-- lane groups mapped by soft repair: stack × 64 + pseudo-channel × 2 + group (R754, R757) -/
  soft : NSet
  /-- lane groups repaired in the stack for good -/
  hard : NSet
  /-- failed attempts of each stack's training since it last trained or got a fresh allowance (R755) -/
  fails : SMap Nat
  /-- stacks that hold contents kept through a MEM_KEEP reset and have not trained since (R113) -/
  kept : NSet
deriving DecidableEq, Repr

/-- A controller after reset. -/
def PcState.reset : PcState where
  q := []
  drain := false
  rows := []
  used := []
  trk := []
  thr := []
  calR := []
  calW := []
  slotR := 0
  slotW := 0
  rot := 0
  due := []
  held := []

/-- The controllers after a reset; repairs made in the stacks for good stay. -/
def HbmState.reset (hard : NSet) : HbmState :=
  { pc := [], reqs := [], nextId := 0, pdown := [], soft := [], hard := hard, fails := [], kept := [] }

end Sys2Proof.Machine
end

