-- ==== Sys2Proof/Machine/TypesNet.lean ====
section
/-!
DEFINITION. State of the Ethernet ports beside their registers (chapter 19).
-/
namespace Sys2Proof.Machine

open Sys2Proof

/-- An action slot of the classification table (R1018-R1022). -/
structure RuleSlot where
  index : Nat
  value : List Byte
  mask : List Byte
  prio : Nat
  valid : Bool
  action : Nat
  gen : Nat
  /-- frames bound to it -/
  cnt : Nat
  /-- no index points to it any more -/
  old : Bool
deriving DecidableEq, Repr

/-- A received frame whose data are written and whose descriptor is not (R1027). -/
structure RxFlight where
  q : Nat
  desc : Nat
  len : Nat
  status : Nat
  rule : Nat
  gen : Nat
  tag : Nat
  time : Nat
  slot : Option Nat
deriving DecidableEq, Repr

/-- The frame being sent (R1027, R1032). -/
structure TxFlight where
  q : Nat
  desc : Nat
  /-- bytes on the line, FCS included -/
  bytes : List Byte
  stomped : Bool
  /-- TIME is written back -/
  ts : Bool
  time : Nat
deriving DecidableEq, Repr

/-- A ring: its base address. HEAD, TAIL and ENTRIES are registers. -/
structure NetPort where
  rxRing : SMap Nat
  txRing : SMap Nat
  rx : List RxFlight
  tx : Option TxFlight
  /-- new transmit frames wait until this time (R1006) -/
  pauseTo : Nat
  /-- NET_PORT waiting for the port to drain: mailbox, handle, mode (R1047) -/
  change : Option (Nat × Nat × Nat)
deriving DecidableEq, Repr

/-- A NET_QUEUE that disables a ring and waits for its frames (R1046). -/
structure QWait where
  mb : Nat
  hd : Nat
  port : Nat
  dir : Nat
  q : Nat
deriving DecidableEq, Repr

/-- A NET_RULE that waits for a free slot (R1023). -/
structure RuleWait where
  mb : Nat
  hd : Nat
  index : Nat
  rec_ : List Byte
deriving DecidableEq, Repr

/-- The Ethernet block. -/
structure NetState where
  ports : SMap NetPort
  slots : SMap RuleSlot
  /-- last generation of each index -/
  gens : SMap Nat
  qWait : List QWait
  ruleWait : Option RuleWait
deriving DecidableEq, Repr

/-- A port after reset. -/
def NetPort.reset : NetPort := ⟨[], [], [], none, 0, none⟩

/-- A slot nobody uses. -/
def RuleSlot.free : RuleSlot := ⟨0, [], [], 0, false, 0, 0, 0, true⟩

/-- The block after a system reset. -/
def NetState.reset : NetState := ⟨[], [], [], [], none⟩

end Sys2Proof.Machine
end

