-- ==== Sys2Proof/Machine/TypesPart.lean ====
section
/-!
DEFINITION. Partitions beside their registers: job images, jobs, checkpoints and the pacing governor (chapter 15).
-/
namespace Sys2Proof.Machine

open Sys2Proof

/-- A section of a job image (R817). -/
structure Sect where
  tile : Nat
  kind : Nat
  dest : Nat
  /-- its bytes, as the image held them when it was checked (R822) -/
  data : List Byte
deriving DecidableEq, Repr

/-- A job image (R816). -/
structure JobImg where
  job : Nat
  mask : Nat
  entry : Nat
  tvec : Nat
  ten : Bool
  seed : Nat
  secs : List Sect
deriving DecidableEq, Repr

/-- A running job, and the mailbox its JOB_START came from (R378). -/
structure JobRun where
  job : Nat
  mask : Nat
  mb : Nat
deriving DecidableEq, Repr

/-- A JOB_START under way: its image, its command and the relative tiles whose layer 0 fills have begun. -/
structure JobStart where
  img : JobImg
  mb : Nat
  hd : Nat
  begun : NSet
deriving DecidableEq, Repr

/-- Where a checkpoint stands (R834). -/
inductive CkPhase where
  /-- none -/
  | none
  /-- step 1 of a CHECKPOINT command -/
  | arriving
  /-- steps 2 to 4 -/
  | writing
deriving DecidableEq, Repr

/-- The checkpoint unit of a partition. -/
structure Ckpt where
  phase : CkPhase
  tag : Nat
  /-- command (mailbox, handle) that asked for it -/
  cmd : Option (Nat × Nat)
  /-- step 6: the dummy copy is on its way (R838), for this command -/
  copying : Bool
  copyCmd : Option (Nat × Nat)
deriving DecidableEq, Repr

/-- The pacing governor (R809-R813). -/
structure Gov where
  run : Nat
  stall : Nat
  /-- last sampled counters of relative tile i, as run + 2^16 × stall -/
  last : SMap Nat
  /-- a window closed with a step request; the next waits for SLEWING = 0 (R812) -/
  closed : Bool
deriving DecidableEq, Repr

/-- One partition. -/
structure PartState where
  /-- mode it was last opened in: 0 compute, 1 graphics -/
  mode : Nat
  loaded : Option JobImg
  staged : Option JobImg
  run : Option JobRun
  start : Option JobStart
  /-- job id of the last job started -/
  job : Nat
  ck : Ckpt
  gov : Gov
  /-- an FLR of its VF runs; whether it unfolds the partition at step 4 (R840) -/
  flr : Option Bool
  /-- an FLR or a re-deal ended the running job (R826) -/
  flrJob : Bool
  /-- a fault was recorded since it was opened (R828, R843) -/
  faulted : Bool
deriving DecidableEq, Repr

/-- A governor at rest. -/
def Gov.reset : Gov :=
  { run := 0, stall := 0, last := [], closed := false }

/-- No checkpoint. -/
def Ckpt.reset : Ckpt := { phase := .none, tag := 0, cmd := none, copying := false, copyCmd := none }

/-- A partition after reset. -/
def PartState.reset : PartState :=
  { mode := 0, loaded := none, staged := none, run := none, start := none, job := 0, ck := Ckpt.reset,
    gov := Gov.reset, flr := none, flrJob := false, faulted := false }

end Sys2Proof.Machine
end

