-- ==== Sys2Proof/Machine/TypesSig.lean ====
section
/-!
DEFINITION. The signal engine's cores beside their registers (chapter 17).
-/
namespace Sys2Proof.Machine

open Sys2Proof

/-- Settings of an address generator (R924). -/
structure Agu where
  base : Nat
  len : Nat
  step : Int
  mode : Nat
deriving DecidableEq, Repr

/-- An active loop (R927): first and last instruction of its body, and the rounds left with the present one. -/
structure SLoop where
  first : Nat
  last : Nat
  left : Nat
deriving DecidableEq, Repr

/-- A request of a transfer: NI tag, first word of the memory, words. -/
structure SigReq where
  tag : Nat
  word : Nat
  n : Nat
deriving DecidableEq, Repr

/-- What a transfer does. -/
inductive XKind where
  | get | put | signal
deriving DecidableEq, Repr

/-- An outstanding transfer (R941-R943). -/
structure SigXfer where
  kind : XKind
  mem : Nat
  gaddr : Nat
  val : Nat
  /-- a SIGNAL not yet sent, waiting for older PUTs -/
  held : Bool
  reqs : List SigReq
deriving DecidableEq, Repr

/-- A trigger on its way to a core: its time and the value r1 takes (R937). -/
structure SigTrig where
  time : Nat
  r1 : Nat
deriving DecidableEq, Repr

/-- One signal core. Memories: P (two words an instruction), X, Y, C. -/
structure SigCore where
  p : SMap Word
  x : SMap Word
  y : SMap Word
  c : SMap Word
  f : SMap Word
  r : SMap (BitVec 64)
  a : SMap Nat
  agu : SMap Agu
  lt : Bool
  eq : Bool
  un : Bool
  stack : List Nat
  loops : List SLoop
  pc : Nat
  /-- a HALT has committed; the run ends when no transfer is outstanding -/
  halted : Bool
  xfers : List SigXfer
  /-- a transfer met an error, a fence or poison (R932) -/
  xerr : Bool
  /-- triggers on their way -/
  inq : List SigTrig
  /-- the pending trigger (R938) -/
  pend : Option SigTrig
  drops : Nat
  /-- SIG_STOP commands (32 × mailbox + handle) waiting for the core's transfers (R940) -/
  stops : List Nat
deriving DecidableEq, Repr

/-- A core after reset. -/
def SigCore.reset : SigCore where
  p := []
  x := []
  y := []
  c := []
  f := []
  r := []
  a := []
  agu := []
  lt := false
  eq := false
  un := false
  stack := []
  loops := []
  pc := 0
  halted := false
  xfers := []
  xerr := false
  inq := []
  pend := none
  drops := 0
  stops := []

end Sys2Proof.Machine
end

