-- ==== Sys2Proof/Machine/TypesSns.lean ====
section
/-!
DEFINITION. The sensor front end and the wake detector beside their registers (chapter 16).
-/
namespace Sys2Proof.Machine

open Sys2Proof

/-- A delivered sample: its FP32 value, its 32 bits as a block holds them, its marks (R866, R875). -/
structure Smp where
  v : Word
  raw : Word
  trans : Bool
  clip : Bool
deriving DecidableEq, Repr

/-- One channel's decimation chain (R863-R869); values on the grid 2^-40, newest first. -/
structure Chain where
  /-- CIC integrators and combs -/
  integ : List Int
  comb : List Int
  hb1 : List Int
  hb2 : List Int
  fir : List Int
  /-- samples still to discard (R869) -/
  skip : Nat
  /-- index of the next sample delivered -/
  idx : Nat
  /-- delivered samples, newest first, for the beams -/
  hist : List Smp
deriving DecidableEq, Repr

/-- A group's ranging machine (R870-R876). -/
structure SnsGroup where
  step : Nat
  quiet : Nat
  /-- straddle of a range change: the old step and the next k -/
  strad : Option (Nat × Nat)
deriving DecidableEq, Repr

/-- A capture block under way (R881). -/
structure CapBlk where
  first : Nat
  time : Nat
  step : Nat
  start : Bool
  smps : List Smp
deriving DecidableEq, Repr

/-- A full block whose writes are not answered: global address, bytes, the drops of the sequence it ends, and whether it
belongs to the present arming, so that WIDX counts it (R883, R889). -/
structure CapOut where
  addr : Nat
  bytes : List Byte
  drops : Nat
  cur : Bool
deriving DecidableEq, Repr

/-- A capture unit beside its registers (R881-R890). -/
structure CapUnit where
  /-- block being filled -/
  blk : Option CapBlk
  /-- blocks left of the running sequence, this one included; none: endless -/
  left : Option Nat
  /-- the next block starts a sequence -/
  first : Bool
  /-- the sequence began under RESTART -/
  restart : Bool
  /-- a RESTART trigger ends the sequence with this block -/
  again : Bool
  drops : Nat
  seq : Nat
  out : List CapOut
  /-- SNS_CAPTURE's ring, size, trigger and policy, taken when the END block is full (R902) -/
  rearm : Option (Nat × Nat × Nat × Nat)
deriving DecidableEq, Repr

/-- An exact dyadic number num / 2^exp. -/
structure Dy where
  num : Int
  exp : Nat
deriving DecidableEq, Repr

/-- The wake detector (R891-R897). -/
structure WakeDet where
  /-- CIC integrators and combs of channels 0-3, four each -/
  integ : SMap (List Int)
  comb : SMap (List Int)
  /-- samples of channels 0-3, newest first -/
  hist : SMap (List Dy)
  /-- biquad history of band b: x[n-1], x[n-2], y[n-1], y[n-2] -/
  bq : SMap (List Dy)
  /-- floors in 1/4096 dB -/
  floor : SMap Int
deriving DecidableEq, Repr

/-- The sensor node. -/
structure SnsState where
  chain : SMap Chain
  group : SMap SnsGroup
  cap : SMap CapUnit
  /-- sample index of beam u -/
  bidx : SMap Nat
  wake : WakeDet
deriving DecidableEq, Repr

def Chain.reset : Chain where
  integ := List.replicate 5 0
  comb := List.replicate 5 0
  hb1 := []
  hb2 := []
  fir := []
  skip := 0
  idx := 0
  hist := []

def SnsGroup.reset : SnsGroup := { step := 0, quiet := 0, strad := none }

def CapUnit.reset : CapUnit where
  blk := none
  left := none
  first := false
  restart := false
  again := false
  drops := 0
  seq := 0
  out := []
  rearm := none

def WakeDet.reset : WakeDet := { integ := [], comb := [], hist := [], bq := [], floor := [] }

def SnsState.reset : SnsState := { chain := [], group := [], cap := [], bidx := [], wake := WakeDet.reset }

end Sys2Proof.Machine
end

