-- ==== Sys2Proof/Machine/TypesSys.lean ====
section
/-!
DEFINITION. State of the system block beside its registers: clocks (chapter 2), resets and power (chapter 3).
-/
namespace Sys2Proof.Machine

open Sys2Proof

/-- Clock monitors, PLLs, partition clock generators and table time.
Monitored inputs: 0 REFCLK, 1 ETH_REFCLK, 2 LNK_REFCLK, 3 SNS_MCLK, 4 XTAL32 (R83).
PLLs: 0 system, 1 network, 2 memory, 3 PCIe, 4 Ethernet, 5 link, 6 audio, 7 display,
8 + u user PLL u, 16 + p partition clock generator p (R70). -/
structure ClkState where
  /-- windows outside limits in the present run, by input (R68) -/
  run : SMap Nat
  /-- inputs whose last window was within limits (R73) -/
  good : NSet
  /-- consecutive windows of REFCLK within limits (R94) -/
  refGood : Nat
  /-- PLLs that hold lock -/
  locked : NSet
  /-- PLLs whose loss set a LOST flag and that have not held lock since (R73) -/
  lostPll : NSet
  /-- fenced nodes whose CLOCK error of the present window is logged (R71) -/
  logged : NSet
  /-- steps held behind a slewing step, oldest first, as their targets (R66) -/
  heldSteps : SMap (List Nat)
  /-- time elapsed, in 1/16 ns -/
  now : Nat
  /-- the table-time counter, in 1/16 ns (64 bits) -/
  tt : Nat
  /-- table time as last forwarded to the Ethernet, link, sensor and memory domains (R61) -/
  fwd : Nat
  /-- fraction of the always-on count below one tick, in 1/46875 tick (R140) -/
  aotFrac : Nat
deriving DecidableEq, Repr

/-- Reset levels (R86), rising. -/
inductive Level where
  | core | system | por
deriving DecidableEq, Repr

/-- A reset requested and not yet finished: its level and what it still waits for. -/
structure PendRst where
  level : Level
  /-- waits for SYSCLK (R94) -/
  noclk : Bool
  /-- waits for non-volatile write pulses (R117, R118): bit 0 an MRAM pulse, bit 1 an eFuse pulse -/
  nv : Nat
  /-- waits for the exit from LISTEN or DEEP (R96) -/
  wake : Bool
  /-- REFCLK loss caused it: HBM contents are not kept (R70, R113) -/
  noKeep : Bool
deriving DecidableEq, Repr

/-- Which step of a LISTEN or DEEP transition runs. -/
inductive PwrPhase where
  /-- no transition -/
  | idle
  /-- entry to PARK, LISTEN or DEEP, while open partitions fold (R127, R131 step 2) -/
  | folding
  /-- entry, waiting for PME_Turn_Off (R131 step 4) -/
  | entryWait
  /-- exit, waiting for the clocks (R144 step 3) -/
  | exit
  /-- exit from LISTEN, the Dealer running again, until the stacks have retrained and the local staged release has ended
  (R144 steps 4 to 6) -/
  | exitRun
deriving DecidableEq, Repr

/-- Reset pins: 0 POR_N, 1 SYS_RST_N, 2 CORE_RST_N (R98). -/
structure RstState where
  /-- accepted pin requests that hold their level (R101) -/
  pins : NSet
  pend : Option PendRst
  /-- POR is asserted (detector or POR_N) -/
  por : Bool
  /-- the detector asserts POR (R102) -/
  det : Bool
  /-- watchdog count in ms and whether it counts (R90-R92) -/
  wdt : Nat
  wdtRun : Bool
  /-- the Dealer runs (false while halted by debug or asleep) -/
  dealerRun : Bool
  /-- ERR_N driven from the always-on domain (R70, R161) -/
  aonErr : Bool
deriving DecidableEq, Repr

/-- Power sequencer and wake logic. -/
structure PwrState where
  phase : PwrPhase
  /-- TARGET held behind a running transition (R149) -/
  held : Option Nat
  /-- the host has sent PME_Turn_Off during the entry (R132) -/
  pme : Bool
  /-- POWER command that completes at the PME_Turn_Off wait (R406) -/
  cmd : Option (Nat × Nat)
  /-- WAKE_OUT and PCIE_WAKE_N (driven low) -/
  wakeOut : Bool
  pcieWake : Bool
  /-- debounced levels of WAKE_IN (R138) -/
  winLevel : NSet
  /-- the wake latched during an entry (R133) -/
  latched : Bool
  /-- a reset request asks for the exit (R96) -/
  byReset : Bool
deriving DecidableEq, Repr

/-- Identification values loaded from eFuse (R38, R45-R49, R82, R468). -/
structure Ident where
  hwid : Word
  bin : Word
  parten : Word
  idcode : Word
  feat : Word
  vcore : Nat
  /-- the security word as the last POR loaded it (R38, R279) -/
  sec : Word
deriving DecidableEq, Repr

/-- Clocks after a system reset: the system, network and memory PLLs hold lock, and table time is lost. -/
def ClkState.reset : ClkState :=
  { run := [], good := [], refGood := 0, locked := [0, 1, 2], lostPll := [], logged := [], heldSteps := [], now := 0,
    tt := 0, fwd := 0, aotFrac := 0 }

/-- Resets and the watchdog after a system reset. -/
def RstState.reset : RstState :=
  { pins := [], pend := none, por := false, det := false, wdt := 0, wdtRun := true, dealerRun := true, aonErr := false }

/-- The power sequencer after a system reset, with the levels of WAKE_IN. -/
def PwrState.reset (win : NSet) : PwrState :=
  { phase := .idle, held := none, pme := false, cmd := none, wakeOut := false, pcieWake := false, winLevel := win,
    latched := false, byReset := false }

end Sys2Proof.Machine
end

