-- ==== Sys2Proof/Machine/TypesTap.lean ====
section
/-!
DEFINITION. State of the test access port and of fuse programming (chapter 4).
-/
namespace Sys2Proof.Machine

open Sys2Proof

/-- The states of the TAP controller (IEEE 1149.1-2013, R169). -/
inductive TapCtl where
  | tlr | rti | selDr | capDr | shDr | ex1Dr | paDr | ex2Dr | upDr | selIr | capIr | shIr | ex1Ir | paIr | ex2Ir | upIr
deriving DecidableEq, Repr

/-- The controller's next state at a rising edge of TCK with TMS. -/
def TapCtl.clock (c : TapCtl) (tms : Bool) : TapCtl :=
  match c, tms with
  | .tlr, true => .tlr | .tlr, false => .rti
  | .rti, true => .selDr | .rti, false => .rti
  | .selDr, true => .selIr | .selDr, false => .capDr
  | .capDr, true => .ex1Dr | .capDr, false => .shDr
  | .shDr, true => .ex1Dr | .shDr, false => .shDr
  | .ex1Dr, true => .upDr | .ex1Dr, false => .paDr
  | .paDr, true => .ex2Dr | .paDr, false => .paDr
  | .ex2Dr, true => .upDr | .ex2Dr, false => .shDr
  | .upDr, true => .selDr | .upDr, false => .rti
  | .selIr, true => .tlr | .selIr, false => .capIr
  | .capIr, true => .ex1Ir | .capIr, false => .shIr
  | .shIr, true => .ex1Ir | .shIr, false => .shIr
  | .ex1Ir, true => .upIr | .ex1Ir, false => .paIr
  | .paIr, true => .ex2Ir | .paIr, false => .paIr
  | .ex2Ir, true => .upIr | .ex2Ir, false => .shIr
  | .upIr, true => .selDr | .upIr, false => .rti

/-- The TAP may change masters in these states alone (R81). -/
def TapCtl.parked (c : TapCtl) : Bool := c == .tlr || c == .rti

/-- The TAP: controller, instruction register, and the data registers' captured and updated values. -/
structure TapState where
  /-- instruction register, 10 bits -/
  ir : Nat
  /-- value loaded by the last Capture-IR -/
  irCap : Nat
  /-- value captured by the last Capture-DR -/
  drCap : Nat
  /-- the controller's state (R169) -/
  ctl : TapCtl
  /-- the internal TAP master owns the TAP (R172, DBG_CTL.TAP_OWN) -/
  own : Bool
  /-- what the Dealer has asked the TAP for, beside a flash boot (R172, R175) -/
  use : Option TapUse
  /-- the boundary register's update latch, 1,535 cells, cell 0 next to TDO (R188), and the bypass bit -/
  cells : Nat
  byp : Nat
  /-- the last Update-IR selected HBM_PORT for a stack that was not held (R177) -/
  hbmBad : Bool
  /-- input cells as they were at the Update-IR of EXTEST or its kin, which system logic sees from then on (R184) -/
  frozen : Option Nat
  /-- fuse bit whose pulse runs (R199) -/
  pulse : Option Nat
  verifyFail : Bool
  locked : Bool
  fuseWord : Nat
  /-- last completed debug access (R196) -/
  dbgAddr : Nat
  dbgData : Nat
  dbgErr : Bool
  /-- a debug access in progress: address and, of a write, its data (R196) -/
  dbgWait : Option (Nat × Option Nat)
  /-- IEEE 1500 wrapper registers, by 2 × stack + SelectWIR: bits last updated -/
  wrap : SMap Nat
deriving DecidableEq, Repr

/-- Instruction codes (R178). -/
def irIDCODE : Nat := 0x002
def irCFG_IN : Nat := 0x010
def irCFG_PARTIAL : Nat := 0x012

/-- The TAP in Test-Logic-Reset after POR (R176). -/
def TapState.reset : TapState where
  ir := irIDCODE
  irCap := 0
  drCap := 0
  ctl := .tlr
  own := false
  use := none
  cells := 0
  byp := 0
  hbmBad := false
  frozen := none
  pulse := none
  verifyFail := false
  locked := false
  fuseWord := 0
  dbgAddr := 0
  dbgData := 0
  dbgErr := false
  dbgWait := none
  wrap := []

end Sys2Proof.Machine
end

