-- ==== Sys2Proof/Machine/TypesTbl.lean ====
section
/-!
DEFINITION. State of the table unit and the Moazel links (chapter 21). Links: 0 A, 1 B, 2 C, 3 D.
-/
namespace Sys2Proof.Machine

open Sys2Proof

/-- One flit with its sideband (R1093). `crc` is the packet's network CRC, used on a tail flit (block K). -/
structure Flit where
  vc : Nat
  head : Bool
  tail : Bool
  poison : Bool
  data : List Byte
  crc : Nat
deriving DecidableEq, Repr

/-- A frame's content: type (R1093) and flits. The content of HELLO and TIME frames has no layout in the spec. -/
structure LFrame where
  ftype : Nat
  seq : Nat
  ack : Nat
  crvc : Nat
  crcnt : Nat
  flits : List Flit
deriving DecidableEq, Repr

/-- A packet waiting for its link, with the virtual channel it takes on it (R1101). -/
structure OutPkt where
  vc : Nat
  pkt : Packet
deriving DecidableEq, Repr

/-- What a HELLO showed (R1089 step 4). -/
structure Hello where
  seat : Nat
  letter : Nat
deriving DecidableEq, Repr

/-- One link port. -/
structure LinkState where
  /-- last SEQ sent, last SEQ accepted, last ACK received -/
  tx : Nat
  rx : Nat
  ack : Nat
  /-- frames sent and not acknowledged, oldest first (R1098) -/
  held : List LFrame
  /-- replays without a new ACK -/
  replays : Nat
  /-- flits of each virtual channel sent and not credited back (R1096) -/
  used : SMap Nat
  /-- packets waiting for credits -/
  out : List OutPkt
  /-- flits received of a packet whose tail has not come, by virtual channel -/
  part : SMap (List Flit)
  hello : Option Hello
  /-- a retrain of R1098 runs: numbering and held frames are kept -/
  retrain : Bool
  /-- the last delay measurements, newest first, at most 16 (R1115) -/
  delays : List Nat
deriving DecidableEq, Repr

/-- A port that has not started. -/
def LinkState.reset : LinkState where
  tx := 0
  rx := 0
  ack := 0
  held := []
  replays := 0
  used := []
  out := []
  part := []
  hello := none
  retrain := false
  delays := []

/-- An identity record (R1102). -/
structure IdRec where
  seat : Nat
  st : Nat
  tmin : Nat
  tmax : Nat
  fw : Nat
  parten : Nat
  spare : Nat
  known : Nat
  epoch : Nat
  digest : List Byte
deriving DecidableEq, Repr

/-- What the last heartbeat of a seat carried (R1110). -/
structure HbNote where
  sleep : Bool
  timeBad : Bool
  busy : Bool
  epoch : Nat
deriving DecidableEq, Repr

/-- The table unit. -/
structure TblState where
  links : SMap LinkState
  /-- records received from other seats, by seat number (R1103) -/
  recs : SMap (Option IdRec)
  /-- the seat map is lost (R1109, R1133) -/
  mapLost : Bool
  /-- two seats claim one number (R1107) -/
  clash : Bool
  /-- a one-seat table was formed (R1104, R1108) -/
  solo : Bool
  /-- the exchange has closed: DONE was seen high (R1103) -/
  closed : Bool
  /-- a link has reached UP since the release sequence ended (R1104) -/
  everUp : Bool
  /-- the seat left LISTEN and rejoins with STATE SLEPT (R1132) -/
  slept : Bool
  /-- a PROG_N or configuration restart reopened this seat's exchange (R1243) -/
  reload : Bool
  /-- SLEEP in this seat's heartbeats, and the TBL_SLEEP command that waits (R1129) -/
  sleep : Bool
  sleepCmd : Option (Nat × Nat)
  /-- seats that have answered it -/
  sleepAns : NSet
  hb : SMap (Option HbNote)
  /-- the lost seat whose re-deal runs, and losses queued behind it (R1122, R1127) -/
  redeal : Option Nat
  queue : List Nat
  /-- map entries received from the coordinator and not yet committed (R1124 step 4) -/
  pendMap : List MapEnt
  /-- the running re-deal's entries are committed -/
  committed : Bool
  /-- seats whose redirects are in force (R1124 step 7) -/
  redir : NSet
  /-- DONE driven low by the table unit (R1112, R1113) -/
  doneLow : Bool
  /-- the servo's term I and the rate in use, in 1/4096 ppm (R1115) -/
  servoI : Int
  rate : Int
  /-- fraction of table time below 1/16 ns, in 1/(4096 × 10^6) -/
  frac : Nat
deriving DecidableEq, Repr

/-- The table unit after reset. -/
def TblState.reset : TblState where
  links := []
  recs := []
  mapLost := false
  clash := false
  solo := false
  closed := false
  everUp := false
  slept := false
  reload := false
  sleep := false
  sleepCmd := none
  sleepAns := []
  hb := []
  redeal := none
  queue := []
  pendMap := []
  committed := false
  redir := []
  doneLow := false
  servoI := 0
  rate := 0
  frac := 0

end Sys2Proof.Machine
end

