-- ==== Sys2Proof/Machine/Numeric.lean ====
section
/-!
DEFINITION. Number formats, exact values, rounding, the wide form, group sums, split passes and compensated pairs
(chapter 9). Values are exact: a finite value is sign, natural significand and binary exponent.
-/
namespace Sys2Proof.Machine

/-- A decoded number: NaN, an infinity, or (−1)^neg × m × 2^e (m = 0 is a zero of that sign). -/
inductive Num where
  | nan
  | inf (neg : Bool)
  | fin (neg : Bool) (m : Nat) (e : Int)
deriving DecidableEq, Repr

/-- A float format: exponent and mantissa widths, bias, and whether it encodes infinities (R471). -/
structure FFmt where
  ew : Nat
  mw : Nat
  bias : Nat
  /-- all-ones exponent encodes infinity and NaN (R475, R476) -/
  ieee : Bool
  /-- S.1111.111 is NaN (E4M3, R477) -/
  oneNan : Bool
  /-- subnormals are flushed (R481, R482) -/
  long : Bool
deriving DecidableEq, Repr

/-- Exception flags of one operation (R525). -/
structure Flg where
  nv : Bool := false
  of : Bool := false
  uf : Bool := false
  nx : Bool := false
  fzi : Bool := false
  fzr : Bool := false
  sat : Bool := false
deriving DecidableEq, Repr

/-- No flag. -/
def Flg.none : Flg := {}

/-- Flags of two operations together. -/
def Flg.or (a b : Flg) : Flg :=
  ⟨a.nv || b.nv, a.of || b.of, a.uf || b.uf, a.nx || b.nx, a.fzi || b.fzi, a.fzr || b.fzr, a.sat || b.sat⟩

/-- The flags as bits [6:0] of the exception flag word (R525). -/
def Flg.mask (f : Flg) : Nat :=
  b2n f.nv + 2 * b2n f.of + 4 * b2n f.uf + 8 * b2n f.nx + 16 * b2n f.fzi + 32 * b2n f.fzr + 64 * b2n f.sat

/-- Events of mask `m` in an exception flag word: each sets its flag, or its OVF bit where the flag is set
(R525, R1176). -/
def flagWord (w m : Nat) : Nat := w ||| m ||| ((w &&& m &&& 127) <<< 16)

def fmtFP32 : Nat := 0
def fmtFP16 : Nat := 1
def fmtBF16 : Nat := 2
def fmtE4M3 : Nat := 3
def fmtE5M2 : Nat := 4
def fmtE3M2 : Nat := 5
def fmtE2M3 : Nat := 6
def fmtE2M1 : Nat := 7
def fmtINT8 : Nat := 8
def fmtUINT8 : Nat := 9
def fmtINT4 : Nat := 10
def fmtINT32 : Nat := 11

/-- The float formats by code (R471). -/
def ffmt (c : Nat) : FFmt :=
  match c with
  | 0 => ⟨8, 23, 127, true, false, true⟩
  | 1 => ⟨5, 10, 15, true, false, false⟩
  | 2 => ⟨8, 7, 127, true, false, false⟩
  | 3 => ⟨4, 3, 7, false, true, false⟩
  | 4 => ⟨5, 2, 15, true, false, false⟩
  | 5 => ⟨3, 2, 3, false, false, false⟩
  | 6 => ⟨2, 3, 1, false, false, false⟩
  | _ => ⟨2, 1, 1, false, false, false⟩

/-- Element width in bits of a format code (R471); reserved codes have none. -/
def fmtBits (c : Nat) : Nat :=
  match c with
  | 0 => 32 | 1 => 16 | 2 => 16 | 3 => 8 | 4 => 8 | 5 => 6 | 6 => 6 | 7 => 4
  | 8 => 8 | 9 => 8 | 10 => 4 | 11 => 32 | _ => 0

/-- The format is an integer format. -/
def fmtIsInt (c : Nat) : Bool := decide (8 ≤ c ∧ c ≤ 11)

/-- The formats a block scale applies to (R485). -/
def mxAllowed (c : Nat) : Bool := decide (3 ≤ c ∧ c ≤ 8)

/-- Decode a float encoding to its exact value; the Boolean tells a flushed subnormal input (R472-R481). -/
def decodeFloat (f : FFmt) (v : Nat) : Num × Bool :=
  let s := bit v (f.ew + f.mw)
  let e := bits v (f.ew + f.mw - 1) f.mw
  let m := v % 2 ^ f.mw
  let top := 2 ^ f.ew - 1
  if f.ieee && e == top then (if m = 0 then .inf s else .nan, false)
  else if f.oneNan && e == top && m == 2 ^ f.mw - 1 then (.nan, false)
  else if e = 0 then
    if f.long && m != 0 then (.fin s 0 0, true)
    else (.fin s m (1 - (f.bias : Int) - f.mw), false)
  else (.fin s (2 ^ f.mw + m) ((e : Int) - f.bias - f.mw), false)

/-- Decode an integer encoding (two's complement or unsigned, R471); integers give +0 (R491). -/
def decodeInt (c v : Nat) : Int :=
  if c = fmtUINT8 then ((v % 256 : Nat) : Int) else sext (fmtBits c) v

/-- A number from an integer. -/
def Num.ofInt (i : Int) : Num := .fin (decide (i < 0)) i.natAbs 0

/-- Decode any format, with block scale `x` (R484-R488); without MX the scale is `none`. -/
def decodeNum (c v : Nat) (x : Option Nat) : Num × Bool :=
  let d := if fmtIsInt c then (Num.ofInt (decodeInt c v), false) else decodeFloat (ffmt c) v
  match x with
  | none => d
  | some 255 => (.nan, d.2)
  | some sc =>
    let sh : Int := (sc : Int) - 127 - (if c = fmtINT8 then 6 else 0)
    match d.1 with
    | .fin s m e => (.fin s m (e + sh), d.2)
    | n => (n, d.2)

/-! ### Rounding (R500-R503) -/

/-- Rounding modes by code; SR carries its 16-bit draw. -/
inductive Rnd where
  | rne | rtz | rup | rdn | sr (r : Nat) | rhu
deriving DecidableEq, Repr

/-- The rounding mode of a code, where it is not reserved (R500). -/
def rndOf (c r : Nat) : Rnd :=
  match c with
  | 0 => .rne | 1 => .rtz | 2 => .rup | 3 => .rdn | 4 => .sr r | _ => .rhu

/-- Round m × 2^sh to a natural number; the Boolean tells inexact. -/
def roundNat (mode : Rnd) (neg : Bool) (m : Nat) (sh : Int) : Nat × Bool :=
  if 0 ≤ sh then (m <<< sh.toNat, false)
  else
    let k := (-sh).toNat
    let q := m >>> k
    let rem := m - q <<< k
    let half := 2 ^ (k - 1)
    let up :=
      match mode with
      | .rne => decide (half < rem) || (rem == half && q % 2 == 1)
      | .rtz => false
      | .rup => !neg && rem != 0
      | .rdn => neg && rem != 0
      | .rhu => decide (half < rem) || (rem == half && !neg)
      | .sr r => decide (65536 ≤ (rem <<< 16) >>> k + r)
    (if up then q + 1 else q, rem != 0)

/-- The encoding of an infinity. -/
def infBits (f : FFmt) (s : Bool) : Nat := b2n s <<< (f.ew + f.mw) + (2 ^ f.ew - 1) <<< f.mw

/-- The encoding of the largest finite magnitude. -/
def maxBits (f : FFmt) (s : Bool) : Nat :=
  b2n s <<< (f.ew + f.mw) +
    (if f.ieee then (2 ^ f.ew - 2) <<< f.mw + (2 ^ f.mw - 1)
     else if f.oneNan then (2 ^ f.ew - 1) <<< f.mw + (2 ^ f.mw - 2)
     else (2 ^ f.ew - 1) <<< f.mw + (2 ^ f.mw - 1))

/-- The canonical NaN (R479); formats without NaN give +0. -/
def nanBits (f : FFmt) : Nat :=
  if f.ieee then (2 ^ f.ew - 1) <<< f.mw + 2 ^ (f.mw - 1)
  else if f.oneNan then 2 ^ (f.ew + f.mw) - 1 else 0

/-- The largest finite magnitude as significand and exponent. -/
def maxMag (f : FFmt) : Nat × Int :=
  if f.ieee then (2 ^ (f.mw + 1) - 1, (2 ^ f.ew - 2 : Nat) - (f.bias : Int) - f.mw)
  else if f.oneNan then (2 ^ (f.mw + 1) - 2, (2 ^ f.ew - 1 : Nat) - (f.bias : Int) - f.mw)
  else (2 ^ (f.mw + 1) - 1, (2 ^ f.ew - 1 : Nat) - (f.bias : Int) - f.mw)

/-- Compare m × 2^e with n × 2^d: is the first greater? -/
def magGt (m : Nat) (e : Int) (n : Nat) (d : Int) : Bool :=
  if d ≤ e then decide (n < m <<< (e - d).toNat) else decide (n <<< (d - e).toNat < m)

/-- Overflow of a conversion by target format and mode (R502). -/
def overflowTo (f : FFmt) (mode : Rnd) (s : Bool) : Nat × Flg :=
  if !f.ieee then (maxBits f s, { sat := true, of := true, nx := true })
  else
    match mode with
    | .sr _ => (maxBits f s, { sat := true, of := true, nx := true })
    | .rtz => (maxBits f s, { of := true, nx := true })
    | .rup => (if s then maxBits f s else infBits f s, { of := true, nx := true })
    | .rdn => (if s then infBits f s else maxBits f s, { of := true, nx := true })
    | _ => (infBits f s, { of := true, nx := true })

/-- Is the mode stochastic? -/
def Rnd.isSr : Rnd → Bool
  | .sr _ => true
  | _ => false

/-- Encode m × 2^e with q the significand at least-significant exponent t (q < 2^(mw+1)). -/
def packFloat (f : FFmt) (s : Bool) (q : Nat) (t : Int) : Nat :=
  let sb := b2n s <<< (f.ew + f.mw)
  if q = 0 then sb
  else if q < 2 ^ f.mw then sb + q
  else sb + ((t + f.mw + f.bias).toNat <<< f.mw) + (q - 2 ^ f.mw)

/-- Normalise a rounded significand that reached 2^(mw+1). -/
def renorm (mw q : Nat) (t : Int) : Nat × Int := if q = 2 ^ (mw + 1) then (2 ^ mw, t + 1) else (q, t)

/-- Round a finite non-zero magnitude into a float format (R480, R482, R502, R523). -/
def roundFin (f : FFmt) (mode : Rnd) (s : Bool) (m : Nat) (e : Int) : Nat × Flg :=
  let mx := maxMag f
  if mode.isSr && magGt m e mx.1 mx.2 then overflowTo f mode s
  else
    let emin : Int := 1 - (f.bias : Int)
    let lead : Int := e + (log2 m : Int)
    let t := lead - f.mw
    let r := roundNat mode s m (e - t)
    let n := renorm f.mw r.1 t
    let tiny := decide (n.2 + f.mw < emin)
    if f.long then
      if tiny then (b2n s <<< (f.ew + f.mw), { fzr := true, uf := true, nx := true })
      else if magGt n.1 n.2 mx.1 mx.2 then overflowTo f mode s
      else (packFloat f s n.1 n.2, { nx := r.2 })
    else if lead < emin then
      let tmin := emin - f.mw
      let u := roundNat mode s m (e - tmin)
      (packFloat f s u.1 tmin, { nx := u.2, uf := tiny && u.2 })
    else if magGt n.1 n.2 mx.1 mx.2 then overflowTo f mode s
    else (packFloat f s n.1 n.2, { nx := r.2 })

/-- Encode a value in a float format (R479, R502). DEDUCED (assumption 85): a NaN that becomes E4M3's NaN sets no flag, as
R525 sets NV for a format without NaN. -/
def encodeFloat (f : FFmt) (mode : Rnd) (v : Num) : Nat × Flg :=
  match v with
  | .nan => (nanBits f, { nv := !f.ieee && !f.oneNan })
  | .inf s => if f.ieee then (infBits f s, {}) else (maxBits f s, { sat := true, of := true, nx := true })
  | .fin s 0 _ => (b2n s <<< (f.ew + f.mw), {})
  | .fin s m e => roundFin f mode s m e

/-- Encode a value in an integer format (R506). DEDUCED (assumption 85): beside SAT a saturation sets NX, and not OF (R525). -/
def encodeInt (c : Nat) (mode : Rnd) (v : Num) : Nat × Flg :=
  let w := fmtBits c
  let lo : Int := if c = fmtUINT8 then 0 else -(2 ^ (w - 1) : Nat)
  let hi : Int := if c = fmtUINT8 then 255 else (2 ^ (w - 1) : Nat) - 1
  match v with
  | .nan => (0, { nv := true })
  | .inf s => (wrapI w (if s then lo else hi), { sat := true, nx := true })
  | .fin s m e =>
    let r := roundNat mode s m e
    let i : Int := if s then -(r.1 : Int) else r.1
    if hi < i then (wrapI w hi, { sat := true, nx := true })
    else if i < lo then (wrapI w lo, { sat := true, nx := true })
    else (wrapI w i, { nx := r.2 })

/-- Encode a value in any format. -/
def encodeNum (c : Nat) (mode : Rnd) (v : Num) : Nat × Flg :=
  if fmtIsInt c then encodeInt c mode v else encodeFloat (ffmt c) mode v

/-! ### Exact arithmetic -/

/-- The signed significand of a finite value. -/
def sgn (s : Bool) (m : Nat) : Int := if s then -(m : Int) else m

/-- A finite value from a signed significand; a zero is +0. -/
def Num.ofDy (i : Int) (e : Int) : Num := .fin (decide (i < 0)) i.natAbs e

/-- Exact sum of two finite values as a signed significand and exponent. -/
def dyAdd (i : Int) (e : Int) (j : Int) (d : Int) : Int × Int :=
  if e ≤ d then (i + j * ((2 ^ (d - e).toNat : Nat) : Int), e)
  else (i * ((2 ^ (e - d).toNat : Nat) : Int) + j, d)

/-- The product of two values; the Boolean tells ∞ × 0 (R492, R493). -/
def Num.mul (a b : Num) : Num × Bool :=
  match a, b with
  | .nan, _ => (.nan, false)
  | _, .nan => (.nan, false)
  | .inf s, .inf t => (.inf (s != t), false)
  | .inf s, .fin t m _ => if m = 0 then (.nan, true) else (.inf (s != t), false)
  | .fin t m _, .inf s => if m = 0 then (.nan, true) else (.inf (s != t), false)
  | .fin s m e, .fin t n d => (.fin (s != t) (m * n) (e + d), false)

/-- Negate. -/
def Num.neg : Num → Num
  | .nan => .nan
  | .inf s => .inf (!s)
  | .fin s m e => .fin (!s) m e

/-- Exact sum of two values; a zero sum of opposite signs is +0, or −0 under RDN (R520); the Boolean tells
∞ − ∞. -/
def Num.add (mode : Rnd) (a b : Num) : Num × Bool :=
  match a, b with
  | .nan, _ => (.nan, false)
  | _, .nan => (.nan, false)
  | .inf s, .inf t => if s = t then (.inf s, false) else (.nan, true)
  | .inf s, _ => (.inf s, false)
  | _, .inf t => (.inf t, false)
  | .fin s m e, .fin t n d =>
    let r := dyAdd (sgn s m) e (sgn t n) d
    if r.1 = 0 then
      (.fin (if s = t then s else mode = .rdn) 0 0, false)
    else (Num.ofDy r.1 r.2, false)

/-- Is a value not a number? -/
def Num.isNan : Num → Bool
  | .nan => true
  | _ => false

/-- a < b on numbers (false with a NaN). -/
def Num.lt (a b : Num) : Bool :=
  match a, b with
  | .nan, _ => false
  | _, .nan => false
  | .inf s, .inf t => s && !t
  | .inf s, .fin _ _ _ => s
  | .fin _ _ _, .inf t => !t
  | .fin s m e, .fin t n d => decide ((dyAdd (sgn s m) e (-(sgn t n)) d).1 < 0)

/-- a = b on numbers (zeros of either sign are equal). -/
def Num.eq (a b : Num) : Bool := !a.isNan && !b.isNan && !(a.lt b) && !(b.lt a)

/-- Encode a result in FP32 with its flags. -/
def toFP32 (mode : Rnd) (v : Num) : Nat × Flg := encodeFloat (ffmt 0) mode v

/-- Decode an FP32 encoding with the flag of a flushed input. -/
def ofFP32 (v : Nat) : Num × Flg := let d := decodeFloat (ffmt 0) v; (d.1, { fzi := d.2 })

/-! ### Split passes (R509-R511) -/

/-- Round to nearest even at 8 significant bits. -/
def round8 (m : Nat) (e : Int) : Nat × Int :=
  if m = 0 then (0, 0)
  else
    let t : Int := e + (log2 m : Int) - 7
    ((roundNat .rne false m (e - t)).1, t)

/-- Pieces of an operand: hi, mid, lo (R509); a short or integer operand has hi alone (R510). -/
structure Pieces where
  hi : Num
  mid : Num
  lo : Num
deriving DecidableEq, Repr

/-- A zero. -/
def Num.zero : Num := .fin false 0 0

/-- Cut a finite FP32 value into three pieces (R509). -/
def splitNum (v : Num) : Pieces :=
  match v with
  | .fin s m e =>
    if m = 0 then ⟨v, .zero, .zero⟩
    else
      let h := round8 m e
      let hi := sgn s h.1
      let r1 := dyAdd (sgn s m) e (-hi) h.2
      let m8 := round8 r1.1.natAbs r1.2
      let mid := sgn (decide (r1.1 < 0)) m8.1
      let r2 := dyAdd r1.1 r1.2 (-mid) m8.2
      ⟨Num.ofDy hi h.2, Num.ofDy mid m8.2, Num.ofDy r2.1 r2.2⟩
  | _ => ⟨v, .zero, .zero⟩

/-- Pieces of a decoded operand: only FP32 is split. -/
def piecesOf (c : Nat) (v : Num) : Pieces := if c = fmtFP32 then splitNum v else ⟨v, .zero, .zero⟩

/-- Is a value finite? -/
def Num.isFin : Num → Bool
  | .fin _ _ _ => true
  | _ => false

/-- The products of one element pair under a split mode (R511): with an infinite or NaN operand only hi·hi. -/
def splitProducts (split : Nat) (a b : Pieces) : List (Num × Num) :=
  if split = 0 || !a.hi.isFin || !b.hi.isFin then [(a.hi, b.hi)]
  else
    let p3 := [(a.hi, b.hi), (a.hi, b.mid), (a.mid, b.hi)]
    if split = 1 then p3 else p3 ++ [(a.mid, b.mid), (a.hi, b.lo), (a.lo, b.hi)]

/-- What an exact sum has seen so far: the finite part, infinities of each sign, a NaN, an invalid product. -/
structure SumAcc where
  i : Int
  e : Int
  pinf : Bool
  ninf : Bool
  nan : Bool
  nv : Bool
deriving DecidableEq, Repr

/-- The empty sum. -/
def SumAcc.zero : SumAcc := ⟨0, 0, false, false, false, false⟩

/-- Add one value exactly. -/
def SumAcc.addNum (a : SumAcc) (v : Num) : SumAcc :=
  match v with
  | .nan => { a with nan := true }
  | .inf false => { a with pinf := true }
  | .inf true => { a with ninf := true }
  | .fin s m e => let r := dyAdd a.i a.e (sgn s m) e; { a with i := r.1, e := r.2 }

/-- Add one product exactly (R492, R493). -/
def SumAcc.addProd (a : SumAcc) (p : Num × Num) : SumAcc :=
  let r := Num.mul p.1 p.2
  let a := a.addNum r.1
  { a with nv := a.nv || r.2 }

/-- The value of a sum: exact zero is +0; infinities of both signs give NaN with NV (R498). -/
def SumAcc.value (a : SumAcc) : Num × Flg :=
  if a.nan then (.nan, { nv := a.nv })
  else if a.pinf && a.ninf then (.nan, { nv := true })
  else if a.pinf then (.inf false, { nv := a.nv })
  else if a.ninf then (.inf true, { nv := a.nv })
  else (Num.ofDy a.i a.e, { nv := a.nv })

/-- One group of the float path (R497, R498): entry plus products, rounded once to nearest even. -/
def groupFloat (entry : Nat) (ps : List (Num × Num)) : Nat × Flg :=
  let e := ofFP32 entry
  let s := (ps.foldl SumAcc.addProd (SumAcc.zero.addNum e.1)).value
  let r := toFP32 .rne s.1
  (r.1, (e.2.or s.2).or r.2)

/-- One group of the integer path: exact products, saturated to INT32 (R495; NX is left alone, R526). -/
def groupInt (entry : Nat) (ps : List (Int × Int)) : Nat × Flg :=
  let s := ps.foldl (fun a p => a + p.1 * p.2) (sext 32 entry)
  if (2147483647 : Int) < s then (wrapI 32 2147483647, { sat := true })
  else if s < -2147483648 then (wrapI 32 (-2147483648), { sat := true })
  else (wrapI 32 s, {})

/-- The compensated-pair update (R513-R515): hi and lo with a group sum formed on lo. -/
def groupPair (hi lo : Nat) (ps : List (Num × Num)) : Nat × Nat × Flg :=
  let p := groupFloat lo ps
  let h := ofFP32 hi
  let pv := ofFP32 p.1
  let sum := Num.add .rne h.1 pv.1
  let h' := toFP32 .rne sum.1
  match (ofFP32 h'.1).1, sum.1 with
  | .fin s m e, .fin t n d =>
    let r := dyAdd (sgn t n) d (-(sgn s m)) e
    let l := toFP32 .rne (Num.ofDy r.1 r.2)
    (h'.1, l.1, (p.2.or h.2).or { fzr := l.2.fzr, uf := l.2.uf, nx := l.2.nx, nv := sum.2 })
  | _, _ => (h'.1, 0, (p.2.or h.2).or { of := h'.2.of, nx := h'.2.of, nv := sum.2 })

/-! ### Stochastic draws (R503-R505) -/

/-- One step of a lane's LFSR (R504). -/
def lfsrStep (s : Nat) : Nat :=
  let b := (b2n (bit s 31) + b2n (bit s 21) + b2n (bit s 1) + b2n (bit s 0)) % 2
  (2 * s) % 2 ^ 32 + b

/-- Sixteen steps. -/
def lfsr16 (s : Nat) : Nat := (List.range 16).foldl (fun s _ => lfsrStep s) s

/-- Lane `n`'s LFSR after a write of the seed (R505). -/
def lfsrLoad (seed n : Nat) : Nat :=
  let v := (seed ^^^ (n * 0x9E3779B9 % 2 ^ 32)) % 2 ^ 32
  if v = 0 then 1 else v

/-! ### Block scales (R489) -/

/-- emax of an MX format. -/
def mxEmax (c : Nat) : Nat :=
  match c with
  | 3 => 8 | 4 => 15 | 5 => 4 | 6 => 2 | 7 => 2 | _ => 0

/-- The block scale X that a conversion sets (R489). -/
def mxScale (c : Nat) (vs : List Num) : Nat :=
  if vs.any Num.isNan then 255
  else
    let exps := vs.filterMap (fun v => match v with
      | .fin _ m e => if m = 0 then none else some (e + (log2 m : Int))
      | _ => none)
    match exps with
    | [] => 0
    | x :: xs =>
      let top := xs.foldl (fun a b => if a < b then b else a) x
      let s := top - mxEmax c + 127
      if s < 0 then 0 else if 254 < s then 254 else s.toNat

/-- Multiply by a power of two. -/
def Num.scale (v : Num) (k : Int) : Num :=
  match v with
  | .fin s m e => .fin s m (e + k)
  | n => n

/-- Convert one element of a block under scale `x` (R489). -/
def mxElem (c x : Nat) (mode : Rnd) (v : Num) : Nat × Flg :=
  if c = fmtINT8 then encodeInt c mode (v.scale (127 - (x : Int) + 6))
  else encodeNum c mode (v.scale (127 - (x : Int)))

end Sys2Proof.Machine
end

