-- ==== Sys2Proof/Machine/TypesTile.lean ====
section
/-!
DEFINITION. One tile: registers, stores, trap state, MXU and stream engine (chapters 10, 11 and 12).
-/
namespace Sys2Proof.Machine

open Sys2Proof

/-- What a stream operation does (R616, R660). -/
inductive SKind where
  /-- SLOAD -/
  | load
  /-- SSTORE -/
  | store
  /-- SSIGNAL -/
  | signal
  /-- a fill of the layer list -/
  | fill
  /-- a fill that SPREF enqueued -/
  | spref
deriving DecidableEq, Repr

/-- A request a stream operation has sent and that has no response yet (R635). -/
structure SReq where
  tag : Nat
  gaddr : Nat
  ts : Nat
  len : Nat
  row : Nat
deriving DecidableEq, Repr

/-- An issued stream operation or a fill of the prefetch queue, with its copy of the descriptor (R632). -/
structure SOp where
  kind : SKind
  chan : Nat
  /-- the descriptor's sixteen 64-bit words -/
  desc : List Nat
  /-- global address the descriptor of a list fill is read from -/
  daddr : Nat
  /-- the descriptor has been read (always so for an issued operation) -/
  ready : Bool
  /-- tile-store address of the box -/
  ts : Nat
  /-- value of an SSIGNAL -/
  val : Nat
  /-- zero bytes of out-of-bound elements are written (R649) -/
  padded : Bool
  /-- next row of the box, and the next byte within it, to request -/
  row : Nat
  off : Nat
  /-- requests without a response -/
  out : List SReq
deriving DecidableEq, Repr

/-- A matrix operation held in the MXU, with the entries it will write (R546, R548). -/
structure MxuOp where
  dst : Nat
  m : Nat
  n : Nat
  pair : Bool
  /-- integer path (R494) -/
  int : Bool
  res : List Word
  poison : List Bool
  flags : Nat
deriving DecidableEq, Repr

/-- Architectural registers of a tile (R530). -/
structure TileRegs where
  g : SMap (BitVec 64)
  /-- those of p1-p7 that hold 1 -/
  p : NSet
  m : SMap (BitVec 64)
  v : SMap (BitVec 1024)
  /-- word w of descriptor dn at 16 n + w -/
  d : SMap (BitVec 64)
  /-- lane LFSRs (R504) -/
  lfsr : SMap Word
deriving DecidableEq, Repr

/-- TIL_STAT.STATE (R577). -/
inductive TState where
  | halted | run | faulted
deriving DecidableEq, Repr

/-- Run, trap and debug state of a tile (R576-R581). -/
structure TileCtl where
  st : TState
  why : Nat
  intrap : Bool
  ten : Bool
  bken : Bool
  /-- index of the next word; above 1,023 the fetch faults (R594) -/
  pc : Nat
  tvec : Nat
  epc : Nat
  cause : Word
  eval : BitVec 64
  flags : Word
  seed : Word
  bkpt : Nat
  cntRun : Word
  cntSstall : Word
  cntOstall : Word
  cntWords : Word
  /-- the next word is the first of a run or step, which a breakpoint does not stop (R564) -/
  fresh : Bool
  /-- a single step waits for its word to commit -/
  step : Bool
  /-- a FOLD_REQ waits for outstanding stream operations (R565) -/
  fold : Bool
  /-- tag of the checkpoint the tile has arrived at; 0xFFFF for the CHECKPOINT command (R834) -/
  arrived : Option Nat
  /-- stopped by the CHECKPOINT command, to run again when it ends (R834) -/
  ckStop : Bool
deriving DecidableEq, Repr

/-- Stores of a tile; tile-store bytes and lines by physical address (R657). -/
structure TileStores where
  ts : Memory
  tsP : NSet
  acc : SMap Word
  accP : NSet
  imem : Memory
deriving DecidableEq, Repr

/-- Stream engine of a tile. -/
structure TileStream where
  /-- issued operations and queued fills, oldest first -/
  ops : List SOp
  /-- channel served last (R636) -/
  last : Nat
  /-- TIL_SCH_ERR with its OVF half -/
  err : Word
  prio : Word
  num : Nat
  /-- physical half now working (TIL_LAYER.MAP) -/
  map : Bool
  pfErr : Bool
  pfOvf : Bool
  llist : Nat
  /-- first failing address (TIL_SCH_EADDR), held until every error bit reads 0 (R684) -/
  eaddr : Option Nat
  eaddrReg : Nat
  /-- address of the next layer-list entry, and whether entries of the present layer remain to be read -/
  next : Nat
  walking : Bool
  /-- an END entry has been read (R661) -/
  ended : Bool
  /-- issue of fills stopped by FOLD_REQ (R671) -/
  stopped : Bool
  /-- error of a JOB_START fill: 0 none, 1 error response, 3 FENCED (R668) -/
  jobErr : Nat
deriving DecidableEq, Repr

/-- One tile. -/
structure Tile where
  regs : TileRegs
  ctl : TileCtl
  mem : TileStores
  mxu : List MxuOp
  str : TileStream
deriving DecidableEq, Repr

/-- LFSR of lane `n` where none is listed: the load of seed 0 (R505). -/
def lfsrDefault (n : Nat) : Word := BitVec.ofNat 32 (lfsrLoad 0 n)

/-- A tile after a reset that clears tile stores (R566). -/
def Tile.reset : Tile where
  regs := { g := [], p := [], m := [], v := [], d := [], lfsr := [] }
  ctl := { st := .halted, why := 0, intrap := false, ten := false, bken := false, pc := 0, tvec := 0, epc := 0,
           cause := 0, eval := 0, flags := 0, seed := 0, bkpt := 0, cntRun := 0, cntSstall := 0, cntOstall := 0,
           cntWords := 0, fresh := false, step := false, fold := false,
           arrived := none, ckStop := false }
  mem := { ts := [], tsP := [], acc := [], accP := [], imem := [] }
  mxu := []
  str := { ops := [], last := 0, err := 0, prio := 0, num := 0, map := false, pfErr := false, pfOvf := false,
           llist := 0, eaddr := none, eaddrReg := 0, next := 0, walking := false, ended := false, stopped := false,
           jobErr := 0 }

end Sys2Proof.Machine
end

