-- ==== Sys2Proof/Machine/State.lean ====
section
/-!
DEFINITION. The state of the EL512 as plain data, what can stop it, and the state after reset.
-/
namespace Sys2Proof.Machine

open Sys2Proof

/-- Everything but the command queue and the eFuses. Device registers are in `regs` by address (a register whose value is
the view of other fields is not listed there); the sub-states hold what lies behind them. -/
structure Hw where
  regs : SMap Word
  /-- R19: high word latched by a read of the low word, by the low word's address -/
  latch : SMap (Option Word)
  /-- R20: low word written and not yet in effect, by its address -/
  lowHold : SMap (Option Word)
  /-- counter of the free values taken (assumption 1) -/
  free : Nat
  /-- identification fuses as loaded (chapter 1) -/
  ident : Ident
  /-- clocks and PLLs (chapter 2) -/
  clk : ClkState
  /-- resets and the watchdog (chapter 3) -/
  rst : RstState
  /-- power-state sequencer (chapter 3) -/
  pwr' : PwrState
  /-- error collector (chapter 22) -/
  err : ErrState
  /-- mailboxes (chapter 7) -/
  mbx : MbxState
  /-- PCIe endpoint (chapter 20) -/
  pcie : PcieState
  /-- network (chapter 13) -/
  noc : NocState
  /-- memories -/
  mem : Mems
  /-- memory controllers (chapter 14) -/
  hbm : HbmState
  /-- tiles by number (chapters 10 to 12) -/
  tiles : SMap Tile
  /-- partitions by number (chapter 15) -/
  part : SMap PartState
  /-- sensor front end (chapter 16) -/
  sns : SnsState
  /-- signal cores by number (chapter 17) -/
  sig : SMap SigCore
  /-- raster unit and display (chapter 18) -/
  gfx : GfxState
  dpy : DpyState
  /-- Ethernet ports (chapter 19) -/
  net : NetState
  /-- table unit and links (chapter 21) -/
  tbl : TblState
  /-- MRAM and its write pulses (chapter 8) -/
  fw : MramState
  /-- configuration engine (chapter 5) -/
  cfg : CfgEng
  /-- fabric (chapter 6) -/
  fab : FabState
  /-- test access port (chapter 4) -/
  tap : TapState
deriving DecidableEq, Repr

/-- The machine: commands waiting, eFuse words (R228; a fuse once programmed stays so), and the rest. -/
structure State where
  pending : List Instr
  fuse : SMap Word
  hw : Hw
deriving DecidableEq, Repr

/-- What stops the machine with an error of its own: nothing. Every error the manual describes is reported by the part,
and is part of the next state. -/
inductive Fault where
deriving DecidableEq, Repr

/-- Why a command is not carried out. -/
inductive Refusal where
  /-- a command whose meaning is not modelled, by its mnemonic: an arm of `exec` raises it. Safe: the run stops. No arm
  of this model does. -/
  | notModelled (mnemonic : String)
deriving DecidableEq, Repr

/-- The part just after the POR of the internal detector has been released and the sequence of R103 has run: an
EL512-2E-32 of stepping A1 (R45-R49; assumption 2), seat 0, boot source 0, stacks training, the Dealer about to enter
its boot ROM, and every register at its Reset entry (`resetWord`) but SYS_RST_CAUSE (POR_DET) and MEM_STAT (TRAINING,
step 1, derated). -/
def Hw.reset : Hw where
  regs := [(R.SYS_RST_CAUSE, 4), (R.MEM_STAT 0, 0x111), (R.MEM_STAT 1, 0x111)]
  latch := []
  lowHold := []
  free := 0
  ident := { hwid := 0xE5121122, bin := 0x00020000, parten := 0x0000FFFF, idcode := 0x1E512B3B, feat := 0xF, vcore := 750, sec := 0 }
  clk := ClkState.reset
  rst := RstState.reset
  pwr' := PwrState.reset []
  err := ErrState.reset
  mbx := MbxState.reset
  pcie := PcieState.reset true
  noc := NocState.reset
  mem := Mems.reset
  hbm := HbmState.reset []
  tiles := []
  part := []
  sns := SnsState.reset
  sig := []
  gfx := GfxState.reset
  dpy := DpyState.reset
  net := NetState.reset
  tbl := { TblState.reset with mapLost := true }
  fw := MramState.reset
  cfg := CfgEng.reset
  fab := FabState.reset
  tap := { TapState.reset with own := true }

/-- The machine right after reset, with no command waiting and no fuse of words 32 to 127 programmed (assumption 2). -/
def State.reset : State where
  pending := []
  fuse := []
  hw := Hw.reset

end Sys2Proof.Machine
end

