-- ==== Sys2Proof/Machine/Ops.lean ====
section
/-!
DEFINITION. The named operations every meaning is written with: register file, fields, counters and flags
(R10-R26, R1175-R1179), poisoned memories (R1153-R1156), fences and outcomes.
-/
namespace Sys2Proof.Machine

open Sys2Proof

/-- A meaning's outcome: the state with its hardware part replaced. -/
def State.next (s : State) (h : Hw) : Host.Outcome State Fault Refusal := .next { s with hw := h }

/-- A meaning that acts on the hardware part alone. -/
def State.upd (s : State) (f : Hw → Hw) : Host.Outcome State Fault Refusal := s.next (f s.hw)

/-! ### Registers -/

/-- The stored value of the register at address `a`. -/
def Hw.rd (h : Hw) (a : Nat) : Nat := (SMap.get resetWord h.regs a).toNat

/-- Store a register whole (R22). -/
def Hw.wr (h : Hw) (a v : Nat) : Hw := { h with regs := SMap.set resetWord h.regs a (BitVec.ofNat 32 v) }

/-- A field's value. -/
def Hw.get (h : Hw) (f : Fld) : Nat := bits (h.rd f.addr) f.hi f.lo

/-- Is a field not 0? -/
def Hw.is (h : Hw) (f : Fld) : Bool := h.get f != 0

/-- Hardware writes a field. -/
def Hw.put (h : Hw) (f : Fld) (v : Nat) : Hw := h.wr f.addr (setBits (h.rd f.addr) f.hi f.lo v)

/-- Hardware writes a one-bit field. -/
def Hw.putB (h : Hw) (f : Fld) (b : Bool) : Hw := h.put f (if b then 1 else 0)

/-- Bit `k` of a field. -/
def Hw.bitOf (h : Hw) (f : Fld) (k : Nat) : Bool := bit (h.get f) k

/-- Write bit `k` of a field. -/
def Hw.putBit (h : Hw) (f : Fld) (k : Nat) (b : Bool) : Hw := h.put f (setBit (h.get f) k b)

/-- A field of two-bit entries: entry `k`. -/
def Hw.get2 (h : Hw) (f : Fld) (k : Nat) : Nat := bits (h.get f) (2 * k + 1) (2 * k)

/-- Write entry `k` of a field of two-bit entries. -/
def Hw.put2 (h : Hw) (f : Fld) (k v : Nat) : Hw := h.put f (setBits (h.get f) (2 * k + 1) (2 * k) v)

/-- The largest value of a field. -/
def Fld.maxVal (f : Fld) : Nat := 2 ^ (f.hi + 1 - f.lo) - 1

/-- Add to a saturating counter. -/
def Hw.bumpBy (h : Hw) (f : Fld) (n : Nat) : Hw := h.put f (min f.maxVal (h.get f + n))

/-- Count one in a saturating counter. -/
def Hw.bump (h : Hw) (f : Fld) : Hw := h.bumpBy f 1

/-- An event sets bit `k` of flag field `f`; an event that finds it set sets the OVF bit `ofs` bits above
(R1176, R1178). -/
def Hw.raiseAt (h : Hw) (f : Fld) (k ofs : Nat) : Hw :=
  let w := h.rd f.addr
  if bit w (f.lo + k) then h.wr f.addr (setBit w (f.lo + k + ofs) true)
  else h.wr f.addr (setBit w (f.lo + k) true)

/-- An event sets a flag whose OVF bit lies 16 bits above it (R1176). -/
def Hw.raise (h : Hw) (f : Fld) (k : Nat) : Hw := h.raiseAt f k 16

/-- A 64-bit value of two registers, low word first (R19). -/
def Hw.rd64 (h : Hw) (lo hi : Nat) : Nat := h.rd lo + h.rd hi * 2 ^ 32

/-- Hardware writes a 64-bit value to two registers. -/
def Hw.wr64 (h : Hw) (lo hi v : Nat) : Hw := (h.wr lo v).wr hi (v / 2 ^ 32)

/-! ### Memories with poison (R1153-R1156) -/

/-- Granules of size `g` touched by bytes [a, a + n). -/
def granules (g a n : Nat) : List Nat :=
  if n = 0 then [] else (List.range ((a + n - 1) / g + 1 - a / g)).map (fun i => a / g + i)

/-- Poison after a write of bytes [a, a + n): a granule covered whole takes `p`; one covered in part is poisoned
if it was or if `p` (R1155, R1156). -/
def poisonAfter (g : Nat) (s : NSet) (a n : Nat) (p : Bool) : NSet :=
  (granules g a n).foldl (fun s k =>
    if p then NSet.add s k
    else if a ≤ k * g ∧ (k + 1) * g ≤ a + n then NSet.del s k else s) s

/-- Is any granule of bytes [a, a + n) poisoned? -/
def poisonIn (g : Nat) (s : NSet) (a n : Nat) : Bool := (granules g a n).any (fun k => NSet.has s k)

/-- Bytes of Kitty's ring area that no ring occupies: they read 0 and take no writes (R347, R15). -/
def kittyHole (a : Nat) : Bool := decide (a < 0x22000) && decide (0x1400 ≤ a % 0x2000)

/-- Bytes from address `a` up, leaving those of the holes. -/
def kittyWrite (m : Memory) (a : Nat) : List Byte → Memory
  | [] => m
  | b :: bs => kittyWrite (if kittyHole a then m else Mem.set m a b) (a + 1) bs

/-- A write to Kitty. -/
def Hw.kittyW (h : Hw) (a : Nat) (bs : List Byte) (p : Bool := false) : Hw :=
  { h with mem := { h.mem with
      kitty := kittyWrite h.mem.kitty a bs,
      kittyP := (poisonAfter 32 h.mem.kittyP a bs.length p).filter (fun l => !kittyHole (32 * l)) } }

/-- A write to this seat's HBM. -/
def Hw.hbmW (h : Hw) (a : Nat) (bs : List Byte) (p : Bool := false) : Hw :=
  { h with mem := { h.mem with hbm := Mem.write h.mem.hbm a bs,
                               hbmP := poisonAfter 32 h.mem.hbmP a bs.length p } }

/-- Bytes the part writes to host memory. -/
def Hw.hostW (h : Hw) (a : Nat) (bs : List Byte) : Hw :=
  { h with mem := { h.mem with host := Mem.write h.mem.host a bs } }

/-! ### Free values -/

/-- The free value of the present step, of `w` bits, and the counter moved on (assumption 1). -/
def Hw.takeFree (h : Hw) (w : Nat) : Nat × Hw :=
  ((Config.freeValue h.free).toNat % 2 ^ w, { h with free := h.free + 1 })

/-- A free truth value. -/
def Hw.takeFreeB (h : Hw) : Bool × Hw :=
  ((Config.freeValue h.free).toNat % 2 == 1, { h with free := h.free + 1 })

/-! ### Fences -/

/-- Fence causes, as bits of a node's mask. -/
inductive Cause where
  /-- clock loss of the node's reference (R70) -/
  | clock
  /-- loss of lock of the node's own PLL (R70) -/
  | pll
  /-- folded or off (R715, R727) -/
  | fold
  /-- fabric port before the staged release (R251) -/
  | unreleased
  /-- fabric port of an isolated region (R260) -/
  | isolated
  /-- fabric port whose user PLL lost lock (R336) -/
  | userPll
  /-- fabric port fenced with PARK or LISTEN (R124) -/
  | park
deriving DecidableEq, Repr

/-- The bit of a fence cause. -/
def Cause.bit : Cause → Nat
  | .clock => 0 | .pll => 1 | .fold => 2 | .unreleased => 3 | .isolated => 4 | .userPll => 5 | .park => 6

/-- Fence causes of a node at reset: tiles are OFF and read FOLDED (R727), fabric ports wait for the staged
release (R251). -/
def fenceReset (n : Nat) : Nat := if n < 512 then 4 else if 576 ≤ n ∧ n < 640 then 8 else 0

/-- The fence causes of node `n`, as a mask. -/
def Hw.fenceMask (h : Hw) (n : Nat) : Nat := SMap.get fenceReset h.noc.fence n

/-- Is node `n` fenced? -/
def Hw.fenced (h : Hw) (n : Nat) : Bool := h.fenceMask n != 0

/-- Set or remove one cause of node `n`'s fence. -/
def Hw.fenceSet (h : Hw) (n : Nat) (c : Cause) (b : Bool) : Hw :=
  { h with noc := { h.noc with
      fence := SMap.set fenceReset h.noc.fence n (setBit (h.fenceMask n) c.bit b) } }

/-- Set or remove one cause for a list of nodes. -/
def Hw.fenceAll (h : Hw) (ns : List Nat) (c : Cause) (b : Bool) : Hw :=
  ns.foldl (fun h n => h.fenceSet n c b) h

/-! ### Identity and geometry -/

/-- The own seat (TBL_STAT.SEAT). -/
def Hw.seat (h : Hw) : Nat := h.get R.TBL_STAT_SEAT

/-- Power states of R161. -/
def pwrRUN : Nat := 0
def pwrIDLE : Nat := 1
def pwrPARK : Nat := 2
def pwrLISTEN : Nat := 3
def pwrDEEP : Nat := 4

/-- PWR_STATE.STATE. -/
def Hw.pwr (h : Hw) : Nat := h.get R.PWR_STATE_STATE

/-- The part is in LISTEN or DEEP. From step 4 of the exit the Dealer and its clocks run again (R144), although PWR_STATE
names the state left until step 7. -/
def Hw.asleep (h : Hw) : Bool := (h.pwr == pwrLISTEN || h.pwr == pwrDEEP) && h.pwr'.phase != .exitRun

/-- The partition of tile `t`: 16 × 2 tiles each, west half 0-7, east half 8-15 (R794). -/
def partOf (t : Nat) : Nat := t / 64 + 8 * ((t % 32) / 16)

/-- The tiles of partition `p`, in the order of their relative numbers (R795). -/
def tilesOf (p : Nat) : List Nat :=
  (List.range 32).map (fun r => 64 * (p % 8) + 32 * (r / 16) + 16 * (p / 8) + r % 16)

/-- A reset sequence holds the blocks of the system level (`system`), or those of the core level: POR is asserted, or the
reset waits for nothing but its pins and its sequence. After POR the blocks stay held until SYSCLK runs (R102). -/
def Hw.heldAt (h : Hw) (system : Bool) : Bool :=
  h.rst.por ||
  match h.rst.pend with
  | some p => p.nv == 0 && !p.wake && (!p.noclk || p.level == .por) && (!system || p.level != .core)
  | none => false

/-- SYSCLK runs: the system PLL holds lock and REFCLK is not lost (R94). -/
def Hw.sysclk (h : Hw) : Bool := NSet.has h.clk.locked 0 && decide (NMap.get h.clk.run 0 < 2)

/-- NOCCLK runs: with it the routers and Kitty (R50). -/
def Hw.nocclk (h : Hw) : Bool := NSet.has h.clk.locked 1

/-- MEMCLK runs (R50). -/
def Hw.memclk (h : Hw) : Bool := NSet.has h.clk.locked 2

/-- The system domain stands still: LISTEN or DEEP, POR or a system reset, or SYSCLK absent (R25, R72, R86). -/
def Hw.busDown (h : Hw) : Bool := h.asleep || h.heldAt true || !h.sysclk

/-- The Dealer runs and reaches the register bus. -/
def Hw.dealerUp (h : Hw) : Bool := h.rst.dealerRun && !h.busDown && !(h.heldAt false)

/-- Append to one of the lists of a keyed map. -/
def lmapGet {α : Type} (m : SMap (List α)) (k : Nat) : List α := SMap.get (fun _ => []) m k

/-- Replace one of the lists of a keyed map. -/
def lmapSet {α : Type} [DecidableEq α] (m : SMap (List α)) (k : Nat) (l : List α) : SMap (List α) :=
  SMap.set (fun _ => []) m k l

end Sys2Proof.Machine
end

