-- ==== Sys2Proof/Machine/BoundaryPins.lean ====
section
/-!
DEFINITION. The pins and cells of the boundary register (R188, R189), and the levels that a boundary-scan instruction makes
system logic see (R184). The order of the cells is that of EL512_A1.bsd, a file outside the spec: the cell of a pin's function
is a constant without a body (assumption 66).
-/
namespace Sys2Proof.Machine

open Sys2Proof

/-- The length of the boundary register (R188). -/
def bsrLen : Nat := 1535

/-- Events on input pins other than the reset pins do not reach system logic (R184, R186). -/
def Hw.pinsFrozen (h : Hw) : Bool := h.tap.frozen.isSome

/-- Pins of the boundary register (R188). Transmit and receive pairs by number: PCIe 0-7, Moazel 8-39, Ethernet 40-41, and
for transmit DisplayPort 42-45. -/
inductive BPin where
  | io (n m : Nat)
  | spiDq (i : Nat)
  | spiDqs | spiClk | spiCsN | spiResetN
  | snsClk (g : Nat)
  | snsRng (i : Nat)
  | snsD (i : Nat)
  | snsMclk | porN | sysRstN | coreRstN | progN | perstN | dpHpd
  | seatId (i : Nat)
  | bootSrc (i : Nat)
  | wakeIn (i : Nat)
  | done | clkreqN | cfgErrN | errN | alertN | pcieWakeN | wakeOut
  | refclk (i : Nat)
  | tx (i : Nat)
  | rx (i : Nat)
  | dpAux
deriving DecidableEq, Repr

/-- What a cell does. -/
inductive BCell where
  | input | output | enable | data | pLeg | nLeg
deriving DecidableEq, Repr

/-- Every pin of the register, in the order of the table of R188. -/
def bPins : List BPin :=
  ((List.range 13).map (fun n => (List.range 32).map (fun m => BPin.io n m))).flatten ++
  (List.range 8).map BPin.spiDq ++ [.spiDqs, .spiClk, .spiCsN, .spiResetN] ++
  (List.range 4).map BPin.snsClk ++ (List.range 8).map BPin.snsRng ++ (List.range 16).map BPin.snsD ++
  [.snsMclk, .porN, .sysRstN, .coreRstN, .progN, .perstN, .dpHpd] ++ (List.range 3).map BPin.seatId ++
  (List.range 2).map BPin.bootSrc ++ (List.range 4).map BPin.wakeIn ++
  [.done, .clkreqN, .cfgErrN, .errN, .alertN, .pcieWakeN, .wakeOut] ++ (List.range 3).map BPin.refclk ++
  (List.range 46).map BPin.tx ++ (List.range 42).map BPin.rx ++ [.dpAux]

/-- The cells of a pin (R188). XTAL32, the TAP pins and the HBM interface have none (R189). -/
def BPin.cells : BPin → List BCell
  | .io _ _ => [.input, .output, .enable]
  | .spiDq _ | .spiDqs => [.input, .output, .enable]
  | .spiClk | .spiCsN | .spiResetN => [.output, .enable]
  | .snsClk _ | .snsRng _ => [.output, .enable]
  | .snsD _ | .snsMclk | .porN | .sysRstN | .coreRstN | .progN | .perstN | .dpHpd => [.input]
  | .seatId _ | .bootSrc _ | .wakeIn _ => [.input]
  | .done | .clkreqN => [.input, .output, .enable]
  | .cfgErrN | .errN | .alertN | .pcieWakeN => [.output, .enable]
  | .wakeOut | .refclk _ => [.input]
  | .tx _ => [.data, .enable]
  | .rx _ => [.pLeg, .nLeg]
  | .dpAux => [.data, .enable, .pLeg, .nLeg]

/-- A pin's cell in a vector of 1,535 cells. -/
def bCell (cells : Nat) (p : BPin) (c : BCell) : Bool :=
  bit cells (Config.bsdlCell (bPins.idxOf p) (BPin.cells p |>.idxOf c) % bsrLen)

/-- The level that system logic sees on an input pin while boundary scan holds it (R184): none where it sees the pin. -/
def Hw.frozenIn (h : Hw) (p : BPin) : Option Bool := h.tap.frozen.map (fun v => bCell v p .input)

/-- The bits of a data pin that system logic captures (R184): those of the pin, or its held level for ever. -/
def Hw.pdmSeen (h : Hw) (pin bits : Nat) : Nat :=
  match h.frozenIn (.snsD pin) with
  | none => bits
  | some true => 2 ^ (2 ^ 20) - 1
  | some false => 0

/-- Strap pins as system logic samples them. -/
def Hw.strapSeen (h : Hw) (v w : Nat) (pin : Nat → BPin) : Nat :=
  maskOf ((List.range w).filter (fun i => (h.frozenIn (pin i)).getD (bit v i)))

end Sys2Proof.Machine
end

