-- ==== Sys2Proof/Machine/Report.lean ====
section
/-!
DEFINITION. Error reports: how a block raises one and hands it to the collector, and how the collector logs it
(chapter 22: R1158-R1169, R1180-R1183, R1240, R1241).
-/
namespace Sys2Proof.Machine

open Sys2Proof

/-- Error classes of R1164. -/
def eCLOCK : Nat := 1
def eADDRESS : Nat := 2
def eCRC : Nat := 3
def eISOLATION : Nat := 4
def eFOLD : Nat := 5
def eTIMEOUT : Nat := 6
def eMEMORY : Nat := 7
def eMRAM : Nat := 8
def eTHERMAL : Nat := 9
def eSIGNAL : Nat := 10
def ePCIE : Nat := 11
def eGRAPHICS : Nat := 12
def eTABLE : Nat := 13
def eCONFIG : Nat := 14

/-- The node number that reports of blocks without a network endpoint carry (R1165). -/
def nodeREG : Nat := 654

/-- Fatal events (R1164). -/
def isFatal (cls code : Nat) : Bool :=
  (cls == 1 && (code == 1 || code == 2)) || (cls == 7 && (code == 3 || code == 9)) ||
  (cls == 8 && code == 3) || (cls == 9 && (code == 2 || code == 3)) || (cls == 14 && code == 1)

/-- A report is fatal. -/
def Report.fatal (r : Report) : Bool := isFatal r.cls r.code

/-- The queue a report goes through: its node, or for the blocks behind node 654 the class as well (R1240). -/
def blkOf (cls node : Nat) : Nat := if node = nodeREG then 1024 + cls else node

/-- A block hands a report to its own queue of 4 (R1240): one entry is kept for fatal reports; a non-fatal report that
finds three in use is dropped and counted, saturating at 255; a fatal report is never dropped. -/
def Hw.raiseRep (h : Hw) (r : Report) : Hw :=
  let used := (h.err.blkQ.filter (fun q => q.blk == r.blk)).length
  if r.fatal || decide (used < 3) then
    { h with err := { h.err with blkQ := h.err.blkQ ++ [r] } }
  else
    { h with err := { h.err with
        blkDrop := NMap.set h.err.blkDrop r.blk (min 255 (NMap.get h.err.blkDrop r.blk + 1)) } }

/-- Raise an error of this seat, with what its log entry will hold. -/
def Hw.errFull (h : Hw) (cls code node : Nat) (addr : Option Nat) (synd count : Nat) (poison : Bool) : Hw :=
  h.raiseRep ⟨cls, code, node, h.seat, blkOf cls node, addr, synd, count, poison, h.clk.tt⟩

/-- Raise an error with neither address nor syndrome. -/
def Hw.errAt (h : Hw) (cls code node : Nat) : Hw := h.errFull cls code node none 0 1 false

/-- Raise an error that names an address. -/
def Hw.errAddr (h : Hw) (cls code node addr : Nat) : Hw := h.errFull cls code node (some addr) 0 1 false

/-- A lasting fatal condition begins: it is reported, and again whenever its flag is cleared (R1241). -/
def Hw.lastingOn (h : Hw) (cls code node : Nat) : Hw :=
  let h := h.errAt cls code node
  { h with err := { h.err with lasting := NSet.add h.err.lasting (cls * 256 + code) } }

/-- A lasting fatal condition ends. -/
def Hw.lastingOff (h : Hw) (cls code : Nat) : Hw :=
  { h with err := { h.err with lasting := NSet.del h.err.lasting (cls * 256 + code) } }

/-- The lasting conditions of the classes in mask `m` are reported again (R1241). -/
def Hw.repeatLasting (h : Hw) (m : Nat) : Hw :=
  h.err.lasting.foldl (fun h k => if bit m (k / 256) then h.errAt (k / 256) (k % 256) nodeREG else h) h

/-! ### The collector -/

/-- Kitty takes log writes: node 641 is not fenced and Kitty is not held in reset (R1183). -/
def Hw.kittyUp (h : Hw) : Bool := !(h.fenced 641) && !h.busDown && h.nocclk

/-- Offset of the log ring in Kitty (R1166). -/
def logBase : Nat := 0x7C0000

/-- The 32 bytes of a log entry (R1165). -/
def logEntry (r : Report) (own seq : Nat) : List Byte :=
  leBytes 1 r.cls ++ leBytes 1 r.code ++
  leBytes 1 (b2n r.fatal + 2 * b2n r.addr.isSome + 4 * b2n r.poison + 8 * b2n (r.seat != own)) ++
  leBytes 1 r.seat ++ leBytes 2 (r.node % 1024) ++ leBytes 2 (min 65535 r.count) ++
  leBytes 8 ((r.addr.getD 0) % 2 ^ 48) ++ leBytes 4 r.synd ++ leBytes 4 seq ++ leBytes 8 r.time

/-- 1 ms in units of table time. -/
def oneMs : Nat := 16000000

/-- A non-fatal report merges with the last entry written: same class, code, node and address, within 1 ms (R1168). -/
def mergesWith (r : Report) : Option LastEntry → Option LastEntry
  | none => none
  | some l =>
    if !r.fatal && l.cls == r.cls && l.code == r.code && l.node == r.node && l.addr == r.addr
        && decide (r.time ≤ l.time + oneMs ∧ l.time ≤ r.time + oneMs) then some l else none

/-- Write a report into the log ring: a new entry, or COUNT of the last one in place (R1165-R1168). -/
def Hw.logWrite (h : Hw) (r : Report) : Hw :=
  match mergesWith r h.err.last with
  | some l =>
    let a := logBase + 32 * l.slot + 6
    let c := Mem.rd h.mem.kitty a 2
    h.kittyW a (leBytes 2 (min 65535 (c + r.count)))
  | none =>
    let w := h.get R.ERR_LOG_WIDX_WIDX
    let slot := w % 4096
    let h := if 4096 ≤ w then h.raise R.ERR_FLAGS_WRAP 0 else h
    let h := h.kittyW (logBase + 32 * slot) (logEntry r h.seat w)
    let h := h.put R.ERR_LOG_WIDX_WIDX (w + 1)
    { h with err := { h.err with last := some ⟨r.cls, r.code, r.node, r.addr, r.time, slot⟩ } }

/-- Log everything queued while Kitty takes writes (R1183). -/
def Hw.drainLog (h : Hw) : Hw :=
  if h.kittyUp then
    let h' := h.err.queue.foldl (fun h r => h.logWrite r) h
    { h' with err := { h'.err with queue := [] } }
  else h

/-- The class counter of class `c`. -/
def Hw.countClass (h : Hw) (c : Nat) : Hw :=
  if 1 ≤ c ∧ c ≤ 14 then h.bump (R.ERR_CNT_COUNT (c - 1)) else h

/-- A dropped report: ERR_DROP counts it and ERR_FLAGS.DROP is set (R1159, R1240). -/
def Hw.dropReports (h : Hw) (n : Nat) : Hw :=
  if n = 0 then h else (h.bumpBy R.ERR_DROP_COUNT n).raise R.ERR_FLAGS_DROP 0

/-- A non-fatal report enters the collector: counted; then masked (R1169), dropped with the queue full (R1159), or
queued for the log. -/
def Hw.collectNonFatal (h : Hw) (r : Report) : Hw :=
  let h := h.countClass r.cls
  if h.bitOf R.ERR_MASK_MASK (r.cls - 1) then h
  else if 64 ≤ h.err.queue.length then h.dropReports 1
  else ({ h with err := { h.err with queue := h.err.queue ++ [r] } } : Hw).drainLog

/-- A fatal report enters the collector: its class bit, the first code (R1160, R1162), and its log entry before any
queued report. -/
def Hw.collectFatal (h : Hw) (r : Report) : Hw :=
  let first := h.get R.ERR_FATAL_CLASS == 0
  let h := (h.countClass r.cls).raise R.ERR_FATAL_CLASS (r.cls - 1)
  let h := if first && !h.err.rstPend then h.put R.ERR_FATAL_CODE_CODE (r.cls * 256 + r.code) else h
  if h.kittyUp then (h.logWrite r).drainLog
  else { h with err := { h.err with queue := h.err.queue.filter Report.fatal ++ r :: h.err.queue.filter (fun q => !q.fatal) } }

/-- The report the collector takes next from the block queues: a fatal one first, of two the lower class then code
(R1180), else the block after the last one served (R1240). -/
def nextReport (e : ErrState) : Option Report :=
  let fatals := e.blkQ.filter Report.fatal
  match fatals with
  | f :: fs => some (fs.foldl (fun b r => if r.blk != b.blk && decide (r.cls * 256 + r.code < b.cls * 256 + b.code)
      && !(fs.any (fun q => q.blk == r.blk && q != r)) then r else b) f)
  | [] =>
    let above := e.blkQ.filter (fun r => decide (e.lastBlk < r.blk))
    let pool := if above.isEmpty then e.blkQ else above
    match pool with
    | [] => none
    | p :: ps => some (ps.foldl (fun b r => if r.blk < b.blk then r else b) p)

/-- Take one report out of the block queues with its block's drop count (R1240). -/
def Hw.takeReport (h : Hw) (r : Report) : Hw :=
  let n := NMap.get h.err.blkDrop r.blk
  let h := { h with err := { h.err with
      blkQ := h.err.blkQ.erase r, lastBlk := r.blk, blkDrop := NMap.set h.err.blkDrop r.blk 0 } }
  h.dropReports n

/-- A reset of the system level waits for SYSCLK: ERR_N and DONE are driven as for the reset in progress (R95). -/
def Hw.pendDriven (h : Hw) : Bool := h.rst.pend.any (fun p => p.noclk && p.level != .core)

/-- ERR_N is low: a fatal class bit is set, the collector is held in reset, or the always-on domain drives it
(R1161, R70). -/
def Hw.errN (h : Hw) : Bool :=
  (h.get R.ERR_FATAL_CLASS != 0) || h.heldAt true || h.rst.aonErr || h.pendDriven

/-- ALERT_N is low (R1163). -/
def Hw.alertN (h : Hw) : Bool := (h.get R.ERR_ALERT_ALERT &&& h.get R.ERR_ALERT_EN_EN) != 0

/-- Word groups of [a, a + n) of the MRAM read back with an uncorrectable error: UE and an MRAM report each (R413). -/
def Hw.mramUE (h : Hw) (a n : Nat) : Hw :=
  (h.fw.bad.filter (fun g => decide (a < 32 * g + 32 ∧ 32 * g < a + n))).foldl (fun (h : Hw) _ => (h.raise R.SYS_MRAM_ERR_UE 0).errAt eMRAM 2 nodeREG) h

end Sys2Proof.Machine
end

