-- ==== Sys2Proof/Machine/Mailbox.lean ====
section
/-!
DEFINITION. Mailbox mechanics shared by every command and event: completion entries, PHASE, events, MSI-X
(R346-R379, R398-R401, R1074, R1075).
-/
namespace Sys2Proof.Machine

open Sys2Proof

/-! ### MSI-X -/

/-- Reset value of a word of an MSI-X table: the vector-control word (offset 12) has its mask bit set, under the PCIe
base specification (R377). -/
def msixReset (k : Nat) : Word := if k % 16 = 12 then 1 else 0

/-- A configuration word of function `fn`. -/
def Hw.cfgWord (h : Hw) (fn off : Nat) : Nat := (SMap.get cfgReset h.pcie.cfg (fn * 4096 + off)).toNat

/-- MSI-X Enable and Function Mask of function `fn`: bits 31 and 30 of the capability's first word at 0x050 (R1056). -/
def Hw.msixEnable (h : Hw) (fn : Nat) : Bool := bit (h.cfgWord fn 0x50) 31
def Hw.msixFnMask (h : Hw) (fn : Nat) : Bool := bit (h.cfgWord fn 0x50) 30

/-- Bus Master Enable of function `fn`: Command register bit 2. -/
def Hw.busMaster (h : Hw) (fn : Nat) : Bool := bit (h.cfgWord fn 4) 2

/-- Max_Payload_Size, at most 512 bytes, and Max_Read_Request_Size of function `fn`: device control [7:5] and [14:12]
(R1053, R1070). -/
def Hw.maxPayload (h : Hw) (fn : Nat) : Nat := min 512 (128 * 2 ^ bits (h.cfgWord fn 0x78) 7 5)
def Hw.maxRead (h : Hw) (fn : Nat) : Nat := min 4096 (128 * 2 ^ bits (h.cfgWord fn 0x78) 14 12)

/-- Reads a DMA engine of function `fn` may have outstanding: 96 with 10-Bit Tag Requester Enable, device control 2 bit 12,
else 32 (R1071). -/
def Hw.maxTags (h : Hw) (fn : Nat) : Nat := if bit (h.cfgWord fn 0x98) 12 then 96 else 32

/-- The function whose requester ID a mailbox's engine carries (R373). -/
def dmaFn (m : Nat) : Nat := if m = 16 then 0 else m + 1

/-- A transfer of `n` bytes from `a` in pieces of at most `mx` bytes, none across a multiple of `bound`; the first
argument bounds their number. -/
def chunks (mx bound : Nat) : Nat → Nat → Nat → List (Nat × Nat)
  | 0, _, _ => []
  | f + 1, a, n =>
    if n = 0 then []
    else
      let k := max 1 (min n (min mx (bound - a % bound)))
      (a, k) :: chunks mx bound f (a + k) (n - k)

/-- VF Enable: SR-IOV control bit 0, at 0x200 + 8 (R1056). -/
def Hw.vfEnable (h : Hw) : Bool := bit (h.cfgWord 0 0x208) 0

/-- Vector `v` of function `fn` is masked. -/
def Hw.msixMasked (h : Hw) (fn v : Nat) : Bool :=
  h.msixFnMask fn || bit (SMap.get msixReset h.pcie.msix (fn * 65536 + 16 * v + 12)).toNat 0

/-- The link carries messages. -/
def Hw.linkUp (h : Hw) : Bool := h.is R.PCIE_STAT_DL_UP && !(h.is R.PCIE_STAT_L2)

/-- One MSI-X message falls due: dropped with IRQ_DROP (R1075), left pending while masked (R377), or sent. -/
def Hw.msixFire (h : Hw) (fn v : Nat) : Hw :=
  let k := fn * 64 + v
  if !(h.msixEnable fn) || !h.linkUp then h.raise R.PCIE_FLAGS_IRQ_DROP 0
  else if h.msixMasked fn v then { h with pcie := { h.pcie with pend := NSet.add h.pcie.pend k } }
  else { h with pcie := { h.pcie with sent := NMap.set h.pcie.sent k (NMap.get h.pcie.sent k + 1) } }

/-- Pending messages of vectors no longer masked are sent (R377). -/
def Hw.msixUnmask (h : Hw) : Hw :=
  h.pcie.pend.foldl (fun h k =>
    if h.msixMasked (k / 64) (k % 64) || !(h.msixEnable (k / 64)) then h
    else ({ h with pcie := { h.pcie with pend := NSet.del h.pcie.pend k } } : Hw).msixFire (k / 64) (k % 64)) h

/-! ### Completion rings -/

/-- Function and vector that mailbox `m` signals (R374). -/
def Hw.mbxVector (h : Hw) (m : Nat) : Nat × Nat :=
  if m = 16 then (0, 0) else if h.is (R.MBX_CTL_IRQ_FN m) then (m + 1, 0) else (0, 1 + m)

/-- Unsignalled completions of mailbox `m` (R375). -/
def Hw.unsig (h : Hw) (m : Nat) : Nat := NMap.get h.mbx.unsig m

/-- Set the count of unsignalled completions. -/
def Hw.setUnsig (h : Hw) (m n : Nat) : Hw := { h with mbx := { h.mbx with unsig := NMap.set h.mbx.unsig m n } }

/-- Mailbox `m` sends its vector, unless IRQ_EN = 0 (R375, R377). -/
def Hw.mbxSignal (h : Hw) (m : Nat) : Hw :=
  if h.is (R.MBX_CTL_IRQ_EN m) then
    let v := h.mbxVector m
    (h.setUnsig m 0).msixFire v.1 v.2
  else h

/-- A completion was posted in mailbox `m`: counted unless NOIRQ (R376), and signalled at COAL_N (R375). -/
def Hw.mbxCounted (h : Hw) (m : Nat) (noirq : Bool) : Hw :=
  if noirq then h
  else
    let h := h.setUnsig m (h.unsig m + 1)
    if h.get (R.MBX_CTL_COAL_N m) ≤ h.unsig m then h.mbxSignal m else h

/-- Offset in Kitty of completion slot `i` of mailbox `m` (R346). -/
def cplSlot (m i : Nat) : Nat := 0x2000 * m + 0x1000 + 16 * (i % 64)

/-- Offset in Kitty of command slot `i` of mailbox `m` (R346). -/
def cmdSlot (m i : Nat) : Nat := 0x2000 * m + 64 * (i % 64)

/-- PHASE of completion index `i` (R355). -/
def phaseOf (i : Nat) : Nat := if (i / 64) % 2 = 0 then 1 else 0

/-- Write one completion entry (R354, R355), advance MBX_CPL_TAIL, then schedule the message (R361). -/
def Hw.postEntry (h : Hw) (m tag status detail result : Nat) (noirq : Bool) : Hw :=
  let i := h.get (R.MBX_CPL_TAIL_TAIL m)
  let e := leBytes 4 tag ++ leBytes 2 (status % 32768 + 32768 * phaseOf i) ++ leBytes 2 detail ++ leBytes 8 result
  ((h.kittyW (cplSlot m i) e).put (R.MBX_CPL_TAIL_TAIL m) ((i + 1) % 65536)).mbxCounted m noirq

/-- Commands of mailbox `m` in flight. -/
def Hw.inflight (h : Hw) (m : Nat) : List InFlight := h.mbx.infl.filter (fun f => f.mb == m)

/-- Completions posted and not yet consumed. -/
def Hw.cplUsed (h : Hw) (m : Nat) : Nat :=
  subMod 16 (h.get (R.MBX_CPL_TAIL_TAIL m)) (h.get (R.MBX_DB_CPL_HEAD m))

/-- A completion slot is free beyond those reserved for commands in flight (R362, R379). -/
def Hw.slotFree (h : Hw) (m : Nat) : Bool := decide (h.cplUsed m + (h.inflight m).length < 64)

/-- Queued events of mailbox `m`. -/
def Hw.events (h : Hw) (m : Nat) : List Evt := lmapGet h.mbx.events m

/-- Status codes of R381. -/
def stOK : Nat := 0
def stSETTINGS_DEGRADED : Nat := 1
def stROM_SERVICE : Nat := 2
def stBAD_OPCODE : Nat := 0x10
def stBAD_FLAGS : Nat := 0x11
def stBAD_PARAM : Nat := 0x12
def stNOT_PERMITTED : Nat := 0x13
def stNOT_IN_SERVICE : Nat := 0x14
def stWRONG_STATE : Nat := 0x15
def stBUSY : Nat := 0x16
def stNO_RESOURCE : Nat := 0x17
def stDMA_ERROR : Nat := 0x18
def stMEM_ERROR : Nat := 0x19
def stTIMEOUT : Nat := 0x1A
def stABORTED : Nat := 0x1B
def stCONFIG_FAIL : Nat := 0x1C
def stVERSION : Nat := 0x1D
def stFLASH_ERROR : Nat := 0x1E
def stEVENT : Nat := 0x7F00

/-- Post an event entry in a free slot, or queue it, or drop it with EVT_LOST when 32 wait (R378, R379). -/
def Hw.postEventSt (h : Hw) (m status code result : Nat) : Hw :=
  if (h.events m).isEmpty && h.slotFree m then h.postEntry m 0xFFFFFFFF status code result false
  else if 32 ≤ (h.events m).length then h.raise (R.MBX_ERR_EVT_LOST m) 0
  else { h with mbx := { h.mbx with events := lmapSet h.mbx.events m (h.events m ++ [⟨code, result, status⟩]) } }

/-- An event of R378: status EVENT, DETAIL its code. -/
def Hw.postEvent (h : Hw) (m code result : Nat) : Hw := h.postEventSt m stEVENT code result

/-- A queued event takes a slot that became free (R379). -/
def Hw.dequeueEvent (h : Hw) (m : Nat) : Hw :=
  match h.events m with
  | [] => h
  | e :: es =>
    if h.slotFree m then
      ({ h with mbx := { h.mbx with events := lmapSet h.mbx.events m es } } : Hw).postEntry
        m 0xFFFFFFFF e.status e.code e.result false
    else h

/-- Event codes of R378. -/
def evPART_FAULT : Nat := 1
def evJOB_DONE : Nat := 2
def evSEAT_LOST : Nat := 3
def evREDEAL_DONE : Nat := 4
def evWAKE : Nat := 5
def evTHERMAL : Nat := 6
def evLINK_CHANGE : Nat := 7
def evCAPTURE_OVERRUN : Nat := 8

/-- The in-flight command of mailbox `m` under handle `k`. -/
def Hw.cmd? (h : Hw) (m k : Nat) : Option InFlight := h.mbx.infl.find? (fun f => f.mb == m && f.hd == k)

/-- Fields of a command entry (R353). -/
def InFlight.opcode (f : InFlight) : Nat := leAt f.entry 0 2
def InFlight.flags (f : InFlight) : Nat := leAt f.entry 2 2
def InFlight.tag (f : InFlight) : Nat := leAt f.entry 4 4
def InFlight.fence (f : InFlight) : Bool := bit f.flags 0
def InFlight.noirq (f : InFlight) : Bool := bit f.flags 1

/-- Parameter bytes [k, k + n) of a command, little-endian (R353). -/
def InFlight.par (f : InFlight) (k n : Nat) : Nat := leAt f.entry (8 + k) n

/-- A command leaves the table of commands in flight, and any DMA engine it holds is free. -/
def Hw.retire (h : Hw) (m k : Nat) : Hw :=
  { h with mbx := { h.mbx with infl := h.mbx.infl.filter (fun f => !(f.mb == m && f.hd == k)) },
           pcie := { h.pcie with engines := h.pcie.engines.filter (fun e => !(e.mb == m && e.hd == k)) } }

/-- The Dealer hands over a completion: posted, or discarded with LATE where the handle is no longer in flight
(R370, R371, R401). Nobody hands over one for a command that its function's reset or a core reset ended (a `k` from 16,
`Hw.orphan`). -/
def Hw.complete (h : Hw) (m k status detail result : Nat) : Hw :=
  match h.cmd? m k with
  | some f => (h.retire m k).postEntry m f.tag status detail result f.noirq
  | none => if k < 16 then h.raise (R.MBX_ERR_LATE m) 0 else h

/-- A command as the units that will end it hold it: handle `k` of mailbox `m`, and `d` more where it is no longer in
flight, so that a later command under the same handle is not taken for it (R371): 8 once its time ran out, 16 once a
reset ended it. -/
def orphanHd (m k d m' k' : Nat) : Nat := if m' = m ∧ k' = k then k + d else k'

/-- The same of a mailbox and handle in a pair, and in one number. -/
def orphanRef (m k d : Nat) (r : Nat × Nat) : Nat × Nat := (r.1, orphanHd m k d r.1 r.2)
def orphanAck (m k d a : Nat) : Nat := if a = 32 * m + k then 32 * m + k + d else a

/-- The same of an access that waits for the user register port. -/
def orphanWait (m k d : Nat) (w : UWait) : UWait :=
  match w.who with
  | .dealer a b => { w with who := .dealer a (orphanHd m k d a b) }
  | _ => w

/-- The same of a partition, an Ethernet port, the raster unit. -/
def PartState.orphan (m k d : Nat) (x : PartState) : PartState :=
  { x with
    start := x.start.map (fun s => { s with hd := orphanHd m k d s.mb s.hd }),
    ck := { x.ck with cmd := x.ck.cmd.map (orphanRef m k d), copyCmd := x.ck.copyCmd.map (orphanRef m k d) } }

def NetPort.orphan (m k d : Nat) (x : NetPort) : NetPort :=
  { x with change := x.change.map (fun c => (c.1, orphanHd m k d c.1 c.2.1, c.2.2)) }

/-- The command in flight under (m, k) ends ahead of the units that act on it: they go on, and what they hand over for it
is no completion of a later command (R371). -/
def Hw.orphan (h : Hw) (m k d : Nat) : Hw :=
  let r := orphanRef m k d
  let noc := { h.noc with folds := h.noc.folds.map (fun e => (e.1, { e.2 with acks := e.2.acks.map (orphanAck m k d) })) }
  let net := { h.net with
    ports := h.net.ports.map (fun e => (e.1, e.2.orphan m k d)),
    qWait := h.net.qWait.map (fun q => { q with hd := orphanHd m k d q.mb q.hd }),
    ruleWait := h.net.ruleWait.map (fun q => { q with hd := orphanHd m k d q.mb q.hd }) }
  { h with
    noc := noc, net := net,
    part := h.part.map (fun e => (e.1, e.2.orphan m k d)),
    sig := h.sig.map (fun e => (e.1, { e.2 with stops := e.2.stops.map (orphanAck m k d) })),
    fw := { h.fw with cmd := h.fw.cmd.map (fun c => { c with hd := orphanHd m k d c.mb c.hd }) },
    gfx := { h.gfx with frame := h.gfx.frame.map (fun g => { g with hd := orphanHd m k d g.mb g.hd }) },
    pwr' := { h.pwr' with cmd := h.pwr'.cmd.map r },
    cfg := { h.cfg with cmd := h.cfg.cmd.map r },
    tbl := { h.tbl with sleepCmd := h.tbl.sleepCmd.map r },
    fab := { h.fab with ureg := h.fab.ureg.map (orphanWait m k d) } }

/-- Complete with status OK. -/
def Hw.ok (h : Hw) (m k result : Nat) : Hw := h.complete m k stOK 0 result

/-- Mark a command begun: it ends by a later event. -/
def Hw.begun (h : Hw) (m k : Nat) : Hw :=
  let l := h.mbx.infl.map (fun f => if f.mb == m && f.hd == k then { f with started := true } else f)
  { h with mbx := { h.mbx with infl := l } }

/-- Replace the bytes of an in-flight entry from offset `o` (the firmware's working copy). -/
def InFlight.rewrite (f : InFlight) (o : Nat) (bs : List Byte) : InFlight :=
  { f with entry := f.entry.take o ++ bs ++ f.entry.drop (o + bs.length) }

/-- A function-level reset of mailbox `m`'s function runs (PCIE_FLR_STAT). -/
def Hw.flrRuns (h : Hw) (m : Nat) : Bool := decide (m < 16) && h.bitOf R.PCIE_FLR_STAT_FLR m

/-- MBX_STATUS.READY (R385). -/
def Hw.mbxReady (h : Hw) (m : Nat) : Bool := h.is R.MBX_GCTL_READY && !(h.flrRuns m)

end Sys2Proof.Machine
end

