-- ==== Sys2Proof/Machine/AddrMap.lean ====
section
/-!
DEFINITION. The global address map (R692), the HBM address hash (R740-R742), the node map (R691) and the isolation
sets (R713).
-/
namespace Sys2Proof.Machine

open Sys2Proof

/-- What a global address names in its seat (R692). -/
inductive Target where
  /-- HBM of the seat, by 35-bit offset -/
  | hbm (o : Nat)
  /-- tile store, ACC or instruction store of a tile, by offset in the tile -/
  | tile (t o : Nat)
  /-- tile control window, by offset in the window -/
  | tctl (t o : Nat)
  | kitty (o : Nat)
  /-- a Dealer-map address -/
  | dealer (a : Nat)
  | reserved
deriving DecidableEq, Repr

/-- Seat field of a global address. -/
def addrSeat (a : Nat) : Nat := bits a 47 45

/-- Decode the part of a global address below its seat field (R692). -/
def addrTarget (a : Nat) : Target :=
  let x := a % 2 ^ 45
  if x < 2 ^ 35 then .hbm x
  else if x < 0x100000000000 then .reserved
  else
    let y := x - 0x100000000000
    if y < 512 * 0x100000 then
      let t := y / 0x100000
      let o := y % 0x100000
      if o < 0x60000 then .tile t o
      else if 0x80000 ≤ o ∧ o < 0x90000 then .tctl t (o - 0x80000)
      else .reserved
    else if 0x10000000000 ≤ y ∧ y < 0x10000000000 + 0x800000 then .kitty (y - 0x10000000000)
    else if 0x20000000000 ≤ y ∧ y < 0x20000000000 + 0x100000000 then .dealer (y - 0x20000000000)
    else .reserved

/-- Pseudo-channel of HBM offset `o`: bit 5 selects the stack (R740). -/
def hbmChan (o : Nat) : Nat :=
  bits o 13 8 ^^^ bits o 19 14 ^^^ bits o 25 20 ^^^ bits o 31 26 ^^^ bits o 34 32

/-- Local address inside the pseudo-channel (R741). -/
def hbmLocal (o : Nat) : Nat := bits o 34 14 * 256 + o % 256

/-- The offset of a local address in a pseudo-channel: the inverse of the hash. -/
def hbmOffset (c l : Nat) : Nat :=
  let hi := l / 256
  let o := hi * 2 ^ 14 + l % 256
  o + (c ^^^ bits o 19 14 ^^^ bits o 25 20 ^^^ bits o 31 26 ^^^ bits o 34 32) * 256

/-- Bank index of a local address (R734, R742). -/
def hbmBank (l : Nat) : Nat :=
  16 * bits l 14 14 + 4 * (bits l 11 10 ^^^ bits l 16 15) + (bits l 13 12 ^^^ bits l 18 17)

/-- Row of a local address (R742). -/
def hbmRow (l : Nat) : Nat := bits l 28 15

/-- The node that serves a target (R691, R692). -/
def targetNode : Target → Nat
  | .hbm o => 512 + hbmChan o
  | .tile t _ => t
  | .tctl t _ => t
  | .kitty _ => 641
  | .dealer _ => 654
  | .reserved => 1023

/-- Global addresses. -/
def gHbm (seat o : Nat) : Nat := seat * 2 ^ 45 + o
def gTile (seat t o : Nat) : Nat := seat * 2 ^ 45 + 0x100000000000 + t * 0x100000 + o
def gKitty (seat o : Nat) : Nat := seat * 2 ^ 45 + 0x110000000000 + o

/-! ### Redirects of the seat map (R1126) -/

/-- Seat `l` has entries other than HOME whose redirects are in force. -/
def Hw.seatMapped (h : Hw) (l : Nat) : Bool :=
  NSet.has h.tbl.redir l && (List.range 16).any (fun p => h.is (R.TBL_MAP0_STATE (16 * l + p)))

/-- Entry of a re-dealt partition that covers MiB `m` of seat `l`'s HBM. -/
def Hw.mapByMib (h : Hw) (l m : Nat) : Option Nat :=
  ((List.range 16).map (fun p => 16 * l + p)).find? (fun i => h.get (R.TBL_MAP0_STATE i) == 1 &&
    decide (h.get (R.TBL_MAP0_OLD_BASE i) ≤ m ∧ m < h.get (R.TBL_MAP0_OLD_BASE i) + h.get (R.TBL_MAP1_MLEN i)))

/-- Where a global address is served: itself, or the place its seat's entry names; none where the entries of its seat
do not cover it (R1126). -/
def Hw.xlat (h : Hw) (a : Nat) : Option Nat :=
  let l := addrSeat a
  if !h.seatMapped l then some a
  else
    match addrTarget a with
    | .tile t o =>
      let i := 16 * l + partOf t
      if h.get (R.TBL_MAP0_STATE i) = 1 then
        let r := t % 16 + 16 * ((t / 32) % 2)
        some (gTile (h.get (R.TBL_MAP0_HOST_SEAT i)) (listAt 0 (tilesOf (h.get (R.TBL_MAP0_HOST_PART i))) r) o)
      else none
    | .tctl t o =>
      let i := 16 * l + partOf t
      if h.get (R.TBL_MAP0_STATE i) = 1 then
        let r := t % 16 + 16 * ((t / 32) % 2)
        some (gTile (h.get (R.TBL_MAP0_HOST_SEAT i)) (listAt 0 (tilesOf (h.get (R.TBL_MAP0_HOST_PART i))) r)
          (0x80000 + o))
      else none
    | .hbm o =>
      match h.mapByMib l (o / 2 ^ 20) with
      | some i => some (gHbm (h.get (R.TBL_MAP0_HOST_SEAT i))
          ((o + h.get (R.TBL_MAP1_NEW_BASE i) * 2 ^ 20 - h.get (R.TBL_MAP0_OLD_BASE i) * 2 ^ 20) % 2 ^ 35))
      | none => none
    | _ => none

/-- The address an access to `a` acts on. -/
def Hw.loc (h : Hw) (a : Nat) : Nat := (h.xlat a).getD a

/-- Traffic of a request for the bandwidth modes (R676): on-chip, own HBM, or another seat's HBM. -/
inductive Traffic where
  | chip | hbm | remote
deriving DecidableEq, Repr

/-- Traffic class of an address as seen from seat `own`. -/
def trafficOf (own a : Nat) : Traffic :=
  match addrTarget a with
  | .hbm _ => if addrSeat a = own then .hbm else .remote
  | _ => .chip

/-- All bytes [lo, lo + n) lie in [b, b + l). -/
def within (lo n b l : Nat) : Bool := decide (b ≤ lo ∧ lo + n ≤ b + l)

/-- Is a request of isolation set `s` permitted (R713)? The checks apply to the translated address (R1126). -/
def Hw.isoPermits (h : Hw) (s a n : Nat) : Bool :=
  let a := h.loc a
  let own := addrSeat a == h.seat
  let perm := R.NOC_ISO_PERM s
  let base := h.get (R.NOC_ISO_SLICE_SLICE_BASE s) * 2 ^ 20
  let len := h.get (R.NOC_ISO_SLICE_SLICE_LEN s) * 2 ^ 20
  match addrTarget a with
  | .tile t o =>
    s != 16 && decide (o + n ≤ 0x60000) && own && (partOf t == s || bit (h.rd perm) (partOf t))
  | .tctl _ _ => false
  | .hbm o => within o n base len && (own || h.is (R.NOC_ISO_PERM_REMOTE s))
  | .kitty o =>
    own && h.is (R.NOC_ISO_PERM_KITTY s) &&
      within o n (h.get (R.NOC_ISO_KITTY_KBASE s) * 4096) (h.get (R.NOC_ISO_KITTY_KLEN s) * 4096)
  | .dealer _ => own && h.is (R.NOC_ISO_PERM_DEVREG s)
  | .reserved => false

/-- Router position of a node (R691). -/
def nodeXY (n : Nat) : Nat × Nat :=
  if n < 512 then (n % 32, n / 32)
  else if n < 544 then (0, (n - 512) / 2)
  else if n < 576 then (31, (n - 544) / 2)
  else if n < 608 then (n - 576, 0)
  else if n < 640 then (n - 608, 15)
  else
    match n with
    | 640 => (15, 0) | 641 => (16, 0) | 642 => (8, 0) | 643 => (23, 0) | 644 => (16, 15) | 645 => (8, 15)
    | 646 => (15, 15) | 647 => (23, 15) | 648 => (12, 0) | 649 => (19, 15) | 650 => (4, 0) | 651 => (27, 0)
    | 652 => (4, 15) | 653 => (27, 15) | _ => (19, 0)

end Sys2Proof.Machine
end

