-- ==== Sys2Proof/Machine/Ecc.lean ====
section
/-!
DEFINITION. The symbol code of an HBM burst (R758-R761) and CRC-32C (R701).
-/
namespace Sys2Proof.Machine

/-- Multiply by α = 0x02 in GF(2^8) with polynomial x^8 + x^4 + x^3 + x^2 + 1 (R758). -/
def gfDouble (a : Nat) : Nat := let d := 2 * a; if 256 ≤ d then d ^^^ 0x11D else d

/-- a × α^n. -/
def gfMulAlpha (a : Nat) : Nat → Nat
  | 0 => a
  | n + 1 => gfDouble (gfMulAlpha a n)

/-- a × b in the field, over the bits of b. -/
def gfMul (a b : Nat) : Nat := (List.range 8).foldl (fun c i => if b / 2 ^ i % 2 = 1 then c ^^^ gfMulAlpha a i else c) 0

/-- Coefficients of x^0 to x^3 of the generator g(x), the product of x - α^i for i = 0 to 3 (R758). -/
def rsGen : List Nat :=
  (List.range 4).foldl (fun g i =>
    (List.range 5).map (fun k => (if k = 0 then 0 else g.getD (k - 1) 0) ^^^ gfMulAlpha (g.getD k 0) i)) [1]

/-- The four check bytes of a burst: the remainder of d(x) × x^4 modulo g(x), data byte k the coefficient of x^k (R758). -/
def checkBytes (d : List (BitVec 8)) : List Nat :=
  d.foldr (fun b r =>
    let f := b.toNat ^^^ r.getD 3 0
    (List.range 4).map (fun k => (if k = 0 then 0 else r.getD (k - 1) 0) ^^^ gfMul (rsGen.getD k 0) f)) [0, 0, 0, 0]

/-- Syndromes S0-S3 of an error pattern: symbol position (check byte j at j, data byte k at k + 4) and value; the code is
linear, so a stored codeword adds nothing (R758). -/
def syndrome (err : List (Nat × Nat)) : List Nat :=
  (List.range 4).map (fun i => err.foldl (fun s e => s ^^^ gfMulAlpha (e.2 % 256) (i * e.1)) 0)

/-- The error pattern of a burst stored poisoned: P on the check bytes (R761). -/
def poisonErr : List (Nat × Nat) := [(0, 0x5A), (1, 0xC3), (2, 0x3C), (3, 0xA5)]

/-- What the decoder makes of a read codeword (R760, R761). -/
inductive Ecc where
  | clean
  | poisoned
  /-- one symbol corrected: position and value -/
  | corrected (pos val : Nat)
  | uncorrectable
deriving DecidableEq, Repr

/-- The decoder on syndromes. -/
def eccDecode (s : List Nat) : Ecc :=
  match s with
  | [s0, s1, s2, s3] =>
    if s0 = 0 ∧ s1 = 0 ∧ s2 = 0 ∧ s3 = 0 then .clean
    else if s = syndrome poisonErr then .poisoned
    else if s0 = 0 then .uncorrectable
    else
      match (List.range 36).find? (fun p =>
        gfMulAlpha s0 p == s1 && gfMulAlpha s1 p == s2 && gfMulAlpha s2 p == s3) with
      | some p => .corrected p s0
      | none => .uncorrectable
  | _ => .uncorrectable

/-- Syndromes as a word, S0 in bits [7:0] (R758). -/
def syndWord (s : List Nat) : Nat := s.foldr (fun b a => b + 256 * a) 0

/-- Data bytes with an error pattern applied. -/
def applyErr (bs : List (BitVec 8)) (err : List (Nat × Nat)) : List (BitVec 8) :=
  err.foldl (fun bs e => if 4 ≤ e.1 then listXor bs (e.1 - 4) e.2 else bs) bs
where
  /-- XOR one byte of a list. -/
  listXor : List (BitVec 8) → Nat → Nat → List (BitVec 8)
    | [], _, _ => []
    | b :: bs, 0, v => (b ^^^ BitVec.ofNat 8 v) :: bs
    | b :: bs, k + 1, v => b :: listXor bs k v

/-- One byte into a CRC-32C register (reflected, polynomial 0x82F6_3B78). -/
def crcByte (c : Nat) (b : BitVec 8) : Nat :=
  (List.range 8).foldl (fun c _ => if c % 2 = 1 then c / 2 ^^^ 0x82F63B78 else c / 2) (c ^^^ b.toNat)

/-- CRC-32C of a byte list: initial value and final XOR 0xFFFF_FFFF (R701). -/
def crc32c (bs : List (BitVec 8)) : Nat := bs.foldl crcByte 0xFFFFFFFF ^^^ 0xFFFFFFFF

/-- The patch P(k, e): the register, started from 0, after a burst whose byte `k` is `e` and whose other bytes are 0. XORed
into the register it turns the fold of the raw burst into that of the corrected one (R762). -/
def crcPatch (k e : Nat) : Nat :=
  ((List.range 32).map (fun i => BitVec.ofNat 8 (if i = k then e else 0))).foldl crcByte 0

/-- A packet's CRC register after a burst read with symbol `k` corrected by `e`: raw bytes folded, then the patch (R762). -/
def crcFold (c : Nat) (raw : List (BitVec 8)) (fix : Option (Nat × Nat)) : Nat :=
  let c := raw.foldl crcByte c
  match fix with
  | some (k, e) => c ^^^ crcPatch k e
  | none => c

end Sys2Proof.Machine
end

