-- ==== Sys2Proof/Machine/Hbm.lean ====
section
/-!
DEFINITION. The HBM controllers: queues, scheduling, symbol code, row-hammer tracker, FREEZE and RESPOND, refresh,
training and repair (chapter 14).
-/
namespace Sys2Proof.Machine

open Sys2Proof

/-- Controller of hash value c. -/
def Hw.pcs (h : Hw) (c : Nat) : PcState := SMap.get (fun _ => PcState.reset) h.hbm.pc c

/-- Replace controller c. -/
def Hw.setPcs (h : Hw) (c : Nat) (p : PcState) : Hw :=
  { h with hbm := { h.hbm with pc := SMap.set (fun _ => PcState.reset) h.hbm.pc c p } }

/-- Stack states of MEM_STAT.STATE. -/
def msRESET : Nat := 0
def msTRAINING : Nat := 1
def msRUN : Nat := 2
def msSELF : Nat := 3
def msHOLD : Nat := 4
def msFAILED : Nat := 5
def msOFF : Nat := 6

/-- State of stack s. -/
def Hw.memState (h : Hw) (s : Nat) : Nat := h.get (R.MEM_STAT_STATE s)

/-- Pseudo-channel c is frozen (R777). -/
def Hw.frozen (h : Hw) (c : Nat) : Bool := h.bitOf (R.MEM_FROZEN_FROZEN (c / 32)) (c % 32)

/-- HBM_OK of CFG_STAT follows the two TRAINED bits (under R753). -/
def Hw.hbmOk (h : Hw) : Hw := h.putB R.CFG_STAT_HBM_OK (h.is (R.MEM_STAT_TRAINED 0) && h.is (R.MEM_STAT_TRAINED 1))

/-! ### Packets and responses -/

/-- The response to a request packet (R696, R703). -/
def Packet.rsp (p : Packet) (seat node status : Nat) (data : List Byte) (poison : List Bool) : Packet :=
  { op := if p.op = 1 then 0x81 else 0x82, addr := p.addr, srcSeat := seat, srcNode := node, dstSeat := p.srcSeat,
    dstNode := p.srcNode, prio := p.prio, tag := p.tag, status := status, bytes := if data.isEmpty then 0 else p.bytes,
    aux := 0, data := data, poison := poison, crcBad := false }

/-- Put a packet on the network. -/
def Hw.send (h : Hw) (p : Packet) : Hw := { h with noc := { h.noc with pkts := h.noc.pkts ++ [p] } }

/-- Answer a request from node `node`. -/
def Hw.answer (h : Hw) (p : Packet) (node status : Nat) (data : List Byte) (poison : List Bool) : Hw :=
  h.send (p.rsp h.seat node status data poison)

/-! ### Reports -/

/-- A MEMORY report of the port of c, about the burst of a request. -/
def Hw.memErr (h : Hw) (c code : Nat) (off synd : Nat) (req : Requester) (poison : Bool) : Hw :=
  h.raiseRep ⟨eMEMORY, code, 512 + c, req.seat, 512 + c, some (gHbm h.seat off), synd, 1, poison, h.clk.tt⟩

/-! ### Queues -/

/-- Read requests and write bursts queued (R735). -/
def PcState.rdCount (p : PcState) : Nat := ((p.q.filter (fun b => b.kind == .read)).map (fun b => b.id)).eraseDups.length
def PcState.wrCount (p : PcState) : Nat := (p.q.filter (fun b => b.kind != .read)).length

/-- The partition whose share a request uses; 16 for FCFS traffic (R674, R676). -/
def Hw.shareOf (h : Hw) (p : Packet) : Nat :=
  if p.srcSeat = h.seat ∧ p.srcNode < 512 ∧ h.is (R.PACE_BW_MODE (partOf p.srcNode)) then partOf p.srcNode else 16

/-- Bursts of bytes [o, o + n), as aligned offsets. -/
def burstsOf (o n : Nat) : List Nat := (granules 32 o n).map (fun k => 32 * k)

/-- Data and mask of one burst of a write of `bs` at `o`. -/
def burstData (o : Nat) (bs : List Byte) (b : Nat) : List Byte × List Bool :=
  ((List.range 32).map (fun i => if o ≤ b + i ∧ b + i < o + bs.length then listAt 0 bs (b + i - o) else 0),
   (List.range 32).map (fun i => decide (o ≤ b + i ∧ b + i < o + bs.length)))

/-- HBM offset of a packet's address. -/
def Packet.hbmOff (p : Packet) : Nat := p.addr % 2 ^ 35

/-- Pseudo-channels a request touches: one, or the port pair of a 512-byte request (R736). -/
def hbmChans (o n : Nat) : List Nat := ((burstsOf o n).map hbmChan).eraseDups

/-- Room in every queue the request needs. -/
def Hw.hbmRoom (h : Hw) (o n : Nat) (wr : Bool) : Bool :=
  (hbmChans o n).all (fun c =>
    let p := h.pcs c
    if wr then decide (p.wrCount + ((burstsOf o n).filter (fun b => hbmChan b == c)).length ≤ 64)
    else decide (p.rdCount < 64))

/-- Append a burst to its controller's queue. -/
def Hw.enqueue (h : Hw) (b : HBurst) : Hw :=
  let c := hbmChan b.off
  let p := h.pcs c
  let h := h.setPcs c { p with q := p.q ++ [b] }
  { h with hbm := { h.hbm with pdown := NSet.del h.hbm.pdown (c / 32) } }

/-- Accept a request packet at its port: `bad` tells a failed packet CRC (R702, R765). Full bursts of a write are
answered as they enter the queue (R738); the rest when their last burst is done. -/
def Hw.hbmAccept (h : Hw) (p : Packet) (bad : Bool) : Hw :=
  let o := p.hbmOff
  let id := h.hbm.nextId
  let bs := burstsOf o p.bytes
  let base := o / 32
  let mk (k : BKind) (b : Nat) (d : List Byte) (m : List Bool) (po : Bool) : HBurst :=
    ⟨id, k, b, d, m, po, p.srcNode, p.srcSeat, p.prio, h.shareOf p, h.clk.now⟩
  let h := { h with hbm := { h.hbm with nextId := id + 1 } }
  if p.op = 1 then
    let h := { h with hbm := { h.hbm with reqs := h.hbm.reqs ++ [⟨id, p, bs.length, [], [], false⟩] } }
    bs.foldl (fun h b => h.enqueue (mk .read b [] [] false)) h
  else
    let part := bs.filter (fun b => !((burstData o p.data b).2.all id'))
    let h := bs.foldl (fun h b =>
      let d := burstData o p.data b
      let po := bad || listAt false p.poison (b / 32 - base)
      h.enqueue (mk (if d.2.all id' then .full else .rmw) b d.1 d.2 po)) h
    if part.isEmpty then h.answer p p.dstNode (b2n bad) [] []
    else { h with hbm := { h.hbm with reqs := h.hbm.reqs ++ [⟨id, p, part.length, [], [], bad⟩] } }
where
  /-- The identity on truth values. -/
  id' (b : Bool) : Bool := b

/-- One burst of a request is done; with the last one the response goes out (R736). -/
def Hw.burstDone (h : Hw) (id off : Nat) (data : List Byte) (bad err : Bool) : Hw :=
  match h.hbm.reqs.find? (fun r => r.id == id) with
  | none => h
  | some r =>
    let k := off / 32
    let r' : HReq := { r with left := r.left - 1,
                              got := if data.isEmpty then r.got else SMap.ins r.got k data,
                              bad := if bad then NSet.add r.bad k else r.bad, err := r.err || err }
    if r'.left = 0 then
      let h := { h with hbm := { h.hbm with reqs := h.hbm.reqs.filter (fun q => q.id != id) } }
      let o := r.pkt.hbmOff
      if r.pkt.op = 1 then
        let all := (r'.got.map Prod.snd).flatten
        let ls := granules 32 o r.pkt.bytes
        h.answer r.pkt r.pkt.dstNode 0 ((all.drop (o % 32)).take r.pkt.bytes) (ls.map (fun l => NSet.has r'.bad l))
      else h.answer r.pkt r.pkt.dstNode (b2n r'.err) [] []
    else { h with hbm := { h.hbm with reqs := h.hbm.reqs.map (fun q => if q.id = id then r' else q) } }

/-! ### Row-hammer tracker (R768-R774) -/

/-- Index of the lowest count. -/
def lowestIdx (l : List Nat) : Nat :=
  ((List.range l.length).foldl (fun b i => if listAt 0 l i < listAt 0 l b then i else b) 0)

/-- The entry index for a row: its own, a free one appended, or the lowest replaced; with the entries (R768). -/
def trkEntry (es : List TEntry) (row : Nat) : Nat × List TEntry :=
  match es.findIdx? (fun e => e.row == row) with
  | some i => (i, es)
  | none =>
    if es.length < 16 then (es.length, es ++ [⟨row, 0, []⟩])
    else
      let i := lowestIdx (es.map TEntry.count)
      (i, listUpd (fun e => { e with row := row, slots := [] }) es i)

/-- Count one activation by a requester in an entry's slots (R768). -/
def trkSlots (ss : List TSlot) (r : Requester) : List TSlot :=
  match ss.findIdx? (fun s => s.req == r) with
  | some i => listUpd (fun s => { s with count := s.count + 1 }) ss i
  | none =>
    if ss.length < 4 then ss ++ [⟨r, 1⟩]
    else listUpd (fun s => ⟨r, s.count + 1⟩) ss (lowestIdx (ss.map TSlot.count))

/-- The requester to blame: highest count; on a tie the lowest node, then the lowest seat (R771). -/
def blame (ss : List TSlot) : Requester :=
  match ss with
  | [] => ⟨0, 0⟩
  | s :: rest =>
    (rest.foldl (fun b t =>
      if b.count < t.count ∨ t.count = b.count ∧
          (t.req.node < b.req.node ∨ t.req.node = b.req.node ∧ t.req.seat < b.req.seat) then t else b) s).req

/-- 1 µs in 1/16 ns. -/
def oneUs : Nat := 16000

/-- Length of a throttle at level L (R772). -/
def thrLen (l : Nat) : Nat := min (64 * 2 ^ l) 4000 * oneUs

/-- MEM_PCn_THR.ACTIVE shows the throttles in force. -/
def Hw.thrShow (h : Hw) (c : Nat) : Hw :=
  h.put (R.MEM_PC_THR_ACTIVE (c / 32) (c % 32)) ((h.pcs c).thr.filter (fun t => t.active)).length

/-- Throttle a requester whose last activation here was at `last` (R772-R774). -/
def Hw.throttle (h : Hw) (c : Nat) (r : Requester) (last : Nat) : Hw :=
  let p := h.pcs c
  let now := h.clk.now
  let old := p.thr.find? (fun t => t.req == r)
  let lvl := match old with
    | some t => if t.active ∨ now < t.till + 4000 * oneUs then min 6 (t.level + 1) else t.level
    | none => 0
  let others := p.thr.filter (fun t => t.req != r)
  let act := others.filter (fun t => t.active)
  let full := decide (8 ≤ act.length)
  let others := if full then
      match act with
      | [] => others
      | a :: as =>
        let v := as.foldl (fun b t => if t.till < b.till then t else b) a
        others.map (fun t => if t.req = v.req then { t with active := false, till := now } else t)
    else others
  let t : Throttle := ⟨r, lvl, true, now + thrLen lvl, (old.map Throttle.lastAct).getD last, true⟩
  let h := (h.setPcs c { p with thr := others ++ [t] }).thrShow c
  if full then h.raise (R.MEM_PC_FLAGS_THR_FULL (c / 32) (c % 32)) 0 else h

/-- An activation of a row is counted, and may trigger (R768, R771). -/
def Hw.activate (h : Hw) (c off : Nat) (r : Requester) : Hw :=
  let s := c / 32
  let n := c % 32
  let l := hbmLocal off
  let bank := hbmBank l
  let p := h.pcs c
  let p := { p with rows := NMap.set p.rows bank (hbmRow l + 1),
                    thr := p.thr.map (fun t => if t.req = r then { t with lastAct := h.clk.now } else t) }
  if !h.is (R.MEM_RH_CFG_EN s) then h.setPcs c p
  else
    let e := trkEntry (lmapGet p.trk bank) (hbmRow l)
    let es := listUpd (fun (x : TEntry) => { x with count := x.count + 1, slots := trkSlots x.slots r }) e.2 e.1
    let x := listAt ⟨0, 0, []⟩ es e.1
    if h.get (R.MEM_RH_THRESH_THRESH s) ≤ x.count then
      let who := blame x.slots
      let es := listUpd (fun (x : TEntry) =>
        { x with count := 0, slots := x.slots.map (fun t => { t with count := 0 }) }) es e.1
      let h := (h.setPcs c { p with trk := lmapSet p.trk bank es }).throttle c who (if who = r then h.clk.now else 0)
      let h := (h.bump (R.MEM_PC_RHCNT_COUNT s n)).raise (R.MEM_PC_FLAGS_RH s n) 0
      let h := h.wr (R.MEM_PC_RHLAST s n) (hbmRow l + bank * 2 ^ 14 + who.node * 2 ^ 19 + who.seat * 2 ^ 29)
      h.memErr c 4 off 0 who false
    else h.setPcs c { p with trk := lmapSet p.trk bank es }

/-! ### Freeze (R777, R778, R793) -/

/-- The diagnosis window's queue words: the 24 oldest queued requests. -/
def Hw.diagQueue (h : Hw) (c : Nat) (q : List HBurst) : Hw :=
  ((List.range 24).zip q).foldl (fun h e =>
    let b := e.2
    let lo := hbmLocal b.off + (if b.kind = .read then 0 else 2 ^ 29) + 2 ^ 31
    let hi := b.node + b.seat * 2 ^ 10 + (h.clk.now - b.arr) / 160 % 4096 * 2 ^ 16
    (h.wr (R.DIAG_Q (c / 32) (c % 32) (2 * e.1)) lo).wr (R.DIAG_Q (c / 32) (c % 32) (2 * e.1 + 1)) hi) h

/-- Latch the diagnosis window. -/
def Hw.diagLatch (h : Hw) (c cause synd off : Nat) (r : Requester) : Hw :=
  let s := c / 32
  let n := c % 32
  let p := h.pcs c
  let h := h.wr (R.DIAG_CAUSE s n) cause
  let h := h.wr (R.DIAG_SYND s n) synd
  let h := h.wr (R.DIAG_ADDR s n) (hbmLocal off)
  let h := h.wr (R.DIAG_REQ s n) (r.node + r.seat * 2 ^ 10)
  let h := h.wr (R.DIAG_TIME s n) (h.clk.tt % 2 ^ 32)
  let h := h.wr (R.DIAG_OPEN s n) (maskOf ((List.range 32).filter (fun b => NMap.get p.rows b != 0)))
  let h := h.wr (R.DIAG_QCNT s n) (p.rdCount + p.wrCount * 2 ^ 8)
  h.diagQueue c p.q

/-- Freeze a pseudo-channel: answered bursts are written, the rest stay unanswered. -/
def Hw.freeze (h : Hw) (c cause synd off : Nat) (r : Requester) : Hw :=
  let h := h.diagLatch c cause synd off r
  let p := h.pcs c
  let answered (b : HBurst) : Bool := b.kind == .full && !(h.hbm.reqs.any (fun q => q.id == b.id))
  let out := p.q.filter answered
  let h := h.setPcs c { p with q := p.q.filter (fun b => !answered b) }
  let h := out.foldl (fun h b => h.hbmW b.off b.data b.poison) h
  let h := h.bump (R.MEM_PC_UE_COUNT (c / 32) (c % 32))
  let h := h.putBit (R.MEM_FROZEN_FROZEN (c / 32)) (c % 32) true
  let h := h.raise (R.MEM_PC_FLAGS_UE (c / 32) (c % 32)) 0
  h.memErr c 3 off synd r true

/-- A burst back at its place in a queue, which is in the order of arrival. -/
def putBack (b : HBurst) (q : List HBurst) : List HBurst :=
  let older (a : HBurst) : Bool := decide (a.id < b.id) || (a.id == b.id && decide (a.off < b.off))
  q.filter older ++ b :: q.filter (fun a => !older a)

/-- The uncorrectable error of burst `b` under FREEZE (R777): the queues are latched with the burst in them; a
read-modify-write is stored poisoned as `merged`; a read, and a write whose command failed, stay in the queue unanswered or
are written with the other answered ones. -/
def Hw.freezeAt (h : Hw) (c cause synd : Nat) (b : HBurst) (merged : List Byte) : Hw :=
  let p := h.pcs c
  let h := (h.setPcs c { p with q := putBack b p.q }).freeze c cause synd b.off ⟨b.seat, b.node⟩
  if b.kind = .rmw then
    let p := h.pcs c
    (h.setPcs c { p with q := p.q.filter (fun a => a != b) }).hbmW b.off merged true
  else h

/-- Hold a request header at a frozen port: 512 entries, headers beyond them counted (R778). -/
def Hw.hold (h : Hw) (c : Nat) (p : Packet) : Hw :=
  let s := h.pcs c
  if s.held.length < 512 then h.setPcs c { s with held := s.held ++ [{ p with data := [], poison := [] }] }
  else h.bump (R.DIAG_QCNT_HELD (c / 32) (c % 32))

/-! ### One burst (R760-R767, R775-R777) -/

/-- A corrected error is counted (R767). -/
def Hw.corrected (h : Hw) (c off synd : Nat) (r : Requester) : Hw :=
  let h := (h.bump (R.MEM_PC_CE_COUNT (c / 32) (c % 32))).raise (R.MEM_PC_FLAGS_CE (c / 32) (c % 32)) 0
  if h.is (R.MEM_ECC_CFG_CE_LOG (c / 32)) then h.memErr c 1 off synd r false else h

/-- An uncorrectable error under RESPOND (R776). -/
def Hw.respondUE (h : Hw) (c off synd : Nat) (r : Requester) : Hw :=
  let h := (h.bump (R.MEM_PC_UE_COUNT (c / 32) (c % 32))).raise (R.MEM_PC_FLAGS_UE (c / 32) (c % 32)) 0
  h.memErr c 2 off synd r true

/-- FREEZE mode of pseudo-channel c, sampled at the error (R782). -/
def Hw.freezeMode (h : Hw) (c : Nat) : Bool := h.bitOf (R.MEM_ERR_MODE_MODE (c / 32)) (c % 32)

/-- Merge a read-modify-write. -/
def mergeBurst (old new : List Byte) (mask : List Bool) : List Byte :=
  (List.range 32).map (fun i => if listAt false mask i then listAt 0 new i else listAt 0 old i)

/-- Serve one burst that has left the queue: `err` is the error pattern of the codeword read, `par` the parity errors
of its command (1 corrected on the retry, 2 repeated) (R775). Whether a write whose command fails twice reaches the array is
an open value (assumption 78). -/
def Hw.serveBurst (h : Hw) (c : Nat) (b : HBurst) (par : Nat) (err : List (Nat × Nat)) : Hw :=
  let r : Requester := ⟨b.seat, b.node⟩
  let k := b.off / 32
  let s := syndrome (err ++ (if NSet.has h.mem.hbmP k then poisonErr else []))
  let sw := syndWord s
  let e := if 2 ≤ par then Ecc.uncorrectable else eccDecode s
  let raw := applyErr (Mem.bytes h.mem.hbm b.off 32) err
  let cause (n : Nat) : Nat := if 2 ≤ par then 3 else n
  let h := if par = 1 then h.corrected c b.off 0 r else h
  match b.kind with
  | .full =>
    if 2 ≤ par then
      if h.freezeMode c then h.freezeAt c 3 0 b []
      else
        let f := (h.respondUE c b.off 0 r).takeFreeB
        if f.1 then f.2.hbmW b.off b.data b.poison else f.2
    else h.hbmW b.off b.data b.poison
  | .read =>
    match e with
    | .clean => h.burstDone b.id b.off raw false false
    | .poisoned =>
      (h.bump (R.MEM_PC_POISON_COUNT (c / 32) (c % 32))).burstDone b.id b.off raw true false
    | .corrected p v =>
      let fix := applyErr raw [(p, v)]
      let h := h.corrected c b.off sw r
      let h := if h.is (R.MEM_ECC_CFG_WB (c / 32)) then h.hbmW b.off fix false else h
      h.burstDone b.id b.off fix false false
    | .uncorrectable =>
      if h.freezeMode c then h.freezeAt c (cause 1) sw b []
      else (h.respondUE c b.off sw r).burstDone b.id b.off raw true false
  | .rmw =>
    match e with
    | .clean => (h.hbmW b.off (mergeBurst raw b.data b.mask) b.poison).burstDone b.id b.off [] false false
    | .poisoned =>
      ((h.bump (R.MEM_PC_POISON_COUNT (c / 32) (c % 32))).hbmW b.off
        (mergeBurst raw b.data b.mask) true).burstDone b.id b.off [] false false
    | .corrected p v =>
      let h := h.corrected c b.off sw r
      (h.hbmW b.off (mergeBurst (applyErr raw [(p, v)]) b.data b.mask) b.poison).burstDone b.id b.off [] false false
    | .uncorrectable =>
      let m := mergeBurst raw b.data b.mask
      if h.freezeMode c then h.freezeAt c (cause 2) sw b m
      else ((h.hbmW b.off m true).respondUE c b.off sw r).burstDone b.id b.off [] false true

/-- Issue a queued burst: open its row if need be, take it from the queue and serve it. -/
def Hw.issueBurst (h : Hw) (c : Nat) (b : HBurst) (par : Nat) (err : List (Nat × Nat)) : Hw :=
  let l := hbmLocal b.off
  let bank := hbmBank l
  let p := h.pcs c
  let hit := NMap.get p.rows bank == hbmRow l + 1
  let h := h.setPcs c { p with q := p.q.erase b, used := NMap.set p.used bank h.clk.now }
  let h := if hit then h else h.activate c b.off ⟨b.seat, b.node⟩
  h.serveBurst c b par err

/-! ### Scheduling (R672-R674, R737, R743, R744, R772) -/

/-- The order in which calendar slots are handed out (R672). -/
def slotOrder : List Nat := [0, 8, 4, 12, 2, 10, 6, 14, 1, 9, 5, 13, 3, 11, 7, 15]

/-- Owners + 1 of the 16 slots of a calendar, by each partition's share (R672). -/
def calendarOf (share : Nat → Nat) : List Nat :=
  let owners := ((List.range 16).map (fun p => List.replicate (share p) (p + 1))).flatten
  (List.range 16).map (fun s =>
    match slotOrder.findIdx? (fun x => x == s) with
    | some i => listAt 0 owners i
    | none => 0)

/-- A partition's share in a direction: 0 unless SPLIT. -/
def Hw.rdShare (h : Hw) (p : Nat) : Nat := if h.is (R.PACE_BW_MODE p) then h.get (R.PACE_BW_READ p) else 0
def Hw.wrShare (h : Hw) (p : Nat) : Nat := if h.is (R.PACE_BW_MODE p) then h.get (R.PACE_BW_WRITE p) else 0

/-- The calendars in force, taken anew at the start of a round (R677). -/
def Hw.calendars (h : Hw) (p : PcState) : PcState :=
  let p := if p.slotR = 0 then { p with calR := calendarOf h.rdShare } else p
  if p.slotW = 0 then { p with calW := calendarOf h.wrShare } else p

/-- A throttle holds a burst that needs an activation (R772). -/
def Hw.throttled (h : Hw) (c : Nat) (p : PcState) (b : HBurst) : Bool :=
  let l := hbmLocal b.off
  NMap.get p.rows (hbmBank l) != hbmRow l + 1 && h.is (R.MEM_RH_CFG_EN (c / 32)) &&
  p.thr.any (fun t => t.active && t.req.seat == b.seat && t.req.node == b.node &&
    decide (h.clk.now < t.lastAct + 160 * h.get (R.MEM_RH_CFG_GAP (c / 32))))

/-- Bursts that may issue: none of the same burst is older in the queue, and no throttle holds them. -/
def Hw.ready (h : Hw) (c : Nat) (p : PcState) : List HBurst :=
  ((List.range p.q.length).zip p.q).filterMap (fun e =>
    if (p.q.take e.1).any (fun a => a.off == e.2.off) || h.throttled c p e.2 then none else some e.2)

/-- Test 1: the slot owner's requests, else FCFS traffic (R673). -/
def slotFilter (p : PcState) (l : List HBurst) : List HBurst :=
  let own := l.filter (fun b => b.part != 16 && (if b.kind = .read then listAt 0 p.calR p.slotR == b.part + 1
      else listAt 0 p.calW p.slotW == b.part + 1))
  if own.isEmpty then l.filter (fun b => b.part == 16) else own

/-- Keep the requests that pass a test, or all where none does. -/
def prefer (f : HBurst → Bool) (l : List HBurst) : List HBurst :=
  let k := l.filter f
  if k.isEmpty then l else k

/-- The burst R743 chooses. Outside a drain, writes issue in slots without a read to serve (DEDUCED, assumption 43). -/
def Hw.chooseBurst (h : Hw) (c : Nat) (p : PcState) : Option HBurst :=
  let cap := h.get (R.MEM_SCHED_AGE_CAP (c / 32)) * 160
  let all := h.ready c p
  let rds := if p.drain then [] else slotFilter p (all.filter (fun b => b.kind == .read))
  let l := if rds.isEmpty then slotFilter p (all.filter (fun b => b.kind != .read)) else rds
  let old := l.filter (fun b => l.any (fun a => a.node == b.node && a.seat == b.seat && decide (a.arr + cap ≤ h.clk.now)))
  match old with
  | b :: _ => some b
  | [] =>
    let top := l.foldl (fun m b => max m b.prio) 0
    (prefer (fun b => NMap.get p.rows (hbmBank (hbmLocal b.off)) == hbmRow (hbmLocal b.off) + 1)
      (l.filter (fun b => b.prio == top))).head?

/-- Write drain of R744. -/
def Hw.drainState (h : Hw) (c : Nat) (p : PcState) : Bool :=
  if p.drain then decide (h.get (R.MEM_SCHED_WR_LO (c / 32)) < p.wrCount)
  else decide (h.get (R.MEM_SCHED_WR_HI (c / 32)) ≤ p.wrCount)

/-- A controller issues bursts: its stack runs and it is not frozen. -/
def Hw.pcRuns (h : Hw) (c : Nat) : Bool := h.memState (c / 32) == msRUN && !(h.frozen c)

/-- BURST_ISSUE: choose and issue one burst; with nothing eligible the slot passes unused. -/
def Hw.burstIssue (h : Hw) (c par : Nat) (err : List (Nat × Nat)) : Hw :=
  if !h.pcRuns c then h
  else
    let p := h.calendars (h.pcs c)
    let p := { p with drain := h.drainState c p }
    match h.chooseBurst c p with
    | some b =>
      let p := if b.kind = .read then { p with slotR := (p.slotR + 1) % 16 }
        else { p with slotW := (p.slotW + 1) % 16 }
      (h.setPcs c p).issueBurst c b par err
    | none =>
      if p.q.isEmpty then h
      else h.setPcs c { p with slotR := (p.slotR + 1) % 16, slotW := (p.slotW + 1) % 16 }

/-! ### Direct access by the part's own blocks -/

/-- Bursts of [o, o + n) still queued issue first, in order (R737). -/
def Hw.hbmFlush (h : Hw) (o n : Nat) : Hw :=
  (burstsOf o n).foldl (fun h k =>
    ((h.pcs (hbmChan k)).q.filter (fun b => b.off == k)).foldl (fun h b => h.issueBurst (hbmChan k) b 0 []) h) h

/-- How an access to [o, o + n) fares: 0 served, 1 answered ERROR (FAILED, OFF or frozen: R739, R779), 2 FENCED,
3 waits for the stack. -/
def Hw.hbmStatus (h : Hw) (o n : Nat) : Nat :=
  let cs := hbmChans o n
  if cs.any (fun c => h.fenced (512 + c)) then 2
  else if cs.any (fun c => h.frozen c || h.memState (c / 32) == msFAILED || h.memState (c / 32) == msOFF) then 1
  else if cs.any (fun c => h.memState (c / 32) != msRUN) then 3 else 0

/-! ### Refresh, temperature, power-down (R746-R751) -/

/-- REFRESH: a refresh interval of pseudo-channel c ends (R749). -/
def Hw.refresh (h : Hw) (c : Nat) : Hw :=
  if h.memState (c / 32) != msRUN then h
  else
    let p := h.pcs c
    if h.is (R.MEM_REF_CFG_MODE (c / 32)) then h.setPcs c { p with rows := [], due := [] }
    else
      let busy (b : Nat) : Bool := p.q.any (fun x => hbmBank (hbmLocal x.off) == b)
      let due := NMap.set (p.due.map (fun e => (e.1, e.2 + 1))) p.rot (NMap.get p.due p.rot + 1)
      let lim := h.get (R.MEM_REF_CFG_POSTPONE (c / 32))
      let go := due.filter (fun e => !busy e.1 || decide (lim < e.2))
      h.setPcs c { p with rot := (p.rot + 1) % 32, due := due.filter (fun e => busy e.1 && !decide (lim < e.2)),
                          rows := go.foldl (fun m e => NMap.set m e.1 0) p.rows }

/-- REFRESH_WINDOW: tracker entries are cleared and levels fall (R769, R773). -/
def Hw.refreshWindow (h : Hw) (s : Nat) : Hw :=
  (List.range 32).foldl (fun h n =>
    let c := 32 * s + n
    let p := h.pcs c
    h.setPcs c { p with trk := [], thr := p.thr.map (fun t =>
      { t with level := if t.trig then t.level else t.level - 1, trig := false }) }) h

/-- THROTTLE_END: throttles whose time has passed end (R772). -/
def Hw.throttleEnd (h : Hw) (c : Nat) : Hw :=
  let p := h.pcs c
  (h.setPcs c { p with thr := p.thr.map (fun t =>
    if t.till ≤ h.clk.now then { t with active := false } else t) }).thrShow c

/-- ROW_CLOSE: a row without access for 64 MEMCLK cycles closes (R746). -/
def Hw.rowClose (h : Hw) (c bank : Nat) : Hw :=
  let p := h.pcs c
  if NMap.get p.used bank + 640 ≤ h.clk.now then h.setPcs c { p with rows := NMap.set p.rows bank 0 } else h

/-- POWER_DOWN: a stack with empty queues and PD_IDLE set enters power-down (R746). -/
def Hw.powerDown (h : Hw) (s : Nat) : Hw :=
  if h.memState s == msRUN && h.is (R.MEM_CTL_PD_IDLE s) &&
      (List.range 32).all (fun n => (h.pcs (32 * s + n)).q.isEmpty) then
    { h with hbm := { h.hbm with pdown := NSet.add h.hbm.pdown s } }
  else h

/-- A write of MEM_TEMP by the thermal block: derating with its hysteresis, staleness ends (R748, R750). -/
def Hw.memTemp (h : Hw) (s temp : Nat) : Hw :=
  let h := (h.put (R.MEM_TEMP_TEMP s) temp).putB (R.MEM_STAT_TEMP_STALE s) false
  let t := sext 16 temp
  if 85 * 16 < t then h.putB (R.MEM_STAT_DERATED s) true
  else if t < 83 * 16 then h.putB (R.MEM_STAT_DERATED s) false else h

/-- TEMP_STALE: no write of MEM_TEMP for 4 ms; the derated rows are used until the next write (R750, `Hw.derated`). -/
def Hw.tempStale (h : Hw) (s : Nat) : Hw :=
  h.putB (R.MEM_STAT_TEMP_STALE s) true

/-- Refresh runs by the derated rows: by the temperature with its hysteresis, or while MEM_TEMP is stale (R748, R750). -/
def Hw.derated (h : Hw) (s : Nat) : Bool := h.is (R.MEM_STAT_DERATED s) || h.is (R.MEM_STAT_TEMP_STALE s)

/-- tREFI, tREFW and the per-bank refresh interval in use, in ns (R747). -/
def Hw.refreshTimes (h : Hw) (s : Nat) : Nat × Nat × Nat :=
  if h.derated s then (1950, 16000000, 61) else (3900, 32000000, 122)

/-- Every write in the queues of stack s completes, in the order of the queue, and its reads are discarded; a frozen
pseudo-channel writes nothing (R111). -/
def Hw.drainWrites (h : Hw) (s : Nat) : Hw :=
  (List.range 32).foldl (fun (h : Hw) n =>
    let c := 32 * s + n
    if h.frozen c then h
    else
      let h := ((h.pcs c).q.filter (fun b => b.kind != .read)).foldl (fun (h : Hw) b => h.issueBurst c b 0 []) h
      h.setPcs c { h.pcs c with q := [] }) h

/-- A stack enters self-refresh: queued, answered writes complete first; open rows close. -/
def Hw.selfRefresh (h : Hw) (s : Nat) : Hw :=
  let h := (List.range 32).foldl (fun h n =>
    let c := 32 * s + n
    if h.frozen c then h
    else
      let p := h.pcs c
      let ans (b : HBurst) : Bool := b.kind == .full && !(h.hbm.reqs.any (fun q => q.id == b.id)) &&
        !(p.q.any (fun a => a.off == b.off && a.kind != .full))
      let h := (p.q.filter ans).foldl (fun h b => h.hbmW b.off b.data b.poison) h
      h.setPcs c { p with q := p.q.filter (fun b => !ans b), rows := [] }) h
  h.put (R.MEM_STAT_STATE s) msSELF

/-- HBM_CATASTROPHIC_TEMP: stack `s` drives its output: a lasting fatal condition, ALERT, and self-refresh (R751, R1241).
It lasts until both stacks release theirs. Asleep, the output is not watched (R1232). -/
def Hw.hbmHot (h : Hw) (s : Nat) (on : Bool) : Hw :=
  let was := NSet.has h.err.alarm (3 + s)
  if on == was || h.asleep || decide (2 ≤ s) then h
  else
    let h := { h with err := { h.err with alarm := NSet.put h.err.alarm (3 + s) on } }
    if on then
      let h := (h.lastingOn eTHERMAL 2 nodeREG).raise R.ERR_ALERT_ALERT (1 + s)
      if h.memState s == msRUN then h.selfRefresh s else h
    else if NSet.has h.err.alarm 3 || NSet.has h.err.alarm 4 then h
    else h.lastingOff eTHERMAL 2

/-! ### Training and repair (R752-R757) -/

/-- Begin training at a step (R752). -/
def Hw.trainStart (h : Hw) (s step : Nat) : Hw :=
  ((h.put (R.MEM_STAT_STATE s) msTRAINING).put (R.MEM_STAT_STEP s) step).hbmOk

/-- Key of the lane group that holds lane `lane` of pseudo-channel n (R754). -/
def laneGroup (s n lane : Nat) : Nat :=
  64 * s + 2 * n + (if lane < 16 ∨ lane = 32 ∨ lane = 33 then 0 else 1)

/-- An attempt of stack s has failed: the third sends it to FAILED (R755). -/
def Hw.tryFailed (h : Hw) (s : Nat) : Bool × Hw :=
  let n := NMap.get h.hbm.fails s + 1
  (decide (3 ≤ n), { h with hbm := { h.hbm with fails := NMap.set h.hbm.fails s n } })

/-- Count a training attempt. -/
def Hw.attempt (h : Hw) (s : Nat) : Hw := h.put (R.MEM_STAT_ATTEMPTS s) (min 15 (h.get (R.MEM_STAT_ATTEMPTS s) + 1))

/-- Training of stack s has failed. Where a MEM_KEEP reset kept its contents and it has not trained since, they count as
lost (R113). -/
def Hw.trainFailed (h : Hw) (s : Nat) : Hw :=
  let h := h.put (R.MEM_STAT_STATE s) msFAILED
  if NSet.has h.hbm.kept s then
    let h := h.putB R.SYS_RST_STAT_MEM_KEPT false
    { h with hbm := { h.hbm with kept := NSet.del h.hbm.kept s }, mem := { h.mem with
        hbm := h.mem.hbm.filter (fun e => hbmChan e.1 / 32 != s),
        hbmP := h.mem.hbmP.filter (fun l => hbmChan (32 * l) / 32 != s) } }
  else h

/-- TRAINING_DONE: training of stack s ends. Success enters RUN (R752 step 8); a lane that fails step 7 leads to
REPAIR_HOLD (R754), or FAILED where its group's redundant lane is used; another failed step leads to a new attempt
and, after 3, to FAILED (R755). -/
def Hw.trainingDone (h : Hw) (s : Nat) (res : Option (Option (Nat × Nat))) : Hw :=
  if h.memState s != msTRAINING then h
  else
    let h := h.attempt s
    match res with
    | none =>
      let h := { h with hbm := { h.hbm with fails := NMap.set h.hbm.fails s 0, kept := NSet.del h.hbm.kept s } }
      ((h.put (R.MEM_STAT_STATE s) msRUN).put (R.MEM_STAT_STEP s) 8 |>.putB (R.MEM_STAT_TRAINED s) true).hbmOk
    | some (some (n, lane)) =>
      let h := h.wr (R.MEM_LANE_FAIL s) (n % 32 + lane % 64 * 32 + 2048)
      let g := laneGroup s n lane
      let f := h.tryFailed s
      let h := f.2
      if NSet.has h.hbm.soft g ∨ NSet.has h.hbm.hard g ∨ f.1 then h.trainFailed s
      else
        let h := h.put (R.MEM_STAT_STATE s) msHOLD
        if h.is (R.MEM_REPAIR_CFG_AUTO s) then h.putB (R.MEM_REPAIR_CFG_REQ s) true else h
    | some none =>
      let f := h.tryFailed s
      if f.1 then f.2.trainFailed s else f.2.trainStart s 1

/-- LANE_REPAIR: the Dealer maps the recorded lane onto its redundant lane through HBM_PORT; with HARD = 1 the stack
keeps it; training restarts at step 1 (R754). -/
def Hw.laneRepair (h : Hw) (s : Nat) : Hw :=
  if h.memState s == msHOLD && h.is (R.MEM_REPAIR_CFG_REQ s) then
    let g := laneGroup s (h.get (R.MEM_LANE_FAIL_PC s)) (h.get (R.MEM_LANE_FAIL_LANE s))
    let h := { h with hbm := { h.hbm with soft := NSet.add h.hbm.soft g } }
    let h := if h.is (R.MEM_REPAIR_CFG_HARD s) then { h with hbm := { h.hbm with hard := NSet.add h.hbm.hard g } } else h
    (h.putB (R.MEM_REPAIR_CFG_REQ s) false).trainStart s 1
  else h

/-- RETRAIN: a write of MEM_CTL.RETRAIN acts by stack state (R791). -/
def Hw.retrain (h : Hw) (s : Nat) : Hw :=
  let st := h.memState s
  if st = msRUN then (h.selfRefresh s).trainStart s 3
  else if st = msHOLD then h.trainStart s 1
  else if st = msFAILED then { h with hbm := { h.hbm with fails := NMap.set h.hbm.fails s 0 } }.trainStart s 1
  else h

end Sys2Proof.Machine
end

