-- ==== Sys2Proof/Machine/Approx.lean ====
section
/-!
DEFINITION. The approximations of R508: special values and flags as the table gives them; for ordinary operands any
result within the stated error, chosen by an open function of the operand (assumption 4).
-/
namespace Sys2Proof.Machine

/-- Integer square root, one result bit per fuel step from the top. -/
def isqrtGo (n : Nat) : Nat → Nat → Nat
  | 0, r => r
  | k + 1, r =>
    let t := r + 2 ^ k
    isqrtGo n k (if t * t ≤ n then t else r)

/-- Floor of the square root of `n`. -/
def isqrt (n : Nat) : Nat := isqrtGo n (log2 n / 2 + 1) 0

/-- A result of `ulps` error at most around an exact magnitude: `v` truncated, `exact` where nothing was discarded;
`pick` chooses among the encodings within the bound. -/
def approxFP (v : Num) (exact : Bool) (ulps pick : Nat) : Nat × Flg :=
  let r := toFP32 .rtz v
  if r.2.fzr then (r.1, { fzr := true, uf := true })
  else if exact then (r.1 + pick % (2 * ulps + 1) - ulps, {})
  else (r.1 + pick % (2 * ulps) + 1 - ulps, {})

/-- 1 ÷ (m × 2^e). -/
def rcpApprox (v : Num) (pick : Nat) : Nat × Flg :=
  match v with
  | .nan => (nanBits (ffmt 0), {})
  | .inf s => (b2n s <<< 31, {})
  | .fin s m e =>
    if m = 0 then (infBits (ffmt 0) s, {})
    else
      let q := 2 ^ 80 / m
      let ex := decide (q * m = 2 ^ 80)
      approxFP (.fin s (2 * q + b2n (!ex)) (-81 - e)) ex 1 pick

/-- 1 ÷ √v. -/
def rsqrtApprox (v : Num) (pick : Nat) : Nat × Flg :=
  match v with
  | .nan => (nanBits (ffmt 0), {})
  | .inf true => (nanBits (ffmt 0), { nv := true })
  | .inf false => (0, {})
  | .fin s m e =>
    if m = 0 then (infBits (ffmt 0) s, {})
    else if s then (nanBits (ffmt 0), { nv := true })
    else
      let m' := if e % 2 = 0 then m else 2 * m
      let e' := if e % 2 = 0 then e else e - 1
      let q := isqrt (2 ^ 160 / m')
      let ex := decide (q * q * m' = 2 ^ 160)
      approxFP (.fin false (2 * q + b2n (!ex)) (-81 - e' / 2)) ex 2 pick

/-- 2^(f ÷ 2^80) × 2^100 for a fraction f, truncated: a product of iterated square roots of 2. -/
def exp2Frac (f : Nat) : Nat :=
  let go := (List.range 80).foldl (fun (a : Nat × Nat) k =>
    let c := isqrt (a.1 * 2 ^ 100)
    (c, if bit f (79 - k) then a.2 * c / 2 ^ 100 else a.2)) (2 ^ 101, 2 ^ 100)
  go.2

/-- 2^v. -/
def exp2Approx (v : Num) (pick : Nat) : Nat × Flg :=
  match v with
  | .nan => (nanBits (ffmt 0), {})
  | .inf true => (0, {})
  | .inf false => (infBits (ffmt 0) false, {})
  | .fin s m e =>
    if m = 0 then approxFP (.fin false 1 0) true 2 pick
    else if magGt m e 1 9 then
      if s then (0, { fzr := true, uf := true }) else (infBits (ffmt 0) false, { of := true })
    else
      let x : Int := if 0 ≤ e + 80 then sgn s m * ((2 ^ (e + 80).toNat : Nat) : Int)
        else sgn s m / ((2 ^ (-(e + 80)).toNat : Nat) : Int)
      let n := x / ((2 ^ 80 : Nat) : Int)
      let f := wrapI 80 x
      if 128 ≤ n then (infBits (ffmt 0) false, { of := true })
      else if f = 0 then approxFP (.fin false 1 n) true 2 pick
      else approxFP (.fin false (2 * exp2Frac f + 1) (n - 101)) false 2 pick

/-- Sixty fraction bits of log2(y ÷ 2^128), 1 ≤ y ÷ 2^128 < 2. -/
def log2Frac (y : Nat) : Nat :=
  ((List.range 60).foldl (fun (a : Nat × Nat) _ =>
    let z := a.1 * a.1 / 2 ^ 128
    if 2 ^ 129 ≤ z then (z / 2, 2 * a.2 + 1) else (z, 2 * a.2)) (y, 0)).2

/-- log2(v). -/
def log2Approx (v : Num) (pick : Nat) : Nat × Flg :=
  match v with
  | .nan => (nanBits (ffmt 0), {})
  | .inf true => (nanBits (ffmt 0), { nv := true })
  | .inf false => (infBits (ffmt 0) false, {})
  | .fin s m e =>
    if m = 0 then (infBits (ffmt 0) true, {})
    else if s then (nanBits (ffmt 0), { nv := true })
    else
      let n : Int := e + (log2 m : Int)
      let y := m * 2 ^ (128 - log2 m)
      let ex := decide (y = 2 ^ 128)
      let l : Int := (n * ((2 ^ 60 : Nat) : Int) + log2Frac y) * 2 + (if ex then 0 else 1)
      if n = -1 ∨ n = 0 ∨ (n = 1 ∧ ex) then
        let d : Int := ((pick % (2 ^ 40 + 1) : Nat) : Int) - ((2 ^ 39 : Nat) : Int)
        ((toFP32 .rne (Num.ofDy (l + d) (-61))).1, {})
      else approxFP (Num.ofDy l (-61)) ex 2 pick

/-- An approximation by function code on an FP32 encoding, with its flags (R508). -/
def approx (fn x : Nat) : Nat × Flg :=
  let d := ofFP32 x
  let pick := (Config.approxPick fn (BitVec.ofNat 32 x)).toNat
  let r := match fn with
    | 0 => exp2Approx d.1 pick
    | 1 => log2Approx d.1 pick
    | 2 => rcpApprox d.1 pick
    | _ => rsqrtApprox d.1 pick
  (r.1 % 2 ^ 32, d.2.or r.2)

end Sys2Proof.Machine
end

