-- ==== Sys2Proof/Machine/Tile.lean ====
section
/-!
DEFINITION. Accessors of one tile's registers and stores (R530, R535, R584, R657, R1153-R1156).
-/
namespace Sys2Proof.Machine

open Sys2Proof

/-! ### Registers -/

/-- g[n]; g0 reads 0 (R530). -/
def Tile.g (t : Tile) (n : Nat) : Nat :=
  if n = 0 then 0 else (SMap.get (fun _ => (0 : BitVec 64)) t.regs.g n).toNat

/-- Write g[n]; writes to g0 are discarded (R530). -/
def Tile.setG (t : Tile) (n v : Nat) : Tile :=
  if n = 0 then t
  else { t with regs := { t.regs with g := SMap.set (fun _ => (0 : BitVec 64)) t.regs.g n (BitVec.ofNat 64 v) } }

/-- p[n]; p0 reads 1 (R530). -/
def Tile.p (t : Tile) (n : Nat) : Bool := n == 0 || NSet.has t.regs.p n

/-- Write p[n]; writes to p0 are discarded (R530). -/
def Tile.setP (t : Tile) (n : Nat) (b : Bool) : Tile :=
  if n = 0 then t else { t with regs := { t.regs with p := NSet.put t.regs.p n b } }

/-- m[n]. -/
def Tile.m (t : Tile) (n : Nat) : Nat := (SMap.get (fun _ => (0 : BitVec 64)) t.regs.m n).toNat

/-- Write m[n] (R603). -/
def Tile.setM (t : Tile) (n v : Nat) : Tile :=
  { t with regs := { t.regs with m := SMap.set (fun _ => (0 : BitVec 64)) t.regs.m n (BitVec.ofNat 64 v) } }

/-- v[n]. -/
def Tile.v (t : Tile) (n : Nat) : Nat := (SMap.get (fun _ => (0 : BitVec 1024)) t.regs.v n).toNat

/-- Write v[n]. -/
def Tile.setV (t : Tile) (n v : Nat) : Tile :=
  { t with regs := { t.regs with v := SMap.set (fun _ => (0 : BitVec 1024)) t.regs.v n (BitVec.ofNat 1024 v) } }

/-- Word w of d[n]. -/
def Tile.dw (t : Tile) (n w : Nat) : Nat :=
  (SMap.get (fun _ => (0 : BitVec 64)) t.regs.d (16 * n + w)).toNat

/-- Write word w of d[n]. -/
def Tile.setDw (t : Tile) (n w v : Nat) : Tile :=
  { t with regs := { t.regs with
      d := SMap.set (fun _ => (0 : BitVec 64)) t.regs.d (16 * n + w) (BitVec.ofNat 64 v) } }

/-- The sixteen words of d[n]. -/
def Tile.desc (t : Tile) (n : Nat) : List Nat := (List.range 16).map (fun w => t.dw n w)

/-- Write all of d[n]. -/
def Tile.setDesc (t : Tile) (n : Nat) (ws : List Nat) : Tile :=
  (List.range 16).foldl (fun t w => t.setDw n w (listAt 0 ws w)) t

/-- LFSR of lane n. -/
def Tile.lfsr (t : Tile) (n : Nat) : Nat := (SMap.get lfsrDefault t.regs.lfsr n).toNat

/-- Write the LFSR of lane n. -/
def Tile.setLfsr (t : Tile) (n v : Nat) : Tile :=
  { t with regs := { t.regs with lfsr := SMap.set lfsrDefault t.regs.lfsr n (BitVec.ofNat 32 v) } }

/-- A write of the stochastic seed loads every lane's LFSR (R505). -/
def Tile.loadSeed (t : Tile) (seed : Nat) : Tile :=
  (List.range 64).foldl (fun t n => t.setLfsr n (lfsrLoad seed n))
    { t with ctl := { t.ctl with seed := BitVec.ofNat 32 seed } }

/-! ### Tile store -/

/-- Size of the tile store, 256 KiB (R527). -/
def tsSize : Nat := 0x40000

/-- ACC entries (R527). -/
def accSize : Nat := 16384

/-- Physical address of tile-store address `a`: the two halves of the weight area exchange with each LAYER (R657). -/
def Tile.phys (t : Tile) (a : Nat) : Nat :=
  if 0x20000 ≤ a ∧ t.str.map then a ^^^ 0x10000 else a

/-- `n` tile-store bytes from address `a`. -/
def Tile.tsRead (t : Tile) (a n : Nat) : List Byte :=
  (List.range n).map (fun k => Mem.get t.mem.ts (t.phys (a + k)))

/-- Is a line of bytes [a, a + n) poisoned? -/
def Tile.tsPoison (t : Tile) (a n : Nat) : Bool :=
  (granules 32 a n).any (fun l => NSet.has t.mem.tsP (t.phys (32 * l) / 32))

/-- Write bytes at tile-store address `a`, without touching poison marks. -/
def Tile.tsPut (t : Tile) (a : Nat) (bs : List Byte) : Tile :=
  { t with mem := { t.mem with
      ts := ((List.range bs.length).zip bs).foldl (fun m e => Mem.set m (t.phys (a + e.1)) e.2) t.mem.ts } }

/-- Set or clear the poison bit of a line. -/
def Tile.tsMark (t : Tile) (l : Nat) (b : Bool) : Tile :=
  { t with mem := { t.mem with tsP := NSet.put t.mem.tsP (t.phys (32 * l) / 32) b } }

/-- Write bytes with poison `p`: a line covered whole takes `p`; one covered in part is poisoned if it was or if `p`
(R1155). -/
def Tile.tsWrite (t : Tile) (a : Nat) (bs : List Byte) (p : Bool := false) : Tile :=
  let n := bs.length
  (granules 32 a n).foldl (fun t l =>
    if p then t.tsMark l true
    else if a ≤ 32 * l ∧ 32 * l + 32 ≤ a + n then t.tsMark l false else t) (t.tsPut a bs)

/-- Poison the lines of [a, a + n). -/
def Tile.tsPoisonSet (t : Tile) (a n : Nat) : Tile :=
  (granules 32 a n).foldl (fun t l => t.tsMark l true) t

/-! ### ACC -/

/-- ACC entry e. -/
def Tile.acc (t : Tile) (e : Nat) : Nat := (SMap.get (fun _ => (0 : Word)) t.mem.acc e).toNat

/-- Poison bit of ACC entry e. -/
def Tile.accP (t : Tile) (e : Nat) : Bool := NSet.has t.mem.accP e

/-- Write ACC entry e with poison `p` (a plain store clears it, R534). -/
def Tile.setAcc (t : Tile) (e v : Nat) (p : Bool) : Tile :=
  { t with mem := { t.mem with
      acc := SMap.set (fun _ => (0 : Word)) t.mem.acc e (BitVec.ofNat 32 v),
      accP := NSet.put t.mem.accP e p } }

/-- Write a list of entries from e up. -/
def Tile.setAccs (t : Tile) (e : Nat) : List (Nat × Bool) → Tile
  | [] => t
  | x :: xs => Tile.setAccs (t.setAcc e x.1 x.2) (e + 1) xs

/-! ### Control -/

/-- Set flag events of mask `m` in TIL_FLAGS (R525). -/
def Tile.flag (t : Tile) (m : Nat) : Tile :=
  { t with ctl := { t.ctl with flags := BitVec.ofNat 32 (flagWord t.ctl.flags.toNat m) } }

/-- Halt with a reason; uncommitted words leave no effect (R563). -/
def Tile.halt (t : Tile) (why : Nat) : Tile :=
  { t with ctl := { t.ctl with st := .halted, why := why, step := false, fresh := false } }

/-- Is the tile in RUN? -/
def Tile.running (t : Tile) : Bool := t.ctl.st == .run

/-- Start from TIL_PC (R564, R578). -/
def Tile.start (t : Tile) : Tile :=
  { t with ctl := { t.ctl with st := .run, why := 0, fresh := true, step := false } }

/-- Replace the stream operations. -/
def Tile.setOps (t : Tile) (l : List SOp) : Tile := { t with str := { t.str with ops := l } }

/-- An uncorrectable error poisons its line or entry (R1154, R1155). -/
def Tile.sramErr (t : Tile) (e : SramErr) : Tile :=
  if !e.ue then t
  else if e.off < tsSize then t.tsMark (e.off / 32) true
  else if e.off < 0x50000 then
    { t with mem := { t.mem with accP := NSet.add t.mem.accP ((e.off - 0x40000) / 4) } }
  else t

end Sys2Proof.Machine
end

