-- ==== Sys2Proof/Machine/Descriptor.lean ====
section
/-!
DEFINITION. Stream descriptors: fields, checks, box geometry, requests and advance (R632-R652).
-/
namespace Sys2Proof.Machine

open Sys2Proof

/-- Bits [hi:lo] of word w of a descriptor. -/
def dfld (d : List Nat) (w hi lo : Nat) : Nat := bits (listAt 0 d w) hi lo

/-! ### Fields (R641) -/

def dBASE (d : List Nat) : Nat := dfld d 0 47 0
def dFMT (d : List Nat) : Nat := dfld d 0 51 48
def dEDGE (d : List Nat) : Nat := dfld d 0 53 52
def dNDIM (d : List Nat) : Nat := dfld d 0 56 54
def dSIZE (d : List Nat) (k : Nat) : Nat := if k = 0 then dfld d 1 23 0 else dfld d (k + 1) 63 40
def dBOX (d : List Nat) (k : Nat) : Nat :=
  if k = 0 then dfld d 1 35 24 else dfld d 6 (12 * (k - 1) + 11) (12 * (k - 1))
def dGSTRIDE (d : List Nat) (k : Nat) : Int := if k = 0 then 0 else sext 40 (dfld d (k + 1) 39 0)
def dTSTRIDE (d : List Nat) (k : Nat) : Nat :=
  if k = 0 then 0 else if k = 4 then dfld d 8 17 0 else dfld d 7 (18 * (k - 1) + 17) (18 * (k - 1))
def dSTEP (d : List Nat) (k : Nat) : Int :=
  if k = 4 then sext 16 (dfld d 10 15 0) else sext 16 (dfld d 9 (16 * k + 15) (16 * k))
def dCOUNT (d : List Nat) (k : Nat) : Nat :=
  if k = 4 then dfld d 11 11 0 else dfld d 10 (12 * k + 27) (12 * k + 16)
def dPOSw (d : List Nat) (k : Nat) : Nat := dfld d (12 + k / 2) (32 * (k % 2) + 31) (32 * (k % 2))
def dPOS (d : List Nat) (k : Nat) : Int := sext 32 (dPOSw d k)
def dCNT (d : List Nat) (k : Nat) : Nat := dfld d 15 (12 * k + 11) (12 * k)

/-- The bits of each word that the table of R641 names. -/
def dNamed : List Nat := [
  2 ^ 57 - 1, 2 ^ 36 - 1, 2 ^ 64 - 1, 2 ^ 64 - 1, 2 ^ 64 - 1, 2 ^ 64 - 1, 2 ^ 48 - 1, 2 ^ 54 - 1,
  2 ^ 18 - 1, 2 ^ 64 - 1, 2 ^ 64 - 1, 2 ^ 12 - 1, 2 ^ 64 - 1, 2 ^ 64 - 1, 2 ^ 32 - 1, 2 ^ 60 - 1]

/-- No reserved bit is set. -/
def dReservedOk (d : List Nat) : Bool :=
  (List.range 16).all (fun w => listAt 0 d w % 2 ^ 64 == listAt 0 d w &&& listAt 0 dNamed w)

/-- All fields of dimension k are 0 (R642). -/
def dDimZero (d : List Nat) (k : Nat) : Bool :=
  dSIZE d k == 0 && dBOX d k == 0 && dGSTRIDE d k == 0 && dTSTRIDE d k == 0 && dSTEP d k == 0 && dCOUNT d k == 0 &&
  dPOSw d k == 0 && dCNT d k == 0

/-- Reserved values and R642: the check of STREAM detail 1. -/
def dValid (d : List Nat) : Bool :=
  dReservedOk d && decide (dFMT d ≤ 11) && decide (dEDGE d ≤ 1) && decide (1 ≤ dNDIM d ∧ dNDIM d ≤ 5) &&
  (List.range 5).all (fun k => if k < dNDIM d then dSIZE d k != 0 && dBOX d k != 0 else dDimZero d k)

/-- R645: the check of STREAM detail 2. -/
def dPacked (d : List Nat) : Bool :=
  let w := fmtBits (dFMT d)
  let q := if w = 6 then 4 else if w = 4 then 2 else 1
  dBOX d 0 * w % 8 == 0 && dPOSw d 0 % q == 0 && dSIZE d 0 % q == 0 && dBOX d 0 % q == 0

/-- TSTRIDEk multiples of 32: the check of STREAM detail 3. -/
def dStrides (d : List Nat) : Bool := (List.range (dNDIM d)).all (fun k => dTSTRIDE d k % 32 == 0)

/-- Every element of the box is in bounds (R651). -/
def dInside (d : List Nat) : Bool :=
  (List.range (dNDIM d)).all (fun k => decide (0 ≤ dPOS d k ∧ dPOS d k + dBOX d k ≤ dSIZE d k))

/-! ### Box geometry -/

/-- Bytes of a box row (R644). -/
def dRowLen (d : List Nat) : Nat := dBOX d 0 * fmtBits (dFMT d) / 8

/-- Rows of the box. -/
def dRows (d : List Nat) : Nat := (List.range (dNDIM d)).foldl (fun a k => if k = 0 then a else a * dBOX d k) 1

/-- Box index i_k of row `r`, rows counted in the order (i4, i3, i2, i1) ascending (R646). -/
def dIdx (d : List Nat) (r k : Nat) : Nat :=
  r / ((List.range k).foldl (fun a j => if j = 0 then a else a * dBOX d j) 1) % dBOX d k

/-- The box's last tile-store byte, for a box at `a` (R644). -/
def dLast (d : List Nat) (a : Nat) : Nat :=
  a + dRowLen d + (List.range (dNDIM d)).foldl (fun s k => s + (dBOX d k - 1) * dTSTRIDE d k) 0 - 1

/-- Tile-store offset of row `r` from the box's start. -/
def dRowTs (d : List Nat) (r : Nat) : Nat :=
  (List.range (dNDIM d)).foldl (fun s k => if k = 0 then s else s + dIdx d r k * dTSTRIDE d k) 0

/-- Global address of byte `b` of row `r` (R643). -/
def dRowG (d : List Nat) (r b : Nat) : Nat :=
  let w := fmtBits (dFMT d)
  let g : Int := (List.range (dNDIM d)).foldl (fun (s : Int) k =>
      if k = 0 then s else s + (dPOS d k + dIdx d r k) * dGSTRIDE d k) (dBASE d : Int)
  wrapI 48 (g + dPOS d 0 * w / 8 + b)

/-- The dimensions above 0 of row `r` are in bounds. -/
def dRowIn (d : List Nat) (r : Nat) : Bool :=
  (List.range (dNDIM d)).all (fun k =>
    k == 0 || decide (0 ≤ dPOS d k + dIdx d r k ∧ dPOS d k + dIdx d r k < dSIZE d k))

/-- The in-bound bytes [lo, hi) of row `r`. -/
def dRowSpan (d : List Nat) (r : Nat) : Nat × Nat :=
  if dRowIn d r then
    let w := fmtBits (dFMT d)
    let lo := (min ((dBOX d 0 : Nat) : Int) (max 0 (-(dPOS d 0)))).toNat
    let hi := (max (lo : Int) (min ((dBOX d 0 : Nat) : Int) ((dSIZE d 0 : Int) - dPOS d 0))).toNat
    (lo * w / 8, hi * w / 8)
  else (0, 0)

/-- A later row of the box covers tile-store offset `o` (R646). -/
def dLater (d : List Nat) (r o : Nat) : Bool :=
  (List.range (dRows d - (r + 1))).any (fun i =>
    decide (dRowTs d (r + 1 + i) ≤ o ∧ o < dRowTs d (r + 1 + i) + dRowLen d))

/-- The next request of a box at row `r` and byte `off`, and where the one after it starts; `fuel` bounds the rows
looked at (R635). -/
def dNext (d : List Nat) (ts : Nat) : Nat → Nat → Nat → Option (SReq × Nat × Nat)
  | 0, _, _ => none
  | fuel + 1, r, off =>
    if dRows d ≤ r then none
    else
      let sp := dRowSpan d r
      let b := max off sp.1
      if b < sp.2 then
        let g := dRowG d r b
        let n := min (sp.2 - b) (256 - g % 256)
        some (⟨0, g, ts + dRowTs d r + b, n, r⟩, if b + n < sp.2 then (r, b + n) else (r + 1, 0))
      else dNext d ts fuel (r + 1) 0

/-- The next request of an operation. An SSIGNAL writes 8 bytes at the descriptor's base (R616). -/
def SOp.next? (o : SOp) : Option (SReq × Nat × Nat) :=
  match o.kind with
  | .signal => if o.row = 0 then some (⟨0, dBASE o.desc, 0, 8, 0⟩, 1, 0) else none
  | _ => if o.ready then dNext o.desc o.ts (dRows o.desc + 1 - o.row) o.row o.off else none

/-- The operation has sent every request and has every response (R634). -/
def SOp.done (o : SOp) : Bool := o.ready && o.padded && o.next?.isNone && o.out.isEmpty

/-- A fill of the prefetch queue. -/
def SOp.isFill (o : SOp) : Bool := o.kind == .fill || o.kind == .spref

/-- An operation that writes the tile store. -/
def SOp.writesTs (o : SOp) : Bool := o.kind == .load || o.isFill

/-- Tile-store range [lo, hi) of an operation's box. -/
def SOp.range (o : SOp) : Nat × Nat := if o.kind == .signal then (0, 0) else (o.ts, dLast o.desc o.ts + 1)

/-- Ranges meet. -/
def meets (a b c d : Nat) : Bool := decide (a < d ∧ c < b)

/-- An SSTORE has not yet read some byte of [a, a + n): a row not yet requested covers it (R638). -/
def SOp.unread (o : SOp) (a n : Nat) : Bool :=
  o.kind == .store &&
  (List.range (dRows o.desc - o.row)).any (fun i =>
    let r := o.row + i
    let sp := dRowSpan o.desc r
    let lo := if i = 0 then max o.off sp.1 else sp.1
    meets (o.ts + dRowTs o.desc r + lo) (o.ts + dRowTs o.desc r + sp.2) a (a + n) && decide (lo < sp.2))

/-- A write to [a, a + n) is held by an issued SSTORE (R638). -/
def Tile.held (t : Tile) (a n : Nat) : Bool := t.str.ops.any (fun o => o.unread a n)

/-- Write the zero bits of out-of-bound elements (R649), rows in order (R646). -/
def Tile.pad (t : Tile) (d : List Nat) (ts : Nat) : Tile :=
  (List.range (dRows d)).foldl (fun t r =>
    let sp := dRowSpan d r
    let a := ts + dRowTs d r
    let z (n : Nat) : List Byte := List.replicate n 0
    if sp.1 = sp.2 then t.tsWrite a (z (dRowLen d))
    else (t.tsWrite a (z sp.1)).tsWrite (a + sp.2) (z (dRowLen d - sp.2))) t

/-- Write the response bytes of a request of row `r`, leaving bytes that a later row covers (R646). -/
def Tile.rowWrite (t : Tile) (o : SOp) (q : SReq) (bs : List Byte) (poison : Nat → Bool) : Tile :=
  let keep := (List.range bs.length).filter (fun i => !(dLater o.desc q.row (q.ts + i - o.ts)))
  if keep.length = bs.length then
    (granules 32 q.ts bs.length).foldl (fun t l =>
      let lo := max q.ts (32 * l)
      let hi := min (q.ts + bs.length) (32 * l + 32)
      t.tsWrite lo ((bs.drop (lo - q.ts)).take (hi - lo))
        ((List.range (hi - lo)).any (fun i => poison (lo - q.ts + i)))) t
  else
    keep.foldl (fun t i => t.tsWrite (q.ts + i) [listAt 0 bs i] (poison i)) t

/-! ### Advance (R647) -/

/-- Replace bits [hi:lo] of word w. -/
def dput (d : List Nat) (w hi lo v : Nat) : List Nat := listUpd (fun x => setBits x hi lo v) d w

/-- Set POSk and CNTk. -/
def dSetPos (d : List Nat) (k p c : Nat) : List Nat :=
  dput (dput d (12 + k / 2) (32 * (k % 2) + 31) (32 * (k % 2)) p) 15 (12 * k + 11) (12 * k) c

/-- The advance from dimension `k` on; `fuel` dimensions remain. -/
def dAdvFrom : Nat → Nat → List Nat → List Nat
  | 0, _, d => d
  | fuel + 1, k, d =>
    let c := max (dCOUNT d k) 1
    let cnt := dCNT d k + 1
    let pos := dPOS d k + dSTEP d k
    if cnt < c then dSetPos d k (wrapI 32 pos) cnt
    else dAdvFrom fuel (k + 1) (dSetPos d k (wrapI 32 (pos - dSTEP d k * c)) 0)

/-- A descriptor after one ADV. -/
def dAdvance (d : List Nat) : List Nat := dAdvFrom (min (dNDIM d) 5) 0 d

/-! ### The checks of an X slot (R617, R652, R653) -/

/-- Shares of the tile's partition: SPLIT mode and the READ, WRITE and REMOTE sixteenths. -/
structure Shares where
  split : Bool
  rd : Nat
  wr : Nat
  rem : Nat
deriving DecidableEq, Repr

/-- A fault: exception code, detail and TIL_EVAL. -/
structure TFault where
  code : Nat
  detail : Nat
  eval : Nat
deriving DecidableEq, Repr

/-- STREAM detail 7: the operation's traffic has no share, judged by the descriptor's BASE (R676). -/
def shareNone (k : SKind) (d : List Nat) (own : Nat) (s : Shares) : Bool :=
  s.split &&
  match trafficOf own (dBASE d) with
  | .chip => false
  | .remote => s.rem == 0
  | .hbm => if k == .store || k == .signal then s.wr == 0 else s.rd == 0

/-- The first breach of an X slot (R652). -/
def xCheck (k : SKind) (d : List Nat) (ts chan own : Nat) (s : Shares) : Option TFault :=
  let isSig := k == .signal
  if !dValid d then some ⟨8, 1, chan⟩
  else if !isSig && !dPacked d then some ⟨8, 2, chan⟩
  else if !isSig && !dStrides d then some ⟨8, 3, chan⟩
  else if !isSig && ts % 32 != 0 then some ⟨4, 0, ts⟩
  else if !isSig && decide (tsSize ≤ dLast d ts) then some ⟨3, 0, dLast d ts⟩
  else if !isSig && dEDGE d == 1 && !dInside d then some ⟨8, 4, chan⟩
  else if k == .spref && decide (ts < 0x30000) then some ⟨8, 5, chan⟩
  else if isSig && dBASE d % 8 != 0 then some ⟨8, 6, chan⟩
  else if shareNone k d own s then some ⟨8, 7, chan⟩
  else none

end Sys2Proof.Machine
end

