-- ==== Sys2Proof/Machine/WideWord.lean ====
section
/-!
DEFINITION. The 512-bit wide word: its fields, its legality checks and its register reads and writes (chapter 11).
A word is a natural number below 2^512; a slot is the number its bits spell, counted from the slot's bit 0.
-/
namespace Sys2Proof.Machine

open Sys2Proof

/-- Slot codes of TIL_CAUSE.SLOT (R580). -/
def slC : Nat := 0
def slS0 : Nat := 1
def slS1 : Nat := 2
def slV : Nat := 3
def slM : Nat := 4
def slX : Nat := 5
def slNone : Nat := 7

/-- The bits of slot `s` of a word (R582). -/
def wSlot (w s : Nat) : Nat :=
  match s with
  | 0 => bits w 95 32
  | 1 => bits w 159 96
  | 2 => bits w 223 160
  | 3 => bits w 319 224
  | 4 => bits w 415 320
  | _ => bits w 511 416

/-- Header fields (R583). -/
def wValid (w s : Nat) : Bool := bit w s
def wPred (w : Nat) : Nat := bits w 8 6
def wNeg (w : Nat) : Bool := bit w 9
def wClass (w : Nat) : Nat := bits w 11 10
def wLimm (w : Nat) : Bool := wClass w == 1

/-- OP of a slot (R586). -/
def sOp (x : Nat) : Nat := x % 256

/-- OP of slot `s`, where the slot is valid; NOP otherwise. -/
def wOp (w s : Nat) : Nat := if wValid w s then sOp (wSlot w s) else 0

/-- A mask of bits [hi:lo]. -/
def fm (hi lo : Nat) : Nat := (2 ^ (hi + 1 - lo) - 1) <<< lo

/-! ### Control slot (R592, R593) -/

def opBR : Nat := 0x01
def opJMP : Nat := 0x02
def opCALL : Nat := 0x03
def opJMPR : Nat := 0x04
def opCALLR : Nat := 0x05
def opTRAP : Nat := 0x08
def opTRET : Nat := 0x09
def opHALT : Nat := 0x0A
def opCKPT : Nat := 0x10
def opLAYER : Nat := 0x11
def opWAITS : Nat := 0x12
def opFENCE : Nat := 0x13

def cP (x : Nat) : Nat := bits x 10 8
def cBNEG (x : Nat) : Bool := bit x 11
def cHINT (x : Nat) : Bool := bit x 12
def cRS (x : Nat) : Nat := bits x 20 16
def cTARGET (x : Nat) : Nat := bits x 41 32
def cIMM (x : Nat) : Nat := bits x 63 48

/-- Bits an opcode of the control slot uses beside OP; `none` for a reserved opcode (R587, R588). -/
def cUses (op : Nat) : Option Nat :=
  match op with
  | 0x00 => some 0
  | 0x01 => some (fm 12 8 + fm 41 32)
  | 0x02 => some (fm 41 32)
  | 0x03 => some (fm 41 32)
  | 0x04 => some (fm 20 16)
  | 0x05 => some (fm 20 16)
  | 0x08 => some (fm 63 48)
  | 0x09 => some (fm 48 48)
  | 0x0A => some 0
  | 0x10 => some (fm 63 48)
  | 0x11 => some 0
  | 0x12 => some (fm 63 48)
  | 0x13 => some 0
  | _ => none

/-! ### Scalar slots (R599-R601) -/

def sRD (x : Nat) : Nat := bits x 12 8
def sRA (x : Nat) : Nat := bits x 17 13
def sRB (x : Nat) : Nat := bits x 22 18
def sI (x : Nat) : Bool := bit x 23
def sIMM (x : Nat) : Nat := bits x 47 32

/-- IMM16 sign-extended to 64 bits (R589). -/
def sx16 (v : Nat) : Nat := wrapI 64 (sext 16 v)

/-- Opcodes whose second operand is op2 (R600). -/
def sIsOp2 (op : Nat) : Bool :=
  decide (1 ≤ op ∧ op ≤ 6 ∨ 8 ≤ op ∧ op ≤ 0xA ∨ 0xC ≤ op ∧ op ≤ 0xE ∨ 0x10 ≤ op ∧ op ≤ 0x13 ∨
    op = 0x18 ∨ 0x20 ≤ op ∧ op ≤ 0x25 ∨ op = 0x40)

def sIsLoad (op : Nat) : Bool := decide (0x30 ≤ op ∧ op ≤ 0x36)
def sIsStore (op : Nat) : Bool := decide (0x38 ≤ op ∧ op ≤ 0x3B)

/-- Bits a scalar opcode uses beside OP (R588, R590, R601). -/
def sUses (op : Nat) : Option Nat :=
  let op2 := fm 22 18 + fm 23 23 + fm 47 32
  if op = 0 then some 0
  else if op = 0x18 then some (fm 12 8 + op2)
  else if op = 0x40 then some (fm 11 8 + op2)
  else if 0x20 ≤ op ∧ op ≤ 0x25 then some (fm 10 8 + fm 17 13 + op2)
  else if sIsOp2 op then some (fm 17 8 + op2)
  else if 0x28 ≤ op ∧ op ≤ 0x2B then some (fm 10 8 + fm 15 13 + fm 20 18)
  else if sIsLoad op then some (fm 17 8 + fm 47 32)
  else if sIsStore op then some (fm 22 13 + fm 47 32)
  else
    match op with
    | 0x41 => some (fm 12 8 + fm 16 13)
    | 0x44 => some (fm 11 8 + fm 17 13 + fm 47 32)
    | 0x45 => some (fm 11 8 + fm 22 18 + fm 35 32)
    | 0x46 => some (fm 12 8 + fm 16 13 + fm 35 32)
    | _ => none

/-- R600: RB is 0 with the immediate; IMM16 is 0 without it, and in S0 of a LIMM word. -/
def sOp2Ok (x : Nat) (lit : Bool) : Bool :=
  if sI x then sRB x == 0 && (!lit || sIMM x == 0) else sIMM x == 0

/-! ### Vector slot (R604-R610) -/

def vVD (x : Nat) : Nat := bits x 12 8
def vVA (x : Nat) : Nat := bits x 17 13
def vVB (x : Nat) : Nat := bits x 22 18
def vVC (x : Nat) : Nat := bits x 27 23
def vTYPE (x : Nat) : Nat := bits x 31 28
def vRM (x : Nat) : Nat := bits x 34 32
def vDFMT (x : Nat) : Nat := bits x 39 36
def vMX (x : Nat) : Bool := bit x 40
def vGS (x : Nat) : Nat := bits x 45 41
def vENTRY (x : Nat) : Nat := bits x 61 48
def vIMM (x : Nat) : Nat := bits x 79 64

/-- The opcode rounds under RM (R606). -/
def vRounds (op : Nat) : Bool := op == 1 || op == 2 || op == 3 || op == 4 || op == 0x18 || op == 0x20

/-- Bits a vector opcode uses beside OP (R588, R605, R607, R610). -/
def vUses (op : Nat) (mx : Bool) : Option Nat :=
  let d := fm 12 8
  let a := fm 17 13
  let b := fm 22 18
  let c := fm 27 23
  let ty := fm 31 28
  let rm := fm 34 32
  let gs := fm 45 41
  let imm := fm 79 64
  match op with
  | 0x00 => some 0
  | 0x01 => some (d + a + b + ty + rm)
  | 0x02 => some (d + a + b + ty + rm)
  | 0x03 => some (d + a + b + ty + rm)
  | 0x04 => some (d + a + b + c + ty + rm)
  | 0x05 => some (d + a + b + ty)
  | 0x06 => some (d + a + b + ty)
  | 0x07 => some (d + a + ty)
  | 0x08 => some (d + a + ty)
  | 0x10 => some (d + a + b + ty)
  | 0x11 => some (d + a + b + ty)
  | 0x12 => some (d + a + b + ty)
  | 0x14 => some (d + a + b + c + ty)
  | 0x15 => some (d + a + b)
  | 0x16 => some (d + a + b)
  | 0x17 => some (d + a + b)
  | 0x18 => some (d + a + ty + rm + fm 40 36 + (if mx then gs + imm else 0))
  | 0x20 => some (d + a + ty + rm)
  | 0x21 => some (d + a + ty)
  | 0x24 => some (d + a)
  | 0x25 => some (d + a)
  | 0x26 => some (d + a)
  | 0x27 => some (d + a)
  | 0x30 => some (d + gs + imm)
  | 0x31 => some (a + gs + imm)
  | 0x34 => some (d + fm 61 48)
  | 0x35 => some (a + fm 61 48)
  | 0x36 => some (d + gs + ty)
  | 0x37 => some (a + gs + ty + fm 69 64)
  | _ => none

/-- FP32, FP16, BF16 or INT32: a side that is not narrow (R608). -/
def fmtWide (c : Nat) : Bool := decide (c ≤ 2) || c == 11

/-- VCVT's format rules (R606, R608, R610). -/
def vCvtOk (x : Nat) : Bool :=
  let t := vTYPE x
  let d := vDFMT x
  let narrow := if !fmtWide t then some t else if !fmtWide d then some d else none
  decide (t ≤ 11) && decide (d ≤ 10) && t != d && (fmtWide t || fmtWide d) &&
  (decide (vRM x ≤ 3) || (vRM x == 4 && decide (3 ≤ d ∧ d ≤ 7))) &&
  (!vMX x || (match narrow with | some c => mxAllowed c | none => false))

/-- Values a vector slot forbids (R605, R606, R607). -/
def vOk (x : Nat) : Bool :=
  let op := sOp x
  if op = 0x18 then vCvtOk x
  else decide (vTYPE x ≤ 2) && decide (vRM x ≤ 3) && (op != 0x37 || decide (vIMM x < (if vTYPE x = 0 then 32 else 64)))

/-! ### Matrix slot (R612) -/

def mMA (x : Nat) : Nat := bits x 11 8
def mMB (x : Nat) : Nat := bits x 15 12
def mM (x : Nat) : Nat := 8 * 2 ^ bits x 17 16
def mN (x : Nat) : Nat := 8 * 2 ^ bits x 19 18
def mK (x : Nat) : Nat := 8 * (bits x 25 20 + 1)
def mSPLIT (x : Nat) : Nat := bits x 27 26
def mPAIR (x : Nat) : Bool := bit x 28
def mDST (x : Nat) : Nat := bits x 43 30

/-- ACC entries a matrix slot writes (R533, R534). -/
def mLen (x : Nat) : Nat := mM x * mN x * (if mPAIR x then 2 else 1)

/-- Bits a matrix opcode uses beside OP. -/
def mUses (op : Nat) : Option Nat :=
  match op with
  | 0 => some 0
  | 1 => some (fm 28 8 + fm 43 30)
  | 2 => some (fm 28 8 + fm 43 30)
  | _ => none

/-! ### Stream slot (R615, R616) -/

def xD (x : Nat) : Nat := bits x 11 8
def xGS (x : Nat) : Nat := bits x 20 16
def xTSOFF (x : Nat) : Nat := bits x 49 32
def xADV (x : Nat) : Bool := bit x 64

/-- Bits a stream opcode uses beside OP. -/
def xUses (op : Nat) : Option Nat :=
  let f := fm 11 8 + fm 20 16
  match op with
  | 0 => some 0
  | 1 => some (f + fm 49 32 + fm 64 64)
  | 2 => some (f + fm 49 32 + fm 64 64)
  | 3 => some (f + fm 49 32 + fm 64 64)
  | 4 => some f
  | _ => none

/-- The kind of a stream opcode. -/
def xKind (op : Nat) : SKind :=
  match op with
  | 1 => .load | 2 => .store | 3 => .spref | _ => .signal

/-! ### Legality (R583-R590, R619-R623) -/

/-- Used bits of slot `s`'s opcode. -/
def slotUses (s x : Nat) : Option Nat :=
  match s with
  | 0 => cUses (sOp x)
  | 1 => sUses (sOp x)
  | 2 => sUses (sOp x)
  | 3 => vUses (sOp x) (vMX x)
  | 4 => mUses (sOp x)
  | _ => xUses (sOp x)

/-- DETAIL of a breach inside slot `s` of word `w`; 0 for none (R622). -/
def slotDetail (w s : Nat) : Nat :=
  let x := wSlot w s
  if !wValid w s then (if x != 0 && !(s == slS1 && wLimm w) then 3 else 0)
  else
    match slotUses s x with
    | none => 4
    | some u =>
      if x &&& (u + 255) != x then 5
      else if (s == slS0 || s == slS1) && sIsOp2 (sOp x) && !sOp2Ok x (s == slS0 && wLimm w) then 5
      else if s == slV && !vOk x then 5
      else 0

/-- A register a slot writes: 0 g, 1 p, 2 v, 3 m, 4 d, or a range of ACC entries. -/
inductive WRef where
  | reg (file n : Nat)
  | acc (lo hi : Nat)
deriving DecidableEq, Repr

/-- What slot `s` of a legal word writes (R536, R648); g0 and p0 are exempt. -/
def slotWrites (w s : Nat) : List WRef :=
  let x := wSlot w s
  let op := wOp w s
  let g (n : Nat) : List WRef := if n = 0 then [] else [.reg 0 n]
  match s with
  | 0 => if op = opCALL ∨ op = opCALLR then [.reg 0 31] else []
  | 3 =>
    if op = 0 ∨ op = 0x31 then []
    else if op = 0x35 then [.acc (vENTRY x) (vENTRY x + 32)]
    else if op = 0x37 then g (vGS x)
    else [.reg 2 (vVD x)]
  | 4 => if op = 0 then [] else [.acc (mDST x) (mDST x + mLen x)]
  | 5 => if 1 ≤ op ∧ op ≤ 3 ∧ xADV x then [.reg 4 (xD x)] else []
  | _ =>
    if op = 0 ∨ sIsStore op then []
    else if 0x20 ≤ op ∧ op ≤ 0x2B then (if sRD x = 0 then [] else [.reg 1 (sRD x)])
    else if op = 0x40 then [.reg 3 (sRD x)]
    else if op = 0x44 ∨ op = 0x45 then [.reg 4 (sRD x)]
    else g (sRD x)

/-- Two writes clash. -/
def WRef.clash (a b : WRef) : Bool :=
  match a, b with
  | .acc l h, .acc l' h' => meets l h l' h'
  | _, _ => a == b

/-- The later writer of the first clash, in slot order (R622). -/
def writeClash (w : Nat) : Option Nat :=
  (List.range 6).find? (fun s =>
    (List.range s).any (fun r => (slotWrites w r).any (fun a => (slotWrites w s).any (fun b => a.clash b))))

/-- The first breach of a word as DETAIL and SLOT (R621-R623), with INTRAP as it stands. -/
def illegal (w : Nat) (intrap : Bool) : Option (Nat × Nat) :=
  if bits w 31 12 != 0 || decide (2 ≤ wClass w) then some (1, slNone)
  else if wLimm w && (!wValid w slS0 || wValid w slS1) then some (2, slNone)
  else
    match (List.range 6).find? (fun s => slotDetail w s != 0) with
    | some s => some (slotDetail w s, s)
    | none =>
      let c := wOp w slC
      if wValid w slC && (c == opTRET && bits w 5 1 != 0 || (c == opLAYER || c == opCKPT) && bits w 5 4 != 0) then
        some (6, slC)
      else
        match writeClash w with
        | some s => some (7, s)
        | none => if c = opTRET ∧ ¬ intrap then some (8, slC) else none

end Sys2Proof.Machine
end

