-- ==== Sys2Proof/Machine/Vector.lean ====
section
/-!
DEFINITION. The vector slot's arithmetic on 1,024-bit registers (R604-R610) and the matrix unit's product
(R494-R498, R511-R515, R531-R534, R557, R612-R614).
-/
namespace Sys2Proof.Machine

open Sys2Proof

/-! ### Lanes -/

/-- Element `i` of width `w` of a packed value (R474). -/
def elem (v w i : Nat) : Nat := bits v (w * i + w - 1) (w * i)

/-- Pack elements of width `w` from bit 0 (R474). -/
def packElems (w : Nat) : List Nat → Nat
  | [] => 0
  | x :: xs => x % 2 ^ w + packElems w xs * 2 ^ w

/-- Elements of a v register of an arithmetic TYPE: 32 of FP32, 64 of FP16 and BF16 (R605). -/
def vecLanes (ty : Nat) : Nat := if ty = 0 then 32 else 64

/-- Decode a lane, with its flag of a flushed input. -/
def laneNum (ty x : Nat) : Num × Flg := let d := decodeFloat (ffmt ty) x; (d.1, { fzi := d.2 })

/-- A rounded lane result. -/
def laneOut (ty : Nat) (mode : Rnd) (v : Num) (f : Flg) : Nat × Flg :=
  let r := encodeFloat (ffmt ty) mode v
  (r.1, f.or r.2)

/-- VADD, VSUB, VMUL and VFMA on one lane (R607). -/
def laneArith (op ty : Nat) (mode : Rnd) (a b c : Nat) : Nat × Flg :=
  let x := laneNum ty a
  let y := laneNum ty b
  let f := x.2.or y.2
  match op with
  | 1 => let r := Num.add mode x.1 y.1; laneOut ty mode r.1 (f.or { nv := r.2 })
  | 2 => let r := Num.add mode x.1 y.1.neg; laneOut ty mode r.1 (f.or { nv := r.2 })
  | 3 => let r := Num.mul x.1 y.1; laneOut ty mode r.1 (f.or { nv := r.2 })
  | _ =>
    let z := laneNum ty c
    let p := Num.mul x.1 y.1
    let r := Num.add mode p.1 z.1
    laneOut ty mode r.1 ((f.or z.2).or { nv := p.2 || r.2 })

/-- The sign of a number. -/
def Num.neg? : Num → Bool
  | .nan => false
  | .inf s => s
  | .fin s _ _ => s

/-- VMIN and VMAX on one lane (R607): a NaN operand gives the canonical NaN without NV. -/
def laneMinMax (isMax : Bool) (ty a b : Nat) : Nat × Flg :=
  let x := laneNum ty a
  let y := laneNum ty b
  let n :=
    if x.1.isNan || y.1.isNan then Num.nan
    else if x.1.lt y.1 then (if isMax then y.1 else x.1)
    else if y.1.lt x.1 then (if isMax then x.1 else y.1)
    else if x.1.neg? == isMax then y.1 else x.1
  ((encodeFloat (ffmt ty) .rne n).1, x.2.or y.2)

/-- VCEQ, VCLT and VCLE on one lane. -/
def laneCmp (op ty a b : Nat) : Nat × Flg :=
  let x := laneNum ty a
  let y := laneNum ty b
  let nan := x.1.isNan || y.1.isNan
  let t := match op with
    | 0x10 => x.1.eq y.1
    | 0x11 => x.1.lt y.1
    | _ => !nan && !(y.1.lt x.1)
  (if t then 2 ^ (fmtBits ty) - 1 else 0, (x.2.or y.2).or { nv := nan && op != 0x10 })

/-- One lane of a two- or three-operand opcode. -/
def laneOp (op ty rm a b c : Nat) : Nat × Flg :=
  let w := fmtBits ty
  if op ≤ 4 then laneArith op ty (rndOf rm 0) a b c
  else if op = 5 then laneMinMax false ty a b
  else if op = 6 then laneMinMax true ty a b
  else if op = 7 then (a % 2 ^ (w - 1), {})
  else if op = 8 then (a ^^^ 2 ^ (w - 1), {})
  else if op = 0x14 then (if c = 0 then b else a, {})
  else if 0x24 ≤ op ∧ op ≤ 0x27 then approx (op - 0x24) a
  else laneCmp op ty a b

/-- Results of lanes with the flags of all. -/
def lanes (n : Nat) (f : Nat → Nat × Flg) : List Nat × Flg :=
  let rs := (List.range n).map f
  (rs.map Prod.fst, rs.foldl (fun a r => a.or r.2) Flg.none)

/-- A lane-wise opcode. -/
def vecLane (op ty rm a b c : Nat) : Nat × Flg :=
  let w := fmtBits ty
  let r := lanes (vecLanes ty) (fun i => laneOp op ty rm (elem a w i) (elem b w i) (elem c w i))
  (packElems w r.1, r.2)

/-- One reduction step: lane i combined with lane i + h (R609). -/
def reduceStep (op ty rm h : Nat) (xs : List Nat) (f : Flg) : List Nat × Flg :=
  let r := lanes h (fun i =>
    if op = 0x20 then laneArith 1 ty (rndOf rm 0) (listAt 0 xs i) (listAt 0 xs (i + h)) 0
    else laneMinMax true ty (listAt 0 xs i) (listAt 0 xs (i + h)))
  (r.1, f.or r.2)

/-- VRSUM and VRMAX: log2 n steps into lane 0, other lanes +0 (R607, R609). -/
def vecReduce (op ty rm a : Nat) : Nat × Flg :=
  let w := fmtBits ty
  let n := vecLanes ty
  let r := (List.range (log2 n)).foldl (fun (s : List Nat × Flg) k => reduceStep op ty rm (n / 2 ^ (k + 1)) s.1 s.2)
    ((List.range n).map (elem a w), Flg.none)
  (listAt 0 r.1 0 % 2 ^ w, r.2)

/-! ### VCVT (R608, R610) -/

/-- Result of a conversion: the v register, flags, scales written, LFSRs of the lanes drawn from. -/
structure Cvt where
  v : Nat
  flg : Flg
  scales : List Nat
  lfsr : List Nat
deriving DecidableEq, Repr

/-- Element count of a conversion (R608). -/
def cvtCount (t d : Nat) : Nat := if fmtBits t = 32 ∨ fmtBits d = 32 then 32 else 64

/-- Convert a whole register; `scales` are the block scales read from the tile store for an MX source, `lf` the lane
LFSRs (R503, R504). -/
def vecCvt (t d rm : Nat) (mx : Bool) (a : Nat) (scales : List Nat) (lf : Nat → Nat) : Cvt :=
  let n := cvtCount t d
  let mxIn := mx && mxAllowed t && !fmtWide t
  let mxOut := mx && !mxIn
  let src := (List.range n).map (fun i =>
    decodeNum t (elem a (fmtBits t) i) (if mxIn then some (listAt 0 scales (i / 32)) else none))
  let fzi := src.any Prod.snd
  let vals := src.map Prod.fst
  let drawn := (List.range n).map (fun i => lfsr16 (lf i))
  let xs := (List.range (n / 32)).map (fun b => mxScale d ((vals.drop (32 * b)).take 32))
  let rs := (List.range n).map (fun i =>
    let mode := rndOf rm (listAt 0 drawn i % 65536)
    let v := listAt Num.nan vals i
    if mxOut then mxElem d (listAt 0 xs (i / 32)) mode v else encodeNum d mode v)
  { v := packElems (fmtBits d) (rs.map Prod.fst),
    flg := rs.foldl (fun f r => f.or r.2) { fzi := fzi },
    scales := if mxOut then xs else [],
    lfsr := if rm = 4 then drawn else [] }

/-! ### Matrix operands (R531, R532) -/

/-- A matrix operand descriptor. -/
structure MDesc where
  base : Nat
  stride : Nat
  fmt : Nat
  mx : Bool
  order : Bool
  scale : Nat
deriving DecidableEq, Repr

/-- Fields of R531. -/
def mdesc (v : Nat) : MDesc :=
  ⟨bits v 17 0, bits v 31 18, bits v 35 32, bit v 36, bit v 37, bits v 55 38⟩

/-- Rows of an operand of `r` M or N indices, and the packed length of one. -/
def MDesc.rows (d : MDesc) (r k : Nat) : Nat := if d.order then k else r
def MDesc.rowLen (d : MDesc) (r k : Nat) : Nat := (if d.order then r else k) * fmtBits d.fmt / 8

/-- Last operand byte and last scale byte (R534). -/
def MDesc.last (d : MDesc) (r k : Nat) : Nat := d.base + (d.rows r k - 1) * d.stride + d.rowLen r k - 1
def MDesc.lastScale (d : MDesc) (r k : Nat) : Nat := d.scale + r * (k / 32) - 1

/-- The operand is INT8, UINT8 or INT4 without MX (R494). -/
def MDesc.isInt (d : MDesc) : Bool := !d.mx && decide (8 ≤ d.fmt ∧ d.fmt ≤ 10)

/-- Format and scale rules of R534. -/
def MDesc.fmtOk (d : MDesc) : Bool := decide (d.fmt ≤ 10) && (!d.mx || mxAllowed d.fmt)

/-- The element of index `r` (M or N) and `k`. -/
def MDesc.elem (d : MDesc) (t : Tile) (r k : Nat) : Nat :=
  let w := fmtBits d.fmt
  let row := if d.order then k else r
  let e := if d.order then r else k
  let o := e * w
  let bs := t.tsRead (d.base + row * d.stride + o / 8) ((o % 8 + w + 7) / 8)
  ofLe bs / 2 ^ (o % 8) % 2 ^ w

/-- The block scale of index `r` and `k`, under MX (R532). -/
def MDesc.scaleOf (d : MDesc) (t : Tile) (kk r k : Nat) : Option Nat :=
  if d.mx then some (ofLe (t.tsRead (d.scale + r * (kk / 32) + k / 32) 1)) else none

/-- A line of the operand or of its scales is poisoned (R557). -/
def MDesc.poisoned (d : MDesc) (t : Tile) (r k : Nat) : Bool :=
  (List.range (d.rows r k)).any (fun i => t.tsPoison (d.base + i * d.stride) (d.rowLen r k)) ||
  (d.mx && t.tsPoison d.scale (r * (k / 32)))

/-- The checks of a matrix instruction, first breach of R534's table. -/
def mCheck (t : Tile) (x : Nat) : Option TFault :=
  let a := mdesc (t.m (mMA x))
  let b := mdesc (t.m (mMB x))
  let k := mK x
  let int := a.isInt && b.isInt
  if !a.fmtOk || !b.fmtOk || ((a.mx || b.mx) && k % 32 != 0) || (int && (mPAIR x || mSPLIT x != 0)) ||
      mSPLIT x == 3 then some ⟨6, 0, 0⟩
  else if a.base % 32 != 0 || a.stride % 32 != 0 then some ⟨4, 0, a.base⟩
  else if b.base % 32 != 0 || b.stride % 32 != 0 then some ⟨4, 0, b.base⟩
  else if tsSize ≤ a.last (mM x) k then some ⟨3, 0, a.last (mM x) k⟩
  else if a.mx && decide (tsSize ≤ a.lastScale (mM x) k) then some ⟨3, 0, a.lastScale (mM x) k⟩
  else if tsSize ≤ b.last (mN x) k then some ⟨3, 0, b.last (mN x) k⟩
  else if b.mx && decide (tsSize ≤ b.lastScale (mN x) k) then some ⟨3, 0, b.lastScale (mN x) k⟩
  else if accSize < mDST x + mLen x then some ⟨5, 0, mDST x⟩
  else none

/-- The operation before it in the MXU has the same DST, M, N, pair bit and path (the chain rule beside R546). -/
def MxuOp.chains (o : MxuOp) (x : Nat) (int : Bool) : Bool :=
  o.dst == mDST x && o.m == mM x && o.n == mN x && o.pair == mPAIR x && o.int == int

/-- Decoded operand rows: element and flag of a flushed input, by index `r` then `k`. -/
def MDesc.table (d : MDesc) (t : Tile) (r k : Nat) : List (List (Num × Bool)) :=
  (List.range r).map (fun i => (List.range k).map (fun j =>
    decodeNum d.fmt (d.elem t i j) (d.scaleOf t k i j)))

/-- One float destination entry (R497, R511): groups of 8 from the lowest k. -/
def mmaFloat (split fa fb : Nat) (entry : Nat) (as bs : List (Num × Bool)) : Nat × Flg :=
  let ps := (as.zip bs).map (fun p => splitProducts split (piecesOf fa p.1.1) (piecesOf fb p.2.1))
  (List.range (ps.length / 8)).foldl (fun (s : Nat × Flg) g =>
    let r := groupFloat s.1 ((ps.drop (8 * g)).take 8).flatten
    (r.1, s.2.or r.2)) (entry, Flg.none)

/-- One pair destination entry (R513-R515). -/
def mmaPair (split fa fb : Nat) (hi lo : Nat) (as bs : List (Num × Bool)) : Nat × Nat × Flg :=
  let ps := (as.zip bs).map (fun p => splitProducts split (piecesOf fa p.1.1) (piecesOf fb p.2.1))
  (List.range (ps.length / 8)).foldl (fun (s : Nat × Nat × Flg) g =>
    let r := groupPair s.1 s.2.1 ((ps.drop (8 * g)).take 8).flatten
    (r.1, r.2.1, s.2.2.or r.2.2)) (hi, lo, Flg.none)

/-- The integer value of a decoded integer operand. -/
def Num.toInt : Num → Int
  | .fin s m _ => sgn s m
  | _ => 0

/-- One integer destination entry (R495). -/
def mmaInt (entry : Nat) (as bs : List (Num × Bool)) : Nat × Flg :=
  let ps := (as.zip bs).map (fun p => (p.1.1.toInt, p.2.1.toInt))
  (List.range (ps.length / 8)).foldl (fun (s : Nat × Flg) g =>
    let r := groupInt s.1 ((ps.drop (8 * g)).take 8)
    (r.1, s.2.or r.2)) (entry, Flg.none)

/-- The matrix operation a word begins, on the operands and entries as they stand (R533, R535, R546, R557, R613). -/
def mmaBegin (t : Tile) (x : Nat) : MxuOp :=
  let a := mdesc (t.m (mMA x))
  let b := mdesc (t.m (mMB x))
  let m := mM x
  let n := mN x
  let k := mK x
  let int := a.isInt && b.isInt
  let zero := sOp x == 2
  let prev := t.mxu.getLast?.filter (fun o => o.chains x int)
  let old (e : Nat) : Nat :=
    if zero then 0 else match prev with
      | some o => (listAt 0 o.res e).toNat
      | none => t.acc (mDST x + e)
  let oldP (e : Nat) : Bool :=
    !zero && (match prev with
      | some o => listAt false o.poison e
      | none => t.accP (mDST x + e))
  let bad := a.poisoned t m k || b.poisoned t n k
  let ta := a.table t m k
  let tb := b.table t n k
  let fzi := ta.any (fun r => r.any Prod.snd) || tb.any (fun r => r.any Prod.snd)
  let cell (e : Nat) : List Nat × Flg :=
    let as := listAt [] ta (e / n)
    let bs := listAt [] tb (e % n)
    if int then let r := mmaInt (old e) as bs; ([r.1], r.2)
    else if mPAIR x then
      let r := mmaPair (mSPLIT x) a.fmt b.fmt (old (2 * e)) (old (2 * e + 1)) as bs
      ([r.1, r.2.1], r.2.2)
    else let r := mmaFloat (mSPLIT x) a.fmt b.fmt (old e) as bs; ([r.1], r.2)
  let cells := (List.range (m * n)).map cell
  { dst := mDST x, m := m, n := n, pair := mPAIR x, int := int,
    res := (cells.map Prod.fst).flatten.map (BitVec.ofNat 32),
    poison := (List.range (mLen x)).map (fun e => bad || oldP e),
    flags := (cells.foldl (fun (f : Flg) c => f.or c.2) ({ fzi := fzi } : Flg)).mask }

/-- The oldest matrix operation writes back: its entries, poison bits and flags (R548, R557). -/
def Tile.writeback (t : Tile) : Tile :=
  match t.mxu with
  | [] => t
  | o :: os =>
    ((({ t with mxu := os } : Tile).setAccs o.dst ((o.res.map BitVec.toNat).zip o.poison))).flag o.flags

/-- Every committed operation writes back (R559). -/
def Tile.drain (t : Tile) : Tile := (List.range t.mxu.length).foldl (fun t _ => t.writeback) t

end Sys2Proof.Machine
end

