-- ==== Sys2Proof/Machine/TileExec.lean ====
section
/-!
DEFINITION. One wide word as one step: waits, checks, slots and commit (R535-R538, R545, R555-R564, R593-R631).
-/
namespace Sys2Proof.Machine

open Sys2Proof

/-! ### Exceptions -/

/-- Exception codes of R555. -/
def xILLEGAL : Nat := 1
def xFETCH : Nat := 2
def xRANGE : Nat := 3
def xALIGN : Nat := 4
def xACC : Nat := 5
def xMAT : Nat := 6
def xPOISON : Nat := 7
def xSTREAM : Nat := 8
def xTRAP : Nat := 9

/-- Take an exception of slot `sl` (R559-R561): committed matrix operations write back, the trap registers are
written, and the tile continues at TIL_TVEC or halts FAULTED. -/
def Tile.except (t : Tile) (sl : Nat) (f : TFault) : Tile :=
  let t := t.drain
  let c : TileCtl := { t.ctl with
    epc := t.ctl.pc % 1024,
    cause := BitVec.ofNat 32 (f.code + sl * 256 + f.detail % 65536 * 65536),
    eval := BitVec.ofNat 64 f.eval,
    fresh := false }
  if c.ten ∧ ¬ c.intrap then
    let c : TileCtl := { c with intrap := true, pc := c.tvec }
    { t with ctl := if c.step then { c with st := .halted, why := 3, step := false } else c }
  else
    { t with ctl := { c with st := .faulted, why := if c.intrap then 7 else 6, step := false } }

/-! ### Operands -/

/-- op2 of scalar slot `s` (R600). -/
def Tile.op2 (t : Tile) (w s : Nat) : Nat :=
  let x := wSlot w s
  if sI x then (if s = slS0 ∧ wLimm w then wSlot w slS1 else sx16 (sIMM x)) else t.g (sRB x)

/-- The tile-store address of a scalar load, store or LDDESC, on 64 bits (R601). -/
def Tile.sAddr (t : Tile) (x : Nat) : Nat := (t.g (sRA x) + sx16 (sIMM x)) % 2 ^ 64

/-- The tile-store address of a vector memory operation (R607, R610). -/
def Tile.vAddr (t : Tile) (x : Nat) : Nat := (t.g (vGS x) + sx16 (vIMM x)) % 2 ^ 64

/-- The tile-store address of a stream slot (R616). -/
def Tile.xAddr (t : Tile) (x : Nat) : Nat := (t.g (xGS x) + xTSOFF x) % 2 ^ 64

/-- Bytes of a scalar memory opcode. -/
def sBytes (op : Nat) : Nat :=
  match op with
  | 0x30 => 1 | 0x31 => 1 | 0x32 => 2 | 0x33 => 2 | 0x34 => 4 | 0x35 => 4 | 0x36 => 8
  | 0x38 => 1 | 0x39 => 2 | 0x3A => 4 | 0x3B => 8 | _ => 128

/-- Is a scalar opcode a memory access? -/
def sIsMem (op : Nat) : Bool := sIsLoad op || sIsStore op || op == 0x44

/-- Bytes of block scales a VCVT reads or writes. -/
def vScaleBytes (x : Nat) : Nat := cvtCount (vTYPE x) (vDFMT x) / 32

/-- A VCVT with MX reads its scales (narrow source) rather than writing them. -/
def vScaleIn (x : Nat) : Bool := mxAllowed (vTYPE x) && !fmtWide (vTYPE x)

/-- Tile-store bytes the word stores to, as address and length by slot (R537, R540, R638). -/
def Tile.stores (t : Tile) (w : Nat) : List (Nat × Nat) :=
  let sc (s : Nat) : List (Nat × Nat) :=
    let op := wOp w s
    if sIsStore op then [(t.sAddr (wSlot w s), sBytes op)] else []
  let x := wSlot w slV
  let op := wOp w slV
  sc slS0 ++ sc slS1 ++
    (if op = 0x31 then [(t.vAddr x, 128)]
     else if op = 0x18 ∧ vMX x ∧ ¬ vScaleIn x then [(t.vAddr x, vScaleBytes x)] else [])

/-! ### Waits in R (R545, R593, R633, R638, R660, R663, R834) -/

/-- Why a word does not issue. -/
inductive Wait where
  /-- a stream wait or LAYER: counts in TIL_CNT_SSTALL -/
  | stream
  /-- any other cause of R545: counts in TIL_CNT_OSTALL -/
  | other
  /-- a store held under R540 or R638: not a wait in R -/
  | store
deriving DecidableEq, Repr

/-- Some ACC entries of [lo, hi) belong to a begun operation that has not written back. -/
def Tile.accBusy (t : Tile) (lo hi : Nat) : Bool :=
  t.mxu.any (fun o => meets lo hi o.dst (o.dst + o.res.length))

/-- The M slot waits: two operations are held, or its range meets one it does not chain to. -/
def Tile.mWaits (t : Tile) (x : Nat) : Bool :=
  let int := (mdesc (t.m (mMA x))).isInt && (mdesc (t.m (mMB x))).isInt
  let chained := match t.mxu.getLast? with
    | some o => o.chains x int
    | none => false
  decide (2 ≤ t.mxu.length) || (!chained && t.accBusy (mDST x) (mDST x + mLen x)) ||
    (chained && (t.mxu.dropLast.any (fun o => meets (mDST x) (mDST x + mLen x) o.dst (o.dst + o.res.length) &&
      !(o.chains x int))))

/-- Operations outstanding on a channel (R633). -/
def Tile.chanOps (t : Tile) (c : Nat) : List SOp := t.str.ops.filter (fun o => !o.isFill && o.chan == c)

/-- Fills in the prefetch queue (R660). -/
def Tile.fills (t : Tile) : List SOp := t.str.ops.filter SOp.isFill

/-- Stream operations of the program that are outstanding: not the fills of the layer list. -/
def Tile.progOps (t : Tile) : List SOp := t.str.ops.filter (fun o => o.kind != .fill)

/-- The LAYER conditions of R663 on fills (TIL_LAYER.FILLED). -/
def Tile.filled (t : Tile) : Bool := t.fills.isEmpty && !t.str.walking

/-- The conditions of R663. -/
def Tile.layerOk (t : Tile) : Bool :=
  t.filled && t.str.ops.all (fun o => !(meets o.range.1 o.range.2 0x20000 0x40000))

/-- What the word waits for, if anything. -/
def Tile.waits (t : Tile) (w : Nat) : Option Wait :=
  let c := wSlot w slC
  let cop := wOp w slC
  let v := wSlot w slV
  let vop := wOp w slV
  let x := wSlot w slX
  let xop := wOp w slX
  if (vop == 0x34 || vop == 0x35) && t.accBusy (vENTRY v) (vENTRY v + 32) then some .other
  else if wOp w slM != 0 && t.mWaits (wSlot w slM) then some .other
  else if cop == opCKPT then some .other
  else if cop == opWAITS && t.progOps.any (fun o => o.kind != .spref && bit (cIMM c) o.chan) then some .stream
  else if cop == opFENCE && !t.progOps.isEmpty then some .stream
  else if cop == opLAYER && !t.layerOk then some .stream
  else if xop == 3 && decide (16 ≤ t.fills.length) then some .stream
  else if (xop == 1 || xop == 2 || xop == 4) && decide (4 ≤ (t.chanOps (xD x)).length) then some .stream
  else if (t.stores w).any (fun s => t.held s.1 s.2) then some .store
  else none

/-! ### Checks (R534, R555, R558, R602, R611, R617, R652, R655, R665) -/

/-- Range and alignment of one access: alignment first. -/
def tsCheck (a n al : Nat) : Option TFault :=
  if a % al != 0 then some ⟨xALIGN, 0, a⟩
  else if tsSize < a + n then some ⟨xRANGE, 0, a⟩ else none

/-- A load's checks: range, alignment, then poison. -/
def Tile.loadCheck (t : Tile) (a n al : Nat) : Option TFault :=
  (tsCheck a n al).orElse (fun _ => if t.tsPoison a n then some ⟨xPOISON, 0, a⟩ else none)

/-- Channels with an error that a wait covers. -/
def Tile.schErr (t : Tile) (mask : Nat) : Bool := t.str.err.toNat % 65536 &&& mask != 0

/-- Fault of the control slot. -/
def Tile.cFault (t : Tile) (w : Nat) : Option TFault :=
  let x := wSlot w slC
  match wOp w slC with
  | 0x08 => some ⟨xTRAP, 0, cIMM x⟩
  | 0x12 => if t.schErr (cIMM x) then some ⟨xSTREAM, 8, t.str.eaddrReg⟩ else none
  | 0x13 => if t.schErr 65535 then some ⟨xSTREAM, 8, t.str.eaddrReg⟩ else none
  | 0x11 => if t.str.pfErr then some ⟨xSTREAM, 9, t.str.eaddrReg⟩ else none
  | _ => none

/-- Fault of a scalar slot. -/
def Tile.sFault (t : Tile) (w s : Nat) : Option TFault :=
  let x := wSlot w s
  let op := wOp w s
  if sIsStore op then tsCheck (t.sAddr x) (sBytes op) (sBytes op)
  else if sIsMem op then t.loadCheck (t.sAddr x) (sBytes op) (sBytes op)
  else none

/-- Fault of the vector slot. -/
def Tile.vFault (t : Tile) (w : Nat) : Option TFault :=
  let x := wSlot w slV
  let a := t.vAddr x
  match wOp w slV with
  | 0x30 => t.loadCheck a 128 128
  | 0x31 => tsCheck a 128 128
  | 0x34 =>
    if accSize ≤ vENTRY x + 31 then some ⟨xACC, 0, vENTRY x⟩
    else ((List.range 32).find? (fun i => t.accP (vENTRY x + i))).map (fun i => ⟨xPOISON, 0, vENTRY x + i⟩)
  | 0x35 => if accSize ≤ vENTRY x + 31 then some ⟨xACC, 0, vENTRY x⟩ else none
  | 0x18 =>
    if !vMX x then none
    else if vScaleIn x then t.loadCheck a (vScaleBytes x) 1
    else tsCheck a (vScaleBytes x) 1
  | _ => none

/-- Fault of the matrix slot. -/
def Tile.mFault (t : Tile) (w : Nat) : Option TFault :=
  if wOp w slM = 0 then none else mCheck t (wSlot w slM)

/-- Fault of the stream slot. -/
def Tile.xFault (t : Tile) (w own : Nat) (sh : Shares) : Option TFault :=
  let x := wSlot w slX
  let op := wOp w slX
  if op = 0 then none else xCheck (xKind op) (t.desc (xD x)) (t.xAddr x) (xD x) own sh

/-- The first fault of a word in slot order, with its slot (R558). -/
def Tile.wFault (t : Tile) (w own : Nat) (sh : Shares) : Option (Nat × TFault) :=
  [(slC, t.cFault w), (slS0, t.sFault w slS0), (slS1, t.sFault w slS1), (slV, t.vFault w), (slM, t.mFault w),
    (slX, t.xFault w own sh)].findSome? (fun e => e.2.map (fun f => (e.1, f)))

/-! ### Results: every slot reads the state `o` before the word and writes into `t` (R535) -/

/-- The scalar operations on 64 bits (R528, R601). -/
def sAlu (op a b : Nat) : Nat :=
  let m := 2 ^ 64
  match op with
  | 0x01 => (a + b) % m
  | 0x02 => subMod 64 a b
  | 0x03 => a &&& b
  | 0x04 => a ||| b
  | 0x05 => a ^^^ b
  | 0x06 => a &&& (m - 1 - b)
  | 0x08 => (a <<< (b % 64)) % m
  | 0x09 => a >>> (b % 64)
  | 0x0A => wrapI 64 (sext 64 a / ((2 ^ (b % 64) : Nat) : Int))
  | 0x0C => a * b % m
  | 0x0D => wrapI 64 (sext 64 a * sext 64 b / ((m : Nat) : Int))
  | 0x0E => a * b / m
  | 0x10 => if sext 64 a ≤ sext 64 b then a else b
  | 0x11 => if sext 64 a ≤ sext 64 b then b else a
  | 0x12 => min a b
  | 0x13 => max a b
  | _ => b

/-- The scalar compares. -/
def sCmp (op a b : Nat) : Bool :=
  match op with
  | 0x20 => a == b
  | 0x21 => a != b
  | 0x22 => decide (sext 64 a < sext 64 b)
  | 0x23 => decide (a < b)
  | 0x24 => decide (sext 64 b ≤ sext 64 a)
  | _ => decide (b ≤ a)

/-- The predicate operations. -/
def pLogic (op : Nat) (a b : Bool) : Bool :=
  match op with
  | 0x28 => a && b
  | 0x29 => a || b
  | 0x2A => a != b
  | _ => a && !b

/-- A loaded value, extended as the opcode says. -/
def loadExt (op v : Nat) : Nat :=
  if op = 0x31 ∨ op = 0x33 ∨ op = 0x35 then wrapI 64 (sext (8 * sBytes op) v) else v

/-- A scalar slot's effect. -/
def sApply (o t : Tile) (w s : Nat) : Tile :=
  let x := wSlot w s
  let op := wOp w s
  let b := o.op2 w s
  if op = 0 then t
  else if sIsStore op then t.tsWrite (o.sAddr x) (leBytes (sBytes op) (o.g (sRB x)))
  else if sIsLoad op then t.setG (sRD x) (loadExt op (ofLe (o.tsRead (o.sAddr x) (sBytes op))))
  else if 0x20 ≤ op ∧ op ≤ 0x25 then t.setP (sRD x) (sCmp op (o.g (sRA x)) b)
  else if 0x28 ≤ op ∧ op ≤ 0x2B then t.setP (sRD x) (pLogic op (o.p (sRA x)) (o.p (sRB x)))
  else if op = 0x40 then t.setM (sRD x) b
  else if op = 0x41 then t.setG (sRD x) (o.m (sRA x))
  else if op = 0x44 then
    t.setDesc (sRD x) ((List.range 16).map (fun k => ofLe (o.tsRead (o.sAddr x + 8 * k) 8)))
  else if op = 0x45 then t.setDw (sRD x) (sIMM x) (o.g (sRB x))
  else if op = 0x46 then t.setG (sRD x) (o.dw (sRA x) (sIMM x))
  else t.setG (sRD x) (sAlu op (o.g (sRA x)) b)

/-- The vector slot's effect. -/
def vApply (o t : Tile) (w : Nat) : Tile :=
  let x := wSlot w slV
  let op := wOp w slV
  let a := o.v (vVA x)
  let lw := if vTYPE x = 0 then 32 else 16
  match op with
  | 0x00 => t
  | 0x15 => t.setV (vVD x) (a &&& o.v (vVB x))
  | 0x16 => t.setV (vVD x) (a ||| o.v (vVB x))
  | 0x17 => t.setV (vVD x) (a ^^^ o.v (vVB x))
  | 0x18 =>
    let sc := if vMX x ∧ vScaleIn x then (o.tsRead (o.vAddr x) (vScaleBytes x)).map BitVec.toNat else []
    let r := vecCvt (vTYPE x) (vDFMT x) (vRM x) (vMX x) a sc o.lfsr
    let t := (t.setV (vVD x) r.v).flag r.flg.mask
    let t := t.tsWrite (o.vAddr x) (r.scales.map (BitVec.ofNat 8))
    ((List.range r.lfsr.length).zip r.lfsr).foldl (fun t e => t.setLfsr e.1 e.2) t
  | 0x20 => let r := vecReduce op (vTYPE x) (vRM x) a; (t.setV (vVD x) r.1).flag r.2.mask
  | 0x21 => let r := vecReduce op (vTYPE x) 0 a; (t.setV (vVD x) r.1).flag r.2.mask
  | 0x30 => t.setV (vVD x) (ofLe (o.tsRead (o.vAddr x) 128))
  | 0x31 => t.tsWrite (o.vAddr x) (leBytes 128 a)
  | 0x34 => t.setV (vVD x) (packElems 32 ((List.range 32).map (fun i => o.acc (vENTRY x + i))))
  | 0x35 => t.setAccs (vENTRY x) ((List.range 32).map (fun i => (elem a 32 i, false)))
  | 0x36 => t.setV (vVD x) (packElems lw (List.replicate (1024 / lw) (o.g (vGS x))))
  | 0x37 => t.setG (vGS x) (elem a lw (vIMM x % 64))
  | _ =>
    let r := vecLane op (vTYPE x) (vRM x) a (o.v (vVB x)) (o.v (vVC x))
    (t.setV (vVD x) r.1).flag r.2.mask

/-- The matrix slot's effect: the operation begins (R548). -/
def mApply (o t : Tile) (w : Nat) : Tile :=
  if wOp w slM = 0 then t else { t with mxu := t.mxu ++ [mmaBegin o (wSlot w slM)] }

/-- The operation an X slot issues, from the descriptor and g as they stood (R618, R632). -/
def xOp (o : Tile) (x : Nat) : SOp :=
  let k := xKind (sOp x)
  let d := o.desc (xD x)
  { kind := k, chan := xD x, desc := d, daddr := 0, ready := true, ts := if k = .signal then 0 else o.xAddr x,
    val := o.g (xGS x), padded := k == .store || k == .signal, row := 0, off := 0, out := [] }

/-- The stream slot's effect: issue, then ADV (R543, R618, R647). -/
def xApply (o t : Tile) (w : Nat) : Tile :=
  let x := wSlot w slX
  let op := wOp w slX
  if op = 0 then t
  else
    let t := t.setOps (t.str.ops ++ [xOp o x])
    if op ≤ 3 ∧ xADV x then t.setDesc (xD x) (dAdvance (o.desc (xD x))) else t

/-- LAYER exchanges the halves, counts, and lets the engine read the next layer (R661, R664). -/
def Tile.swap (t : Tile) : Tile :=
  { t with str := { t.str with map := !t.str.map, num := (t.str.num + 1) % 65536, walking := !t.str.ended } }

/-- The control slot's effect and the index of the next word (R593-R596). -/
def cApply (o t : Tile) (w : Nat) : Tile :=
  let x := wSlot w slC
  let next := o.ctl.pc + 1
  let go (t : Tile) (pc : Nat) : Tile := { t with ctl := { t.ctl with pc := pc } }
  match wOp w slC with
  | 0x01 => go t (if o.p (cP x) != cBNEG x then cTARGET x else next)
  | 0x02 => go t (cTARGET x)
  | 0x03 => go (t.setG 31 next) (cTARGET x)
  | 0x04 => go t (o.g (cRS x))
  | 0x05 => go (t.setG 31 next) (o.g (cRS x))
  | 0x09 => { t with ctl := { t.ctl with intrap := false, pc := o.ctl.epc + b2n (bit (cIMM x) 0) } }
  | 0x0A => (go t next).halt 1
  | 0x11 => go t.swap next
  | _ => go t next

/-- Count a committed word. -/
def Tile.countWord (t : Tile) : Tile :=
  { t with ctl := { t.ctl with cntWords := t.ctl.cntWords + 1, fresh := false } }

/-- A single step ends when its word has committed (R563, R578). -/
def Tile.stepDone (t : Tile) : Tile := if t.ctl.step then t.halt 3 else t

/-- Commit a word that runs. -/
def Tile.commit (t : Tile) (w : Nat) : Tile :=
  let t' := sApply t t w slS0
  let t' := sApply t t' w slS1
  let t' := vApply t t' w
  let t' := mApply t t' w
  let t' := xApply t t' w
  (cApply t t' w).countWord.stepDone

/-- Commit a word whose predicate does not match (R538). -/
def Tile.skip (t : Tile) : Tile :=
  ({ t with ctl := { t.ctl with pc := t.ctl.pc + 1 } } : Tile).countWord.stepDone

/-- The word at the PC. -/
def Tile.word (t : Tile) : Nat := Mem.rd t.mem.imem (64 * t.ctl.pc) 64

/-- How a word ended. -/
inductive WordEnd where
  /-- it waits -/
  | wait (why : Wait)
  /-- an exception of this code was taken -/
  | fault
  /-- it committed -/
  | done
  /-- a breakpoint stopped the tile before it (R564) -/
  | brk
deriving DecidableEq, Repr

/-- The word at the PC issues, executes as one step and commits, waits, or faults (R535). `ue`: its fetch met an
uncorrectable SECDED error; `own`, `sh`: the seat and the bandwidth shares of the tile's partition. -/
def Tile.execWord (t : Tile) (ue : Bool) (own : Nat) (sh : Shares) : Tile × WordEnd :=
  let pc := t.ctl.pc
  if t.ctl.bken ∧ ¬ t.ctl.fresh ∧ pc = t.ctl.bkpt then (t.halt 4, .brk)
  else if 1024 ≤ pc ∨ ue then (t.except slNone ⟨xFETCH, 0, pc⟩, .fault)
  else
    let w := t.word
    match illegal w t.ctl.intrap with
    | some e => (t.except e.2 ⟨xILLEGAL, e.1, w % 2 ^ 64⟩, .fault)
    | none =>
      if t.p (wPred w) == wNeg w then (t.skip, .done)
      else
        match t.waits w with
        | some k => (t, .wait k)
        | none =>
          match t.wFault w own sh with
          | some f => (t.except f.1 f.2, .fault)
          | none => (t.commit w, .done)

end Sys2Proof.Machine
end

