-- ==== Sys2Proof/Machine/Global.lean ====
section
/-!
DEFINITION. Accesses to global memory: tile stores, Kitty and HBM of this seat (R527, R534, R570, R573, R692, R1153-R1156).
Memories behind the Dealer map are reached here as well, its registers through Machine/RegAccess.lean; other seats through the links.
-/
namespace Sys2Proof.Machine

open Sys2Proof

/-- Tile t. -/
def Hw.tile (h : Hw) (t : Nat) : Tile := SMap.get (fun _ => Tile.reset) h.tiles t

/-- Replace tile t. -/
def Hw.setTile (h : Hw) (t : Nat) (x : Tile) : Hw := { h with tiles := SMap.set (fun _ => Tile.reset) h.tiles t x }

/-- Change tile t. -/
def Hw.onTile (h : Hw) (t : Nat) (f : Tile → Tile) : Hw := h.setTile t (f (h.tile t))

/-- The partition clock runs (R85). -/
def Hw.clkRuns (h : Hw) (p : Nat) : Bool := !(h.is (R.SYS_TCLK_CUR_STOPPED p))

/-- The clock reaches the partition's tiles: it runs and IDLE does not gate it (R124). -/
def Hw.tileClk (h : Hw) (p : Nat) : Bool := h.clkRuns p && h.pwr != pwrIDLE

/-- One piece of an access: an address and a byte count inside one 256-byte granule (R635, R699). -/
def piecesFrom : Nat → Nat → Nat → List (Nat × Nat)
  | 0, _, _ => []
  | fuel + 1, a, n =>
    if n = 0 then []
    else
      let k := min n (256 - a % 256)
      (a, k) :: piecesFrom fuel (a + k) (n - k)

/-- The pieces of [a, a + n). -/
def pieces (a n : Nat) : List (Nat × Nat) := piecesFrom (n / 256 + 2) a n

/-- What lies at an address of the Dealer map. -/
inductive DWin where
  | mram (o : Nat)
  | rom (o : Nat)
  | kitty (o : Nat)
  /-- a device register, by its address -/
  | reg (a : Nat)
  | tile (t o : Nat)
  /-- the user register window -/
  | user (a : Nat)
  | none
deriving DecidableEq, Repr

/-- The Dealer address map (R346, R412, R422, R527, R319, R340). -/
def dealerWin (a : Nat) : DWin :=
  if a < 0x400000 then .mram a
  else if 0x0F000000 ≤ a ∧ a < 0x0F010000 then .rom (a - 0x0F000000)
  else if 0x20000000 ≤ a ∧ a < 0x20800000 then .kitty (a - 0x20000000)
  else if 0x40000000 ≤ a ∧ a < 0x40100000 then .reg a
  else if 0x50000000 ≤ a ∧ a < 0x52000000 then .tile ((a - 0x50000000) / 0x10000) (a % 0x10000)
  else if 0x60000000 ≤ a ∧ a < 0x61000000 then .user a
  else if 0x61000000 ≤ a ∧ a < 0x61010000 then .reg a
  else .none

/-- A data read of the MRAM bank of address `o` waits while a pulse runs there (R445). -/
def Hw.mramBusy (h : Hw) (o : Nat) : Bool := h.fw.pulse.any (fun w => w.group / 0x10000 == o / 0x200000)

/-- How a read or write of a memory behind the Dealer map fares, with the statuses of `pieceStatus`; 5 for what is no
memory. -/
def Hw.dealerStatus (h : Hw) (a n : Nat) (wr : Bool) : Nat :=
  match dealerWin a with
  | .mram o =>
    if wr then 5
    else if h.mramBusy o then 3
    else if 0x400000 < o + n ∨ h.fw.bad.any (fun g => decide (o < 32 * g + 32 ∧ 32 * g < o + n)) then 1 else 0
  | .rom _ => if wr then 5 else 0
  | .kitty o => if h.fenced 641 then 2 else if h.busDown || !h.nocclk then 1 else if 0x800000 < o + n then 1 else 0
  | _ => 5

/-- How an access to one piece fares: 0 served, 1 ERROR, 2 FENCED, 3 waits, 4 another seat, 5 registers. -/
def Hw.pieceStatus (h : Hw) (a n : Nat) (wr : Bool) : Nat :=
  let a := h.loc a
  if addrSeat a != h.seat then 4
  else
    match addrTarget a with
    | .reserved => 1
    | .dealer a => h.dealerStatus a n wr
    | .tctl _ _ => 5
    | .kitty o => if h.fenced 641 then 2 else if h.busDown || !h.nocclk then 1 else if 0x800000 < o + n then 1 else 0
    | .hbm o => h.hbmStatus o n
    | .tile t o =>
      if h.fenced t then 2
      else if !h.clkRuns (partOf t) then 1
      else if wr && decide (0x50000 ≤ o) && (h.tile t).running then 1
      else if 0x60000 < o + n then 1
      else 0

/-- The first status other than served of an access. -/
def Hw.gStatus (h : Hw) (a n : Nat) (wr : Bool) : Nat :=
  ((pieces a n).findSome? (fun p => let s := h.pieceStatus p.1 p.2 wr; if s = 0 then none else some s)).getD 0

/-- One byte of a tile's stores by offset (R527). -/
def Tile.byteAt (t : Tile) (o : Nat) : Byte :=
  if o < 0x40000 then Mem.get t.mem.ts (t.phys o)
  else if o < 0x50000 then BitVec.ofNat 8 (t.acc ((o - 0x40000) / 4) / 256 ^ (o % 4))
  else Mem.get t.mem.imem (o - 0x50000)

/-- Is the byte at an offset poisoned (R574, R1153)? -/
def Tile.bytePoison (t : Tile) (o : Nat) : Bool :=
  if o < 0x40000 then t.tsPoison o 1
  else if o < 0x50000 then t.accP ((o - 0x40000) / 4) else false

/-- Write a run of ACC bytes: each entry written takes the new bytes and poison `p` (R534). -/
def Tile.accBytes (t : Tile) (o : Nat) (bs : List Byte) (p : Bool) : Tile :=
  (granules 4 (o - 0x40000) bs.length).foldl (fun t e =>
    let v := (List.range 4).foldl (fun v i =>
      let a := 0x40000 + 4 * e + i
      if o ≤ a ∧ a < o + bs.length then setBits v (8 * i + 7) (8 * i) (listAt 0 bs (a - o)).toNat else v) (t.acc e)
    t.setAcc e v p) t

/-- Write bytes into a tile's stores by offset, within one 32-byte line. -/
def Tile.putBytes (t : Tile) (o : Nat) (bs : List Byte) (p : Bool) : Tile :=
  if o < 0x40000 then t.tsWrite o bs p
  else if o < 0x50000 then t.accBytes o bs p
  else { t with mem := { t.mem with imem := Mem.write t.mem.imem (o - 0x50000) bs } }

/-- The part of an HBM access that must wait its turn is served first (R737). -/
def Hw.gReady (h : Hw) (a n : Nat) : Hw :=
  match addrTarget (h.loc a) with
  | .hbm o => h.hbmFlush o n
  | _ => h

/-- One byte of global memory. -/
def Hw.gByte (h : Hw) (a : Nat) : Byte :=
  match addrTarget (h.loc a) with
  | .hbm o => Mem.get h.mem.hbm o
  | .kitty o => Mem.get h.mem.kitty o
  | .tile t o => (h.tile t).byteAt o
  | .dealer a => (match dealerWin a with
    | .mram o => Mem.get h.mem.mram o
    | .rom o => Mem.get h.mem.rom o
    | .kitty o => Mem.get h.mem.kitty o
    | _ => 0)
  | _ => 0

/-- Is a byte of global memory poisoned? -/
def Hw.gPoisoned (h : Hw) (a : Nat) : Bool :=
  match addrTarget (h.loc a) with
  | .hbm o => NSet.has h.mem.hbmP (o / 32)
  | .kitty o => NSet.has h.mem.kittyP (o / 32)
  | .tile t o => (h.tile t).bytePoison o
  | .dealer a => (match dealerWin a with
    | .kitty o => NSet.has h.mem.kittyP (o / 32)
    | _ => false)
  | _ => false

/-- Bytes [a, a + n). -/
def Hw.gBytes (h : Hw) (a n : Nat) : List Byte := (List.range n).map (fun i => h.gByte (a + i))

/-- Poison of each 32-byte line that [a, a + n) touches. -/
def Hw.gLines (h : Hw) (a n : Nat) : List Bool :=
  (granules 32 a n).map (fun l =>
    (List.range 32).any (fun i => decide (a ≤ 32 * l + i ∧ 32 * l + i < a + n) && h.gPoisoned (32 * l + i)))

/-- Is any byte of [a, a + n) poisoned? -/
def Hw.gPoisonIn (h : Hw) (a n : Nat) : Bool := (h.gLines a n).any (fun b => b)

/-- Write bytes within one 32-byte line of global memory. -/
def Hw.gPutLine (h : Hw) (a : Nat) (bs : List Byte) (p : Bool) : Hw :=
  match addrTarget (h.loc a) with
  | .hbm o => h.hbmW o bs p
  | .kitty o => h.kittyW o bs p
  | .tile t o => h.onTile t (fun x => x.putBytes o bs p)
  | .dealer a => (match dealerWin a with
    | .kitty o => h.kittyW o bs p
    | _ => h)
  | _ => h

/-- Write bytes from `a` up, with the poison of each line touched. -/
def Hw.gPut (h : Hw) (a : Nat) (bs : List Byte) (ps : List Bool) : Hw :=
  let h := (pieces a bs.length).foldl (fun h q => h.gReady q.1 q.2) h
  ((List.range (granules 32 a bs.length).length).zip (granules 32 a bs.length)).foldl (fun h e =>
    let lo := max a (32 * e.2)
    let hi := min (a + bs.length) (32 * e.2 + 32)
    h.gPutLine lo ((bs.drop (lo - a)).take (hi - lo)) (listAt false ps e.1)) h

/-- Read bytes from `a` up, after the writes queued before. -/
def Hw.gGet (h : Hw) (a n : Nat) : List Byte × List Bool × Hw :=
  let h := (pieces a n).foldl (fun h q => h.gReady q.1 q.2) h
  (h.gBytes a n, h.gLines a n, h)

/-- A read that the MRAM answers with an error leaves its marks (R413). -/
def Hw.gFault (h : Hw) (a n : Nat) : Hw :=
  match addrTarget (h.loc a) with
  | .dealer d => (match dealerWin d with
    | .mram o => h.mramUE o n
    | _ => h)
  | _ => h

end Sys2Proof.Machine
end

