-- ==== Sys2Proof/Machine/Link.lean ====
section
/-!
DEFINITION. Packets on Moazel links: flits and frames, link CRC, credits and replay, gateways and the link switch
(R1093-R1101, R1245, R695).
-/
namespace Sys2Proof.Machine

open Sys2Proof

/-- Link `k`'s port. -/
def Hw.link (h : Hw) (k : Nat) : LinkState := SMap.get (fun _ => LinkState.reset) h.tbl.links k

/-- Replace link `k`'s port. -/
def Hw.setLink (h : Hw) (k : Nat) (l : LinkState) : Hw :=
  { h with tbl := { h.tbl with links := SMap.set (fun _ => LinkState.reset) h.tbl.links k l } }

/-- States of LNK_STAT (R1142). -/
def lkDOWN : Nat := 0
def lkTRAINING : Nat := 1
def lkHELLO : Nat := 2
def lkUP : Nat := 3

/-- Link `k` is UP. -/
def Hw.linkIsUp (h : Hw) (k : Nat) : Bool := h.get (R.LNK_STAT_STATE k) == lkUP

/-- Bits of LNK_FLAGS. -/
def lfDOWN : Nat := 0
def lfLCRC : Nat := 1
def lfREPLAY : Nat := 2
def lfRETRAIN : Nat := 3
def lfWIRING : Nat := 4

/-- An event of LNK_FLAGS. -/
def Hw.linkFlag (h : Hw) (k b : Nat) : Hw := h.raise (R.LNK_FLAGS_FLAGS k) b

/-! ### Packets as flits (R696, R697, R701) -/

/-- CLASS of a packet: 0 TRUMP, 1 REQ, 2 RSP, 3 BULK (R698, R699). -/
def pktClass (op len : Nat) : Nat :=
  if op = 1 then 1 else if op = 2 then (if len ≤ 1 then 1 else 3) else if op = 0x81 ∨ op = 0x82 then 2 else 0

/-- LEN: the 32-byte lines that the packet's bytes touch; 0 without data (R697). -/
def Packet.lines (p : Packet) : Nat := if p.data.isEmpty then 0 else (granules 32 p.addr p.data.length).length

/-- A packet's class. -/
def Packet.cls (p : Packet) : Nat := pktClass p.op p.lines

/-- The header flit (R696). -/
def Packet.header (p : Packet) : List Byte :=
  leBytes 32 (p.addr % 2 ^ 48 + p.srcSeat % 8 * 2 ^ 48 + p.srcNode % 1024 * 2 ^ 51 + p.dstSeat % 8 * 2 ^ 64 +
    p.dstNode % 1024 * 2 ^ 67 + p.cls * 2 ^ 80 + p.prio % 4 * 2 ^ 82 + p.lines * 2 ^ 84 + p.op % 256 * 2 ^ 96 +
    p.tag % 4096 * 2 ^ 104 + p.status % 8 * 2 ^ 116 + (if p.data.isEmpty then 0 else p.bytes % 1024) * 2 ^ 128 +
    p.aux % 2 ^ 48 * 2 ^ 144)

/-- The data flits: byte b of flit k is the byte at (ADDR AND NOT 31) + 32 k + b (R697). -/
def Packet.dataFlits (p : Packet) : List (List Byte) :=
  let ofs := p.addr % 32
  (List.range p.lines).map (fun k => (List.range 32).map (fun b =>
    let i := 32 * k + b
    if ofs ≤ i ∧ i < ofs + p.data.length then listAt 0 p.data (i - ofs) else 0))

/-- A packet's flits on virtual channel `vc`; the tail carries the network CRC, a wrong one where the packet was damaged
before (R701, R1099). -/
def Packet.flits (p : Packet) (vc : Nat) : List Flit :=
  let ds := p.header :: p.dataFlits
  let c := crc32c ds.flatten
  let c := if p.crcBad then c ^^^ 1 else c
  let n := ds.length
  ((List.range n).zip ds).map (fun e =>
    ⟨vc, e.1 == 0, e.1 + 1 == n, decide (0 < e.1) && listAt false p.poison (e.1 - 1), e.2, if e.1 + 1 = n then c else 0⟩)

/-- The packet that a list of flits carries. -/
def ofFlits (fs : List Flit) : Packet :=
  let ds := fs.map (fun f => f.data)
  let x := ofLe (ds.headD [])
  let addr := bits x 47 0
  let body := (ds.drop 1).flatten
  let n := if (ds.drop 1).isEmpty then 0 else bits x 137 128
  { op := bits x 103 96, addr := addr, srcSeat := bits x 50 48, srcNode := bits x 60 51, dstSeat := bits x 66 64,
    dstNode := bits x 76 67, prio := bits x 83 82, tag := bits x 115 104, status := bits x 118 116,
    bytes := bits x 137 128, aux := bits x 191 144, data := (body.drop (addr % 32)).take n,
    poison := (fs.drop 1).map (fun f => f.poison),
    crcBad := crc32c ds.flatten != ((fs.getLast?).map (fun f => f.crc)).getD 0 }

/-! ### Frames (R1093, R1094) -/

/-- Kinds of frame. -/
def ftDATA : Nat := 0
def ftIDLE : Nat := 1
def ftNAK : Nat := 2
def ftHELLO : Nat := 3
def ftTIME : Nat := 4
def ftIDENT : Nat := 5

/-- Payload bytes of the blocks from S to the block before E. -/
def LFrame.body (f : LFrame) : List Byte :=
  leBytes 8 (0xA5 + f.ftype * 2 ^ 8 + f.seq % 4096 * 2 ^ 12 + f.ack % 4096 * 2 ^ 24 + f.flits.length * 2 ^ 36 +
    f.crvc % 8 * 2 ^ 40 + f.crcnt % 256 * 2 ^ 43) ++
  (if f.flits.isEmpty then [] else
    let sb := f.flits.map (fun x => BitVec.ofNat 8 (x.vc % 8 + 8 * b2n x.head + 16 * b2n x.tail + 32 * b2n x.poison))
    (sb ++ List.replicate (8 - sb.length) 0) ++
    (f.flits.map (fun x => x.data ++ (if x.tail then leBytes 4 x.crc ++ List.replicate 4 0 else []))).flatten)

/-- Payload bytes of a frame's blocks. -/
def LFrame.encode (f : LFrame) : List Byte :=
  f.body ++ leBytes 8 (0x5A + crc32c f.body * 2 ^ 8)

/-- Read flits from the blocks after B. -/
def parseFlits : List (BitVec 8) → List Byte → Option (List Flit × List Byte)
  | [], bs => some ([], bs)
  | s :: ss, bs =>
    if bs.length < 32 then none
    else
      let v := s.toNat
      let tail := bit v 4
      let rest := bs.drop 32
      if tail && decide (rest.length < 8) then none
      else
        match parseFlits ss (if tail then rest.drop 8 else rest) with
        | none => none
        | some (fs, r) =>
          some (⟨bits v 2 0, bit v 3, tail, bit v 5, bs.take 32, if tail then leAt rest 0 4 else 0⟩ :: fs, r)

/-- Read a frame from the payload bytes of its blocks; none where the blocks do not follow R1093 or LCRC fails. -/
def parseLFrame (bs : List Byte) : Option LFrame :=
  let s := leAt bs 0 8
  let nf := bits s 39 36
  if bs.length < 16 ∨ bits s 7 0 ≠ 0xA5 ∨ 8 < nf then none
  else
    let rest := bs.drop 8
    let r := if nf = 0 then some ([], rest) else parseFlits (rest.take nf) (rest.drop 8)
    match r with
    | none => none
    | some (fs, e) =>
      if e.length ≠ 8 ∨ leAt e 0 1 ≠ 0x5A ∨ leAt e 1 4 ≠ crc32c (bs.take (bs.length - 8)) then none
      else some ⟨bits s 11 8, bits s 23 12, bits s 35 24, bits s 42 40, bits s 50 43, fs⟩

/-! ### Sending (R1095, R1096, R1098) -/

/-- Flits of VC `v` in use on link `k`. -/
def LinkState.usedOn (l : LinkState) (v : Nat) : Nat := NMap.get l.used v

/-- Send one sequenced frame: it takes the next SEQ and is held until acknowledged. -/
def LinkState.push (l : LinkState) (ftype : Nat) (fs : List Flit) : LinkState :=
  let s := (l.tx + 1) % 4096
  { l with tx := s, held := l.held ++ [⟨ftype, s, l.rx, 0, 0, fs⟩] }

/-- Groups of at most 8 flits. -/
def flitGroups : Nat → List Flit → List (List Flit)
  | 0, _ => []
  | n + 1, fs => if fs.isEmpty then [] else fs.take 8 :: flitGroups n (fs.drop 8)

/-- A packet's frames go out: at most 8 flits a frame, one packet a frame (DESIGN CHOICE, assumption 56: the spec
leaves the packing open). -/
def LinkState.sendPkt (l : LinkState) (o : OutPkt) : LinkState :=
  let fs := o.pkt.flits o.vc
  let l := (flitGroups 4 fs).foldl (fun l g => l.push ftDATA g) l
  { l with used := NMap.set l.used o.vc (l.usedOn o.vc + fs.length) }

/-- A waiting packet may go: credits for all its flits, and room among the 64 held frames. -/
def LinkState.maySend (l : LinkState) (o : OutPkt) : Bool :=
  let n := 1 + o.pkt.lines
  decide (l.usedOn o.vc + n ≤ 32 ∧ l.held.length + (n + 7) / 8 ≤ 64)

/-- Send waiting packets, oldest first; a packet without credits holds back only those of its own virtual channel. -/
def LinkState.pump : List OutPkt → List Nat → LinkState → LinkState
  | [], _, l => l
  | o :: os, stuck, l =>
    if !(stuck.contains o.vc) && l.maySend o then LinkState.pump os stuck (l.sendPkt o)
    else LinkState.pump os (o.vc :: stuck) { l with out := l.out ++ [o] }

/-- Send what link `k` can take. -/
def Hw.linkPump (h : Hw) (k : Nat) : Hw :=
  if h.linkIsUp k then
    let l := h.link k
    h.setLink k (LinkState.pump l.out [] { l with out := [] })
  else h

/-! ### Gateways and the link switch (R695, R1100, R1101, R1245) -/

/-- The gateway that leads to seat s (NOC_SEAT_GW). -/
def Hw.gateOf (h : Hw) (s : Nat) : Nat := bits (h.rd R.NOC_SEAT_GW) (2 * s + 1) (2 * s)

/-- The link that leads on to seat s (TBL_ROUTE). -/
def Hw.routeOf (h : Hw) (s : Nat) : Nat := bits (h.rd R.TBL_ROUTE) (2 * s + 1) (2 * s)

/-- Seats present, rising. -/
def Hw.presentList (h : Hw) : List Nat := bitList 8 (h.get R.TBL_STAT_PRESENT)

/-- Link `k` of this seat joins the highest and the lowest present seat: the dateline (R1101). -/
def Hw.dateline (h : Hw) (k : Nat) : Bool :=
  let l := h.presentList
  (h.seat == l.getLastD 0 && k == 0) || (h.seat == l.headD 0 && k == 1)

/-- Virtual channel of a packet on link `k`: its class, and VC1 from the dateline on (R1101). The number is
2 × class + VC (DESIGN CHOICE, assumption 56). -/
def Hw.linkVc (h : Hw) (k cls : Nat) (vc1 : Bool) : Nat := 2 * cls + b2n (vc1 || h.dateline k)

/-- A request has met node `n`'s clock-loss fence: one error of class CLOCK per window (R71). -/
def Hw.clockLog (h : Hw) (n : Nat) : Hw :=
  if NSet.has h.clk.logged n then h
  else ({ h with clk := { h.clk with logged := NSet.add h.clk.logged n } } : Hw).errAt eCLOCK 8 n

/-- A request that node `n` refuses because its clock is lost: answered with ERROR, and one CLOCK error a window (R71). -/
def Hw.clockRefuse (h : Hw) (p : Packet) (n : Nat) : Hw :=
  let h := h.clockLog n
  if p.op = 1 ∨ p.op = 2 then h.answer p p.dstNode 1 [] [] else h

/-- A packet reaches gateway or switch `k` on its way to another seat (R1100, R1245). Its response stands for the node it
was addressed to. -/
def Hw.linkSend (h : Hw) (k : Nat) (p : Packet) (vc1 : Bool) : Hw :=
  if h.fenced (650 + k) then
    if p.op = 1 ∨ p.op = 2 then h.clockRefuse p (650 + k) else h.errAddr eFOLD 2 (650 + k) p.addr
  else if h.linkIsUp k then
    let l := h.link k
    (h.setLink k { l with out := l.out ++ [⟨h.linkVc k p.cls vc1, p⟩] }).linkPump k
  else if p.op = 1 ∨ p.op = 2 then h.answer p p.dstNode 1 [] []
  else h.errAddr eTABLE 4 (650 + k) p.addr

/-- A packet for another seat is taken off the torus at the gateway NOC_SEAT_GW names (R695). -/
def Hw.toGate (h : Hw) (p : Packet) : Hw := h.linkSend (h.gateOf p.dstSeat) p false

/-- A whole packet has arrived on link `k`: it enters the torus, or passes to the link TBL_ROUTE names (R695, R1100). -/
def Hw.linkDeliver (h : Hw) (p : Packet) (vc : Nat) : Hw :=
  if p.dstSeat = h.seat then h.send p else h.linkSend (h.routeOf p.dstSeat) p (vc % 2 == 1)

/-- Flits received: collected by virtual channel, and delivered at the tail. -/
def Hw.linkFlits (h : Hw) (k : Nat) (fs : List Flit) : Hw :=
  fs.foldl (fun (h : Hw) f =>
    let l := h.link k
    let got := (if f.head then [] else lmapGet l.part f.vc) ++ [f]
    if f.tail then (h.setLink k { l with part := lmapSet l.part f.vc [] }).linkDeliver (ofFlits got) f.vc
    else h.setLink k { l with part := lmapSet l.part f.vc got }) h

/-! ### Receiving (R1097, R1098) -/

/-- ACK and credits of an accepted frame. -/
def LinkState.acked (l : LinkState) (f : LFrame) : LinkState :=
  let fresh := l.held.filter (fun x => decide (2048 ≤ subMod 12 f.ack x.seq))
  let l := if fresh.length < l.held.length then { l with held := fresh, replays := 0, ack := f.ack } else l
  { l with used := NMap.set l.used f.crvc (l.usedOn f.crvc - f.crcnt) }

/-- A frame of kind `ft` arrives on link `k`: its content and the state once accepted; none where it is discarded
(answered with a NAK and counted), or where the link carries no frames. IDLE and NAK frames, which repeat the last SEQ,
are accepted whenever LCRC passes (DEDUCED, assumption 56). The first HELLO of a bring-up sets the awaited SEQ
(DESIGN CHOICE, assumption 56). -/
def Hw.linkAccept (h : Hw) (k ft : Nat) (bs : List Byte) : Option LFrame × Hw :=
  let st := h.get (R.LNK_STAT_STATE k)
  let l := h.link k
  if 4 ≤ k ∨ st = lkDOWN ∨ (ft ≠ ftHELLO ∧ st ≠ lkUP) then (none, h)
  else
    let bad : Option LFrame × Hw := (none, (h.bump (R.LNK_CNT_LCRC_COUNT k)).linkFlag k lfLCRC)
    match parseLFrame bs with
    | none => bad
    | some f =>
      if f.ftype ≠ ft then bad
      else if ft = ftIDLE ∨ ft = ftNAK then (some f, (h.setLink k (l.acked f)).linkPump k)
      else if ft = ftHELLO ∧ l.hello.isNone ∧ !l.retrain then (some f, h.setLink k ({ l with rx := f.seq }.acked f))
      else if f.seq = (l.rx + 1) % 4096 then (some f, (h.setLink k ({ l with rx := f.seq }.acked f)).linkPump k)
      else bad

/-- A replay: frames from ACK + 1 are sent again; the eighth without a new ACK starts a retrain, which keeps the held
frames (R1098). -/
def Hw.linkReplay (h : Hw) (k : Nat) : Hw :=
  let l := h.link k
  if !h.linkIsUp k || l.held.isEmpty then h
  else
    let h := ((h.setLink k { l with replays := l.replays + 1 }).bump (R.LNK_CNT_REPLAY_COUNT k)).linkFlag k lfREPLAY
    if 8 ≤ l.replays + 1 then
      ((h.setLink k { l with replays := 0, retrain := true, hello := none }).put (R.LNK_STAT_STATE k)
lkTRAINING).linkFlag
        k lfRETRAIN
    else h

/-- NAK: the frames after its ACK are resent. -/
def Hw.linkNak (h : Hw) (k : Nat) (bs : List Byte) : Hw :=
  match h.linkAccept k ftNAK bs with
  | (some _, h) => h.linkReplay k
  | (none, h) => h

/-- IDLE: credits and ACK. -/
def Hw.linkIdle (h : Hw) (k : Nat) (bs : List Byte) : Hw := (h.linkAccept k ftIDLE bs).2

/-- DATA: flits of packets. -/
def Hw.linkData (h : Hw) (k : Nat) (bs : List Byte) : Hw :=
  match h.linkAccept k ftDATA bs with
  | (some f, h) => h.linkFlits k f.flits
  | (none, h) => h

end Sys2Proof.Machine
end

