-- ==== Sys2Proof/Machine/Noc.lean ====
section
/-!
DEFINITION. Network interfaces, packets at gateways and responses, and the Fold handshake (chapter 13).
-/
namespace Sys2Proof.Machine

open Sys2Proof

/-! ### Requests at the source NI (R693, R694, R704, R713, R714, R729) -/

/-- Seat s is reachable: the own seat always (R729). -/
def Hw.seatOn (h : Hw) (s : Nat) : Bool := s == h.seat || h.bitOf R.NOC_SEAT_GW_SEAT_EN s

/-- A refused request: counted and logged (R714). -/
def Hw.isoRefuse (h : Hw) (s node a : Nat) : Hw :=
  (h.bump (R.NOC_ISO_CNT_CNT s)).errAddr eISOLATION 1 node a

/-- What the source NI does with a request to `a` of `n` bytes: `none` sends it; a status answers it locally (R694, R714,
R729, R1126, R1244). `set` is the isolation set that is checked, if any. -/
def Hw.niCheck (h : Hw) (node a n : Nat) (set : Option Nat) : Option Nat × Hw :=
  if h.fenced node then (some 2, h)
  else if addrTarget a == .reserved then (some 1, h.errAddr eADDRESS 1 node a)
  else if (h.xlat a).isNone then (some 1, h.errAddr eTABLE 2 node a)
  else if !h.seatOn (addrSeat (h.loc a)) then (some 1, h)
  else
    match set with
    | some s => if h.isoPermits s a n then (none, h) else (some 1, h.isoRefuse s node a)
    | none => (none, h)

/-- Bytes that another seat answers; none where it answers with an error. -/
def farBytes (far : Memory) (a n : Nat) : Option (List Byte) :=
  (List.range n).mapM (fun i => (far.find? (fun e => e.1 == a + i)).map (fun e => e.2))

/-- A device's request to another seat meets the fence of the gateway that NOC_SEAT_GW names (R70, R71). -/
def Hw.gateFenced (h : Hw) (a : Nat) : Option Hw :=
  let n := 650 + h.gateOf (addrSeat (h.loc a))
  if h.fenced n then some (h.clockLog n) else none

/-- A read by a device's own node: `none` waits; else 0 served, 1 error response, 2 poisoned data, 3 FENCED, with the
data. -/
def Hw.nodeRead (h : Hw) (node a n : Nat) (far : Memory) : Option (Nat × List Byte × Hw) :=
  match h.niCheck node a n none with
  | (some 2, h) => some (3, [], h)
  | (some _, h) => some (1, [], h)
  | (none, h) =>
    match h.gStatus a n false with
    | 0 =>
      let r := h.gGet a n
      some (if r.2.1.any (fun b => b) then 2 else 0, r.1, r.2.2)
    | 2 => some (3, [], h)
    | 3 => none
    | 4 => (match h.gateFenced a, farBytes far a n with
      | some h, _ => some (1, [], h)
      | none, some bs => some (0, bs, h)
      | none, none => some (1, [], h))
    | _ => some (1, [], h.gFault a n)

/-- A write by a device's own node: answered with success? -/
def Hw.nodeWrite (h : Hw) (node a : Nat) (bs : List Byte) (ps : List Bool) (farOk : Bool) : Bool × Hw :=
  match h.niCheck node a bs.length none with
  | (some _, h) => (false, h)
  | (none, h) =>
    match h.gStatus a bs.length true with
    | 0 => (true, h.gPut a bs ps)
    | 4 => (match h.gateFenced a with
      | some h => (false, h)
      | none => (farOk, h))
    | _ => (false, h)

/-- Requests node `n` has sent without a response (its OUT count). -/
def Hw.outOf (h : Hw) (n : Nat) : List Outst := h.noc.outst.filter (fun o => o.node == n && o.closed == .live)

/-- A tag of node `n` is free: at most 4,096 are outstanding (R704). -/
def Hw.tagFree (h : Hw) (n : Nat) : Bool := decide ((h.noc.outst.filter (fun o => o.node == n)).length < 4096)

/-- The next free tag of node `n`. -/
def Hw.freeTag (h : Hw) (n : Nat) : Nat :=
  let t0 := NMap.get h.noc.nextTag n
  (((List.range 4096).map (fun i => (t0 + i) % 4096)).find? (fun t =>
    !(h.noc.outst.any (fun o => o.node == n && o.tag == t)))).getD t0

/-- PRIO a node stamps into its requests (R699). -/
def Hw.prioOf (h : Hw) (n : Nat) : Nat :=
  if n < 512 then h.get (R.NOC_PRIO_PRIO (partOf n)) else bits (h.rd R.NOC_EPRIO) (2 * (n - 640) + 1) (2 * (n - 640))

/-- Send a request from node `n` under a new tag (R693, R696, R703, R704): the tag and the new state. -/
def Hw.niSend (h : Hw) (n op a len prio : Nat) (data : List Byte) (poison : List Bool) : Nat × Hw :=
  let t := h.freeTag n
  let p : Packet :=
    { op := op, addr := a, srcSeat := h.seat, srcNode := n, dstSeat := addrSeat (h.loc a),
      dstNode := targetNode (addrTarget (h.loc a)), prio := prio, tag := t, status := 0, bytes := len, aux := 0,
      data := data, poison := poison, crcBad := false }
  (t, { h.send p with noc := { (h.send p).noc with
    outst := (h.send p).noc.outst ++ [⟨n, t, a, len, op == 2, .live⟩],
    nextTag := NMap.set h.noc.nextTag n ((t + 1) % 4096) } })

/-! ### Packets in flight -/

/-- Packet k of those in flight. -/
def Hw.pkt? (h : Hw) (k : Nat) : Option Packet := h.noc.pkts[k]?

/-- Packet k leaves the network. -/
def Hw.dropPkt (h : Hw) (k : Nat) : Hw := { h with noc := { h.noc with pkts := h.noc.pkts.eraseIdx k } }

/-- A response reaches the NI of its destination: user logic, at a fabric port (R317, R702, R716, R723, R730). -/
def Hw.rspArrive (h : Hw) (p : Packet) : Hw :=
  let h := if p.crcBad then h.errAddr eCRC 1 p.dstNode p.addr else h
  if h.fenced p.dstNode then h.errAddr eFOLD 2 p.dstNode p.addr
  else
    match h.noc.outst.find? (fun o => o.node == p.dstNode && o.tag == p.tag) with
    | none => h
    | some o =>
      let h := { h with noc := { h.noc with outst := h.noc.outst.erase o } }
      match o.closed with
      | .byFold => h.errAddr eFOLD 3 p.dstNode p.addr
      | .byTimeout => h.errAddr eTIMEOUT 2 p.dstNode p.addr
      | .live =>
        let ps := if p.crcBad then p.poison.map (fun _ => true) else p.poison
        if 576 ≤ p.dstNode ∧ p.dstNode < 640 then
          { h with fab := { h.fab with rx := h.fab.rx ++ [(p.dstNode, p, ps.any (fun b => b) || p.crcBad)] } }
        else { h with noc := { h.noc with
            inbox := h.noc.inbox ++ [⟨p.dstNode, p.tag, if p.crcBad then 8 else p.status, p.data, ps⟩] } }

/-- RD_RSP or WR_RSP: response packet k leaves the network at its destination, or at the gateway. `crc` tells that the
sink found a CRC mismatch. -/
def Hw.rspRow (h : Hw) (op k : Nat) (crc : Bool) : Hw :=
  match h.pkt? k with
  | none => h
  | some p =>
    if p.op != op then h
    else
      let h := h.dropPkt k
      if p.dstSeat != h.seat then h.toGate p
      else if 655 ≤ p.dstNode then h.errAddr eADDRESS 3 p.srcNode p.addr
      else h.rspArrive { p with crcBad := p.crcBad || crc }

/-- Take the response to a tag out of an NI's inbox. -/
def Hw.takeRsp (h : Hw) (node tag : Nat) : Option (Arrived × Hw) :=
  match h.noc.inbox.find? (fun a => a.node == node && a.tag == tag) with
  | none => none
  | some a => some (a, { h with noc := { h.noc with inbox := h.noc.inbox.erase a } })

/-! ### The Fold handshake -/

/-- Fold states (R731). -/
def fOPEN : Nat := 0
def fFOLDING : Nat := 1
def fFOLDED : Nat := 2
def fUNFOLDING : Nat := 3

/-- No fold runs. -/
def FoldSm.reset : FoldSm := ⟨false, false, [], [], [], [], false, []⟩

/-- Fold machine k: partition k below 16, fabric port k − 16 above. -/
def Hw.fsm (h : Hw) (k : Nat) : FoldSm := SMap.get (fun _ => FoldSm.reset) h.noc.folds k

/-- Replace fold machine k. -/
def Hw.setFsm (h : Hw) (k : Nat) (f : FoldSm) : Hw :=
  { h with noc := { h.noc with folds := SMap.set (fun _ => FoldSm.reset) h.noc.folds k f } }

/-- State of region k. -/
def Hw.foldStat (h : Hw) (k : Nat) : Nat :=
  if k < 16 then bits (h.rd R.NOC_FOLD_STAT) (2 * k + 1) (2 * k)
  else bits (h.rd (R.NOC_FOLD_FSTAT ((k - 16) / 16))) (2 * ((k - 16) % 16) + 1) (2 * ((k - 16) % 16))

/-- Set the state of region k. -/
def Hw.setFoldStat (h : Hw) (k v : Nat) : Hw :=
  if k < 16 then h.wr R.NOC_FOLD_STAT (setBits (h.rd R.NOC_FOLD_STAT) (2 * k + 1) (2 * k) v)
  else
    let a := R.NOC_FOLD_FSTAT ((k - 16) / 16)
    let b := 2 * ((k - 16) % 16)
    h.wr a (setBits (h.rd a) (b + 1) b v)

/-- Nodes of region k. -/
def regionNodes (k : Nat) : List Nat := if k < 16 then tilesOf k else [576 + (k - 16)]

/-- Region of a node that can be folded. -/
def regionOf (n : Nat) : Nat := if n < 512 then partOf n else 16 + (n - 576)

/-- A fabric port reads FOLDED while any cause fences it, OPEN otherwise (R731). -/
def Hw.portShow (h : Hw) (i : Nat) : Hw :=
  h.setFoldStat (16 + i) (if h.fenced (576 + i) then fFOLDED else fOPEN)

/-- Step 1: the fold starts (R715). -/
def Hw.foldStart (h : Hw) (k : Nat) (pgate : Bool) (acks : List Nat) : Hw :=
  (h.setFoldStat k fFOLDING).setFsm k
    { FoldSm.reset with pgate := pgate, waitReq := (regionNodes k).foldl NSet.add [], acks := acks }

/-- A fold request for a region that is FOLDING joins it (R725). -/
def Hw.foldJoin (h : Hw) (k : Nat) (acks : List Nat) : Hw :=
  let f := h.fsm k
  h.setFsm k { f with acks := f.acks ++ acks }

/-- The stream engine has nothing under way: no operation of the program, no fill already begun (R565, R671). -/
def Tile.quiet (t : Tile) : Bool :=
  t.str.ops.all (fun o => o.isFill && !(o.padded || decide (0 < o.row ∨ 0 < o.off)) && o.out.isEmpty)

/-- A tile whose stream operations have their responses halts for the Fold (R565). A tile already halted keeps its
HALT_WHY (DEDUCED, assumption 42). -/
def Tile.foldHalt (t : Tile) : Tile :=
  if t.ctl.fold && t.quiet then
    let t := { t with ctl := { t.ctl with fold := false, arrived := none, ckStop := false } }
    if t.running then t.halt 5 else t
  else t

/-- FOLD_REQ reaches a tile: it stops at a word boundary, and its engine issues no further fill (R565, R671, R848). -/
def Tile.foldReq (t : Tile) : Tile :=
  ({ t with ctl := { t.ctl with fold := true, arrived := none }, str := { t.str with stopped := true } } : Tile).foldHalt

/-- Step 2: FOLD_REQ reaches node n. -/
def Hw.foldReqAt (h : Hw) (n : Nat) : Hw :=
  let k := regionOf n
  let f := h.fsm k
  if !NSet.has f.waitReq n then h
  else
    let h := h.setFsm k { f with waitReq := NSet.del f.waitReq n, waitOut := NSet.add f.waitOut n }
    if n < 512 then h.onTile n Tile.foldReq else h

/-- Steps 3 and 4: with OUT = 0 the router fences the port. -/
def Hw.outDrained (h : Hw) (n : Nat) : Hw :=
  let k := regionOf n
  let f := h.fsm k
  let stopped := decide (512 ≤ n) || (!(h.tile n).ctl.fold && !(h.tile n).running)
  if NSet.has f.waitOut n && stopped && (h.outOf n).isEmpty then
    (h.setFsm k { f with waitOut := NSet.del f.waitOut n, waitIn := NSet.add f.waitIn n }).fenceSet n .fold true
  else h

/-- Steps 5 and 6: with IN = 0 the NI sends FENCE_DONE. -/
def Hw.inDrained (h : Hw) (n : Nat) : Hw :=
  let k := regionOf n
  let f := h.fsm k
  if NSet.has f.waitIn n && !(h.noc.accepted.any (fun p => p.dstNode == n)) then
    h.setFsm k { f with waitIn := NSet.del f.waitIn n, waitDone := NSet.add f.waitDone n }
  else h

/-- A FENCE_DONE reaches the controller. -/
def Hw.fenceDone (h : Hw) (n : Nat) : Hw :=
  let k := regionOf n
  let f := h.fsm k
  h.setFsm k { f with waitDone := NSet.del f.waitDone n }

/-- All FENCE_DONE of region k have been received (step 7). -/
def Hw.foldReady (h : Hw) (k : Nat) : Bool :=
  let f := h.fsm k
  h.foldStat k == fFOLDING && f.waitReq.isEmpty && f.waitOut.isEmpty && f.waitIn.isEmpty && f.waitDone.isEmpty

/-- A forced fold closes every outstanding tag of a tile: the lines its responses would have written are poisoned and
its stream operations end (R718). -/
def Tile.closeTags (t : Tile) : Tile :=
  let t := t.str.ops.foldl (fun t o =>
    if o.writesTs then o.out.foldl (fun t q => t.tsPoisonSet q.ts q.len) t else t) t
  t.setOps (t.str.ops.filter (fun o => o.isFill && o.out.isEmpty))

/-- Close the tags of one NI of a forced fold, with one log entry (R718). -/
def Hw.closeNode (h : Hw) (n : Nat) : Hw :=
  let os := h.outOf n
  let h := match os with
    | [] => h
    | o :: _ => h.errFull eFOLD 1 n (some o.addr) o.tag (min 65535 os.length) true
  let h := { h with noc := { h.noc with
    outst := h.noc.outst.map (fun o => if o.node = n ∧ o.closed = .live then { o with closed := .byFold } else o) } }
  if n < 512 then
    h.onTile n (fun t =>
      let t := t.closeTags
      let t := { t with ctl := { t.ctl with fold := false, arrived := none, ckStop := false },
                        str := { t.str with stopped := true } }
      if t.running then t.halt 5 else t)
  else h

/-- Requests a fabric port accepted and has not answered are answered with STATUS ERROR (R718). -/
def Hw.answerAccepted (h : Hw) (n : Nat) : Hw :=
  let ps := h.noc.accepted.filter (fun p => p.dstNode == n)
  let h := { h with noc := { h.noc with accepted := h.noc.accepted.filter (fun p => p.dstNode != n) } }
  ps.foldl (fun h p => h.answer p n 1 [] []) h

/-- FOLD_TIMEOUT: the fold of region k becomes forced (R718). -/
def Hw.foldForce (h : Hw) (k : Nat) : Hw :=
  if h.foldStat k != fFOLDING || (h.fsm k).forced then h
  else
    let f := h.fsm k
    let ns := (regionNodes k).filter (fun n => NSet.has f.waitReq n || NSet.has f.waitOut n || NSet.has f.waitIn n)
    let h := ns.foldl (fun h n => ((h.closeNode n).fenceSet n .fold true).answerAccepted n) h
    h.setFsm k { f with forced := true, waitReq := [], waitOut := [], waitIn := [],
                        waitDone := ns.foldl NSet.add f.waitDone }

/-- NOC_FOLD_FORCED and NOC_FOLD_FFORCED (R719, R731). -/
def Hw.forcedFlag (h : Hw) (k : Nat) : Hw :=
  if k < 16 then h.raise R.NOC_FOLD_FORCED_PART k else h.raise R.NOC_FOLD_FFORCED_PORTG ((k - 16) / 4)

/-- Unfold of a fabric port: the fence of the Fold goes; another cause keeps it fenced (R731). -/
def Hw.unfoldPort (h : Hw) (i : Nat) : Hw := (h.fenceSet (576 + i) .fold false).portShow i

end Sys2Proof.Machine
end

