-- ==== Sys2Proof/Machine/Tclk.lean ====
section
/-!
DEFINITION. The partition clock generators: steps, start and stop (R62-R66, R74, R75, R85, R820).
-/
namespace Sys2Proof.Machine

open Sys2Proof

/-- Steps held behind a slewing one. -/
def Hw.heldSteps (h : Hw) (p : Nat) : List Nat := lmapGet h.clk.heldSteps p

/-- Replace the held steps. -/
def Hw.setHeld (h : Hw) (p : Nat) (l : List Nat) : Hw :=
  { h with clk := { h.clk with heldSteps := lmapSet h.clk.heldSteps p l } }

/-- Is a step in progress? -/
def Hw.slewing (h : Hw) (p : Nat) : Bool := h.is (R.SYS_TCLK_CUR_SLEWING p)

/-- The step that the generator will stand at when every requested step has completed. -/
def Hw.lastStep (h : Hw) (p : Nat) : Nat := (h.heldSteps p).getLastD (h.get (R.SYS_TCLK_CUR_STEP p))

/-- The PLL number of a partition clock generator. -/
def genPll (p : Nat) : Nat := 16 + p

/-- The generator holds lock. -/
def Hw.genLocked (h : Hw) (p : Nat) : Bool := NSet.has h.clk.locked (genPll p)

/-- The grade ceiling (R41). -/
def Hw.gradeCeil (h : Hw) : Nat := if bits h.ident.hwid.toNat 7 4 = 1 then 22 else 28

/-- A step request of one step up or down: discarded while the clock is stopped (R75) or beyond the grade (R37), held
while a step slews (R66), started otherwise (R62). -/
def Hw.stepReq (h : Hw) (p : Nat) (up : Bool) : Hw :=
  let k := h.lastStep p
  let k' := if up then k + 1 else k - 1
  if h.is (R.SYS_TCLK_CUR_STOPPED p) || !h.genLocked p || (up && decide (h.gradeCeil ≤ k)) || (!up && k == 0) then h
  else if h.slewing p then h.setHeld p (h.heldSteps p ++ [k'])
  else (h.put (R.SYS_TCLK_CUR_STEP p) k').put (R.SYS_TCLK_CUR_SLEWING p) 1

/-- STEP_COMPLETE: the slewing step of partition p completes, and a held one starts (R63, R66). -/
def Hw.stepComplete (h : Hw) (p : Nat) : Hw :=
  if !h.slewing p then h
  else
    match h.heldSteps p with
    | [] => h.put (R.SYS_TCLK_CUR_SLEWING p) 0
    | k :: ks => (h.setHeld p ks).put (R.SYS_TCLK_CUR_STEP p) k

/-- Stop TCLKp: held steps are discarded (R74, R75). -/
def Hw.clkStop (h : Hw) (p : Nat) : Hw :=
  ((h.setHeld p []).put (R.SYS_TCLK_CUR_STOPPED p) 1).put (R.SYS_TCLK_CUR_SLEWING p) 0

/-- Start TCLKp at a step; its generator locks (R720 step 2, R820), which ends the fence of its loss (R70). -/
def Hw.clkStart (h : Hw) (p step : Nat) : Hw :=
  let h := h.fenceAll (tilesOf p) .pll false
  let h := { h with clk := { h.clk with locked := NSet.add h.clk.locked (genPll p) } }
  ((h.setHeld p []).put (R.SYS_TCLK_CUR_STEP p) (min step h.gradeCeil)).put (R.SYS_TCLK_CUR_STOPPED p) 0

/-! ### Effective range (R41, R810) -/

/-- The effective ceiling. -/
def Hw.ceilEff (h : Hw) (p : Nat) : Nat :=
  min (min (h.get (R.PACE_CFG_CEIL p)) h.gradeCeil) (h.get R.THM_CAP_STAT_CAP)

/-- The effective floor. -/
def Hw.floorEff (h : Hw) (p : Nat) : Nat := min (h.get (R.PACE_CFG_FLOOR p)) (h.ceilEff p)

end Sys2Proof.Machine
end

