-- ==== Sys2Proof/Machine/Stream.lean ====
section
/-!
DEFINITION. The tile stream engine: requests, responses, the layer list and prefetch fills (chapter 12).
-/
namespace Sys2Proof.Machine

open Sys2Proof

/-! ### Responses (R634, R638, R654, R656, R662, R668) -/

/-- An error of one request: the channel's bit in TIL_SCH_ERR or TIL_LAYER.PF_ERR with their OVF bits, and the first
address (R654, R684). -/
def Tile.streamErr (t : Tile) (o : SOp) (gaddr status : Nat) : Tile :=
  let s := t.str
  let s := if s.eaddr.isNone then { s with eaddr := some gaddr, eaddrReg := gaddr } else s
  let s := if o.isFill then
      { s with pfErr := true, pfOvf := s.pfOvf || s.pfErr,
               jobErr := if s.jobErr = 0 then (if status = 2 then 3 else 1) else s.jobErr }
    else
      let w := s.err.toNat
      { s with err := BitVec.ofNat 32 (if bit w o.chan then setBit w (o.chan + 16) true else setBit w o.chan true) }
  { t with str := s }

/-- Operations that are done leave the engine (R634). -/
def Tile.retireOps (t : Tile) : Tile := (t.setOps (t.str.ops.filter (fun o => !o.done))).foldHalt

/-- Poison of byte i of a response to a request at `g`, from its flits. -/
def flitPoison (ps : List Bool) (g i : Nat) : Bool := listAt false ps ((g % 32 + i) / 32)

/-- A response, or a local answer, to request q of operation o. -/
def Tile.streamRsp (t : Tile) (o : SOp) (q : SReq) (status : Nat) (data : List Byte) (ps : List Bool) : Tile :=
  let t := if o.writesTs then
      if status = 0 ∨ status = 8 then
        t.rowWrite o q (data.take q.len) (fun i => status == 8 || flitPoison ps q.gaddr i)
      else t.tsPoisonSet q.ts q.len
    else t
  let t := if status = 0 then t else t.streamErr o q.gaddr status
  t.setOps (t.str.ops.map (fun x => if x = o then { x with out := x.out.erase q } else x))

/-- STREAM_RESPONSE: the response to a tag of tile n is taken from its NI. A write into tile-store bytes that an issued
SSTORE has not read is held (R638). -/
def Hw.streamResponse (h : Hw) (n tag : Nat) : Hw :=
  let t := h.tile n
  match t.str.ops.findSome? (fun o => (o.out.find? (fun q => q.tag == tag)).map (fun q => (o, q))) with
  | none => h
  | some (o, q) =>
    match h.takeRsp n tag with
    | none => h
    | some (a, h') =>
      if o.writesTs && t.held q.ts q.len then h
      else h'.setTile n (t.streamRsp o q a.status a.data a.poison).retireOps

/-! ### Requests (R635, R636, R649) -/

/-- An operation may send its next request: an SSIGNAL waits for every older SSTORE (R616). -/
def sendable (older : List SOp) (o : SOp) : Bool :=
  o.ready && (!o.padded || o.next?.isSome) && (o.kind != .signal || !(older.any (fun x => x.kind == .store)))

/-- Operations that may send, oldest first. -/
def Tile.sendables (t : Tile) : List SOp :=
  ((List.range t.str.ops.length).zip t.str.ops).filterMap (fun e =>
    if sendable (t.str.ops.take e.1) e.2 then some e.2 else none)

/-- TIL_SCH_PRIO of a channel. -/
def Tile.chanPrio (t : Tile) (c : Nat) : Nat := bits t.str.prio.toNat (2 * c + 1) (2 * c)

/-- The operation served next: the oldest fill, or round-robin over the channels of the highest priority with work
(R636). Which of the two the engine serves is the environment's choice. -/
def Tile.pickOp (t : Tile) (fill : Bool) : Option SOp :=
  let l := t.sendables
  if fill then
    l.find? (fun o => o.isFill && (!t.str.stopped || o.padded))
  else
    let l := l.filter (fun o => !o.isFill)
    let top := l.foldl (fun m o => max m (t.chanPrio o.chan)) 0
    let l := l.filter (fun o => t.chanPrio o.chan == top)
    let order := (List.range 16).map (fun i => (t.str.last + 1 + i) % 16)
    order.findSome? (fun c => l.find? (fun o => o.chan == c))

/-- Data and poison an SSTORE or SSIGNAL request carries. -/
def Tile.storeData (t : Tile) (o : SOp) (q : SReq) : List Byte × List Bool :=
  if o.kind = .signal then (leBytes 8 o.val, [false])
  else
    (t.tsRead q.ts q.len,
     (granules 32 q.gaddr q.len).map (fun l =>
        (List.range 32).any (fun i =>
          decide (q.gaddr ≤ 32 * l + i ∧ 32 * l + i < q.gaddr + q.len) &&
          t.tsPoison (q.ts + (32 * l + i - q.gaddr)) 1)))

/-- Replace an operation. -/
def Tile.putOp (t : Tile) (o o' : SOp) : Tile := t.setOps (t.str.ops.map (fun x => if x = o then o' else x))

/-- STREAM_REQUEST: the engine of tile n writes the zero bits of a box (R649), or sends the next request. -/
def Hw.streamRequest (h : Hw) (n : Nat) (fill : Bool) : Hw :=
  let t := h.tile n
  match t.pickOp fill with
  | none => h
  | some o =>
    let t := { t with str := { t.str with last := if fill then t.str.last else o.chan } }
    if !o.padded then
      if dInside o.desc then h.setTile n ((t.putOp o { o with padded := true }).retireOps)
      else if t.held o.ts (dLast o.desc o.ts + 1 - o.ts) then h
      else h.setTile n (((t.pad o.desc o.ts).putOp o { o with padded := true }).retireOps)
    else
      match o.next? with
      | none => h
      | some (q, r, off) =>
        let wr := o.kind == .store || o.kind == .signal
        match h.niCheck n q.gaddr q.len (some (partOf n)) with
        | (some s, h) =>
          let o' := { o with row := r, off := off, out := o.out ++ [q] }
          h.setTile n ((t.putOp o o').streamRsp o' q s [] []).retireOps
        | (none, h) =>
          if !h.tagFree n then h
          else
            let d := if wr then t.storeData o q else ([], [])
            let s := h.niSend n (if wr then 2 else 1) q.gaddr q.len (h.prioOf n) d.1 d.2
            s.2.setTile n (t.putOp o { o with row := r, off := off, out := o.out ++ [{ q with tag := s.1 }] })

/-! ### The layer list (R658-R661, R667) -/

/-- A read by the tile's engine itself: isolation and the network apply, the data comes within the step. `far` is what
another seat answers to a read of its memory; another length than the request's stands for an error response. -/
def Hw.engineRead (h : Hw) (n a len : Nat) (far : List Byte) : Nat × List Byte × Bool × Hw :=
  match h.niCheck n a len (some (partOf n)) with
  | (some s, h) => (s, [], false, h)
  | (none, h) =>
    let s := h.gStatus a len false
    if s = 0 then let r := h.gGet a len; (0, r.1, r.2.1.any (fun b => b), r.2.2)
    else if s = 4 ∧ far.length = len then (0, far, false, h)
    else if s = 4 then (1, [], false, h)
    else (s, [], false, h)

/-- A fill of the layer list whose descriptor has not been read. -/
def listFill (daddr ts : Nat) : SOp where
  kind := .fill
  chan := 0
  desc := List.replicate 16 0
  daddr := daddr
  ready := false
  ts := ts
  val := 0
  padded := false
  row := 0
  off := 0
  out := []

/-- A read of the list or of a descriptor failed with an error response: the whole shadow half is poisoned, since no
extent can be formed (R654, R659). -/
def Tile.fillFail (t : Tile) (addr status : Nat) : Tile :=
  (t.tsPoisonSet 0x30000 0x10000).streamErr (listFill 0 0x30000) addr status

/-- A breach that an X slot would raise as a fault: the box's lines in the shadow half, or all of it, are poisoned and
PF_ERR is set (R659). No address is recorded, since no request failed (R654). -/
def Tile.fillBreach (t : Tile) (lo hi : Nat) : Tile :=
  let a := max lo 0x30000
  let b := min hi 0x40000
  let t := if a < b then t.tsPoisonSet a (b - a) else t
  { t with str := { t.str with pfErr := true, pfOvf := t.str.pfOvf || t.str.pfErr } }

/-- LAYER_LIST_READ: the engine of tile n reads the next entry as queue space frees (R660, R661). An entry with END set
and DESC 0 names no box; END ends the layer as LAST does (DEDUCED, assumption 41). -/
def Hw.layerListRead (h : Hw) (n : Nat) (far : List Byte) : Hw :=
  let t := h.tile n
  if !t.str.walking || t.str.stopped || decide (16 ≤ t.fills.length) then h
  else
    let a := t.str.next
    match h.engineRead n a 16 far with
    | (3, _, _, _) => h
    | (0, bs, false, h) =>
      let desc := leAt bs 0 8
      let ts := leAt bs 8 4
      let fl := leAt bs 12 2
      let s := { t.str with next := (a + 16) % 2 ^ 48, walking := !bit fl 0 && !bit fl 1,
                            ended := t.str.ended || bit fl 1 }
      let t := { t with str := s }
      if bit fl 1 ∧ desc = 0 then h.setTile n t
      else if decide (4 ≤ fl) || leAt bs 14 2 != 0 || desc % 128 != 0 || decide (2 ^ 48 ≤ desc) ||
          ts % 32 != 0 || decide (ts < 0x30000 ∨ 0x40000 ≤ ts) then
        h.setTile n (t.fillBreach 0x30000 0x40000)
      else
        h.setTile n (t.setOps (t.str.ops ++ [listFill desc ts]))
    | (s, _, _, h) =>
      h.setTile n (Tile.fillFail { t with str := { t.str with walking := false, ended := true } } a s)

/-- PREFETCH_FILL: the oldest fill of the list whose descriptor is unread reads it and is checked as an X slot is
(R659). -/
def Hw.prefetchFill (h : Hw) (n : Nat) (far : List Byte) : Hw :=
  let t := h.tile n
  match t.str.ops.find? (fun o => o.kind == .fill && !o.ready) with
  | none => h
  | some o =>
    if t.str.stopped then h
    else
      let drop (t : Tile) : Tile := (t.setOps (t.str.ops.erase o)).foldHalt
      match h.engineRead n o.daddr 128 far with
      | (3, _, _, _) => h
        | (0, bs, bad, h) =>
        let d := (List.range 16).map (fun w => leAt bs (8 * w) 8)
        let p := partOf n
        let sh : Shares := ⟨h.is (R.PACE_BW_MODE p), h.get (R.PACE_BW_READ p), h.get (R.PACE_BW_WRITE p),
          h.get (R.PACE_BW_REMOTE p)⟩
        if bad then h.setTile n (drop (t.fillBreach 0x30000 0x40000))
        else
          match xCheck .spref d o.ts 0 h.seat sh with
          | none => h.setTile n (t.putOp o { o with desc := d, ready := true })
          | some _ =>
            let ok := dValid d && dPacked d && dStrides d && decide (dLast d o.ts < tsSize)
            if ok then h.setTile n (drop (t.fillBreach o.ts (dLast d o.ts + 1)))
            else h.setTile n (drop (t.fillBreach 0x30000 0x40000))
      | (s, _, _, h) => h.setTile n (drop (t.fillFail o.daddr s))

end Sys2Proof.Machine
end

