-- ==== Sys2Proof/Machine/TileWindow.lean ====
section
/-!
DEFINITION. The tile control window: its registers and images, and how accesses reach them (R570-R581, R686).
-/
namespace Sys2Proof.Machine

open Sys2Proof

/-! ### TIL_CTL and TIL_SEED -/

/-- A write of TIL_CTL.RUN: a tile HALTED or FAULTED runs from TIL_PC (R578). -/
def Tile.ctlRun (t : Tile) : Tile :=
  if t.running then t else ({ t with ctl := { t.ctl with ckStop := false, arrived := none } } : Tile).start

/-- A write of TIL_CTL.STEP: one word runs, then the tile halts (R578). -/
def Tile.ctlStep (t : Tile) : Tile :=
  if t.running then t
  else
    let t := t.ctlRun
    { t with ctl := { t.ctl with step := true } }

/-- A write of TIL_CTL.HALT halts a tile in RUN at a word boundary with HALT_WHY = 2 (R563, R568). -/
def Tile.ctlHalt (t : Tile) : Tile :=
  if t.running then ({ t with ctl := { t.ctl with arrived := none } } : Tile).halt 2 else t

/-- A write of TIL_CTL: TEN and BKEN, then HALT, STEP or RUN. -/
def Tile.ctlWrite (t : Tile) (v : Nat) : Tile :=
  let t := { t with ctl := { t.ctl with ten := bit v 8, bken := bit v 9 } }
  if t.running then (if bit v 1 then t.ctlHalt else t)
  else if bit v 2 then t.ctlStep
  else if bit v 0 then t.ctlRun
  else t

/-- TIL_STAT (R577). -/
def Tile.stat (t : Tile) : Nat :=
  (match t.ctl.st with | .halted => 0 | .run => 1 | .faulted => 2) + 4 * b2n t.ctl.intrap +
    16 * min 2 t.mxu.length + 256 * t.ctl.why

/-- TIL_SCH_BUSY (R686). -/
def Tile.schBusy (t : Tile) : Nat :=
  maskOf ((List.range 16).filter (fun c => !(t.chanOps c).isEmpty)) + 65536 * min 16 t.fills.length

/-- TIL_LAYER (R686). -/
def Tile.layerReg (t : Tile) : Nat :=
  t.str.num % 65536 + 65536 * b2n t.str.map + 131072 * b2n t.filled + 2 ^ 24 * b2n t.str.pfErr +
    2 ^ 25 * b2n t.str.pfOvf

/-- Half `k` (0 low, 1 high) of a 64-bit value. -/
def half (v k : Nat) : Nat := v / 2 ^ (32 * k) % 2 ^ 32

/-- `v` with half `k` replaced. -/
def setHalf (v k x : Nat) : Nat := setBits v (32 * k + 31) (32 * k) x

/-- The 32-bit word of the window at offset `o`; unassigned offsets read 0 (R15). -/
def Tile.winRd (t : Tile) (o : Nat) : Nat :=
  if o < 0x100 then
    match o with
    | 0x000 => t.stat
    | 0x004 => 256 * b2n t.ctl.ten + 512 * b2n t.ctl.bken
    | 0x008 => t.ctl.pc % 1024
    | 0x00C => t.ctl.tvec
    | 0x010 => t.ctl.epc
    | 0x014 => t.ctl.cause.toNat
    | 0x018 => half t.ctl.eval.toNat 0
    | 0x01C => half t.ctl.eval.toNat 1
    | 0x020 => t.ctl.flags.toNat
    | 0x024 => t.ctl.seed.toNat
    | 0x028 => t.ctl.bkpt
    | 0x030 => t.ctl.cntRun.toNat
    | 0x034 => t.ctl.cntSstall.toNat
    | 0x038 => t.ctl.cntOstall.toNat
    | 0x03C => t.ctl.cntWords.toNat
    | 0x040 => t.schBusy
    | 0x044 => t.str.err.toNat
    | 0x048 => t.str.prio.toNat
    | 0x04C => t.layerReg
    | 0x050 => half t.str.llist 0
    | 0x054 => half t.str.llist 1
    | 0x058 => half t.str.eaddrReg 0
    | 0x05C => half t.str.eaddrReg 1
    | _ => 0
  else if o < 0x200 then half (t.g ((o - 0x100) / 8)) (o % 8 / 4)
  else if o = 0x200 then 1 + maskOf ((List.range 8).filter (fun n => n != 0 && t.p n))
  else if 0x300 ≤ o ∧ o < 0x380 then half (t.m ((o - 0x300) / 8)) (o % 8 / 4)
  else if 0x800 ≤ o ∧ o < 0x1000 then
    half (t.dw ((o - 0x800) / 0x80) (o % 0x80 / 8)) (o % 8 / 4)
  else if 0x1000 ≤ o ∧ o < 0x2000 then t.v ((o - 0x1000) / 0x80) / 2 ^ (8 * (o % 0x80)) % 2 ^ 32
  else 0

/-- A clear of TIL_SCH_ERR or PF_ERR lets TIL_SCH_EADDR take a new address once every error bit reads 0 (R684). -/
def Tile.eaddrFree (t : Tile) : Tile :=
  if t.str.err.toNat % 65536 = 0 ∧ ¬ t.str.pfErr then { t with str := { t.str with eaddr := none } } else t

/-- A write of the window word at offset `o` (R576-R581, R603, R686); RO words and unassigned offsets take nothing. -/
def Tile.winWr (t : Tile) (o v : Nat) : Tile :=
  let w := BitVec.ofNat 32 v
  let c := t.ctl
  let s := t.str
  if o < 0x100 then
    match o with
    | 0x004 => t.ctlWrite v
    | 0x008 => if t.running then t else { t with ctl := { c with pc := v % 1024 } }
    | 0x00C => { t with ctl := { c with tvec := v % 1024 } }
    | 0x010 => { t with ctl := { c with epc := v % 1024 } }
    | 0x014 =>
      let slot := if bits v 10 8 = 6 then bits c.cause.toNat 10 8 else bits v 10 8
      { t with ctl := { c with cause := BitVec.ofNat 32 (bits v 7 0 + 256 * slot + 65536 * bits v 31 16) } }
    | 0x018 => { t with ctl := { c with eval := BitVec.ofNat 64 (setHalf c.eval.toNat 0 v) } }
    | 0x01C => { t with ctl := { c with eval := BitVec.ofNat 64 (setHalf c.eval.toNat 1 v) } }
    | 0x020 => { t with ctl := { c with flags := c.flags &&& ~~~ w } }
    | 0x024 => t.loadSeed v
    | 0x028 => { t with ctl := { c with bkpt := v % 1024 } }
    | 0x030 => { t with ctl := { c with cntRun := w } }
    | 0x034 => { t with ctl := { c with cntSstall := w } }
    | 0x038 => { t with ctl := { c with cntOstall := w } }
    | 0x03C => { t with ctl := { c with cntWords := w } }
    | 0x044 => ({ t with str := { s with err := s.err &&& ~~~ w } } : Tile).eaddrFree
    | 0x048 => { t with str := { s with prio := w } }
    | 0x04C => ({ t with str := { s with pfErr := s.pfErr && !bit v 24, pfOvf := s.pfOvf && !bit v 25 } } : Tile).eaddrFree
    | 0x050 => { t with str := { s with llist := setHalf s.llist 0 (v / 16 * 16) } }
    | 0x054 => { t with str := { s with llist := setHalf s.llist 1 (v % 65536) } }
    | _ => t
  else if o < 0x200 then
    let n := (o - 0x100) / 8
    t.setG n (setHalf (t.g n) (o % 8 / 4) v)
  else if o = 0x200 then (List.range 8).foldl (fun t n => t.setP n (bit v n)) t
  else if 0x300 ≤ o ∧ o < 0x380 then
    let n := (o - 0x300) / 8
    t.setM n (setHalf (t.m n) (o % 8 / 4) v)
  else if 0x800 ≤ o ∧ o < 0x1000 then
    let n := (o - 0x800) / 0x80
    let k := o % 0x80 / 8
    t.setDw n k (setHalf (t.dw n k) (o % 8 / 4) v)
  else if 0x1000 ≤ o ∧ o < 0x2000 then
    let n := (o - 0x1000) / 0x80
    t.setV n (setBits (t.v n) (8 * (o % 0x80) + 31) (8 * (o % 0x80)) v)
  else t

/-- The 64-bit quantities of the window that R19 and R20 rule, the registers g_n and m_n among them (R576): offset of the
low word. -/
def winPair (o : Nat) : Option Nat :=
  if o = 0x018 ∨ o = 0x01C then some 0x018
  else if o = 0x050 ∨ o = 0x054 then some 0x050
  else if o = 0x058 ∨ o = 0x05C then some 0x058
  else if (0x100 ≤ o ∧ o < 0x200) ∨ (0x300 ≤ o ∧ o < 0x380) then some (o / 8 * 8)
  else none

/-- Key of a window word in the latch and hold maps. -/
def winKey (t o : Nat) : Nat := 2 ^ 32 + t * 0x10000 + o

/-- Does an access to the window fail (R18, R25, R571-R573)? -/
def Hw.winRefused (h : Hw) (t o len : Nat) (wr : Bool) : Bool :=
  o % 4 != 0 || len != 4 || !h.tileClk (partOf t) ||
    ((h.tile t).running && (decide (0x100 ≤ o) || (wr && o == 0x024)))

/-- The word latched by a read of the low word at key `k`, if any (R19). -/
def Hw.latched (h : Hw) (k : Nat) : Option Word := SMap.get (fun _ => none) h.latch k

/-- Latch the high word of a pair. -/
def Hw.latchAt (h : Hw) (k v : Nat) : Hw :=
  { h with latch := SMap.set (fun _ => none) h.latch k (some (BitVec.ofNat 32 v)) }

/-- The low word written at key `k` and not yet in effect (R20). -/
def Hw.heldLow (h : Hw) (k : Nat) : Option Word := SMap.get (fun _ => none) h.lowHold k

/-- Hold a low word, or drop it. -/
def Hw.holdLow (h : Hw) (k : Nat) (v : Option Word) : Hw :=
  { h with lowHold := SMap.set (fun _ => none) h.lowHold k v }

/-- A read of a window word: the low word of a pair latches its high word (R19). -/
def Hw.winRead (h : Hw) (t o : Nat) : Nat × Hw :=
  let x := h.tile t
  match winPair o with
  | some lo =>
    if o = lo then (x.winRd o, h.latchAt (winKey t lo) (x.winRd (lo + 4)))
    else (((h.latched (winKey t lo)).map BitVec.toNat).getD (x.winRd o), h)
  | none => (x.winRd o, h)

/-- A write of a window word: a pair takes effect with its high word (R20). -/
def Hw.winWrite (h : Hw) (t o v : Nat) : Hw :=
  match winPair o with
  | some lo =>
    if o = lo then h.holdLow (winKey t lo) (some (BitVec.ofNat 32 v))
    else
      let l := ((h.heldLow (winKey t lo)).map BitVec.toNat).getD ((h.tile t).winRd lo)
      (h.onTile t (fun x => (x.winWr lo l).winWr (lo + 4) v)).holdLow (winKey t lo) none
  | none => h.onTile t (fun x => x.winWr o v)

end Sys2Proof.Machine
end

