-- ==== Sys2Proof/Machine/Command.lean ====
section
/-!
DEFINITION. Commands in flight: the units that order them (R365-R367) and their host data (R372, R373).
-/
namespace Sys2Proof.Machine

open Sys2Proof

/-- The partition that a group 0x01 command names (R403). -/
def InFlight.part (f : InFlight) : Nat := if f.mb < 16 then f.mb else f.par 0 1

/-- The units a command names (R366): partition p is p; 16 configuration engine and flash; 17 sensor front end;
18 raster unit and display; 19 classification table; 20 + port Ethernet ports; 30 table unit; 31 MRAM;
32 + k signal cores. -/
def InFlight.units (f : InFlight) : List Nat :=
  let op := f.opcode
  if 0x0100 ≤ op ∧ op ≤ 0x0107 then (if f.part < 16 then [f.part] else [])
  else if 0x0010 ≤ op ∧ op ≤ 0x0014 then [16]
  else if 0x0200 ≤ op ∧ op ≤ 0x0202 then [17]
  else if 0x0300 ≤ op ∧ op ≤ 0x0302 then (bitList 16 (f.par 0 2)).map (fun k => 32 + k)
  else if 0x0400 ≤ op ∧ op ≤ 0x0402 then [18]
  else if op = 0x0501 then [19]
  else if 0x0500 ≤ op ∧ op ≤ 0x0504 then (if f.par 0 1 < 2 then [20 + f.par 0 1] else [])
  else if op = 0x0601 ∨ op = 0x0602 ∨ (op = 0x0603 ∧ f.par 0 1 = 1) then [30]
  else if 0x0701 ≤ op ∧ op ≤ 0x0703 then [31]
  else []

/-- A command may start: FENCE waits for every earlier command of its mailbox (R365), and commands on one unit run in
take order (R366). -/
def Hw.mayStart (h : Hw) (f : InFlight) : Bool :=
  !f.started && !(h.mbx.infl.any (fun g => decide (g.seq < f.seq) &&
    ((f.fence && g.mb == f.mb) || g.units.any (fun u => f.units.contains u))))

/-- The command that a command row acts on: in flight under (m, k), of the opcode, and free to start. -/
def Hw.cmdFor (h : Hw) (m k op : Nat) : Option InFlight :=
  match h.cmd? m k with
  | some f => if f.opcode == op && h.mayStart f then some f else none
  | none => none

/-- Run a command row: without the command it names, nothing happens. -/
def Hw.onCmd (h : Hw) (m k op : Nat) (f : InFlight → Hw) : Hw :=
  match h.cmdFor m k op with
  | some c => f c
  | none => h

/-- Complete a command with WRONG_STATE. -/
def Hw.wrongState (h : Hw) (m k d : Nat) : Hw := h.complete m k stWRONG_STATE d 0

/-- Complete a command with BAD_PARAM at a parameter offset. -/
def Hw.badParam (h : Hw) (m k o : Nat) : Hw := h.complete m k stBAD_PARAM o 0

/-- Until the fabric is released, commands of groups 0x01, 0x04 and 0x06 other than the status ones complete
WRONG_STATE with the configuration engine's state (R1237). -/
def Hw.whenReleased (h : Hw) (m k : Nat) (x : Hw) : Hw :=
  if h.is R.CFG_STAT_RELEASED then x else h.wrongState m k (h.get R.CFG_STAT_STATE)

/-- The host DMA engine a command holds. -/
def Hw.engine (h : Hw) (m k : Nat) : Option DmaEng := h.pcie.engines.find? (fun e => e.mb == m && e.hd == k)

/-- The host data of a command, once all of it has arrived. -/
def Hw.hostData (h : Hw) (m k : Nat) : Option (List Byte) :=
  match h.engine m k with
  | some e => if e.rd && e.got.length == e.len then some e.got else none
  | none => none

/-- A command writes bytes to its host buffer through its engine; without an engine it waits (R372). -/
def Hw.hostReady (h : Hw) (m k : Nat) : Bool :=
  match h.engine m k with
  | some e => !e.rd
  | none => false

end Sys2Proof.Machine
end

