-- ==== Sys2Proof/Machine/HostDma.lean ====
section
/-!
DEFINITION. Data between commands and host memory (R372, R1072, R1082, R1083).
-/
namespace Sys2Proof.Machine

open Sys2Proof

/-- A command's host data, where a LEN of 0 needs no engine. -/
def Hw.hostIn (h : Hw) (m k len : Nat) : Option (List Byte) :=
  if len = 0 then some [] else h.hostData m k

/-- May a command write `n` bytes to its host buffer? -/
def Hw.hostOutReady (h : Hw) (m k n : Nat) : Bool := n == 0 || h.hostReady m k

/-- A command's engine writes bytes from the start of its host buffer, in memory writes of at most Max_Payload_Size that
cross no 4 KiB boundary (R1070); while the link is down they are discarded (R1082). -/
def Hw.hostOut (h : Hw) (m k : Nat) (bs : List Byte) : Hw :=
  match h.engine m k with
  | some e =>
    let fn := dmaFn m
    let n := min bs.length e.len
    let ws := (chunks (h.maxPayload fn) 4096 n e.addr n).map (fun c => (fn, c.1, c.2))
    if h.linkUp then ({ h with pcie := { h.pcie with posted := ws } } : Hw).hostW e.addr (bs.take e.len) else h
  | none => h

end Sys2Proof.Machine
end

