-- ==== Sys2Proof/Machine/Crypto.lean ====
section
/-!
DEFINITION. The named algorithms of image and firmware checks: SHA-384 (FIPS 180-4), AES-256 and GCM (FIPS 197,
SP 800-38D) and ECDSA P-384 (FIPS 186-5), as R211, R213, R214, R417 name them (assumption 8).
-/
namespace Sys2Proof.Machine

/-! ### SHA-384 -/

/-- The 80 round constants, five to a number. -/
def shaK : List Nat :=
  [0x3956C25BF348B538E9B5DBA58189DBBCB5C0FBCFEC4D3B2F7137449123EF65CD428A2F98D728AE22,
   0x12835B0145706FBED807AA98A3030242AB1C5ED5DA6D8118923F82A4AF194F9B59F111F1B605D019,
   0x9BDC06A725C7123580DEB1FE3B1696B172BE5D74F27B896F550C7DC3D5FFB4E2243185BE4EE4B28C,
   0x240CA1CC77AC9C650FC19DC68B8CD5B5EFBE4786384F25E3E49B69C19EF14AD2C19BF174CF692694,
   0x983E5152EE66DFAB76F988DA831153B55CB0A9DCBD41FBD44A7484AA6EA6E4832DE92C6F592B0275,
   0xD5A79147930AA725C6E00BF33DA88FC2BF597FC7BEEF0EE4B00327C898FB213FA831C66D2DB43210,
   0x4D2C6DFC5AC42AED2E1B21385C26C92627B70A8546D22FFC142929670A0E6E7006CA6351E003826F,
   0x92722C851482353B81C2C92E47EDAEE6766A0ABB3C77B2A8650A73548BAF63DE53380D139D95B3DF,
   0xD192E819D6EF5218C76C51A30654BE30C24B8B70D0F89791A81A664BBC423001A2BFE8A14CF10364,
   0x1E376C085141AB5319A4C116B8D2D0C8106AA07032BBD1B8F40E35855771202AD69906245565A910,
   0x5B9CCA4F7763E3734ED8AA4AE3418ACB391C0CB3C5C95A6334B0BCB5E19B48A82748774CDF8EEB99,
   0x8CC702081A6439EC84C87814A1F0AB7278A5636F43172F60748F82EE5DEFB2FC682E6FF3D6B2B8A3,
   0xCA273ECEEA26619CC67178F2E372532BBEF9A3F7B2C67915A4506CEBDE82BDE990BEFFFA23631E28,
   0xA637DC5A2C898A606F067AA72176FBAF57D4F7FEE6ED178EADA7DD6CDE0EB1ED186B8C721C0C207,
   0x3C9EBE0A15C9BEBC32CAAB7B40C7249328DB77F523047D841B710B35131C471B113F9804BEF90DAE,
   0x6C44198C4A4758175FCB6FAB3AD6FAEC597F299CFC657E2A4CC5D4BECB3E42B6431D67C49C100D4C]

/-- Round constant `t`. -/
def shaKat (t : Nat) : Nat := (shaK.getD (t / 5) 0) / 2 ^ (64 * (t % 5)) % 2 ^ 64

/-- Initial hash values. -/
def sha384Init : List Nat :=
  [0xCBBB9D5DC1059ED8,
   0x629A292A367CD507,
   0x9159015A3070DD17,
   0x152FECD8F70E5939,
   0x67332667FFC00B31,
   0x8EB44A8768581511,
   0xDB0C2E0D64F98FA7,
   0x47B5481DBEFA4FA4]

/-- Rotate right, 64 bits. -/
def ror64 (x n : Nat) : Nat := x / 2 ^ n + x % 2 ^ n * 2 ^ (64 - n)

/-- Bitwise complement, 64 bits. -/
def not64 (x : Nat) : Nat := 2 ^ 64 - 1 - x

/-- A word of the message schedule from those before it, newest first. -/
def shaNext (w : List Nat) : Nat :=
  let a := w.getD 1 0
  let b := w.getD 14 0
  let s1 := ror64 a 19 ^^^ ror64 a 61 ^^^ (a / 2 ^ 6)
  let s0 := ror64 b 1 ^^^ ror64 b 8 ^^^ (b / 2 ^ 7)
  (s1 + w.getD 6 0 + s0 + w.getD 15 0) % 2 ^ 64

/-- The message schedule, newest first. -/
def shaSchedule : Nat → List Nat → List Nat
  | 0, w => w
  | n + 1, w => shaSchedule n (shaNext w :: w)

/-- One round on (a, b, c, d, e, f, g, h). -/
def shaRound (v : List Nat) (kw : Nat) : List Nat :=
  match v with
  | [a, b, c, d, e, f, g, h] =>
    let s1 := ror64 e 14 ^^^ ror64 e 18 ^^^ ror64 e 41
    let ch := (e &&& f) ^^^ (not64 e &&& g)
    let t1 := h + s1 + ch + kw
    let s0 := ror64 a 28 ^^^ ror64 a 34 ^^^ ror64 a 39
    let mj := (a &&& b) ^^^ (a &&& c) ^^^ (b &&& c)
    [(t1 + s0 + mj) % 2 ^ 64, a, b, c, (d + t1) % 2 ^ 64, e, f, g]
  | _ => v

/-- One 128-byte block. -/
def shaBlock (h : List Nat) (b : List (BitVec 8)) : List Nat :=
  let w := (List.range 16).map (fun i => ofBe ((b.drop (8 * i)).take 8))
  let ws := (shaSchedule 64 w.reverse).reverse
  let v := ((List.range 80).zip ws).foldl (fun v e => shaRound v (shaKat e.1 + e.2)) h
  (h.zip v).map (fun e => (e.1 + e.2) % 2 ^ 64)

/-- Hash block by block. -/
def shaBlocks : Nat → List Nat → List (BitVec 8) → List Nat
  | 0, h, _ => h
  | n + 1, h, b => shaBlocks n (shaBlock h (b.take 128)) (b.drop 128)

/-- SHA-384 of a byte string. -/
def sha384 (m : List (BitVec 8)) : List (BitVec 8) :=
  let p := m ++ [0x80] ++ List.replicate ((239 - m.length % 128) % 128) 0 ++ beBytes 16 (8 * m.length)
  (((shaBlocks (p.length / 128) sha384Init p).take 6).map (beBytes 8)).flatten

/-! ### AES-256 -/

/-- The S-box, 32 entries to a number. -/
def aesBox : List Nat :=
  [0xC072A49CAFA2D4ADF04759FA7DC982CA76ABD7FE2B670130C56F6BF27B777C63,
   0x75B227EBE28012079A059618C323C7041531D871F1E5A534CCF73F362693FDB7,
   0xCF584C4A39BECB6A5BB1FC20ED00D153842FE329B3D63B52A05A6E1B1A2C8309,
   0xD2F3FF1021DAB6BCF5389D928F40A351A89F3C507F02F94585334D43FBAAEFD0,
   0xDB0B5EDE14B8EE4688902A22DC4F816073195D643D7EA7C41744975FEC130CCD,
   0x8AE7A65EAF4566CA94ED58D6D37C8E779E4959162ACD3C25C2406490A3A32E0,
   0x9E1DC186B95735610EF6034866B53E708A8BBD4B1F74DDE8C6B4A61C2E2578BA,
   0x16BB54B00F2D99416842E6BF0D89A18CDF2855CEE9871E9B948ED9691198F8E1]

/-- SubBytes of one byte. -/
def sbox (x : Nat) : Nat := (aesBox.getD (x / 32) 0) / 2 ^ (8 * (x % 32)) % 256

/-- Doubling in GF(2^8) with the AES polynomial. -/
def xtime (a : Nat) : Nat := let d := 2 * a; if 256 ≤ d then d ^^^ 0x11B else d

/-- Words (4 bytes) of the key schedule, newest first. -/
def aesKeys : Nat → Nat → List (List Nat) → List (List Nat)
  | 0, _, w => w
  | n + 1, rc, w =>
    let i := w.length
    let p := w.getD 0 []
    let t := if i % 8 = 0 then
        match p.map sbox with
        | [a, b, c, d] => [b ^^^ rc, c, d, a]
        | x => x
      else if i % 8 = 4 then p.map sbox else p
    let q := (t.zip (w.getD 7 [])).map (fun e => e.1 ^^^ e.2)
    aesKeys n (if i % 8 = 0 then xtime rc else rc) (q :: w)

/-- The 15 round keys of a 32-byte key. -/
def aesRoundKeys (key : List (BitVec 8)) : List (List Nat) :=
  let k := key.map (fun b => b.toNat)
  let w := (aesKeys 52 1 ((List.range 8).map (fun i => (k.drop (4 * i)).take 4)).reverse).reverse
  (List.range 15).map (fun r => ((w.drop (4 * r)).take 4).flatten)

/-- ShiftRows on 16 bytes in column order. -/
def shiftRows (s : List Nat) : List Nat :=
  (List.range 16).map (fun i => s.getD ((4 * (i / 4 + i % 4) + i % 4) % 16) 0)

/-- MixColumns of one column. -/
def mixCol (c : List Nat) : List Nat :=
  match c with
  | [a, b, d, e] =>
    let x2 := xtime
    let x3 (v : Nat) := xtime v ^^^ v
    [x2 a ^^^ x3 b ^^^ d ^^^ e, a ^^^ x2 b ^^^ x3 d ^^^ e, a ^^^ b ^^^ x2 d ^^^ x3 e, x3 a ^^^ b ^^^ d ^^^ x2 e]
  | x => x

/-- Exclusive or of byte lists. -/
def xorBytes (a b : List Nat) : List Nat := (a.zip b).map (fun e => e.1 ^^^ e.2)

/-- AES-256 of one block. -/
def aesBlock (keys : List (List Nat)) (b : List Nat) : List Nat :=
  let s := xorBytes b (keys.getD 0 [])
  let s := (List.range 13).foldl (fun s r =>
    let s := shiftRows (s.map sbox)
    let s := ((List.range 4).map (fun c => mixCol ((s.drop (4 * c)).take 4))).flatten
    xorBytes s (keys.getD (r + 1) [])) s
  xorBytes (shiftRows (s.map sbox)) (keys.getD 14 [])

/-! ### GCM -/

/-- Product in GF(2^128) of GCM; bit 127 of a number is the field's first bit. -/
def gcmMul : Nat → Nat → Nat → Nat → Nat
  | 0, _, _, z => z
  | n + 1, x, v, z =>
    gcmMul n x (if v % 2 = 1 then v / 2 ^^^ 0xE1000000000000000000000000000000 else v / 2)
      (if bit x n then z ^^^ v else z)

/-- A byte list padded to whole 16-byte blocks, as numbers. -/
def gcmBlocks (bs : List (BitVec 8)) : List Nat :=
  (List.range ((bs.length + 15) / 16)).map (fun i =>
    let b := (bs.drop (16 * i)).take 16
    ofBe (b ++ List.replicate (16 - b.length) 0))

/-- AES block of a number, as a number. -/
def aesNat (keys : List (List Nat)) (v : Nat) : Nat :=
  ofBe ((aesBlock keys ((beBytes 16 v).map (fun b => b.toNat))).map (fun x => BitVec.ofNat 8 x))

/-- The keystream block of counter `i` under a 96-bit IV. -/
def gcmStream (keys : List (List Nat)) (iv : List (BitVec 8)) (i : Nat) : Nat := aesNat keys (ofBe iv * 2 ^ 32 + i)

/-- The GCM tag. -/
def gcmTag (key iv aad ct : List (BitVec 8)) : List (BitVec 8) :=
  let ks := aesRoundKeys key
  let hk := aesNat ks 0
  let s := (gcmBlocks aad ++ gcmBlocks ct ++ [8 * aad.length * 2 ^ 64 + 8 * ct.length]).foldl
    (fun y b => gcmMul 128 (y ^^^ b) hk 0) 0
  beBytes 16 (s ^^^ gcmStream ks iv 1)

/-- The four bytes of plaintext at body offset `pos` (a multiple of 4). -/
def gcmWord (key iv : List (BitVec 8)) (pos : Nat) (ct : List (BitVec 8)) : List (BitVec 8) :=
  let k := beBytes 16 (gcmStream (aesRoundKeys key) iv (2 + pos / 16))
  (ct.zip (k.drop (pos % 16))).map (fun e => e.1 ^^^ e.2)

/-! ### ECDSA P-384 -/

/-- Field prime, order and curve coefficient b, base point (FIPS 186-5, SP 800-186). -/
def p384 : Nat := 2 ^ 384 - 2 ^ 128 - 2 ^ 96 + 2 ^ 32 - 1
def n384 : Nat :=
  0xFFFFFFFFFFFFFFFFFFFFFFFFFFFFFFFFFFFFFFFFFFFFFFFFC7634D81F4372DDF581A0DB248B0A77AECEC196ACCC52973
def b384 : Nat :=
  0xB3312FA7E23EE7E4988E056BE3F82D19181D9C6EFE8141120314088F5013875AC656398D8A2ED19D2A85C8EDD3EC2AEF
def gx384 : Nat :=
  0xAA87CA22BE8B05378EB1C71EF320AD746E1D3B628BA79B9859F741E082542A385502F25DBF55296C3A545E3872760AB7
def gy384 : Nat :=
  0x3617DE4A96262C6F5D9E98BF9292DC29F8F41DBD289A147CE9DA3113B5F0B8C00A60B1CE1D7E819D7A431D7C90EA0E5F

/-- Power modulo `m`, over `n` bits of the exponent. -/
def powMod (m b e : Nat) : Nat → Nat
  | 0 => 1 % m
  | n + 1 =>
    let h := powMod m b (e / 2) n
    let s := h * h % m
    if e % 2 = 1 then s * b % m else s

/-- Inverse modulo a prime. -/
def invMod (m a : Nat) : Nat := powMod m a (m - 2) 384

/-- Sum of two points; none is the point at infinity. -/
def ecAdd : Option (Nat × Nat) → Option (Nat × Nat) → Option (Nat × Nat)
  | none, q => q
  | p, none => p
  | some (x1, y1), some (x2, y2) =>
    if x1 = x2 ∧ (y1 + y2) % p384 = 0 then none
    else
      let l := if x1 = x2 then (3 * x1 * x1 + (p384 - 3)) * invMod p384 (2 * y1 % p384) % p384
        else (y2 + p384 - y1) * invMod p384 ((x2 + p384 - x1) % p384) % p384
      let x3 := (l * l + 2 * p384 - x1 - x2) % p384
      some (x3, (l * (x1 + p384 - x3) + p384 - y1) % p384)

/-- Multiple of a point, over `n` bits. -/
def ecMul (q : Option (Nat × Nat)) (k : Nat) : Nat → Option (Nat × Nat)
  | 0 => none
  | n + 1 =>
    let h := ecMul q (k / 2) n
    let d := ecAdd h h
    if k % 2 = 1 then ecAdd d q else d

/-- The point lies on the curve. -/
def onCurve (x y : Nat) : Bool :=
  decide (x < p384 ∧ y < p384) && y * y % p384 == (x * x * x + (p384 - 3) * x + b384) % p384

/-- ECDSA P-384 verification with SHA-384: public key (Qx, Qy), signature (r, s). -/
def ecdsaOk (qx qy r s : Nat) (m : List (BitVec 8)) : Bool :=
  if !onCurve qx qy || r = 0 || s = 0 || decide (n384 ≤ r ∨ n384 ≤ s) then false
  else
    let w := invMod n384 s
    let z := ofBe (sha384 m)
    match ecAdd (ecMul (some (gx384, gy384)) (z * w % n384) 384) (ecMul (some (qx, qy)) (r * w % n384) 384) with
    | none => false
    | some (x, _) => x % n384 == r

end Sys2Proof.Machine
end

