-- ==== Sys2Proof/Machine/Firmware.lean ====
section
/-!
DEFINITION. MRAM writes, firmware slots, slot selection by the boot ROM, and the settings array (chapter 8: R412-R470).
-/
namespace Sys2Proof.Machine

open Sys2Proof

/-- Base addresses of slot `s` and of settings region `r` in the MRAM (R412). -/
def slotBase (s : Nat) : Nat := 0x200000 * s
def regionBase (r : Nat) : Nat := 0x100000 + 0x200000 * r

/-- Bank of a word group (R412). -/
def mramBank (g : Nat) : Nat := g / 0x10000

/-- No group of bytes [a, a + n) reads back with an ECC error. -/
def Hw.mramGood (h : Hw) (a n : Nat) : Bool := !(h.fw.bad.any (fun g => decide (a < 32 * g + 32 ∧ 32 * g < a + n)))

/-- The number at MRAM address `a`. -/
def Hw.mramRd (h : Hw) (a n : Nat) : Nat := Mem.rd h.mem.mram a n

/-- MRAM bytes. -/
def Hw.mramBytes (h : Hw) (a n : Nat) : List Byte := Mem.bytes h.mem.mram a n

/-! ### Slots (R417-R421) -/

/-- All bytes of [a, a + n) are 0. -/
def Hw.mramZero (h : Hw) (a n : Nat) : Bool := (h.mramBytes a n).all (fun b => b == 0)

/-- The state code of slot `s`; the first failing check sets it (R421). A header or code group with an ECC error fails
the checks that read it (DEDUCED, assumption 38). -/
def Hw.slotState (h : Hw) (s : Nat) : Nat :=
  let b := slotBase s
  let f (o n : Nat) := h.mramRd (b + o) n
  let len := f 0x01C 4
  let entry := f 0x020 4
  if !(h.mramGood b 512) || h.mramBytes b 4 != [0x44, 0x4C, 0x46, 0x57] || f 4 2 != 1 ||
      f 0x1FC 4 != crc32c (h.mramBytes b 0x1FC) ||
      !(h.mramZero (b + 6) 2 && h.mramZero (b + 0x24) 28 && h.mramZero (b + 0xD0) 300) ||
      len % 32 != 0 || decide (len < 32 ∨ 1048032 < len) || decide (entry < 0x200) || entry % 4 != 0 then 0
  else if !(h.mramGood (b + 0x200) len) || sha384 (h.mramBytes (b + 0x200) len) != h.mramBytes (b + 0x40) 48 ||
      !(ecdsaOk Config.fwKey.1.toNat Config.fwKey.2.toNat (ofBe (h.mramBytes (b + 0x70) 48))
        (ofBe (h.mramBytes (b + 0xA0) 48)) (h.mramBytes b 0x70)) then 1
  else
    let step := bits h.ident.hwid.toNat 15 8
    if step < f 0x00C 1 ∨ f 0x00D 1 < step then 2
    else if 0x14 < f 0x00E 1 then 3
    else if f 0x010 4 &&& (2 ^ 32 - 1 - h.ident.feat.toNat) != 0 then 4
    else 5

/-- A slot's control block: PREF_SEQ, TRIES, confirmed (R419, R420). -/
structure SlotCtl where
  pref : Nat
  tries : Nat
  conf : Bool
deriving DecidableEq, Repr

/-- Address of a slot's control block. -/
def ctlAddr (s : Nat) : Nat := slotBase s + 0xFFFE0

/-- Read a control block. -/
def Hw.slotCtl (h : Hw) (s : Nat) : SlotCtl :=
  let a := ctlAddr s
  if h.mramGood a 32 && h.mramRd (a + 0x1C) 4 == crc32c (h.mramBytes a 0x1C) then
    ⟨h.mramRd a 4, h.mramRd (a + 4) 1, h.mramRd (a + 5) 1 == 0xA5⟩
  else ⟨0, 255, false⟩

/-- The write of a control block. -/
def ctlWriteOf (s : Nat) (c : SlotCtl) : MWrite :=
  let b := leBytes 4 c.pref ++ leBytes 1 (min 255 c.tries) ++ leBytes 1 (if c.conf then 0xA5 else 0) ++ List.replicate 22 0
  ⟨ctlAddr s / 32, b ++ leBytes 4 (crc32c b)⟩

/-- FW_VER of slot `s`. -/
def Hw.slotVer (h : Hw) (s : Nat) : Nat := h.mramRd (slotBase s + 8) 4

/-- The running slot. -/
def Hw.runSlot (h : Hw) : Nat := h.get R.SYS_FW_STAT_SLOT

/-- A byte of the running slot's header. -/
def Hw.fwByte (h : Hw) (o : Nat) : Nat := h.mramRd (slotBase h.runSlot + o) 1

/-- Version of the running firmware; 0 in ROM service mode. -/
def Hw.fwVer (h : Hw) : Nat := if h.is R.SYS_FW_STAT_ROM_SVC then 0 else h.slotVer h.runSlot

/-- WEN bit of a word group: slot 0, region 0, slot 1, region 1 (R465). -/
def wenBit (g : Nat) : Nat := g / 0x8000

/-- Queue word-group writes of the Dealer (R415). -/
def Hw.mramQueue (h : Hw) (l : List MWrite) : Hw := { h with fw := { h.fw with q := h.fw.q ++ l } }

/-- BOOT_SLOT_SELECT (R421-R428, R450): slot states, the choice of R423, TRIES of an unconfirmed slot, CFG_SHELL and
SYS_FW_STAT; with no qualified slot, ROM service mode. The firmware's table protocol range goes to TBL_PROTO (R450). -/
def Hw.bootSelect (h : Hw) : Hw :=
  if !h.fw.boot || !h.dealerUp then h
  else
    let h := { h with fw := { h.fw with boot := false } }
    let h := [0, 1].foldl (fun (h : Hw) s => h.mramUE (slotBase s) 0x100000) h
    let st := [h.slotState 0, h.slotState 1]
    let q := (List.range 2).filter (fun s => listAt 0 st s == 5)
    let stat (h : Hw) (slot tries : Nat) (fell trial svc : Bool) : Hw :=
      h.wr R.SYS_FW_STAT (slot + 2 * b2n svc + 4 * b2n trial + 8 * b2n fell + 2 ^ 8 * listAt 0 st 0 +
        2 ^ 12 * listAt 0 st 1 + 2 ^ 16 * 0x14 + 2 ^ 24 * tries)
    let shell (h : Hw) (lo hi : Nat) : Hw :=
      if h.is R.CFG_STAT_LOCK then h else h.wr R.CFG_SHELL (lo + hi * 2 ^ 16)
    match q with
    | [] => shell (stat h 0 0 false false true) 1 0
    | q0 :: qs =>
      let p0 := qs.foldl (fun p s =>
        let a := (h.slotCtl p).pref
        let b := (h.slotCtl s).pref
        if a < b ∨ (a = b ∧ h.slotVer p < h.slotVer s) then s else p) q0
      let fell := !(h.slotCtl p0).conf && decide (3 ≤ (h.slotCtl p0).tries) && q.contains (1 - p0)
      let p := if fell then 1 - p0 else p0
      let c := h.slotCtl p
      let tries := if c.conf then c.tries else min 255 (c.tries + 1)
      let h := if c.conf then h
        else (({ h with fw := { h.fw with shut := true } } : Hw).putBit R.SYS_MRAM_CTL_WEN (wenBit (ctlAddr p / 32)) true).mramQueue
          [ctlWriteOf p { c with tries := tries }]
      let b := slotBase p
      let h := shell (stat h p tries fell (!c.conf) false) (h.mramRd (b + 0x14) 2) (h.mramRd (b + 0x16) 2)
      if h.is R.CFG_STAT_LOCK then h
      else (h.put R.TBL_PROTO_MIN (h.mramRd (b + 0x1A) 1)).put R.TBL_PROTO_MAX (h.mramRd (b + 0x1B) 1)

/-! ### Word-group pulses (R414-R416, R446) -/

/-- MRAM_PULSE_START: the next queued write begins. In the bank that holds the running slot, a pulse after another in
that bank needs 8 Dealer fetches or 1 µs between, which `waited` tells (R446). A write to a region whose WEN is 0 has
no effect and sets WP (R416). A pending reset lets no new pulse start (R117). -/
def Hw.mramStart (h : Hw) (waited : Bool) : Hw :=
  match h.fw.q, h.fw.pulse with
  | w :: ws, none =>
    let bk := mramBank w.group
    if h.rst.pend.isSome then h
    else if bk = h.runSlot ∧ h.fw.last = some bk ∧ !waited then h
    else if !(h.bitOf R.SYS_MRAM_CTL_WEN (wenBit w.group)) then
      ({ h with fw := { h.fw with q := ws } } : Hw).raise R.SYS_MRAM_ERR_WP 0
    else { h with fw := { h.fw with q := ws, pulse := some w } }
  | _, _ => h

/-- The running MRAM command ends once its writes are done (R452, R461); its regions are protected again. -/
def Hw.mramFinish (h : Hw) : Hw :=
  if !h.fw.q.isEmpty || h.fw.pulse.isSome then h
  else
    let h := if h.fw.shut then ({ h with fw := { h.fw with shut := false } } : Hw).put R.SYS_MRAM_CTL_WEN 0 else h
    match h.fw.cmd with
    | none => h
    | some c =>
      let h := ({ h with fw := { h.fw with cmd := none } } : Hw).put R.SYS_MRAM_CTL_WEN 0
      if c.differs then h.complete c.mb c.hd stMEM_ERROR 1 0 else h.complete c.mb c.hd c.status c.detail c.result

/-- A Dealer fetch at MRAM address `a` that waited `n` DLCLK cycles for the pulse in its bank, at most 240 (R445, R447):
SYS_MRAM_STALL counts them, saturating (R448, R467). A fetch of a group that reads with a double-bit error is a fatal error
(R413, R1164). -/
def Hw.mramFetch (h : Hw) (bank a n : Nat) : Hw :=
  let g := a / 32
  if mramBank g ≠ bank then h
  else
    let h := h.put R.SYS_MRAM_STALL_COUNT (min 0xFFFFFFFF (h.get R.SYS_MRAM_STALL_COUNT + min 240 n))
    if NSet.has h.fw.bad g then (h.raise R.SYS_MRAM_ERR_UE 0).errAt eMRAM 3 nodeREG else h

/-- MRAM_PULSE_DONE: the group holds the bytes written. `obs` gives what it holds where the pulse programmed
something else, `fetch` the address and the wait of a Dealer fetch that stood in that bank. -/
def Hw.mramDone (h : Hw) (obs : Option (List Byte)) (fetch : Option (Nat × Nat)) : Hw :=
  match h.fw.pulse with
  | none => h
  | some w =>
    let bs := match obs with
      | some b => (b ++ List.replicate 32 0).take 32
      | none => w.data
    let h := { h with mem := { h.mem with mram := Mem.write h.mem.mram (32 * w.group) bs },
                      fw := { h.fw with pulse := none, last := if mramBank w.group = h.runSlot then some h.runSlot else h.fw.last,
                                        bad := NSet.del h.fw.bad w.group } }
    let h := match h.fw.cmd with
      | some c => { h with fw := { h.fw with cmd := some { c with differs := c.differs || bs != w.data } } }
      | none => h
    let h := match fetch with
      | some (a, n) => h.mramFetch (mramBank w.group) a n
      | none => h
    h.mramFinish

/-- A row of a command that writes the MRAM: it waits while an earlier one's writes go on, one that has already been
answered with TIMEOUT included (R366, R461). -/
def Hw.mramRow (h : Hw) (m k op : Nat) (f : InFlight → Hw) : Hw :=
  if h.fw.cmd.isSome then h else h.onCmd m k op f

/-- A command's writes begin: the firmware opens the regions it writes (R416), queues the groups, and the command
completes when they are done. -/
def Hw.mramCmd (h : Hw) (m k : Nat) (ws : List MWrite) (status detail result : Nat) : Hw :=
  let wen := ws.foldl (fun a w => setBit a (wenBit w.group) true) (h.get R.SYS_MRAM_CTL_WEN)
  let h := ((h.begun m k).put R.SYS_MRAM_CTL_WEN wen).mramQueue ws
  ({ h with fw := { h.fw with cmd := some ⟨m, k, status, detail, result, false⟩ } } : Hw).mramFinish

/-- The writes of a 32-aligned run of bytes. -/
def groupWrites (a : Nat) (bs : List Byte) : List MWrite :=
  (List.range (bs.length / 32)).map (fun i => ⟨a / 32 + i, (bs.drop (32 * i)).take 32⟩)

/-! ### The settings array (R429-R444) -/

/-- A record met by a walk: its place, header fields and payload. -/
structure SetRec where
  off : Nat
  schema : Nat
  key : Nat
  seq : Nat
  payload : List Byte
deriving DecidableEq, Repr

/-- Address of half `hf` of region `r` (R429). -/
def halfBase (r hf : Nat) : Nat := regionBase r + 0x80000 * hf

/-- GEN of a half whose header is valid (R429). -/
def Hw.halfGen (h : Hw) (r hf : Nat) : Option Nat :=
  let a := halfBase r hf
  if h.mramGood a 32 && h.mramBytes a 4 == [0x53, 0x45, 0x54, 0x48] && h.mramRd (a + 28) 4 == crc32c (h.mramBytes a 28)
  then some (h.mramRd (a + 4) 4) else none

/-- The active half of a region and its GEN (R430). DESIGN CHOICE (assumption 80): of two valid halves with equal GEN, half
0. -/
def Hw.activeHalf (h : Hw) (r : Nat) : Option (Nat × Nat) :=
  match h.halfGen r 0, h.halfGen r 1 with
  | some a, some b => if a < b then some (1, b) else some (0, a)
  | some a, none => some (0, a)
  | none, some b => some (1, b)
  | none, none => none

/-- Bytes a record of `n` payload bytes takes (R432). -/
def recSize (n : Nat) : Nat := (0x18 + n + 31) / 32 * 32

/-- Walk a half from offset `o` (R433): the records with a good CRC in order, how many failed it, and where it ended.
DESIGN CHOICE (assumptions 81 and 82): a record that runs past the end of its half ends the walk, and one whose first group
is good with an uncorrectable error in a later group counts as a failed CRC. -/
def Hw.walk (h : Hw) (base gen : Nat) : Nat → Nat → List SetRec × Nat × Nat
  | 0, o => ([], 0, o)
  | n + 1, o =>
    let a := base + o
    let len := h.mramRd (a + 8) 2
    if 0x80000 < o + 32 then ([], 0, o)
    else if !(h.mramGood a 32) || h.mramRd a 1 != 0xA7 || h.mramRd (a + 0x0C) 4 != gen || decide (4064 < len) ||
        decide (0x80000 < o + recSize len) then ([], 0, o)
    else
      let r := h.walk base gen n (o + recSize len)
      let ok := h.mramGood a (recSize len) &&
        h.mramRd (a + 0x14) 4 == crc32c (h.mramBytes a 0x14 ++ h.mramBytes (a + 0x18) len)
      if ok then
        (⟨o, h.mramRd (a + 1) 1, h.mramRd (a + 2) 2, h.mramRd (a + 4) 4, h.mramBytes (a + 0x18) len⟩ :: r.1, r.2.1, r.2.2)
      else (r.1, r.2.1 + 1, r.2.2)

/-- The records of region `r`, how many fail their CRC, and the end of the walk. -/
def Hw.regionWalk (h : Hw) (r : Nat) : List SetRec × Nat × Nat :=
  match h.activeHalf r with
  | some (hf, g) => h.walk (halfBase r hf) g 0x4000 0x20
  | none => ([], 0, 0x20)

/-- The running firmware reads this schema (R434). -/
def Hw.readsSchema (h : Hw) (s : Nat) : Bool := decide (h.fwByte 0x19 ≤ s ∧ s ≤ h.fwByte 0x18)

/-- Unreadable records of a region (R434). -/
def Hw.unreadable (h : Hw) (r : Nat) : Nat := ((h.regionWalk r).1.filter (fun x => !(h.readsSchema x.schema))).length

/-- The record with the highest SEQ. -/
def topSeq (l : List SetRec) : Option SetRec :=
  l.foldl (fun (b : Option SetRec) x =>
    match b with
    | some y => if y.seq < x.seq then some x else b
    | none => some x) none

/-- The value record of a key, before its LEN is judged (R435). -/
def Hw.valueOf (h : Hw) (key : Nat) : Option SetRec :=
  topSeq (((h.regionWalk 0).1 ++ (h.regionWalk 1).1).filter (fun x => x.key == key && h.readsSchema x.schema))

/-- Records with a failing CRC are logged by a walk, and so is every uncorrectable read of it (R413, R433). -/
def Hw.logWalk (h : Hw) : Hw :=
  let h := [0, 1].foldl (fun (h : Hw) r =>
    let h := (h.mramUE (halfBase r 0) 32).mramUE (halfBase r 1) 32
    match h.activeHalf r with
    | some (hf, _) => h.mramUE (halfBase r hf + 32) ((h.regionWalk r).2.2)
    | none => h) h
  (List.range ((h.regionWalk 0).2.1 + (h.regionWalk 1).2.1)).foldl (fun h _ => h.errAt eMRAM 4 nodeREG) h

/-- SET_READ (R435, R461, R469). Of a deleted key the record still tells its SCHEMA and SEQ; without a record those bits of
RESULT are 0 (DESIGN CHOICE, assumption 38). -/
def Hw.setRead (h : Hw) (m k : Nat) : Hw :=
  h.onCmd m k 0x0700 (fun c =>
    let key := c.par 0 2
    let len := c.par 16 4
    let h' := h.logWalk
    match h.valueOf key with
    | some r =>
      if r.payload.isEmpty then h'.ok m k (0xFFFF + r.schema * 2 ^ 16 + r.seq * 2 ^ 32)
      else
        let bs := r.payload.take len
        if h.hostOutReady m k bs.length then
          (h'.hostOut m k bs).ok m k (r.payload.length + r.schema * 2 ^ 16 + r.seq * 2 ^ 32)
        else h
    | none => h'.ok m k 0xFFFF)

/-- A record's bytes, padded (R432). -/
def recBytes (schema key seq gen : Nat) (payload : List Byte) : List Byte :=
  let b := leBytes 1 0xA7 ++ leBytes 1 schema ++ leBytes 2 key ++ leBytes 4 seq ++ leBytes 2 payload.length ++
    leBytes 2 0 ++ leBytes 4 gen ++ leBytes 4 0
  let r := b ++ leBytes 4 (crc32c (b ++ payload)) ++ payload
  r ++ List.replicate (recSize payload.length - r.length) 0

/-- The writes of a record: every group but its first, then its first (R437). -/
def recWrites (a : Nat) (bs : List Byte) : List MWrite :=
  let ws := groupWrites a bs
  ws.drop 1 ++ ws.take 1

/-- A half header. -/
def halfHeader (gen : Nat) : List Byte :=
  let b : List Byte := [0x53, 0x45, 0x54, 0x48] ++ leBytes 4 gen ++ List.replicate 20 0
  b ++ leBytes 4 (crc32c b)

/-- The GEN that sets up a region with no valid half header (R431). -/
def Hw.firstGen (h : Hw) (r : Nat) : Nat :=
  (List.range 0x8000).foldl (fun (g : Nat) i =>
    let a := regionBase r + 32 * i
    if h.mramRd a 1 = 0xA7 then max g (h.mramRd (a + 0x0C) 4 + 1) else g) 1

/-- Records that a compaction keeps: for each KEY and SCHEMA the one with the highest SEQ (R441). -/
def compacted (l : List SetRec) : List SetRec :=
  l.filter (fun x => !(l.any (fun y => y.key == x.key && y.schema == x.schema && decide (x.seq < y.seq))))

/-- Writes of the records of a compaction, and the offset after them. -/
def copyWrites (base gen : Nat) : List SetRec → Nat → List MWrite × Nat
  | [], o => ([], o)
  | x :: xs, o =>
    let r := copyWrites base gen xs (o + recSize x.payload.length)
    (recWrites (base + o) (recBytes x.schema x.key x.seq gen x.payload) ++ r.1, r.2)

/-- Writes that append a record of `payload` to region `r`; the flag tells that there was no room (R431, R437, R441,
R443). -/
def Hw.appendWrites (h : Hw) (r key seq : Nat) (payload : List Byte) : List MWrite × Bool :=
  let schema := h.fwByte 0x18
  match h.activeHalf r with
  | none =>
    let g := h.firstGen r
    (groupWrites (halfBase r 0) (halfHeader g) ++ recWrites (halfBase r 0 + 0x20) (recBytes schema key seq g payload), false)
  | some (hf, g) =>
    let w := h.regionWalk r
    if w.2.2 + recSize payload.length ≤ 0x80000 then
      (recWrites (halfBase r hf + w.2.2) (recBytes schema key seq g payload), false)
    else
      let hf' := 1 - hf
      let g' := g + 1
      let cp := copyWrites (halfBase r hf') g' (compacted w.1) 0x20
      let ws := cp.1 ++ groupWrites (halfBase r hf') (halfHeader g')
      if cp.2 + recSize payload.length ≤ 0x80000 then
        (ws ++ recWrites (halfBase r hf' + cp.2) (recBytes schema key seq g' payload), false)
      else (ws, true)

/-- How SET_WRITE fails its checks (R436, R440, R443). -/
def Hw.setBad (h : Hw) (c : InFlight) : Option (Nat × Nat) :=
  if c.par 0 2 = 0 ∨ c.par 0 2 = 0xFFFF then some (stBAD_PARAM, 0)
  else if 4064 < c.par 16 4 then some (stBAD_PARAM, 16)
  else if h.unreadable 0 != 0 && h.unreadable 1 != 0 then some (stNO_RESOURCE, 4)
  else none

/-- SET_WRITE (R436, R440, R443, R470). The home region is that of the running slot's bank. DESIGN CHOICE (assumption 83):
where neither region holds a record, the first record's SEQ is 1. -/
def Hw.setWrite (h : Hw) (m k : Nat) : Hw :=
  h.mramRow m k 0x0701 (fun c =>
    let key := c.par 0 2
    match h.setBad c with
    | some (st, d) => h.complete m k st d 0
    | none =>
      match h.hostIn m k (c.par 16 4) with
      | none => h
      | some bs =>
        let home := h.runSlot
        let r := if h.unreadable home = 0 then home else 1 - home
        let top := ((h.regionWalk 0).1 ++ (h.regionWalk 1).1).foldl (fun (a : Nat) x => max a x.seq) 0
        let w := h.appendWrites r key (top + 1) bs
        if w.2 then h.logWalk.mramCmd m k w.1 stNO_RESOURCE 4 0 else h.logWalk.mramCmd m k w.1 stOK 0 (top + 1))

/-! ### Updates (R452-R458) -/

/-- How FW_WRITE fails its checks (R452-R454). In ROM service mode either slot may be written (R428). -/
def Hw.fwBad (h : Hw) (c : InFlight) : Option (Nat × Nat) :=
  let s := c.par 0 1
  let o := c.par 4 4
  let len := c.par 16 4
  if 1 < s then some (stBAD_PARAM, 0)
  else if o % 32 != 0 then some (stBAD_PARAM, 4)
  else if len % 32 != 0 || decide (0xFFFE0 < o + len) then some (stBAD_PARAM, 16)
  else if s = h.runSlot ∧ !h.is R.SYS_FW_STAT_ROM_SVC then some (stWRONG_STATE, 5)
  else none

/-- FW_WRITE (R428, R452-R454). -/
def Hw.fwWrite (h : Hw) (m k : Nat) : Hw :=
  h.mramRow m k 0x0702 (fun c =>
    let s := c.par 0 1
    let o := c.par 4 4
    let len := c.par 16 4
    match h.fwBad c with
    | some (st, d) => h.complete m k st d 0
    | none =>
      match h.hostIn m k len with
      | none => h
      | some bs =>
        let ws := groupWrites (slotBase s + o) bs
        let ws := if o = 0 ∧ 0 < len then ws ++ [ctlWriteOf s ⟨0, 0, false⟩] else ws
        h.mramCmd m k ws stOK 0 0)

/-- FW_SELECT with SLOT 0 or 1 (R455, R456); another value is BAD_PARAM. -/
def Hw.fwSelect (h : Hw) (m k : Nat) : Hw :=
  h.mramRow m k 0x0703 (fun c =>
    let s := c.par 0 1
    if s = 2 then h
    else if 2 < s then h.badParam m k 0
    else if h.slotState s ≠ 5 then h.wrongState m k (h.slotState s)
    else
      let p := (h.slotCtl (1 - s)).pref + 1
      h.mramCmd m k [ctlWriteOf s ⟨p, 0, false⟩] stOK 0 p)

/-- FW_SELECT with SLOT 2 (R457). -/
def Hw.fwConfirm (h : Hw) (m k : Nat) : Hw :=
  h.mramRow m k 0x0703 (fun c =>
    if c.par 0 1 ≠ 2 then h
    else
      let s := h.runSlot
      h.mramCmd m k [ctlWriteOf s { h.slotCtl s with tries := 0, conf := true }] stOK 0 0)

/-- A pulse cut off by a POR (R121): the group keeps its old value, takes the new one, or reads with an ECC error. -/
def Hw.mramCut (h : Hw) : Hw :=
  match h.fw.pulse with
  | none => h
  | some w =>
    let r := h.takeFree 2
    let h := r.2
    let fw := { h.fw with pulse := none, q := [], cmd := none, shut := false }
    match r.1 with
    | 0 => { h with fw := fw }
    | 1 => { h with fw := { fw with bad := NSet.del fw.bad w.group },
                    mem := { h.mem with mram := Mem.write h.mem.mram (32 * w.group) w.data } }
    | _ => { h with fw := { fw with bad := NSet.add fw.bad w.group } }

end Sys2Proof.Machine
end

