-- ==== Sys2Proof/Machine/GfxGeom.lean ====
section
/-!
DEFINITION. Geometry of the raster pipeline (R953, R957-R959): clip positions, culling, coverage, depth and
perspective-correct attributes. Everything is exact and rounded once, to the format the rule names (assumption 5).
-/
namespace Sys2Proof.Machine

open Sys2Proof

/-- An extended rational: what an FP32 or FP16 value stands for. -/
inductive XR where
  | nan
  | inf (neg : Bool)
  | fin (q : Rat)
deriving DecidableEq, Repr

/-- m × 2^e as a rational. -/
def dyadic (neg : Bool) (m : Nat) (e : Int) : Rat :=
  let q : Rat := if 0 ≤ e then ((m <<< e.toNat : Nat) : Rat) else (m : Rat) / ((2 ^ (-e).toNat : Nat) : Rat)
  if neg then -q else q

/-- The extended rational of a decoded number. -/
def XR.ofNum : Num → XR
  | .nan => .nan
  | .inf s => .inf s
  | .fin s m e => .fin (dyadic s m e)

/-- The value of an FP32 encoding. -/
def XR.ofFP32 (v : Nat) : XR := XR.ofNum (Sys2Proof.Machine.ofFP32 v).1

/-- The value of an FP16 encoding. -/
def XR.ofFP16 (v : Nat) : XR := XR.ofNum (decodeFloat (ffmt fmtFP16) v).1

/-- A rational as a number that rounds alike: 80 bits of quotient, with a last bit that tells a remainder. -/
def Num.ofRat (q : Rat) : Num :=
  let n := q.num.natAbs
  let d := q.den
  if n = 0 then .fin false 0 0
  else
    let sh : Nat := 80 + log2 d
    let m := (n <<< sh) / d
    let r := (n <<< sh) % d
    .fin (decide (q < 0)) (2 * m + b2n (r != 0)) (-((sh : Int) + 1))

/-- The number an extended rational rounds as. -/
def XR.num : XR → Num
  | .nan => .nan
  | .inf s => .inf s
  | .fin q => Num.ofRat q

/-- Round to FP32 and to FP16, to nearest even. -/
def XR.fp32 (x : XR) : Nat := (toFP32 .rne x.num).1
def XR.fp16 (x : XR) : Nat := (encodeFloat (ffmt fmtFP16) .rne x.num).1

/-- A weighted sum. -/
def XR.mix (l : List (Rat × XR)) : XR :=
  l.foldl (fun (a : XR) e =>
    let p : XR :=
      match e.2 with
      | .nan => .nan
      | .inf s => if e.1 = 0 then .nan else .inf (s != decide (e.1 < 0))
      | .fin q => .fin (e.1 * q)
    match a, p with
    | .nan, _ => .nan
    | _, .nan => .nan
    | .inf s, .inf t => if s = t then .inf s else .nan
    | .inf s, _ => .inf s
    | _, .inf t => .inf t
    | .fin x, .fin y => .fin (x + y)) (.fin 0)

/-- The rational of a finite value. -/
def XR.q? : XR → Option Rat
  | .fin q => some q
  | _ => none

/-- FP32 at byte `o` of a byte list. -/
def f32At (bs : List Byte) (o : Nat) : Nat := leAt bs o 4

/-! ### Fields of a draw (R957) -/

def GDraw.nattr (d : GDraw) : Nat := leAt d.desc 0x12 1
def GDraw.stride (d : GDraw) : Nat := leAt d.desc 0x10 2
def GDraw.entry (d : GDraw) : Nat := leAt d.desc 0x14 2
def GDraw.tmask (d : GDraw) : Nat := leAt d.desc 0x16 1
def GDraw.rast (d : GDraw) : Nat := leAt d.desc 0x17 1
def GDraw.occ (d : GDraw) : Bool := bit d.rast 3
def GDraw.zfunc (d : GDraw) : Nat := leAt d.desc 0x18 1 % 8
def GDraw.zwrite (d : GDraw) : Bool := bit (leAt d.desc 0x18 1) 3
def GDraw.sfunc (d : GDraw) : Nat := leAt d.desc 0x19 1 % 8
def GDraw.sop (d : GDraw) : Nat := leAt d.desc 0x19 1 / 8 % 8
def GDraw.sref (d : GDraw) : Nat := leAt d.desc 0x1A 1
def GDraw.nsamp (d : GDraw) : Nat := leAt d.desc 0x1B 1

/-- A clip position. -/
structure Clip where
  x : Rat
  y : Rat
  z : Rat
  w : Rat
deriving DecidableEq, Repr

/-- MATRIX × (x, y, z, 1); none where a component is not finite (R957, R959). -/
def GDraw.clip (d : GDraw) (v : List Byte) : Option Clip :=
  let m (i : Nat) : Option Rat := (XR.ofFP32 (f32At d.desc (0x40 + 4 * i))).q?
  let p (i : Nat) : Option Rat := (XR.ofFP32 (f32At v (4 * i))).q?
  match p 0, p 1, p 2 with
  | some x, some y, some z =>
    let row (r : Nat) : Option Rat :=
      match m (4 * r), m (4 * r + 1), m (4 * r + 2), m (4 * r + 3) with
      | some a, some b, some c, some e => some (a * x + b * y + c * z + e)
      | _, _, _, _ => none
    match row 0, row 1, row 2, row 3 with
    | some a, some b, some c, some e => some ⟨a, b, c, e⟩
    | _, _, _, _ => none
  | _, _, _ => none

/-- The determinant of three clip positions' (x, y, w): its sign is the sign of the triangle's area on screen,
counter-clockwise positive with y upwards. -/
def det3 (a b c : Clip) : Rat :=
  a.x * (b.y * c.w - b.w * c.y) - a.y * (b.x * c.w - b.w * c.x) + a.w * (b.x * c.y - b.y * c.x)

/-- Keep the part of a polygon where f ≥ 0 (Sutherland and Hodgman). -/
def clipBy (f : Clip → Rat) (l : List Clip) : List Clip :=
  (l.zip (l.drop 1 ++ l.take 1)).flatMap (fun e =>
    let a := f e.1
    let b := f e.2
    let t := a / (a - b)
    let mid : Clip := ⟨e.1.x + t * (e.2.x - e.1.x), e.1.y + t * (e.2.y - e.1.y), e.1.z + t * (e.2.z - e.1.z),
      e.1.w + t * (e.2.w - e.1.w)⟩
    (if 0 ≤ a then [e.1] else []) ++ (if (decide (0 ≤ a) != decide (0 ≤ b)) then [mid] else []))

/-- The polygon left of a triangle within 0 ≤ z ≤ w (R958); points with w = 0 drop out. -/
def clipPoly (a b c : Clip) : List Clip :=
  (clipBy (fun v => v.w - v.z) (clipBy (fun v => v.z) [a, b, c])).filter (fun v => decide (0 < v.w))

/-- The integer nearest a rational, ties to even. -/
def ratRound (q : Rat) : Int :=
  let f := (q + 1 / 2).floor
  if (f : Rat) = q + 1 / 2 ∧ f % 2 ≠ 0 then f - 1 else f

/-- A point on screen in 1/256 pixel, y downwards (R958). -/
structure SPt where
  x : Int
  y : Int
deriving DecidableEq, Repr

/-- Perspective divide and viewport of width `w` and height `h`: the origin is the top-left pixel's corner, y of the clip
space points up (R958). -/
def viewport (w h : Nat) (v : Clip) : SPt :=
  ⟨ratRound ((v.x / v.w + 1) * (128 * w : Nat)), ratRound ((1 - v.y / v.w) * (128 * h : Nat))⟩

/-- The point (px, py) relative to the edge from `a` to `b`: positive on the inner side of a polygon that runs clockwise
on screen. -/
def edgeFn (a b : SPt) (x y : Int) : Int := (b.x - a.x) * (y - a.y) - (b.y - a.y) * (x - a.x)

/-- The top-left rule for a polygon that runs clockwise on screen: a horizontal edge to the right is a top edge, an edge
upwards a left edge. -/
def topLeft (a b : SPt) : Bool := (a.y == b.y && decide (a.x < b.x)) || decide (b.y < a.y)

/-- Does a polygon, clockwise on screen, cover the centre of pixel (x, y)? -/
def covers (poly : List SPt) (x y : Nat) : Bool :=
  let cx : Int := 256 * x + 128
  let cy : Int := 256 * y + 128
  decide (3 ≤ poly.length) && (poly.zip (poly.drop 1 ++ poly.take 1)).all (fun e =>
    e.1 == e.2 || decide (0 < edgeFn e.1 e.2 cx cy) || (edgeFn e.1 e.2 cx cy == 0 && topLeft e.1 e.2)) &&
    (poly.zip (poly.drop 1 ++ poly.take 1)).any (fun e => decide (0 < edgeFn e.1 e.2 cx cy))

/-- A triangle ready for rasterising: its clip positions in an order that runs clockwise on screen, attributes
of each vertex, and the polygon that is covered. -/
structure Setup where
  c : List Clip
  attrs : List (List XR)
  det : Rat
  poly : List SPt
deriving DecidableEq, Repr

/-- What setup makes of a triangle: none if discarded (R959), `some none` if culled or clipped away. -/
def setupTri (d : GDraw) (w h : Nat) (t : GTri) : Option (Option Setup) :=
  match d.clip t.v0, d.clip t.v1, d.clip t.v2 with
  | some a, some b, some c =>
    let area := det3 a b c
    if area = 0 then none
    else
      let cw := decide (area < 0)
      let front := cw == bit d.rast 2
      let cull := d.rast % 4
      if (cull == 1 && !front) || (cull == 2 && front) then some none
      else
        let at_ (v : List Byte) : List XR := (List.range d.nattr).map (fun i => XR.ofFP32 (f32At v (12 + 4 * i)))
        let vs : List (Clip × List XR) :=
          if cw then [(a, at_ t.v0), (b, at_ t.v1), (c, at_ t.v2)] else [(a, at_ t.v0), (c, at_ t.v2), (b, at_ t.v1)]
        let cs := vs.map (fun v => v.1)
        let poly := clipPoly (cs.getD 0 a) (cs.getD 1 b) (cs.getD 2 c)
        if poly.length < 3 then some none
        else some (some ⟨cs, vs.map (fun v => v.2), if cw then area else -area, poly.map (viewport w h)⟩)
  | _, _, _ => none

/-- Weights of the vertices at (X, Y) of the screen from −1 to 1: their sum is 1/w of the point. -/
def Setup.weights (s : Setup) (X Y : Rat) : List Rat :=
  match s.c with
  | [a, b, c] =>
    let p : Clip := ⟨X, Y, 0, 1⟩
    [det3 p b c / s.det, det3 a p c / s.det, det3 a b p / s.det]
  | _ => []

/-- The centre of pixel (x, y) on the screen from −1 to 1. -/
def pixelAt (w h x y : Nat) : Rat × Rat :=
  ((2 * x + 1 : Nat) / (w : Rat) - 1, 1 - (2 * y + 1 : Nat) / (h : Rat))

/-- Sum of a list of rationals. -/
def ratSum (l : List Rat) : Rat := l.foldl (fun a b => a + b) 0

/-- Depth at a pixel centre, z ÷ w, as FP32 (R958). -/
def Setup.depth (s : Setup) (w h x y : Nat) : Nat :=
  let p := pixelAt w h x y
  (XR.fin (ratSum ((List.zip (s.weights p.1 p.2) s.c).map (fun e => e.1 * e.2.z)))).fp32

/-- Does the triangle cover pixel (x, y) in front of the eye? -/
def Setup.hits (s : Setup) (w h x y : Nat) : Bool :=
  covers s.poly x y && decide (0 < ratSum (s.weights (pixelAt w h x y).1 (pixelAt w h x y).2))

/-- Attribute `i` at a pixel centre, perspective-correct, as FP32 (R958). -/
def Setup.attr (s : Setup) (w h x y i : Nat) : Nat :=
  let p := pixelAt w h x y
  let ws := s.weights p.1 p.2
  let iw := ratSum ws
  (XR.mix ((ws.zip s.attrs).map (fun e => (e.1 / iw, e.2.getD i .nan)))).fp32

/-- Derivatives of attribute `i` along x and y per pixel, from its plane equations at the pixel centre (R980); none where
the attribute is not finite. -/
def Setup.deriv (s : Setup) (w h x y i : Nat) : Option (Rat × Rat) :=
  match (s.attrs.map (fun a => (a.getD i .nan).q?)).filterMap (fun q => q) with
  | [q0, q1, q2] =>
    let p := pixelAt w h x y
    let num (X Y : Rat) : Rat := ratSum ((List.zip (s.weights X Y) [q0, q1, q2]).map (fun e => e.1 * e.2))
    let den (X Y : Rat) : Rat := ratSum (s.weights X Y)
    let N := num p.1 p.2
    let D := den p.1 p.2
    let dX : Rat := 2 / (w : Rat)
    let dY : Rat := 2 / (h : Rat)
    let f (X Y : Rat) : Rat := ((num X Y - N) * D - N * (den X Y - D)) / (D * D)
    some (f (p.1 + dX) p.2, f p.1 (p.2 - dY))
  | _ => none

/-- Tests ZFUNC and SFUNC: the incoming value against the stored one (R957). -/
def testFn (f : Nat) (lt eq gt : Bool) : Bool :=
  match f with
  | 0 => false
  | 1 => lt
  | 2 => lt || eq
  | 3 => eq
  | 4 => gt
  | 5 => gt || eq
  | _ => true

/-- Depth test of two FP32 values. -/
def zTest (f new old : Nat) : Bool :=
  let a := (ofFP32 new).1
  let b := (ofFP32 old).1
  testFn f (a.lt b) (a.eq b) (b.lt a)

/-- Stencil test. -/
def sTest (f ref old : Nat) : Bool := testFn f (decide (ref < old)) (ref == old) (decide (old < ref))

/-- Stencil pass operation (R957). -/
def sPass (op ref old : Nat) : Nat :=
  match op with
  | 0 => old
  | 1 => ref
  | 2 => min 255 (old + 1)
  | 3 => old - 1
  | _ => 255 - old

end Sys2Proof.Machine
end

