-- ==== Sys2Proof/Machine/GfxTex.lean ====
section
/-!
DEFINITION. The texel units: page layout, filters, level of detail, residency (R978-R982).
-/
namespace Sys2Proof.Machine

open Sys2Proof

/-! ### Sampler descriptors (R978) -/

structure Sampler where
  tex : Nat
  map : Nat
  fmt : Nat
  wl : Nat
  hl : Nat
  levels : Nat
  tail : Nat
  filter : Nat
  wrapU : Nat
  wrapV : Nat
  fallback : Bool
  uAt : Nat
  vAt : Nat
  bias : Int
deriving DecidableEq, Repr

/-- Read a sampler descriptor. -/
def samplerOf (b : List Byte) : Sampler where
  tex := leAt b 0 8
  map := leAt b 8 8
  fmt := leAt b 0x10 1
  wl := leAt b 0x11 1 % 16
  hl := leAt b 0x11 1 / 16
  levels := leAt b 0x12 1
  tail := leAt b 0x13 1
  filter := leAt b 0x14 1
  wrapU := leAt b 0x15 1 % 4
  wrapV := leAt b 0x15 1 / 4 % 4
  fallback := leAt b 0x16 1 == 1
  uAt := leAt b 0x17 1 % 8
  vAt := leAt b 0x17 1 / 16 % 8
  bias := sext 8 (leAt b 0x18 1)

/-- A descriptor keeps the rules of R978, for a draw with `nattr` attributes. -/
def samplerOk (b : List Byte) (nattr : Nat) : Bool :=
  let s := samplerOf b
  decide (s.tex % 65536 = 0 ∧ s.tex < 2 ^ 48 ∧ s.map < 2 ^ 48 ∧ s.fmt < 5 ∧ s.wl ≤ 13 ∧ s.hl ≤ 13 ∧ 1 ≤ s.levels ∧
    s.levels ≤ 1 + max s.wl s.hl ∧ 1 ≤ s.tail ∧ s.tail ≤ s.levels ∧ s.filter < 3 ∧ s.wrapU < 3 ∧ s.wrapV < 3 ∧
    leAt b 0x15 1 < 16 ∧ leAt b 0x16 1 < 2 ∧ s.uAt < nattr ∧ s.vAt < nattr ∧ leAt b 0x17 1 &&& 0x88 = 0 ∧
    leAt b 0x19 7 = 0)

/-- Bytes of a texel. -/
def Sampler.bpt (s : Sampler) : Nat :=
  match s.fmt with
  | 0 => 1 | 1 => 4 | 2 => 2 | 3 => 8 | _ => 4

/-- Texels of a page across and down (R979). -/
def Sampler.block (s : Sampler) : Nat × Nat :=
  match s.bpt with
  | 1 => (256, 256) | 2 => (256, 128) | 4 => (128, 128) | _ => (128, 64)

/-- Width and height of level `l`. -/
def Sampler.width (s : Sampler) (l : Nat) : Nat := max 1 (2 ^ s.wl / 2 ^ l)
def Sampler.height (s : Sampler) (l : Nat) : Nat := max 1 (2 ^ s.hl / 2 ^ l)

/-- Pages across and down of level `l`. -/
def Sampler.across (s : Sampler) (l : Nat) : Nat := (s.width l + s.block.1 - 1) / s.block.1
def Sampler.down (s : Sampler) (l : Nat) : Nat := (s.height l + s.block.2 - 1) / s.block.2

/-- First page of level `l` (R979). -/
def Sampler.base (s : Sampler) : Nat → Nat
  | 0 => 0
  | l + 1 => s.base l + s.across l * s.down l

/-- Address of texel (x, y) of level `l`. -/
def Sampler.addr (s : Sampler) (l x y : Nat) : Nat :=
  let p := s.base l + y / s.block.2 * s.across l + x / s.block.1
  s.tex + 65536 * p + (y % s.block.2 * s.block.1 + x % s.block.1) * s.bpt

/-- Level-0 page whose area holds texel (x, y) of level `l` (R981). -/
def Sampler.page (s : Sampler) (l x y : Nat) : Nat :=
  y * 2 ^ l / s.block.2 * s.across 0 + x * 2 ^ l / s.block.1

/-- A read of memory by the texel unit: bytes with poison; none for an error response. -/
abbrev TexRd := Nat → Nat → Option (List Byte × Bool)

/-- Colour of a texel from its bytes (R978, R980). -/
def texel (fmt : Nat) (bs : List Byte) : List XR :=
  let u8 (i : Nat) : XR := .fin ((leAt bs i 1 : Rat) / 255)
  match fmt with
  | 0 => [u8 0, .fin 0, .fin 0, .fin 1]
  | 1 => [u8 0, u8 1, u8 2, u8 3]
  | 2 => [XR.ofFP16 (leAt bs 0 2), .fin 0, .fin 0, .fin 1]
  | 3 => [XR.ofFP16 (leAt bs 0 2), XR.ofFP16 (leAt bs 2 2), XR.ofFP16 (leAt bs 4 2), XR.ofFP16 (leAt bs 6 2)]
  | _ => [XR.ofFP32 (leAt bs 0 4), .fin 0, .fin 0, .fin 1]

/-- Apply a wrap mode to a texel coordinate: wrap, clamp to edge, mirror. -/
def wrapCoord (mode n : Nat) (i : Int) : Nat :=
  match mode with
  | 0 => (i % (n : Int)).toNat
  | 1 => (max 0 (min ((n : Int) - 1) i)).toNat
  | _ =>
    let k := (i % (2 * n : Int)).toNat
    if k < n then k else 2 * n - 1 - k

/-- Texels and weights along one axis: nearest, or the two around the point. -/
def axis (linear : Bool) (mode n : Nat) (u : Rat) : List (Rat × Nat) :=
  if linear then
    let t := u * (n : Rat) - 1 / 2
    let i := t.floor
    [(1 - (t - (i : Rat)), wrapCoord mode n i), (t - (i : Rat), wrapCoord mode n (i + 1))]
  else [(1, wrapCoord mode n (u * (n : Rat)).floor)]

/-- The footprint of a sample at level `l`: weight, x and y of each texel. -/
def Sampler.footprint (s : Sampler) (l : Nat) (u v : Rat) : List (Rat × Nat × Nat) :=
  (axis (s.filter != 0) s.wrapV (s.height l) v).flatMap (fun y =>
    (axis (s.filter != 0) s.wrapU (s.width l) u).map (fun x => (x.1 * y.1, x.2, y.2)))

/-- What one level sample gives: its colour, poison met, and the level-0 page of a non-resident texel. -/
structure LSample where
  col : List XR
  poison : Bool
  miss : Option Nat
deriving DecidableEq, Repr

/-- A colour nothing constrains, from the free value of the sample. -/
def freeColour (fr : Nat) : List XR := (List.range 4).map (fun i => XR.ofFP16 (fr / 2 ^ (16 * i) % 65536))

/-- No contribution. -/
def noColour : List XR := [.fin 0, .fin 0, .fin 0, .fin 0]

/-- The filtered colour of a footprint at level `l`; poison contributes (0, 0, 0, 0) (R1157); an error response leaves the
colour open. -/
def Sampler.gather (s : Sampler) (rd : TexRd) (fr l : Nat) (u v : Rat) : List XR × Bool :=
  let ts := (s.footprint l u v).map (fun e => (e.1, rd (s.addr l e.2.1 e.2.2) s.bpt))
  if ts.any (fun t => t.2.isNone) then (freeColour fr, false)
  else if ts.any (fun t => match t.2 with | some r => r.2 | none => false) then (noColour, true)
  else
    let cs := (ts.filter (fun t => t.1 != 0)).map (fun t =>
      (t.1, match t.2 with | some r => texel s.fmt r.1 | none => noColour))
    ((List.range 4).map (fun i => XR.mix (cs.map (fun c => (c.1, c.2.getD i (.fin 0))))), false)

/-- One level sample (R981, R982). A fallback level beyond the last leaves the colour open. -/
def Sampler.level (s : Sampler) (rd : TexRd) (fr l : Nat) (u v : Rat) : LSample :=
  let fp := s.footprint l u v
  let pages := fp.map (fun e => s.page l e.2.1 e.2.2)
  let ms := if s.map = 0 ∨ s.tail ≤ l then [] else pages.map (fun p => (p, rd (s.map + p) 1))
  if ms.any (fun m => m.2.isNone) then ⟨freeColour fr, false, none⟩
  else if ms.any (fun m => match m.2 with | some r => r.2 | none => false) then ⟨noColour, true, none⟩
  else
    let vs := ms.map (fun m => (m.1, match m.2 with | some r => leAt r.1 0 1 | none => 0))
    match vs.find? (fun m => !(bit m.2 7) || decide (l < m.2 % 16)) with
    | none => let g := s.gather rd fr l u v; ⟨g.1, g.2, none⟩
    | some m =>
      if !s.fallback then ⟨noColour, false, some m.1⟩
      else
        let f := if vs.any (fun m => !(bit m.2 7)) then s.tail else vs.foldl (fun a m => max a (m.2 % 16)) 0
        if s.levels ≤ f then ⟨freeColour fr, false, some m.1⟩
        else let g := s.gather rd fr f u v; ⟨g.1, g.2, some m.1⟩

/-- Floor of the base-2 logarithm of a positive fraction n/d. -/
def floorLog2 (n d : Nat) : Int :=
  if d ≤ n then (log2 (n / d) : Int)
  else
    let k := log2 (d / n)
    if n <<< k = d then -(k : Int) else if d ≤ n <<< k then -(k : Int) else -(k + 1 : Int)

/-- The level of detail (R980) in 1/16, rounded down, and whether it is exact: λ = log2 ρ + BIAS ÷ 16, clamped to
0 to LEVELS − 1. -/
def Sampler.lod (s : Sampler) (ux uy vx vy : Rat) : Nat × Bool :=
  let sq (a b : Rat) : Rat := a * (s.width 0 : Rat) * (a * (s.width 0 : Rat)) + b * (s.height 0 : Rat) * (b * (s.height 0 : Rat))
  let r2 := max (sq ux vx) (sq uy vy)
  let top := 16 * (s.levels - 1)
  if r2 = 0 then (0, true)
  else
    let n := r2.num.natAbs ^ 8
    let d := r2.den ^ 8
    let k := floorLog2 n d
    let ex := decide (if 0 ≤ k then n = d <<< k.toNat else n <<< (-k).toNat = d)
    let l := k + s.bias
    if l < 0 then (0, true) else if (top : Int) ≤ l then (top, true) else (l.toNat, ex)

/-- A sampler's result at one lane. -/
structure TexOut where
  /-- RGBA16F -/
  rgba : List Nat
  nres : Bool
  poison : Bool
  /-- level requested and level-0 page of each non-resident level sample (R983) -/
  misses : List (Nat × Nat)
deriving DecidableEq, Repr

/-- A sampler's result from its level samples with their weights. -/
def texOut (l : List (Rat × Nat × LSample)) : TexOut where
  rgba := (List.range 4).map (fun i => (XR.mix (l.map (fun e => (e.1, e.2.2.col.getD i (.fin 0))))).fp16)
  nres := l.any (fun e => e.2.2.miss.isSome)
  poison := l.any (fun e => e.2.2.poison)
  misses := l.filterMap (fun e => e.2.2.miss.map (fun p => (e.2.1, p)))

/-- Sample at (u, v) with level of detail `lam` (R980). `rd0` and `rd1` read memory for the two level samples. The
fraction of an inexact λ lies within its sixteenth, and round(λ) at a tie is either level: both come from the free value. -/
def Sampler.sample (s : Sampler) (rd0 rd1 : TexRd) (fr : Nat) (lam : Nat × Bool) (u v : Rat) : TexOut :=
  let k := lam.1
  if s.filter != 2 then
    let up := decide (8 < k % 16) || (k % 16 == 8 && (!lam.2 || bit fr 200))
    let l := min (s.levels - 1) (k / 16 + b2n up)
    texOut [(1, l, s.level rd0 (fr / 2 ^ 256) l u v)]
  else
    let w : Rat := ((k % 16 : Nat) : Rat) / 16 +
      (if lam.2 then 0 else ((2 * (fr / 2 ^ 208 % 2 ^ 40) + 1 : Nat) : Rat) / ((2 ^ 45 : Nat) : Rat))
    let l := k / 16
    if w = 0 then texOut [(1, l, s.level rd0 (fr / 2 ^ 256) l u v)]
    else texOut [(1 - w, l, s.level rd0 (fr / 2 ^ 256) l u v),
      (w, l + 1, s.level rd1 (fr / 2 ^ 320) (l + 1) u v)]

end Sys2Proof.Machine
end

