-- ==== Sys2Proof/Machine/GfxHooks.lean ====
section
/-!
DEFINITION. Pass descriptors and targets (R956), GFX_STAT, and what partitions tell the raster unit when they open, fold
or fault (R985-R987, R999).
-/
namespace Sys2Proof.Machine

open Sys2Proof

/-! ### Pass descriptors -/

def GPass.mode (p : GPass) : Nat := leAt p.desc 0 1
def GPass.id (p : GPass) : Nat := leAt p.desc 1 1
def GPass.ntgt (p : GPass) : Nat := leAt p.desc 2 1
def GPass.hasZ (p : GPass) : Bool := bit (leAt p.desc 3 1) 0
def GPass.hasS (p : GPass) : Bool := bit (leAt p.desc 3 1) 1
def GPass.width (p : GPass) : Nat := leAt p.desc 4 2
def GPass.height (p : GPass) : Nat := leAt p.desc 6 2
def GPass.budget (p : GPass) : Nat := leAt p.desc 8 4
def GPass.fbkSize (p : GPass) : Nat := leAt p.desc 12 4
def GPass.fbkAddr (p : GPass) : Nat := leAt p.desc 16 8

/-- A render target: colour 0-3, depth 4, stencil 5. -/
structure GTgt where
  k : Nat
  addr : Nat
  pitch : Nat
  fmt : Nat
  order : Nat
  load : Nat
  store : Nat
  clear : Nat
deriving DecidableEq, Repr

/-- Colour target `t`. -/
def GPass.tgt (p : GPass) (t : Nat) : GTgt :=
  let b := 0x20 + 0x20 * t
  ⟨t, leAt p.desc b 8, leAt p.desc (b + 8) 4, leAt p.desc (b + 12) 1, leAt p.desc (b + 13) 1, leAt p.desc (b + 14) 1,
    leAt p.desc (b + 15) 1, leAt p.desc (b + 16) 8⟩

/-- The depth target. -/
def GPass.zTgt (p : GPass) : GTgt :=
  ⟨4, leAt p.desc 0xA0 8, leAt p.desc 0xA8 4, 4, 0, leAt p.desc 0xAC 1, leAt p.desc 0xAD 1, leAt p.desc 0xB8 4⟩

/-- The stencil target: one byte a pixel, its pitch a quarter of the depth target's (assumption 6). -/
def GPass.sTgt (p : GPass) : GTgt :=
  ⟨5, leAt p.desc 0xB0 8, leAt p.desc 0xA8 4 / 4, 5, 0, leAt p.desc 0xAC 1, leAt p.desc 0xAD 1, leAt p.desc 0xBC 1⟩

/-- All targets of the pass. -/
def GPass.tgts (p : GPass) : List GTgt :=
  (List.range p.ntgt).map p.tgt ++ (if p.hasZ then [p.zTgt] else []) ++ (if p.hasS then [p.sTgt] else [])

/-- Bytes of a pixel in memory: RGBA16F, RGBA8, RGB10A2, R32F, FP32 depth, stencil. -/
def GTgt.bpp (t : GTgt) : Nat :=
  match t.fmt with
  | 0 => 8 | 5 => 1 | _ => 4

/-- Address of pixel (x, y) of a target. -/
def GTgt.at (t : GTgt) (x y : Nat) : Nat := t.addr + y * t.pitch + x * t.bpp

/-- Bins across and down. -/
def GPass.binsX (p : GPass) : Nat := (p.width + 31) / 32
def GPass.binsY (p : GPass) : Nat := (p.height + 31) / 32

/-- Pixels of row `r` of bin (bX, bY) inside WIDTH and HEIGHT. -/
def GPass.rowLen (p : GPass) (bX bY r : Nat) : Nat :=
  if bY * 32 + r < p.height then min 32 (p.width - bX * 32) else 0

/-! ### The unit's state -/

/-- Replace the frame. -/
def Hw.setFrame (h : Hw) (f : Option GFrame) : Hw := { h with gfx := { h.gfx with frame := f } }

/-- Replace the running pass. -/
def Hw.setPass (h : Hw) (p : Option GPass) : Hw :=
  match h.gfx.frame with
  | some f => h.setFrame (some { f with pass := p })
  | none => h

/-- Partitions in OPEN-GRAPHICS. -/
def Hw.gfxParts (h : Hw) : List Nat := (List.range 16).filter (fun p => h.get (R.SYS_PART_STAT_STATE p) == 3)

/-- Those of them that are not folding: the unit may start jobs there (R985, R986). -/
def Hw.gfxAvail (h : Hw) : List Nat := h.gfxParts.filter (fun p => bits (h.rd R.NOC_FOLD_STAT) (2 * p + 1) (2 * p) == 0)

/-- GFX_STAT follows the unit (R986, R1002). -/
def Hw.gfxShow (h : Hw) : Hw :=
  let st :=
    match h.gfx.frame with
    | none => if h.gfxParts.isEmpty then 2 else 0
    | some _ => if h.gfxAvail.isEmpty then 3 else 1
  let mode :=
    match h.gfx.frame with
    | some f => (match f.pass with | some p => b2n (!p.tiled) | none => 0)
    | none => 0
  ((h.put R.GFX_STAT_STATE st).put R.GFX_STAT_MODE mode).put R.GFX_STAT_GTILES (min 16 (h.gfxParts.length * 4))

/-- Partition `p` enters OPEN-GRAPHICS: its tiles begin to wait, and its image is to be copied (R975, R999). -/
def Hw.gfxOpened (h : Hw) (p : Nat) : Hw :=
  let s := h.gfx.seq + 1
  { h with gfx := { h.gfx with
      seq := s, since := (tilesOf p).foldl (fun m t => NMap.set m t s) h.gfx.since,
      have_ := NSet.del h.gfx.have_ p, released := NSet.del h.gfx.released p } }

/-- Targets whose pixels a lost bin leaves open. -/
def Hw.spoilTgt (h : Hw) (p : GPass) (bX bY : Nat) (t : GTgt) : Hw :=
  (List.range 32).foldl (fun h r =>
    let n := p.rowLen bX bY r
    if n = 0 then h
    else
      let a := t.at (bX * 32) (bY * 32 + r)
      if addrSeat a = h.seat ∧ h.gStatus a (n * t.bpp) true = 0 then
        let f := h.takeFree 2048
        f.2.gPut a (leBytes (n * t.bpp) f.1) []
      else h) h

/-- A bin is lost: its pixels may hold any mix of old and new values, the flag is set and the error logged (R987). The
pixels are open values. -/
def Hw.binLost (h : Hw) (p : GPass) (j : GJob) : Hw :=
  let h := p.tgts.foldl (fun h t => h.spoilTgt p j.bX j.bY t) h
  let h := (h.raise R.GFX_FLAGS_BIN_LOST 0).errAt eGRAPHICS 1 644
  match h.gfx.frame with
  | some f => h.setFrame (some { f with lost := true })
  | none => h

/-- A new segment begins: bin memory is free. -/
def GPass.nextSeg (p : GPass) : GPass := { p with tris := [], used := 0, fresh := true, seg := p.seg + 1 }

/-- The frame is over: its GFX_SUBMIT completes (R960, R987, R1003). -/
def Hw.frameEnd (h : Hw) (f : GFrame) : Hw :=
  let h := h.setFrame none
  let h :=
    match f.fail with
    | some e => h.complete f.mb f.hd e.1 e.2.1 e.2.2
    | none =>
      if f.lost then h.complete f.mb f.hd stMEM_ERROR 3 0
      else h.ok f.mb f.hd (f.passes + 2 ^ 32 * b2n f.lastTiled)
  h.gfxShow

/-- The pass is over (R963, R984). -/
def Hw.passEnd (h : Hw) (f : GFrame) (p : GPass) : Hw :=
  let h := (h.put (R.GFX_AUTO_HIST_DEMAND p.id) (min (2 ^ 31 - 1) p.demand)).putB (R.GFX_AUTO_HIST_VALID p.id) true
  let h := h.put R.GFX_FBK_CNT_COUNT p.fbk
  let f := { f with passes := f.passes + 1, lastTiled := p.tiled, pass := none }
  if f.fail.isSome || f.ent.isEmpty then h.frameEnd f else (h.setFrame (some f)).gfxShow

/-- The segment's jobs are done: the pass goes on, or ends (R965). -/
def Hw.segEnd (h : Hw) : Hw :=
  match h.gfx.frame with
  | some f =>
    match f.pass with
    | some p =>
      if !p.jobs.isEmpty || !p.run.isEmpty then h
      else if p.ended then h.passEnd f p
      else h.setPass (some p.nextSeg)
    | none => h
  | none => h

/-- Partition `q` was faulted or forced to fold: each running job on its tiles is restarted once, or its bin is lost
(R987). -/
def Hw.gfxTilesLost (h : Hw) (q : Nat) : Hw :=
  match h.gfx.frame with
  | none => h
  | some f =>
    match f.pass with
    | none => h
    | some p =>
      let hit := p.run.filter (fun j => partOf j.tile == q)
      let again := (hit.filter (fun j => !j.tried)).map (fun j => { j with tried := true, waves := [], sent := 0 })
      let h := h.setPass (some { p with run := p.run.filter (fun j => partOf j.tile != q), jobs := again ++ p.jobs })
      let h := (hit.filter (fun j => j.tried)).foldl (fun h j => h.binLost p j) h
      if hit.isEmpty then h else h.segEnd

/-- The unit has released partition `q`: its Fold goes on (R985). -/
def Hw.gfxReleased (h : Hw) (q : Nat) : Bool := NSet.has h.gfx.released q

end Sys2Proof.Machine
end

