-- ==== Sys2Proof/Machine/Partition.lean ====
section
/-!
DEFINITION. Partitions: states, faults, jobs and the pacing governor (chapter 15), and the Fold's last steps.
-/
namespace Sys2Proof.Machine

open Sys2Proof

/-- State codes of R797. -/
def pOFF : Nat := 0
def pFOLDED : Nat := 1
def pCOMPUTE : Nat := 2
def pGRAPHICS : Nat := 3
def pFAULT : Nat := 4

/-- Partition p. -/
def Hw.pt (h : Hw) (p : Nat) : PartState := SMap.get (fun _ => PartState.reset) h.part p

/-- Replace partition p. -/
def Hw.setPt (h : Hw) (p : Nat) (x : PartState) : Hw :=
  { h with part := SMap.set (fun _ => PartState.reset) h.part p x }

/-- Change partition p. -/
def Hw.onPt (h : Hw) (p : Nat) (f : PartState → PartState) : Hw := h.setPt p (f (h.pt p))

/-- SYS_PART_STATp.STATE. -/
def Hw.pstate (h : Hw) (p : Nat) : Nat := h.get (R.SYS_PART_STAT_STATE p)

/-- Set the state. -/
def Hw.setPstate (h : Hw) (p s : Nat) : Hw := h.put (R.SYS_PART_STAT_STATE p) s

/-- The partition is fused off (R803). -/
def Hw.fused (h : Hw) (p : Nat) : Bool := !bit h.ident.parten.toNat p

/-- The partition is open. -/
def Hw.popen (h : Hw) (p : Nat) : Bool := h.pstate p == pCOMPUTE || h.pstate p == pGRAPHICS

/-- Tiles of a relative mask, with their relative numbers. -/
def maskTiles (p mask : Nat) : List (Nat × Nat) :=
  (bitList 32 mask).map (fun r => (r, listAt 0 (tilesOf p) r))

/-- The relative number of a tile (R794). -/
def relOf (t : Nat) : Nat := t % 16 + 16 * ((t / 32) % 2)

/-- Apply a function to every tile of a partition. -/
def Hw.onTiles (h : Hw) (p : Nat) (f : Tile → Tile) : Hw := (tilesOf p).foldl (fun h t => h.onTile t f) h

/-- A store clear (R799): every store zero, every tile HALTED at word 0 with HALT_WHY = 0 (R566), images discarded.
Registers of the tiles keep their values. -/
def Tile.clearStores (t : Tile) : Tile :=
  let c : TileCtl := { t.ctl with st := .halted, why := 0, pc := 0, fresh := false, step := false, fold := false,
                                  arrived := none, ckStop := false }
  { t with mem := Tile.reset.mem, ctl := c, mxu := [] }

/-- Clear a partition's stores and discard its images. -/
def Hw.clearPart (h : Hw) (p : Nat) : Hw :=
  (h.onTiles p Tile.clearStores).onPt p (fun x => { x with loaded := none, staged := none })

/-! ### Faults (R828, R829, R842, R843) -/

/-- A job waiting to be released or queued ends with WRONG_STATE (R827). -/
def Hw.startFails (h : Hw) (p : Nat) : Hw :=
  match (h.pt p).start with
  | some s => (h.onPt p (fun x => { x with start := none })).wrongState s.mb s.hd (h.pstate p)
  | none => h

/-- A CHECKPOINT command whose checkpoint ends without records in step 1 completes WRONG_STATE (DESIGN CHOICE, assumption 45). -/
def Hw.ckCancel (h : Hw) (p : Nat) : Hw :=
  let c := (h.pt p).ck
  if c.phase != .arriving then h
  else
    let h := h.onPt p (fun x => { x with ck := { x.ck with phase := .none, cmd := none } })
    let h := h.onTiles p (fun t => { t with ctl := { t.ctl with ckStop := false } })
    match c.cmd with
    | some (m, k) => h.wrongState m k (h.pstate p)
    | none => h

/-- A fault event of partition p: recorded and posted once; outside a Fold the partition enters FAULT and its tiles
halt. Code 3 also fences the ports (R70). -/
def Hw.partFault (h : Hw) (p code rel : Nat) : Hw :=
  if !h.popen p || (h.pt p).faulted then h
  else
    let h := h.onPt p (fun x => { x with faulted := true })
    let h := (h.put (R.SYS_PART_FAULT_CODE p) code).put (R.SYS_PART_FAULT_TILE p) rel
    let h := (h.postEvent p evPART_FAULT (p + code * 65536)).postEvent 16 evPART_FAULT (p + code * 65536)
    let h := if code = 3 then h.fenceAll (tilesOf p) .pll true else h
    if h.foldStat p == fFOLDING then h
    else
      let h := h.setPstate p pFAULT
      let h := h.onTiles p (fun t =>
        let t := { t with ctl := { t.ctl with arrived := none, ckStop := false } }
        if t.running then t.halt 2 else t)
      ((h.ckCancel p).gfxTilesLost p).gfxShow

/-- The lowest relative tile that stands FAULTED. -/
def Hw.faultedTile (h : Hw) (p : Nat) : Option Nat :=
  (List.range 32).find? (fun r => (h.tile (listAt 0 (tilesOf p) r)).ctl.st == .faulted)

/-! ### Jobs (R816-R827, R667-R670) -/

/-- A little-endian field of an image. -/
def imgFld (bs : List Byte) (o n : Nat) : Nat := leAt bs o n

/-- Check a job image of `len` bytes for a slice of `sl` MiB from `sb` (R816-R818). NSEC outside 1 to 256, an ENTRY or
TVEC above word 1,023, a section table past the image, and an LLIST section whose LEN is not 0 or whose address is no
multiple of 16 also fail (DEDUCED, assumption 44). -/
def parseJob (bs : List Byte) (len sb sl : Nat) : Option JobImg :=
  let nsec := imgFld bs 6 2
  let mask := imgFld bs 0x0C 4
  let sec (i : Nat) : Option Sect :=
    let b := 0x40 + 16 * i
    let tile := imgFld bs b 1
    let kind := imgFld bs (b + 1) 1
    let dest := imgFld bs (b + 4) 4
    let src := imgFld bs (b + 8) 4
    let n := imgFld bs (b + 12) 4
    let tileOk := kind == 2 || tile == 0xFF || (decide (tile < 32) && bit mask tile)
    let destOk :=
      match kind with
      | 0 => dest % 64 == 0 && decide (dest + n ≤ 0x10000)
      | 1 => dest % 32 == 0 && decide (dest + n ≤ 0x40000)
      | 2 => decide (dest + n ≤ sl * 2 ^ 20)
      | 3 => dest % 16 == 0 && n == 0 && decide (dest < sl * 2 ^ 20)
      | _ => false
    if tileOk && destOk && decide (src + n ≤ len) then some ⟨tile, kind, dest, (bs.drop src).take n⟩ else none
  let secs := (List.range nsec).map sec
  if len < 64 ∨ bs.length ≠ len then none
  else if bs.take 4 != leBytes 4 0x424A4C44 || imgFld bs 4 2 != 1 || imgFld bs 0x3C 4 != crc32c (bs.take 0x3C) then none
  else if imgFld bs 0x1C 4 != len || imgFld bs 0x20 2 != sb || imgFld bs 0x22 2 != sl then none
  else if nsec = 0 ∨ 256 < nsec ∨ len < 0x40 + 16 * nsec ∨ 1023 < imgFld bs 0x10 2 ∨ 1023 < imgFld bs 0x12 2 then none
  else if secs.any (fun s => s.isNone) then none
  else
    some { job := imgFld bs 8 4, mask := mask, entry := imgFld bs 0x10 2, tvec := imgFld bs 0x12 2,
           ten := bit (imgFld bs 0x14 2) 0, seed := imgFld bs 0x18 4, secs := secs.filterMap (fun s => s) }

/-- Does a section go to relative tile r? -/
def Sect.to (s : Sect) (mask r : Nat) : Bool := s.tile == r || (s.tile == 0xFF && bit mask r)

/-- Apply a section of a tile: IMEM, TSTORE, or LLIST (R817, R683). -/
def Tile.section (t : Tile) (s : Sect) (listBase : Nat) : Tile :=
  match s.kind with
  | 0 => { t with mem := { t.mem with imem := Mem.write t.mem.imem s.dest s.data } }
  | 1 => t.tsWrite s.dest s.data
  | 3 => { t with str := { t.str with llist := (listBase + s.dest) % 2 ^ 48 } }
  | _ => t

/-- Global address of the partition's slice. -/
def Hw.sliceBase (h : Hw) (p : Nat) : Nat := gHbm h.seat (h.get (R.NOC_ISO_SLICE_SLICE_BASE p) * 2 ^ 20)

/-- Copy the sections of the kinds chosen to their tiles. -/
def Hw.copySecs (h : Hw) (p : Nat) (img : JobImg) (kinds : Nat → Bool) : Hw :=
  img.secs.foldl (fun h s =>
    if s.kind = 2 ∨ !kinds s.kind then h
    else (maskTiles p img.mask).foldl (fun h e =>
      if s.to img.mask e.1 then h.onTile e.2 (fun t => t.section s (h.sliceBase p)) else h) h) h

/-- JOB_START step 1 on a tile: the engine starts on the layer list (R667, R683). -/
def Tile.jobBegin (t : Tile) : Tile :=
  { t with str := { t.str with next := t.str.llist, walking := true, ended := false, jobErr := 0 } }

/-- R823: a halted tile of a queued job takes its deferred sections, once no SSTORE still has to read the bytes they
write (R638), and begins its layer 0 fills (R669). -/
def Hw.jobPrep (h : Hw) (p rel : Nat) : Hw :=
  match (h.pt p).start with
  | none => h
  | some s =>
    let n := listAt 0 (tilesOf p) rel
    let t := h.tile n
    let secs := s.img.secs.filter (fun c => (c.kind == 0 || c.kind == 1) && c.to s.img.mask rel)
    let mine := match (h.pt p).run with
      | some r => !bit r.mask rel || t.ctl.why == 1
      | none => true
    if !bit s.img.mask rel || NSet.has s.begun rel || t.running || !mine ||
        secs.any (fun c => c.kind == 1 && t.held c.dest c.data.length) then h
    else
      let h := h.setTile n (secs.foldl (fun t c => t.section c 0) t).jobBegin
      h.onPt p (fun x => { x with start := some { s with begun := NSet.add s.begun rel } })

/-- Prepare every tile that can be. -/
def Hw.jobPrepAll (h : Hw) (p : Nat) : Hw := (List.range 32).foldl (fun h r => h.jobPrep p r) h

/-- The running job ends with a status (R826, R827). -/
def Hw.endJob (h : Hw) (p status : Nat) : Hw :=
  match (h.pt p).run with
  | none => h
  | some r =>
    let h := h.onPt p (fun x => { x with run := none, flrJob := false,
                                         staged := if status = 0 then x.staged else none })
    let h := h.postEvent r.mb evJOB_DONE (r.job + status * 2 ^ 32)
    if status = 0 then h else h.startFails p

/-- R825: the job's part on a tile has ended, as far as its streams go. -/
def Tile.jobQuiet (t : Tile) (next : Bool) : Bool := t.progOps.isEmpty && (next || t.quiet)

/-- JOB_END: the job of partition p ends when its tiles and streams have (R670, R825, R826, R829). -/
def Hw.jobEnd (h : Hw) (p : Nat) : Hw :=
  let x := h.pt p
  match x.run with
  | none => h
  | some r =>
    let ts := maskTiles p r.mask
    let begun := match x.start with
      | some s => s.begun
      | none => []
    let t (e : Nat × Nat) : Tile := h.tile e.2
    if ts.any (fun e => (t e).running || !(t e).jobQuiet (NSet.has begun e.1)) then h
    else if x.flrJob then h.endJob p 3
    else if h.pstate p == pFAULT then h.endJob p 1
    else if ts.all (fun e => [1, 5, 6, 7].contains (t e).ctl.why) then
      h.endJob p (if ts.all (fun e => (t e).ctl.why == 1) then 0
        else if ts.any (fun e => (t e).ctl.why == 5) then 2 else 1)
    else h

/-- Every tile of a starting job has its layer 0 in place, or failed. -/
def Hw.jobFilled (h : Hw) (p : Nat) (s : JobStart) : Bool :=
  (maskTiles p s.img.mask).all (fun e => NSet.has s.begun e.1 && (h.tile e.2).filled)

/-- Steps 3 to 5 of R667 on one tile. -/
def Tile.release (t : Tile) (img : JobImg) : Tile :=
  let s := t.str
  let t := { t with str := { s with map := !s.map, num := 0, walking := !s.ended } }
  let c := t.ctl
  let t := { t with ctl := { c with tvec := img.tvec, ten := img.ten, pc := img.entry, intrap := false } }
  (t.loadSeed img.seed).ctlRun

/-- JOB_RELEASE (R667, R668, R670, R821). -/
def Hw.jobRelease (h : Hw) (p : Nat) : Hw :=
  let h := h.jobPrepAll p
  let x := h.pt p
  match x.start, x.run with
  | some s, none =>
    let ts := maskTiles p s.img.mask
    let err := ts.foldl (fun a e => if a = 0 then (h.tile e.2).str.jobErr else a) 0
    if h.pstate p != pCOMPUTE then h.startFails p
    else if err != 0 then
      (h.onPt p (fun x => { x with start := none })).complete s.mb s.hd stMEM_ERROR err 0
    else if !h.jobFilled p s then h
    else
      let h := ts.foldl (fun h e => h.onTile e.2 (fun t => t.release s.img)) h
      let h := h.onPt p (fun x => { x with start := none, run := some ⟨s.img.job, s.img.mask, s.mb⟩,
                                           job := s.img.job, loaded := some s.img, staged := none })
      h.ok s.mb s.hd h.clk.tt
  | _, _ => h

/-! ### The governor (R809-R815, R844-R846) -/

/-- The governor may act: the partition is open and no Fold has begun. -/
def Hw.govOn (h : Hw) (p : Nat) : Bool := h.popen p && h.foldStat p == fOPEN

/-- Counters of a tile as they cross into SYSCLK (R60). -/
def Tile.counts (t : Tile) : Nat := t.ctl.cntRun.toNat % 65536 + 65536 * (t.ctl.cntSstall.toNat % 65536)

/-- A new window begins with fresh sums; `fresh` also takes the counters as they stand. -/
def Hw.govStart (h : Hw) (p : Nat) (fresh : Bool) : Hw :=
  let l := if fresh then
      ((List.range 32).zip (tilesOf p)).foldl (fun m e => NMap.set m e.1 (h.tile e.2).counts) []
    else (h.pt p).gov.last
  h.onPt p (fun x => { x with gov := { run := 0, stall := 0, last := l, closed := false } })

/-- PACING_SAMPLE (R809). -/
def Hw.govSample (h : Hw) (p : Nat) : Hw :=
  if !h.govOn p then h
  else
    let g := ((List.range 32).zip (tilesOf p)).foldl (fun (g : Gov) e =>
      let t := h.tile e.2
      if !t.running then g
      else
        let a := NMap.get g.last e.1
        let c := t.counts
        { g with run := g.run + subMod 16 c a, stall := g.stall + subMod 16 (c / 65536) (a / 65536),
                 last := NMap.set g.last e.1 c }) (h.pt p).gov
    h.onPt p (fun x => { x with gov := g })

/-- Request a step and count it (R855 PACE_CNT). -/
def Hw.govStep (h : Hw) (p : Nat) (up : Bool) : Hw :=
  (h.stepReq p up).bump (if up then R.PACE_CNT_UP p else R.PACE_CNT_DOWN p)

/-- A checkpoint is in steps 2 to 5. -/
def Hw.ckBusy (h : Hw) (p : Nat) : Bool := (h.pt p).ck.phase == .writing

/-- PACING_WINDOW (R811, R812). -/
def Hw.govWindow (h : Hw) (p : Nat) : Hw :=
  let g := (h.pt p).gov
  if !h.govOn p || g.closed then h
  else if g.run = 0 ∨ h.ckBusy p then (h.put (R.PACE_STAT_LAST p) 3).govStart p false
  else
    let f := min 255 (256 * g.stall / g.run)
    let k := h.get (R.SYS_TCLK_CUR_STEP p)
    let h := (h.put (R.PACE_STAT_F p) f).govStart p false
    let close (h : Hw) : Hw := h.onPt p (fun x => { x with gov := { x.gov with closed := true } })
    if h.get (R.PACE_BAND_HI p) < f ∧ h.floorEff p < k then
      close ((h.put (R.PACE_STAT_LAST p) 2).govStep p false)
    else if f < h.get (R.PACE_BAND_LO p) ∧ k < h.ceilEff p then
      close ((h.put (R.PACE_STAT_LAST p) 1).govStep p true)
    else h.put (R.PACE_STAT_LAST p) 0

/-- PACING_CORRECT (R813). -/
def Hw.govCorrect (h : Hw) (p : Nat) : Hw :=
  if !h.govOn p then h
  else if h.lastStep p < h.floorEff p then h.govStep p true
  else if h.ceilEff p < h.lastStep p then h.govStep p false
  else h

/-- A completed step opens the window that waited for it (R812). -/
def Hw.stepDone (h : Hw) (p : Nat) : Hw :=
  let h := h.stepComplete p
  if (h.pt p).gov.closed && !h.slewing p then h.govStart p false else h

/-! ### Opening and folding (R715 steps 7 and 8, R720, R798, R820) -/

/-- Unfold a FOLDED partition in mode `m` at clock step `k`: clock, fences, state, governor. -/
def Hw.unfoldPart (h : Hw) (p m k : Nat) : Hw :=
  let h := h.clkStart p k
  let h := { h with noc := { h.noc with gated := NSet.del h.noc.gated p } }
  let h := h.fenceAll (tilesOf p) .fold false
  let h := h.onTiles p (fun t => { t with str := { t.str with stopped := false }, ctl := { t.ctl with fold := false } })
  let h := h.setFoldStat p fOPEN
  let h := h.onPt p (fun x => { x with mode := m, faulted := false })
  let h := (h.setPstate p (if m = 1 then pGRAPHICS else pCOMPUTE)).govStart p true
  if m = 1 then (h.gfxOpened p).gfxShow else h

/-- The step a FOLDED partition starts at: its last one, clamped (R820). -/
def Hw.clampedStep (h : Hw) (p : Nat) : Nat :=
  max (h.floorEff p) (min (h.ceilEff p) (h.get (R.SYS_TCLK_CUR_STEP p)))

/-- An unfold request (R726, R727): held while FOLDING; without effect on a partition that is OFF or fused off. -/
def Hw.unfoldReq (h : Hw) (k : Nat) : Hw :=
  if h.foldStat k == fFOLDING then h.setFsm k { h.fsm k with held := true }
  else if 16 ≤ k then h.unfoldPort (k - 16)
  else if h.foldStat k == fFOLDED && h.pstate k == pFOLDED && !h.fused k then
    h.unfoldPart k (h.pt k).mode (h.clampedStep k)
  else h

/-- A fold request for region k (R725): joined while FOLDING, complete at once where it reads FOLDED. -/
def Hw.foldRequest (h : Hw) (k : Nat) (pgate : Bool) (acks : List Nat) : Hw :=
  if h.foldStat k == fFOLDING then h.foldJoin k acks
  else if h.foldStat k == fOPEN then
    let h := h.foldStart k pgate acks
    if k < 16 then h.setHeld k [] else h
  else acks.foldl (fun h a => h.ok (a / 32) (a % 32) 0) h

/-- Steps 3 and 4 of an FLR (R840): stores, windows, fault code and pacing registers; then the mailbox is ready. -/
def Hw.flrFinish (h : Hw) (p : Nat) : Hw :=
  match (h.pt p).flr with
  | none => h
  | some reopen =>
    let h := h.endJob p 3
    let h := h.onTiles p (fun _ => Tile.reset)
    let h := h.startFails p
    let h := ((h.put (R.SYS_PART_FAULT_CODE p) 0).put (R.SYS_PART_FAULT_TILE p) 0)
    let h := (h.wr (R.PACE_CFG p) (resetWord (R.PACE_CFG p)).toNat).wr (R.PACE_BAND p) (resetWord (R.PACE_BAND p)).toNat
    let m := (h.pt p).mode
    let h := h.setPt p { PartState.reset with mode := m, job := (h.pt p).job }
    let h := if reopen && h.pstate p == pFOLDED then h.unfoldPart p m (h.clampedStep p) else h
    h.putBit R.PCIE_FLR_STAT_FLR p false

/-- Step 7 for a partition: the clock stops and, if asked, its power is gated, which leaves it OFF with its stores lost
(R797). -/
def Hw.foldStop (h : Hw) (p : Nat) (pgate : Bool) : Hw :=
  let h := h.clkStop p
  if pgate then
    let h := { h with noc := { h.noc with gated := NSet.add h.noc.gated p } }
    ((h.clearPart p).setPstate p pOFF).gfxShow
  else (h.setPstate p pFOLDED).gfxShow

/-- FOLD_ACK for region k (R715 steps 7 and 8, R719, R726, R840). -/
def Hw.foldAck (h : Hw) (k : Nat) : Hw :=
  if !h.foldReady k || (decide (k < 16) && h.slewing k) then h
  else
    let f := h.fsm k
    let h := (h.setFsm k FoldSm.reset).setFoldStat k fFOLDED
    let h := if f.forced then h.forcedFlag k else h
    let h := if k < 16 then (((h.foldStop k f.pgate).ckCancel k).jobEnd k).startFails k else h
    let h := f.acks.foldl (fun h a => h.complete (a / 32) (a % 32) stOK (b2n f.forced) 0) h
    let h := if k < 16 then h.flrFinish k else h
    if f.held then h.unfoldReq k else h

/-! ### Response timeouts (R724) -/

/-- RSP_TIMEOUT: node n closes its request `tag` with STATUS ERROR; on a tile it is a fault event (R828). -/
def Hw.rspTimeout (h : Hw) (n tag : Nat) : Hw :=
  match h.noc.outst.find? (fun o => o.node == n && o.tag == tag && o.closed == .live) with
  | none => h
  | some o =>
    let l := h.noc.outst.map (fun x => if x = o then { x with closed := .byTimeout } else x)
    let a : Arrived := ⟨n, tag, 1, [], []⟩
    let h := { h with noc := { h.noc with outst := l, inbox := h.noc.inbox ++ [a] } }
    let h := h.errAddr eTIMEOUT 1 n o.addr
    if n < 512 then h.partFault (partOf n) 2 (relOf n) else h

end Sys2Proof.Machine
end

