-- ==== Sys2Proof/Machine/PartCmd.lean ====
section
/-!
DEFINITION. The partition and job commands (R409, R798-R827, R845) and checkpoints (R831-R839, R847, R848).
-/
namespace Sys2Proof.Machine

open Sys2Proof

/-- Checks shared by the commands on a partition: its number, then (after `par`) whether it is fused off. -/
def Hw.partCmd (h : Hw) (m k op : Nat) (par : InFlight → Option Nat) (fusedOk : Bool) (f : InFlight → Nat → Hw) : Hw :=
  h.onCmd m k op (fun c =>
    let p := c.part
    if 16 ≤ p then h.badParam m k 0
    else
      match par c with
      | some o => h.badParam m k o
      | none =>
        h.whenReleased m k
          (if h.fused p then (if fusedOk then h.ok m k 0 else h.complete m k stNO_RESOURCE 1 0)
           else f c p))

/-- Partitions that count against the limit of R807. -/
def Hw.graphicsCount (h : Hw) : Nat :=
  ((List.range 16).filter (fun p =>
    h.pstate p == pGRAPHICS || (h.pstate p == pFAULT && (h.pt p).mode == 1))).length

/-- PART_OPEN's parameters: MODE, then the slice in multiples of 64 MiB, ending by 32,768 MiB (R409, R801). -/
def openPar (c : InFlight) : Option Nat :=
  if 1 < c.par 1 1 then some 1
  else if c.par 4 4 % 64 != 0 || decide (32768 < c.par 4 4 + c.par 8 4) then some 4
  else if c.par 8 4 % 64 != 0 then some 8
  else none

/-- Open a partition that is OFF or FOLDED (R798, R801, R820). -/
def Hw.openPart (h : Hw) (p mode base len : Nat) : Hw :=
  let off := h.pstate p == pOFF
  let h := if off || mode != (h.pt p).mode then h.clearPart p else h
  let h := (h.put (R.NOC_ISO_SLICE_SLICE_BASE p) base).put (R.NOC_ISO_SLICE_SLICE_LEN p) len
  h.unfoldPart p mode (if off then h.floorEff p else h.clampedStep p)

/-- A partition kept as a spare for a re-deal (R1140). -/
def Hw.spare (h : Hw) (p : Nat) : Bool := h.bitOf R.TBL_SPARE_MASK p

/-- PART_OPEN. -/
def Hw.partOpen (h : Hw) (m k : Nat) : Hw :=
  h.onCmd m k 0x0100 (fun c =>
    if c.part < 16 && h.spare c.part then h.complete m k stNOT_PERMITTED m 0
    else h.partCmd m k 0x0100 openPar false (fun c p =>
      let s := h.pstate p
      if s != pOFF && s != pFOLDED then h.wrongState m k s
      else if c.par 1 1 = 1 ∧ 4 ≤ h.graphicsCount then h.complete m k stNO_RESOURCE 2 0
      else
        let h := h.openPart p (c.par 1 1) (c.par 4 4) (c.par 8 4)
        h.ok m k (h.pstate p)))

/-- No parameters beyond PART. -/
def noPar (_ : InFlight) : Option Nat := none

/-- PART_FOLD: completes at FOLD_ACK. -/
def Hw.partFold (h : Hw) (m k : Nat) : Hw :=
  h.partCmd m k 0x0101 noPar true (fun _ p =>
    if !h.popen p && h.pstate p != pFAULT then h.wrongState m k (h.pstate p)
    else (h.begun m k).foldRequest p false [32 * m + k])

/-- PART_OFF. -/
def Hw.partOff (h : Hw) (m k : Nat) : Hw :=
  h.partCmd m k 0x0102 noPar true (fun _ p =>
    if h.pstate p != pFOLDED then h.wrongState m k (h.pstate p)
    else
      let h := { h with noc := { h.noc with gated := NSet.add h.noc.gated p } }
      ((h.clearPart p).setPstate p pOFF).ok m k 0)

/-- PART_PACE's parameters (R409, R845). -/
def pacePar (c : InFlight) : Option Nat :=
  let fl := c.par 1 1
  let ce := c.par 2 1
  let w := c.par 5 1
  if 28 < fl ∨ (ce ≤ 28 ∧ ce < fl) then some 1
  else if 28 < ce then some 2
  else if c.par 4 1 ≤ c.par 3 1 then some 3
  else if w % 4 != 0 || decide (w < 4) || decide (64 < w) then some 5
  else none

/-- PART_PACE (R846). A window of 64 µs leaves 0 in the 6 bits of WIN_US (DEDUCED, assumption 17). -/
def Hw.partPace (h : Hw) (m k : Nat) : Hw :=
  h.partCmd m k 0x0103 pacePar false (fun c p =>
    let h := ((h.put (R.PACE_CFG_FLOOR p) (c.par 1 1)).put (R.PACE_CFG_CEIL p) (c.par 2 1)).put (R.PACE_CFG_WIN_US p) (c.par 5 1)
    let h := (h.put (R.PACE_BAND_LO p) (c.par 3 1)).put (R.PACE_BAND_HI p) (c.par 4 1)
    (h.govStart p false).ok m k 0)

/-- Shares of a partition that count: (READ, WRITE, REMOTE) of one in SPLIT. -/
def Hw.shares (h : Hw) (p : Nat) : Nat × Nat × Nat :=
  if h.is (R.PACE_BW_MODE p) then (h.get (R.PACE_BW_READ p), h.get (R.PACE_BW_WRITE p), h.get (R.PACE_BW_REMOTE p))
  else (0, 0, 0)

/-- The sums of R675 hold. -/
def Hw.sharesFit (h : Hw) : Bool :=
  let s := (List.range 16).foldl (fun (a : Nat × Nat × Nat) p =>
    let x := h.shares p
    (a.1 + x.1, a.2.1 + x.2.1, a.2.2 + x.2.2)) (0, 0, 0)
  decide (s.1 ≤ 16 ∧ s.2.1 ≤ 16 ∧ s.2.2 ≤ 16 ∧ s.1 + s.2.1 ≤ 16)

/-- Write PACE_BWp if the sums allow it (R675); a write that would break them leaves it unchanged. -/
def Hw.setBw (h : Hw) (p v : Nat) : Option Hw :=
  let h' := h.wr (R.PACE_BW p) v
  if h'.sharesFit then some h' else none

/-- PART_BW's parameters. -/
def bwPar (c : InFlight) : Option Nat :=
  if 1 < c.par 1 1 then some 1
  else if 16 < c.par 2 1 then some 2
  else if 16 < c.par 3 1 then some 3
  else if 16 < c.par 4 1 then some 4
  else none

/-- PART_BW. -/
def Hw.partBw (h : Hw) (m k : Nat) : Hw :=
  h.partCmd m k 0x0104 bwPar false (fun c p =>
    match h.setBw p (c.par 1 1 + c.par 2 1 * 2 ^ 8 + c.par 3 1 * 2 ^ 16 + c.par 4 1 * 2 ^ 24) with
    | some h => h.ok m k 0
    | none => h.complete m k stNO_RESOURCE 3 0)

/-- Bytes that a command of the Dealer reads from global memory: `none` waits; a status other than 0 is MEM_ERROR's
DETAIL. `far` is what another seat answers; another length than asked stands for an error response. -/
def Hw.dealerRead (h : Hw) (a n : Nat) (far : List Byte) : Option (Nat × List Byte × Hw) :=
  match h.niCheck 640 a n none with
  | (some 2, h) => some (3, [], h)
  | (some _, h) => some (1, [], h)
  | (none, h) =>
    match h.gStatus a n false with
    | 0 =>
      let r := h.gGet a n
      if r.2.1.any (fun b => b) then some (2, [], r.2.2) else some (0, r.1, r.2.2)
    | 2 => some (3, [], h)
    | 3 => none
    | 4 => if far.length = n then some (0, far, h) else some (1, [], h)
    | _ => some (1, [], h.gFault a n)

/-- A write of the Dealer to global memory: `none` waits; else MEM_ERROR's DETAIL, 0 for served. `farOk` is the answer
of another seat. -/
def Hw.dealerWrite (h : Hw) (a : Nat) (bs : List Byte) (ps : List Bool) (farOk : Bool) : Option (Nat × Hw) :=
  match h.niCheck 640 a bs.length none with
  | (some 2, h) => some (3, h)
  | (some _, h) => some (1, h)
  | (none, h) =>
    match h.gStatus a bs.length true with
    | 0 => some (0, h.gPut a bs ps)
    | 2 => some (3, h)
    | 3 => none
    | 4 => some (if farOk then 0 else 1, h)
    | _ => some (1, h)

/-- PROGRAM_LOAD's parameters (R410); a LEN that holds no header is one (R818). -/
def loadPar (c : InFlight) : Option Nat :=
  if 1 < c.par 1 1 then some 1
  else if (c.par 1 1 = 1 ∧ c.par 8 8 ≠ 0) ∨ 2 ^ 48 ≤ c.par 8 8 then some 8
  else if c.par 1 1 = 0 ∧ c.par 16 8 ≠ 0 then some 16
  else if c.par 24 4 < 64 then some (if c.par 1 1 = 0 then 8 else 16)
  else none

/-- The image lies in the slice of partition m (R819). -/
def Hw.inSlice (h : Hw) (p a n : Nat) : Bool :=
  match addrTarget a with
  | .hbm o => addrSeat a == h.seat && within o n (h.get (R.NOC_ISO_SLICE_SLICE_BASE p) * 2 ^ 20)
      (h.get (R.NOC_ISO_SLICE_SLICE_LEN p) * 2 ^ 20)
  | _ => false

/-- Copy an image's HBM sections into the slice (R817): MEM_ERROR's DETAIL, 0 for all written. -/
def Hw.copyHbm (h : Hw) (p : Nat) (img : JobImg) : Option (Nat × Hw) :=
  img.secs.foldl (fun r s =>
    match r with
    | some (0, h) => if s.kind = 2 then h.dealerWrite (h.sliceBase p + s.dest) s.data [] false else r
    | _ => r) (some (0, h))

/-- An image's section table, as far as it can be read, names an HBM section (R822). -/
def rawHbm (bs : List Byte) : Bool :=
  (List.range (min 256 (imgFld bs 6 2))).any (fun i =>
    decide (0x50 + 16 * i ≤ bs.length) && imgFld bs (0x41 + 16 * i) 1 == 2)

/-- PROGRAM_LOAD with its image at hand (R818, R821). While a job runs, an HBM section is found before the checks of R818
(R822). -/
def Hw.loadImage (h : Hw) (m k p : Nat) (c : InFlight) (bs : List Byte) : Hw :=
  let where' := if c.par 1 1 = 0 then 8 else 16
  if (h.pt p).run.isSome && rawHbm bs then h.wrongState m k (h.pstate p) else
  match parseJob bs (c.par 24 4) (h.get (R.NOC_ISO_SLICE_SLICE_BASE p)) (h.get (R.NOC_ISO_SLICE_SLICE_LEN p)) with
  | none => h.badParam m k where'
  | some img =>
    if (h.pt p).run.isSome then
      ((h.copySecs p img (fun q => q == 3)).onPt p (fun x => { x with staged := some img })).ok m k 0
    else if img.secs.any (fun s => s.kind == 0 && (maskTiles p img.mask).any (fun e =>
        s.to img.mask e.1 && (h.tile e.2).running)) then h.complete m k stMEM_ERROR 1 0
    else
      match h.copyHbm p img with
      | none => h
      | some (0, h) =>
        ((h.copySecs p img (fun _ => true)).onPt p (fun x => { x with loaded := some img, staged := none })).ok m k 0
      | some (d, h) => h.complete m k stMEM_ERROR d 0

/-- PROGRAM_LOAD's state rules: the partition is in COMPUTE, and no host image is staged beside a running job (R821,
R822). -/
def Hw.loadBarred (h : Hw) (c : InFlight) (p : Nat) : Bool :=
  h.pstate p != pCOMPUTE || (c.par 1 1 == 1 && (h.pt p).run.isSome)

/-- A PROGRAM_LOAD from host memory passes the checks made before its image is at hand (R382). -/
def Hw.loadPasses (h : Hw) (c : InFlight) : Bool :=
  decide (c.part < 16) && (loadPar c).isNone && h.is R.CFG_STAT_RELEASED && !h.fused c.part && !h.loadBarred c c.part

/-- PROGRAM_LOAD. -/
def Hw.programLoad (h : Hw) (m k : Nat) (far : List Byte) : Hw :=
  h.onCmd m k 0x0105 (fun c =>
  if m < 16 && c.par 1 1 == 0 && !h.inSlice m (c.par 8 8) (c.par 24 4) then h.complete m k stNOT_PERMITTED m 0
  else h.partCmd m k 0x0105 loadPar false (fun c p =>
    let src := c.par 8 8
    let len := c.par 24 4
    if h.loadBarred c p then h.wrongState m k (h.pstate p)
    else if c.par 1 1 = 1 then
      match h.hostData m k with
      | some bs => h.loadImage m k p c bs
      | none => h
    else
      match h.dealerRead src len far with
      | none => h
      | some (0, bs, h) => h.loadImage m k p c bs
      | some (d, _, h) => h.complete m k stMEM_ERROR d 0))

/-- JOB_START (R667, R821, R823): fills begin, or the next job is queued; it completes at JOB_RELEASE. -/
def Hw.jobStart (h : Hw) (m k : Nat) : Hw :=
  h.partCmd m k 0x0106 noPar false (fun c p =>
    let x := h.pt p
    let img := if x.run.isSome then x.staged else x.staged.orElse (fun _ => x.loaded)
    match img with
    | none => h.wrongState m k (h.pstate p)
    | some i =>
      if i.job != c.par 4 4 then h.badParam m k 4
      else if h.pstate p != pCOMPUTE then h.wrongState m k (h.pstate p)
      else
        let fresh := x.staged.isNone
        let h := (h.begun m k).onPt p (fun x => { x with start := some ⟨i, m, k, []⟩ })
        if fresh then
          let ts := maskTiles p i.mask
          let h := ts.foldl (fun h e => h.onTile e.2 Tile.jobBegin) h
          h.onPt p (fun x => { x with start := some ⟨i, m, k, ts.foldl (fun s e => NSet.add s e.1) []⟩ })
        else h.jobPrepAll p)

/-- PART_STATUS (R409, R804): of a fused-off partition, state OFF. The job id is the last job's (DEDUCED, assumption 44). -/
def Hw.partStatus (h : Hw) (m k : Nat) : Hw :=
  h.onCmd m k 0x0108 (fun c =>
    let p := c.part
    if 16 ≤ p then h.badParam m k 0
    else if h.fused p then h.ok m k 0
    else h.ok m k (h.pstate p + h.get (R.SYS_TCLK_CUR_STEP p) * 2 ^ 8 + h.get (R.PACE_STAT_F p) * 2 ^ 16 +
      (h.pt p).job * 2 ^ 32))

/-! ### Checkpoints -/

/-- CHECKPOINT (R834 step 1, R837): every tile in RUN stops at a word boundary. While a checkpoint of the tiles' own
runs, the command waits. -/
def Hw.checkpoint (h : Hw) (m k : Nat) : Hw :=
  h.partCmd m k 0x0107 noPar false (fun _ p =>
    let x := h.pt p
    if h.pstate p != pCOMPUTE then h.wrongState m k (h.pstate p)
    else if x.ck.phase != .none then h
    else
      let h := h.begun m k
      let h := h.onTiles p (fun t =>
        if t.running then
          let t := t.halt 2
          { t with ctl := { t.ctl with arrived := none, ckStop := true } }
        else t)
      h.onPt p (fun x => { x with ck := { x.ck with phase := .arriving, tag := 0xFFFF, cmd := some (m, k) } }))

/-- A CKPT word at the head of tile t: the tile arrives once its matrix operations have written back and no stream
operation is outstanding (R834 step 1). -/
def Tile.ckptArrive (t : Tile) (tag : Nat) : Tile :=
  if t.mxu.isEmpty && t.str.ops.isEmpty then { t with ctl := { t.ctl with arrived := some tag } } else t

/-- The tiles whose arrival a CKPT checkpoint waits for: those of the job, or without a job those in RUN (DEDUCED, assumption 45). -/
def Hw.ckMask (h : Hw) (p : Nat) : List (Nat × Nat) :=
  match (h.pt p).run with
  | some r => maskTiles p r.mask
  | none => (maskTiles p 0xFFFFFFFF).filter (fun e => (h.tile e.2).running)

/-- CHECKPOINT_WRITE: step 2 begins (R834, R836, R838). -/
def Hw.ckWrite (h : Hw) (p : Nat) : Hw :=
  let x := h.pt p
  if !h.popen p || h.foldStat p != fOPEN || x.ck.copying then h
  else
    match x.ck.phase with
    | .writing => h
    | .arriving =>
      if (tilesOf p).all (fun t => !(h.tile t).ctl.ckStop || ((h.tile t).quiet && (h.tile t).mxu.isEmpty)) then
        h.onPt p (fun x => { x with ck := { x.ck with phase := .writing } })
      else h
    | .none =>
      let es := h.ckMask p
      let tags := es.filterMap (fun e => (h.tile e.2).ctl.arrived)
      if es.isEmpty || tags.length != es.length then h
      else
        let tag := tags.headD 0
        match es.find? (fun e => (h.tile e.2).ctl.arrived != some tag) with
        | some e => h.partFault p 4 e.1
        | none => h.onPt p (fun x => { x with ck := { x.ck with phase := .writing, tag := tag, cmd := none } })

/-- The 0x6_2000 bytes of a tile record (R831). -/
def Tile.record (t : Tile) : List Byte :=
  (List.range 0x60000).map (fun o => t.byteAt o) ++
    ((List.range 0x800).map (fun w => leBytes 4 (t.winRd (4 * w)))).flatten

/-- Poison of each 32-byte line of a tile record (R833). -/
def Tile.recordPoison (t : Tile) : List Bool :=
  (List.range 0x3100).map (fun l => (List.range 32).any (fun i => decide (32 * l + i < 0x50000) && t.bytePoison (32 * l + i)))

/-- Tiles whose words or stops the checkpoint held go on (R834 step 5). -/
def Hw.ckResume (h : Hw) (p own : Nat) (sh : Shares) : Hw :=
  h.onTiles p (fun t =>
    if t.ctl.ckStop then
      let t := { t with ctl := { t.ctl with ckStop := false } }
      if t.running || t.ctl.why != 2 then t else t.start
    else if t.ctl.arrived.isSome && t.running then
      let t := { t with ctl := { t.ctl with arrived := none } }
      match t.wFault t.word own sh with
      | some (sl, f) => t.except sl f
      | none => t.commit t.word
    else t)

/-- Bandwidth shares of partition p as the X slot's checks see them. -/
def Hw.sharesOf (h : Hw) (p : Nat) : Shares :=
  ⟨h.is (R.PACE_BW_MODE p), h.get (R.PACE_BW_READ p), h.get (R.PACE_BW_WRITE p), h.get (R.PACE_BW_REMOTE p)⟩

/-- A checkpoint is abandoned (R839): the previous buffer stays active, tiles go on, and the command completes
MEM_ERROR. `log` is false for an FLR (R840). -/
def Hw.ckAbandon (h : Hw) (p detail : Nat) (log : Bool) : Hw :=
  let c := (h.pt p).ck
  if c.phase != .writing then h
  else
    let h := h.onPt p (fun x => { x with ck := { x.ck with phase := .none, cmd := none } })
    let h := if log then (h.raiseAt (R.SYS_PART_STAT_CKPT_ERR p) 0 8).errAt eMEMORY 11 nodeREG else h
    let h := match c.cmd with
      | some (m, k) => if log then h.complete m k stMEM_ERROR detail 0 else h
      | none => h
    h.ckResume p h.seat (h.sharesOf p)

/-- Write one piece of a checkpoint from tile t: a refusal or a failed access answers its DETAIL, `none` waits. -/
def Hw.ckPut (h : Hw) (t a : Nat) (bs : List Byte) (ps : List Bool) : Option (Nat × Hw) :=
  match h.niCheck t a bs.length (some (partOf t)) with
  | (some 2, h) => some (3, h)
  | (some _, h) => some (1, h)
  | (none, h) =>
    match h.gStatus a bs.length true with
    | 0 => some (0, h.gPut a bs ps)
    | 2 => some (3, h)
    | 3 => none
    | _ => some (1, h)

/-- The header of a checkpoint buffer (R832). -/
def ckHeader (p seat seq tag job mask time : Nat) (crcs : List Nat) : List Byte :=
  let b := leBytes 4 0x54504B43 ++ leBytes 2 1 ++ leBytes 1 p ++ leBytes 1 seat ++ leBytes 4 seq ++ leBytes 2 tag ++
    leBytes 2 0 ++ leBytes 4 job ++ leBytes 4 mask ++ leBytes 8 time
  let b := b ++ List.replicate (0x100 - b.length) 0 ++ (crcs.map (fun c => leBytes 4 c)).flatten
  let b := b ++ List.replicate (0xFFC - b.length) 0
  b ++ leBytes 4 (crc32c b)

/-- Steps 2 and 3 of a checkpoint: the tile records, then the header, into the inactive buffer of partition p
(R831-R834): MEM_ERROR's DETAIL, 0 for all written. -/
def Hw.ckWriteAll (h : Hw) (p : Nat) : Option (Nat × Hw) :=
  let x := h.pt p
  let base := gHbm h.seat ((h.get (R.SYS_PART_CKPT_BASE p) + 16 * (1 - h.get (R.SYS_PART_STAT_CKPT_ACT p))) * 2 ^ 20)
  let recs := (List.range 32).map (fun i => (h.tile (listAt 0 (tilesOf p) i)))
  let r := ((List.range 32).zip recs).foldl (fun (r : Option (Nat × Hw)) e =>
    match r with
    | some (0, h) =>
      h.ckPut (listAt 0 (tilesOf p) e.1) (base + 0x1000 + 0x62000 * e.1) e.2.record e.2.recordPoison
    | _ => r) (some (0, h))
  let job := match x.run with
    | some j => j.job
    | none => 0
  let mask := match x.run with
    | some j => j.mask
    | none => 0
  let seq := (h.get (R.SYS_PART_SEQ_SEQ p) + 1) % 2 ^ 32
  let hd := ckHeader p h.seat seq x.ck.tag job mask h.clk.tt (recs.map (fun t => crc32c t.record))
  match r with
  | some (0, h) => h.ckPut (listAt 0 (tilesOf p) 0) base hd []
  | _ => r

/-- Other seats are present. -/
def Hw.notAlone (h : Hw) : Bool :=
  h.get R.TBL_STAT_PRESENT - 2 ^ h.seat * b2n (h.bitOf R.TBL_STAT_PRESENT h.seat) != 0

/-- Steps 4 to 6: the buffer becomes active, tiles go on, and with other seats present the dummy copy starts. -/
def Hw.ckActive (h : Hw) (p act seq : Nat) (c : Ckpt) : Hw :=
  let h := (h.put (R.SYS_PART_STAT_CKPT_ACT p) (1 - act)).put (R.SYS_PART_SEQ_SEQ p) seq
  let others := h.notAlone
  let h := h.onPt p (fun x => { x with ck :=
    { x.ck with phase := .none, cmd := none, copying := others, copyCmd := if others then c.cmd else none } })
  let h := h.ckResume p h.seat (h.sharesOf p)
  match c.cmd with
  | some (m, k) => if others then h else h.ok m k seq
  | none => h

/-- CHECKPOINT_COMMIT: the records and the header are in the inactive buffer, which becomes active (R834 steps 3 to 6).
A refused, failed or fenced write abandons it (R839). -/
def Hw.ckCommit (h : Hw) (p : Nat) : Hw :=
  let x := h.pt p
  if x.ck.phase != .writing then h
  else
    match h.ckWriteAll p with
    | none => h
    | some (0, g) =>
      g.ckActive p (h.get (R.SYS_PART_STAT_CKPT_ACT p)) ((h.get (R.SYS_PART_SEQ_SEQ p) + 1) % 2 ^ 32) x.ck
    | some (d, h) => h.ckAbandon p d true

/-- The dummy copy of partition p is acknowledged, or refused with NO_RESOURCE, detail 4 (R837, R838). -/
def Hw.copyDone (h : Hw) (p : Nat) (refused : Bool) : Hw :=
  let c := (h.pt p).ck
  if !c.copying then h
  else
    let h := h.onPt p (fun x => { x with ck := { x.ck with copying := false, copyCmd := none } })
    match c.copyCmd with
    | some (m, k) => if refused then h.complete m k stNO_RESOURCE 4 0 else h.ok m k (h.get (R.SYS_PART_SEQ_SEQ p))
    | none => h

/-- FOLD_TIMEOUT of region k: the fold is forced; a checkpoint under way is abandoned (R718, R847). -/
def Hw.foldTimeout (h : Hw) (k : Nat) : Hw :=
  if h.foldStat k != fFOLDING || (h.fsm k).forced then h
  else
    let busy := decide (k < 16) && h.ckBusy k
    let h := if busy then (regionNodes k).foldl (fun h n => h.onTile n (fun t =>
      { t with ctl := { t.ctl with arrived := none, ckStop := false } })) h else h
    let h := h.foldForce k
    let h := if k < 16 then (h.gfxTilesLost k).gfxShow else h
    if busy then h.ckAbandon k 3 true else h

end Sys2Proof.Machine
end

