-- ==== Sys2Proof/Machine/Sensor.lean ====
section
/-!
DEFINITION. The sensor front end: decimation, ranging, beams, capture, and the wake detector's frame (chapter 16).
-/
namespace Sys2Proof.Machine

open Sys2Proof

/-! ### Set-up of a group (R859, R863, R867, R868) -/

/-- Clock divider N. -/
def Hw.snsN (h : Hw) (g : Nat) : Nat :=
  let d := h.get (R.SNS_GRP_CFG_DIV g)
  if d = 0 then 1 else 2 * d

/-- CIC decimation R. -/
def Hw.snsR (h : Hw) (g : Nat) : Nat := h.get (R.SNS_GRP_CFG_R_M1 g) + 1

/-- Half-band stages H. -/
def Hw.snsH (h : Hw) (g : Nat) : Nat := h.get (R.SNS_GRP_CFG_H g)

/-- FIR decimation D_F. -/
def Hw.snsD (h : Hw) (g : Nat) : Nat := h.get (R.SNS_GRP_CFG_FIRDEC g) + 1

/-- Clock periods per output sample. -/
def Hw.snsPer (h : Hw) (g : Nat) : Nat := h.snsR g * 2 ^ h.snsH g * h.snsD g

/-- Output rate in S/s (R867). -/
def Hw.snsRate (h : Hw) (g : Nat) : Nat := 24576000 / (h.snsN g * h.snsPer g)

/-- The rate is above 384,000 S/s (R867). -/
def Hw.snsTooFast (h : Hw) (g : Nat) : Bool := decide (384000 * (h.snsN g * h.snsPer g) < 24576000)

/-- The window W (R868). -/
def Hw.snsW (h : Hw) (g : Nat) : Nat :=
  let r := h.snsR g
  let p := 2 ^ h.snsH g
  let t := 5 * (r - 1) + 1 + 10 * r * (p - 1) + (h.get R.SNS_FIR_CFG_NTAP - 1) * r * p
  let d := r * p * h.snsD g
  (t + d - 1) / d

/-- Scaling exponent S of the CIC (R863). -/
def cicS (r : Nat) : Nat := ((List.range 41).find? (fun s => decide (r ^ 5 ≤ 2 ^ s))).getD 40

/-- A register word as a signed 24-bit coefficient. -/
def Hw.coef (h : Hw) (a : Nat) : Int := sext 24 (h.rd a)

/-- FIR coefficient j of NTAP (R865). -/
def Hw.firCoef (h : Hw) (j : Nat) : Int :=
  let n := h.get R.SNS_FIR_CFG_NTAP
  let k := min j (n - 1 - j)
  if k = 0 then h.coef R.SNS_FIR0 else h.coef (R.SNS_FIR (k - 1))

/-! ### The chain (R862-R866) -/

/-- Round a signed number on the grid 2^-s to nearest even on the grid 2^0. -/
def rneI (v : Int) (s : Nat) : Int :=
  let r := roundNat .rne (decide (v < 0)) v.natAbs (-(s : Int))
  if v < 0 then -(r.1 : Int) else r.1

/-- Saturate to Q1.23; the Boolean tells that it was cut (R866). -/
def satQ (v : Int) : Int × Bool :=
  if 8388607 < v then (8388607, true) else if v < -8388608 then (-8388608, true) else (v, false)

/-- One input bit through the integrators (R862). -/
def cicIn (l : List Int) (x : Int) : List Int :=
  (l.foldl (fun (a : List Int × Int) v => (a.1 ++ [v + a.2], v + a.2)) ([], x)).1

/-- One value through the combs: the new comb states and the output. -/
def cicOut (l : List Int) (x : Int) : List Int × Int :=
  l.foldl (fun (a : List Int × Int) v => (a.1 ++ [a.2], a.2 - v)) ([], x)

/-- R input bits through a CIC: integrators, combs and its output. -/
def cicRun (integ comb : List Int) (bs : List Bool) : List Int × List Int × Int :=
  let i := bs.foldl (fun i b => cicIn i (if b then 1 else -1)) integ
  let o := cicOut comb (i.getLastD 0)
  (i, o.1, o.2)

/-- Half-band coefficients (R864). -/
def hbCoef : List Int := [93020, 0, -507904, 0, 2512036, 4194304, 2512036, 0, -507904, 0, 93020]

/-- A sum of products of coefficients (grid 2^-23) with a history (grid 2^-40). -/
def firSum (c u : List Int) : Int := (c.zip u).foldl (fun s e => s + e.1 * e.2) 0

/-- A half-band result rounded to the grid 2^-23 and kept on the grid 2^-40. -/
def hbOut (u : List Int) : Int := rneI (firSum hbCoef u) 40 * 2 ^ 17

/-- One CIC output through the half-band stages: an output every 2^H inputs. `n` counts CIC outputs from 1. -/
def Chain.half (c : Chain) (hs n : Nat) (v : Int) : Chain × Option Int :=
  if hs = 0 then (c, some v)
  else
    let c := { c with hb1 := (v :: c.hb1).take 11 }
    if n % 2 = 1 then (c, none)
    else
      let y := hbOut c.hb1
      if hs = 1 then (c, some y)
      else
        let c := { c with hb2 := (y :: c.hb2).take 11 }
        if n % 4 = 2 then (c, none) else (c, some (hbOut c.hb2))

/-- The bits of one output period through CIC, half-bands and the FIR's history. -/
def Chain.run (c : Chain) (r hs df : Nat) (pdm : Nat) : Chain :=
  let s := cicS r
  (List.range (2 ^ hs * df)).foldl (fun c i =>
    let x := cicRun c.integ c.comb ((List.range r).map (fun j => bit pdm (i * r + j)))
    let c := { c with integ := x.1, comb := x.2.1 }
    let y := c.half hs (i + 1) (x.2.2 * 2 ^ (40 - s))
    match y.2 with
    | some v => { y.1 with fir := (v :: y.1.fir).take 64 }
    | none => y.1) c

/-- The FIR result in Q1.23, and whether it saturated (R865, R866). -/
def Hw.firOut (h : Hw) (c : Chain) : Int × Bool :=
  satQ (rneI (firSum ((List.range (h.get R.SNS_FIR_CFG_NTAP)).map h.firCoef) c.fir) 40)

/-! ### Gain and format (R863 steps 4 and 5, R875) -/

/-- SNS_GAINc_s. -/
def Hw.gain (h : Hw) (c s : Nat) : Int := h.coef (R.SNS_GAIN (4 * c + s))

/-- Gain k of a straddle of W samples, nearest with ties toward the larger (R875). -/
def stradGain (old new : Int) (k w : Nat) : Int :=
  old + (2 * (new - old) * (k + 1) + (w + 1)) / (2 * ((w : Int) + 1))

/-- The sample y × G: Q1.23 with saturation, or FP32 (R866). -/
def sampleOf (y g : Int) (fp clip trans : Bool) : Smp :=
  if fp then
    let v := BitVec.ofNat 32 (toFP32 .rne (Num.ofDy (y * g) (-39))).1
    ⟨v, v, trans, clip⟩
  else
    let q := satQ (rneI (y * g) 16)
    ⟨BitVec.ofNat 32 (toFP32 .rne (Num.ofDy q.1 (-23))).1, BitVec.ofInt 32 q.1, trans, clip || q.2⟩

/-! ### Access -/

/-- Chain of channel c. -/
def Hw.chain (h : Hw) (c : Nat) : Chain := SMap.get (fun _ => Chain.reset) h.sns.chain c

/-- Replace a chain. -/
def Hw.setChain (h : Hw) (c : Nat) (x : Chain) : Hw :=
  { h with sns := { h.sns with chain := SMap.set (fun _ => Chain.reset) h.sns.chain c x } }

/-- Ranging machine of group g. -/
def Hw.sgrp (h : Hw) (g : Nat) : SnsGroup := SMap.get (fun _ => SnsGroup.reset) h.sns.group g

/-- Replace a ranging machine, and show it. -/
def Hw.setSgrp (h : Hw) (g : Nat) (x : SnsGroup) : Hw :=
  let h := { h with sns := { h.sns with group := SMap.set (fun _ => SnsGroup.reset) h.sns.group g x } }
  (h.put (R.SNS_GRP_STAT_STEP g) x.step).putB (R.SNS_GRP_STAT_TRANS g) x.strad.isSome

/-- Capture unit s. -/
def Hw.cap (h : Hw) (s : Nat) : CapUnit := SMap.get (fun _ => CapUnit.reset) h.sns.cap s

/-- Replace a capture unit. -/
def Hw.setCap (h : Hw) (s : Nat) (x : CapUnit) : Hw :=
  { h with sns := { h.sns with cap := SMap.set (fun _ => CapUnit.reset) h.sns.cap s x } }

/-- Channel c is enabled. -/
def Hw.chEn (h : Hw) (c : Nat) : Bool := h.bitOf R.SNS_CH_EN_EN c

/-- Enabled channels of group g. -/
def Hw.grpEn (h : Hw) (g : Nat) : List Nat := ((List.range 8).map (fun i => 8 * g + i)).filter h.chEn

/-! ### Capture (R881-R889) -/

/-- Blocks of the ring. -/
def Hw.capN (h : Hw) (s : Nat) : Nat := h.get (R.SNS_CAP_SIZE_SIZE s) / 1120

/-- A sequence starts with the next sample (R885, R886). -/
def Hw.capStart (h : Hw) (s : Nat) (restart : Bool) : Hw :=
  let left := if h.get (R.SNS_CAP_CTL_TRIG s) = 0 then none else some (h.capN s)
  (h.setCap s { h.cap s with left := left, first := true, restart := restart, again := false, drops := 0 }).put
    (R.SNS_CAP_STAT_RUN s) 1

/-- A trigger reaches unit s (R887, R888, R890). -/
def Hw.capTrig (h : Hw) (s : Nat) : Hw :=
  if !h.is (R.SNS_CAP_STAT_ARMED s) then h
  else if !h.is (R.SNS_CAP_STAT_RUN s) then h.capStart s false
  else
    match h.get (R.SNS_CAP_CTL_POLICY s) with
    | 0 =>
      if h.is (R.SNS_CAP_STAT_PEND s) then
        (h.setCap s { h.cap s with drops := (h.cap s).drops + 1 }).bump (R.SNS_CAP_CNT_OVR s)
      else h.put (R.SNS_CAP_STAT_PEND s) 1
    | 1 => h.setCap s { h.cap s with again := true }
    | _ => h.bump (R.SNS_CAP_CNT_IGN s)

/-- The bytes of a block (R881). -/
def capBytes (s fmt flags seq rate : Nat) (b : CapBlk) (smps : List Smp) : List Byte :=
  let smps := smps.take 256
  let tr := maskOf ((List.range 256).filter (fun i => match smps[i]? with | some x => x.trans | none => false))
  let d := leBytes 2 0x4253 ++ leBytes 1 1 ++ leBytes 1 s ++ leBytes 1 fmt ++ leBytes 1 flags ++ leBytes 1 b.step ++
    leBytes 1 0 ++ leBytes 4 seq ++ leBytes 4 rate ++ leBytes 8 b.first ++ leBytes 8 b.time ++
    (smps.map (fun x => leBytes 4 x.raw.toNat)).flatten ++ leBytes 4 0
  let d := (d.take (0x20 + 1024)) ++ leBytes 32 tr
  d ++ leBytes 4 (crc32c d) ++ List.replicate 28 0

/-- The unit is disarmed; blocks already full keep their writes. -/
def Hw.capDisarm (h : Hw) (s : Nat) : Hw :=
  let h := h.setCap s { CapUnit.reset with out := (h.cap s).out.map (fun o => { o with cur := false }) }
  ((h.put (R.SNS_CAP_STAT_ARMED s) 0).put (R.SNS_CAP_STAT_RUN s) 0).put (R.SNS_CAP_STAT_PEND s) 0

/-- Arm unit s, SEQ and WIDX from 0; SIZE = 0 disarms it (R885, R902). -/
def Hw.capArm (h : Hw) (s ring size trig pol : Nat) : Hw :=
  let h := h.capDisarm s
  if size = 0 then h
  else
    let h := (h.wr64 (R.SNS_CAP_BASE_LO s) (R.SNS_CAP_BASE_HI s) ring).wr (R.SNS_CAP_SIZE s) size
    let h := (h.put (R.SNS_CAP_CTL_TRIG s) trig).put (R.SNS_CAP_CTL_POLICY s) pol
    let h := (h.put (R.SNS_CAP_STAT_ARMED s) 1).put (R.SNS_CAP_WIDX_WIDX s) 0
    if trig ≤ 1 then h.capStart s false else h

/-- A block is full: it is handed to its writes, and the sequence goes on or ends (R884, R886, R887, R889, R902). -/
def Hw.capFull (h : Hw) (s fmt rate : Nat) (b : CapBlk) : Hw :=
  let u := h.cap s
  let last := u.again || u.left == some 1
  let fl := b2n b.start + 2 * b2n last + 4 * b2n (b.smps.any (fun x => x.trans)) +
    8 * b2n (b.smps.any (fun x => x.clip)) + 16 * b2n u.restart
  let base := h.rd64 (R.SNS_CAP_BASE_LO s) (R.SNS_CAP_BASE_HI s)
  let a := (base + u.seq % max 1 (h.capN s) * 1120) % 2 ^ 48
  let o : CapOut := ⟨a, capBytes s fmt fl u.seq rate b b.smps, if last then u.drops else 0, true⟩
  let left := match u.left with
    | some n => some (n - 1)
    | none => none
  let h := h.setCap s { u with blk := none, left := left, seq := (u.seq + 1) % 2 ^ 32, out := u.out ++ [o] }
  if !last then h
  else
    match u.rearm with
    | some (ring, size, trig, pol) => h.capArm s ring size trig pol
    | none =>
      if u.again then h.capStart s true
      else if h.is (R.SNS_CAP_STAT_PEND s) then (h.put (R.SNS_CAP_STAT_PEND s) 0).capStart s false
      else h.put (R.SNS_CAP_STAT_RUN s) 0

/-- |value| ≥ THR (R885 LEVEL); a NaN on either side is no trigger. -/
def levelHit (v thr : Nat) : Bool :=
  let m := v % 2 ^ 31
  decide (m ≤ 0x7F800000 ∧ thr ≤ 0x7F800000 ∧ thr ≤ m)

/-- Source s delivers a sample of index `i`: it enters the block under way, then may be a LEVEL trigger. -/
def Hw.capSample (h : Hw) (s : Nat) (x : Smp) (i step fmt rate : Nat) : Hw :=
  let h :=
    if h.is (R.SNS_CAP_STAT_RUN s) then
      let u := h.cap s
      let b : CapBlk := match u.blk with
        | some b => { b with smps := b.smps ++ [x] }
        | none => ⟨i, h.clk.tt, step, u.first, [x]⟩
      let h := h.setCap s { u with blk := some b, first := false }
      if b.smps.length = 256 then h.capFull s fmt rate b else h
    else h
  if h.get (R.SNS_CAP_CTL_TRIG s) = 3 ∧ levelHit x.v.toNat (h.rd (R.SNS_CAP_THR s)) then h.capTrig s else h

/-- CAPTURE_BLOCK_COMPLETE: the oldest full block of source s is written, data then header, and WIDX rises (R883); a
refused, failed or fenced write ends the sequence and disarms the unit (R901). The end of a sequence with drops posts
CAPTURE_OVERRUN (R889). Answers whether WIDX rose. -/
def Hw.capComplete (h : Hw) (s : Nat) (farOk : Bool) : Bool × Hw :=
  let u := h.cap s
  match u.out with
  | [] => (false, h)
  | o :: os =>
    let a := o.addr
    let r := match h.niCheck 642 a 1120 none with
      | (some _, h) => some (false, h)
      | (none, h) =>
        match h.gStatus a 1120 true with
        | 0 => some (true, h.gPut a o.bytes [])
        | 3 => none
        | 4 => some (farOk, h)
        | _ => some (false, h)
    match r with
    | none => (false, h)
    | some (true, h) =>
      let h := h.setCap s { h.cap s with out := os }
      let h := if o.cur then h.put (R.SNS_CAP_WIDX_WIDX s) (h.get (R.SNS_CAP_WIDX_WIDX s) + 1) else h
      (o.cur, if o.drops = 0 then h else h.postEvent 16 evCAPTURE_OVERRUN (s + 65536 * (o.drops % 65536)))
    | some (false, h) =>
      let h := (h.capDisarm s).setCap s CapUnit.reset
      (false, (h.raise (R.SNS_CAP_STAT_ERR s) 0).errAddr eMEMORY 10 642 a)

/-! ### Beams (R877-R880) -/

/-- FP32 product and sum, rounded to nearest even. -/
def fMul (a b : Nat) : Nat := (toFP32 .rne ((ofFP32 a).1.mul (ofFP32 b).1).1).1
def fAdd (a b : Nat) : Nat := (toFP32 .rne ((ofFP32 a).1.add .rne (ofFP32 b).1).1).1

/-- A Q2.22 coefficient as FP32. -/
def q22fp (c : Int) : Nat := (toFP32 .rne (Num.ofDy c (-22))).1

/-- u_c[n] of channel c with delay `d` and phase `ph`, and the marks of the samples it uses. -/
def Hw.beamTap (h : Hw) (c d ph : Nat) : Nat × Bool × Bool :=
  let hs := (h.chain c).hist
  let xs := (List.range 8).map (fun t => listAt ⟨0, 0, false, false⟩ hs (d + t))
  let ps := ((List.range 8).zip xs).map (fun e => fMul (q22fp (h.coef (R.SNS_FRAC ph e.1))) e.2.v.toNat)
  ((ps.drop 1).foldl fAdd (ps.headD 0), xs.any (fun x => x.trans), xs.any (fun x => x.clip))

/-- Enabled members of beam u. -/
def Hw.beamSet (h : Hw) (u : Nat) : List Nat := (bitList 32 (h.rd (R.SNS_BM_MASK u))).filter h.chEn

/-- Beam u at the sample just delivered: the weighted sum, ascending. -/
def Hw.beamOut (h : Hw) (u : Nat) : Smp :=
  let ts := (h.beamSet u).map (fun c =>
    let k := 32 * u + c
    let x := h.beamTap c (h.get (R.SNS_BM_DLY_DLY k)) (h.get (R.SNS_BM_DLY_PH k))
    (fMul (h.rd (R.SNS_BM_W k)) x.1, x.2))
  let v := BitVec.ofNat 32 ((ts.drop 1).foldl (fun a e => fAdd a e.1) ((ts.map (fun e => e.1)).headD 0))
  ⟨v, v, ts.any (fun e => e.2.1), ts.any (fun e => e.2.2)⟩

/-- Beam u delivers a sample with the samples of group g, the highest group of its enabled members (DEDUCED, assumption 47). -/
def Hw.beamStep (h : Hw) (g u : Nat) : Hw :=
  let cs := h.beamSet u
  if cs.isEmpty || (cs.foldl max 0) / 8 != g then h
  else if cs.any (fun c => h.snsRate (c / 8) != h.snsRate g || h.snsN (c / 8) * h.snsPer (c / 8) != h.snsN g * h.snsPer g) then
    h.raiseAt R.SNS_BMRATE_BMRATE u 8
  else if cs.any (fun c => (h.chain c).idx == 0) then h
  else
    let i := NMap.get h.sns.bidx u
    let h := { h with sns := { h.sns with bidx := NMap.set h.sns.bidx u (i + 1) } }
    h.capSample (32 + u) (h.beamOut u) i 0 1 (h.snsRate g)

/-! ### One output sample of a group (R863-R876) -/

/-- Capture and node state let samples flow: the node is not fenced and the part is not asleep. -/
def Hw.snsRuns (h : Hw) : Bool := !h.fenced 642 && !h.asleep && !(h.heldAt true)

/-- A range change to step s takes effect at this boundary (R875). -/
def Hw.rangeTo (h : Hw) (g s : Nat) : Hw :=
  let x := h.sgrp g
  (h.setSgrp g { step := s, quiet := 0, strad := some (x.step, 0) }).raise R.SNS_FLAGS_RCHG g

/-- The channel's sample: chain, FIR and gain; delivered once W samples have been discarded (R869). Answers |y|. -/
def Hw.chanSample (h : Hw) (g c pdm : Nat) : Nat × Hw :=
  let x := (h.chain c).run (h.snsR g) (h.snsH g) (h.snsD g) pdm
  let y := h.firOut x
  if 0 < x.skip then (0, h.setChain c { x with skip := x.skip - 1 })
  else
    let q := h.sgrp g
    let gn := match q.strad with
      | some (o, k) => stradGain (h.gain c o) (h.gain c q.step) k (h.snsW g)
      | none => h.gain c q.step
    let fp := h.is (R.SNS_GRP_CFG_FMT g)
    let s := sampleOf y.1 gn fp y.2 q.strad.isSome
    let h := h.setChain c { x with idx := x.idx + 1, hist := (s :: x.hist).take 4103 }
    (y.1.natAbs, h.capSample c s x.idx q.step (b2n fp) (h.snsRate g))

/-- The ranging machine after a sample of magnitude m (R870-R876); a change is made at the next boundary. -/
def Hw.ranging (h : Hw) (g m : Nat) : Hw :=
  let w := h.snsW g
  let q := h.sgrp g
  let q := { q with strad := match q.strad with
    | some (o, k) => if k + 1 < w then some (o, k + 1) else none
    | none => none }
  let h := h.setSgrp g q
  if !h.is (R.SNS_GRP_CFG_AUTO g) then h
  else
    let hi := decide (h.get (R.SNS_GRP_RNG_HI g) * 32768 ≤ m)
    let n := if m < h.get (R.SNS_GRP_RNG_LO g) * 32768 then q.quiet + 1 else 0
    let h := h.setSgrp g { q with quiet := n }
    if hi && q.step == 3 then h.raise R.SNS_FLAGS_CLIP g
    else if q.strad.isSome then h
    else if hi then h.rangeTo g (q.step + 1)
    else if h.get (R.SNS_GRP_RNG_HOLD g) ≤ n ∧ 0 < q.step then h.rangeTo g (q.step - 1)
    else h

/-- SNS_OUTPUT_SAMPLE: group g delivers one output sample of each of its enabled channels, in channel order; `pdm`
holds, per enabled channel, the bits captured since the last one, first bit lowest. -/
def Hw.snsSample (h : Hw) (g : Nat) (pdm : List Nat) : Hw :=
  let cs := h.grpEn g
  if cs.isEmpty || !h.snsRuns then h
  else
    let s := h.get (R.SNS_GRP_CFG_STEP g)
    let q := h.sgrp g
    let h := if !h.is (R.SNS_GRP_CFG_AUTO g) && q.strad.isNone && s != q.step then h.rangeTo g s else h
    let r := ((List.range cs.length).zip cs).foldl (fun (a : Nat × Hw) e =>
      let x := a.2.chanSample g e.2 (a.2.pdmSeen (e.2 / 2) (listAt 0 pdm e.1))
      (max a.1 x.1, x.2)) (0, h)
    let h := (List.range 8).foldl (fun h u => h.beamStep g u) r.2
    h.ranging g r.1

/-! ### Enabling channels (R867, R869) -/

/-- SNS_CH_EN takes a new value: refused groups stay as they were, newly enabled channels start afresh. -/
def Hw.snsEnable (h : Hw) (old new : Nat) : Hw :=
  let h := h.wr R.SNS_CH_EN old
  (List.range 4).foldl (fun h g =>
    let o := bits old (8 * g + 7) (8 * g)
    let n := bits new (8 * g + 7) (8 * g)
    let add := (List.range 8).filter (fun i => bit n i && !bit o i)
    if !add.isEmpty && h.snsTooFast g then
      (h.wr R.SNS_CH_EN (setBits (h.rd R.SNS_CH_EN) (8 * g + 7) (8 * g) (o &&& n))).raise R.SNS_FLAGS_RATE g
    else
      let h := h.wr R.SNS_CH_EN (setBits (h.rd R.SNS_CH_EN) (8 * g + 7) (8 * g) n)
      let h := if o = 0 ∧ n ≠ 0 then
          let st := if h.is (R.SNS_GRP_CFG_AUTO g) then (h.sgrp g).step else h.get (R.SNS_GRP_CFG_STEP g)
          h.setSgrp g { step := st, quiet := 0, strad := none }
        else h
      add.foldl (fun h i => h.setChain (8 * g + i) { Chain.reset with skip := h.snsW g }) h) h

/-! ### Commands that need no register write (R902, R909, R910) -/

/-- SNS_CAPTURE. -/
def Hw.snsCapture (h : Hw) (m k : Nat) : Hw :=
  h.onCmd m k 0x0201 (fun c =>
    let ring := c.par 0 8
    let size := c.par 8 4
    let s := c.par 12 1
    let trig := c.par 13 1
    let pol := c.par 14 1
    let srcOk := if s < 32 then h.chEn s else decide (s < 40) && !(h.beamSet (s - 32)).isEmpty
    if ring % 32 != 0 || decide (2 ^ 48 ≤ ring) then h.badParam m k 0
    else if size % 1120 != 0 then h.badParam m k 8
    else if !srcOk then h.badParam m k 12
    else if 8 ≤ trig then h.badParam m k 13
    else if 3 ≤ pol then h.badParam m k 14
    else if h.is (R.SNS_CAP_STAT_RUN s) && (h.cap s).blk.isSome then
      let u := { h.cap s with again := true, rearm := some (ring, size, trig, pol) }
      ((h.setCap s u).put (R.SNS_CAP_STAT_PEND s) 0).ok m k 0
    else (h.capArm s ring size trig pol).ok m k 0)

/-- SNS_STATUS. -/
def Hw.snsStatus (h : Hw) (m k : Nat) : Hw :=
  h.onCmd m k 0x0203 (fun _ =>
    let steps := (List.range 4).foldl (fun a g => a + (h.sgrp g).step * 4 ^ g) 0
    let tr := maskOf ((List.range 4).filter (fun g => (h.sgrp g).strad.isSome))
    let ovr := min 65535 ((List.range 40).foldl (fun a s => a + h.get (R.SNS_CAP_CNT_OVR s)) 0)
    h.ok m k (steps + h.get R.SNS_FLAGS_CLIP * 2 ^ 8 + tr * 2 ^ 12 + ovr * 2 ^ 16 + h.rd R.SNS_CH_EN * 2 ^ 32))

/-! ### The wake detector (R891-R897) -/

/-- Arithmetic on exact dyadic numbers. -/
def Dy.zero : Dy := ⟨0, 0⟩
def Dy.add (a b : Dy) : Dy :=
  let e := max a.exp b.exp
  ⟨a.num * 2 ^ (e - a.exp) + b.num * 2 ^ (e - b.exp), e⟩
def Dy.mulC (c : Int) (s : Nat) (a : Dy) : Dy := ⟨c * a.num, s + a.exp⟩

/-- R_W. -/
def Hw.wakeR (h : Hw) : Nat := 16 * 2 ^ h.get R.SNS_WAKE_CFG_RW_SEL

/-- L. -/
def Hw.wakeL (h : Hw) : Nat := 2 ^ h.get R.SNS_WAKE_CFG_LOG2L

/-- The detector starts: new frame, count 0, filters at rest (R897). -/
def Hw.wakeStart (h : Hw) : Hw :=
  let h := { h with sns := { h.sns with wake := { WakeDet.reset with floor := h.sns.wake.floor } } }
  (h.put R.SNS_WAKE_STAT_RUN 1).put R.SNS_WAKE_STAT_COUNT 0

/-- The detector stops; floors and counts are held. -/
def Hw.wakeStop (h : Hw) : Hw := h.put R.SNS_WAKE_STAT_RUN 0

/-- One wake sample of channel c from its bits (R891). -/
def WakeDet.chan (w : WakeDet) (c r : Nat) (bs : List Bool) : WakeDet :=
  let z := List.replicate 4 (0 : Int)
  let i0 := if (lmapGet w.integ c).isEmpty then z else lmapGet w.integ c
  let c0 := if (lmapGet w.comb c).isEmpty then z else lmapGet w.comb c
  let x := cicRun i0 c0 bs
  let s := 4 * log2 r
  { w with integ := lmapSet w.integ c x.1, comb := lmapSet w.comb c x.2.1,
           hist := lmapSet w.hist c ((⟨x.2.2, s⟩ :: lmapGet w.hist c).take 64) }

/-- The signal measured (R892). -/
def Hw.wakeX (h : Hw) (w : WakeDet) : Dy :=
  let s := h.get R.SNS_WAKE_CFG_SRC
  if s < 4 then listAt Dy.zero (lmapGet w.hist s) 0
  else (List.range 4).foldl (fun a c =>
    a.add (Dy.mulC (sext 16 (h.get (R.SNS_WAKE_BEAM_W c))) 15
      (listAt Dy.zero (lmapGet w.hist c) (h.get (R.SNS_WAKE_BEAM_DLY c))))) Dy.zero

/-- One sample of band b's biquad (R893): its output and the new history. -/
def Hw.biquad (h : Hw) (b : Nat) (x : Dy) (st : List Dy) : Dy × List Dy :=
  let k (j : Nat) : Int := h.coef (R.SNS_WAKE_BQ b j)
  let x1 := listAt Dy.zero st 0
  let x2 := listAt Dy.zero st 1
  let y1 := listAt Dy.zero st 2
  let y2 := listAt Dy.zero st 3
  let y := ((((Dy.mulC (k 0) 22 x).add (Dy.mulC (k 1) 22 x1)).add (Dy.mulC (k 2) 22 x2)).add
    (Dy.mulC (-(k 3)) 22 y1)).add (Dy.mulC (-(k 4)) 22 y2)
  (y, [x, x1, y, y1])

/-- Floor of 160 log10(a / b): the largest k with 10^k ≤ (a / b)^160, clamped at -2560 (R894). -/
def db16 (a b : Nat) : Int :=
  if a = 0 then -2560
  else
    let n := a ^ 160
    let d := b ^ 160
    if d ≤ n then (((List.range 4000).find? (fun k => decide (n < d * 10 ^ (k + 1)))).getD 4000 : Nat)
    else -((((List.range 2561).find? (fun k => decide (d ≤ n * 10 ^ k))).getD 2560 : Nat) : Int)

/-- A band energy within 1/16 dB of the exact one (R894): which of the values allowed is a free value. -/
def Hw.energy (h : Hw) (a b : Nat) : Int × Hw :=
  let k := db16 a b
  let r := h.takeFreeB
  (if k ≤ -2560 then -2560 else if r.1 then k + 1 else k, r.2)

/-- The samples of a frame: filters run, and each band's sum of squares is formed. -/
def Hw.wakeRun (h : Hw) (pdm : List Nat) : WakeDet × List Dy :=
  let r := h.wakeR
  (List.range h.wakeL).foldl (fun (a : WakeDet × List Dy) n =>
    let w := (List.range 4).foldl (fun w c =>
      w.chan c r ((List.range r).map (fun j => bit (h.pdmSeen (c / 2) (listAt 0 pdm c)) (n * r + j)))) a.1
    let x := h.wakeX w
    (List.range 4).foldl (fun (a : WakeDet × List Dy) b =>
      let y := h.biquad b x (lmapGet a.1.bq b)
      let q := (listAt Dy.zero a.2 b).add ⟨y.1.num * y.1.num, 2 * y.1.exp⟩
      ({ a.1 with bq := lmapSet a.1.bq b y.2 }, listUpd (fun _ => q) a.2 b)) (w, a.2))
    (h.sns.wake, List.replicate 4 Dy.zero)

/-- SNS_WAKE_FLOORb in 1/4096 dB. -/
def Hw.wakeFloor (h : Hw) (b : Nat) : Int := SMap.get (fun _ => (0 : Int)) h.sns.wake.floor b

/-- Set a floor and show it in 1/16 dB. -/
def Hw.setFloor (h : Hw) (b : Nat) (v : Int) : Hw :=
  let m := SMap.set (fun _ => (0 : Int)) h.sns.wake.floor b v
  ({ h with sns := { h.sns with wake := { h.sns.wake with floor := m } } } : Hw).put (R.SNS_WAKE_FLOOR_FLOOR b)
    (wrapI 16 (v / 256))

/-- The floor's rise in one frame, in 1/4096 dB (R895): RISE × 0.1 dB/s × L ÷ f_w, rounded down (DESIGN CHOICE, assumption 48). -/
def Hw.floorRise (h : Hw) (b : Nat) : Nat :=
  h.get (R.SNS_WAKE_BAND_RISE b) * h.wakeL * h.wakeR * 4096 / 10000000

/-- WAKE_FRAME's own effect: energies, hits, floors and count (R894, R895); answers whether wake is declared. -/
def Hw.wakeFrame (h : Hw) (pdm : List Nat) : Bool × Hw :=
  if !h.is R.SNS_WAKE_STAT_RUN then (false, h)
  else
    let r := h.wakeRun pdm
    let h := { h with sns := { h.sns with wake := r.1 } }
    let bands := bitList 4 (h.get R.SNS_WAKE_CFG_BANDEN)
    let s := bands.foldl (fun (a : List Nat × Hw) b =>
      let q := listAt Dy.zero r.2 b
      let x := a.2.energy q.num.toNat (2 ^ q.exp * h.wakeL)
      let e := x.1
      let h := x.2.put (R.SNS_WAKE_E_E b) (wrapI 16 e)
      let f := h.wakeFloor b
      let hit := decide (f + (h.get (R.SNS_WAKE_BAND_MARGIN b) : Int) * 4096 < e * 256)
      let f' := if e * 256 < f then e * 256 else min (e * 256) (f + h.floorRise b)
      (if hit then a.1 ++ [b] else a.1, h.setFloor b f')) ([], h)
    let h := s.2
    let all := h.is R.SNS_WAKE_CFG_COMB
    let fire := if all then !bands.isEmpty && s.1.length == bands.length else !s.1.isEmpty
    let n := if fire then h.get R.SNS_WAKE_STAT_COUNT + 1 else 0
    if n = h.get R.SNS_WAKE_CFG_K_M1 + 1 then
      (true, (h.put R.SNS_WAKE_STAT_COUNT 0).put R.SNS_WAKE_STAT_BANDS (maskOf s.1))
    else (false, h.put R.SNS_WAKE_STAT_COUNT n)

/-- SNS_TRIG: a write of 1 to bit s gives source s a SOFT trigger, which a unit with TRIG 2 takes (R885, R887, R906). -/
def Hw.snsTrig (h : Hw) (mask : Nat) : Hw :=
  if h.snsRuns then
    (bitList 40 mask).foldl (fun (h : Hw) s => if h.get (R.SNS_CAP_CTL_TRIG s) = 2 then h.capTrig s else h) h
  else h

end Sys2Proof.Machine
end

