-- ==== Sys2Proof/Machine/Signal.lean ====
section
/-!
DEFINITION. The signal engine: instructions, loops, transfers, triggers and commands (chapter 17).
-/
namespace Sys2Proof.Machine

open Sys2Proof

/-! ### Access -/

/-- Core k. -/
def Hw.core (h : Hw) (k : Nat) : SigCore := SMap.get (fun _ => SigCore.reset) h.sig k

/-- Replace core k. -/
def Hw.setCore (h : Hw) (k : Nat) (c : SigCore) : Hw := { h with sig := SMap.set (fun _ => SigCore.reset) h.sig k c }

/-- Core states of R950. -/
def sgIDLE : Nat := 0
def sgARMED : Nat := 1
def sgRUN : Nat := 2
def sgFAULTED : Nat := 3

/-- SIG_COREk_STAT.STATE. -/
def Hw.sstate (h : Hw) (k : Nat) : Nat := h.get (R.SIG_CORE_STAT_STATE k)

/-- Set the state. -/
def Hw.setSstate (h : Hw) (k s : Nat) : Hw := h.put (R.SIG_CORE_STAT_STATE k) s

def w0 : Nat → Word := fun _ => 0

/-- f[n]. -/
def SigCore.fr (c : SigCore) (n : Nat) : Nat := (SMap.get w0 c.f n).toNat
def SigCore.setF (c : SigCore) (n v : Nat) : SigCore := { c with f := SMap.set w0 c.f n (BitVec.ofNat 32 v) }

/-- r[n]. -/
def SigCore.rr (c : SigCore) (n : Nat) : Nat := (SMap.get (fun _ => (0 : BitVec 64)) c.r n).toNat
def SigCore.setR (c : SigCore) (n v : Nat) : SigCore :=
  { c with r := SMap.set (fun _ => (0 : BitVec 64)) c.r n (BitVec.ofNat 64 v) }

/-- a[n]. -/
def SigCore.ar (c : SigCore) (n : Nat) : Nat := NMap.get c.a n
def SigCore.setA (c : SigCore) (n v : Nat) : SigCore := { c with a := NMap.set c.a n (v % 8192) }

/-- Settings of a[n]; none loaded: linear with step 0 (DESIGN CHOICE, assumption 49). -/
def SigCore.gen (c : SigCore) (n : Nat) : Agu := SMap.get (fun _ => ⟨0, 0, 0, 0⟩) c.agu n
def SigCore.setGen (c : SigCore) (n : Nat) (g : Agu) : SigCore :=
  { c with agu := SMap.set (fun _ => ⟨0, 0, 0, 0⟩) c.agu n g }

/-- Memory `m`: 0 P, 1 X, 2 Y, 3 C. -/
def SigCore.mem (c : SigCore) (m : Nat) : SMap Word :=
  match m with | 0 => c.p | 1 => c.x | 2 => c.y | _ => c.c
def SigCore.setMem (c : SigCore) (m : Nat) (v : SMap Word) : SigCore :=
  match m with
  | 0 => { c with p := v } | 1 => { c with x := v } | 2 => { c with y := v } | _ => { c with c := v }

/-- Words of memory m (R911, R950). -/
def sigWords (m : Nat) : Nat := if m = 1 ∨ m = 2 then 8192 else 4096

/-- A word of memory m. -/
def SigCore.word (c : SigCore) (m a : Nat) : Nat := (SMap.get w0 (c.mem m) a).toNat
def SigCore.setWord (c : SigCore) (m a v : Nat) : SigCore :=
  c.setMem m (SMap.set w0 (c.mem m) a (BitVec.ofNat 32 v))

/-! ### Fields of an instruction (R916, R917) -/

def iOP (w : Nat) : Nat := bits w 7 0
def iD (w : Nat) : Nat := bits w 11 8
def iA (w : Nat) : Nat := bits w 15 12
def iB (w : Nat) : Nat := bits w 19 16
def iC (w : Nat) : Nat := bits w 23 20
def iIMM (w : Nat) : Nat := bits w 59 24
/-- The move field of bus b: 0 X, 1 Y, 2 C. -/
def iMov (w b : Nat) : Nat := bits w (35 + 12 * b) (24 + 12 * b)
def mvKIND (m : Nat) : Nat := bits m 1 0
def mvA (m : Nat) : Nat := bits m 4 2
def mvF (m : Nat) : Nat := bits m 8 5
def mvPOST (m : Nat) : Bool := bit m 9

/-- The instruction at the PC. -/
def SigCore.instr (c : SigCore) : Nat := c.word 0 (2 * c.pc) + c.word 0 (2 * c.pc + 1) * 2 ^ 32

/-- Fields each opcode names, as a mask: 1 D, 2 A, 4 B, 8 C, 16 IMM; none for an opcode not listed (R918). -/
def iNames (op : Nat) : Option Nat :=
  match op with
  | 0x00 => some 0
  | 0x01 => some 15 | 0x02 => some 15
  | 0x03 => some 7 | 0x04 => some 7 | 0x05 => some 7 | 0x08 => some 7 | 0x09 => some 7
  | 0x06 => some 3 | 0x07 => some 3 | 0x0B => some 3 | 0x0C => some 3 | 0x0D => some 3 | 0x0E => some 3
  | 0x0A => some 6
  | 0x20 => some 7 | 0x21 => some 7 | 0x22 => some 7 | 0x23 => some 7 | 0x24 => some 7 | 0x25 => some 7
  | 0x26 => some 17 | 0x27 => some 6 | 0x28 => some 17 | 0x29 => some 3 | 0x2A => some 3
  | 0x40 => some 18 | 0x41 => some 17 | 0x42 => some 16 | 0x43 => some 16
  | 0x44 => some 0 | 0x45 => some 0 | 0x46 => some 0
  | 0x60 => some 22 | 0x61 => some 22 | 0x62 => some 6
  | _ => none

/-- Parallel moves exist in classes 0x0 and 0x1. -/
def hasMoves (op : Nat) : Bool := decide (op < 0x20)

/-- f registers an instruction writes: its result and its move reads (R914). -/
def iWrites (w : Nat) : List Nat :=
  let op := iOP w
  (if (0x01 ≤ op ∧ op ≤ 0x0E) ∧ op ≠ 0x0A then [iD w] else []) ++
    (if hasMoves op then ((List.range 3).filter (fun b => mvKIND (iMov w b) == 1)).map (fun b => mvF (iMov w b)) else [])

/-- A register number fits the eight r and a registers. -/
def lt8 (n : Nat) : Bool := decide (n < 8)

/-- An instruction word with a reserved opcode, field value or encoding (R914, R916-R920, R924, R927, R941). -/
def iIllegal (w : Nat) : Bool :=
  let op := iOP w
  match iNames op with
  | none => true
  | some n =>
    let unnamed := (!bit n 0 && iD w != 0) || (!bit n 1 && iA w != 0) || (!bit n 2 && iB w != 0) ||
      (!bit n 3 && iC w != 0) || (!bit n 4 && !hasMoves op && iIMM w != 0)
    let mov := hasMoves op && (List.range 3).any (fun b =>
      let m := iMov w b
      mvKIND m == 3 || (b == 2 && mvKIND m == 2) || bits m 11 10 != 0)
    let imm := iIMM w
    let own :=
      if 0x20 ≤ op ∧ op ≤ 0x25 then !lt8 (iD w) || !lt8 (iA w) || !lt8 (iB w)
      else
        match op with
        | 0x26 => !lt8 (iD w)
        | 0x27 => !lt8 (iA w) || !lt8 (iB w)
        | 0x28 =>
          let len := bits imm 26 13
          !lt8 (iD w) || bits imm 35 34 == 3 || len == 0 || decide (8192 < len) ||
            (bits imm 35 34 == 2 && !((List.range 13).any (fun i => len == 2 ^ (i + 1))))
        | 0x29 => !lt8 (iD w) || !lt8 (iA w)
        | 0x2A => !lt8 (iD w) || !lt8 (iA w)
        | 0x40 => bits imm 26 16 == 0 || (bit imm 35 && !lt8 (iA w))
        | 0x41 => !lt8 (iD w) || bits imm 35 11 != 0
        | 0x42 => bits imm 35 11 != 0
        | 0x43 => bits imm 35 11 != 0
        | 0x60 => !lt8 (iA w) || !lt8 (iB w) || bits imm 13 12 == 0
        | 0x61 => !lt8 (iA w) || !lt8 (iB w) || bits imm 13 12 == 0 || bits imm 13 12 == 3
        | 0x62 => !lt8 (iA w) || !lt8 (iB w)
        | _ => false
    bits w 63 60 != 0 || unnamed || mov || own || (iWrites w).length != (iWrites w).eraseDups.length

/-! ### Address generators (R925) -/

/-- Reverse the low n bits. -/
def revBits (n v : Nat) : Nat := maskOf ((List.range n).filter (fun i => bit v (n - 1 - i)))

/-- The address after a step. -/
def Agu.next (g : Agu) (a : Nat) : Nat :=
  match g.mode with
  | 0 => wrapI 13 ((a : Int) + g.step)
  | 1 => ((g.base : Int) + (((a : Int) - g.base + g.step) % (max 1 g.len : Nat))).toNat % 8192
  | _ =>
    let n := log2 g.len
    let o := revBits n (wrapI n ((a : Int) - g.base))
    (g.base + revBits n ((o + revBits n (wrapI n g.step)) % 2 ^ n)) % 8192

/-! ### Triggers and runs (R935-R940) -/

/-- Report STAT.PC, XOUT and PEND. -/
def Hw.sigShow (h : Hw) (k : Nat) : Hw :=
  let c := h.core k
  ((h.put (R.SIG_CORE_STAT_PC k) c.pc).put (R.SIG_CORE_STAT_XOUT k) c.xfers.length).putB (R.SIG_CORE_STAT_PEND k)
    c.pend.isSome

/-- Replace a core and show it. -/
def Hw.upCore (h : Hw) (k : Nat) (c : SigCore) : Hw := (h.setCore k c).sigShow k

/-- A run starts at ENTRY with r0 and r1 set; the other registers, the return stack among them, keep their values (R913,
R935, R937). No loop is active. -/
def Hw.sigStart (h : Hw) (k : Nat) (t : SigTrig) : Hw :=
  let c := h.core k
  let c := { c with pc := h.get (R.SIG_CORE_ENTRY_ENTRY k), halted := false, loops := [], drops := 0 }
  (h.upCore k ((c.setR 0 t.time).setR 1 t.r1)).setSstate k sgRUN

/-- A trigger reaches core k (R938, R939). -/
def Hw.sigTrigger (h : Hw) (k : Nat) (t : SigTrig) : Hw :=
  if h.sstate k == sgARMED then h.sigStart k t
  else if h.sstate k == sgRUN then
    let c := h.core k
    match h.get (R.SIG_CORE_TRIG_POLICY k) with
    | 0 =>
      if c.pend.isSome then (h.setCore k { c with drops := c.drops + 1 }).bump (R.SIG_CORE_CNT_OVR k)
      else h.upCore k { c with pend := some t }
    | 1 => h.sigStart k t
    | _ => h.bump (R.SIG_CORE_CNT_IGN k)
  else h

/-- Send a trigger towards every core armed for trigger code `trig`. -/
def Hw.sigFire (h : Hw) (trig r1 : Nat) : Hw :=
  (List.range 16).foldl (fun h k =>
    if h.get (R.SIG_CORE_TRIG_TRIG k) = trig ∧ (h.sstate k = sgARMED ∨ h.sstate k = sgRUN) then
      let c := h.core k
      h.setCore k { c with inq := c.inq ++ [⟨h.clk.tt, r1⟩] }
    else h) h

/-- SIG_TRIGGER: the oldest trigger on its way to core k reaches it. -/
def Hw.sigTriggerRow (h : Hw) (k : Nat) : Hw :=
  let c := h.core k
  match c.inq with
  | [] => h
  | t :: ts => (h.setCore k { c with inq := ts }).sigTrigger k t

/-- SIG_SOFT: a write of 1 to the bits of `mask` (R936, R951). -/
def Hw.sigSoft (h : Hw) (mask : Nat) : Hw :=
  (bitList 16 mask).foldl (fun h k =>
    if h.get (R.SIG_CORE_TRIG_TRIG k) = 1 then
      let c := h.core k
      h.setCore k { c with inq := c.inq ++ [⟨h.clk.tt, 0⟩] }
    else h) h

/-- A run of core k ends after `cyc` cycles in state `s`: counts, the overrun event, other cores' triggers, and the
pending trigger (R889, R935, R936, R938, R950). -/
def Hw.sigEnds (h : Hw) (k s cyc : Nat) : Hw :=
  let c := h.core k
  let h := (h.put (R.SIG_CORE_RUNS_RUNS k) (h.get (R.SIG_CORE_RUNS_RUNS k) + 1)).put (R.SIG_CORE_CYC_CYC k) cyc
  let h := if c.drops = 0 then h else h.postEvent 16 evCAPTURE_OVERRUN (64 + k + 65536 * (c.drops % 65536))
  let h := (h.upCore k { c with halted := false, drops := 0 }).setSstate k s
  let h := h.sigFire (48 + k) 0
  if s != sgARMED then h
  else
    match (h.core k).pend with
    | some t => (h.upCore k { h.core k with pend := none }).sigStart k t
    | none => h

/-- Fault of core k (R932). -/
def Hw.sigFault (h : Hw) (k code cyc : Nat) : Hw :=
  let c := h.core k
  let h := (h.put (R.SIG_CORE_FAULT_CODE k) code).put (R.SIG_CORE_FAULT_PC k) c.pc
  let h := h.upCore k { c with pend := none, loops := [], xerr := false }
  (h.sigEnds k sgFAULTED cyc).errAt eSIGNAL code 643

/-- SIG_RUN_END: HALT has committed and no transfer is outstanding (R935). -/
def Hw.sigRunEnd (h : Hw) (k cyc : Nat) : Hw :=
  let c := h.core k
  if h.sstate k != sgRUN || !c.halted || !c.xfers.isEmpty then h
  else if c.xerr then h.sigFault k 6 cyc
  else h.sigEnds k (if h.get (R.SIG_CORE_TRIG_TRIG k) = 0 then sgIDLE else sgARMED) cyc

/-! ### Transfers (R941-R943) -/

/-- Local answer of the NI to a request it does not send. -/
def Hw.sigRefused (h : Hw) (k : Nat) : Hw := h.setCore k { h.core k with xerr := true }

/-- Send the requests of a GET or PUT of `n` words at global address `a`, word `w` of memory m on. -/
def Hw.sigSend (h : Hw) (k : Nat) (put : Bool) (m a w n : Nat) : List SigReq × Hw :=
  (pieces a (4 * n)).foldl (fun (s : List SigReq × Hw) p =>
    let at' := w + (p.1 - a) / 4
    match s.2.niCheck 643 (p.1 % 2 ^ 48) p.2 none with
    | (some _, h) => (s.1, h.sigRefused k)
    | (none, h) =>
      let data := if put then ((List.range (p.2 / 4)).map (fun i => leBytes 4 ((h.core k).word m (at' + i)))).flatten else []
      let r := h.niSend 643 (if put then 2 else 1) (p.1 % 2 ^ 48) p.2 (h.prioOf 643) data
        (if put then (granules 32 p.1 p.2).map (fun _ => false) else [])
      (s.1 ++ [⟨r.1, at', p.2 / 4⟩], r.2)) ([], h)

/-- Send the SIGNALs whose older PUTs have their responses (R943). -/
def Hw.sigSignals (h : Hw) (k : Nat) : Hw :=
  let xs := (h.core k).xfers
  ((List.range xs.length).zip xs).foldl (fun h e =>
    if !e.2.held || (xs.take e.1).any (fun x => x.kind == .put && !x.reqs.isEmpty) then h
    else
      let upd (h : Hw) (rs : List SigReq) : Hw :=
        let l := (h.core k).xfers.map (fun x => if x = e.2 then { x with held := false, reqs := rs } else x)
        h.setCore k { h.core k with xfers := l }
      match h.niCheck 643 e.2.gaddr 8 none with
      | (some _, h) => upd (h.sigRefused k) []
      | (none, h) =>
        let r := h.niSend 643 2 e.2.gaddr 8 (h.prioOf 643) (leBytes 8 e.2.val) [false]
        upd r.2 [⟨r.1, 0, 0⟩]) h

/-- Transfers with nothing outstanding leave; a stopped core with none left is IDLE and its SIG_STOP completes
(R940). -/
def Hw.sigRetire (h : Hw) (k : Nat) : Hw :=
  let h := h.sigSignals k
  let c := h.core k
  let c := { c with xfers := c.xfers.filter (fun x => x.held || !x.reqs.isEmpty) }
  let h := h.upCore k c
  if c.stops.isEmpty || !c.xfers.isEmpty then h
  else
    let h := (h.upCore k { c with stops := [], xerr := false }).setSstate k sgIDLE
    c.stops.foldl (fun h a =>
      if (List.range 16).any (fun j => (h.core j).stops.contains a) then h else h.ok (a / 32) (a % 32) 0) h

/-- SIG_TRANSFER_RESPONSE: the response to a tag of node 643 is taken; an error, a fence, a failed CRC or poison will
raise XFER (R932, R941). -/
def Hw.sigResponse (h : Hw) (tag : Nat) : Hw :=
  match (List.range 16).find? (fun k => (h.core k).xfers.any (fun x => x.reqs.any (fun q => q.tag == tag))) with
  | none => h
  | some k =>
    match h.takeRsp 643 tag with
    | none => h
    | some (a, h) =>
      let c := h.core k
      let ok := a.status == 0 && !a.poison.any (fun b => b)
      let c := c.xfers.foldl (fun c x =>
        match x.reqs.find? (fun q => q.tag == tag) with
        | some q =>
          if x.kind = .get ∧ a.status = 0 then
            (List.range q.n).foldl (fun c i => c.setWord x.mem (q.word + i) (leAt a.data (4 * i) 4)) c
          else c
        | none => c) c
      let l := c.xfers.map (fun x => { x with reqs := x.reqs.filter (fun q => q.tag != tag) })
      (h.setCore k { c with xfers := l, xerr := c.xerr || !ok }).sigRetire k

/-- A core's read of a word: while a GET's data for that word stands at the NI, the value before or after (R942). -/
def Hw.sigRead (h : Hw) (k m a : Nat) : Nat × Hw :=
  let c := h.core k
  let old := c.word m a
  let new := c.xfers.findSome? (fun x =>
    if x.kind = .get ∧ x.mem = m then
      x.reqs.findSome? (fun q =>
        if q.word ≤ a ∧ a < q.word + q.n then
          (h.noc.inbox.find? (fun r => r.node == 643 && r.tag == q.tag && r.status == 0)).map
            (fun r => leAt r.data (4 * (a - q.word)) 4)
        else none)
    else none)
  match new with
  | some v => let b := h.takeFreeB; (if b.1 then v else old, b.2)
  | none => (old, h)

/-! ### One instruction (R914-R932) -/

/-- Multiply-add with one rounding under RHU (R921-R923). -/
def sgFma (neg : Bool) (a b c : Nat) : Nat × Flg :=
  let x := ofFP32 a
  let y := ofFP32 b
  let z := ofFP32 c
  let p := x.1.mul y.1
  let q := (if neg then p.1.neg else p.1).add .rhu z.1
  let r := toFP32 .rhu q.1
  (r.1, (((x.2.or y.2).or z.2).or r.2).or { nv := p.2 || q.2 })

/-- An exact zero is +0 (R922). -/
def Num.plusZero : Num → Num
  | .fin s m e => if m = 0 then .fin false 0 e else .fin s m e
  | v => v

/-- FMUL, FADD, FSUB. A product that is exactly zero is +0 (R922). -/
def sgArith (op a b : Nat) : Nat × Flg :=
  let x := ofFP32 a
  let y := ofFP32 b
  let q := x.1.mul y.1
  let p := if op = 0x03 then (q.1.plusZero, q.2) else x.1.add .rhu (if op = 0x05 then y.1.neg else y.1)
  let r := toFP32 .rhu p.1
  (r.1, ((x.2.or y.2).or r.2).or { nv := p.2 })

/-- FCVTF: FP32 to Q1.23 under RHU, saturating (R506, R918). -/
def sgToQ (a : Nat) : Nat × Flg :=
  let x := ofFP32 a
  let v := match x.1 with
    | .fin s m e => Num.fin s m (e + 23)
    | n => n
  match v with
  | .nan => (0, x.2.or { nv := true })
  | .inf s => (if s then wrapI 32 (-8388608) else 8388607, x.2.or { sat := true, nx := true })
  | .fin s m e =>
    let r := roundNat .rhu s m e
    let i : Int := if s then -(r.1 : Int) else r.1
    if 8388607 < i then (8388607, x.2.or { sat := true, nx := true })
    else if i < -8388608 then (wrapI 32 (-8388608), x.2.or { sat := true, nx := true })
    else (wrapI 32 i, x.2.or { nx := r.2 })

/-- FCVTQ: Q1.23 to FP32, exact. -/
def sgFromQ (a : Nat) : Nat := (toFP32 .rhu (Num.ofDy (sext 24 a) (-23))).1

/-- The arithmetic result of opcode `op`, where it has one. -/
def sgAlu (op a b c : Nat) : Option (Nat × Flg) :=
  match op with
  | 0x01 => some (sgFma false a b c)
  | 0x02 => some (sgFma true a b c)
  | 0x03 => some (sgArith op a b)
  | 0x04 => some (sgArith op a b)
  | 0x05 => some (sgArith op a b)
  | 0x06 => some (a % 2 ^ 31, Flg.none)
  | 0x07 => some (a ^^^ 2 ^ 31, Flg.none)
  | 0x08 => some (laneMinMax false fmtFP32 a b)
  | 0x09 => some (laneMinMax true fmtFP32 a b)
  | 0x0B => some (sgFromQ a, Flg.none)
  | 0x0C => some (sgToQ a)
  | 0x0D => some (approx 2 a)
  | 0x0E => some (approx 3 a)
  | _ => none

/-- Add flag events to SIG_COREk_FLAGS (R525). -/
def Hw.sigFlags (h : Hw) (k m : Nat) : Hw := h.wr (R.SIG_CORE_FLAGS k) (flagWord (h.rd (R.SIG_CORE_FLAGS k)) m)

/-- Loops after an instruction at `at'` that falls through to the next one (R927). -/
def loopNext : List SLoop → Nat → List SLoop × Nat
  | [], at' => ([], at' + 1)
  | l :: ls, at' =>
    if at' = l.last then
      if 1 < l.left then ({ l with left := l.left - 1 } :: ls, l.first)
      else loopNext ls at'
    else (l :: ls, at' + 1)

/-- Loops that a branch, jump or call to `t` leaves active (R931): it ends the loops whose body does not hold `t`, with
those nested in them. -/
def loopsAt (ls : List SLoop) (t : Nat) : List SLoop :=
  let keep := ls.reverse.takeWhile (fun l => decide (l.first ≤ t ∧ t ≤ l.last))
  keep.reverse

/-- Go on after a fall-through. -/
def SigCore.fall (c : SigCore) : SigCore :=
  let r := loopNext c.loops c.pc
  { c with loops := r.1, pc := r.2 }

/-- Go on at a target (R920, R931). -/
def SigCore.jump (c : SigCore) (t : Nat) : SigCore := { c with loops := loopsAt c.loops t, pc := t }

/-- The condition of BR (R919). -/
def SigCore.cond (c : SigCore) (d : Nat) : Bool :=
  match d with
  | 0 => c.lt
  | 1 => !c.lt && !c.un
  | 2 => c.eq
  | 3 => !c.eq
  | 4 => c.lt || c.eq
  | 5 => !c.lt && !c.eq && !c.un
  | 6 => c.un
  | _ => !c.un

/-- A C-bus access at or above word 4,096 (R926). -/
def SigCore.cRange (c : SigCore) (w : Nat) : Bool :=
  hasMoves (iOP w) && mvKIND (iMov w 2) != 0 && decide (4096 ≤ c.ar (mvA (iMov w 2)))

/-- The reads of the parallel moves: f register and value by bus. -/
def Hw.sigMovesRead (h : Hw) (k w : Nat) : List (Nat × Nat) × Hw :=
  (List.range 3).foldl (fun (s : List (Nat × Nat) × Hw) b =>
    let m := iMov w b
    if mvKIND m = 1 then
      let r := s.2.sigRead k (b + 1) ((h.core k).ar (mvA m))
      (s.1 ++ [(mvF m, r.1)], r.2)
    else s) ([], h)

/-- An instruction of class 0x0: its operation and its moves, all read before any write (R914, R925). -/
def Hw.sigOp (h : Hw) (k w : Nat) : Hw :=
  let o := h.core k
  let op := iOP w
  let r := h.sigMovesRead k w
  let h := r.2
  let c := h.core k
  let c := match sgAlu op (o.fr (iA w)) (o.fr (iB w)) (o.fr (iC w)) with
    | some v => c.setF (iD w) v.1
    | none => c
  let fl := match sgAlu op (o.fr (iA w)) (o.fr (iB w)) (o.fr (iC w)) with
    | some v => v.2.mask
    | none => 0
  let x := ofFP32 (o.fr (iA w))
  let y := ofFP32 (o.fr (iB w))
  let c := if op = 0x0A then
      { c with un := x.1.isNan || y.1.isNan, lt := x.1.lt y.1, eq := x.1.eq y.1 } else c
  let fl := if op = 0x0A then (x.2.or y.2).mask else fl
  let c := r.1.foldl (fun (c : SigCore) e => c.setF e.1 e.2) c
  let c := (List.range 2).foldl (fun (c : SigCore) b =>
    let m := iMov w b
    if mvKIND m = 2 then c.setWord (b + 1) (o.ar (mvA m)) (o.fr (mvF m)) else c) c
  let c := (List.range 3).foldl (fun (c : SigCore) b =>
    let m := iMov w b
    if mvKIND m != 0 && mvPOST m then c.setA (mvA m) ((o.gen (mvA m)).next (o.ar (mvA m))) else c) c
  (h.upCore k c.fall).sigFlags k fl

/-- Integer and address instructions (R918, R924). -/
def SigCore.intOp (c : SigCore) (w : Nat) : SigCore :=
  let a := c.rr (iA w)
  let b := c.rr (iB w)
  let d := iD w
  let imm := iIMM w
  match iOP w with
  | 0x20 => c.setR d (a + b)
  | 0x21 => c.setR d (subMod 64 a b)
  | 0x22 => c.setR d (a &&& b)
  | 0x23 => c.setR d (a ||| b)
  | 0x24 => c.setR d (a * 2 ^ (b % 64))
  | 0x25 => c.setR d (a / 2 ^ (b % 64))
  | 0x26 => c.setR d (wrapI 64 (sext 36 imm))
  | 0x27 => { c with un := false, lt := decide (sext 64 a < sext 64 b), eq := a == b }
  | 0x28 =>
    (c.setGen d ⟨bits imm 12 0, bits imm 26 13, sext 7 (bits imm 33 27), bits imm 35 34⟩).setA d (bits imm 12 0)
  | 0x29 => c.setA d a
  | 0x2A => c.setR d (c.ar (iA w))
  | _ => c

/-- LOOP (R927, R929, R930): `none` is the fault LOOP_DEPTH. -/
def SigCore.loop (c : SigCore) (w : Nat) : Option SigCore :=
  let imm := iIMM w
  let n := if bit imm 35 then c.rr (iA w) % 2 ^ 32 else bits imm 15 0
  let last := c.pc + bits imm 26 16
  if 3 ≤ c.loops.length then none
  else
    match c.loops with
    | l :: _ =>
      if l.first ≤ c.pc ∧ c.pc ≤ l.last ∧ l.last < last then none
      else some (if n = 0 then { c with pc := last }.fall else { c with loops := ⟨c.pc + 1, last, n⟩ :: c.loops, pc := c.pc + 1 })
    | [] =>
      some (if n = 0 then { c with pc := last }.fall else { c with loops := [⟨c.pc + 1, last, n⟩], pc := c.pc + 1 })

/-- Control instructions that change the core alone: the new core or a fault code. -/
def SigCore.ctlOp (c : SigCore) (w : Nat) : Except Nat SigCore :=
  let t := bits (iIMM w) 10 0
  match iOP w with
  | 0x40 => match c.loop w with
    | some c => .ok c
    | none => .error 4
  | 0x41 => .ok (if c.cond (iD w) then c.jump t else c.fall)
  | 0x42 => .ok (c.jump t)
  | 0x43 => if 4 ≤ c.stack.length then .error 5
    else .ok { c with stack := (c.pc + 1) :: c.stack, loops := loopsAt c.loops t, pc := t }
  | _ => match c.stack with
    | [] => .error 5
    | r :: rs => .ok { c with stack := rs, pc := r }

/-- WAITT and HALT (R918, R932, R935). -/
def Hw.sigWait (h : Hw) (k w cyc : Nat) : Hw :=
  let c := h.core k
  if iOP w = 0x46 then
    if !c.xfers.isEmpty then h
    else if c.xerr then h.sigFault k 6 cyc
    else h.upCore k c.fall
  else if c.xerr then h.sigFault k 6 cyc
  else h.upCore k { c with halted := true }

/-- GET, PUT and SIGNAL (R941-R943). -/
def Hw.sigXfer (h : Hw) (k w cyc : Nat) : Hw :=
  let c := h.core k
  let imm := iIMM w
  let a := c.rr (iA w) % 2 ^ 48
  if 8 ≤ c.xfers.length then h
  else if iOP w = 0x62 then
    if a % 4 != 0 then h.sigFault k 1 cyc
    else
      let x : SigXfer := ⟨.signal, 0, a, c.rr (iB w), true, []⟩
      (h.upCore k { c with xfers := c.xfers ++ [x] }.fall).sigRetire k
  else
    let n := if bits imm 11 0 = 0 then 4096 else bits imm 11 0
    let m := bits imm 13 12
    let w0 := c.ar (iB w)
    if a % 4 != 0 then h.sigFault k 1 cyc
    else if sigWords m < w0 + n then h.sigFault k 3 cyc
    else if 4096 < (h.noc.outst.filter (fun o => o.node == 643)).length + (pieces a (4 * n)).length then h
    else
      let put := iOP w == 0x61
      let r := h.sigSend k put m a w0 n
      let c := r.2.core k
      let x : SigXfer := ⟨if put then .put else .get, m, a, 0, false, r.1⟩
      (r.2.upCore k { c with xfers := c.xfers ++ [x] }.fall).sigRetire k

/-- One instruction of core k whose opcode is `op`: nothing happens unless the core runs and stands at that opcode. A
PC beyond 2,047 and an illegal word fault whatever opcode is asked for. `cyc` is what SIG_COREk_CYC takes if the run
ends here. -/
def Hw.sigInstr (h : Hw) (k op cyc : Nat) : Hw :=
  let c := h.core k
  if h.sstate k != sgRUN || c.halted || !c.stops.isEmpty then h
  else if 2047 < c.pc then h.sigFault k 2 cyc
  else
    let w := c.instr
    if iIllegal w then h.sigFault k 1 cyc
    else if iOP w != op then h
    else if c.cRange w then h.sigFault k 3 cyc
    else if op < 0x20 then h.sigOp k w
    else if op < 0x40 then h.upCore k (c.intOp w).fall
    else if op = 0x45 ∨ op = 0x46 then h.sigWait k w cyc
    else if op < 0x60 then
      match c.ctlOp w with
      | .ok c => h.upCore k c
      | .error e => h.sigFault k e cyc
    else h.sigXfer k w cyc

/-! ### The debug window (R949, R950) -/

/-- An access to SIG_COREk_MDATA: an error response (`none`) for a write of P in RUN or ARMED; otherwise the word read, or
written, and WORD incremented. -/
def Hw.sigMdata (h : Hw) (k : Nat) (wr : Option Nat) : Option (Nat × Hw) :=
  let a := h.get (R.SIG_CORE_MADDR_WORD k)
  let m := h.get (R.SIG_CORE_MADDR_MEM k)
  if wr.isSome && m == 0 && (h.sstate k == sgRUN || h.sstate k == sgARMED) then none
  else
    let inside := decide (a < sigWords m)
    let v := if inside then (h.core k).word m a else 0
    let h := match wr with
      | some x => if inside then h.setCore k ((h.core k).setWord m a x) else h
      | none => h
    some (v, h.put (R.SIG_CORE_MADDR_WORD k) (a + 1))

/-! ### Commands (R933-R935, R940, R952) -/

/-- One section of a signal image: memory, word, bytes. -/
def sigSection (bs : List Byte) (len i : Nat) : Option (Nat × Nat × List Byte) :=
  let b := 32 + 16 * i
  let m := leAt bs b 1
  let dest := leAt bs (b + 4) 4
  let src := leAt bs (b + 8) 4
  let n := leAt bs (b + 12) 4
  if 3 < m ∨ dest % 8 ≠ 0 ∨ len < src + n ∨ 4 * sigWords m < dest + n then none
  else some (m, dest, (bs.drop src).take n)

/-- Check a signal image (R933, R934): ENTRY and sections. -/
def parseSig (bs : List Byte) (len : Nat) : Option (Nat × List (Nat × Nat × List Byte)) :=
  let n := leAt bs 6 2
  if len < 32 ∨ bs.take 4 ≠ leBytes 4 0x50474953 ∨ leAt bs 4 2 ≠ 1 ∨ n = 0 ∨ 8 < n ∨ 2047 < leAt bs 8 2 ∨
      leAt bs 0x1C 4 ≠ crc32c (bs.take 0x1C) ∨ len < 32 + 16 * n then none
  else
    let ss := (List.range n).map (sigSection bs len)
    if ss.any (fun s => s.isNone) then none else some (leAt bs 8 2, ss.filterMap (fun s => s))

/-- Write bytes into a core's memory from byte offset `o`. -/
def SigCore.putBytes (c : SigCore) (m o : Nat) (bs : List Byte) : SigCore :=
  ((List.range bs.length).zip bs).foldl (fun c e =>
    let a := o + e.1
    let v := c.word m (a / 4)
    c.setWord m (a / 4) (setBits v (8 * (a % 4) + 7) (8 * (a % 4)) e.2.toNat)) c

/-- The first named core outside the states allowed. -/
def Hw.sigWrong (h : Hw) (cores : Nat) (ok : Nat → Bool) : Option Nat :=
  (bitList 16 cores).find? (fun k => !ok (h.sstate k))

/-- SIG_LOAD. -/
def Hw.sigLoad (h : Hw) (m k : Nat) (far : List Byte) : Hw :=
  h.onCmd m k 0x0300 (fun c =>
    let src := c.par 8 8
    let len := c.par 16 4
    if 2 ^ 48 ≤ src ∨ len < 32 then h.badParam m k 8
    else
      match h.dealerRead src len far with
      | none => h
      | some (0, bs, h) =>
        match parseSig bs len with
        | none => h.badParam m k 8
        | some (entry, ss) =>
          match h.sigWrong (c.par 0 2) (fun s => s == sgIDLE || s == sgFAULTED) with
          | some q => h.wrongState m k (h.sstate q)
          | none =>
            let h := (bitList 16 (c.par 0 2)).foldl (fun h q =>
              let x := ss.foldl (fun x s => x.putBytes s.1 s.2.1 s.2.2) (h.core q)
              ((h.upCore q { x with xerr := false }).put (R.SIG_CORE_ENTRY_ENTRY q) entry).setSstate q sgIDLE) h
            h.ok m k 0
      | some (d, _, h) => h.complete m k stMEM_ERROR d 0)

/-- TRIG values of R936. -/
def sigTrigOk (t : Nat) : Bool := decide (t ≤ 1 ∨ (8 ≤ t ∧ t ≤ 67))

/-- SIG_RUN. -/
def Hw.sigRun (h : Hw) (m k : Nat) : Hw :=
  h.onCmd m k 0x0301 (fun c =>
    let trig := c.par 2 1
    let pol := c.par 3 1
    if !sigTrigOk trig then h.badParam m k 2
    else if 3 ≤ pol then h.badParam m k 3
    else
      match h.sigWrong (c.par 0 2) (fun s => s == sgIDLE) with
      | some q => h.wrongState m k (h.sstate q)
      | none =>
        let h := (bitList 16 (c.par 0 2)).foldl (fun h q =>
          let h := (h.put (R.SIG_CORE_TRIG_TRIG q) trig).put (R.SIG_CORE_TRIG_POLICY q) pol
          let h := (h.upCore q { h.core q with inq := [], pend := none, drops := 0 }).setSstate q sgARMED
          if trig = 0 then h.sigStart q ⟨h.clk.tt, 0⟩ else h) h
        h.ok m k 0)

/-- SIG_STOP: cores without transfers are IDLE at once; the others when their responses have come. -/
def Hw.sigStop (h : Hw) (m k : Nat) : Hw :=
  h.onCmd m k 0x0302 (fun c =>
    let cs := bitList 16 (c.par 0 2)
    if cs.isEmpty then h.ok m k 0
    else
      let h := h.begun m k
      let h := cs.foldl (fun h q =>
        h.upCore q { h.core q with inq := [], pend := none, stops := (h.core q).stops ++ [32 * m + k] }) h
      cs.foldl (fun h q => h.sigRetire q) h)

/-- SIG_STATUS. -/
def Hw.sigStatus (h : Hw) (m k : Nat) : Hw :=
  h.onCmd m k 0x0303 (fun _ =>
    let s := (List.range 16).foldl (fun a q => a + h.sstate q * 8 ^ q) 0
    let p := maskOf ((List.range 16).filter (fun q => (h.core q).pend.isSome))
    h.ok m k (s + p * 2 ^ 48))

/-- CAPTURE_BLOCK_COMPLETE with the signal cores it triggers (R883, R936, R937). -/
def Hw.capBlockDone (h : Hw) (s : Nat) (farOk : Bool) : Hw :=
  let r := h.capComplete s farOk
  if r.1 then r.2.sigFire (8 + s) (r.2.get (R.SNS_CAP_WIDX_WIDX s) - 1) else r.2

end Sys2Proof.Machine
end

