-- ==== Sys2Proof/Machine/Table.lean ====
section
/-!
DEFINITION. The table: link bring-up, identity exchange, heartbeats and loss, table time, dummy copies, re-deal and
table sleep (chapter 21).
-/
namespace Sys2Proof.Machine

open Sys2Proof

/-- XSTATE values (R1142). -/
def xDOWN : Nat := 0
def xEXCHANGE : Nat := 1
def xAGREED : Nat := 2
def xRELEASED : Nat := 3
def xREDEAL : Nat := 4
def xISOLATED : Nat := 5
def xLATE : Nat := 6
def xCUT : Nat := 7

/-- TBL_STAT.XSTATE. -/
def Hw.xstate (h : Hw) : Nat := h.get R.TBL_STAT_XSTATE
def Hw.setX (h : Hw) (x : Nat) : Hw := h.put R.TBL_STAT_XSTATE x

/-- Bits of TBL_DIS. -/
def dSEAT_CLASH : Nat := 0
def dIMAGE_MISMATCH : Nat := 1
def dVERSION_LOW : Nat := 2
def dLATE : Nat := 3
def dWIRING : Nat := 4
def dTIME_TOL : Nat := 5
def dSEAT_LOST : Nat := 6
def dMIRROR_ERR : Nat := 7
def dCUT : Nat := 8
def dALARM_SKIP : Nat := 9

/-- A disagreement is flagged. -/
def Hw.dis (h : Hw) (b : Nat) : Hw := h.raise R.TBL_DIS_DIS b

/-- Change the table unit's state. -/
def Hw.onTbl (h : Hw) (f : TblState → TblState) : Hw := { h with tbl := f h.tbl }

/-! ### Routes (R1088, R1100) -/

/-- The present seat after seat `s`, wrapping; `s` itself where it is alone. -/
def nextSeat (l : List Nat) (s : Nat) : Nat := (l.find? (fun x => decide (s < x))).getD (l.headD s)

/-- The present seat before seat `s`, wrapping. -/
def prevSeat (l : List Nat) (s : Nat) : Nat := (l.reverse.find? (fun x => decide (x < s))).getD (l.getLastD s)

/-- The seat that link `k` of seat `s` joins at a table of the seats `l` (R1088). -/
def linkPeer (l : List Nat) (s k : Nat) : Option Nat :=
  if l.length ≤ 1 then none
  else
    match k with
    | 0 => some (nextSeat l s)
    | 1 => some (prevSeat l s)
    | 2 => if l.length = 8 then some ((s + 3) % 8) else none
    | _ => if l.length = 8 then some ((s + 5) % 8) else none

/-- Steps round the ring from `a` to `b`, up or down. -/
def ringDist (l : List Nat) (a b : Nat) : Nat :=
  let i := l.idxOf a
  let j := l.idxOf b
  let d := (j + l.length - i) % l.length
  min d (l.length - d)

/-- Steps from `a` to `b` in one direction of the ring. -/
def ringWay (l : List Nat) (a b : Nat) (up : Bool) : Nat :=
  let d := (l.idxOf b + l.length - l.idxOf a) % l.length
  if up then d else (l.length - d) % l.length

/-- The length of a route to seat `t` that begins with link `k`: A and B lead on round the ring, a chord leads to its
peer and from there round the ring. -/
def routeLen (l : List Nat) (s t k : Nat) : Option Nat :=
  match linkPeer l s k with
  | none => none
  | some p =>
    match k with
    | 0 => some (ringWay l s t true)
    | 1 => some (ringWay l s t false)
    | _ => some (1 + ringDist l p t)

/-- The link of a shortest route to seat `t` over this seat's up links; ties go to A, then B, C, D (R1100). The state of
links between other seats is not known here (DESIGN CHOICE, assumption 57). -/
def Hw.bestLink (h : Hw) (l : List Nat) (t : Nat) : Option Nat :=
  ((List.range 4).filter h.linkIsUp).foldl (fun (b : Option Nat) k =>
    match routeLen l h.seat t k, b with
    | none, _ => b
    | some _, none => some k
    | some n, some j =>
      match routeLen l h.seat t j with
      | some m => if n < m then some k else b
      | none => some k) none

/-- The table unit writes NOC_SEAT_GW and TBL_ROUTE for the present seats and up links (R1100). -/
def Hw.setRoutes (h : Hw) : Hw :=
  let l := h.presentList
  let h := h.put R.NOC_SEAT_GW_SEAT_EN (h.get R.TBL_STAT_PRESENT)
  (l.filter (fun t => t != h.seat)).foldl (fun (h : Hw) t =>
    match h.bestLink l t with
    | some k =>
      (h.wr R.NOC_SEAT_GW (setBits (h.rd R.NOC_SEAT_GW) (2 * t + 1) (2 * t) k)).wr R.TBL_ROUTE
        (setBits (h.rd R.TBL_ROUTE) (2 * t + 1) (2 * t) k)
    | none => h) h

/-! ### Identity records (R1102, R1103) -/

/-- Record STATE values (R1102). -/
def iLOADING : Nat := 0
def iHELD : Nat := 1
def iRELEASED : Nat := 2
def iSLEPT : Nat := 3
def iISOLATED : Nat := 4

/-- The record held of seat `s`. -/
def Hw.recOf (h : Hw) (s : Nat) : Option IdRec := SMap.get (fun _ => none) h.tbl.recs s

/-- Words 0 and 1 of the TBL_PEER entry of a record (R1142). -/
def IdRec.peer0 (r : IdRec) : Nat := r.parten + r.tmax * 2 ^ 16 + r.tmin * 2 ^ 24
def IdRec.peer1 (r : IdRec) : Nat := r.fw % 2 ^ 24 + r.st % 8 * 2 ^ 24 + 2 ^ 31

/-- TBL_PEER entry of a record (R1142). -/
def Hw.setPeer (h : Hw) (r : IdRec) : Hw := (h.wr (R.TBL_PEER0 r.seat) r.peer0).wr (R.TBL_PEER1 r.seat) r.peer1

/-- Replace the record of seat `s`: its TBL_PEER entry shows it, and loses its VALID bit with it (R1107,
R1142). -/
def Hw.setRec (h : Hw) (s : Nat) (r : Option IdRec) : Hw :=
  let h := h.onTbl (fun t => { t with recs := SMap.set (fun _ => none) t.recs s r })
  match r with
  | some r => h.setPeer { r with seat := s }
  | none => h.wr (R.TBL_PEER1 s) (h.rd (R.TBL_PEER1 s) % 2 ^ 31)

/-- K: the seats whose records are held, the own one among them. -/
def Hw.knownSet (h : Hw) : List Nat := (List.range 8).filter (fun s => s == h.seat || (h.recOf s).isSome)

/-- The 48 bytes of CFG_DIGEST. -/
def Hw.digestBytes (h : Hw) : List Byte := ((List.range 12).map (fun i => leBytes 4 (h.rd (R.CFG_DIGEST i)))).flatten

/-- The own record (R1102). -/
def Hw.ownRec (h : Hw) : IdRec where
  seat := h.seat
  st := if h.xstate = xISOLATED then iISOLATED else if h.tbl.slept then iSLEPT
    else if !h.is R.CFG_STAT_LOADED then iLOADING
    else if h.is R.CFG_STAT_RELEASED then iRELEASED else iHELD
  tmin := h.get R.TBL_PROTO_MIN
  tmax := h.get R.TBL_PROTO_MAX
  fw := h.fwVer
  parten := h.ident.parten.toNat % 65536
  spare := h.get R.TBL_SPARE_MASK
  known := maskOf h.knownSet
  epoch := if h.tbl.mapLost then 0 else h.get R.TBL_EPOCH_EPOCH
  digest := if h.is R.CFG_STAT_LOADED then h.digestBytes else List.replicate 48 0

/-- A record as its 96 bytes. -/
def IdRec.bytes (r : IdRec) : List Byte :=
  leBytes 1 r.seat ++ leBytes 1 r.st ++ leBytes 1 r.tmin ++ leBytes 1 r.tmax ++ leBytes 4 r.fw ++ leBytes 2 r.parten ++
    leBytes 2 r.spare ++ leBytes 1 r.known ++ leBytes 3 0 ++ leBytes 4 r.epoch ++ List.replicate 12 0 ++
    (r.digest ++ List.replicate 48 0).take 48 ++ List.replicate 16 0

/-- A record read from its 96 bytes. -/
def IdRec.ofBytes (b : List Byte) : IdRec where
  seat := leAt b 0 1 % 8
  st := leAt b 1 1
  tmin := leAt b 2 1
  tmax := leAt b 3 1
  fw := leAt b 4 4
  parten := leAt b 8 2
  spare := leAt b 10 2
  known := leAt b 12 1
  epoch := leAt b 16 4
  digest := (b.drop 32).take 48

/-- Records of K, the own one first. -/
def Hw.recList (h : Hw) : List IdRec := h.ownRec :: (List.range 8).filterMap (fun s => if s = h.seat then none else h.recOf s)

/-- A record whose digest counts: HELD or RELEASED (R1107, R1243). -/
def IdRec.loaded (r : IdRec) : Bool := r.st == iHELD || r.st == iRELEASED

/-- Image digests differ between records that count. -/
def digestsDiffer (l : List IdRec) : Bool :=
  match l.filter IdRec.loaded with
  | [] => false
  | r :: rs => rs.any (fun q => q.digest != r.digest)

/-- The table minimum: the highest TBL_MIN (R1107). -/
def tblMin (l : List IdRec) : Nat := l.foldl (fun (a : Nat) r => max a r.tmin) 0

/-- The protocol in use: the lowest TBL_MAX among the seats not below the minimum (R1107). -/
def tblInUse (l : List IdRec) : Nat :=
  match (l.filter (fun r => decide (tblMin l ≤ r.tmax))).map (fun r => r.tmax) with
  | [] => 0
  | x :: xs => xs.foldl min x


/-- Time master, predecessor and partner follow the present seats (R1114, R1119, R1142). -/
def Hw.setRoles (h : Hw) : Hw :=
  let l := h.presentList
  ((h.put R.TBL_STAT_MASTER (l.headD h.seat)).put R.TBL_MIRSTAT_PRED (prevSeat l h.seat)).put R.TBL_MIRSTAT_PARTNER
    (nextSeat l h.seat)

/-- The present seats are those of a list. -/
def Hw.setPresent (h : Hw) (l : List Nat) : Hw := (h.put R.TBL_STAT_PRESENT (maskOf l)).setRoles.setRoutes

/-- The exchange completes with K (R1103, R250): IDENT_OK, the registers that show the table, and routes. -/
def Hw.agree (h : Hw) : Hw :=
  let l := h.recList
  let h := h.putB R.CFG_STAT_IDENT_OK true
  let h := h.onTbl (fun t => { t with mapLost := false })
  let h := l.foldl (fun h r => h.setPeer r) h
  let h := h.put R.TBL_PROTO_IN_USE (tblInUse l)
  (h.setX xAGREED).setPresent h.knownSet

/-- A one-seat table has its identity as soon as the image is loaded (R1104, R1108). -/
def Hw.soloAgree (h : Hw) : Hw :=
  if h.tbl.solo && h.is R.CFG_STAT_LOADED && !h.is R.CFG_STAT_IDENT_OK then
    let x := h.xstate
    let h := h.agree
    if x = xISOLATED then h.setX xISOLATED else h
  else h

/-- The exchange reopens (R1105). -/
def Hw.reopen (h : Hw) : Hw :=
  if h.tbl.closed then h
  else
    let h := (h.putB R.CFG_STAT_IDENT_OK false).onTbl (fun t => { t with solo := false })
    if h.xstate = xAGREED ∨ h.xstate = xDOWN then h.setX xEXCHANGE else h

/-- Every own link goes down, without restart (R1108). -/
def Hw.linksOff (h : Hw) : Hw :=
  (List.range 4).foldl (fun (h : Hw) k =>
    let up := h.linkIsUp k
    let h := (h.put (R.LNK_STAT_STATE k) lkDOWN).setLink k LinkState.reset
    if up then (h.linkFlag k lfDOWN).postEvent 16 evLINK_CHANGE (0x20 + k) else h) h

/-- The seat isolates itself (R1108). -/
def Hw.isolate (h : Hw) : Hw :=
  let h := (h.dis dVERSION_LOW).linksOff
  let h := ({ h with tbl := { h.tbl with recs := [], solo := true } } : Hw).setX xISOLATED
  (h.put R.TBL_PROTO_IN_USE (h.get R.TBL_PROTO_MAX)).soloAgree

/-- The seat is late (R1109): its links stay at step 4. -/
def Hw.late (h : Hw) : Hw :=
  let h := ((h.dis dLATE).setX xLATE).putB R.CFG_STAT_IDENT_OK false
  (List.range 4).foldl (fun (h : Hw) k => if h.linkIsUp k then h.put (R.LNK_STAT_STATE k) lkHELLO else h) h

/-- Two seats claim one number (R1107). -/
def Hw.seatClash (h : Hw) : Hw :=
  let h := (h.dis dSEAT_CLASH).onTbl (fun t => { t with clash := true })
  if h.tbl.closed then h else h.putB R.CFG_STAT_IDENT_OK false

/-- Fields of a record that its seat does not change during an exchange. -/
def IdRec.same (a b : IdRec) : Bool :=
  a.tmin == b.tmin && a.tmax == b.tmax && a.fw == b.fw && a.parten == b.parten

/-- Disagreements that the records show (R1107), judged after each record that arrives. -/
def Hw.judge (h : Hw) : Hw :=
  let l := h.recList
  if h.ownRec.tmax < tblMin l then h.isolate
  else
    let h := if l.any (fun r => decide (r.tmax < tblMin l)) && !(h.bitOf R.TBL_DIS_DIS dVERSION_LOW)
      then h.dis dVERSION_LOW else h
    if digestsDiffer l && !(h.bitOf R.TBL_DIS_DIS dIMAGE_MISMATCH) then h.dis dIMAGE_MISMATCH else h

/-- One record arrives (R1103, R1105, R1107-R1109, R1136). -/
def Hw.record (h : Hw) (r : IdRec) : Hw :=
  if h.xstate = xISOLATED ∨ h.xstate = xLATE ∨ h.xstate = xCUT ∨ h.bitOf R.TBL_STAT_LOST r.seat then h
  else if r.seat = h.seat then (if r.same h.ownRec then h else h.seatClash)
  else if r.st = iISOLATED then
    let had := (h.recOf r.seat).isSome
    let h := if had then (h.setRec r.seat none).dis dVERSION_LOW else h
    if had && h.is R.CFG_STAT_IDENT_OK && !h.tbl.closed then h.reopen else h
  else
    match h.recOf r.seat with
    | some q =>
      if !(q.same r) then h.seatClash
      else if h.tbl.closed then (if r.st = iSLEPT then (h.setRec r.seat (some r)) else h)
      else (h.setRec r.seat (some r)).judge
    | none =>
      if h.tbl.closed then h
      else if r.st = iRELEASED ∧ h.tbl.mapLost then h.late
      else ((h.setRec r.seat (some r)).reopen).judge

/-- IDENT: records arrive, three flits each (R1093, R1103). -/
def Hw.ident' (h : Hw) (k : Nat) (bs : List Byte) : Hw :=
  match h.linkAccept k ftIDENT bs with
  | (none, h) => h
  | (some f, h) =>
    let ds := (f.flits.map (fun x => x.data)).flatten
    (List.range (f.flits.length / 3)).foldl (fun (h : Hw) i => h.record (IdRec.ofBytes ((ds.drop (96 * i)).take 96))) h

/-- A record's three flits. -/
def IdRec.flits (r : IdRec) : List Flit :=
  (List.range 3).map (fun i => ⟨0, false, false, false, (r.bytes.drop (32 * i)).take 32, 0⟩)

/-- IDENT_SEND: the own record and every record held go out on every up link while the exchange is open (R1103). -/
def Hw.identSend (h : Hw) : Hw :=
  if h.tbl.closed || h.xstate == xISOLATED || h.xstate == xLATE || h.xstate == xCUT then h
  else
    let rs := h.recList
    (List.range 4).foldl (fun (h : Hw) k =>
      let l := h.link k
      if h.linkIsUp k && decide (l.held.length + rs.length ≤ 64) then
        h.setLink k (rs.foldl (fun l r => l.push ftIDENT r.flits) l)
      else h) h

/-- Write one seat-map entry (R1126, R1142). -/
def Hw.setMap (h : Hw) (e : MapEnt) : Hw :=
  let i := 16 * (e.seat % 8) + e.part % 16
  (h.wr (R.TBL_MAP0 i) (e.st % 4 + e.hostSeat % 8 * 2 ^ 4 + e.hostPart % 16 * 2 ^ 8 + e.oldBase % 65536 * 2 ^ 16)).wr
    (R.TBL_MAP1 i) (e.mlen % 65536 + e.newBase % 65536 * 2 ^ 16)

/-- The last heartbeat of seat `s` announced its sleep. -/
def Hw.sleeps (h : Hw) (s : Nat) : Bool := (SMap.get (fun _ => none) h.tbl.hb s).any (fun (n : HbNote) => n.sleep)

/-- IDENT_COMPLETE: no record has changed for 1 ms, and every one shows HELD or SLEPT and KNOWN = K (R1103); RELEASED
counts as HELD for a seat that reloads or returns from LISTEN (R1243, DEDUCED, assumption 57 for R1132). A higher
epoch of another
seat wins, and its seat map, given as `map`, is taken first (R1107). A seat back from LISTEN drives no DONE (R1132) and does not wait for
a partner that stays in LISTEN (R1236). -/
def Hw.identComplete (h : Hw) (map : List MapEnt) : Hw :=
  let l := h.recList
  let k := maskOf h.knownSet
  let lax := h.tbl.reload || h.tbl.slept
  let good (r : IdRec) : Bool := r.st == iHELD || r.st == iSLEPT || (lax && r.st == iRELEASED)
  let away := if h.tbl.slept then h.presentList.filter (fun s => !(h.knownSet.contains s) && h.sleeps s) else []
  if h.tbl.closed || h.xstate == xISOLATED || h.xstate == xLATE || h.xstate == xCUT ||
      !h.is R.CFG_STAT_LOADED || h.tbl.clash || digestsDiffer l || decide (l.length + away.length < 2) ||
      !(l.all good) || !(l.all (fun r => lax && r.st == iRELEASED || r.known == k)) then h
  else
    let top := l.foldl (fun (a : Nat) r => max a r.epoch) 0
    let h := if h.ownRec.epoch < top then
        (map.foldl (fun (h : Hw) e => h.setMap e) h).put R.TBL_EPOCH_EPOCH top else h
    let h := h.onTbl (fun t => { t with redir := (map.filter (fun e => e.st != 0)).foldl (fun s e => NSet.add s e.seat) t.redir })
    let slept := h.tbl.slept
    let h := h.agree
    let h := if away.isEmpty then h else h.setPresent (away.foldl NSet.add h.knownSet)
    if slept then
      ((h.onTbl (fun t => { t with slept := false, sleep := false, closed := true })).putB R.TBL_STAT_SLEEP_OK false).setX
        xRELEASED
    else h

/-- XWAIT_TIMEOUT: no link has come up within XWAIT, and the seat forms a one-seat table (R1104). -/
def Hw.xwait (h : Hw) : Hw :=
  if h.tbl.everUp || h.tbl.closed || h.tbl.solo || decide (xEXCHANGE < h.xstate) then h
  else
    ((h.onTbl (fun t => { t with solo := true, recs := [] })).setX xEXCHANGE).soloAgree

/-- The seat sees DONE high: the exchange closes (R1103). -/
def Hw.tblDoneHigh (h : Hw) : Hw :=
  if h.is R.CFG_STAT_IDENT_OK then
    let h := h.onTbl (fun t => { t with closed := true, reload := false })
    if h.xstate = xAGREED then h.setX xRELEASED else h
  else h

/-- The exchange of a seat whose configuration restarts (R1243). -/
def Hw.tblRestart (h : Hw) : Hw :=
  let h := h.putB R.CFG_STAT_IDENT_OK false
  if h.xstate = xISOLATED ∨ h.xstate = xLATE ∨ h.xstate = xCUT then h
  else (h.onTbl (fun t => { t with closed := false, reload := true })).setX xEXCHANGE

/-! ### Link bring-up (R1089-R1092) -/

/-- A link's port may run: its clock is not lost and the seat has not taken its links down. -/
def Hw.linkMay (h : Hw) (k : Nat) : Bool :=
  decide (k < 4) && !h.fenced (650 + k) && !h.asleep && !(h.heldAt true) && h.xstate != xISOLATED

/-- LINK_RESTART: 2 ms after it went down, or at step 7 of the release sequence, a port starts bring-up (R1089). -/
def Hw.linkRestart (h : Hw) (k : Nat) : Hw :=
  if h.linkMay k && h.get (R.LNK_STAT_STATE k) == lkDOWN then
    let h := (h.put (R.LNK_STAT_STATE k) lkTRAINING).setLink k { LinkState.reset with delays := (h.link k).delays }
    if h.xstate = xDOWN then h.setX xEXCHANGE else h
  else h

/-- The link letter that link `k` must face (R1091). -/
def facing (k : Nat) : Nat := if k % 2 = 0 then k + 1 else k - 1

/-- HELLO: the wiring is judged (R1089 step 4, R1091, R1107). -/
def Hw.hello (h : Hw) (k : Nat) (bs : List Byte) (seat letter : Nat) : Hw :=
  match h.linkAccept k ftHELLO bs with
  | (none, h) => h
  | (some _, h) =>
    if h.linkIsUp k then h
    else
      let l := h.link k
      let h := (h.setLink k { l with hello := some ⟨seat % 8, letter % 4⟩ }).put (R.LNK_STAT_STATE k) lkHELLO
      let h := (h.put (R.LNK_STAT_PEER_SEAT k) seat).put (R.LNK_STAT_PEER_LINK k) letter
      let h := if seat % 8 = h.seat then h.seatClash else h
      if letter % 4 != facing k || seat % 8 == h.seat then (h.linkFlag k lfWIRING).dis dWIRING else h

/-- Lane groups that passed steps 1 to 3: all eight, lanes 0-3 or lanes 4-7 (R1090). -/
def laneMode (lanes : Nat) : Option Bool :=
  if lanes % 256 = 255 then some false
  else if lanes % 16 = 15 ∨ lanes / 16 % 16 = 15 then some true else none

/-- LINK_UP: a port completes bring-up over the lanes that passed, and posts LINK_CHANGE with its up bit (R378, R1089
step 5, R1090, R1092, R1105). -/
def Hw.linkBringUp (h : Hw) (k lanes : Nat) : Hw :=
  let l := h.link k
  match l.hello, laneMode lanes with
  | some e, some w4 =>
    if !h.linkMay k || h.get (R.LNK_STAT_STATE k) != lkHELLO || h.xstate == xLATE || e.letter != facing k || e.seat == h.seat
    then h
    else
      let h := (h.put (R.LNK_STAT_STATE k) lkUP).putB (R.LNK_STAT_WIDTH4 k) w4
      let h := h.setLink k { l with used := [], replays := 0, retrain := false, part := [] }
      let h := (h.onTbl (fun t => { t with everUp := true })).postEvent 16 evLINK_CHANGE (0x120 + k)
      let h := if h.tbl.closed || l.retrain then h else h.reopen
      (if h.get R.TBL_STAT_PRESENT = 0 then h else h.setRoutes).linkPump k
  | _, _ => h

/-- Packets waiting at a link that is no longer up are answered or discarded (R1245). -/
def Hw.linkDrop (h : Hw) (k : Nat) (l : List OutPkt) : Hw := l.foldl (fun (h : Hw) o => h.linkSend k o.pkt (o.vc % 2 == 1)) h

/-- Open partitions fold, heartbeats stop and DONE is driven low (R1113). -/
def Hw.cut (h : Hw) : Hw :=
  let h := ((h.setX xCUT).dis dCUT).onTbl (fun t => { t with doneLow := true })
  (List.range 16).foldl (fun (h : Hw) p => if h.popen p then h.foldRequest p false [] else h) h

/-- All four links are down. -/
def Hw.allDown (h : Hw) : Bool := (List.range 4).all (fun k => !(h.linkIsUp k))

/-- A released seat watches for losses. -/
def Hw.watching (h : Hw) : Bool := h.xstate == xRELEASED || h.xstate == xREDEAL

/-- LINK_DOWN: held frames are discarded, routes are rewritten; a seat of three or more without links is cut
(R1092, R1098, R1113, R1137). -/
def Hw.linkLost (h : Hw) (k : Nat) : Hw :=
  let st := h.get (R.LNK_STAT_STATE k)
  if 4 ≤ k ∨ st = lkDOWN then h
  else
    let l := h.link k
    let was := st == lkUP || l.retrain
    let h := (h.put (R.LNK_STAT_STATE k) lkDOWN).setLink k LinkState.reset
    let h := h.linkFlag k lfDOWN
    let h := if was then h.postEvent 16 evLINK_CHANGE (0x20 + k) else h
    let h := if h.get R.TBL_STAT_PRESENT = 0 then h else h.setRoutes
    let h := h.linkDrop k l.out
    if h.watching && h.allDown && decide (3 ≤ h.presentList.length) then h.cut else h

/-- REPLAY_TIMEOUT: 8 µs without a new ACK (R1098). -/
def Hw.replayTimeout (h : Hw) (k : Nat) : Hw := if k < 4 then h.linkReplay k else h

/-! ### Re-deal (R1119-R1128) -/

/-- Close the requests outstanding to seat `s` with STATUS ERROR (R1124 step 2). -/
def Hw.closeSeat (h : Hw) (s : Nat) : Hw :=
  let hit (o : Outst) : Bool := o.closed == .live && addrSeat (h.loc o.addr) == s
  let gone := h.noc.outst.filter hit
  { h with noc := { h.noc with
      outst := h.noc.outst.filter (fun o => !(hit o)),
      inbox := h.noc.inbox ++ gone.map (fun o => ⟨o.node, o.tag, 1, [], []⟩) } }

/-- A dummy copy is refused (R1121). -/
def Hw.copyRefused (h : Hw) (p : Nat) : Hw := ((h.dis dMIRROR_ERR).errAt eTABLE 3 647).copyDone p true

/-- TBL_SLEEP ends refused (R1131, R1135). -/
def Hw.sleepRefuse (h : Hw) : Hw :=
  match h.tbl.sleepCmd with
  | none => h
  | some (m, k) =>
    (h.onTbl (fun t => { t with sleep := false, sleepCmd := none, sleepAns := [] })).complete m k stWRONG_STATE 4 0

/-- Seat `s` is lost (R1110-R1112, R1122, R1124 steps 1 and 2, R1127): flags and events, requests to it closed, roles and
routes follow, copies to it refused; its re-deal starts or queues. -/
def Hw.loseSeat (h : Hw) (s : Nat) : Hw :=
  if s = h.seat || !(h.bitOf R.TBL_STAT_PRESENT s) || h.bitOf R.TBL_STAT_LOST s then h
  else
    let partner := h.get R.TBL_MIRSTAT_PARTNER
    let h := ((h.putBit R.TBL_STAT_LOST s true).dis dSEAT_LOST).errAt eTABLE 1 647
    let h := h.postEvent 16 evSEAT_LOST s
    let h := h.closeSeat s
    let h := h.setPresent (h.presentList.filter (fun x => x != s))
    let h := if partner = s then
        (List.range 16).foldl (fun (h : Hw) p => if (h.pt p).ck.copying then h.copyRefused p else h) h
      else h
    let h := h.sleepRefuse
    if h.tbl.redeal.isSome then
      (h.onTbl (fun t => { t with queue := t.queue ++ [s] })).putB R.TBL_STAT_QUEUED true
    else (h.onTbl (fun t => { t with redeal := some s, committed := false })).setX xREDEAL

/-- HEARTBEAT_TIMEOUT: a condition of R1111 holds for seat `s`. A seat whose SLEEP was set is never lost; at a two-seat
table with every link down R1112 alone decides. -/
def Hw.heartbeatTimeout (h : Hw) (s : Nat) : Hw :=
  let asleep := ((SMap.get (fun _ => none) h.tbl.hb s).map (fun n => n.sleep)).getD false
  if !h.watching || asleep || (h.presentList.length == 2 && h.allDown) then h else h.loseSeat s

/-- CUT_WAIT: at a two-seat table with all links down, the wait of 2 ms × seat number ends; `low` tells that DONE was
seen low during it (R1112, R1113). -/
def Hw.cutWait (h : Hw) (low : Bool) : Hw :=
  if !h.watching || !h.allDown || h.presentList.length != 2 then h
  else if low then h.cut
  else
    let o := (h.presentList.find? (fun s => s != h.seat)).getD h.seat
    (h.onTbl (fun t => { t with doneLow := true })).loseSeat o

/-- Is this seat the coordinator of the running re-deal: the lowest present seat that is not lost (R1122)? -/
def Hw.coordinates (h : Hw) : Bool := h.presentList.headD 9 == h.seat

/-- The slot of partition `p` in this seat's mirror area, in MiB (R1119). -/
def Hw.slotMib (h : Hw) (p : Nat) : Nat := h.get R.TBL_MIRROR_BASE + h.get R.TBL_MIRROR_SLOT * p

/-- The SEQ of a copy buffer with a valid header (R832). -/
def Hw.copySeq (h : Hw) (a : Nat) : Option Nat :=
  let b := Mem.bytes h.mem.hbm a 0x1000
  if leAt b 0 4 = 0x54504B43 ∧ leAt b 4 2 = 1 ∧ leAt b 0xFFC 4 = crc32c (b.take 0xFFC) ∧ !poisonIn 32 h.mem.hbmP a 0x1000
  then some (leAt b 8 4) else none

/-- The copy buffer of slot `p` with the higher valid SEQ (R1124 step 6). -/
def Hw.bestCopy (h : Hw) (p : Nat) : Option (Nat × Nat) :=
  let a := h.slotMib p * 2 ^ 20
  match h.copySeq a, h.copySeq (a + 2 ^ 24) with
  | some x, some y => if x < y then some (1, y) else some (0, x)
  | some x, none => some (0, x)
  | none, some y => some (1, y)
  | none, none => none

/-- Assign lost partitions to spares in ascending order (R1123). -/
def assign (seat host : Nat) (valid : Nat → Bool) (base : LostPart → Nat) : List LostPart → List Nat → List MapEnt
  | [], _ => []
  | x :: xs, sp =>
    match valid x.part, sp with
    | true, s :: ss => ⟨seat, x.part, 1, host, s, x.oldBase, x.mlen, base x⟩ :: assign seat host valid base xs ss
    | _, _ => ⟨seat, x.part, 2, 0, 0, x.oldBase, x.mlen, 0⟩ :: assign seat host valid base xs sp

/-- The entries the coordinator writes for lost seat `l` (R1123, R1124 steps 3 and 4). `opened` lists the lost seat's
open partitions in ascending order; `valid` and `spares` are P's TBL_MIRSTAT and spares where P is another seat. -/
def Hw.redealEntries (h : Hw) (l : Nat) (opened : List LostPart) (valid spares : Nat) : List MapEnt :=
  let host := nextSeat h.presentList l
  if !h.is R.TBL_CFG_REDEAL_EN then (List.range 16).map (fun p => ⟨l, p, 2, 0, 0, 0, 0, 0⟩)
  else if host = h.seat then
    let sp := (List.range 16).filter (fun p => h.bitOf R.TBL_SPARE_MASK p && h.pstate p == pOFF && !h.fused p)
    assign l host (fun p => h.bitOf R.TBL_MIRSTAT_VALID p && (h.bestCopy p).isSome)
      (fun x => h.slotMib x.part + 32 + x.mlen * ((h.bestCopy x.part).getD (0, 0)).1) opened sp
  else assign l host (fun p => bit valid p) (fun x => x.newBase) opened (bitList 16 spares)

/-- Restore one tile from its record (R831, R1124 step 6): stores, poison and control window, then RUN under AUTORUN
where it was recorded running (step 8). -/
def Tile.restore (t : Tile) (bs : List Byte) (bad : Nat → Bool) (run : Bool) : Tile :=
  let t := (List.range 0x3000).foldl (fun (t : Tile) i => t.putBytes (32 * i) ((bs.drop (32 * i)).take 32) (bad i)) t
  let t := (List.range 0x800).foldl (fun (t : Tile) i => t.winWr (4 * i) (leAt bs (0x60000 + 4 * i) 4)) t
  if run && leAt bs 0x60000 4 % 4 == 1 && t.ctl.st == .halted then t.start else t

/-- P opens a spare and restores a partition into it (R1124 steps 5, 6 and 8, R1125, R1138). -/
def Hw.restorePart (h : Hw) (e : MapEnt) : Hw :=
  let sp := e.hostPart
  let slot := h.slotMib e.part
  match h.bestCopy e.part with
  | none => h.setMap { e with st := 2 }
  | some (i, seq) =>
    if h.pstate sp ≠ pOFF ∨ h.fused sp then h.setMap { e with st := 2 }
    else
      let h := h.openPart sp 0 slot (h.get R.TBL_MIRROR_SLOT)
      let h := ((h.put (R.SYS_PART_CKPT_BASE sp) slot).put (R.SYS_PART_CKPT_MLEN sp) e.mlen)
      let h := (h.put (R.SYS_PART_STAT_CKPT_ACT sp) i).put (R.SYS_PART_SEQ_SEQ sp) seq
      let h := (h.wr (R.PACE_CFG sp) (resetWord (R.PACE_CFG sp)).toNat).wr (R.PACE_BAND sp) (resetWord (R.PACE_BAND sp)).toNat
      let a := (slot + 16 * i) * 2 ^ 20
      let hd := Mem.bytes h.mem.hbm a 0x1000
      if (tilesOf sp).any (fun t => h.fenced t) then h.setMap { e with st := 2 }
      else
        let run := h.is R.TBL_CFG_AUTORUN
        let h := ((List.range 32).zip (tilesOf sp)).foldl (fun (h : Hw) x =>
          let ra := a + 0x1000 + 0x62000 * x.1
          let bs := Mem.bytes h.mem.hbm ra 0x62000
          h.onTile x.2 (fun t => t.restore bs (fun j => NSet.has h.mem.hbmP (ra / 32 + j)) run)) h
        let job := leAt hd 16 4
        let mask := leAt hd 20 4
        h.onPt sp (fun x => { x with run := if mask = 0 then none else some ⟨job, mask, sp⟩, job := job })

/-- The next queued loss begins (R1127). -/
def Hw.redealNext (h : Hw) : Hw :=
  match h.tbl.queue with
  | [] => (h.onTbl (fun t => { t with redeal := none, committed := false })).setX xRELEASED
  | s :: ss =>
    let h := h.onTbl (fun t => { t with redeal := some s, queue := ss, committed := false })
    if ss.isEmpty then h.putB R.TBL_STAT_QUEUED false else h

/-- The map of lost seat `l` is in force: what this seat holds of it is restored, redirects apply, REDEAL_DONE is posted and a
queued loss goes next (R1124). -/
def Hw.redealFinish (h : Hw) (l : Nat) : Hw :=
  let es := (List.range 16).map (fun p =>
    let i := 16 * l + p
    (⟨l, p, h.get (R.TBL_MAP0_STATE i), h.get (R.TBL_MAP0_HOST_SEAT i), h.get (R.TBL_MAP0_HOST_PART i),
      h.get (R.TBL_MAP0_OLD_BASE i), h.get (R.TBL_MAP1_MLEN i), h.get (R.TBL_MAP1_NEW_BASE i)⟩ : MapEnt))
  let h := es.foldl (fun (h : Hw) e =>
    if e.st ≠ 1 then h
    else if e.hostSeat = h.seat then h.restorePart e
    else if h.bitOf R.TBL_STAT_LOST e.hostSeat then h.setMap { e with st := 2 } else h) h
  let h := h.onTbl (fun t => { t with redir := NSet.add t.redir l })
  let h := h.postEvent 16 evREDEAL_DONE (l + h.get R.TBL_EPOCH_EPOCH * 2 ^ 32)
  h.redealNext

/-- REDEAL_DONE for the running re-deal (R1124 steps 3 to 8). On the coordinator the entries are computed and committed
with EPOCH + 1; another seat has committed them at a heartbeat. On P the spares are opened and restored. Then the
redirects take effect and REDEAL_DONE is posted. Assignments to a seat lost meanwhile are marked LOST (R1127). -/
def Hw.redealDone (h : Hw) (opened : List LostPart) (valid spares : Nat) : Hw :=
  match h.tbl.redeal with
  | none => h
  | some l =>
    if !h.tbl.committed && !h.coordinates then h
    else
      let h := if h.tbl.committed then h
        else ((h.redealEntries l opened valid spares).foldl (fun (h : Hw) e => h.setMap e) h).put R.TBL_EPOCH_EPOCH
          (h.get R.TBL_EPOCH_EPOCH + 1)
      h.redealFinish l

/-! ### Heartbeats (R1110, R1129-R1131) -/

/-- A dummy copy to or from seat `s` may run: copies go to the partner. -/
def Hw.copiesRun (h : Hw) : Bool := (List.range 16).any (fun p => (h.pt p).ck.copying)

/-- BUSY of this seat's heartbeats: a re-deal runs or is queued, or a dummy copy runs (R1110, R1131). -/
def Hw.tblBusy (h : Hw) : Bool := h.tbl.redeal.isSome || h.copiesRun

/-- HEARTBEAT_SEND: one packet to every other seat of K (R1110). -/
def Hw.heartbeatSend (h : Hw) : Hw :=
  if !h.watching && h.xstate != xAGREED then h
  else
    let aux := h.seat + 8 * b2n h.tbl.sleep + 16 * b2n (h.is R.TBL_STAT_TIME_BAD) + 32 * b2n h.tblBusy +
      h.get R.TBL_EPOCH_EPOCH * 2 ^ 16
    (h.presentList.filter (fun s => s != h.seat)).foldl (fun (h : Hw) s =>
      h.toGate { op := 0xC3, addr := 0, srcSeat := h.seat, srcNode := 647, dstSeat := s, dstNode := 647, prio := h.prioOf 647,
                 tag := 0, status := 0, bytes := 0, aux := aux, data := [], poison := [], crcBad := false }) h

/-- Other present seats have all answered TBL_SLEEP (R1129). -/
def Hw.sleepCheck (h : Hw) : Hw :=
  match h.tbl.sleepCmd with
  | none => h
  | some (m, k) =>
    if (h.presentList.filter (fun s => s != h.seat)).all (fun s => NSet.has h.tbl.sleepAns s) then
      ((h.onTbl (fun t => { t with sleepCmd := none, sleepAns := [] })).putB R.TBL_STAT_SLEEP_OK true).ok m k 0
    else h

/-- HEARTBEAT: packet `k` reaches node 647. `lost` is the loss it reports (R1124 step 1; its place in the packet is not
given). A heartbeat of a seat declared lost, or one that reaches a late or cut seat, is ignored (R1109, R1136). The
first with EPOCH + 1 commits the entries received (R1124 step 4). -/
def Hw.heartbeat (h : Hw) (k : Nat) (crc : Bool) (lost : Option Nat) : Hw :=
  match h.pkt? k with
  | none => h
  | some p =>
    if p.op != 0xC3 || p.dstSeat != h.seat || p.dstNode != 647 then h
    else
      let h := h.dropPkt k
      let s := bits p.aux 2 0
      if crc || p.crcBad then h.errAddr eCRC 1 647 p.addr
      else if !h.watching && h.xstate != xAGREED || !(h.bitOf R.TBL_STAT_PRESENT s) then h
      else
        let n : HbNote := ⟨bit p.aux 3, bit p.aux 4, bit p.aux 5, bits p.aux 47 16⟩
        let h := h.onTbl (fun t => { t with hb := SMap.set (fun _ => none) t.hb s (some n) })
        let h := match lost with
          | some l => if h.watching then h.loseSeat l else h
          | none => h
        let e := h.get R.TBL_EPOCH_EPOCH
        let h := if n.epoch = (e + 1) % 2 ^ 32 && h.tbl.redeal.isSome && !h.tbl.committed then
            let h := h.tbl.pendMap.foldl (fun (h : Hw) x => h.setMap x) h
            (h.onTbl (fun t => { t with pendMap := [], committed := true })).put R.TBL_EPOCH_EPOCH (e + 1)
          else h
        if h.tbl.sleepCmd.isNone then h
        else if n.busy then h.sleepRefuse
        else if n.epoch = h.get R.TBL_EPOCH_EPOCH then
          (h.onTbl (fun t => { t with sleepAns := NSet.add t.sleepAns s })).sleepCheck
        else h

/-- TBL_SLEEP (R1129-R1131). -/
def Hw.tblSleep (h : Hw) (m k : Nat) : Hw :=
  h.onCmd m k 0x0602 (fun _ =>
    h.whenReleased m k <| if h.tbl.redeal.isSome || h.copiesRun then h.wrongState m k 4
    else ((h.begun m k).onTbl (fun t => { t with sleep := true, sleepCmd := some (m, k), sleepAns := [] })).sleepCheck)

/-! ### Table time (R1114-R1118, R1145) -/

/-- Clamp to ±200 ppm in units of 1/4096 ppm. -/
def clampPpm (i : Int) : Int := max (-819200) (min 819200 i)

/-- Table time advances by 64 SYSCLK cycles at the rate in use, and is forwarded (R61, R1114, R1115). -/
def Hw.timeForward (h : Hw) : Hw :=
  let d : Int := 1280 * (4096000000 + h.tbl.rate)
  let x := h.tbl.frac + d.toNat
  let tt := (h.clk.tt + x / 4096000000) % 2 ^ 64
  { h with clk := { h.clk with now := h.clk.now + 1280, tt := tt, fwd := tt },
           tbl := { h.tbl with frac := x % 4096000000 } }

/-- TABLE_TIME_FORWARD, `n` times over. -/
def Hw.timeForwards (h : Hw) : Nat → Hw
  | 0 => h
  | n + 1 => if h.busDown then h else h.timeForward.timeForwards n

/-- A step of table time by a signed amount of 1/16 ns. The copies of the other domains take it at once, so that their
timestamps stay within the bound of R61. -/
def Hw.timeStep (h : Hw) (d : Int) : Hw :=
  { h with clk := { h.clk with tt := wrapI 64 (h.clk.tt + d), fwd := wrapI 64 (h.clk.tt + d) } }

/-- One offset sample, in 1/16 ns (R1115, R1116). -/
def Hw.servo (h : Hw) (off : Int) : Hw :=
  let h := h.wr R.TBL_TIME_ERR (wrapI 32 off)
  let tol := 16 * h.get R.TBL_TIME_TOL_NS
  let a := off.natAbs
  let h := if tol < a then
      (if h.is R.TBL_STAT_TIME_BAD then h else h.putB R.TBL_STAT_TIME_BAD true).dis dTIME_TOL
    else if 2 * a < tol then h.putB R.TBL_STAT_TIME_BAD false else h
  if 16000 < a then h.timeStep (-off)
  else
    let i := clampPpm (h.tbl.servoI - off)
    h.onTbl (fun t => { t with servoI := i, rate := clampPpm (i - 16 * off) })

/-- Mean of the delay measurements held, rounded down. -/
def meanDelay (l : List Nat) : Nat := l.foldl (· + ·) 0 / max 1 l.length

/-- TIME: a TIME frame of link `k`, sent at table time `sent`; `rtt` and `turn` are the round trip and the peer's
turnaround it completes, in 1/16 ns (R1115). -/
def Hw.timeFrame (h : Hw) (k : Nat) (bs : List Byte) (sent rtt turn : Nat) : Hw :=
  match h.linkAccept k ftTIME bs with
  | (none, h) => h
  | (some _, h) =>
    let l := h.link k
    let ds := ((rtt - turn) / 2 :: l.delays).take 16
    let d := meanDelay ds
    let h := (h.setLink k { l with delays := ds }).wr (R.LNK_DELAY k) d
    let m := h.get R.TBL_STAT_MASTER
    if m != h.seat && h.bitOf R.TBL_STAT_PRESENT m && h.routeOf m == k then
      h.servo ((h.clk.tt : Int) - (sent : Int) - (d : Int))
    else h

/-- TIME_EXCHANGE: a TIME frame goes out on every up link (R1115). -/
def Hw.timeExchange (h : Hw) : Hw :=
  (List.range 4).foldl (fun (h : Hw) k =>
    let l := h.link k
    if h.linkIsUp k && decide (l.held.length < 64) then h.setLink k (l.push ftTIME []) else h) h

/-- This seat is the time master. -/
def Hw.isMaster (h : Hw) : Bool := h.get R.TBL_STAT_MASTER == h.seat

/-- TBL_TIME_OFS: on the time master a write is an offset sample; elsewhere it has no effect (R1118). -/
def Hw.timeOfs (h : Hw) (v : Nat) : Hw := if h.isMaster then h.servo (sext 32 v) else h

/-- TBL_ALARM: table time has reached an armed alarm, which fires, or is skipped while TIME_BAD (R1117). -/
def Hw.tblAlarm (h : Hw) : Hw :=
  if !h.is R.TBL_ALARM_CTL_ARM || decide (h.clk.tt < h.rd64 R.TBL_ALARM_LO R.TBL_ALARM_HI) then h
  else
    let h := h.putB R.TBL_ALARM_CTL_ARM false
    if h.is R.TBL_STAT_TIME_BAD then h.dis dALARM_SKIP
    else (h.snsTrig (h.rd R.TBL_ALARM_SNS + h.get R.TBL_ALARM_CTL_SRC_HI * 2 ^ 32)).sigSoft (h.get R.TBL_ALARM_CTL_CORES)

/-- TBL_TIME with OP 0. -/
def Hw.timeRead (h : Hw) (m k : Nat) : Hw :=
  h.onCmd m k 0x0603 (fun c => if c.par 0 1 = 0 then h.whenReleased m k (h.ok m k h.clk.tt) else h)

/-- TBL_TIME with OP 1 (R1145); a reserved OP is BAD_PARAM. -/
def Hw.timeStepCmd (h : Hw) (m k : Nat) : Hw :=
  h.onCmd m k 0x0603 (fun c =>
    if c.par 0 1 = 0 then h
    else if c.par 0 1 ≠ 1 then h.badParam m k 0
    else h.whenReleased m k <| if !h.isMaster then h.wrongState m k 3
    else
      let h := h.timeStep (sext 64 (c.par 8 8))
      h.ok m k h.clk.tt)

/-! ### Dummy copies and commands (R1119-R1121, R1143, R1144) -/

/-- Does the slot of partition `p` overlap a partition restored into its slot (R1121)? -/
def Hw.slotUsed (h : Hw) (p : Nat) : Bool :=
  (List.range 16).any (fun q => h.popen q && h.get (R.NOC_ISO_SLICE_SLICE_BASE q) == h.slotMib p &&
    h.get (R.NOC_ISO_SLICE_SLICE_LEN q) == h.get R.TBL_MIRROR_SLOT && h.is R.TBL_MIRROR_SLOT)

/-- DUMMY_COPY_ACK: every write of a dummy copy has its response (R834 step 6, R1120, R1121). `partner` tells that this
seat holds the copy of its predecessor's partition `p`, whose MLEN is `mlen`; otherwise this seat's partition `p` was
copied, and `refused` tells that the partner refused it. -/
def Hw.copyAck (h : Hw) (p : Nat) (partner : Bool) (mlen : Nat) (refused : Bool) : Hw :=
  if 16 ≤ p then h
  else if partner then
    let slot := h.get R.TBL_MIRROR_SLOT
    if h.get R.TBL_MIRSTAT_PRED = h.seat then h
    else if slot < 32 + 2 * mlen || decide (32768 < h.slotMib p + slot) || h.slotUsed p then h.dis dMIRROR_ERR
    else h.putBit R.TBL_MIRSTAT_VALID p true
  else if !(h.pt p).ck.copying then h
  else if refused || h.get R.TBL_MIRSTAT_PARTNER == h.seat then h.copyRefused p
  else h.copyDone p false

/-- TBL_STATUS (R1143): bit [11] is DONE sensed low. -/
def Hw.tblStatus (h : Hw) (m k : Nat) (doneHigh : Bool) : Hw :=
  h.onCmd m k 0x0600 (fun _ =>
    h.ok m k (h.get R.TBL_STAT_PRESENT + 2 ^ 8 * b2n h.tbl.redeal.isSome + 2 ^ 9 * h.get R.TBL_STAT_QUEUED +
      2 ^ 10 * h.get R.TBL_STAT_TIME_BAD + 2 ^ 11 * b2n (!doneHigh) + 2 ^ 12 * b2n (h.xstate == xCUT) +
      2 ^ 13 * b2n (h.xstate == xLATE) + 2 ^ 14 * b2n (h.xstate == xISOLATED) + 2 ^ 32 * h.get R.TBL_EPOCH_EPOCH))

/-- TBL_SPARE (R1140, R1144). -/
def Hw.tblSpare (h : Hw) (m k : Nat) : Hw :=
  h.onCmd m k 0x0601 (fun c =>
    let mask := c.par 0 2
    h.whenReleased m k <| if h.tbl.redeal.isSome then h.wrongState m k 4
    else if (bitList 16 mask).any h.fused then h.complete m k stNO_RESOURCE 1 0
    else
      match (bitList 16 mask).find? (fun p => h.pstate p != pOFF) with
      | some p => h.wrongState m k (h.pstate p)
      | none =>
        if mask ≠ 0 ∧ (h.get R.TBL_MIRROR_SLOT < 32 ∨ 32768 < h.slotMib 16) then h.complete m k stNO_RESOURCE 5 0
        else (h.put R.TBL_SPARE_MASK mask).ok m k 0)

/-- INTERRUPT: packet `k` is delivered to its node (R698). -/
def Hw.interrupt (h : Hw) (k : Nat) (crc : Bool) : Hw :=
  match h.pkt? k with
  | none => h
  | some p =>
    if p.op != 0xC4 || p.dstSeat != h.seat then h
    else
      let h := h.dropPkt k
      if crc || p.crcBad then h.errAddr eCRC 1 p.dstNode p.addr
      else { h with noc := { h.noc with irq := h.noc.irq ++ [(p.dstNode, bits p.aux 10 0)] } }

end Sys2Proof.Machine
end

