-- ==== Sys2Proof/Machine/Fabric.lean ====
section
/-!
DEFINITION. The term fabric: geometry, frames, what a term block, a pool RAM port and a mult cell compute, and the fabric
ports and user register window (chapter 6). The selection by the routing bits is in a file outside the spec (assumption 9).
-/
namespace Sys2Proof.Machine

open Sys2Proof

/-! ### Geometry (R217, R281-R283) -/

/-- Block number of column c, row r (R281). -/
def blockOf (c r : Nat) : Nat :=
  if r < 26 then 144 * r + c
  else if r ≤ 85 then 3744 + 80 * (r - 26) + (if c < 40 then c else c - 64)
  else 8544 + 144 * (r - 86) + c

/-- Column and row of a block. -/
def blockXY (b : Nat) : Nat × Nat :=
  if b < 3744 then (b % 144, b / 144)
  else if b < 8544 then
    let c := (b - 3744) % 80
    (if c < 40 then c else c + 64, 26 + (b - 3744) / 80)
  else ((b - 8544) % 144, 86 + (b - 8544) / 144)

/-- Reconfiguration region of a block: 8 columns by one row band. -/
def blockRegion (b : Nat) : Nat :=
  let p := blockXY b
  (if p.2 < 26 then 0 else if p.2 ≤ 85 then 18 else 36) + p.1 / 8

/-- Frames of the fabric (R217), and the first frame of the periphery. -/
def fabFrames : Nat := 111616
def fabPeriphery : Nat := 110592

/-- Region of a frame; none for the periphery. -/
def frameRegion (f : Nat) : Option Nat := if f < fabPeriphery then some (blockRegion (f / 9)) else none

/-- Region of fabric port `i` (0-63): ports sit in rows 25 and 86 at columns 40 + 2x and 41 + 2x. -/
def portRegion (i : Nat) : Nat := if i < 32 then (40 + 2 * i) / 8 else 36 + (40 + 2 * (i - 32)) / 8

/-! ### Frames (R322, R325, R1171) -/

/-- Stored CRC of a frame of zeros: CRC-32C of 256 zero bytes. -/
def zeroFrameCrc : Word := BitVec.ofNat 32 (crc32c (List.replicate 256 0))

/-- Frame `f`'s configuration cells. -/
def FabState.frame (s : FabState) (f : Nat) : BitVec 2048 := SMap.get (fun _ => 0) s.frames f

/-- Configuration bit n of block b. -/
def FabState.cfgBit (s : FabState) (b n : Nat) : Bool := (s.frame (9 * b + n / 2048)).toNat.testBit (n % 2048)

/-- A field of `w` configuration bits of block b from bit n. -/
def FabState.cfgFld (s : FabState) (b n w : Nat) : Nat := (s.frame (9 * b + n / 2048)).toNat >>> (n % 2048) % 2 ^ w

/-- The pool RAM word of pool RAM j (R303, R322). -/
def FabState.poolWord (s : FabState) (j : Nat) : Nat := s.cfgFld (8 * j) 11328 64

/-- Even parity of 8 bits. -/
def par8 (v : Nat) : Nat := popCount 8 v % 2

/-- Row of a pool RAM from its 64 data bits, with its ninth bits (R325). -/
def poolRow (data : Nat) (parity : Bool) : Nat :=
  (List.range 8).foldl (fun (r : Nat) l =>
    let b := data / 2 ^ (8 * l) % 256
    r + (b + (if parity then 256 * par8 b else 0)) * 2 ^ (9 * l)) 0

/-- Write one frame: cells with their CRC, or the initial contents of 32 pool RAM rows, which are no cells (R224, R322,
R325, R1171). -/
def FabState.writeFrame (s : FabState) (f : Nat) (v : BitVec 2048) : FabState :=
  if f < fabPeriphery ∧ 7 ≤ f % 9 then
    let b := f / 9
    let j := b / 8
    let row0 := 64 * (b % 8) + 32 * (f % 9 - 7)
    let parity := bit (s.poolWord j) 10
    { s with pool := (List.range 32).foldl (fun m i =>
        SMap.set (fun _ => (0 : BitVec 72)) m (512 * j + row0 + i)
          (BitVec.ofNat 72 (poolRow (v.toNat / 2 ^ (64 * i) % 2 ^ 64) parity))) s.pool }
  else
    { s with frames := SMap.set (fun _ => 0) s.frames f v,
             crcs := SMap.set (fun _ => zeroFrameCrc) s.crcs f (BitVec.ofNat 32 (crc32c (leBytes 256 v.toNat))) }

/-- Write zero to every frame for which `p` holds (R225, R261). -/
def FabState.clear (s : FabState) (p : Nat → Bool) : FabState :=
  let gone (f : Nat) : Bool := p f && decide (f < fabPeriphery ∧ 7 ≤ f % 9)
  { s with frames := s.frames.filter (fun e => !(p e.1)), crcs := s.crcs.filter (fun e => !(p e.1)),
           pool := s.pool.filter (fun e => !(gone (9 * (8 * (e.1 / 512) + e.1 % 512 / 64) + 7 + e.1 % 64 / 32))) }

/-! ### The term block (R284-R297, R333) -/

/-- Product term t of a block with inputs `inp` (R284-R286). -/
def FabState.term (s : FabState) (b t inp : Nat) : Bool :=
  let sel := (List.range 96).filter (fun l => s.cfgBit b (96 * t + l))
  !sel.isEmpty && sel.all (fun l => (bit inp (l / 2)) != (l % 2 == 1))

/-- The macrocell that group g is steered to (R287, R288). -/
def FabState.dest (s : FabState) (b g : Nat) : Option Nat :=
  match s.cfgFld b (9216 + 4 * g) 3 with
  | 0 => some g
  | 1 => if g = 0 then none else some (g - 1)
  | 2 => if g = 15 then none else some (g + 1)
  | 3 => if g < 2 then none else some (g - 2)
  | 4 => if 13 < g then none else some (g + 2)
  | _ => none

/-- Block modes (R294): LOGIC, CARRY, SHIFT; 3 acts as LOGIC. -/
def FabState.mode (s : FabState) (b : Nat) : Nat :=
  let m := s.cfgFld b 11264 2
  if m = 3 then 0 else m

/-- sum_i: the terms steered to macrocell i that serve no control purpose (R287-R289). -/
def FabState.sum (s : FabState) (b i inp : Nat) : Bool :=
  (List.range 16).any (fun g => s.dest b g == some i &&
    (List.range 6).any (fun k =>
      !(k == 4 && (s.cfgBit b (9280 + 2 * g) || s.mode b == 1)) && !(k == 5 && s.cfgBit b (9281 + 2 * g)) &&
        s.term b (6 * g + k) inp))

/-- Macrocell word bits of macrocell i (R290). -/
def FabState.mc (s : FabState) (b i n w : Nat) : Nat := s.cfgFld b (10240 + 64 * i + n) w

/-- Carries c_0 to c_16 of a block in CARRY mode. -/
def FabState.carries (s : FabState) (b inp : Nat) (cin : Bool) : Nat → Bool
  | 0 => cin
  | i + 1 => s.term b (6 * i + 4) inp || (s.sum b i inp && s.carries b inp cin i)

/-- The carry into macrocell 0 (R294, R333): `south` is the carry out of the block to the south, none where that block
is not in CARRY mode or lies over the grid's edge or the hole. -/
def FabState.carryIn (s : FabState) (b inp : Nat) (south : Option Bool) : Bool :=
  match s.cfgFld b 11272 2 with
  | 0 => false
  | 1 => true
  | 2 => south.getD false
  | _ => bit inp 47

/-- x_i of a block (R290, R295). -/
def FabState.x (s : FabState) (b i inp : Nat) (south : Option Bool) : Bool :=
  if s.mode b = 1 then s.sum b i inp != s.carries b inp (s.carryIn b inp south) i
  else
    s.sum b i inp !=
      (match s.mc b i 8 2 with
        | 1 => true
        | 2 => s.term b (6 * i + 4) inp
        | _ => false)

/-- A control of macrocell i: none or always by `dflt`, CTL0, CTL1, term 6i + 5. -/
def FabState.ctl (s : FabState) (b i inp code : Nat) (dflt : Bool) : Bool :=
  match code with
  | 0 => dflt
  | 1 => bit inp 44
  | 2 => bit inp 45
  | _ => s.term b (6 * i + 5) inp

/-- q_i after an active clock edge (R291, R292, R296, R297): `q` holds the block's registers, `shin` is q15 of the block
to the south. -/
def FabState.nextQ (s : FabState) (b i inp q : Nat) (south : Option Bool) (shin : Bool) : Bool :=
  let qi := bit q i
  let sr := s.ctl b i inp (s.mc b i 4 2) false
  let ce := s.ctl b i inp (s.mc b i 6 2) true
  let srval := s.mc b i 3 1 == 1
  let xi := s.x b i inp south
  if s.mode b = 2 then
    if !ce then qi
    else if sr then srval
    else if s.cfgBit b 11275 && bit inp 45 then xi
    else if i = 0 then (if s.cfgBit b 11274 && (blockXY b).2 % 2 == 1 then shin else bit inp 0)
    else bit q (i - 1)
  else if sr then srval
  else if !ce then qi
  else if s.mc b i 1 1 = 1 then qi != xi else xi

/-- A macrocell's output and its local feedback (R290). -/
def FabState.out (s : FabState) (b i inp q : Nat) (south : Option Bool) : Bool × Bool :=
  (if s.mc b i 0 1 = 1 then bit q i else s.x b i inp south, if s.mc b i 10 1 = 1 then bit q i else s.x b i inp south)

/-! ### Pool RAM ports and mult cells (R303-R308) -/

/-- Width of a port by its code (R303). -/
def poolWidth (c : Nat) : Nat := listAt 72 [1, 2, 4, 9, 18, 36, 72] c

/-- Row bits that word A of a port of width w covers: (row, bit in the 72-bit row), lowest first (R304, R305). DESIGN
CHOICE (assumption 76): a word address beyond the 512 rows, which the rules do not define, wraps modulo the rows. -/
def poolBits (w a : Nat) : List (Nat × Nat) :=
  if w ≤ 4 then
    (List.range w).map (fun n =>
      let d := a * w + n
      (d / 64 % 512, 9 * (d % 64 / 8) + d % 8))
  else
    let per := 72 / w
    (List.range w).map (fun n => (a / per % 512, 9 * (a % per * (w / 9)) + n))

/-- A row of pool RAM j. -/
def FabState.row (s : FabState) (j r : Nat) : Nat := (SMap.get (fun _ => (0 : BitVec 72)) s.pool (512 * j + r)).toNat

/-- Read word A of a port of width w (R304-R307): the value, and PERR. -/
def FabState.poolRead (s : FabState) (j w a : Nat) : Nat × Bool :=
  let ps := poolBits w a
  let v := ((List.range w).zip ps).foldl (fun (v : Nat) e => v + b2n (bit (s.row j e.2.1) e.2.2) * 2 ^ e.1) 0
  let lanes := (ps.map (fun p => (p.1, p.2 / 9 * 9))).eraseDups
  (v, bit (s.poolWord j) 10 && lanes.any (fun p => popCount 9 (s.row j p.1 / 2 ^ p.2) % 2 == 1))

/-- Write enables are on for block b (R251, R252, R260). -/
def FabState.canWrite (s : FabState) (b : Nat) : Bool := s.writeEn && !(bit s.weOff (blockRegion b))

/-- Write word A of a port of width w; with PARITY the ninth bits are computed (R306, R307). Write enables off: no
effect (R332). -/
def FabState.poolWrite (s : FabState) (j w a v : Nat) : FabState :=
  if !(s.canWrite (8 * j)) then s
  else
    let put (s : FabState) (p : Nat × Nat) (b : Bool) : FabState :=
      let v := BitVec.ofNat 72 (setBit (s.row j p.1) p.2 b)
      { s with pool := SMap.set (fun _ => (0 : BitVec 72)) s.pool (512 * j + p.1) v }
    let s := ((List.range w).zip (poolBits w a)).foldl (fun (s : FabState) e => put s e.2 (bit v e.1)) s
    if bit (s.poolWord j) 10 then
      (poolBits w a).foldl (fun (s : FabState) p =>
        let l := p.2 / 9
        put s (p.1, 9 * l + 8) (par8 (s.row j p.1 / 2 ^ (9 * l) % 256) == 1)) s
    else s

/-- A mult cell: product of A (24 bits) and B (18 bits), or the accumulation into P (R308). -/
def multOut (cfg a b p : Nat) : Nat :=
  let x : Int := if bit cfg 0 then sext 24 a else (a % 2 ^ 24 : Nat)
  let y : Int := if bit cfg 1 then sext 18 b else (b % 2 ^ 18 : Nat)
  if bit cfg 4 then wrapI 48 ((p : Int) + x * y) else wrapI 42 (x * y)

/-! ### Fabric ports (R313-R318, R340, R700) -/

/-- A packet reaches fabric port `n`: given to user logic, with RX_POISON where its CRC failed or it is poisoned
(R317). -/
def Hw.portGive (h : Hw) (n : Nat) (p : Packet) (crc : Bool) : Hw :=
  let bad := crc || p.crcBad || p.poison.any (fun b => b)
  let h := if crc || p.crcBad then h.errAddr eCRC 1 n p.addr else h
  { h with fab := { h.fab with rx := h.fab.rx ++ [(n, p, bad)] } }

/-- A request reaches fabric port `n`: FENCED while the port is fenced, else user logic accepts it. -/
def Hw.portRequest (h : Hw) (n : Nat) (p : Packet) (crc : Bool) : Hw :=
  if h.fenced n then h.answer p n 2 [] []
  else
    let h := h.portGive n p crc
    { h with noc := { h.noc with accepted := h.noc.accepted ++ [p] } }

/-- FABRIC_PORT_RX: packet `k`, addressed to a fabric port, is delivered to user logic. -/
def Hw.portRx (h : Hw) (k : Nat) (crc : Bool) : Hw :=
  match h.pkt? k with
  | none => h
  | some p =>
    let n := p.dstNode
    if p.dstSeat != h.seat || decide (n < 576) || decide (640 ≤ n) then h
    else if p.op = 1 ∨ p.op = 2 then (h.dropPkt k).portRequest n p crc
    else if p.op = 0x81 ∨ p.op = 0x82 then (h.dropPkt k).rspArrive { p with crcBad := p.crcBad || crc }
    else h

/-- Bits hi to lo of the header, and the fields a port reads (R313, R696). -/
def UserPkt.fld (u : UserPkt) (hi lo : Nat) : Nat := bits u.hdr.toNat hi lo
def UserPkt.addr (u : UserPkt) : Nat := u.fld 47 0
def UserPkt.dstSeat (u : UserPkt) : Nat := u.fld 66 64
def UserPkt.dstNode (u : UserPkt) : Nat := u.fld 76 67
def UserPkt.cls (u : UserPkt) : Nat := u.fld 81 80
def UserPkt.prio (u : UserPkt) : Nat := u.fld 83 82
def UserPkt.len (u : UserPkt) : Nat := u.fld 88 84
def UserPkt.op (u : UserPkt) : Nat := u.fld 103 96
def UserPkt.tag (u : UserPkt) : Nat := u.fld 115 104
def UserPkt.status (u : UserPkt) : Nat := u.fld 118 116
def UserPkt.bytes (u : UserPkt) : Nat := u.fld 137 128
def UserPkt.aux (u : UserPkt) : Nat := u.fld 191 144

/-- The data bytes of the packet, and the POISON of its data flits (R697). -/
def UserPkt.data (u : UserPkt) : List Byte :=
  (((u.flits.map (fun f => leBytes 32 f.1.toNat)).flatten).drop (u.addr % 32)).take u.bytes
def UserPkt.poison (u : UserPkt) : List Bool := u.flits.map (fun f => f.2)

/-- LEN and BYTES agree with the data under R697. -/
def UserPkt.fits (u : UserPkt) : Bool :=
  if u.op = 2 ∨ (u.op = 0x81 ∧ u.status = 0) then
    decide (1 ≤ u.bytes ∧ u.bytes ≤ 512) && u.flits.length == u.len && u.len == (granules 32 u.addr u.bytes).length
  else u.flits.isEmpty && u.len == 0 && (u.op != 1 || decide (1 ≤ u.bytes ∧ u.bytes ≤ 512))

/-- A response of user logic leaves port `n` for the destination its header names, which ends the request of that source and
TAG that the port had accepted (R313, R314, R703). -/
def Hw.portAnswer (h : Hw) (n : Nat) (u : UserPkt) : Hw :=
  let acc := match h.noc.accepted.find? (fun p =>
      p.dstNode == n && p.srcSeat == u.dstSeat && p.srcNode == u.dstNode && p.tag == u.tag) with
    | some p => h.noc.accepted.erase p
    | none => h.noc.accepted
  let h := { h with noc := { h.noc with accepted := acc } }
  h.send { op := u.op, addr := u.addr, srcSeat := h.seat, srcNode := n, dstSeat := u.dstSeat, dstNode := u.dstNode,
           prio := u.prio, tag := u.tag, status := u.status, bytes := u.bytes, aux := u.aux,
           data := if u.len = 0 then [] else u.data, poison := u.poison, crcBad := false }

/-- FABRIC_PORT_TX: port `i` accepts a packet of user logic (R313-R316, R318, R700). A request that the NI answers itself
returns to user logic with that status. -/
def Hw.portTx (h : Hw) (i : Nat) (u : UserPkt) : Hw :=
  let n := 576 + i
  let refuse := h.errAddr eADDRESS 2 n u.addr
  if 64 ≤ i ∨ h.fenced n ∨ !h.fab.userRun then h
  else if u.cls = 0 ∨ !(u.op == 1 || u.op == 2 || u.op == 0x81 || u.op == 0x82) ∨ !u.fits then refuse
  else if u.op = 1 ∨ u.op = 2 then
    match h.niCheck n (u.addr) u.bytes (some 16) with
    | (some st, h) =>
      let p : Packet :=
        { op := if u.op = 1 then 0x81 else 0x82, addr := u.addr, srcSeat := h.seat, srcNode := n, dstSeat := h.seat,
          dstNode := n, prio := u.prio, tag := u.tag, status := st, bytes := 0, aux := 0, data := [], poison := [],
          crcBad := false }
      { h with fab := { h.fab with rx := h.fab.rx ++ [(n, p, false)] } }
    | (none, h) =>
      if h.tagFree n then (h.niSend n u.op (u.addr) u.bytes u.prio u.data u.poison).2 else h
  else h.portAnswer n u

/-! ### User register window (R319-R321) -/

/-- The user register port stands still: the fabric clocks are gated (R124), user resets are asserted (R251), or the user PLL
of its clock has lost lock. An access to it then ends with an error (R25). -/
def Hw.uregDown (h : Hw) : Bool :=
  h.fab.gated || !h.fab.userRun || !(NSet.has h.clk.locked (8 + Config.fdbUregClk h.fab.frames / 3))

/-- An access to the user register window: error?, read data (R15, R25, R319-R321). -/
def Hw.ureg (h : Hw) (ans : UAns) : Bool × Nat × Hw :=
  match ans with
  | .noPort => (false, 0, h)
  | .value v => if h.uregDown then (true, 0, h) else (false, v % 2 ^ 32, h)
  | .timeout => if h.uregDown then (true, 0, h) else (true, 0, h.raise R.FAB_UREG_ERR_TMO 0)

/-! ### User PLLs (R70, R336) -/

/-- Clock spine of fabric port p, from its four frames (R312, R323). -/
def FabState.portSpine (s : FabState) (p : Nat) : Nat :=
  Config.fdbPortClk ((List.range 4).map (fun k => s.frame (111264 + 4 * p + k)))

/-- Ports that user PLL u clocks, as a mask. -/
def FabState.pllMask (s : FabState) (u : Nat) : Nat :=
  maskOf ((List.range 64).filter (fun p => decide (s.portSpine p < 24) && s.portSpine p / 3 == u))

/-- The fence that user PLLs hold on each port follows their recorded ports. -/
def Hw.pllFences (h : Hw) : Hw :=
  (List.range 64).foldl (fun (h : Hw) i =>
    (h.fenceSet (576 + i) .userPll ((List.range 8).any (fun u => bit (NMap.get h.fab.pllPorts u) i))).portShow i) h

/-- User PLL u loses lock: its ports, which the image assigns, are fenced (R70). -/
def Hw.userPllLost (h : Hw) (u : Nat) : Hw :=
  let h := h.raise R.FAB_PLL_LOSS_LOSS u
  ({ h with fab := { h.fab with pllPorts := NMap.set h.fab.pllPorts u (h.fab.pllMask u) } } : Hw).pllFences

/-- FAB_PLL_LOSS_CLEAR: a write to FAB_PLL_LOSS; `held` are the PLLs that have held lock for the last 10 µs (R336). -/
def Hw.pllLossClear (h : Hw) (v held : Nat) : Hw :=
  let h := (bitList 8 v).foldl (fun (h : Hw) u =>
    if h.bitOf R.FAB_PLL_LOSS_LOSS u && bit held u then
      ({ h with fab := { h.fab with pllPorts := NMap.set h.fab.pllPorts u 0 } } : Hw).putBit R.FAB_PLL_LOSS_LOSS u false
    else h) h
  (h.put R.FAB_PLL_LOSS_OVF (h.get R.FAB_PLL_LOSS_OVF &&& (255 - bits v 23 16))).pllFences

end Sys2Proof.Machine
end

