-- ==== Sys2Proof/Machine/FabNet.lean ====
section
/-!
DEFINITION. The routing of the term fabric: wires, where they end and are tapped, and what may drive what (R298-R302); the
mult cells (R283). Which of the permitted sources a routing word selects is in EL512_A1.fdb, a file outside the spec: the
selection is a constant without a body, and picks among the permitted ones alone (assumption 9).
-/
namespace Sys2Proof.Machine

open Sys2Proof

/-! ### Mult cells (R283) -/

/-- Pool RAM group of column group k (columns 8k to 8k + 7) and row r; each serves eight blocks of one row (R282). -/
def poolOfBlock (b : Nat) : Nat := b / 8

/-- The lower groups: those of even rows, ascending. -/
def lowerGroups : List Nat := (List.range 1536).filter (fun j => (blockXY (8 * j)).2 % 2 == 0)

/-- The two pool RAM groups of mult cell m: the lower one, and the one at the same columns in the row above. -/
def multGroups (m : Nat) : Nat × Nat :=
  let j := listAt 0 lowerGroups m
  let p := blockXY (8 * j)
  (j, blockOf p.1 (p.2 + 1) / 8)

/-- The mult cell that a pool RAM group belongs to. -/
def multOf (j : Nat) : Nat :=
  let p := blockXY (8 * j)
  lowerGroups.idxOf (blockOf p.1 (p.2 / 2 * 2) / 8)

/-- The configuration field of mult cell m, in block 8j of its lower group (R322). -/
def FabState.multCfg (s : FabState) (m : Nat) : Nat := s.cfgFld (8 * (multGroups m).1) 11392 16

/-! ### Wires (R298-R300) -/

inductive WKind where
  | l1 | l4 | l12 | l36
deriving DecidableEq, Repr

inductive Dir where
  | north | south | east | west
deriving DecidableEq, Repr

/-- The direction back. -/
def Dir.back : Dir → Dir
  | .north => .south | .south => .north | .east => .west | .west => .east

/-- A wire: a segment by kind, direction, starting block and number, or a long line of a row or column by number, and
whether it runs east or north. -/
inductive Wire where
  | seg (k : WKind) (d : Dir) (b i : Nat)
  | row (r i : Nat) (east : Bool)
  | col (c i : Nat) (north : Bool)
deriving DecidableEq, Repr

/-- Length in blocks. -/
def WKind.len : WKind → Nat
  | .l1 => 1 | .l4 => 4 | .l12 => 12 | .l36 => 36

/-- Is (c, r) a term block: inside the grid and outside the hole? -/
def inFabric (c r : Nat) : Bool := decide (c < 144 ∧ r < 112) && !(decide (40 ≤ c ∧ c ≤ 103 ∧ 26 ≤ r ∧ r ≤ 85))

/-- The neighbour of (c, r) in a direction; none beyond the edge or in the hole. -/
def stepXY (d : Dir) (p : Nat × Nat) : Option (Nat × Nat) :=
  let q : Option (Nat × Nat) := match d with
    | .north => some (p.1, p.2 + 1)
    | .south => if p.2 = 0 then none else some (p.1, p.2 - 1)
    | .east => some (p.1 + 1, p.2)
    | .west => if p.1 = 0 then none else some (p.1 - 1, p.2)
  q.filter (fun q => inFabric q.1 q.2)

/-- The blocks that up to `n` steps from (c, r) reach, in order; a segment ends at the last block before the hole or the
edge (R299). -/
def walkXY (d : Dir) : Nat → Nat × Nat → List Nat
  | 0, _ => []
  | n + 1, p => match stepXY d p with
    | some q => blockOf q.1 q.2 :: walkXY d n q
    | none => []

/-- Wires of a kind and direction that start at a block: eight L1, two L4, one L12, and one L36 at every fourth block
along its direction (R298). -/
def startsAt (k : WKind) (d : Dir) (b : Nat) : Nat :=
  match k with
  | .l1 => 8
  | .l4 => 2
  | .l12 => 1
  | .l36 =>
    let p := blockXY b
    let x := match d with
      | .east | .west => p.1
      | _ => p.2
    if x % 4 = 0 then 1 else 0

/-- The blocks a segment passes, its end last; a segment that cannot leave its block ends there. -/
def segPath (k : WKind) (d : Dir) (b : Nat) : List Nat :=
  match walkXY d k.len (blockXY b) with
  | [] => [b]
  | l => l

/-- The blocks where a wire ends or is tapped (R298, R300): an L1 at its end, an L4 at every block it passes, an L12 at
every fourth and its end, an L36 at its midpoint and its end; a long line at every eighth column or row outside the
hole. -/
def Wire.taps : Wire → List Nat
  | .seg k d b _ =>
    let l := segPath k d b
    let last := l.getLastD b
    match k with
    | .l1 => [last]
    | .l4 => l
    | .l12 => (((List.range l.length).filter (fun n => n % 4 == 3)).map (fun n => listAt 0 l n) ++ [last]).eraseDups
    | .l36 => (((l[17]?).toList) ++ [last]).eraseDups
  | .row r _ _ => ((List.range 18).map (fun k => 8 * k)).filterMap (fun c => if inFabric c r then some (blockOf c r) else none)
  | .col c _ _ => ((List.range 14).map (fun k => 8 * k)).filterMap (fun r => if inFabric c r then some (blockOf c r) else none)

/-- The segments of a kind and direction that end or are tapped at a block. -/
def segsAt (k : WKind) (d : Dir) (b : Nat) : List Wire :=
  let starts := (b :: walkXY d.back k.len (blockXY b)).filter (fun s => (Wire.seg k d s 0).taps.contains b)
  (starts.map (fun s => (List.range (startsAt k d s)).map (fun i => Wire.seg k d s i))).flatten

/-- The long lines tapped at a block: two per row and per column, in both directions. -/
def linesAt (b : Nat) : List Wire :=
  let p := blockXY b
  let two (f : Nat → Bool → Wire) : List Wire := [f 0 true, f 1 true, f 0 false, f 1 false]
  (if p.1 % 8 = 0 then two (Wire.row p.2) else []) ++ (if p.2 % 8 = 0 then two (Wire.col p.1) else [])

def allDirs : List Dir := [.north, .south, .east, .west]

/-- Every wire that ends or is tapped at a block. -/
def wiresAt (b : Nat) : List Wire :=
  ((allDirs.map (fun d => [WKind.l1, .l4, .l12, .l36].map (fun k => segsAt k d b))).flatten).flatten ++ linesAt b

/-! ### Switch boxes (R301) -/

/-- May wire `w`, ending or tapped at a block, drive a segment of kind `k` and direction `d` that starts there? The "three
other directions" of an L1 are those but the one it came from (DEDUCED, assumption 9). -/
def mayDrive (w : Wire) (k : WKind) (d : Dir) : Bool :=
  match w with
  | .seg .l1 e _ _ => k == .l1 && d != e.back
  | .seg .l4 e _ _ => k == .l1 || (k == .l4 && d != e.back)
  | .seg .l12 e _ _ => k == .l4 || (k == .l12 && d == e)
  | .seg .l36 e _ _ => k == .l12 || (k == .l36 && d == e)
  | .row _ _ _ | .col _ _ _ => k == .l12 || k == .l36

/-- What can be the source of a signal: a wire; a macrocell's output or its local feedback; an I/O input buffer; an output
bit of a pool RAM port (72 is PERR) or of a mult cell. -/
inductive FSrc where
  | wire (w : Wire)
  | mac (b i : Nat)
  | fb (b i : Nat)
  | pin (n m : Nat)
  | pool (j : Nat) (portB : Bool) (n : Nat)
  | mult (m n : Nat)
deriving DecidableEq, Repr

/-- The pins whose buffer joins a block's switch box. -/
def pinsAt (b : Nat) : List (Nat × Nat) :=
  (((List.range 13).map (fun n => (List.range 32).map (fun m => (n, m)))).flatten).filter (fun p =>
    Config.fdbPinBlock p.1 p.2 == b)

/-- What drives a segment at its switch box as a macrocell output does: the 16 macrocells, the I/O buffers, and the outputs
of the block's pool RAM and mult cell, whose connection the spec does not give (DESIGN CHOICE, assumption 9). -/
def localSrcs (b : Nat) : List FSrc :=
  (List.range 16).map (fun i => FSrc.mac b i) ++ (pinsAt b).map (fun p => FSrc.pin p.1 p.2) ++
    ((List.range 73).map (fun n => FSrc.pool (b / 8) false n) ++ (List.range 73).map (fun n => FSrc.pool (b / 8) true n)) ++
    (List.range 48).map (fun n => FSrc.mult (multOf (b / 8)) n)

/-- The sources that may drive a wire. A long line is driven at its tap blocks. -/
def drivers : Wire → List FSrc
  | .seg k d b _ =>
    ((wiresAt b).filter (fun w => mayDrive w k d)).map FSrc.wire ++ (if k = .l36 then [] else localSrcs b)
  | w => ((w.taps).map localSrcs).flatten

/-- The sources a block input can select: wires ending or tapped at the block, and its 16 local feedback outputs (R302). -/
def inSources (b : Nat) : List FSrc := (wiresAt b).map FSrc.wire ++ (List.range 16).map (fun i => FSrc.fb b i)

/-! ### The configured routing -/

/-- The routing word of a block: its bits 12,288 to 14,335 (R322). -/
def FabState.routing (s : FabState) (b : Nat) : BitVec 2048 := s.frame (9 * b + 6)

/-- A number for a wire. -/
def Wire.code : Wire → Nat
  | .seg k d b i =>
    16384 * (32 * i + 4 * (match k with | .l1 => 0 | .l4 => 1 | .l12 => 2 | .l36 => 3) +
      (match d with | .north => 0 | .south => 1 | .east => 2 | .west => 3)) + b
  | .row r i e => 2 ^ 24 + 1024 * (2 * i + b2n e) + r
  | .col c i n => 2 ^ 25 + 1024 * (2 * i + b2n n) + c

/-- The block whose routing word drives a wire: a segment's first block, a long line's first tap. -/
def Wire.home : Wire → Nat
  | .seg _ _ b _ => b
  | w => w.taps.headD 0

/-- What drives a wire as configured: one of its permitted sources, or nothing. -/
def FabState.driver (s : FabState) (w : Wire) : Option FSrc := (drivers w)[Config.fdbWire w.code (s.routing w.home)]?

/-- The source of input `k` of block b as configured. -/
def FabState.inSrc (s : FabState) (b k : Nat) : Option FSrc := (inSources b)[Config.fdbIn b k (s.routing b)]?

/-- The source of input `n` of a pool RAM port or a mult cell, which have input multiplexers of their own: one of the wires
ending or tapped at the blocks of its group. `x` numbers the cell and the input. -/
def FabState.cellIn (s : FabState) (j x : Nat) : Option FSrc :=
  (((List.range 8).map (fun i => (wiresAt (8 * j + i)).map FSrc.wire)).flatten)[Config.fdbCell j x (s.routing (8 * j))]?

end Sys2Proof.Machine
end

