-- ==== Sys2Proof/Machine/FabRun.lean ====
section
/-!
DEFINITION. Running user logic: the value of every signal of the configured fabric, and what an active clock edge does to
the registers, the pool RAMs, the mult cells and the I/O registers (R290-R312, R330-R338). The levels on the pins and the
moments of the edges come from outside; they, undriven signals and combinational loops are open values (assumption 9).
-/
namespace Sys2Proof.Machine

open Sys2Proof

/-! ### What the configuration says -/

/-- Frame 9b + k of some block is configured with something else than zeros. -/
def FabState.used (s : FabState) (f : Nat) : Bool := s.frames.any (fun e => e.1 == f)

/-- Blocks whose macrocell, block or pool RAM words are not all zero. -/
def FabState.blocks (s : FabState) : List Nat :=
  (s.frames.filter (fun e => decide (e.1 < fabPeriphery) && e.1 % 9 == 5)).map (fun e => e.1 / 9)

/-- The initial values of a block's registers (R290). -/
def FabState.initQ (s : FabState) (b : Nat) : BitVec 16 :=
  BitVec.ofNat 16 (maskOf ((List.range 16).filter (fun i => s.mc b i 2 1 == 1)))

/-- A block's registers: their initial values while they are held there (R251, R260). -/
def FabState.reg (s : FabState) (b : Nat) : Nat :=
  if s.ffInit || bit s.rstOn (blockRegion b) then (s.initQ b).toNat else (SMap.get (fun _ => (0 : BitVec 16)) s.regs.q b).toNat

/-- The registers of the blocks for which `p` holds take their initial values. -/
def FabState.loadInit (s : FabState) (p : Nat → Bool) : FabState :=
  let q := s.regs.q.filter (fun e => !(p e.1))
  let q := (s.blocks.filter p).foldl (fun m b => SMap.set (fun _ => (0 : BitVec 16)) m b (s.initQ b)) q
  { s with regs := { s.regs with q := q } }

/-- Use of a periphery frame (R323). -/
inductive FrameUse where
  | io (n m : Nat)
  | pll (k : Nat)
  | spine (n : Nat)
  | port (p : Nat)
  | reserved
deriving DecidableEq, Repr

/-- What periphery frame f configures (R323). -/
def peripheryUse (f : Nat) : FrameUse :=
  if f < 111008 then .io ((f - 110592) / 32) ((f - 110592) % 32)
  else if f < 111072 then .pll ((f - 111008) / 8)
  else if f < 111264 then .spine ((f - 111072) / 8)
  else if f < 111520 then .port ((f - 111264) / 4)
  else .reserved

/-- The configuration of pin IO_Bn_m. -/
def FabState.ioCell (s : FabState) (n m : Nat) : BitVec 2048 := s.frame (110592 + 32 * n + m)

/-- Pool RAM ports (R303): width, read during write, output register and clock of port A (`b` false) or B. -/
def FabState.poolW (s : FabState) (j : Nat) (b : Bool) : Nat := poolWidth (s.poolWord j / 2 ^ (if b then 3 else 0) % 8)
def FabState.poolRdw (s : FabState) (j : Nat) (b : Bool) : Nat := s.poolWord j / 2 ^ (if b then 8 else 6) % 4
def FabState.poolOreg (s : FabState) (j : Nat) (b : Bool) : Bool := bit (s.poolWord j) (if b then 12 else 11)
def FabState.poolClk (s : FabState) (j : Nat) (b : Bool) : Nat := s.poolWord j / 2 ^ (if b then 18 else 13) % 32

/-- Pool RAM j has a configuration; an all-zero one selects nothing. -/
def FabState.poolUsed (s : FabState) (j : Nat) : Bool := s.used (72 * j + 5) || s.used (72 * j + 6)

/-! ### Signals -/

/-- A number for a source. -/
def FSrc.code : FSrc → Nat
  | .wire w => w.code
  | .mac b i => 2 ^ 26 + 16 * b + i
  | .fb b i => 2 ^ 26 + 2 ^ 20 + 16 * b + i
  | .pin n m => 2 ^ 26 + 2 ^ 21 + 32 * n + m
  | .pool j p n => 2 ^ 26 + 2 ^ 22 + 256 * j + 128 * b2n p + n
  | .mult m n => 2 ^ 26 + 2 ^ 23 + 64 * m + n

/-- Numbers for a block input, an input of a pool RAM or mult cell, and the carry and shift outputs of a block. -/
def inCode (b k : Nat) : Nat := 2 ^ 26 + 2 ^ 24 + 64 * b + k
def cellCode (j x : Nat) : Nat := 2 ^ 26 + 2 ^ 25 + 512 * j + x
def chainCode (b : Nat) (shift : Bool) : Nat := 2 ^ 26 + 2 ^ 25 + 2 ^ 24 + 2 * b + b2n shift

/-- Open values that one evaluation may use. -/
def fabFree : Nat := 2 ^ 16

/-- The fabric at a moment: its state, the isolated regions, and where its open values start. -/
structure FabEnv where
  fab : FabState
  iso : Nat
  base : Nat
deriving DecidableEq, Repr

/-- An open value. -/
def FabEnv.open' (e : FabEnv) (k : Nat) : Bool := (Config.freeValue (e.base + k / 4096)).getLsbD (k % 4096)

/-- A signal leaving block b holds its last value (R260, R338). -/
def FabEnv.isolated (e : FabEnv) (b : Nat) : Bool := bit e.iso (blockRegion b)
def FabEnv.heldBit (e : FabEnv) (b k : Nat) : Bool :=
  (SMap.get (fun _ => []) e.fab.regs.held (blockRegion b)).contains k

/-- The 48 inputs of a block, given the value of every source. -/
def FabEnv.inputs (e : FabEnv) (v : FSrc → Bool) (b : Nat) : Nat :=
  maskOf ((List.range 48).filter (fun k => match e.fab.inSrc b k with
    | some s => v s
    | none => e.open' (inCode b k)))

/-- The block to the south; none at row 0 and over the hole (R333). -/
def southOf (b : Nat) : Option Nat :=
  (stepXY .south (blockXY b)).map (fun p => blockOf p.1 p.2)

/-- The carry that reaches a block from the south, over at most `n` blocks: none where there is no block, or one not in
CARRY mode (R294, R333, R338). -/
def FabEnv.carry (e : FabEnv) (v : FSrc → Bool) : Nat → Nat → Option Bool
  | 0, _ => none
  | n + 1, b =>
    match southOf b with
    | none => none
    | some a =>
      if e.fab.mode a ≠ 1 then none
      else if e.isolated a then some (e.heldBit a (chainCode a false))
      else
        let inp := e.inputs v a
        some (e.fab.carries a inp (e.fab.carryIn a inp (e.carry v n a)) 16)

/-- q15 of the block to the south (R294, R296, R338). -/
def FabEnv.shift (e : FabEnv) (b : Nat) : Bool :=
  match southOf b with
  | none => false
  | some a => if e.isolated a then e.heldBit a (chainCode a true) else bit (e.fab.reg a) 15

/-- Input x of the pool RAM or mult cell of group j. -/
def FabEnv.cell (e : FabEnv) (v : FSrc → Bool) (j x : Nat) : Bool :=
  match e.fab.cellIn j x with
  | some s => v s
  | none => e.open' (cellCode j x)

/-- `w` inputs of a cell from number x. -/
def FabEnv.cells (e : FabEnv) (v : FSrc → Bool) (j x w : Nat) : Nat :=
  maskOf ((List.range w).filter (fun k => e.cell v j (x + k)))

/-- Operands of mult cell m, A in the low 24 bits: inputs 256 to 297 of its lower group. -/
def FabEnv.multIn (e : FabEnv) (v : FSrc → Bool) (m : Nat) : Nat := e.cells v (multGroups m).1 256 42

/-- What mult cell m computes, before its output register (R308): the product of its operands, registered with IREG, or with
ACC the register P. -/
def FabEnv.multVal (e : FabEnv) (v : FSrc → Bool) (m : Nat) : Nat :=
  let cfg := e.fab.multCfg m
  if bit cfg 4 then (SMap.get (fun _ => (0 : BitVec 48)) e.fab.regs.mulP m).toNat
  else
    let x := if bit cfg 2 then (SMap.get (fun _ => (0 : BitVec 42)) e.fab.regs.mulIn m).toNat else e.multIn v m
    multOut cfg x (x / 2 ^ 24) 0

/-- The outputs of mult cell m; the product without ACC has 42 bits, those above it are open. -/
def FabEnv.multBit (e : FabEnv) (v : FSrc → Bool) (m n : Nat) : Bool :=
  let cfg := e.fab.multCfg m
  if 42 ≤ n ∧ !(bit cfg 4) then e.open' (FSrc.mult m n).code
  else if bit cfg 3 then bit (SMap.get (fun _ => (0 : BitVec 48)) e.fab.regs.mulOut m).toNat n
  else bit (e.multVal v m) n

/-- The outputs of a pool RAM port (R303). -/
def FabEnv.poolBit (e : FabEnv) (j : Nat) (b : Bool) (n : Nat) : Bool :=
  let m := if e.fab.poolOreg j b then e.fab.regs.readOut else e.fab.regs.read
  bit (SMap.get (fun _ => (0 : BitVec 73)) m (2 * j + b2n b)).toNat n

/-- The level a user pin's input reads: what stands outside, or 0 where VDDIO of its bank is off (R1233). -/
def FabEnv.pinIn (e : FabEnv) (p m : Nat) : Bool :=
  bits e.fab.volts (2 * p + 1) (2 * p) != 0 && e.open' (FSrc.pin p m).code

/-- The value of a signal, following at most `n` sources. -/
def FabEnv.val (e : FabEnv) : Nat → FSrc → Bool
  | 0, s => e.open' s.code
  | n + 1, s =>
    match s with
    | .wire w =>
      if e.isolated w.home then e.heldBit w.home w.code
      else match e.fab.driver w with
        | some s => e.val n s
        | none => e.open' w.code
    | .mac b i => (e.fab.out b i (e.inputs (e.val n) b) (e.fab.reg b) (e.carry (e.val n) 112 b)).1
    | .fb b i => (e.fab.out b i (e.inputs (e.val n) b) (e.fab.reg b) (e.carry (e.val n) 112 b)).2
    | .pin p m =>
      if bit (Config.fdbIoUse (e.fab.ioCell p m)) 0 then
        bit (SMap.get (fun _ => (0 : BitVec 3)) e.fab.regs.io (32 * p + m)).toNat 0
      else e.pinIn p m
    | .pool j b k => e.poolBit j b k
    | .mult m k => e.multBit (e.val n) m k

/-- The value of a signal: a path without a loop passes each source once, and there are fewer than 2^21. -/
def FabEnv.sig (e : FabEnv) (s : FSrc) : Bool := e.val (2 ^ 21) s

/-- The signals leaving region r that are 1: wires driven there, carries and shift outputs (R260, R338). -/
def FabEnv.leaving (e : FabEnv) (r : Nat) : List Nat :=
  let routed := (e.fab.frames.filter (fun f => decide (f.1 < fabPeriphery) && f.1 % 9 == 6)).map (fun f => f.1 / 9)
  let segs := ((routed.filter (fun b => blockRegion b == r)).map (fun b =>
    ((allDirs.map (fun d => [WKind.l1, .l4, .l12, .l36].map (fun k =>
      (List.range (startsAt k d b)).map (fun i => Wire.seg k d b i)))).flatten).flatten ++
        (linesAt b).filter (fun w => w.home == b))).flatten
  let bs := e.fab.blocks.filter (fun b => blockRegion b == r)
  let up (b : Nat) : Bool :=
    let inp := e.inputs e.sig b
    e.fab.mode b == 1 && e.fab.carries b inp (e.fab.carryIn b inp (e.carry e.sig 112 b)) 16
  (segs.filter (fun w => e.sig (.wire w))).map Wire.code ++ (bs.filter up).map (fun b => chainCode b false) ++
    (bs.filter (fun b => bit (e.fab.reg b) 15)).map (fun b => chainCode b true)

/-! ### A clock edge -/

/-- The spines that rise and that fall. -/
structure FabEdge where
  rise : Nat
  fall : Nat
deriving DecidableEq, Repr

/-- An active edge for a register on spine `c`, on the falling edge with `inv`; 24 to 31 is no clock (R294). -/
def FabEdge.active (g : FabEdge) (c : Nat) (inv : Bool) : Bool :=
  decide (c < 24) && bit (if inv then g.fall else g.rise) c

/-- The next registers of a block (R291, R292, R296, R297). -/
def FabEnv.nextReg (e : FabEnv) (b : Nat) : Nat :=
  let inp := e.inputs e.sig b
  let q := e.fab.reg b
  maskOf ((List.range 16).filter (fun i => e.fab.nextQ b i inp q (e.carry e.sig 112 b) (e.shift b)))

/-- A block's registers run: clock active, write enables on, user resets released (R332). -/
def FabEnv.runs (e : FabEnv) (g : FabEdge) (b : Nat) : Bool :=
  e.fab.userRun && e.fab.canWrite b && !(bit e.fab.rstOn (blockRegion b)) &&
    g.active (e.fab.cfgFld b 11266 5) (e.fab.cfgBit b 11271)

/-- What stands at the inputs of pool RAM port A or B: word address (inputs 0 to 14 of the port), write enable (15), data
(16 to 87); port B's are 128 above port A's (DESIGN CHOICE, assumption 9). -/
structure PoolIn where
  w : Nat
  a : Nat
  v : Nat
  we : Bool
deriving DecidableEq, Repr

def FabEnv.poolIn (e : FabEnv) (j : Nat) (b : Bool) : PoolIn :=
  let x := if b then 128 else 0
  { w := e.fab.poolW j b, a := e.cells e.sig j x 15, v := e.cells e.sig j (x + 16) 72, we := e.cell e.sig j (x + 15) }

/-- The pool RAM after a port's write. -/
def FabState.portWrite (s : FabState) (j : Nat) (p : PoolIn) : FabState := if p.we then s.poolWrite j p.w p.a p.v else s

/-- Rows as `s0` or as `s1` holds them, bit by bit: where `mask` has a 1, those of `s1`. -/
def FabState.mixRows (s0 s1 : FabState) (j mask : Nat) (rows : List Nat) : FabState :=
  rows.foldl (fun (s : FabState) r =>
    let v := (List.range 72).filter (fun n => if bit mask n then bit (s1.row j r) n else bit (s0.row j r) n)
    { s with pool := SMap.set (fun _ => (0 : BitVec 72)) s.pool (512 * j + r) (BitVec.ofNat 72 (maskOf v)) }) s0

/-- What a port reads (R303, R306, R331): during its own write the word after it or before it, and none with NO_CHANGE; a bit
that the other port writes at the same time (`other`) is its old or its new value, as `mask` chooses. -/
def FabState.portRead (s : FabState) (j : Nat) (p : PoolIn) (rdw : Nat) (other : Option PoolIn) (mask : Nat) :
    Option (BitVec 73) :=
  if p.we ∧ rdw = 2 then none
  else
    let s0 := if rdw = 1 then s else s.portWrite j p
    let s1 := match other with
      | some o => s0.portWrite j o
      | none => s0
    let r := (s0.mixRows s1 j mask ((poolBits p.w p.a).map (fun b => b.1)).eraseDups).poolRead j p.w p.a
    some (BitVec.ofNat 73 (r.1 % 2 ^ 72 + 2 ^ 72 * b2n r.2))

/-- Both ports of pool RAM j at an edge: port A's value wins in a bit that both write (R330), so B's write comes first. -/
def FabEnv.poolEdge (e : FabEnv) (g : FabEdge) (j : Nat) (s : FabState) : FabState :=
  let on (b : Bool) : Bool := g.active (e.fab.poolClk j b) false
  let pA := e.poolIn j false
  let pB := e.poolIn j true
  let mask (b : Bool) : Nat := (Config.freeValue (e.base + 2 ^ 15 + 2 * j + b2n b)).toNat
  let setRead (b : Bool) (s : FabState) (v : Option (BitVec 73)) : FabState :=
    let k := 2 * j + b2n b
    let z : Nat → BitVec 73 := fun _ => 0
    let s := if e.fab.canWrite (8 * j) then
        { s with regs := { s.regs with readOut := SMap.set z s.regs.readOut k (SMap.get z e.fab.regs.read k) } }
      else s
    match v with
    | some v => { s with regs := { s.regs with read := SMap.set z s.regs.read k v } }
    | none => s
  let s := if on false then
      setRead false s (e.fab.portRead j pA (e.fab.poolRdw j false) (if on true then some pB else none) (mask false))
    else s
  let s := if on true then
      setRead true s (e.fab.portRead j pB (e.fab.poolRdw j true) (if on false then some pA else none) (mask true))
    else s
  let s := if on true then s.portWrite j pB else s
  if on false then s.portWrite j pA else s

/-- Mult cell m at an active edge of its clock (R308): operand registers, P' = P + A × B, output register. -/
def FabEnv.multEdge (e : FabEnv) (m : Nat) (s : FabState) : FabState :=
  let cfg := e.fab.multCfg m
  let x := if bit cfg 2 then (SMap.get (fun _ => (0 : BitVec 42)) e.fab.regs.mulIn m).toNat else e.multIn e.sig m
  let p := (SMap.get (fun _ => (0 : BitVec 48)) e.fab.regs.mulP m).toNat
  let s := { s with regs := { s.regs with
    mulIn := SMap.set (fun _ => (0 : BitVec 42)) s.regs.mulIn m (BitVec.ofNat 42 (e.multIn e.sig m)),
    mulOut := SMap.set (fun _ => (0 : BitVec 48)) s.regs.mulOut m (BitVec.ofNat 48 (e.multVal e.sig m)) } }
  if bit cfg 4 then
    { s with regs := { s.regs with
      mulP := SMap.set (fun _ => (0 : BitVec 48)) s.regs.mulP m (BitVec.ofNat 48 (multOut cfg x (x / 2 ^ 24) p)) } }
  else s

/-- The sources of a pin's output and output enable: wires at its block's switch box. -/
def FabState.ioSrc (s : FabState) (n m : Nat) (oe : Bool) : Option FSrc :=
  let c := Config.fdbIoSrc (s.ioCell n m)
  ((wiresAt (Config.fdbPinBlock n m)).map FSrc.wire)[if oe then c.2 else c.1]?

/-- The value that user logic gives a pin's output or output enable, before its register. -/
def FabEnv.ioDrive (e : FabEnv) (n m : Nat) (oe : Bool) : Bool :=
  match e.fab.ioSrc n m oe with
  | some s => e.sig s
  | none => false

/-- The I/O registers of a pin at an edge; only those in use hold anything. -/
def FabEnv.ioEdge (e : FabEnv) (g : FabEdge) (n m : Nat) (s : FabState) : FabState :=
  let c := e.fab.ioCell n m
  let use := Config.fdbIoUse c
  let clk := Config.fdbIoClk c
  let old := (SMap.get (fun _ => (0 : BitVec 3)) e.fab.regs.io (32 * n + m)).toNat
  let put (v : Nat) (k sp : Nat) (x : Bool) : Nat := if bit use k && g.active sp false then setBit v k x else v
  let v := put old 0 clk.1 (e.pinIn n m)
  let v := put v 1 clk.2.1 (e.ioDrive n m false)
  let v := put v 2 clk.2.2 (e.ioDrive n m true)
  { s with regs := { s.regs with io := SMap.set (fun _ => (0 : BitVec 3)) s.regs.io (32 * n + m) (BitVec.ofNat 3 v) } }

/-- Everything that an edge changes; each part reads the fabric as it stood before (R290-R308, R312, R332). -/
def FabEnv.edge (e : FabEnv) (g : FabEdge) : FabState :=
  let bs := e.fab.blocks
  let s := (bs.filter (e.runs g)).foldl (fun (s : FabState) b =>
    let q := SMap.set (fun _ => (0 : BitVec 16)) s.regs.q b (BitVec.ofNat 16 (e.nextReg b))
    { s with regs := { s.regs with q := q } }) e.fab
  let s := ((List.range 1536).filter e.fab.poolUsed).foldl (fun (s : FabState) j => e.poolEdge g j s) s
  let mults := (bs.filter (fun b => b % 8 == 0 && (blockXY b).2 % 2 == 0)).map (fun b => multOf (b / 8))
  let s := (mults.filter (fun m => e.fab.canWrite (8 * (multGroups m).1) &&
    g.active (e.fab.multCfg m / 32 % 32) false)).foldl (fun (s : FabState) m => e.multEdge m s) s
  let pins := (s.frames.filter (fun f => decide (110592 ≤ f.1 ∧ f.1 < 111008))).map (fun f => f.1 - 110592)
  if s.writeEn then pins.foldl (fun (s : FabState) p => e.ioEdge g (p / 32) (p % 32) s) s else s

/-- Spines that can have an edge: those of user PLLs in lock, while the fabric's clocks are not gated (R124, R334). -/
def Hw.spines (h : Hw) : Nat :=
  if h.fab.gated then 0 else maskOf ((List.range 24).filter (fun n => NSet.has h.clk.locked (8 + n / 3)))

/-- The fabric now, with fresh open values. -/
def Hw.fabEnv (h : Hw) (iso : Nat) : FabEnv := { fab := h.fab, iso := iso, base := h.free }

/-- The fabric's clocks run: write enables are on and something is configured. -/
def Hw.fabRuns (h : Hw) : Bool := h.fab.writeEn && !h.fab.frames.isEmpty && decide (h.spines ≠ 0)

/-- One moment of user logic: edges on an open choice of the running spines (assumption 10). -/
def Hw.fabTick (h : Hw) (iso : Nat) : Hw :=
  if h.fabRuns then
    let v := (Config.freeValue (h.free + 2 ^ 15 + 2 ^ 12)).toNat
    let g : FabEdge := { rise := v % 2 ^ 24 &&& h.spines, fall := v / 2 ^ 24 % 2 ^ 24 &&& h.spines &&& (2 ^ 24 - 1 - v % 2 ^ 24) }
    { h with fab := (h.fabEnv iso).edge g, free := h.free + fabFree }
  else h

/-- Regions `m` are isolated: the signals leaving them hold their last value (R260 step 2, R337, R338). -/
def Hw.holdRegions (h : Hw) (m iso : Nat) : Hw :=
  let e := h.fabEnv iso
  let held := ((List.range 54).filter (bit m)).foldl (fun (s : SMap (List Nat)) r => SMap.set (fun _ => []) s r (e.leaving r))
    h.fab.regs.held
  { h with fab := { h.fab with regs := { h.fab.regs with held := held } }, free := h.free + fabFree }

/-- The isolation of regions `m` ends. -/
def FabState.unhold (s : FabState) (m : Nat) : FabState :=
  { s with regs := { s.regs with held := s.regs.held.filter (fun e => !(bit m e.1)) } }

end Sys2Proof.Machine
end

