-- ==== Sys2Proof/Machine/CfgEngine.lean ====
section
/-!
DEFINITION. The configuration engine: sources, header checks, body records, fallback, DONE, the staged release, partial
loads and the flash commands (chapter 5; R172, R175, R406, R408).
-/
namespace Sys2Proof.Machine

open Sys2Proof

/-- CFG_STAT.STATE values (R271). -/
def csWAIT : Nat := 0
def csPROBE : Nat := 1
def csHEADER : Nat := 2
def csBODY : Nat := 3
def csCLEAR : Nat := 4
def csHELD : Nat := 5
def csRELEASING : Nat := 6
def csRELEASED : Nat := 7
def csFAILED : Nat := 8
def csPARTIAL : Nat := 9

/-- CFG_STAT.STATE. -/
def Hw.cstate (h : Hw) : Nat := h.get R.CFG_STAT_STATE
def Hw.setCs (h : Hw) (s : Nat) : Hw := h.put R.CFG_STAT_STATE s

/-- Change the engine's state. -/
def Hw.onCfg (h : Hw) (f : CfgEng → CfgEng) : Hw := { h with cfg := f h.cfg }

/-- Change the fabric's state. -/
def Hw.onFab (h : Hw) (f : FabState → FabState) : Hw := { h with fab := f h.fab }

/-- The attempt loads a base image from flash. -/
def Attempt.flash : Attempt → Bool
  | .primary1 | .primary2 | .stock => true
  | _ => false

/-- The attempt is a partial load. -/
def Attempt.partial' : Attempt → Bool
  | .partPins | .partHost => true
  | _ => false

/-- The attempt's words come through the internal TAP master. -/
def Attempt.internal : Attempt → Bool
  | .primary1 | .primary2 | .stock | .host | .partHost => true
  | _ => false

/-- The internal TAP master owns the TAP. -/
def Hw.tapInternal (h : Hw) : Bool := h.tap.own

/-- The internal TAP master is to own the TAP (R172). -/
def Hw.tapWant (h : Hw) : Bool :=
  h.tap.use.isSome || h.cfg.attempt.internal ||
    (h.get R.CFG_STAT_SOURCE == 0 && (h.cfg.startPend || h.cfg.restart))

/-- The multiplexer switches to the internal master once the controller is in Test-Logic-Reset or Run-Test/Idle (R81,
R175). -/
def Hw.tapSettle (h : Hw) : Hw :=
  if h.tapWant && h.tap.ctl.parked then { h with tap := { h.tap with own := true } } else h

/-- The internal TAP master releases the TAP: the controller is in Test-Logic-Reset (R174), which loads IDCODE (R176) and
ends what an instruction held. A TAP that the pins own stays as it is. -/
def Hw.tapRelease (h : Hw) : Hw :=
  if h.tap.own then
    { h with tap := { h.tap with own := false, use := none, ctl := .tlr, ir := irIDCODE, frozen := none } }
  else { h with tap := { h.tap with use := none } }

/-! ### Fuse words (R228, R229) -/

/-- A fuse word. -/
def fuseRd (fz : SMap Word) (w : Nat) : Nat := (SMap.get (fun _ => (0 : Word)) fz w).toNat

/-- Bytes of fuse words [w, w + n), byte 0 in bits [7:0] of the first. -/
def fuseBytes (fz : SMap Word) (w n : Nat) : List Byte :=
  ((List.range n).map (fun i => leBytes 4 (fuseRd fz (w + i)))).flatten

/-- The AES key. -/
def aesKey (fz : SMap Word) : List Byte := fuseBytes fz 44 8

/-! ### The header (R212, R220, R222) -/

/-- A field of the header. -/
def CfgEng.hf (e : CfgEng) (o n : Nat) : Nat := leAt e.hdr o n

/-- Bytes of the header. -/
def CfgEng.hb (e : CfgEng) (o n : Nat) : List Byte := (e.hdr.drop o).take n

def CfgEng.type (e : CfgEng) : Nat := e.hf 6 1
def CfgEng.signed (e : CfgEng) : Bool := bit (e.hf 7 1) 0
def CfgEng.encrypted (e : CfgEng) : Bool := bit (e.hf 7 1) 1
def CfgEng.bodyLen (e : CfgEng) : Nat := e.hf 0x18 4

/-- All header bytes of [o, o + n) are 0. -/
def CfgEng.hz (e : CfgEng) (o n : Nat) : Bool := (e.hb o n).all (fun b => b == 0)

/-- Check 4: reserved bytes, fields that must be 0, reserved encodings. -/
def CfgEng.reservedOk (e : CfgEng) : Bool :=
  e.hz 0x1D 3 && e.hz 0x34 12 && e.hz 0x7C 4 && e.hz 0x150 172 &&
    (e.type == 3 || e.hz 0x20 16) && (e.encrypted || (e.hz 0x70 12 && e.hz 0x80 16)) && (e.signed || e.hz 0x90 192) &&
    decide (1 ≤ e.type ∧ e.type ≤ 3) && decide (e.hf 7 1 < 4) && bits (e.hf 0xC 4) 27 0 == 2 ^ 28 - 1 && e.hf 0x1C 1 != 1

/-- Check 5: TYPE permitted for the source (R222). -/
def CfgEng.typeOk (e : CfgEng) : Bool :=
  match e.attempt with
  | .primary1 | .primary2 => e.type == 1
  | .stock => e.type == 2
  | .pins | .host => e.type == 1 || e.type == 2
  | .partPins | .partHost => e.type == 3
  | .none => false

/-- Check 11: BODY_LEN within limits and within the flash area (R212, R233). -/
def Hw.lenOk (h : Hw) : Bool :=
  let n := h.cfg.bodyLen
  n % 4 == 0 && decide (8 ≤ n ∧ n ≤ 29500000) &&
    (match h.cfg.attempt with
      | .stock => decide (512 + n ≤ 0xFF0000)
      | .primary1 | .primary2 => decide (h.rd R.CFG_PRI_ADDR + 512 + n ≤ h.get R.CFG_FLASH_SIZE * 2 ^ 20)
      | _ => true)

/-- REGION_MASK names at least one region and none that does not exist (R258). -/
def regionsOk (m : Nat) : Bool := m != 0 && bits m 30 23 == 0 && m / 2 ^ 54 == 0

/-- The header checks in order: the first failing one's reason, 0 for none (R220, R229, R231). -/
def Hw.headerReason (h : Hw) (fz : SMap Word) : Nat :=
  let e := h.cfg
  let sec := fuseRd fz 52
  let shell := e.hf 0x16 2
  let mask := e.hf 0x14 2
  let idm := e.hf 0xC 4
  if e.hb 0 4 != [0x45, 0x53, 0x4C, 0x44] then 0x01
  else if e.hf 0x1FC 4 != crc32c (e.hb 0 0x1FC) then 0x02
  else if e.hf 4 2 != 2 then 0x03
  else if !e.reservedOk then 0x0E
  else if !e.typeOk then 0x04
  else if h.ident.idcode.toNat &&& idm != e.hf 8 4 &&& idm then 0x05
  else if e.hf 0x10 2 != 0x0A90 then 0x06
  else if e.hf 0x12 2 != 0x9070 then 0x07
  else if (if e.attempt.partial' then mask != e.baseMask
      else mask &&& (65535 - h.ident.parten.toNat % 65536) != 0) then 0x08
  else if shell < h.get R.CFG_SHELL_LO ∨ h.get R.CFG_SHELL_HI < shell then 0x09
  else if !h.lenOk then 0x0A
  else if (bit sec 0 && !e.signed) || (bit sec 1 && !e.encrypted) ||
      (bit sec 2 && (e.attempt == .pins || e.attempt == .partPins)) then 0x0B
  else if (e.signed && ((fuseBytes fz 32 12).all (fun b => b == 0) || sha384 (e.hb 0x90 96) != fuseBytes fz 32 12)) ||
      (e.encrypted && (aesKey fz).all (fun b => b == 0)) then 0x0C
  else if e.signed && !(ecdsaOk (ofBe (e.hb 0x90 48)) (ofBe (e.hb 0xC0 48)) (ofBe (e.hb 0xF0 48)) (ofBe (e.hb 0x120 48))
      (e.hb 0 0xF0)) then 0x0D
  else if e.attempt.partial' && (!(regionsOk (e.hf 0x20 8)) || e.hb 0x28 8 != h.digestBytes.take 8 ||
      !h.is R.CFG_STAT_RELEASED) then 0x16
  else 0

/-! ### Attempts (R225, R239-R244, R260, R261) -/

/-- An IMAGE_LOAD or PARTIAL_LOAD command ends. DESIGN CHOICE (assumption 75): the command table gives PARTIAL_LOAD no
RESULT; it returns CFG_STAT as IMAGE_LOAD does. -/
def Hw.loadDone (h : Hw) (status detail : Nat) : Hw :=
  match h.cfg.cmd with
  | some (m, k) => (h.onCfg (fun e => { e with cmd := none })).complete m k status detail (h.rd R.CFG_STAT)
  | none => h

/-- An attempt begins with an empty header and body. -/
def CfgEng.begin (e : CfgEng) (a : Attempt) (fpos : Nat) : CfgEng :=
  { e with attempt := a, hdr := [], pos := 0, buf := [], cipher := [], plain := [], lastData := 0, idx := 0,
           wrote := false, fpos := fpos, part := .none, regions := 0 }

/-- Start an attempt: CFG_ERR_N is released (R243, R244). -/
def Hw.attemptStart (h : Hw) (a : Attempt) (fpos : Nat) : Hw :=
  let h := h.onCfg (fun e => e.begin a fpos)
  if a.partial' then h.setCs csPARTIAL else (h.putB R.CFG_STAT_ERR false).setCs csHEADER

/-- The engine stops in FAILED (R241, R242). -/
def Hw.cfgFailed (h : Hw) : Hw :=
  let pin := h.cfg.attempt == .pins
  let h := (h.onCfg (fun e => { e with attempt := .none, spent := e.spent || pin })).setCs csFAILED
  (h.putB R.CFG_STAT_ERR true).tapRelease.loadDone stCONFIG_FAIL (h.get R.CFG_STAT_LAST_REASON)

/-- What follows a failed attempt once nothing is left to clear (R239, R242, R261). -/
def Hw.attemptNext (h : Hw) : Hw :=
  match h.cfg.attempt with
  | .primary1 => (h.putB R.CFG_STAT_ATTEMPT true).attemptStart .primary2 (h.rd R.CFG_PRI_ADDR)
  | .primary2 => h.attemptStart .stock 0
  | .partPins | .partHost =>
    let pin := h.cfg.attempt == .partPins
    let h := (h.onCfg (fun e => { e with attempt := .none, part := .none, spent := e.spent || pin })).setCs csRELEASED
    h.tapRelease.loadDone stCONFIG_FAIL (h.get R.CFG_STAT_LAST_REASON)
  | _ => h.cfgFailed

/-- An attempt fails with a reason (R220, R223, R225, R240, R277): a clear pass follows every attempt of a flash boot (R239),
and elsewhere where a frame was written, or where a partial load had begun its fold (R261). -/
def Hw.attemptFail (h : Hw) (reason : Nat) : Hw :=
  let a := h.cfg.attempt
  let h := h.put R.CFG_STAT_LAST_REASON reason
  let h := if a = .primary1 ∨ a = .primary2 then
      (if h.is R.CFG_STAT_PRI_REASON then h else h.put R.CFG_STAT_PRI_REASON reason).bump R.CFG_FAILS_PRIMARY
    else if a = .stock then h.bump R.CFG_FAILS_STOCK else h
  if h.cfg.wrote || a.flash || (a.partial' && h.cfg.part != .none) then h.setCs csCLEAR else h.attemptNext

/-- The engine starts: a boot's record of its attempts is empty (R240, R271). -/
def Hw.cfgBegin (h : Hw) : Hw :=
  ((h.onCfg (fun e => { e with startPend := false })).put R.CFG_STAT_PRI_REASON 0).putB R.CFG_STAT_ATTEMPT false

/-- CONFIG_START: the engine starts from the source of the BOOT_SRC straps (R207, R236-R239). `probe` is what SFDP
declares: flash size in MiB and an 8D-8D-8D mode; none where two tries find no signature (R238). -/
def Hw.cfgStart (h : Hw) (probe : Option (Nat × Bool)) : Hw :=
  if !h.cfg.startPend || h.busDown then h
  else
    let h := h.cfgBegin
    match h.get R.CFG_STAT_SOURCE with
    | 0 =>
      match probe with
      | none => (h.put R.CFG_STAT_LAST_REASON 0x15).cfgFailed
      | some (size, octal) =>
        let h := (h.put R.CFG_FLASH_SIZE size).putB R.CFG_FLASH_OCTAL octal
        let t := Mem.bytes h.mem.flash 0xFF0000 64
        let pri := leAt t 8 4
        let ok := t.take 4 == [0x53, 0x54, 0x42, 0x4C] && leAt t 4 2 == 1 && leAt t 0x3C 4 == crc32c (t.take 0x3C) &&
          decide (leAt t 6 2 < 2) && (t.drop 0x0E).take 46 == List.replicate 46 0 && pri % 0x10000 == 0 &&
          decide (0x1000000 ≤ pri ∧ pri < size * 2 ^ 20) && decide (leAt t 0x0C 1 ≤ 4) &&
          decide (4 ≤ leAt t 0x0D 1 ∧ leAt t 0x0D 1 ≤ 31)
        let h := (h.putB R.CFG_FLASH_TBL_OK ok).put R.CFG_PRI_ADDR_ADDR (if ok then pri else 0x1000000)
        let h := h.put R.CFG_FLASH_RATE (if ok ∧ octal then leAt t 0x0C 1 else 4)
        if ok && !bit (leAt t 6 2) 0 then h.attemptStart .stock 0
        else h.attemptStart .primary1 (h.rd R.CFG_PRI_ADDR)
    | 3 => (h.put R.CFG_STAT_LAST_REASON 0x18).cfgFailed
    | _ => h.setCs csWAIT

/-! ### Stream words -/

/-- The header is complete: it is checked against the fuses as they stand now (R232), and the body or the partial load's
fold begins (R220, R260). -/
def Hw.headerDone (h : Hw) (fz : SMap Word) : Hw :=
  let r := h.headerReason fz
  let h := h.onCfg (fun e => { e with key := aesKey fz })
  if r ≠ 0 then h.attemptFail r
  else if h.cfg.attempt.partial' then
    let m := h.cfg.hf 0x20 8
    let h := h.onCfg (fun e => { e with part := .folding, regions := m })
    ((List.range 64).filter (fun i => bit m (portRegion i))).foldl (fun (h : Hw) i => h.foldRequest (16 + i) false []) h
  else h.setCs csBODY

/-- One word reaches the engine. DESIGN CHOICE (assumption 73): a word of the running stream that arrives after BODY_LEN
bytes, before END is judged, is dropped, and IGN_STREAM stays as it is; the spec does not say what becomes of it. -/
def Hw.cfgWord' (h : Hw) (fz : SMap Word) (bs : List Byte) : Hw :=
  let e := h.cfg
  if e.hdr.length < 512 then
    let h := h.onCfg (fun e => { e with hdr := e.hdr ++ bs })
    if e.hdr.length + 4 = 512 then h.headerDone fz else h
  else if e.bodyLen ≤ e.pos then h
  else
    let p := if e.encrypted then gcmWord e.key (e.hb 0x70 12) e.pos bs else bs
    h.onCfg (fun e => { e with pos := e.pos + 4, buf := e.buf ++ p, plain := e.plain ++ p,
                               cipher := if e.encrypted then e.cipher ++ bs else e.cipher })

/-- The engine takes words of the running attempt. -/
def Hw.streaming (h : Hw) : Bool := h.cstate == csHEADER || h.cstate == csBODY || h.cstate == csPARTIAL

/-- A discarded stream word (R244). -/
def Hw.streamIgnored (h : Hw) : Hw := h.putB R.CFG_STAT_IGN_STREAM true

/-- The next four bytes of the loading command's host buffer that have arrived. -/
def Hw.hostWord (h : Hw) : Option (List Byte) :=
  match h.cfg.cmd with
  | none => none
  | some (m, k) =>
    match h.engine m k with
    | some e => if h.cfg.taken + 4 ≤ e.got.length then some ((e.got.drop h.cfg.taken).take 4) else none
    | none => none

/-- The opcode of the command that loads. -/
def Hw.hostOp (h : Hw) : Nat :=
  match h.cfg.cmd with
  | some (m, k) => ((h.cmd? m k).map (fun f => f.opcode)).getD 0
  | none => 0

/-- The internal TAP master moves its words through the data register of instruction `op` (R208). -/
def Hw.tapDrive (h : Hw) (op : Nat) : Hw := { h with tap := { h.tap with ir := op } }

/-- A word of a running stream, or the first of a new one that `start` accepts. -/
def Hw.streamWord (h : Hw) (fz : SMap Word) (a : Attempt) (start : Bool) (bs : List Byte) : Hw :=
  if h.streaming && h.cfg.attempt == a then h.cfgWord' fz bs
  else if start then ((if h.cfg.startPend then h.cfgBegin else h).attemptStart a 0).cfgWord' fz bs
  else h.streamIgnored

/-- CFG_IN: one stream word (R208, R222, R244). A probe's words count while CFG_IN is in the instruction register and the
internal TAP master does not own the TAP (R173). -/
def Hw.cfgIn (h : Hw) (fz : SMap Word) (src : StreamSrc) : Hw :=
  let may := h.cstate == csWAIT || h.cstate == csFAILED
  match src with
  | .pins w =>
    if h.tap.ir ≠ irCFG_IN ∨ h.tapInternal then h
    else h.streamWord fz .pins (may && !h.cfg.spent) (leBytes 4 w.toNat)
  | .flash =>
    if h.cfg.attempt.flash && h.streaming && h.tapInternal && !h.pinsFrozen then
      let bs := Mem.bytes h.mem.flash h.cfg.fpos 4
      ((h.onCfg (fun e => { e with fpos := e.fpos + 4 })).tapDrive irCFG_IN).cfgWord' fz bs
    else h
  | .host =>
    match h.hostWord with
    | none => h
    | some bs =>
      if h.hostOp != 0x0010 || !h.tapInternal then h
      else ((h.onCfg (fun e => { e with taken := e.taken + 4 })).tapDrive irCFG_IN).streamWord fz .host may bs

/-- CFG_PARTIAL: one stream word of a partial image, accepted only while RELEASED (R256); at any other time its stream fails
with reason 0x16 (R257). What is left of a stream whose attempt has failed is discarded. -/
def Hw.cfgPartial (h : Hw) (fz : SMap Word) (src : StreamSrc) : Hw :=
  let may := h.cstate == csRELEASED
  let word (h : Hw) (a : Attempt) (bs : List Byte) : Hw :=
    if (h.streaming && h.cfg.attempt == a) || may then h.streamWord fz a may bs
    else if h.cfg.attempt == a then h
    else
      let h := h.put R.CFG_STAT_LAST_REASON 0x16
      if a = .partPins then h.onCfg (fun e => { e with spent := true })
      else h.tapRelease.loadDone stCONFIG_FAIL 0x16
  match src with
  | .pins w =>
    if h.tap.ir ≠ irCFG_PARTIAL ∨ h.tapInternal ∨ h.cfg.spent then h else word h .partPins (leBytes 4 w.toNat)
  | .flash => h
  | .host =>
    match h.hostWord with
    | none => h
    | some bs =>
      if h.hostOp != 0x0011 || !h.tapInternal then h
      else word ((h.onCfg (fun e => { e with taken := e.taken + 4 })).tapDrive irCFG_PARTIAL) .partHost bs

/-! ### Records (R215-R219, R223, R224) -/

/-- Frames of a set of regions, ascending. -/
def regionFrames (m : Nat) : List Nat :=
  (List.range fabPeriphery).filter (fun f => (frameRegion f).any (fun r => bit m r))

/-- Number of frames a body must hold (R218, R259). -/
def CfgEng.need (e : CfgEng) : Nat :=
  if e.attempt.partial' then
    ((List.range 54).filter (fun r => bit e.regions r)).foldl (fun (n : Nat) r => n + if 18 ≤ r ∧ r < 36 then 4320 else 1872) 0
  else fabFrames

/-- The frame that the next record must name. -/
def CfgEng.nextFrame (e : CfgEng) : Option Nat :=
  if e.attempt.partial' then (regionFrames e.regions)[e.idx]?
  else if e.idx < fabFrames then some e.idx else none

/-- The body is being judged: a base load, or a partial load past step 2. -/
def Hw.inBody (h : Hw) : Bool := h.cstate == csBODY || (h.cstate == csPARTIAL && h.cfg.part == .writing)

/-- Body bytes judged before the buffered ones. -/
def CfgEng.done (e : CfgEng) : Nat := e.pos - e.buf.length

/-- The record at the head of the body, of `n` bytes: whether it runs past BODY_LEN, or all of it has arrived. -/
def CfgEng.whole (e : CfgEng) (n : Nat) : Bool := decide (n ≤ e.buf.length)
def CfgEng.past (e : CfgEng) (n : Nat) : Bool := decide (4 ≤ e.buf.length ∧ e.bodyLen < e.done + n)

/-- A record's reason: its CRC first, then its address word (R223). -/
def CfgEng.recReason (e : CfgEng) (n : Nat) (endRec : Bool) : Nat :=
  let a := leAt e.buf 0 4
  if leAt e.buf (n - 4) 4 ≠ crc32c (e.buf.take (n - 4)) then 0x10
  else if bits a 31 30 = 2 ∨ bits a 29 17 ≠ 0 then 0x11
  else if endRec then
    (if bits a 16 0 = e.idx ∧ e.idx = e.need ∧ e.done + n = e.bodyLen then 0 else 0x11)
  else if e.nextFrame = some (bits a 16 0) then (if e.done + n < e.bodyLen then 0 else 0x11)
  else 0x11

/-- A DATA or REPEAT record is checked and writes its frame. -/
def Hw.frameRecord (h : Hw) (data : Bool) : Hw :=
  let e := h.cfg
  let n := if data then 264 else 8
  if e.past n then h.attemptFail 0x11
  else if !(e.whole n) then h
  else
    let r := e.recReason n false
    if r ≠ 0 then h.attemptFail r
    else
      let v : BitVec 2048 := if data then BitVec.ofNat 2048 (ofLe ((e.buf.drop 4).take 256)) else e.lastData
      let f := bits (leAt e.buf 0 4) 16 0
      (h.onFab (fun s => s.writeFrame f v)).onCfg (fun e =>
        { e with buf := e.buf.drop n, lastData := v, idx := e.idx + 1, wrote := true })

/-- KIND of the record at the head of the body. -/
def CfgEng.kind (e : CfgEng) : Nat := bits (leAt e.buf 0 4) 31 30

/-- DATA_RECORD. -/
def Hw.dataRecord (h : Hw) : Hw :=
  if h.inBody && decide (4 ≤ h.cfg.buf.length) && h.cfg.kind == 0 then h.frameRecord true else h

/-- REPEAT_RECORD; a record of reserved KIND, whose length the spec does not give, is taken as an address word and its CRC
(DEDUCED, assumption 32). -/
def Hw.repeatRecord (h : Hw) : Hw :=
  if h.inBody && decide (4 ≤ h.cfg.buf.length) && (h.cfg.kind == 1 || h.cfg.kind == 2) then h.frameRecord false else h

/-- A base image is LOADED (R226, R227, R239, R104): registers, the end of its command, and the identity of a one-seat
table. -/
def Hw.loaded (h : Hw) : Hw :=
  let e := h.cfg
  let h := (h.putB R.CFG_STAT_LOADED true).put R.CFG_STAT_IMAGE e.type
  let h := (List.range 12).foldl (fun (h : Hw) i => h.wr (R.CFG_DIGEST i) (e.hf (0x40 + 4 * i) 4)) h
  let h := h.put R.CFG_REL_GAP_GAP (if e.hf 0x1C 1 = 0 then 16 else e.hf 0x1C 1)
  let pin := e.attempt == .pins
  let h := h.onCfg (fun x => { x with attempt := .none, baseMask := e.hf 0x14 2, spent := x.spent || pin })
  let h := h.onFab (fun s => { s with ffInit := true })
  (((h.setCs csHELD).tapRelease).loadDone stOK 0).soloAgree

/-- END_RECORD: the body closes; GCM tag, then digest (R223, R226, R260 step 4). -/
def Hw.endRecord (h : Hw) : Hw :=
  let e := h.cfg
  if !h.inBody || decide (e.buf.length < 4) || e.kind != 3 then h
  else if e.past 8 then h.attemptFail 0x11
  else if !(e.whole 8) then h
  else
    let r := e.recReason 8 true
    if r ≠ 0 then h.attemptFail r
    else if e.encrypted && gcmTag e.key (e.hb 0x70 12) (e.hb 0 0x80) e.cipher != e.hb 0x80 16 then h.attemptFail 0x13
    else if sha384 e.plain != e.hb 0x40 48 then h.attemptFail 0x14
    else if e.attempt.partial' then h.onCfg (fun e => { e with part := .releasing 0 })
    else h.loaded

/-- CFG_STREAM_END: a stream ends before its body is complete (R247). For the pins it also ends the discarding of a spent
stream; for a host load it is the end of the command's buffer. -/
def Hw.streamEnd (h : Hw) : Hw :=
  let h := if h.tapInternal then h else h.onCfg (fun e => { e with spent := false })
  let e := h.cfg
  let short := decide (e.hdr.length < 512 ∨ e.pos < e.bodyLen)
  let hostEnd := match e.cmd with
    | some (m, k) => (match h.engine m k with
      | some g => decide (g.len ≤ e.taken)
      | none => false)
    | none => false
  if !h.streaming || !short then h
  else if e.attempt = .pins ∨ e.attempt = .partPins then
    let h := h.attemptFail 0x12
    h.onCfg (fun e => { e with spent := false })
  else if (e.attempt == .host || e.attempt == .partHost) && hostEnd then h.attemptFail 0x12
  else h

/-- FLASH_READ_TIMEOUT: a flash read during a load gets no data for 10 ms or returns an error (R223). -/
def Hw.flashTimeout (h : Hw) : Hw :=
  if h.cfg.attempt.flash && h.streaming then h.attemptFail 0x15 else h

/-! ### Clearing, restart (R225, R239, R261, R266-R268) -/

/-- Every fabric port is fenced or released by the staged release (R251, R252). -/
def Hw.portsUnreleased (h : Hw) (b : Bool) : Hw :=
  (List.range 64).foldl (fun (h : Hw) i => (h.fenceSet (576 + i) .unreleased b).portShow i) h

/-- The fabric returns to the unreleased state (R251, R263). -/
def Hw.unrelease (h : Hw) : Hw :=
  (h.onFab (fun s => { s with stage := 0, localRel := false, outEn := false, writeEn := false, userRun := false,
                              ffInit := true, weOff := 0, rstOn := 0, regs := FabRegs.reset })).portsUnreleased true

/-- The folds of the ports of regions `m` are abandoned, and with them the fence of the Fold (R252 step 3, R266, R268). -/
def Hw.portFoldsOut (h : Hw) (m : Nat) : Hw :=
  ((List.range 64).filter (fun i => bit m (portRegion i))).foldl (fun (h : Hw) i =>
    ((h.setFsm (16 + i) FoldSm.reset).fenceSet (576 + i) .fold false).portShow i) h

/-- CFG_PR_ISO as a 64-bit value. -/
def Hw.prIso (h : Hw) : Nat := h.rd64 R.CFG_PR_ISO_LO R.CFG_PR_ISO_HI
def Hw.setPrIso (h : Hw) (v : Nat) : Hw := h.wr64 R.CFG_PR_ISO_LO R.CFG_PR_ISO_HI v

/-- Ports of isolated regions are fenced (R260, R318). -/
def Hw.isoPorts (h : Hw) : Hw :=
  (List.range 64).foldl (fun (h : Hw) i =>
    (h.fenceSet (576 + i) .isolated (bit h.prIso (portRegion i))).portShow i) h

/-- CLEAR_PASS_DONE: frames are zero (R225); then the fallback, the restart, or a failed partial load's end. -/
def Hw.clearDone (h : Hw) : Hw :=
  if h.cstate != csCLEAR then h
  else if h.cfg.restart then
    let h := h.onFab (fun s => { s with frames := [], crcs := [], pool := [] })
    (h.onCfg (fun e => { (e.begin .none 0) with restart := false, startPend := true })).setCs csWAIT
  else if h.cfg.attempt.partial' then
    let m := h.cfg.regions
    let h := h.onFab (fun s => s.clear (fun f => (frameRegion f).any (fun r => bit m r)))
    ((h.setPrIso (h.prIso ||| m)).isoPorts).attemptNext
  else (h.onFab (fun s => { s with frames := [], crcs := [], pool := [] })).attemptNext

/-- An accepted PROG_N or a configuration restart (R266, R268, R1243): loads and releases end, DONE is driven low, the
fabric is unreleased and cleared, and configuration starts again. A load command ends ABORTED, detail 3 (R381). -/
def Hw.cfgRestart (h : Hw) : Hw :=
  if h.busDown then h
  else
    let h := match h.cfg.cmd with
      | some (m, k) => (h.onCfg (fun e => { e with cmd := none })).complete m k stABORTED 3 0
      | none => h
    let h := h.onCfg (fun e => { (e.begin .none 0) with restart := true, startPend := false })
    let h := (h.tapRelease.unrelease).portFoldsOut (2 ^ 64 - 1)
    let h := h.onFab (fun s => { s with drive := true })
    let h := ((h.putB R.CFG_STAT_LOADED false).putB R.CFG_STAT_RELEASED false).put R.CFG_STAT_IMAGE 0
    let h := (List.range 12).foldl (fun (h : Hw) i => h.wr (R.CFG_DIGEST i) 0) h
    (((h.setPrIso 0).isoPorts.setCs csCLEAR).tblRestart).tapSettle

/-- CFG_CTL_RESTART: a write of CFG_CTL with KEY 0xC5 and RESTART (R266, R272); its LOCK bit acts as well. -/
def Hw.cfgLock (h : Hw) : Hw := h.putB R.CFG_STAT_LOCK true
def Hw.cfgCtl (h : Hw) (v : Nat) : Hw :=
  let h := if bit v 0 then h.cfgLock else h
  if bits v 15 8 = 0xC5 ∧ bit v 1 then h.cfgRestart else h

/-! ### DONE and the staged release (R249-R255, R263) -/

/-- This seat drives DONE low: for its configuration, for the table, or for a reset that waits for SYSCLK (R95). -/
def Hw.driveDone (h : Hw) : Bool := h.fab.drive || h.tbl.doneLow || h.pendDriven

/-- DONE_RELEASE (R250). -/
def Hw.doneRelease (h : Hw) : Hw :=
  if h.is R.CFG_STAT_LOADED && h.is R.CFG_STAT_IDENT_OK && h.is R.CFG_STAT_HBM_OK && !h.tbl.clash then
    h.onFab (fun s => { s with drive := false })
  else h

/-- The seat drives DONE low again where a condition has gone (R1105). -/
def Hw.doneFollow (h : Hw) : Hw :=
  if h.is R.CFG_STAT_IDENT_OK || h.fab.doneHigh then h else h.onFab (fun s => { s with drive := true })

/-- The code of the VDDIO that a standard needs is the one sensed (R309): 1 1.8 V, 2 2.5 V, 3 3.3 V. -/
def ioFits (std v : Nat) : Bool :=
  match std with
  | 1 => v == 3 | 2 => v == 3 | 3 => v == 2 | 4 => v == 1 | 5 => v == 2 | 6 => v == 2 || v == 3
  | _ => true

/-- The I/O cell of pin `m` of bank `n` (frame 110,592 + 32n + m, R323) is held high-impedance: its standard does not match
the sensed voltage (R335). -/
def FabState.ioHeld (s : FabState) (n m : Nat) : Bool :=
  !(ioFits (Config.fdbIoStd (s.frame (fabPeriphery + 32 * n + m))) (bits s.volts (2 * n + 1) (2 * n)))

/-- Banks are sensed at step 1 of a staged release (R335): `volts` holds two bits a bank. FAB_IO_VMIS shows the banks with a
held cell. -/
def Hw.senseBanks (h : Hw) (volts : Nat) : Hw :=
  let h := h.onFab (fun s => { s with volts := volts % 2 ^ 26 })
  h.put R.FAB_IO_VMIS_BANK (maskOf ((List.range 13).filter (fun n => (List.range 32).any (fun m => h.fab.ioHeld n m))))

/-- DONE_SEEN_HIGH: the exchange closes and the staged release begins with user outputs (R252). `volts` are the voltages
of the banks, sensed at this step (R335). -/
def Hw.doneSeenHigh (h : Hw) (volts : Nat) : Hw :=
  if h.driveDone || h.fab.doneHigh then h
  else
    let h := (h.onFab (fun s => { s with doneHigh := true })).tblDoneHigh
    if h.cstate != csHELD then h
    else
      let h := h.onFab (fun s => { s with stage := 1, outEn := true })
      (h.senseBanks volts).setCs csRELEASING

/-- Stage 2 or 3 acts on the fabric; stage 3 unfences the ports, a Fold's fence included (R252, R728, R731). -/
def Hw.stageAct (h : Hw) (n : Nat) : Hw :=
  if n = 2 then h.onFab (fun s => { s with stage := 2, writeEn := true })
  else ((h.onFab (fun s => { s.loadInit (fun _ => true) with stage := 3, userRun := true, ffInit := false })).portsUnreleased false).portFoldsOut (2 ^ 64 - 1)

/-- One stage of a partial load's local release (R260 step 5): at the first isolation ends and the banks are sensed, at the
second the regions' write enables come on, at the third their user resets are released and their ports unfence. -/
def Hw.partStage (h : Hw) (n volts : Nat) : Hw :=
  let m := h.cfg.regions
  let h := h.onCfg (fun e => { e with part := .releasing (n + 1) })
  if n = 0 then ((h.setPrIso (h.prIso - (h.prIso &&& m))).onFab (fun s => s.unhold m)).senseBanks volts
  else if n = 1 then h.onFab (fun s => { s with weOff := s.weOff - (s.weOff &&& m) })
  else
    let h := (h.onFab (fun s =>
      { s.loadInit (fun b => bit m (blockRegion b)) with rstOn := s.rstOn - (s.rstOn &&& m) })).isoPorts
    let h := ((List.range 64).filter (fun i => bit m (portRegion i))).foldl (fun (h : Hw) i => h.unfoldPort i) h
    let pin := h.cfg.attempt == .partPins
    let h := (h.onCfg (fun e => { e with attempt := .none, part := .none, spent := e.spent || pin })).setCs csRELEASED
    h.tapRelease.loadDone stOK 0

/-- RELEASE_STAGE: the next stage of the release that runs (R252, R254, R260). -/
def Hw.releaseStage (h : Hw) (volts : Nat) : Hw :=
  match h.cfg.part with
  | .releasing n => if h.cstate == csPARTIAL then h.partStage n volts else h
  | _ =>
    let s := h.fab.stage
    if h.cstate == csRELEASING then
      if s = 1 ∨ s = 2 then h.stageAct (s + 1)
      else if s = 3 then
        let h := (h.onFab (fun f => { f with stage := 4 })).putB R.CFG_STAT_RELEASED true
        h.cfgLock.setCs csRELEASED
      else h
    else if h.fab.localRel then
      if s = 1 then h.stageAct 2
      else if s = 2 then (h.stageAct 3).onFab (fun f => { f with stage := 4, localRel := false })
      else h
    else h

/-- DONE_SEEN_LOW: between DONE seen high and the end of the window, back to the unreleased state (R263); afterwards a
possible seat loss (R255). -/
def Hw.doneSeenLow (h : Hw) : Hw :=
  if !h.fab.doneHigh then h
  else
    let h := h.onFab (fun s => { s with doneHigh := false })
    if h.cstate == csRELEASING then h.unrelease.setCs csHELD else h

/-- The local staged release after a core reset: flip-flops reload, then steps 1 to 3 run, from the first again where one
was running (R105, R254). A fabric that was
never released has nothing to release (DEDUCED, assumption 34). -/
def Hw.localRelease (h : Hw) (volts : Nat) : Hw :=
  if h.fab.stage != 4 && !h.fab.localRel then h
  else
    let h := h.unrelease
    (h.onFab (fun s => { s with stage := 1, localRel := true, outEn := true })).senseBanks volts

/-- PARTIAL_FOLD_DONE: the ports of the regions are off the network and the regions are isolated (R260 step 2). -/
def Hw.partFoldDone (h : Hw) : Hw :=
  let m := h.cfg.regions
  let ports := (List.range 64).filter (fun i => bit m (portRegion i))
  if h.cfg.part != .folding || !(ports.all (fun i => h.foldStat (16 + i) == fFOLDED)) then h
  else
    let h := ((h.holdRegions m h.prIso).setPrIso (h.prIso ||| m)).isoPorts
    (h.onFab (fun s => { s with weOff := s.weOff ||| m, rstOn := s.rstOn ||| m })).onCfg (fun e => { e with part := .writing })

/-! ### Commands (R175, R406, R408) -/

/-- IMAGE_LOAD: only in WAIT or FAILED; its data then streams word by word. -/
def Hw.imageLoad (h : Hw) (m k : Nat) : Hw :=
  h.onCmd m k 0x0010 (fun _ =>
    if h.cfg.attempt == .pins || h.cfg.attempt == .partPins then h.complete m k stBUSY 0 0
    else if h.cstate != csWAIT && h.cstate != csFAILED then h.wrongState m k h.cstate
    else (h.begun m k).onCfg (fun e => { e with cmd := some (m, k), taken := 0 }))

/-- PARTIAL_LOAD. -/
def Hw.partialLoad (h : Hw) (m k : Nat) : Hw :=
  h.onCmd m k 0x0011 (fun _ =>
    if h.cfg.attempt == .pins || h.cfg.attempt == .partPins then h.complete m k stBUSY 0 0
    else (h.begun m k).onCfg (fun e => { e with cmd := some (m, k), taken := 0 }))

/-- A load whose command has ended otherwise (a DMA error, a lost link, a timeout) gets no more data: its stream has
ended early (R247), and the internal TAP master lets the TAP go (R172). -/
def Hw.loadLost (h : Hw) : Hw :=
  match h.cfg.cmd with
  | none => h
  | some (m, k) =>
    if (h.cmd? m k).isSome then h
    else
      let h := h.onCfg (fun e => { e with cmd := none })
      if h.streaming && (h.cfg.attempt == .host || h.cfg.attempt == .partHost) then h.attemptFail 0x12
      else if h.cfg.attempt == .none then h.tapRelease
      else h

/-- The engine holds the flash (R408). -/
def Hw.flashBusy (h : Hw) : Bool :=
  [csPROBE, csHEADER, csBODY, csCLEAR, csPARTIAL].contains h.cstate

/-- How a flash command fails its checks: alignments, the end of the flash (once probed), then BUSY (R382, R406, R408).
DESIGN CHOICE (assumption 74): where no mailbox command holds the unit, DETAIL of BUSY is 0. -/
def Hw.flashBad (h : Hw) (c : InFlight) (fa la : Nat) : Option (Nat × Nat) :=
  let o := c.par 0 4
  let n := c.par 4 4
  if o % fa != 0 then some (stBAD_PARAM, 0)
  else if n % la != 0 || (h.is R.CFG_FLASH_SIZE && decide (h.get R.CFG_FLASH_SIZE * 2 ^ 20 < o + n)) then some (stBAD_PARAM, 4)
  else if h.flashBusy then some (stBUSY, 0)
  else none

/-- A flash command. A flash behind boundary scan answers nothing (R184). -/
def Hw.flashCmd (h : Hw) (m k op fa la : Nat) (obs : FlashObs) (f : InFlight → Nat → Nat → Hw) : Hw :=
  h.onCmd m k op (fun c =>
    match h.flashBad c fa la with
    | some (st, d) => h.complete m k st d 0
    | none => if h.pinsFrozen && obs.code == 0 then h else f c (c.par 0 4) (c.par 4 4))

/-- FLASH_READ. -/
def Hw.flashRead (h : Hw) (m k : Nat) (obs : FlashObs) : Hw :=
  h.flashCmd m k 0x0012 1 4 obs (fun _ o n =>
    if obs.code ≠ 0 then h.complete m k stFLASH_ERROR obs.code 0
    else if h.hostOutReady m k n then (h.hostOut m k (Mem.bytes h.mem.flash o n)).ok m k 0
    else h)

/-- Bytes of the flash. -/
def Hw.flashW (h : Hw) (o : Nat) (bs : List Byte) : Hw :=
  { h with mem := { h.mem with flash := Mem.write h.mem.flash o bs } }

/-- FLASH_WRITE: pages are programmed, read back and compared. -/
def Hw.flashWrite (h : Hw) (m k : Nat) (obs : FlashObs) : Hw :=
  h.flashCmd m k 0x0013 256 256 obs (fun _ o n =>
    match h.hostIn m k n with
    | none => h
    | some bs =>
      if obs.code ≠ 0 then (h.flashW o (obs.bytes.take n)).complete m k stFLASH_ERROR obs.code 0
      else (h.flashW o bs).ok m k 0)

/-- FLASH_ERASE: 64 KiB sectors take 0xFF. -/
def Hw.flashErase (h : Hw) (m k : Nat) (obs : FlashObs) : Hw :=
  h.flashCmd m k 0x0014 0x10000 0x10000 obs (fun _ o n =>
    if obs.code ≠ 0 then (h.flashW o (obs.bytes.take n)).complete m k stFLASH_ERROR obs.code 0
    else (h.flashW o (List.replicate n 0xFF)).ok m k 0)

/-! ### The scrub (R1171-R1174) -/

/-- Frames the scrub skips: those of an isolated region or of one a partial load writes (R1174). -/
def Hw.scrubSkips (h : Hw) (f : Nat) : Bool :=
  (frameRegion f).any (fun r => bit h.prIso r || (h.cfg.part != .none && bit h.cfg.regions r))

/-- SCRUB_FRAME: the next frame is read and its CRC compared (R1172, R1173). `upset` are bits that have changed in the
frame's cells since they were last written or read. -/
def Hw.scrubFrame (h : Hw) (upset : BitVec 2048) : Hw :=
  if !h.is R.ERR_SCRUB_CFG_EN || !h.is R.CFG_STAT_RELEASED then h
  else
    let f := h.err.scrubNext
    let pool := decide (f < fabPeriphery ∧ 7 ≤ f % 9)
    let h := if pool then h else h.onFab (fun s =>
      { s with frames := SMap.set (fun _ => 0) s.frames f (s.frame f ^^^ upset) })
    let bad := !pool && !(h.scrubSkips f) && BitVec.ofNat 32 (crc32c (leBytes 256 (h.fab.frame f).toNat)) !=
      SMap.get (fun _ => zeroFrameCrc) h.fab.crcs f
    let h := if bad then (h.errFull eCONFIG 1 nodeREG none f 1 false).put R.ERR_SCRUB_STAT_FRAME f else h
    let h := { h with err := { h.err with scrubNext := if f + 1 = fabFrames then 0 else f + 1 } }
    if f + 1 = fabFrames then h.bump R.ERR_SCRUB_PASS_COUNT else h

/-- No command waits: user logic runs a moment (R290-R312, R332, R334; assumption 10). Nothing else of the part moves. -/
def State.idle (s : State) : State :=
  if s.hw.fabRuns then { s with hw := s.hw.fabTick s.hw.prIso } else s

end Sys2Proof.Machine
end

