-- ==== Sys2Proof/Machine/Raster.lean ====
section
/-!
DEFINITION. The raster unit: frames, list entries, binning, bin jobs and wave records (R953-R987, R996, R999, R1003).
-/
namespace Sys2Proof.Machine

open Sys2Proof

/-! ### Memory accesses of node 644 -/

/-- A read of the raster unit: `none` waits; else MEM_ERROR's DETAIL, 0 for served, with the data. -/
def Hw.gfxRead (h : Hw) (a n : Nat) (far : Memory) : Option (Nat × List Byte × Hw) := h.nodeRead 644 a n far

/-- A store of the raster unit: answered with success? -/
def Hw.gfxWrite (h : Hw) (a : Nat) (bs : List Byte) (ps : List Bool) (farOk : Bool) : Bool × Hw :=
  h.nodeWrite 644 a bs ps farOk

/-- A stack is not ready: accesses to HBM wait. -/
def Hw.hbmWaits (h : Hw) : Bool :=
  (List.range 2).any (fun s => let m := h.memState s; m != msRUN && m != msFAILED && m != msOFF)

/-- Writes still queued in the HBM controllers issue before the texel units read (R996). -/
def Hw.hbmSettle (h : Hw) : Hw :=
  h.hbm.pc.foldl (fun h e => (e.2.q.filter (fun b => b.kind != .read)).foldl (fun h b => h.hbmFlush b.off 32) h) h

/-! ### Segments -/

/-- Triangles of a segment after setup, with their draws and places in the segment. -/
def GPass.setups (p : GPass) : List (Nat × GDraw × Setup) :=
  ((List.range p.tris.length).zip p.tris).filterMap (fun e =>
    match p.draws[e.2.draw]? with
    | some d =>
      match setupTri d p.width p.height e.2 with
      | some (some s) => some (e.1, d, s)
      | _ => none
    | none => none)

/-- The bins a triangle touches: those in which it covers a pixel inside WIDTH and HEIGHT (assumption 6). -/
def GPass.binsOf (p : GPass) (s : Setup) : List (Nat × Nat) :=
  (List.range p.binsY).flatMap (fun y => (List.range p.binsX).filterMap (fun x =>
    if (List.range 32).any (fun r => (List.range (p.rowLen x y r)).any (fun c =>
        s.hits p.width p.height (32 * x + c) (32 * y + r))) then some (x, y) else none))

/-- The segment ends: its bin jobs (R961, R962, R965). -/
def GPass.closeSeg (p : GPass) : GPass :=
  let ss := p.setups
  let touched := ss.flatMap (fun e => p.binsOf e.2.2)
  let all := p.tiled && p.seg == 0 && p.tgts.any (fun t => t.load == 0)
  let bins := (List.range p.binsY).flatMap (fun y => (List.range p.binsX).filterMap (fun x =>
    if all || touched.contains (x, y) then some (x, y) else none))
  let key (b : Nat × Nat) : Nat := b.2 * p.binsX + b.1
  { p with
    jobs := bins.map (fun b =>
      ⟨b.1, b.2, if p.tiled then decide (0 < p.seg) else NSet.has p.seen (key b), false, 0, [], 0⟩)
    seen := bins.foldl (fun s b => NSet.add s (key b)) p.seen }

/-- After an entry: a failed frame ends; the pass ends where no entry of it follows (R953, R960). -/
def Hw.gfxSettle (h : Hw) (f : GFrame) : Hw :=
  if f.fail.isSome then h.frameEnd { f with pass := none }
  else if !f.ent.isEmpty && !(decide (1 ≤ leAt f.ent 0 1 ∧ leAt f.ent 0 1 ≤ 3)) then
    h.frameEnd { f with pass := none, fail := some (stBAD_PARAM, 0, f.idx) }
  else if f.ent.isEmpty || leAt f.ent 0 1 == 1 then
    match f.pass with
    | none => if f.ent.isEmpty then h.frameEnd f else h.setFrame (some f)
    | some p =>
      let p := { p with ended := true }.closeSeg
      if p.jobs.isEmpty then h.passEnd f p else h.setFrame (some { f with pass := some p })
  else h.setFrame (some f)

/-- The list's next entry is fetched (R955); `none` waits. -/
def Hw.fetchEntry (h : Hw) (f : GFrame) (i : Nat) (far : Memory) : Option (GFrame × Hw) :=
  let f := { f with idx := i, inDraw := false, taken := 0 }
  if f.n ≤ i then some ({ f with ent := [] }, h)
  else
    match h.gfxRead (f.list + 32 * i) 32 far with
    | none => none
    | some (0, bs, h) => some ({ f with ent := bs }, h)
    | some (d, _, h) => some ({ f with ent := [], fail := some (stMEM_ERROR, d, 0) }, h)

/-- An entry is done: fetch the next one. -/
def Hw.nextEntry (h : Hw) (f : GFrame) (far : Memory) : Option Hw :=
  (h.fetchEntry f (f.idx + 1) far).map (fun r => r.2.gfxSettle r.1)

/-- The entry breaks a rule: the frame ends at it (R960). -/
def Hw.badEntry (h : Hw) (f : GFrame) : Hw := h.gfxSettle { f with fail := some (stBAD_PARAM, 0, f.idx) }

/-- A read of the entry's data failed. -/
def Hw.memEntry (h : Hw) (f : GFrame) (d : Nat) : Hw := h.gfxSettle { f with fail := some (stMEM_ERROR, d, 0) }

/-- The frame whose present entry has OP `op`, while no bin job runs or waits. -/
def Hw.entryFor (h : Hw) (op : Nat) : Option GFrame :=
  match h.gfx.frame with
  | some f =>
    let idle := match f.pass with | some p => p.jobs.isEmpty && p.run.isEmpty | none => true
    if idle && !f.ent.isEmpty && leAt f.ent 0 1 == op then some f else none
  | none => none

/-- An entry keeps the rules of R955. -/
def entryOk (e : List Byte) : Bool :=
  let op := leAt e 0 1
  decide (1 ≤ op ∧ op ≤ 3) && leAt e 1 7 == 0 && decide (leAt e 8 8 < 2 ^ 48) && leAt e 0x18 8 == 0 &&
    (if op = 3 then decide (1 ≤ leAt e 0x14 4 ∧ leAt e 0x14 4 ≤ 2 ^ 24) else leAt e 0x14 4 == 0)

/-! ### GFX_SUBMIT -/

/-- GFX_SUBMIT (R954, R955, R1003). -/
def Hw.gfxSubmit (h : Hw) (m k : Nat) (far : Memory) : Hw :=
  h.onCmd m k 0x0400 (fun c =>
    if 2 ^ 48 ≤ c.par 0 8 then h.badParam m k 0
    else if c.par 8 4 % 32 != 0 then h.badParam m k 8
    else h.whenReleased m k <|
      if h.gfxParts.isEmpty then h.gfxShow.wrongState m k 2
      else
        let f : GFrame := ⟨m, k, c.par 0 8, c.par 8 4 / 32, 0, [], false, 0, 0, false, none, false, none⟩
        match h.fetchEntry f 0 far with
        | none => h
        | some r =>
          (((r.2.begun m k).setFrame (some r.1)).gfxSettle r.1).gfxShow)

/-! ### PASS -/

/-- A pass descriptor keeps the rules of R956. -/
def passOk (p : GPass) : Bool :=
  let t (k : Nat) : Bool :=
    let g := p.tgt k
    g.addr < 2 ^ 48 && g.pitch % 32 == 0 && g.fmt < 4 && g.order < 2 && g.load < 3 && g.store < 2 &&
      leAt p.desc (0x38 + 0x20 * k) 8 == 0
  p.desc.length == 256 && decide (p.mode < 3 ∧ p.id < 16 ∧ p.ntgt ≤ 4 ∧ leAt p.desc 3 1 < 4) &&
    decide (1 ≤ p.width ∧ p.width ≤ 8192 ∧ 1 ≤ p.height ∧ p.height ≤ 8192) &&
    decide (p.fbkSize % 8 = 0 ∧ p.fbkAddr % 8 = 0 ∧ p.fbkAddr < 2 ^ 48) && leAt p.desc 0x18 8 == 0 &&
    (List.range p.ntgt).all t && decide (p.zTgt.load < 3 ∧ p.zTgt.store < 2 ∧ p.zTgt.addr < 2 ^ 48 ∧
      p.sTgt.addr < 2 ^ 48) && leAt p.desc 0xAE 2 == 0 && leAt p.desc 0xBD 3 == 0 && leAt p.desc 0xC0 64 == 0

/-- PASS: the pass's descriptor is read and its mode chosen (R956, R964, R983). -/
def Hw.gfxPass (h : Hw) (far : Memory) : Hw :=
  match h.entryFor 1 with
  | none => h
  | some f =>
    if f.pass.isSome then h
    else if !entryOk f.ent then h.badEntry f
    else
      match h.gfxRead (leAt f.ent 8 8) 256 far with
      | none => h
      | some (0, bs, h) =>
        let h := h.hbmSettle
        let p : GPass := ⟨bs, true, [], [], 0, false, 0, 0, [], [], false, [], 0, [], false, h.mem.hbm, h.mem.kitty⟩
        if !passOk p then h.badEntry f
        else
          let hist := h.get (R.GFX_AUTO_HIST_DEMAND p.id)
          let tiled := p.mode == 0 || (p.mode == 2 && (!(h.is (R.GFX_AUTO_HIST_VALID p.id)) || decide (hist ≤ p.budget)))
          match h.nextEntry { f with pass := some { p with tiled := tiled } } far with
          | none => h
          | some h => h.gfxShow
      | some (d, _, h) => h.memEntry f d

/-! ### SHADER -/

/-- Check a shader image of `len` bytes (R975). The 32-byte header and the range of HCRC leave 8 reserved bytes. -/
def shaderOk (bs : List Byte) (len : Nat) : Bool :=
  let il := leAt bs 8 4
  let cl := leAt bs 12 4
  decide (32 ≤ len) && leAt bs 0 4 == 0x44485347 && leAt bs 4 2 == 1 && decide (leAt bs 6 2 < 1024) && il % 64 == 0 &&
    decide (il ≤ 65536 ∧ cl ≤ 32768) && leAt bs 20 8 == 0 && leAt bs 28 4 == crc32c (bs.take 28) && len == 32 + il + cl

def shDispatch (i : List Byte) : Nat := leAt i 6 2
def shMask (i : List Byte) : Nat := leAt i 16 4

/-- Copy the image into a tile: instruction store and constants. -/
def Tile.shader (t : Tile) (i : List Byte) : Tile :=
  let il := leAt i 8 4
  let t := { t with mem := { t.mem with imem := Mem.write t.mem.imem 0 ((i.drop 32).take il) } }
  t.tsWrite 0x8000 ((i.drop (32 + il)).take (leAt i 12 4))

/-- Copy the image into every tile of partition `q`. -/
def Hw.copyShader (h : Hw) (q : Nat) (i : List Byte) : Hw :=
  let h := h.onTiles q (fun t => t.shader i)
  { h with gfx := { h.gfx with have_ := NSet.add h.gfx.have_ q } }

/-- SHADER: with no bin job running, the image is checked and copied into every graphics tile (R975). -/
def Hw.gfxShader (h : Hw) (far : Memory) : Hw :=
  match h.entryFor 2 with
  | none => h
  | some f =>
    let len := leAt f.ent 0x10 4
    if !entryOk f.ent then h.badEntry f
    else if len < 32 ∨ 32 + 65536 + 32768 < len then h.badEntry f
    else
      match h.gfxRead (leAt f.ent 8 8) len far with
      | none => h
      | some (0, bs, h) =>
        if !shaderOk bs len then h.badEntry f
        else
          match h.nextEntry f far with
          | none => h
          | some h' =>
            let h' := { h' with gfx := { h'.gfx with image := some bs, have_ := [] } }
            h'.gfxParts.foldl (fun h q => h.copyShader q bs) h'
      | some (d, _, h) => h.memEntry f d

/-! ### DRAW -/

/-- A draw descriptor keeps the rules of R957. -/
def drawOk (p : GPass) (d : GDraw) : Bool :=
  d.desc.length == 128 && d.stride % 4 == 0 && decide (12 + 4 * d.nattr ≤ d.stride ∧ d.nattr ≤ 8) &&
    decide (leAt d.desc 0x13 1 < 2 ∧ d.entry < 1024 ∧ d.tmask < 2 ^ p.ntgt ∧ d.rast < 16 ∧ d.rast % 4 < 3) &&
    decide (d.zfunc < 7 ∧ leAt d.desc 0x18 1 < 16 ∧ d.sfunc < 7 ∧ d.sop < 5 ∧ leAt d.desc 0x19 1 < 64 ∧ d.nsamp ≤ 4) &&
    decide (leAt d.desc 0 8 < 2 ^ 48 ∧ leAt d.desc 8 8 < 2 ^ 48 ∧ leAt d.desc 0x20 8 < 2 ^ 48) &&
    leAt d.desc 0x1C 4 == 0 && leAt d.desc 0x28 24 == 0 &&
    (List.range d.nsamp).all (fun s => samplerOk ((d.samps.drop (32 * s)).take 32) d.nattr)

/-- Fetch vertex `n` of a draw (R957): `none` waits; else a DETAIL and the vertex. -/
def Hw.fetchVertex (h : Hw) (d : GDraw) (first n : Nat) (far : Memory) : Option (Nat × List Byte × Hw) :=
  let ib := leAt d.desc 8 8
  let sz := if leAt d.desc 0x13 1 = 0 then 2 else 4
  let ix : Option (Nat × Nat × Hw) :=
    if ib = 0 then some (0, (first + n) % 2 ^ 32, h)
    else
      match h.gfxRead (ib + (first + n) * sz) sz far with
      | none => none
      | some (e, bs, h) => some (e, leAt bs 0 sz, h)
  match ix with
  | none => none
  | some (0, i, h) => h.gfxRead (leAt d.desc 0 8 + i * d.stride) (12 + 4 * d.nattr) far
  | some (e, _, h) => some (e, [], h)

/-- How far a draw has come in one step: it goes on, waits for memory, failed with a DETAIL, or ended its segment. -/
inductive DrawSt where
  | go | wait | fail (d : Nat) | flush
deriving DecidableEq, Repr

/-- Space a triangle takes in bin memory: what R963 counts as demand. -/
def triDemand (bins : Nat) : Nat := 256 + 8 * bins

/-- One triangle of a draw (R953, R958, R959, R963, R965). -/
def Hw.drawTri (h : Hw) (p : GPass) (d : GDraw) (di first n : Nat) (far : Memory) : DrawSt × GPass × Hw :=
  match h.fetchVertex d first (3 * n) far with
  | none => (.wait, p, h)
  | some (0, v0, h) =>
    match h.fetchVertex d first (3 * n + 1) far with
    | none => (.wait, p, h)
    | some (0, v1, h) =>
      match h.fetchVertex d first (3 * n + 2) far with
      | none => (.wait, p, h)
      | some (0, v2, h) =>
        let t : GTri := ⟨di, v0, v1, v2⟩
        match setupTri d p.width p.height t with
        | none => (.go, p, h.bump R.GFX_CNT_DISC_COUNT)
        | some none => (.go, p, h)
        | some (some s) =>
          let need := triDemand (p.binsOf s).length
          let full := if p.tiled then decide (h.get R.GFX_BINMEM_SIZE_SIZE < p.used + need) else decide (1024 ≤ p.tris.length)
          if full && !p.fresh then
            let h := if p.tiled then h.bump R.GFX_CNT_FLUSH_COUNT else h
            let q := p.closeSeg
            if q.jobs.isEmpty then
              let q := q.nextSeg
              (.go, { q with tris := [t], used := need, fresh := false, demand := q.demand + need }, h)
            else (.flush, q, h)
          else
            (.go, { p with tris := p.tris ++ [t], used := p.used + need, fresh := false, demand := p.demand + need }, h)
      | some (e, _, h) => (.fail e, p, h)
    | some (e, _, h) => (.fail e, p, h)
  | some (e, _, h) => (.fail e, p, h)

/-- Triangles from `n` on, `left` of them: how it stands, the next triangle, the pass and the state. -/
def Hw.drawTris (p : GPass) (d : GDraw) (di first : Nat) (far : Memory) : Nat → Nat → Hw → DrawSt × Nat × GPass × Hw
  | 0, n, h => (.go, n, p, h)
  | left + 1, n, h =>
    match h.drawTri p d di first n far with
    | (.go, p', h') => Hw.drawTris p' d di first far left (n + 1) h'
    | (s, p', h') => (s, n, p', h')

/-- The present DRAW's triangles are taken until it ends, waits, fails or ends its segment. -/
def Hw.drawRun (h : Hw) (f : GFrame) (p : GPass) (far : Memory) : Hw :=
  let di := p.draws.length - 1
  match p.draws[di]? with
  | none => h
  | some d =>
    let n := leAt f.ent 0x14 4
    match Hw.drawTris p d di (leAt f.ent 0x10 4) far (n - f.taken) f.taken h with
    | (.go, k, p, h) =>
      let f := { f with taken := k, inDraw := true, pass := some p }
      (match h.nextEntry f far with
      | some h => h
      | none => h.setFrame (some f))
    | (.fail e, _, _, h) => h.memEntry f e
    | (_, k, p, h) => h.setFrame (some { f with taken := k, inDraw := true, pass := some p })

/-- DRAW: a new draw is read and checked, or one that its segment's jobs interrupted goes on (R957, R965). -/
def Hw.gfxDraw (h : Hw) (far : Memory) : Hw :=
  match h.entryFor 3 with
  | none => h
  | some f =>
    match f.pass with
    | none => h.badEntry f
    | some p =>
      if f.inDraw then h.drawRun f p far
      else if !entryOk f.ent then h.badEntry f
      else
        match h.gfxRead (leAt f.ent 8 8) 128 far with
        | none => h
        | some (0, bs, h) =>
          let ns := leAt bs 0x1B 1
          let ss := if ns = 0 ∨ 4 < ns then some (0, [], h) else h.gfxRead (leAt bs 0x20 8) (32 * ns) far
          (match ss with
          | none => h
          | some (0, sb, h) =>
            let d : GDraw := ⟨bs, sb⟩
            if !drawOk p d then h.badEntry f
            else h.drawRun f { p with draws := p.draws ++ [d] } far
          | some (e, _, h) => h.memEntry f e)
        | some (d, _, h) => h.memEntry f d

/-! ### Bin jobs -/

/-- A target's pixel as the bin buffer holds it: four FP16 values, an FP32 depth or a stencil byte (R971). -/
def pixelIn (fmt : Nat) (bs : List Byte) : Nat :=
  let pack (l : List Nat) : Nat := l.foldr (fun v a => v + 65536 * a) 0
  let w := leAt bs 0 4
  match fmt with
  | 0 => leAt bs 0 8
  | 1 => pack ((List.range 4).map (fun i => (XR.fin ((leAt bs i 1 : Rat) / 255)).fp16))
  | 2 => pack [(XR.fin ((bits w 9 0 : Rat) / 1023)).fp16, (XR.fin ((bits w 19 10 : Rat) / 1023)).fp16,
      (XR.fin ((bits w 29 20 : Rat) / 1023)).fp16, (XR.fin ((bits w 31 30 : Rat) / 3)).fp16]
  | 3 => pack [(XR.ofFP32 w).fp16, 0, 0, 0x3C00]
  | _ => leAt bs 0 (if fmt = 4 then 4 else 1)

/-- A value as an n-bit UNORM, to nearest even; a NaN leaves it open. -/
def unorm (n fr : Nat) (x : XR) : Nat :=
  match x with
  | .nan => fr % 2 ^ n
  | .inf s => if s then 0 else 2 ^ n - 1
  | .fin q => (ratRound (max 0 (min 1 q) * ((2 ^ n - 1 : Nat) : Rat))).toNat

/-- A bin-buffer pixel as a target stores it (R971). -/
def pixelOut (fmt fr v : Nat) : List Byte :=
  let c (i : Nat) : XR := XR.ofFP16 (v / 65536 ^ i % 65536)
  match fmt with
  | 0 => leBytes 8 v
  | 1 => (List.range 4).flatMap (fun i => leBytes 1 (unorm 8 (fr / 256 ^ i) (c i)))
  | 2 => leBytes 4 (unorm 10 fr (c 0) + 2 ^ 10 * unorm 10 (fr / 2 ^ 10) (c 1) + 2 ^ 20 * unorm 10 (fr / 2 ^ 20) (c 2) +
      2 ^ 30 * unorm 2 (fr / 2 ^ 30) (c 3))
  | 3 => leBytes 4 (c 0).fp32
  | 4 => leBytes 4 v
  | _ => leBytes 1 v

/-- Bytes of a bin-buffer pixel of target k, and the buffer's place in the tile store (R969). -/
def binBpp (k : Nat) : Nat := if k < 4 then 8 else if k = 4 then 4 else 1
def binBase (k : Nat) : Nat := if k < 4 then 0x10000 + 0x2000 * k else if k = 4 then 0x18000 else 0x19000

/-- One row of a target for the bin buffer: 32 pixels with their poison; `none` waits. An error response poisons the
pixels it stands for. -/
def Hw.binRow (h : Hw) (p : GPass) (j : GJob) (t : GTgt) (far : Memory) (r : Nat) : Option (List (Nat × Bool) × Hw) :=
  let n := p.rowLen j.bX j.bY r
  let pad := List.replicate (32 - n) (t.clear, false)
  if j.load || t.load == 1 then
    if n = 0 then some (pad, h)
    else
      let a := t.at (32 * j.bX) (32 * j.bY + r)
      match h.gfxRead a (n * t.bpp) far with
      | none => none
      | some (0, bs, h) => some ((List.range n).map (fun i => (pixelIn t.fmt ((bs.drop (i * t.bpp)).take t.bpp), false)) ++ pad, h)
      | some (2, bs, h) =>
        some ((List.range n).map (fun i => (pixelIn t.fmt ((bs.drop (i * t.bpp)).take t.bpp), h.gPoisonIn (a + i * t.bpp) t.bpp)) ++ pad, h)
      | some (_, _, h) => some (List.replicate n (0, true) ++ pad, h)
  else if t.load = 0 then some (List.replicate 32 (t.clear, false), h)
  else
    let f := h.takeFree 2048
    some ((List.range n).map (fun i => (f.1 / 2 ^ (64 * i) % 2 ^ (8 * binBpp t.k), false)) ++ pad, f.2)

/-- A target's bin buffer: 1,024 pixels. -/
def Hw.binLoad (h : Hw) (p : GPass) (j : GJob) (t : GTgt) (far : Memory) : Option (List (Nat × Bool) × Hw) :=
  (List.range 32).foldl (fun a r =>
    match a with
    | none => none
    | some (l, h) => (h.binRow p j t far r).map (fun e => (l ++ e.1, e.2))) (some ([], h))

/-- Depth, stencil and occluder of a pixel as triangles pass over it. -/
structure PixSt where
  z : Nat
  s : Nat
  occ : Option Nat
  /-- triangles whose fragment passed both tests -/
  pass : List Nat
deriving DecidableEq, Repr

/-- One triangle's fragment at a pixel: stencil test, depth test, writes (R957, R966, R968). A test without its target
passes. -/
def pixStep (p : GPass) (e : Nat × GDraw × Nat) (s : PixSt) : PixSt :=
  let d := e.2.1
  let z := e.2.2
  let sOk := !p.hasS || sTest d.sfunc d.sref s.s
  let zOk := !p.hasZ || zTest d.zfunc z s.z
  if sOk && zOk then
    let wr := p.hasZ && d.zwrite
    { z := if wr then z else s.z
      s := if p.hasS then sPass d.sop d.sref s.s else s.s
      occ := if d.occ && wr then some e.1 else s.occ
      pass := s.pass ++ [e.1] }
  else s

/-- The fragments of a bin in the order of their triangles, and of pixels within each. -/
def fragOrder (n : Nat) (l : List GFrag) : List GFrag := (List.range n).flatMap (fun t => l.filter (fun f => f.tri == t))

/-- Depth and stencil of each pixel after the tests, and the fragments to shade in order (R966-R968). -/
def GPass.depthPass (p : GPass) (j : GJob) (z s : List Nat) : List Nat × List Nat × List GFrag :=
  let ss := p.setups
  let px := (List.range 1024).map (fun i =>
    let x := 32 * j.bX + i % 32
    let y := 32 * j.bY + i / 32
    let z0 := listAt 0 z i
    let s0 := listAt 0 s i
    if p.width ≤ x ∨ p.height ≤ y then (PixSt.mk z0 s0 none [], [])
    else
      let es := (ss.filter (fun e => e.2.2.hits p.width p.height x y)).map (fun e =>
        (e.1, e.2.1, e.2.2.depth p.width p.height x y))
      (es.foldl (fun a e => pixStep p e a) ⟨z0, s0, none, []⟩, es))
  let ix := (List.range 1024).zip px
  let n := p.tris.length
  let frags :=
    if p.tiled then
      fragOrder n (ix.filterMap (fun e => e.2.1.occ.map (fun t => ⟨t, e.1⟩))) ++
        fragOrder n (ix.flatMap (fun e => (e.2.2.filter (fun t => !t.2.1.occ &&
          (!p.hasZ || zTest t.2.1.zfunc t.2.2 e.2.1.z))).map (fun t => ⟨t.1, e.1⟩)))
    else fragOrder n (ix.flatMap (fun e => e.2.1.pass.map (fun t => ⟨t, e.1⟩)))
  (px.map (fun e => e.1.z), px.map (fun e => e.1.s), frags)

/-- A draw writes an INTERLOCK target (R977). -/
def GPass.interlock (p : GPass) (d : GDraw) : Bool :=
  (List.range p.ntgt).any (fun t => bit d.tmask t && (p.tgt t).order == 1)

/-- Ranks of a wave's lanes: earlier lanes of the same wave on the same pixel (R976, R977). -/
def lastRank (fs : List GFrag) (f : GFrag) : Nat := (fs.filter (fun g => g.px == f.px)).length

/-- Pack fragments into waves, in order (R953, R976, R977). -/
def GPass.pack (p : GPass) (frags : List GFrag) : List GWave :=
  let r := frags.foldl (fun (a : List GWave × Option GWave) f =>
    let di := (p.tris[f.tri]?.map (fun t => t.draw)).getD 0
    let il := match p.draws[di]? with | some d => p.interlock d | none => false
    match a.2 with
    | none => (a.1, some ⟨di, [f], [0]⟩)
    | some w =>
      if w.draw != di || decide (64 ≤ w.frags.length) || (!il && w.frags.any (fun g => g.px == f.px)) then
        (a.1 ++ [w], some ⟨di, [f], [0]⟩)
      else (a.1, some ⟨di, w.frags ++ [f], w.ranks ++ [lastRank w.frags f]⟩)) ([], none)
  match r.2 with
  | some w => r.1 ++ [w]
  | none => r.1

/-- Write a bin buffer into a tile, whole lines with their poison. -/
def Tile.putBin (t : Tile) (k : Nat) (px : List (Nat × Bool)) : Tile :=
  let b := binBpp k
  let per := 32 / b
  (List.range (1024 / per)).foldl (fun t l =>
    let ps := (px.drop (l * per)).take per
    t.tsWrite (binBase k + 32 * l) (ps.flatMap (fun e => leBytes b e.1)) (ps.any (fun e => e.2))) t

/-- The tile that a job goes to: HALTED, of an available graphics partition, in the image's TILE_MASK, without a job, the
longest waiting, then the lowest (R971, R972, R975, R985). -/
def Hw.jobTile (h : Hw) (p : GPass) (img : List Byte) : Option Nat :=
  let ts := ((List.range 512).filter (fun t =>
    h.gfxAvail.contains (partOf t) && bit (shMask img) (relOf t) && (h.tile t).ctl.st == .halted &&
      !(p.run.any (fun j => j.tile == t))))
  match ts with
  | [] => none
  | t :: l => some (l.foldl (fun b x => if NMap.get h.gfx.since x < NMap.get h.gfx.since b then x else b) t)

/-- Steps 1 and 2 of R971 on tile `t`, with the bin buffer's contents `bufs`: depth and stencil tests, waves, the job
block, and the shader's start. -/
def Hw.jobGo (h : Hw) (p : GPass) (j : GJob) (js : List GJob) (t : Nat) (img : List Byte)
    (bufs : List (GTgt × List (Nat × Bool))) : Hw :=
  let buf (k : Nat) : List (Nat × Bool) :=
    match bufs.find? (fun e => e.1.k == k) with | some e => e.2 | none => []
  let dp := p.depthPass j ((buf 4).map (fun e => e.1)) ((buf 5).map (fun e => e.1))
  let waves := p.pack dp.2.2
  let h := if NSet.has h.gfx.have_ (partOf t) then h else h.copyShader (partOf t) img
  let h := h.onTile t (fun x => bufs.foldl (fun x e =>
    let px := if e.1.k = 4 then (e.2.zip dp.1).map (fun q => (q.2, q.1.2))
      else if e.1.k = 5 then (e.2.zip dp.2.1).map (fun q => (q.2, q.1.2)) else e.2
    x.putBin e.1.k px) x)
  let blk := leBytes 2 j.bX ++ leBytes 2 j.bY ++ leBytes 4 p.seg ++ leBytes 4 h.gfx.jseq ++ List.replicate 52 0
  let h := h.onTile t (fun x =>
    let x := x.tsWrite 0x19400 blk
    if waves.isEmpty then x
    else ({ x with ctl := { x.ctl with pc := shDispatch img } } : Tile).ctlRun)
  let h := { h with gfx := { h.gfx with jseq := h.gfx.jseq + 1 } }
  h.setPass (some { p with jobs := js, run := p.run ++ [{ j with tile := t, waves := waves, sent := 0 }] })

/-- BIN_JOB_START: steps 1 and 2 of R971 on the longest-waiting tile. A job without a fragment runs no shader. -/
def Hw.binJobStart (h : Hw) (far : Memory) : Hw :=
  match h.gfx.frame, h.gfx.image with
  | some f, some img =>
    match f.pass with
    | some p =>
      match p.jobs, h.jobTile p img with
      | j :: js, some t =>
        let loads := p.tgts.foldl (fun (a : Option (List (GTgt × List (Nat × Bool)) × Hw)) g =>
          match a with
          | none => none
          | some (l, h) => (h.binLoad p j g far).map (fun e => (l ++ [(g, e.1)], e.2))) (some ([], h))
        match loads with
        | none => h
        | some (bufs, h) => h.jobGo p j js t img bufs
      | _, _ => h
    | none => h
  | _, _ => h

/-! ### Wave records -/

/-- Memory as the texel unit reads it: for bytes written since the pass began, either value (R996). -/
def Hw.texRd (h : Hw) (p : GPass) (far : Memory) (old : Bool) : TexRd := fun a n =>
  if (h.xlat a).isNone then none
  else if addrSeat (h.loc a) != h.seat then (farBytes far a n).map (fun b => (b, false))
  else if h.fenced 644 || h.gStatus a n false != 0 then none
  else
    let byte (x : Nat) : Byte :=
      match addrTarget (h.loc x) with
      | .hbm o => if old then Mem.get p.oldHbm o else Mem.get h.mem.hbm o
      | .kitty o => if old then Mem.get p.oldKitty o else Mem.get h.mem.kitty o
      | _ => h.gByte x
    some ((List.range n).map (fun i => byte (a + i)), h.gPoisonIn a n)

/-- One lane's result of sampler `s`. Non-finite coordinates leave it open. -/
def Hw.laneSample (h : Hw) (p : GPass) (far : Memory) (st : Setup) (s : Sampler) (fr x y : Nat) : TexOut :=
  let u := (XR.ofFP32 (st.attr p.width p.height x y s.uAt)).q?
  let v := (XR.ofFP32 (st.attr p.width p.height x y s.vAt)).q?
  match u, v, st.deriv p.width p.height x y s.uAt, st.deriv p.width p.height x y s.vAt with
  | some u, some v, some du, some dv =>
    let lam := s.lod du.1 du.2 dv.1 dv.2
    s.sample (h.texRd p far (bit fr 192)) (h.texRd p far (bit fr 193)) fr lam u v
  | _, _, _, _ => ⟨(List.range 4).map (fun i => fr / 2 ^ (16 * i) % 65536), false, false, []⟩

/-- Append a feedback record (R983, R984). -/
def Hw.feedback (h : Hw) (p : GPass) (q : Nat) (farOk : Bool) (draw slot level page : Nat) : GPass × Hw :=
  let old := lmapGet p.recent q
  if p.fbkSize = 0 || old.contains (draw, slot, page) then (p, h)
  else if p.fbkSize / 8 ≤ p.fbk then (p, h.bump R.GFX_FBK_DROP_COUNT)
  else
    let v := page % 2 ^ 32 + 2 ^ 32 * (level % 16) + 2 ^ 36 * (slot % 4) + 2 ^ 40 * (draw % 2 ^ 24)
    let w := h.gfxWrite (p.fbkAddr + 8 * p.fbk) (leBytes 8 v) [] farOk
    ({ p with fbk := p.fbk + 1, recent := lmapSet p.recent q (((draw, slot, page) :: old).take 64) }, w.2)

/-- The bytes of a wave record from offset 8 on (R970). -/
def waveBytes (w : GWave) (d : GDraw) (last : Bool) (z : List Nat) (attrs : List (List Nat)) (tex : List (List TexOut)) :
    List Byte :=
  let pad (n : Nat) (l : List Byte) : List Byte := l ++ List.replicate (n - l.length) 0
  let lanes := tex
  let nres (t : List TexOut) : Nat := maskOf ((List.range t.length).filter (fun i => (t.getD i ⟨[], false, false, []⟩).nres))
  let head := leBytes 2 d.entry ++ leBytes 1 w.frags.length ++ leBytes 1 (w.ranks.foldl max 0) ++ leBytes 1 (b2n last) ++
    leBytes 3 0 ++ leBytes 4 w.draw
  pad 0x78 head ++ pad 128 (w.frags.flatMap (fun f => leBytes 2 f.px)) ++ pad 64 (w.ranks.flatMap (fun r => leBytes 1 r)) ++
    pad 192 (lanes.flatMap (fun t => leBytes 1 (nres t))) ++ pad 256 (z.flatMap (fun v => leBytes 4 v)) ++
    (List.range 8).flatMap (fun a => pad 256 (if a < d.nattr then attrs.flatMap (fun l => leBytes 4 (listAt 0 l a)) else [])) ++
    pad 0x1500 ((List.range 4).flatMap (fun s => pad 512 (if s < d.nsamp then lanes.flatMap (fun t =>
      (t.getD s ⟨[], false, false, []⟩).rgba.flatMap (fun v => leBytes 2 v)) else [])))

/-- The next wave record of job `j` on tile `t`: attributes, depths and texels sampled, feedback given, the record written
(R973, R978-R984). -/
def Hw.waveWrite (h : Hw) (p : GPass) (j : GJob) (w : GWave) (d : GDraw) (t : Nat) (far : Memory) (farOk : Bool) : Hw :=
  let k := j.sent + 1
  let h := h.hbmSettle
  let xy (g : GFrag) : Nat × Nat := (32 * j.bX + g.px % 32, 32 * j.bY + g.px / 32)
  let st (g : GFrag) : Option Setup :=
    match p.tris[g.tri]? with
    | some tr => (match setupTri d p.width p.height tr with | some (some s) => some s | _ => none)
    | none => none
  let z := w.frags.map (fun g => match st g with | some s => s.depth p.width p.height (xy g).1 (xy g).2 | none => 0)
  let attrs := w.frags.map (fun g => (List.range d.nattr).map (fun a =>
    match st g with | some s => s.attr p.width p.height (xy g).1 (xy g).2 a | none => 0))
  let lanes := (List.range w.frags.length).zip w.frags
  let tex := lanes.map (fun e => (List.range d.nsamp).map (fun s =>
    match st e.2 with
    | some stp => h.laneSample p far stp (samplerOf ((d.samps.drop (32 * s)).take 32))
        (Config.freeValue (h.free + 4 * e.1 + s)).toNat (xy e.2).1 (xy e.2).2
    | none => ⟨[], false, false, []⟩))
  let h := { h with free := h.free + 256 }
  let r := tex.foldl (fun (a : GPass × Hw) l =>
    ((List.range l.length).zip l).foldl (fun a e =>
      e.2.misses.foldl (fun a m => a.2.feedback a.1 (partOf t) farOk w.draw e.1 m.1 m.2) a) a) (p, h)
  let p := r.1
  let bad := tex.any (fun l => l.any (fun e => e.poison))
  let h := if bad && !p.logged then r.2.errAt eGRAPHICS 2 644 else r.2
  let p := { p with logged := p.logged || bad }
  let body := waveBytes w d (decide (k = j.waves.length)) z attrs tex
  let h := h.onTile t (fun x => x.tsWrite ((k - 1) % 4 * 0x2000) (leBytes 8 k ++ body))
  h.setPass (some { p with run := p.run.map (fun q => if q.tile = t then { q with sent := k } else q) })

/-- WAVE_RECORD_WRITE: with room in the ring of tile `t`, its job's next record is sampled and written (R973, R978-R984). -/
def Hw.waveRecordWrite (h : Hw) (t : Nat) (far : Memory) (farOk : Bool) : Hw :=
  match h.gfx.frame with
  | none => h
  | some f =>
    match f.pass with
    | none => h
    | some p =>
      match p.run.find? (fun j => j.tile == t) with
      | none => h
      | some j =>
        match j.waves[j.sent]? with
        | none => h
        | some w =>
          let k := j.sent + 1
          if ofLe ((h.tile t).tsRead 0x19410 4) + 4 < k || h.hbmWaits then h
          else
            match p.draws[w.draw]? with
            | none => h
            | some d =>
              h.waveWrite p j w d t far farOk

/-! ### Resolve -/

/-- Store row `r` of a target from the bin buffer: done? -/
def Hw.storeRow (h : Hw) (p : GPass) (j : GJob) (g : GTgt) (r : Nat) (farOk : Bool) : Bool × Hw :=
  let n := p.rowLen j.bX j.bY r
  if n = 0 then (true, h)
  else
    let x := h.tile j.tile
    let b := binBpp g.k
    let src := binBase g.k + 32 * r * b
    let a := g.at (32 * j.bX) (32 * j.bY + r)
    let f := h.takeFree 4096
    let bs := (List.range n).flatMap (fun i => pixelOut g.fmt (f.1 / 2 ^ (32 * i)) (ofLe (x.tsRead (src + i * b) b)))
    let ps := (granules 32 a (n * g.bpp)).map (fun l => (List.range n).any (fun i =>
      decide (a + i * g.bpp < 32 * l + 32 ∧ 32 * l < a + (i + 1) * g.bpp) && x.tsPoison (src + i * b) b))
    f.2.gfxWrite a bs ps farOk

/-- Store a target. -/
def Hw.storeTgt (h : Hw) (p : GPass) (j : GJob) (g : GTgt) (farOk : Bool) : Bool × Hw :=
  (List.range 32).foldl (fun a r =>
    let w := a.2.storeRow p j g r farOk
    (a.1 && w.1, w.2)) (true, h)

/-- Step 5 of R971: job `j` of tile `t` stores its bin buffer and leaves; a failed store loses the bin. -/
def Hw.jobStore (h : Hw) (p : GPass) (j : GJob) (t : Nat) (farOk : Bool) : Hw :=
  let gs := p.tgts.filter (fun g => !p.ended || g.store == 0)
  let r := gs.foldl (fun (a : Bool × Hw) g => let w := a.2.storeTgt p j g farOk; (a.1 && w.1, w.2)) (true, h)
  let h := r.2
  let s := h.gfx.seq + 1
  let h := { h with gfx := { h.gfx with seq := s, since := NMap.set h.gfx.since t s } }
  let h := h.setPass (some { p with run := p.run.filter (fun q => q.tile != t) })
  (if r.1 then h else h.binLost p j).segEnd

/-- BIN_JOB_STORE: step 5 of R971 for the job of tile `t`. A store that is not answered with success loses the bin. A
segment that is not the pass's last stores every target (R965). -/
def Hw.binJobStore (h : Hw) (t : Nat) (farOk : Bool) : Hw :=
  match h.gfx.frame with
  | none => h
  | some f =>
    match f.pass with
    | none => h
    | some p =>
      match p.run.find? (fun j => j.tile == t) with
      | none => h
      | some j =>
        let c := (h.tile t).ctl
        if j.sent != j.waves.length || (!j.waves.isEmpty && !(c.st == .halted && c.why == 1)) || h.hbmWaits then h
        else
          h.jobStore p j t farOk

/-- GFX_RELEASE: no job runs on folding partition `q`, and the unit releases it (R717, R985). -/
def Hw.gfxRelease (h : Hw) (q : Nat) : Hw :=
  let busy := match h.gfx.frame with
    | some f => (match f.pass with | some p => p.run.any (fun j => partOf j.tile == q) | none => false)
    | none => false
  if busy || h.pstate q != pGRAPHICS || h.foldStat q != fFOLDING then h
  else { h with gfx := { h.gfx with released := NSet.add h.gfx.released q } }

/-- A write of GFX_AUTO_CLR (R964). -/
def Hw.gfxAutoClr (h : Hw) (v : Nat) : Hw :=
  (bitList 16 v).foldl (fun h n => h.putB (R.GFX_AUTO_HIST_VALID n) false) h

end Sys2Proof.Machine
end

