-- ==== Sys2Proof/Machine/Display.lean ====
section
/-!
DEFINITION. The display source: timing, planes, hot plug and AUX (R988-R995, R1000-R1003).
-/
namespace Sys2Proof.Machine

open Sys2Proof

/-- States of DPY_STAT. -/
def dOFF : Nat := 0
def dNO_SINK : Nat := 1
def dTRAINING : Nat := 2
def dTRAIN_FAIL : Nat := 3
def dACTIVE : Nat := 4

/-- DPY_STAT.STATE. -/
def Hw.dpyState (h : Hw) : Nat := h.get R.DPY_STAT_STATE

/-- Fields of a timing block (R989). -/
def tmPclk (b : List Byte) : Nat := leAt b 0 4
def tmHact (b : List Byte) : Nat := leAt b 4 2
def tmVact (b : List Byte) : Nat := leAt b 12 2
def tmFlags (b : List Byte) : Nat := leAt b 20 1
def tmBpc (b : List Byte) : Nat := leAt b 21 1

/-- Link rate in kb/s for a lane (R988). -/
def linkRate (r : Nat) : Nat :=
  match r with
  | 0 => 1620000 | 1 => 2700000 | 2 => 5400000 | _ => 8100000

/-- A timing block fits the display and the link (R988, R989). -/
def timingOk (b : List Byte) (lanes rate : Nat) : Bool :=
  decide (25000 ≤ tmPclk b ∧ tmPclk b ≤ 600000 ∧ 1 ≤ tmHact b ∧ tmHact b ≤ 3840 ∧ 1 ≤ tmVact b ∧ tmVact b ≤ 2160) &&
    decide (tmFlags b < 4 ∧ (tmBpc b = 8 ∨ tmBpc b = 10)) &&
    decide (tmPclk b * 3 * tmBpc b * 1000 ≤ 776 * lanes * linkRate rate)

/-- DPY_STAT takes a state with its lanes and rate. -/
def Hw.dpySet (h : Hw) (st lanes rate : Nat) : Hw :=
  ((h.put R.DPY_STAT_STATE st).put R.DPY_STAT_LANES lanes).put R.DPY_STAT_RATE rate

/-- DPY_MODE (R989, R990, R1003). `trained` is how link training ends. -/
def Hw.dpyMode (h : Hw) (m k : Nat) (far : List Byte) (trained : Bool) : Hw :=
  h.onCmd m k 0x0401 (fun c =>
    let lanes := c.par 8 1
    let rate := c.par 9 1
    if 2 ^ 48 ≤ c.par 0 8 then h.badParam m k 0
    else if !(lanes == 1 || lanes == 2 || lanes == 4) then h.badParam m k 8
    else if 3 < rate then h.badParam m k 9
    else h.whenReleased m k <|
      match h.dealerRead (c.par 0 8) 32 far with
      | none => h
      | some (0, bs, h) =>
        if !timingOk bs lanes rate then h.badParam m k 0
        else if h.get R.DPY_STAT_HPD = 0 then h.wrongState m k dNO_SINK
        else if !trained then (h.dpySet dTRAIN_FAIL 0 rate).wrongState m k dTRAIN_FAIL
        else
          let h := h.dpySet dACTIVE lanes rate
          let h := { h with dpy := { h.dpy with mode := bs, lanes := lanes, rate := rate } }
          h.ok m k (h.rd R.DPY_STAT)
      | some (d, _, h) => h.complete m k stMEM_ERROR d 0)

/-- A plane block (R991). -/
def planeOf (b : List Byte) : DPlane :=
  ⟨leAt b 0 8, leAt b 8 4, leAt b 12 1, leAt b 13 1 == 1, leAt b 14 1, leAt b 15 1, leAt b 16 2, leAt b 18 2, leAt b 20 2,
    leAt b 22 2⟩

/-- A plane block keeps the rules of R991 for plane `n` of a mode. -/
def planeOk (n : Nat) (mode b : List Byte) : Bool :=
  let p := planeOf b
  decide (p.addr < 2 ^ 48 ∧ p.pitch % 32 = 0 ∧ p.fmt < 3 ∧ leAt b 13 1 < 2 ∧ p.amode < 2) &&
    (if n = 0 then decide (p.x = 0 ∧ p.y = 0 ∧ p.w = tmHact mode ∧ p.h = tmVact mode)
     else decide (p.x + p.w ≤ tmHact mode ∧ p.y + p.h ≤ tmVact mode))

/-- DPY_PLANE: the block is checked and waits for the next vertical blanking (R991, R993, R1003). -/
def Hw.dpyPlane (h : Hw) (m k : Nat) (far : List Byte) : Hw :=
  h.onCmd m k 0x0402 (fun c =>
    if 1 < c.par 0 1 then h.badParam m k 0
    else if 2 ^ 48 ≤ c.par 8 8 then h.badParam m k 8
    else h.whenReleased m k <|
      match h.dealerRead (c.par 8 8) 32 far with
      | none => h
      | some (0, bs, h) =>
        if !planeOk (c.par 0 1) h.dpy.mode bs then h.badParam m k 8
        else
          let h := { h with dpy := { h.dpy with next := SMap.ins h.dpy.next (c.par 0 1) (planeOf bs) } }
          h.ok m k 0
      | some (d, _, h) => h.complete m k stMEM_ERROR d 0)

/-- GFX_STATUS (R1003). -/
def Hw.gfxStatus (h : Hw) (m k : Nat) : Hw :=
  h.onCmd m k 0x0403 (fun _ => h.ok m k (h.rd R.GFX_STAT + 2 ^ 32 * h.rd R.DPY_STAT))

/-- VBLANK: the planes set since the last one take effect (R993). -/
def Hw.vblank (h : Hw) : Hw :=
  if h.dpyState != dACTIVE then h
  else { h with dpy := { h.dpy with
    planes := h.dpy.next.foldl (fun m e => SMap.set (fun _ => DPlane.off) m e.1 e.2) h.dpy.planes, next := [] } }

/-- SCANOUT_UNDERFLOW: data late, or poisoned, for a pixel (R994, R1157). -/
def Hw.scanUnderflow (h : Hw) (poisoned : Bool) : Hw :=
  if h.dpyState != dACTIVE then h
  else
    let h := h.raise R.DPY_FLAGS_UNDERFLOW 0
    if poisoned then h.errAt eGRAPHICS 2 649 else h

/-- LINK_CHANGE of the display port (R995). -/
def Hw.dpyChange (h : Hw) (up : Bool) : Hw := h.postEvent 16 evLINK_CHANGE (0x40 + 256 * b2n up)

/-- HPD_UNPLUG: DP_HPD low for 2 ms (R995). -/
def Hw.hpdUnplug (h : Hw) : Hw :=
  if h.get R.DPY_STAT_HPD = 0 then h
  else ((h.put R.DPY_STAT_HPD 0).dpySet dNO_SINK 0 (h.get R.DPY_STAT_RATE)).dpyChange false

/-- HPD_PLUG: DP_HPD rises after an unplug; the source waits for a DPY_MODE (R995). -/
def Hw.hpdPlug (h : Hw) : Hw :=
  if h.get R.DPY_STAT_HPD = 1 then h
  else ((h.put R.DPY_STAT_HPD 1).put R.DPY_STAT_STATE dOFF).dpyChange true

/-- IRQ_HPD: a short pulse; the source reads the sink's status, and retrains a link whose lock is lost (R995). -/
def Hw.irqHpd (h : Hw) (lost trained : Bool) : Hw :=
  if h.get R.DPY_STAT_HPD = 0 then h
  else
    let h := h.raiseAt R.DPY_FLAGS_HPD_IRQ 0 16
    if !lost || h.dpyState != dACTIVE then h
    else if trained then h.dpySet dACTIVE h.dpy.lanes h.dpy.rate
    else h.dpySet dTRAIN_FAIL 0 h.dpy.rate

/-- DPY_AUX_GO: a write of DPY_AUX_CTL with GO set starts a transaction; while one runs, it is ignored (R1002). -/
def Hw.auxGo (h : Hw) (v : Nat) : Hw :=
  if bit (h.rd R.DPY_AUX_CTL) 31 || !bit v 31 then h
  else h.wr R.DPY_AUX_CTL (v % 2 ^ 27 + 2 ^ 31)

/-- DPY_AUX_DONE: the transaction ends; a read that is acknowledged delivers its bytes (R1002). -/
def Hw.auxDone (h : Hw) (reply : Nat) (data : List Byte) : Hw :=
  let c := h.rd R.DPY_AUX_CTL
  if !bit c 31 then h
  else
    let h := (h.wr R.DPY_AUX_CTL (c % 2 ^ 31)).put R.DPY_AUX_STAT_REPLY (reply % 4)
    if reply % 4 = 0 ∧ ¬ bit c 26 then
      let n := bits c 23 20 + 1
      (List.range 4).foldl (fun h i =>
        let old := h.rd (R.DPY_AUX_DATA i)
        h.wr (R.DPY_AUX_DATA i) ((List.range 4).foldl (fun v b =>
          if 4 * i + b < n ∧ 4 * i + b < data.length then
            setBits v (8 * b + 7) (8 * b) (listAt 0 data (4 * i + b)).toNat else v) old)) h
    else h

/-! ### The output pixel (R991, R992) -/

/-- A plane's pixel: red, green, blue and alpha. -/
def Hw.planePixel (h : Hw) (p : DPlane) (x y : Nat) : List XR :=
  let b := if p.fmt = 2 then 8 else 4
  let bs := h.gBytes (p.addr + y * p.pitch + x * b) b
  let w := leAt bs 0 4
  match p.fmt with
  | 0 => (List.range 4).map (fun i => .fin ((leAt bs i 1 : Rat) / 255))
  | 1 => [.fin ((bits w 9 0 : Rat) / 1023), .fin ((bits w 19 10 : Rat) / 1023), .fin ((bits w 29 20 : Rat) / 1023),
      .fin ((bits w 31 30 : Rat) / 3)]
  | _ => (List.range 4).map (fun i => XR.ofFP16 (leAt bs (2 * i) 2))

/-- The pixel (x, y) that scan-out sends: base × (1 − a) + overlay × a inside the overlay, base elsewhere, clamped and
rounded to BPC bits (R992). A NaN leaves it open. -/
def Hw.outPixel (h : Hw) (x y : Nat) : List Nat :=
  let pl (n : Nat) : DPlane := SMap.get (fun _ => DPlane.off) h.dpy.planes n
  let base := if (pl 0).en then h.planePixel (pl 0) x y else noColour
  let o := pl 1
  let fr := (Config.freeValue h.free).toNat
  (List.range 3).map (fun i =>
    let b := base.getD i (.fin 0)
    let v : XR :=
      if o.en ∧ o.x ≤ x ∧ x < o.x + o.w ∧ o.y ≤ y ∧ y < o.y + o.h then
        let q := h.planePixel o (x - o.x) (y - o.y)
        let f : Rat := (o.alpha : Rat) / 255
        match (if o.amode = 0 then XR.mix [(f, q.getD 3 (.fin 0))] else XR.fin f) with
        | .fin a => XR.mix [(1 - a, b), (a, q.getD i (.fin 0))]
        | _ => .nan
      else b
    unorm (tmBpc h.dpy.mode) (fr / 2 ^ (16 * i)) v)

end Sys2Proof.Machine
end

