-- ==== Sys2Proof/Machine/Parser.lean ====
section
/-!
DEFINITION. The receive parser and its classification key (R1010-R1016, R1038, R1042, R1043), and the Ethernet FCS.
-/
namespace Sys2Proof.Machine

open Sys2Proof

/-- One byte into an IEEE 802.3 CRC-32 register. -/
def fcsByte (c : Nat) (b : Byte) : Nat :=
  (List.range 8).foldl (fun c _ => if c % 2 = 1 then c / 2 ^^^ 0xEDB88320 else c / 2) (c ^^^ b.toNat)

/-- The FCS of a frame, least significant byte first on the line (IEEE 802.3 clause 3.2.9). -/
def fcs32 (bs : List Byte) : Nat := bs.foldl fcsByte 0xFFFFFFFF ^^^ 0xFFFFFFFF

/-- Big-endian number of `n` bytes at offset `k`. -/
def beAt (bs : List Byte) (k n : Nat) : Nat := ofBe ((bs.drop k).take n)

/-- Class of a frame (R1012, R1013). -/
inductive PClass where
  | ok | deep | len
deriving DecidableEq, Repr

/-- A header of the parse graph (R1010). -/
inductive PHdr where
  | vlan | ip4 | ip6 | ext (kind : Nat) | l4 (proto : Nat) | ptp | hst | done
deriving DecidableEq, Repr

/-- The classification key's fields (R1016) and the parser's place. -/
structure Parse where
  cls : PClass := .ok
  next : PHdr := .done
  /-- first byte of the next header, headers so far, VLAN tags, extension headers -/
  off : Nat := 0
  hdrs : Nat := 0
  tags : Nat := 0
  exts : Nat := 0
  /-- end of the IP payload, and whether the datagram is a fragment -/
  ipEnd : Nat := 0
  part : Bool := false
  udp : Option Nat := none
  ptpAt : Option Nat := none
  ip4 : Bool := false
  ip6 : Bool := false
  frag : Bool := false
  isPtp : Bool := false
  isHst : Bool := false
  l4 : Bool := false
  etype : Nat := 0
  tci0 : Nat := 0
  tci1 : Nat := 0
  proto : Nat := 0
  tclass : Nat := 0
  sport : Nat := 0
  dport : Nat := 0
  stream : Nat := 0
  src : List Byte := []
  dst : List Byte := []
  pmsg : Nat := 0
  pdom : Nat := 0
  hseat : Nat := 0
deriving DecidableEq, Repr

/-- The header that an EtherType leads to. -/
def etherNext (t : Nat) : PHdr :=
  if t = 0x8100 ∨ t = 0x88A8 then .vlan
  else if t = 0x0800 then .ip4
  else if t = 0x86DD then .ip6
  else if t = 0x88F7 then .ptp else .done

/-- The header that a protocol number leads to, after IPv6 or an extension header where `six`. -/
def protoNext (six : Bool) (p : Nat) : PHdr :=
  if six && (p == 0 || p == 43 || p == 44 || p == 60) then .ext p
  else if p = 17 ∨ p = 6 ∨ p = 1 ∨ p = 58 then .l4 p else .done

/-- Count a header of `n` bytes at the parser's place against the budget (R1012); a length breach comes first (R1014). -/
def Parse.take (p : Parse) (n : Nat) (bad : Bool) (f : Parse → Parse) : Parse :=
  if bad then { p with cls := .len, next := .done }
  else if 10 ≤ p.hdrs ∨ 256 < p.off + n then { p with cls := .deep, next := .done }
  else f { p with off := p.off + n, hdrs := p.hdrs + 1, next := .done }

/-- A length of an IP packet of `len` bytes with `avail` bytes available in a frame of `n` bytes is in conflict (R1013). -/
def ipConflict (len avail n : Nat) : Bool := decide (avail < len) || (decide (len < avail) && n != 60)

/-- Parse the next header of frame `f` (without FCS); `hst` is the HST port while enabled. -/
def Parse.step (f : List Byte) (hst : Option Nat) (p : Parse) : Parse :=
  let o := p.off
  let avail := f.length - o
  match p.next with
  | .done => p
  | .vlan =>
    if avail < 4 then { p with next := .done }
    else if 2 ≤ p.tags then { p with cls := .deep, next := .done }
    else p.take 4 false (fun p =>
      let t := beAt f (o + 2) 2
      let p := if p.tags = 0 then { p with tci0 := beAt f o 2 } else { p with tci1 := beAt f o 2 }
      { p with tags := p.tags + 1, etype := t, next := etherNext t })
  | .ip4 =>
    let ihl := leAt f o 1 % 16 * 4
    let len := beAt f (o + 2) 2
    if avail < 20 ∨ leAt f o 1 / 16 ≠ 4 ∨ ihl < 20 then { p with next := .done }
    else p.take ihl (decide (len < ihl) || ipConflict len avail f.length) (fun p =>
      let fo := beAt f (o + 6) 2 % 8192
      let proto := leAt f (o + 9) 1
      { p with ip4 := true, tclass := leAt f (o + 1) 1, proto := proto, src := (f.drop (o + 12)).take 4,
               dst := (f.drop (o + 16)).take 4, ipEnd := o + len, part := decide (fo ≠ 0) || bit (beAt f (o + 6) 2) 13,
               frag := decide (fo ≠ 0), next := if fo = 0 then protoNext false proto else .done })
  | .ip6 =>
    let len := beAt f (o + 4) 2
    if avail < 40 ∨ leAt f o 1 / 16 ≠ 6 then { p with next := .done }
    else p.take 40 (decide (len = 0) || ipConflict (len + 40) avail f.length) (fun p =>
      let nh := leAt f (o + 6) 1
      { p with ip6 := true, tclass := beAt f o 2 / 16 % 256, proto := nh, src := (f.drop (o + 8)).take 16,
               dst := (f.drop (o + 24)).take 16, ipEnd := o + 40 + len, next := protoNext true nh })
  | .ext kind =>
    let n := if kind = 44 then 8 else (leAt f (o + 1) 1 + 1) * 8
    if p.ipEnd < o + 8 ∨ p.ipEnd < o + n then { p with next := .done }
    else if 4 ≤ p.exts then { p with cls := .deep, next := .done }
    else p.take n false (fun p =>
      let nh := leAt f o 1
      let fo := if kind = 44 then beAt f (o + 2) 2 / 8 else 0
      { p with exts := p.exts + 1, proto := nh, part := p.part || kind == 44, frag := p.frag || decide (fo ≠ 0),
               next := if fo = 0 then protoNext true nh else .done })
  | .l4 proto =>
    let room := p.ipEnd - o
    if proto = 17 then
      if room < 8 then p.take 8 true (fun p => p)
      else
        let len := beAt f (o + 4) 2
        p.take 8 (decide (len < 8) || (!p.part && len != room)) (fun p =>
          let d := beAt f (o + 2) 2
          { p with l4 := true, udp := some o, sport := beAt f o 2, dport := d,
                   next := if d = 319 ∨ d = 320 then .ptp else if hst = some d then .hst else .done })
    else if proto = 6 then
      let n := max 20 (leAt f (o + 12) 1 / 16 * 4)
      if room < n then { p with next := .done }
      else p.take n false (fun p => { p with l4 := true, sport := beAt f o 2, dport := beAt f (o + 2) 2 })
    else if room < 8 then { p with next := .done }
    else p.take 8 false (fun p => { p with l4 := true })
  | .ptp =>
    let endp := if p.udp.isSome then p.ipEnd else f.length
    if endp < o + 34 then { p with next := .done }
    else p.take 34 false (fun p =>
      { p with isPtp := true, ptpAt := some o, pmsg := leAt f o 1 % 16, pdom := leAt f (o + 4) 1 })
  | .hst =>
    let nblk := leAt f (o + 3) 1
    let good := decide (o + 16 ≤ p.ipEnd) && leAt f o 2 == 0x5348 && leAt f (o + 2) 1 == 1 &&
      decide (1 ≤ nblk ∧ nblk ≤ 8) && leAt f (o + 12) 4 == crc32c ((f.drop o).take 12)
    if !good then { p with next := .done }
    else
      let ul := match p.udp with | some u => beAt f (u + 4) 2 | none => 0
      p.take 16 (ul != 24 + nblk * 1120) (fun p =>
        { p with isHst := true, stream := leAt f (o + 6) 2, hseat := leAt f (o + 4) 1 })

/-- Parse a frame of at least 14 bytes, FCS excluded. -/
def parseFrame (f : List Byte) (hst : Option Nat) : Parse :=
  let t := beAt f 12 2
  let p : Parse := { off := 14, hdrs := 1, etype := t, next := etherNext t }
  (List.range 12).foldl (fun p _ => Parse.step f hst p) p

/-- The 64-byte classification key (R1016). -/
def Parse.key (p : Parse) (port : Nat) (f : List Byte) : List Byte :=
  let pad (l : List Byte) : List Byte := l ++ List.replicate (16 - l.length) 0
  let flags := b2n (decide (1 ≤ p.tags)) + 2 * b2n (decide (2 ≤ p.tags)) + 4 * b2n p.ip4 + 8 * b2n p.ip6 + 16 * b2n p.frag +
    32 * b2n p.isPtp + 64 * b2n p.isHst + 128 * b2n p.l4
  leBytes 1 port ++ leBytes 1 flags ++ leBytes 2 p.etype ++ leBytes 2 p.tci0 ++ leBytes 2 p.tci1 ++ leBytes 1 p.proto ++
    leBytes 1 p.tclass ++ leBytes 2 p.sport ++ leBytes 2 p.dport ++ leBytes 2 p.stream ++ pad p.src ++ pad p.dst ++
    f.take 6 ++ (f.drop 6).take 6 ++ leBytes 1 p.pmsg ++ leBytes 1 p.pdom ++ leBytes 1 p.hseat ++ leBytes 1 0

end Sys2Proof.Machine
end

