-- ==== Sys2Proof/Machine/Ethernet.lean ====
section
/-!
DEFINITION. The Ethernet ports: reception, classification, rings, shaping, timestamps and commands (R1004-R1052).
-/
namespace Sys2Proof.Machine

open Sys2Proof

/-! ### State of a port -/

/-- Port n. -/
def Hw.port (h : Hw) (n : Nat) : NetPort := SMap.get (fun _ => NetPort.reset) h.net.ports n

/-- Replace port n. -/
def Hw.setPort (h : Hw) (n : Nat) (p : NetPort) : Hw :=
  { h with net := { h.net with ports := SMap.set (fun _ => NetPort.reset) h.net.ports n p } }

/-- Change port n. -/
def Hw.onPort (h : Hw) (n : Nat) (f : NetPort → NetPort) : Hw := h.setPort n (f (h.port n))

/-- Bits of NET_Pn_FLAGS, in the order of R1051. -/
inductive NFlag where
  | fcs | runt | long | deep | len | nobuf | stomp
deriving DecidableEq, Repr

def NFlag.bit : NFlag → Nat
  | .fcs => 0 | .runt => 1 | .long => 2 | .deep => 3 | .len => 4 | .nobuf => 5 | .stomp => 6

/-- The counter of a flag. -/
def NFlag.cnt (n : Nat) : NFlag → Fld
  | .fcs => R.NET_P_CNT_FCS_COUNT n
  | .runt => R.NET_P_CNT_RUNT_COUNT n
  | .long => R.NET_P_CNT_LONG_COUNT n
  | .deep => R.NET_P_CNT_DEEP_COUNT n
  | .len => R.NET_P_CNT_LEN_COUNT n
  | .nobuf => R.NET_P_CNT_NOBUF_COUNT n
  | .stomp => R.NET_P_CNT_STOMP_COUNT n

/-- Count an event and set its flag. -/
def Hw.netEvent (h : Hw) (n : Nat) (f : NFlag) : Hw := (h.bump (f.cnt n)).raise (R.NET_P_FLAGS_FLAGS n) f.bit

/-- A timestamp of table time with a port latency added (R1037). -/
def Hw.netTime (h : Hw) (lat : Nat) : Nat := wrapI 64 ((h.clk.fwd : Int) + sext 16 lat)

/-- Table time is out of tolerance (R1039, R1116). -/
def Hw.tsSuspect (h : Hw) : Bool := h.is R.TBL_STAT_TIME_BAD

/-! ### Rules (R1016-R1023) -/

/-- Slot s. -/
def Hw.slot (h : Hw) (s : Nat) : RuleSlot := SMap.get (fun _ => RuleSlot.free) h.net.slots s

/-- Replace slot s and show the free slots. -/
def Hw.setSlot (h : Hw) (s : Nat) (x : RuleSlot) : Hw :=
  let m := SMap.set (fun _ => RuleSlot.free) h.net.slots s x
  ({ h with net := { h.net with slots := m } } : Hw).put R.NET_RULE_FREE_FREE (2304 - m.length)

/-- A slot that no index points to becomes free with its last frame (R1022). -/
def Hw.slotSettle (h : Hw) (s : Nat) (x : RuleSlot) : Hw :=
  if x.old && x.cnt == 0 then h.setSlot s RuleSlot.free else h.setSlot s x

/-- The slot that index `i` points to. -/
def Hw.slotOf (h : Hw) (i : Nat) : Option Nat :=
  (h.net.slots.find? (fun e => e.2.index == i && !e.2.old)).map (fun e => e.1)

/-- A free slot. -/
def Hw.freeSlot (h : Hw) : Option Nat := (List.range 2304).find? (fun s => !(h.net.slots.any (fun e => e.1 == s)))

/-- Index `i` no longer points to its slot. -/
def Hw.detach (h : Hw) (i : Nat) : Hw :=
  match h.slotOf i with
  | some s => h.slotSettle s { h.slot s with old := true }
  | none => h

/-- Install a rule record at index `i` if a slot is free: its generation (R1019). A record without VALID removes the rule;
its index then points to no slot. -/
def Hw.installRule (h : Hw) (i : Nat) (r : List Byte) : Option (Nat × Hw) :=
  let g := (NMap.get h.net.gens i + 1) % 65536
  let gens (h : Hw) : Hw := { h with net := { h.net with gens := NMap.set h.net.gens i g } }
  if !bit (leAt r 0x82 1) 0 then some (g, gens (h.detach i))
  else
    match h.freeSlot with
    | none => none
    | some s => some (g, (gens (h.detach i)).setSlot s
        ⟨i, r.take 64, (r.drop 64).take 64, leAt r 0x80 2, true, leAt r 0x84 4, g, 0, false⟩)

/-- A waiting NET_RULE takes a slot that became free (R1023). -/
def Hw.ruleRetry (h : Hw) : Hw :=
  match h.net.ruleWait with
  | none => h
  | some w =>
    match h.installRule w.index w.rec_ with
    | none => h
    | some (g, h) => ({ h with net := { h.net with ruleWait := none } } : Hw).ok w.mb w.hd g

/-- A rule record keeps R1017. -/
def ruleOk (r : List Byte) : Bool :=
  decide (leAt r 0x82 1 < 2) && leAt r 0x83 1 == 0 && decide (bits (leAt r 0x84 4) 5 4 < 3) && bits (leAt r 0x84 4) 15 6 == 0 &&
    leAt r 0x88 24 == 0

/-- NET_RULE. -/
def Hw.netRule (h : Hw) (m k : Nat) (far : List Byte) : Hw :=
  h.onCmd m k 0x0501 (fun c =>
    let i := c.par 0 2
    if 2047 < i then h.badParam m k 0
    else if 2 ^ 48 ≤ c.par 8 8 then h.badParam m k 8
    else
      match h.dealerRead (c.par 8 8) 160 far with
      | none => h
      | some (0, r, h) =>
        if !ruleOk r then h.badParam m k 8
        else
          match h.installRule i r with
          | some (g, h) => h.ok m k g
          | none =>
            let h := h.begun m k
            { h with net := { h.net with ruleWait := some ⟨m, k, i, r⟩ } }
      | some (d, _, h) => h.complete m k stMEM_ERROR d 0)

/-- NET_RULE_SLOT_TIMEOUT: 1 ms without a free slot (R1023). -/
def Hw.ruleTimeout (h : Hw) : Hw :=
  match h.net.ruleWait with
  | some w => ({ h with net := { h.net with ruleWait := none } } : Hw).complete w.mb w.hd stNO_RESOURCE 4 0
  | none => h

/-- A rule matches a key: equal in every bit where MASK is 1 (R1018). -/
def RuleSlot.hits (s : RuleSlot) (key : List Byte) : Bool :=
  s.valid && !s.old && (List.zip key (List.zip s.value s.mask)).all (fun e => (e.1 ^^^ e.2.1) &&& e.2.2 == 0)

/-- The slot a key is bound to: highest PRIO, then lowest index (R1018). -/
def Hw.lookup (h : Hw) (key : List Byte) : Option Nat :=
  match h.net.slots.filter (fun e => e.2.hits key) with
  | [] => none
  | e :: l => some (l.foldl (fun (b : Nat × RuleSlot) x =>
      if b.2.prio < x.2.prio ∨ (b.2.prio = x.2.prio ∧ x.2.index < b.2.index) then x else b) e).1

/-! ### Reception -/

/-- Where a frame goes: queue (none drops it), its slot, descriptor fields. -/
structure Verdict where
  queue : Option Nat
  slot : Option Nat
  rule : Nat
  gen : Nat
  tag : Nat
  status : Nat
deriving DecidableEq, Repr

/-- An exception frame (R1015). -/
def Hw.exception (h : Hw) (n st : Nat) : Verdict := ⟨some (h.get (R.NET_EXC_POLICY_QUEUE n)), none, 0xFFFF, 0, 0, st⟩

/-- What the parse and the table make of a frame (R1015, R1018). -/
def Hw.verdict (h : Hw) (n : Nat) (p : Parse) (f : List Byte) : Verdict :=
  let st := 16 * b2n p.isPtp + 32 * b2n p.isHst + 64 * b2n p.frag
  match p.cls with
  | .deep => if h.is (R.NET_EXC_POLICY_DEEP n) then h.exception n (2 + st) else ⟨none, none, 0, 0, 0, 0⟩
  | .len => if h.is (R.NET_EXC_POLICY_LEN n) then h.exception n (4 + st) else ⟨none, none, 0, 0, 0, 0⟩
  | .ok =>
    match h.lookup (p.key n f) with
    | none =>
      ⟨if h.is (R.NET_P_DEF_DROP n) then none else some (h.get (R.NET_P_DEF_QUEUE n)), none, 0xFFFF, 0, 0, st⟩
    | some s =>
      let x := h.slot s
      let q := match bits x.action 5 4 with
        | 0 => some (x.action % 16)
        | 1 => none
        | _ => some (h.get (R.NET_EXC_POLICY_QUEUE n))
      ⟨q, some s, x.index, x.gen, bits x.action 31 16, st⟩

/-- Frames of queue q of port n whose descriptors are not yet written. -/
def NetPort.rxOf (p : NetPort) (q : Nat) : List RxFlight := p.rx.filter (fun f => f.q == q)

/-- The next free receive descriptor of a queue, beyond those already taken (R1026, R1028). -/
def Hw.rxDesc (h : Hw) (n q : Nat) : Option Nat :=
  let e := h.get (R.NET_P_RX_ENTRIES_ENTRIES n q)
  let hd := h.get (R.NET_P_RX_HEAD_HEAD n q)
  let tl := h.get (R.NET_P_RX_TAIL_TAIL n q)
  let used := ((h.port n).rxOf q).length
  if e = 0 ∨ (tl % e + e - hd % e) % e ≤ used then none
  else some (NMap.get (h.port n).rxRing q + 32 * ((hd + used) % e))

/-- Deliver a frame to its queue: the data are written, the descriptor follows (R1027, R1028, R1048). -/
def Hw.deliver (h : Hw) (n : Nat) (v : Verdict) (q : Nat) (f : List Byte) (far : Memory) (farOk : Bool) : Option Hw :=
  match h.rxDesc n q with
  | none => some (h.netEvent n .nobuf)
  | some d =>
    match h.nodeRead 645 d 16 far with
    | none => none
    | some (0, bs, h) =>
      if leAt bs 8 2 < f.length then some (h.netEvent n .nobuf)
      else
        let a := leAt bs 0 8 % 2 ^ 48
        if h.gStatus a f.length true = 3 then none
        else
          match h.nodeWrite 645 a f [] farOk with
          | (false, h) => some (h.netEvent n .nobuf)
          | (true, h) =>
            let x : RxFlight := ⟨q, d, f.length, v.status, v.rule, v.gen, v.tag, h.netTime (h.get (R.NET_P_TS_LAT_RX n)), v.slot⟩
            let h := h.onPort n (fun p => { p with rx := p.rx ++ [x] })
            match v.slot with
            | some s => some (h.setSlot s { h.slot s with cnt := (h.slot s).cnt + 1 })
            | none => some h
    | some (_, _, h) => some (h.netEvent n .nobuf)

/-- A clause 31 PAUSE frame (R1006). -/
def isPause (f : List Byte) : Bool := beAt f 0 6 == 0x0180C2000001 && beAt f 12 2 == 0x8808 && beAt f 14 2 == 1

/-- One pause quantum, 512 bit times, in 1/16 ns and rounded up, by mode (R1004, R1006). -/
def quantum (mode q : Nat) : Nat := if mode = 1 then 8192 * q else (8192 * q + 9) / 10

/-- The port takes frames: in a mode, with its link up, not draining (R1004, R1047). -/
def Hw.portOn (h : Hw) (n : Nat) : Bool :=
  decide (n < 2) && h.is (R.NET_P_CFG_MODE n) && h.is (R.NET_P_STAT_LINK n) && (h.port n).change.isNone

/-- RX_FRAME: a frame with its FCS arrives at port n (R1006-R1018, R1021, R1028, R1037). -/
def Hw.rxFrame (h : Hw) (n : Nat) (bs : List Byte) (far : Memory) (farOk : Bool) : Hw :=
  if !h.portOn n then h
  else if bs.length < 64 then h.netEvent n .runt
  else if h.get (R.NET_P_CFG_MTU n) < bs.length then h.netEvent n .long
  else
    let f := bs.take (bs.length - 4)
    if leAt bs (bs.length - 4) 4 != fcs32 f then h.netEvent n .fcs
    else if isPause f then
      if h.is (R.NET_P_CFG_PAUSE_EN n) then
        h.onPort n (fun p => { p with pauseTo := h.clk.now + quantum (h.get (R.NET_P_CFG_MODE n)) (beAt f 16 2) })
      else h
    else
      let p := parseFrame f (if h.is R.NET_HST_PORT_EN then some (h.get R.NET_HST_PORT_PORT) else none)
      let v := h.verdict n p f
      let g := match p.cls with | .deep => h.netEvent n .deep | .len => h.netEvent n .len | .ok => h
      match v.queue with
      | none => g
      | some q =>
        match g.deliver n v q f far farOk with
        | some g => g
        | none => h

/-- NET_QUEUE commands whose queue has no frame in flight complete (R1046). -/
def Hw.queueDone (h : Hw) : Hw :=
  h.net.qWait.foldl (fun h w =>
    let p := h.port w.port
    let busy := if w.dir = 0 then p.rx.any (fun f => f.q == w.q)
      else match p.tx with | some t => t.q == w.q | none => false
    if busy then h
    else ({ h with net := { h.net with qWait := h.net.qWait.erase w } } : Hw).ok w.mb w.hd 0) h

/-- LINK_CHANGE of an Ethernet port (R378, R1009). -/
def Hw.ethChange (h : Hw) (n : Nat) (up : Bool) : Hw := h.postEvent 16 evLINK_CHANGE (0x10 + n + 256 * b2n up)

/-- The port takes a new mode; its link goes down. -/
def Hw.setMode (h : Hw) (n mode : Nat) : Hw :=
  let was := h.is (R.NET_P_STAT_LINK n)
  let h := ((h.put (R.NET_P_CFG_MODE n) mode).putB (R.NET_P_STAT_LINK n) false).putB (R.NET_P_STAT_AN_DONE n) false
  let h := h.onPort n (fun p => { p with pauseTo := 0, change := none })
  if was then h.ethChange n false else h

/-- A draining port that has finished changes its mode (R1047). -/
def Hw.portDone (h : Hw) (n : Nat) : Hw :=
  let p := h.port n
  match p.change with
  | none => h
  | some (m, k, mode) => if p.rx.isEmpty && p.tx.isNone then (h.setMode n mode).ok m k 0 else h

/-- RX_DESCRIPTOR_WRITE: the data writes of the oldest frame of queue q are answered, and its descriptor is written
(R1021, R1022, R1025, R1027, R1039). -/
def Hw.rxDescWrite (h : Hw) (n q : Nat) (farOk : Bool) : Hw :=
  match (h.port n).rxOf q with
  | [] => h
  | x :: _ =>
    if h.gStatus (x.desc + 10) 22 true = 3 then h
    else
      let bs := leBytes 2 x.len ++ leBytes 2 (x.status + 1 + 8 * b2n h.tsSuspect) ++ leBytes 2 x.rule ++ leBytes 2 x.gen ++ leBytes 2 x.tag ++
        leBytes 4 0 ++ leBytes 8 x.time
      let h := (h.nodeWrite 645 (x.desc + 10) bs [] farOk).2
      let h := h.onPort n (fun p => { p with rx := p.rx.erase x })
      let e := h.get (R.NET_P_RX_ENTRIES_ENTRIES n q)
      let h := if e = 0 then h else h.put (R.NET_P_RX_HEAD_HEAD n q) ((h.get (R.NET_P_RX_HEAD_HEAD n q) + 1) % e)
      let h := h.bump (R.NET_P_CNT_RX_OK_COUNT n)
      let h := match x.slot with
        | some s => h.slotSettle s { h.slot s with cnt := (h.slot s).cnt - 1 }
        | none => h
      ((h.ruleRetry).queueDone).portDone n

/-! ### Shaping (R1031-R1036) -/

/-- A queue's tokens. -/
def Hw.tokens (h : Hw) (n q : Nat) : Int := sext 32 (h.get (R.NET_P_SHP_CNT_CNT n q))

/-- Set a queue's tokens. -/
def Hw.setTokens (h : Hw) (n q : Nat) (v : Int) : Hw := h.put (R.NET_P_SHP_CNT_CNT n q) (wrapI 32 v)

/-- SHAPER_TICK: every count rises by its RATE, clamped to BUCKET (R1031). -/
def Hw.shaperTick (h : Hw) : Hw :=
  (List.range 16).foldl (fun h i =>
    let n := i / 8
    let q := i % 8
    h.setTokens n q (min (h.get (R.NET_P_SHP_BUCKET_BUCKET n q) : Int)
      (h.tokens n q + h.get (R.NET_P_SHP_RATE_RATE n q)))) h

/-- A FORGIVE of queue q of port n (R1034). -/
def Hw.forgive (h : Hw) (n q : Nat) : Hw := if h.tokens n q < 0 then h.setTokens n q 0 else h

/-- A write of RATE: a value outside 1 to 10,000 leaves it unchanged (R16, R1033). -/
def Hw.setRate (h : Hw) (n q v : Nat) : Hw :=
  let r := v % 2 ^ 14
  if 1 ≤ r ∧ r ≤ 10000 then h.put (R.NET_P_SHP_RATE_RATE n q) r else h

/-- A write of BUCKET: the count is clamped to it (R16, R1035). -/
def Hw.setBucket (h : Hw) (n q v : Nat) : Hw :=
  let b := v % 2 ^ 21
  if 1048576 < b then h
  else
    let h := h.put (R.NET_P_SHP_BUCKET_BUCKET n q) b
    if (b : Int) < h.tokens n q then h.setTokens n q b else h

/-- NET_SHAPER (R1036). -/
def Hw.netShaper (h : Hw) (m k : Nat) : Hw :=
  h.onCmd m k 0x0503 (fun c =>
    let n := c.par 0 1
    let q := c.par 1 1
    if 1 < n then h.badParam m k 0
    else if 7 < q then h.badParam m k 1
    else if 1 < c.par 3 1 then h.badParam m k 3
    else if c.par 4 2 = 0 ∨ 10000 < c.par 4 2 then h.badParam m k 4
    else if 1048576 < c.par 8 4 then h.badParam m k 8
    else
      let h := (h.setRate n q (c.par 4 2)).setBucket n q (c.par 8 4)
      (if c.par 3 1 = 1 then h.forgive n q else h).ok m k 0)

/-! ### Transmission -/

/-- Replace bytes of a frame from offset `o`. -/
def patch (f : List Byte) (o : Nat) (bs : List Byte) : List Byte := f.take o ++ bs ++ f.drop (o + bs.length)

/-- Sum of the 16-bit words of bytes [o, o + n). -/
def wordSum (f : List Byte) (o n : Nat) : Nat := (List.range (n / 2)).foldl (fun a i => a + beAt f (o + 2 * i) 2) 0

/-- One-step insertion into a Sync message with transmit timestamp `t` in 1/16 ns (R1040). -/
def oneStep (f : List Byte) (p : Parse) (t : Nat) : List Byte :=
  match p.ptpAt with
  | none => f
  | some o =>
    if p.pmsg != 0 then f
    else
      let ns := t / 16
      let g := patch f (o + 34) (beBytes 6 (ns / 1000000000) ++ beBytes 4 (ns % 1000000000))
      let g := patch g (o + 8) (beBytes 8 ((beAt f (o + 8) 8 + t % 16 * 4096) % 2 ^ 64))
      match p.udp with
      | none => g
      | some u =>
        if p.ip4 then patch g (u + 6) (beBytes 2 0)
        else
          let e := o + beAt f (o + 2) 2
          let old := wordSum f (o + 8) 8 + wordSum f (o + 34) 10 + beAt f e 2
          let new := wordSum g (o + 8) 8 + wordSum g (o + 34) 10
          patch g e (beBytes 2 ((old + 65535 * 9 - new % 65535) % 65535))

/-- The transmit queue served next: the highest that holds a frame and whose count is 0 or more (R1030, R1032). -/
def Hw.txQueue (h : Hw) (n : Nat) : Option Nat :=
  ([7, 6, 5, 4, 3, 2, 1, 0] : List Nat).find? (fun q =>
    h.is (R.NET_P_TX_ENTRIES_ENTRIES n q) && h.get (R.NET_P_TX_HEAD_HEAD n q) != h.get (R.NET_P_TX_TAIL_TAIL n q) &&
      decide (0 ≤ h.tokens n q))

/-- HEAD of a transmit queue moves on. -/
def Hw.txAdvance (h : Hw) (n q : Nat) : Hw :=
  let e := h.get (R.NET_P_TX_ENTRIES_ENTRIES n q)
  if e = 0 then h else h.put (R.NET_P_TX_HEAD_HEAD n q) ((h.get (R.NET_P_TX_HEAD_HEAD n q) + 1) % e)

/-- TX_FRAME_START: the highest eligible queue of port n starts a frame (R1009, R1029-R1032, R1037, R1040, R1041). `crc`
tells that a packet's CRC failed on the way to the port's buffer. -/
def Hw.txStart (h : Hw) (n : Nat) (crc : Bool) (far : Memory) (farOk : Bool) : Hw :=
  let p := h.port n
  if !h.portOn n || p.tx.isSome || decide (h.clk.now < p.pauseTo) then h
  else
    match h.txQueue n with
    | none => h
    | some q =>
      let d := NMap.get p.txRing q + 32 * (h.get (R.NET_P_TX_HEAD_HEAD n q) % h.get (R.NET_P_TX_ENTRIES_ENTRIES n q))
      match h.nodeRead 645 d 32 far with
      | some (0, ds, h) =>
        let len := leAt ds 8 2
        if len < 60 ∨ h.get (R.NET_P_CFG_MTU n) < len + 4 then
          ((h.nodeWrite 645 (d + 12) (leBytes 2 5) [] farOk).2).txAdvance n q
        else
          (match h.nodeRead 645 (leAt ds 0 8 % 2 ^ 48) len far with
          | none => h
          | some (e, data, h) =>
            let got := data.length == len
            let f0 := if got then data else (List.range len).map (fun i =>
              BitVec.ofNat 8 ((Config.freeValue (h.free + i / 512)).toNat / 256 ^ (i % 512)))
            let h := if got then h else { h with free := h.free + 32 }
            let stomp := crc || e != 0
            let fl := leAt ds 10 2
            let mode := h.get (R.NET_P_CFG_PTP n)
            let t := h.netTime (h.get (R.NET_P_TS_LAT_TX n))
            let ps := parseFrame f0 none
            let f := if bit fl 1 && mode == 2 then oneStep f0 ps t else f0
            let fcs := if stomp then 0xFFFFFFFF - fcs32 f else fcs32 f
            let ev := decide (1 ≤ mode) && ps.isPtp && decide (ps.pmsg < 4)
            let h := if stomp then (h.netEvent n .stomp).errAt eCRC 2 645 else h
            let h := h.setTokens n q (h.tokens n q - (len + 24 : Nat))
            h.onPort n (fun p => { p with tx := some ⟨q, d, f ++ leBytes 4 fcs, stomp, bit fl 0 || ev, t⟩ }))
      | _ => h

/-- TX_FRAME_DONE: the frame has left port n and its descriptor is written (R1009, R1027, R1039). -/
def Hw.txDone (h : Hw) (n : Nat) (farOk : Bool) : Hw :=
  match (h.port n).tx with
  | none => h
  | some x =>
    if h.gStatus x.desc 32 true = 3 then h
    else
      let st := 1 + 2 * b2n x.stomped + 8 * b2n (x.ts && h.tsSuspect)
      let h := if x.ts then (h.nodeWrite 645 (x.desc + 0x18) (leBytes 8 x.time) [] farOk).2 else h
      let h := (h.nodeWrite 645 (x.desc + 12) (leBytes 2 st) [] farOk).2
      let h := if x.stomped then h else h.bump (R.NET_P_CNT_TX_OK_COUNT n)
      let h := (h.txAdvance n x.q).onPort n (fun p => { p with tx := none })
      (h.queueDone).portDone n

/-! ### Commands -/

/-- NET_PORT (R1004, R1047). -/
def Hw.netPort (h : Hw) (m k : Nat) : Hw :=
  h.onCmd m k 0x0500 (fun c =>
    let n := c.par 0 1
    if 1 < n then h.badParam m k 0
    else if 2 < c.par 1 1 then h.badParam m k 1
    else ((h.begun m k).onPort n (fun p => { p with change := some (m, k, c.par 1 1) })).portDone n)

/-- A power of two from 64 to 4,096. -/
def ringSize (e : Nat) : Bool := [64, 128, 256, 512, 1024, 2048, 4096].contains e

/-- NET_QUEUE (R1024, R1046). -/
def Hw.netQueue (h : Hw) (m k : Nat) : Hw :=
  h.onCmd m k 0x0502 (fun c =>
    let n := c.par 0 1
    let dir := c.par 1 1
    let q := c.par 2 1
    let ring := c.par 8 8
    let e := c.par 16 2
    if 1 < n then h.badParam m k 0
    else if 1 < dir then h.badParam m k 1
    else if (dir = 0 ∧ 15 < q) ∨ (dir = 1 ∧ 7 < q) then h.badParam m k 2
    else if ring % 32 ≠ 0 ∨ 2 ^ 48 ≤ ring then h.badParam m k 8
    else if e ≠ 0 ∧ ¬ ringSize e then h.badParam m k 16
    else
      let fe := if dir = 0 then R.NET_P_RX_ENTRIES_ENTRIES n q else R.NET_P_TX_ENTRIES_ENTRIES n q
      let fh := if dir = 0 then R.NET_P_RX_HEAD_HEAD n q else R.NET_P_TX_HEAD_HEAD n q
      let ft := if dir = 0 then R.NET_P_RX_TAIL_TAIL n q else R.NET_P_TX_TAIL_TAIL n q
      if e = 0 then
        let h := (h.begun m k).put fe 0
        ({ h with net := { h.net with qWait := h.net.qWait ++ [⟨m, k, n, dir, q⟩] } } : Hw).queueDone
      else if h.is fe then h.wrongState m k 1
      else
        let h := ((h.put fe e).put fh 0).put ft 0
        let h := h.onPort n (fun p => if dir = 0 then { p with rxRing := NMap.set p.rxRing q ring }
          else { p with txRing := NMap.set p.txRing q ring })
        h.ok m k 0)

/-- NET_PTP (R1041). -/
def Hw.netPtp (h : Hw) (m k : Nat) : Hw :=
  h.onCmd m k 0x0504 (fun c =>
    if 1 < c.par 0 1 then h.badParam m k 0
    else if 2 < c.par 1 1 then h.badParam m k 1
    else (h.put (R.NET_P_CFG_PTP (c.par 0 1)) (c.par 1 1)).ok m k 0)

/-- NET_STATUS (R1052). -/
def Hw.netStatus (h : Hw) (m k : Nat) : Hw :=
  h.onCmd m k 0x0505 (fun c =>
    let n := c.par 0 1
    if 1 < n then h.badParam m k 0
    else
      let s := h.get (R.NET_P_CNT_FCS_COUNT n) + h.get (R.NET_P_CNT_DEEP_COUNT n) + h.get (R.NET_P_CNT_LEN_COUNT n) +
        h.get (R.NET_P_CNT_NOBUF_COUNT n)
      h.ok m k (h.get (R.NET_P_STAT_LINK n) + 2 * h.get (R.NET_P_STAT_AN_DONE n) + 4 * h.get (R.NET_P_CFG_MODE n) +
        2 ^ 16 * min 65535 s + 2 ^ 32 * h.get (R.NET_P_CNT_RX_OK_COUNT n)))

/-- ETH_LINK_UP: the PCS of port n gains lock; auto-negotiation completes where it is on (R1004, R1051). -/
def Hw.ethUp (h : Hw) (n : Nat) : Hw :=
  if 2 ≤ n ∨ h.get (R.NET_P_CFG_MODE n) = 0 ∨ h.is (R.NET_P_STAT_LINK n) then h
  else
    let an := h.get (R.NET_P_CFG_MODE n) == 1 && h.is (R.NET_P_CFG_AN_EN n)
    ((h.putB (R.NET_P_STAT_LINK n) true).putB (R.NET_P_STAT_AN_DONE n) an).ethChange n true

/-- ETH_LINK_DOWN: port n loses lock (R1051). -/
def Hw.ethDown (h : Hw) (n : Nat) : Hw :=
  if 2 ≤ n ∨ ¬ h.is (R.NET_P_STAT_LINK n) then h
  else ((h.putB (R.NET_P_STAT_LINK n) false).putB (R.NET_P_STAT_AN_DONE n) false).ethChange n false

end Sys2Proof.Machine
end

