-- ==== Sys2Proof/Machine/Pcie.lean ====
section
/-!
DEFINITION. The PCIe endpoint: configuration space, link, function-level reset (R1053-R1057, R1069, R1075-R1084). The
configuration space has the layout of the PCIe base specification (assumption 7).
-/
namespace Sys2Proof.Machine

open Sys2Proof

/-! ### Configuration space -/

/-- Configuration word of function `fn` as read. -/
def Hw.cfgRd (h : Hw) (fn off : Nat) : Nat := (SMap.get cfgReset h.pcie.cfg (fn * 4096 + off)).toNat

/-- Set a configuration word. -/
def Hw.cfgSet (h : Hw) (fn off v : Nat) : Hw :=
  { h with pcie := { h.pcie with cfg := SMap.set cfgReset h.pcie.cfg (fn * 4096 + off) (BitVec.ofNat 32 v) } }

/-- Configuration space and MSI-X table of function `fn` take their reset values. -/
def Hw.cfgClear (h : Hw) (fn : Nat) : Hw :=
  { h with pcie := { h.pcie with
      cfg := h.pcie.cfg.filter (fun e => e.1 / 4096 != fn), msix := h.pcie.msix.filter (fun e => e.1 / 65536 != fn),
      pend := h.pcie.pend.filter (fun k => k / 64 != fn) } }

/-- Function `fn` exists: PF0, and the enabled VFs (R1057). -/
def Hw.fnExists (h : Hw) (fn : Nat) : Bool :=
  fn == 0 || (decide (1 ≤ fn ∧ fn ≤ 16 ∧ fn ≤ h.cfgRd 0 0x210 % 65536) && h.vfEnable)

/-- Report an AER error of function `fn`: its status bit, the PCIE log entry (R1069). -/
def Hw.aer (h : Hw) (fn bitNo code : Nat) : Hw :=
  (h.cfgSet fn 0x104 (h.cfgRd fn 0x104 ||| 2 ^ bitNo)).errFull ePCIE code 646 none fn 1 false

/-! ### Link -/

/-- PCIE_LINK_UP: the link reaches L0 (R1079-R1081). -/
def Hw.pcieUp (h : Hw) (speed width : Nat) : Hw :=
  if !h.pcie.perst || h.asleep || h.is R.PCIE_STAT_DL_UP || h.heldAt true then h
  else
    let h := ((((h.put R.PCIE_STAT_SPEED speed).put R.PCIE_STAT_WIDTH width).putB R.PCIE_STAT_DL_UP true).putB R.PCIE_STAT_L2 false)
    { h with pcie := { h.pcie with cfgUp := true } }

/-- Configuration space of every function takes reset values (R1079). -/
def Hw.cfgClearAll (h : Hw) : Hw :=
  let h := { h with pcie := { h.pcie with cfg := [], msix := [], pend := [], cfgUp := false } }
  h.putB R.PCIE_STAT_VF_EN false

/-- The link is down: speed, width and state. -/
def Hw.linkStat0 (h : Hw) : Hw :=
  (((h.put R.PCIE_STAT_SPEED 0).put R.PCIE_STAT_WIDTH 0).putB R.PCIE_STAT_DL_UP false).putB R.PCIE_STAT_L2 false

/-- PCIE_LINK_DOWN: outstanding DMA reads close with DMA_ERROR, detail 3; outside LISTEN the configuration space is
reset (R1079, R1082). -/
def Hw.pcieDown (h : Hw) : Hw :=
  if !(h.is R.PCIE_STAT_DL_UP) && !(h.is R.PCIE_STAT_L2) then h
  else
    let h := (h.linkStat0).raise R.PCIE_FLAGS_LINK_DOWN 0
    let h := (h.pcie.engines.filter (fun e => e.rd && decide (e.got.length < e.len))).foldl (fun h e => h.complete e.mb e.hd stDMA_ERROR 3 0) h
    if h.asleep || h.is R.PWR_STATE_BUSY then h else h.cfgClearAll

/-! ### Function-level reset (R840, R384, R1076-R1084) -/

/-- The mailbox part: indices, MBX_CTL and MBX_ERR reset, ring zeroed, commands lost, events gone (R384). -/
def Hw.flrMailbox (h : Hw) (m : Nat) : Hw :=
  let h := [R.MBX_DB_CMD m, R.MBX_DB_CPL m, R.MBX_CMD_HEAD m, R.MBX_CPL_TAIL m, R.MBX_CTL m, R.MBX_ERR m].foldl
    (fun h a => h.wr a (resetWord a).toNat) h
  let h := (h.inflight m).foldl (fun h f => (h.orphan m f.hd 16).retire m f.hd) h
  let h := { h with mbx := { h.mbx with events := lmapSet h.mbx.events m [] } }
  let h := h.setUnsig m 0
  { h with mem := { h.mem with kitty := Mem.zero h.mem.kitty (0x2000 * m) (0x2000 * m + 0x1400) } }

/-- FUNCTION_LEVEL_RESET of VFn. -/
def Hw.flr (h : Hw) (n : Nat) : Hw :=
  if n = 0 ∨ ¬ h.fnExists n ∨ ¬ h.is R.PCIE_STAT_DL_UP ∨ h.bitOf R.PCIE_FLR_STAT_FLR (n - 1) then h
  else
    let p := n - 1
    let h := ((h.cfgClear n).flrMailbox p).putBit R.PCIE_FLR_STAT_FLR p true
    let h := (h.mbx.infl.filter (fun f => decide (0x0100 ≤ f.opcode ∧ f.opcode ≤ 0x0108) && f.part == p)).foldl
      (fun h f => (h.orphan f.mb f.hd 16).complete f.mb f.hd stABORTED 2 0) h
    let s := h.pstate p
    let open_ := s == pCOMPUTE || s == pGRAPHICS || s == pFAULT
    let h := h.onPt p (fun x => { x with flr := some (open_ && !h.fused p), start := none })
    if open_ then h.foldRequest p false [] else h.flrFinish p

/-! ### Configuration requests (R1061, R1077, R1081) -/

/-- Completions returned to the host. -/
def Hw.hostCpl (h : Hw) (l : List HostCpl) : Hw := { h with pcie := { h.pcie with cpl := l } }

/-- An Unsupported Request (R1069). -/
def Hw.hostUR (h : Hw) (fn : Nat) : Hw := (h.aer (if h.fnExists fn then fn else 0) 20 5).hostCpl [⟨1, [], false⟩]

/-- A write of a configuration word; VF Enable shows in PCIE_STAT, and pending vectors may be unmasked. -/
def Hw.cfgWrite (h : Hw) (fn off v : Nat) : Hw :=
  let m := cfgMasks fn off
  let old := h.cfgRd fn off
  let new := (List.range 32).foldl (fun a b => setBit a b
    (if bit m.1 b then bit v b else bit old b && !(bit m.2 b && bit v b))) 0
  let h := h.cfgSet fn off new
  let h := if fn = 0 ∧ off = 0x208 then h.putB R.PCIE_STAT_VF_EN (bit new 0) else h
  if off = 0x050 then h.msixUnmask else h

/-- CONFIG_REQUEST: a read, or a write of a whole word, of function `fn`'s configuration space. Initiate Function Level
Reset in the device control word starts the FLR of a VF. -/
def Hw.configRequest (h : Hw) (fn off : Nat) (wr : Option Nat) : Hw :=
  let o := off % 4096 / 4 * 4
  if !h.pcie.cfgUp || !(h.is R.PCIE_STAT_DL_UP) then h
  else if !h.fnExists fn then h.hostUR fn
  else
    match wr with
    | none => h.hostCpl [⟨0, leBytes 4 (h.cfgRd fn o), false⟩]
    | some v =>
      let h := h.hostCpl [⟨0, [], false⟩]
      if 1 ≤ fn ∧ h.bitOf R.PCIE_FLR_STAT_FLR (fn - 1) then h
      else
        let h := h.cfgWrite fn o (v % 2 ^ 32)
        if 1 ≤ fn ∧ o = 0x078 ∧ bit v 15 then h.flr fn else h

end Sys2Proof.Machine
end

