-- ==== Sys2Proof/Machine/ResetReq.lean ====
section
/-!
DEFINITION. Requests of a reset and of a wake, and what each records at once (chapter 3: R86-R101, R114-R122,
R133, R137, R147-R151).
-/
namespace Sys2Proof.Machine

open Sys2Proof

/-! ### Cause bits of SYS_RST_CAUSE (R153) -/

def rcPOR_DET : Nat := 2
def rcPOR_PIN : Nat := 3
def rcSYS_PIN : Nat := 4
def rcSYS_CMD : Nat := 5
def rcWDT : Nat := 6
def rcFATAL : Nat := 7
def rcCORE_PIN : Nat := 8
def rcCORE_CMD : Nat := 9
def rcDEEP_WAKE : Nat := 10
def rcPROMOTED : Nat := 11

/-- Record a cause. -/
def Hw.cause (h : Hw) (c : Nat) : Hw := h.wr R.SYS_RST_CAUSE (setBit (h.rd R.SYS_RST_CAUSE) c true)

/-- The higher of two levels (R115). -/
def Level.max : Level → Level → Level
  | .por, _ => .por
  | _, .por => .por
  | .system, _ => .system
  | _, .system => .system
  | .core, .core => .core

/-- The non-volatile write pulses that run: bit 0 MRAM, bit 1 eFuse (R117, R118). -/
def Hw.nvRuns (h : Hw) : Nat := b2n h.fw.pulse.isSome + 2 * b2n h.tap.pulse.isSome

/-- The fabric's first staged release after its configuration has completed, and no partial load runs: a core reset is not
promoted (R116, R267). -/
def Hw.fabricReleased (h : Hw) : Bool :=
  (h.fab.stage == 4 || h.fab.localRel) && h.get R.CFG_STAT_STATE != csPARTIAL

/-- SYS_RST_STAT shows what the pending reset waits for (R154). -/
def Hw.showPend (h : Hw) : Hw :=
  let p := h.rst.pend
  ((h.putB R.SYS_RST_STAT_PEND_WAKE (p.any (fun q => q.wake))).putB R.SYS_RST_STAT_PEND_NV
    (p.any (fun q => q.nv != 0))).putB R.SYS_RST_STAT_PEND_NOCLK (p.any (fun q => q.noclk))

/-- Replace the pending reset. -/
def Hw.setPend (h : Hw) (p : Option PendRst) : Hw := ({ h with rst := { h.rst with pend := p } } : Hw).showPend

/-! ### Fabric ports and stacks across transitions -/

/-- The fabric clocks are gated or run again, and every fabric port takes or loses the fence of PARK and of the sleep states
(R124, R131 step 2). -/
def Hw.parkPorts (h : Hw) (b : Bool) : Hw :=
  (List.range 64).foldl (fun (h : Hw) i => (h.fenceSet (576 + i) .park b).portShow i)
    (h.onFab (fun s => { s with gated := b }))

/-- Stacks in self-refresh leave it and retrain (R112, R144 step 5). -/
def Hw.wakeStacks (h : Hw) : Hw :=
  (List.range 2).foldl (fun (h : Hw) s => if h.memState s == msSELF then h.trainStart s 3 else h) h

/-- What a transition has changed is undone (R122, R132): stacks leave self-refresh and the ports lose their fence. -/
def Hw.pwrUndo (h : Hw) : Hw := h.wakeStacks.parkPorts false

/-- The power sequencer rests in state `st` (R161). -/
def Hw.pwrRest (h : Hw) (st : Nat) : Hw :=
  let h := ((h.put R.PWR_STATE_STATE st).putB R.PWR_STATE_BUSY false).put R.PWR_STATE_TARGET st
  { h with pwr' := { h.pwr' with phase := .idle } }

/-- The table unit after LISTEN: a seat alone has nothing to meet; another rejoins as SLEPT (R1132). -/
def Hw.tblRejoin (h : Hw) : Hw :=
  if h.presentList.length ≤ 1 then
    let h := (h.onTbl (fun (t : TblState) => { t with sleep := false })).putB R.TBL_STAT_SLEEP_OK false
    if h.tbl.closed then h.setX xRELEASED else h
  else if h.xstate = xISOLATED ∨ h.xstate = xLATE ∨ h.xstate = xCUT then
    (h.onTbl (fun (t : TblState) => { t with sleep := false })).putB R.TBL_STAT_SLEEP_OK false
  else
    (h.onTbl (fun (t : TblState) => { t with slept := true, closed := false, everUp := false, recs := [] })).setX xDOWN

/-- The WAKE event waits for mailbox 16 (R378). -/
def Hw.wakeNote (h : Hw) : Hw :=
  { h with mbx := { h.mbx with events := lmapSet h.mbx.events 16 (h.events 16 ++ [⟨evWAKE, h.rd R.PWR_WAKE_STAT, stEVENT⟩]) } }

/-- Step 7 of the exit from LISTEN: the part is in RUN and its links start (R144). -/
def Hw.exitEnd (h : Hw) : Hw := (h.tblRejoin.pwrRest pwrRUN).wakeNote

/-- A stack still trains (R112). -/
def Hw.memTrains (h : Hw) : Bool := (List.range 2).any (fun s => h.memState s == msTRAINING)

/-- The exit from LISTEN goes on to step 7 once the stacks have retrained and the local staged release has ended (R144
steps 5 to 7). -/
def Hw.exitSettle (h : Hw) : Hw :=
  if h.pwr'.phase == .exitRun && !h.memTrains && !h.fab.localRel then h.exitEnd else h

/-- A reset request abandons a running transition; the part is in RUN afterwards (R122). -/
def Hw.pwrAbandon (h : Hw) : Hw :=
  if h.pwr'.phase == .idle then h
  else
    let h := if h.pwr'.phase == .exitRun then h.exitEnd else h.pwrUndo.pwrRest pwrRUN
    { h with pwr' := { h.pwr' with held := none, pme := false, cmd := none, latched := false } }

/-- The PWR_STATE of a part that leaves LISTEN or DEEP still names that state until the exit ends. -/
def Hw.exiting (h : Hw) : Bool := h.pwr'.phase == .exit || h.pwr'.phase == .exitRun

/-! ### Reset requests -/

/-- A reset request of level `lv` with cause bit `c` (R94-R96, R114-R118, R122). A POR in progress covers it. `noclk`:
SYSCLK has gone with the request; `noKeep`: HBM contents are not kept (R70). -/
def Hw.resetReq (h : Hw) (lv : Level) (c : Nat) (noclk noKeep : Bool) : Hw :=
  if h.rst.por then h
  else
    let up := lv == .core && !h.fabricReleased
    let h := if up then (h.cause c).cause rcPROMOTED else h.cause c
    let lv := if up then .system else lv
    let old := h.rst.pend
    -- a sequence held by its pins has not started (R101)
    let runs := old.any (fun q => !(q.noclk || q.nv != 0 || q.wake)) && h.rst.pins.isEmpty
    let h := if runs then h.bump R.SYS_RST_STAT_RESTARTS else h
    let h := if h.asleep then h else h.pwrAbandon
    let p : PendRst :=
      { level := ((old.map (fun (q : PendRst) => q.level)).getD Level.core).max lv,
        noclk := noclk || (!h.asleep && !h.sysclk) || old.any (fun q => q.noclk),
        nv := h.nvRuns ||| (old.map (fun q => q.nv)).getD 0,
        wake := h.asleep,
        noKeep := noKeep || old.any (fun q => q.noKeep) }
    let h := h.setPend (some p)
    if h.asleep && !h.exiting && !h.pwr'.latched then { h with pwr' := { h.pwr' with byReset := true } } else h

/-- A fatal error that the collector has taken requests a system reset (R88, R89): none where it has one pending. -/
def Hw.fatalReset (h : Hw) : Hw :=
  let h := if h.rst.pend.any (fun q => q.level != .core) then h.cause rcFATAL else h.resetReq .system rcFATAL false false
  { h with err := { h.err with rstPend := true } }

/-! ### Wake events (R133, R137, R147, R150, R151) -/

/-- A wake event of bit `b` of PWR_WAKE_STAT: its flag, with OVF where it was set; a pulse of WAKE_OUT and PCIE_WAKE_N low,
as they are enabled (R136, R141); during an entry, and in LISTEN and DEEP before the exit starts, it is latched to be
honoured. During an exit it has no other effect than its flag (R147). -/
def Hw.wakeEvent (h : Hw) (b : Nat) : Hw :=
  let h := h.raiseAt ⟨R.PWR_WAKE_STAT, 7, 0⟩ b 16
  let entry := h.is R.PWR_STATE_BUSY && decide (3 ≤ h.get R.PWR_STATE_TARGET)
  if h.exiting then h
  else
    { h with pwr' := { h.pwr' with
        wakeOut := h.pwr'.wakeOut || !(h.is R.PWR_WAKE_CFG_WO_MODE),
        pcieWake := h.pwr'.pcieWake || h.is R.PWR_WAKE_CFG_PCIE_DRV,
        latched := h.pwr'.latched || entry || h.asleep } }

/-- Level-acting WAKE_IN pins that are active (R134, R137). -/
def Hw.wakeActive (h : Hw) : List Nat :=
  (List.range 4).filter (fun n => h.bitOf R.PWR_WAKE_CFG_WIN_EN n && !(h.bitOf R.PWR_WAKE_CFG_WIN_EDGE n) &&
    (NSet.has h.pwr'.winLevel n == h.bitOf R.PWR_WAKE_CFG_WIN_POL n))

/-- WAKE_OUT with WO_MODE = 1 is high in every state but DEEP (R135). With WO_MODE = 0 it stays as its pulses leave it. -/
def Hw.wakeOutShow (h : Hw) : Hw :=
  if h.is R.PWR_WAKE_CFG_WO_MODE then
    { h with pwr' := { h.pwr' with wakeOut := !(h.pwr == pwrDEEP && !h.exiting) } }
  else h

end Sys2Proof.Machine
end

