-- ==== Sys2Proof/Machine/Integrity.lean ====
section
/-!
DEFINITION. The error collector's own step and the diagnostics commands (R88, R89, R1158-R1170, R1180-R1184, R1240,
R1241, R411).
-/
namespace Sys2Proof.Machine

open Sys2Proof

/-- A fatal error requests a system reset: of class CLOCK always (R88), else with FATAL_RST (R89). -/
def Hw.fatalAct (h : Hw) (r : Report) : Hw :=
  if r.cls == eCLOCK || h.is R.SYS_RST_CFG_FATAL_RST then h.fatalReset else h

/-- ERROR_REPORT: the collector takes the next report of the block queues; with none there it logs what it still holds
(R1183). A collector held in reset takes none. -/
def Hw.errorReport (h : Hw) : Hw :=
  if h.busDown then h
  else
    match nextReport h.err with
    | none => h.drainLog
    | some r =>
      let h := h.takeReport r
      if r.fatal then (h.collectFatal r).fatalAct r else h.collectNonFatal r

/-- A write of `v` to ERR_FATAL: flags clear, and lasting conditions of a cleared class are reported again (R1175, R1184,
R1241). -/
def Hw.errFatalClear (h : Hw) (v : Nat) : Hw :=
  let h := h.wr R.ERR_FATAL (h.rd R.ERR_FATAL &&& (2 ^ 32 - 1 - v % 2 ^ 32))
  h.repeatLasting (v % 2 ^ 15)

/-- Ring slots that LOG_READ copies, wrapping after 4,095 (R1170). -/
def logSlots (first n : Nat) : List Nat := (List.range n).map (fun i => (first + i) % 4096)

/-- LOG_READ's first bad parameter (R411, R1170). -/
def logPar (c : InFlight) : Option Nat :=
  if 4095 < c.par 0 2 then some 0 else if c.par 2 2 = 0 ∨ 4096 < c.par 2 2 then some 2 else none

/-- LOG_READ (R1170, R1182). -/
def Hw.logRead (h : Hw) (m k : Nat) : Hw :=
  h.onCmd m k 0x0F00 (fun c =>
    let first := c.par 0 2
    let n := c.par 2 2
    if let some d := logPar c then h.badParam m k d
    else if !h.hostOutReady m k (32 * n) then h
    else
      let slots := logSlots first n
      let bs := (slots.map (fun s => Mem.bytes h.mem.kitty (logBase + 32 * s) 32)).flatten
      let bad := slots.any (fun s => poisonIn 32 h.mem.kittyP (logBase + 32 * s) 32)
      let res := (first + n) % 4096 + 2 ^ 32 * h.get R.ERR_LOG_WIDX_WIDX
      let h := h.hostOut m k bs
      if bad then h.complete m k stMEM_ERROR 2 res else h.ok m k res)

/-- SELF_TEST: which blocks of MASK fail is not given by any chapter, so the mask of failing blocks is an open value
within MASK (R411). -/
def Hw.selfTest (h : Hw) (m k : Nat) : Hw :=
  h.onCmd m k 0x0F01 (fun c =>
    let r := h.takeFree 32
    r.2.ok m k (r.1 &&& c.par 0 4))

end Sys2Proof.Machine
end

