-- ==== Sys2Proof/Machine/Clocks.lean ====
section
/-!
DEFINITION. Clock monitors, PLLs and the consequences of their losses (chapter 2: R62-R80, R137-R140, R1242).
-/
namespace Sys2Proof.Machine

open Sys2Proof

/-! ### The always-on time counter (R77, R84, R139, R140) -/

/-- The counter runs on XTAL32 (R84). -/
def Hw.aotOnXtal (h : Hw) : Bool := !(h.is R.SYS_CLK_CFG_AOT_SRC) && NSet.has h.clk.good 4

/-- PWR_AOT_CNT. -/
def Hw.aotCnt (h : Hw) : Nat := h.rd64 R.PWR_AOT_CNT_LO R.PWR_AOT_CNT_HI

/-- The counter moves on by `n` ticks, modulo 2^48 (R139). -/
def Hw.aotAdd (h : Hw) (n : Nat) : Hw := h.wr64 R.PWR_AOT_CNT_LO R.PWR_AOT_CNT_HI ((h.aotCnt + n) % 2 ^ 48)

/-- `n` AOCLK cycles pass: through the divider of 732 + 27/64 they are 64 n / 46,875 ticks (R140). -/
def Hw.aotCycles (h : Hw) (n : Nat) : Hw :=
  if h.aotOnXtal then h
  else
    let x := h.clk.aotFrac + 64 * n
    ({ h with clk := { h.clk with aotFrac := x % 46875 } } : Hw).aotAdd (x / 46875)

/-! ### Consequences of a loss (R70) -/

/-- The DisplayPort link goes down and the source is OFF until DPY_MODE (R70, R1001). -/
def Hw.dpyOff (h : Hw) : Hw :=
  let on := h.get R.DPY_STAT_STATE == dACTIVE
  let h := h.dpySet dOFF 0 (h.get R.DPY_STAT_RATE)
  if on then h.dpyChange false else h

/-- REFCLK, or lock of the system, network or memory PLL, is lost: a lasting fatal CLOCK error, ERR_N from the always-on
domain, and a pending system reset that keeps no HBM contents. -/
def Hw.refLoss (h : Hw) (code : Nat) : Hw :=
  let h := h.lastingOn eCLOCK code nodeREG
  let h := { h with rst := { h.rst with aonErr := true } }
  h.resetReq .system rcFATAL true true

/-- ETH_REFCLK, or the Ethernet PLL, is lost. -/
def Hw.ethLoss (h : Hw) : Hw := (((h.errAt eCLOCK 4 nodeREG).ethDown 0).ethDown 1).fenceSet 645 .clock true

/-- LNK_REFCLK, or the link PLL, is lost: the four links go down and their gateways are fenced. -/
def Hw.lnkLoss (h : Hw) : Hw :=
  let h := (h.errAt eCLOCK 5 nodeREG).fenceAll [650, 651, 652, 653] .clock true
  (List.range 4).foldl (fun (h : Hw) k => h.linkLost k) h

/-- SNS_MCLK is lost: node 642 is fenced, so that sensor clocks and captures stand still. -/
def Hw.snsLoss (h : Hw) : Hw := (h.errAt eCLOCK 6 nodeREG).fenceSet 642 .clock true

/-- The LOST event of input `i`: its flag, and its row of R70. -/
def Hw.lost (h : Hw) (i : Nat) : Hw :=
  let h := h.raise R.SYS_CLK_LOSS_LOST i
  match i with
  | 0 =>
    let h := { h with clk := { h.clk with locked := h.clk.locked.filter (fun p => p == 4 || p == 5) } }
    h.refLoss 1
  | 1 => h.ethLoss
  | 2 => h.lnkLoss
  | 3 => h.snsLoss
  | _ => h

/-! ### Monitors (R67, R68) -/

/-- The count of a window of input `i` is accepted (R67). -/
def countOk (i n : Nat) : Bool :=
  match i with
  | 0 => decide (950 ≤ n ∧ n ≤ 1050)
  | 3 => decide (233 ≤ n ∧ n ≤ 259)
  | _ => decide (1484 ≤ n ∧ n ≤ 1641)

/-- Nodes whose refusals one window of input `i` counts together (R71): those the input's loss fences, and with REFCLK every
other. XTAL32's check has no windows of its own (R68). -/
def clkNode (i n : Nat) : Bool :=
  match i with
  | 1 => n == 645
  | 2 => decide (650 ≤ n ∧ n ≤ 653)
  | 3 => n == 642
  | 0 => n != 645 && n != 642 && !decide (650 ≤ n ∧ n ≤ 653)
  | _ => false

/-- A window of input `i` ends within limits, or outside them (R68). In LISTEN and DEEP the references run no block, so
no window there is an event. -/
def Hw.window (h : Hw) (i : Nat) (ok : Bool) : Hw :=
  let h := { h with clk := { h.clk with good := NSet.put h.clk.good i ok, logged := h.clk.logged.filter (fun n => !clkNode i n) } }
  let h := if i = 0 then { h with clk := { h.clk with refGood := if ok then h.clk.refGood + 1 else 0 } } else h
  let h := if i = 4 then h.putB R.SYS_CLK_STAT_XTAL32_OK ok else h
  if ok || (h.asleep && i != 4) then
    let h := { h with clk := { h.clk with run := NMap.set h.clk.run i 0 } }
    if i = 0 ∧ ok then h.lastingOff eCLOCK 1 else h
  else
    let n := NMap.get h.clk.run i + 1
    let h := { h with clk := { h.clk with run := NMap.set h.clk.run i (min n 2) } }
    if NMap.get h.clk.run i = 2 ∧ n = 2 then h.lost i
    else if n = 1 then h.raise R.SYS_CLK_LOSS_MARG i
    else h

/-- MONITOR_WINDOW: 240 AOCLK cycles of input `i` (0 to 3) end with `n` edges. SNS_MCLK counts only while it is the
source (R67, R73). -/
def Hw.monitorWindow (h : Hw) (i n : Nat) : Hw :=
  if 4 ≤ i ∨ h.rst.por then h
  else
    let h := if i = 0 then h.aotCycles 240 else h
    h.window i (countOk i n || (i == 3 && h.is R.SYS_CLK_CFG_SNS_SRC))

/-- XTAL32_WINDOW: 3,072 AOCLK cycles without a rising edge (R67). In LISTEN and DEEP they also move a counter that runs
on AOCLK. -/
def Hw.xtalWindow (h : Hw) : Hw :=
  if h.rst.por then h
  else
    let h := h.window 4 false
    if h.asleep then h.aotCycles 3072 else h

/-- XTAL32_RISING_EDGE: it ends a run, and is a tick of a counter that runs on XTAL32 (R68, R139). -/
def Hw.xtalEdge (h : Hw) : Hw :=
  if h.rst.por then h
  else
    let h := if h.aotOnXtal then h.aotAdd 1 else h
    h.window 4 true

/-! ### PLLs (R69, R70) -/

/-- The reference whose limits rule a PLL's loss (R69, R70); 8 for none. -/
def refOfPll (p : Nat) : Nat := if p ≤ 3 then 0 else if p = 4 then 1 else if p = 5 then 2 else 8

/-- A reference is within limits: no run of windows outside them goes on (R68, R69). -/
def Hw.refIn (h : Hw) (i : Nat) : Bool := NMap.get h.clk.run i == 0

/-- PLL_LOCK_LOSS of PLL `p` (0 system, 1 network, 2 memory, 3 PCIe, 4 Ethernet, 5 link, 6 audio, 7 display, 8 + u user,
16 + q partition clock generator). A loss of PLLs 0 to 5 that the reference's own run explains has no row. -/
def Hw.pllLoss (h : Hw) (p : Nat) : Hw :=
  if h.rst.por || h.asleep || !(NSet.has h.clk.locked p) then h
  else
    let h := { h with clk := { h.clk with locked := NSet.del h.clk.locked p } }
    if (decide (p ≤ 5)) && !(h.refIn (refOfPll p)) then h
    else
      let via (h : Hw) : Hw := { h with clk := { h.clk with lostPll := NSet.add h.clk.lostPll p } }
      if p ≤ 2 then ((via h).raise R.SYS_CLK_LOSS_LOST 0).refLoss 2
      else if p = 3 then ((h.errAt eCLOCK 9 nodeREG).pcieDown.loadLost).fenceSet 646 .pll true
      else if p = 4 then ((via h).raise R.SYS_CLK_LOSS_LOST 1).ethLoss
      else if p = 5 then ((via h).raise R.SYS_CLK_LOSS_LOST 2).lnkLoss
      else if p = 6 then
        if h.is R.SYS_CLK_CFG_SNS_SRC then (h.errAt eCLOCK 9 nodeREG).fenceSet 642 .pll true else h
      else if p = 7 then ((h.errAt eCLOCK 9 nodeREG).dpyOff).fenceSet 649 .pll true
      else if p < 16 then (h.errAt eCLOCK 7 nodeREG).userPllLost (p - 8)
      else if p < 32 then ((h.errAt eCLOCK 3 nodeREG).partFault (p - 16) 3 0).fenceAll (tilesOf (p - 16)) .pll true
      else h

/-- PLL_LOCK_HELD: a PLL has held lock for 10 µs; the fence of its own loss goes (R70), and what waits for its lock goes
on (R73, R1241). -/
def Hw.pllHeld (h : Hw) (p : Nat) : Hw :=
  if h.rst.por || h.asleep || decide (16 ≤ p) then h
  else
    let h := { h with clk := { h.clk with locked := NSet.add h.clk.locked p, lostPll := NSet.del h.clk.lostPll p } }
    let h := if p ≤ 2 ∧ [0, 1, 2].all (fun q => NSet.has h.clk.locked q) then h.lastingOff eCLOCK 2 else h
    if p = 3 then h.fenceSet 646 .pll false
    else if p = 6 then h.fenceSet 642 .pll false
    else if p = 7 then h.fenceSet 649 .pll false
    else h

/-! ### SYS_CLK_LOSS (R73) -/

/-- Fenced nodes of a reference (R70). -/
def lossNodes (i : Nat) : List Nat :=
  match i with
  | 1 => [645]
  | 2 => [650, 651, 652, 653]
  | 3 => [642]
  | _ => []

/-- LOST[i] may be cleared (R73). -/
def Hw.lossOver (h : Hw) (i : Nat) : Bool :=
  (NSet.has h.clk.good i || (i == 3 && h.is R.SYS_CLK_CFG_SNS_SRC)) && !(h.clk.lostPll.any (fun p => refOfPll p == i))

/-- CLOCK_LOSS_CLEAR: a write of `v` to SYS_CLK_LOSS. MARG and the OVF bits clear as written; LOST[i] clears, with its
fence, where the loss is over. -/
def Hw.clkLossClear (h : Hw) (v : Nat) : Hw :=
  let h := h.wr R.SYS_CLK_LOSS (h.rd R.SYS_CLK_LOSS &&& (2 ^ 32 - 1 - (v &&& 0x1F1F1F00)))
  (bitList 5 v).foldl (fun (h : Hw) i =>
    if h.lossOver i then (h.putBit R.SYS_CLK_LOSS_LOST i false).fenceAll (lossNodes i) .clock false else h) h

end Sys2Proof.Machine
end

