-- ==== Sys2Proof/Machine/Reset.lean ====
section
/-!
DEFINITION. The resets and what each clears (chapter 3: R86-R123, R148; R384, R728).
-/
namespace Sys2Proof.Machine

open Sys2Proof

/-! ### What a register survives (R148) -/

/-- What clears state: the reset levels, and the power-gating of LISTEN and DEEP. -/
inductive Clear where
  | por | system | core | listen | deep
deriving DecidableEq, Repr

/-- Does a register of this survival class keep its value? -/
def Surv.kept : Surv → Clear → Bool
  | .fuse, _ => true
  | .debug, .por => false
  | .debug, _ => true
  | .aon, .por => false
  | .aon, .system => false
  | .aon, _ => true
  | .keep, .core => true
  | .keep, .listen => true
  | .keep, _ => false
  | .vol, .core => true
  | .vol, _ => false
  | .core, _ => false

/-- Sensor settings that DEEP keeps: those of channels 0 to 3 (R148): their enables, group 0, their gains, their delays and
weights in each beam, their capture settings; and the filters, which all channels share (DEDUCED, assumption 26). The wake
detector's are in the always-on domain. -/
def deepSensor (a : Nat) : Bool :=
  a == 0x40060000 || a == 0x40060008 || a == 0x40060010 || a == 0x40060020 ||
    decide (0x40060080 ≤ a ∧ a < 0x40060140) || decide (0x40060300 ≤ a ∧ a < 0x40060500) ||
    decide (0x40060800 ≤ a ∧ a < 0x40060820) ||
    decide (0x40061000 ≤ a ∧ a < 0x40061800 ∧ a % 0x100 < 0x20) ||
    decide (0x40062000 ≤ a ∧ a < 0x40062080 ∧ a % 0x20 < 0x14)

/-- State of a frozen pseudo-channel, which only a system reset or POR clears (R780), and MEM_STAT of a stack in
self-refresh. -/
def frozenReg (a : Nat) : Bool :=
  decide (a = R.MEM_FROZEN 0 ∨ a = R.MEM_FROZEN 1 ∨ a = R.MEM_STAT 0 ∨ a = R.MEM_STAT 1) ||
    (decide (0x40040000 ≤ a ∧ a < 0x40060000) && decide (0x3000 ≤ a % 0x10000))

/-- Does the register at `a` keep its value? THM_RAIL shows the rails whatever is reset. -/
def keptReg (c : Clear) (a : Nat) : Bool :=
  match regDef? a with
  | none => false
  | some d =>
    d.surv.kept c || (a == R.THM_RAIL && c != .por) ||
      (match c with
       | .listen => a == R.SYS_FW_STAT || frozenReg a
       | .deep => deepSensor a
       | _ => false)

/-- Does the pair whose low word has key `k` keep its latch and its held low word (R19, R20)? Those of the tiles' windows
(keys from 2^32) go with the tiles. DESIGN CHOICE (assumption 71): they live and die with their register, at every reset
level and in every sleep state. -/
def keptPair (c : Clear) (k : Nat) : Bool := decide (k < 2 ^ 32) && keptReg c k

/-- Registers that do not survive take their reset values, and with them go the latches and held low words of their pairs.
DEEP keeps the enables and beam masks of channels 0 to 3. -/
def Hw.clearRegs (h : Hw) (c : Clear) : Hw :=
  let h := { h with regs := h.regs.filter (fun e => keptReg c e.1), latch := h.latch.filter (fun e => keptPair c e.1),
                    lowHold := h.lowHold.filter (fun e => keptPair c e.1) }
  match c with
  | .deep => (R.SNS_CH_EN :: (List.range 8).map (fun u => 0x40060800 + 4 * u)).foldl (fun (h : Hw) a =>
      h.wr a (h.rd a % 16)) h
  | _ => h

/-! ### System reset and POR (R86, R103, R108-R113) -/

/-- What HBM holds after a reset (R108-R113): with self-refresh the queued writes complete and the contents stay, else they
are lost. A stack that never trained has nothing to complete. -/
def Hw.keepHbm (h : Hw) (keep : Bool) : Hw :=
  if keep then
    (List.range 2).foldl (fun (h : Hw) s => if h.is (R.MEM_STAT_TRAINED s) then (h.drainWrites s).selfRefresh s else h) h
  else { h with mem := { h.mem with hbm := [], hbmP := [] } }

/-- Blocks other than the always-on domain, as a system reset leaves them (R86). -/
def Hw.blocksReset (h : Hw) : Hw :=
  { h with
    mbx := MbxState.reset, pcie := PcieState.reset h.pcie.perst, noc := NocState.reset,
    mem := { h.mem with kitty := [], dsram := [], kittyP := [], dsramP := [] },
    hbm := HbmState.reset h.hbm.hard, tiles := [], part := [],
    sns := SnsState.reset, sig := [], gfx := GfxState.reset, dpy := DpyState.reset, net := NetState.reset,
    tbl := { TblState.reset with mapLost := true },
    fw := { MramState.reset with bad := h.fw.bad }, cfg := CfgEng.reset, fab := FabState.reset }

/-- The collector is reset; lasting fatal conditions are reported again after its release (R1241). -/
def Hw.errReset (h : Hw) : Hw :=
  let l := h.err.lasting
  ({ h with err := { ErrState.reset with lasting := l } } : Hw).repeatLasting (2 ^ 16 - 1)

/-- Straps sampled at release (R12, R184, R207): the seat number and the boot source. -/
def Hw.straps (h : Hw) (seat boot : Nat) : Hw :=
  (h.put R.TBL_STAT_SEAT (h.strapSeen seat 3 .seatId)).put R.CFG_STAT_SOURCE (h.strapSeen boot 2 .bootSrc)

/-- Training of the stacks starts: with self-refresh exit where contents are kept (R103 step 6, R112). -/
def Hw.trainBoth (h : Hw) (kept : Bool) : Hw :=
  let s := if kept then 3 else 1
  let h := { h with hbm := { h.hbm with kept := if kept then [0, 1] else [] } }
  (h.trainStart 0 s).trainStart 1 s

/-- The TAP as a system reset finds it: a load's internal master lets go (R174). -/
def Hw.tapFreed (h : Hw) : Hw := h.tapRelease

/-- A system reset was requested by a fatal error that the collector holds or has taken (R88, R89, R1181). -/
def Hw.fatalReq (h : Hw) : Bool := h.err.rstPend || h.err.blkQ.any (fun r => r.fatal && r.cls == eCLOCK)

/-- FATAL_CODE takes the class and code of the first fatal report (R1162). -/
def Hw.fatalCode (h : Hw) : Hw :=
  if !h.fatalReq then h
  else if h.is R.ERR_FATAL_CLASS then h.put R.SYS_RST_CAUSE_FATAL_CODE (h.get R.ERR_FATAL_CODE_CODE)
  else
    match nextReport h.err with
    | some r => h.put R.SYS_RST_CAUSE_FATAL_CODE (r.cls * 256 + r.code)
    | none => h

/-- The reset sequence of the system level, steps 1 to 8 (R103). The clock monitors restart with no window judged
(R1242). `keep`: MEM_KEEP applies. -/
def Hw.systemSeq (h : Hw) (keep : Bool) (seat boot : Nat) : Hw :=
  let h := (h.fatalCode.keepHbm keep).tapFreed
  let h := h.clearRegs .system
  let c := h.clk
  let clk : ClkState := { ClkState.reset with
    locked := (c.locked.filter (fun p => p < 8)).foldl NSet.add ClkState.reset.locked, now := c.now }
  let rst : RstState := { RstState.reset with pins := h.rst.pins, dealerRun := !(h.is R.DBG_CTL_HALT) }
  let win := h.pwr'.winLevel
  let h := { h with clk := clk, rst := rst, pwr' := PwrState.reset win }
  let h := h.blocksReset.errReset.showPend
  let h := (h.putB R.SYS_RST_STAT_MEM_KEPT keep).straps seat boot
  (h.trainBoth keep).tapSettle

/-- The reset in progress may run: nothing is waited for and no reset pin holds its level or a lower one (R94-R96, R101,
R117). -/
def Hw.pendReady (h : Hw) : Bool :=
  match h.rst.pend with
  | some q => !(q.noclk || q.nv != 0 || q.wake) && !h.rst.por && h.rst.pins.isEmpty
  | none => false

/-- SYSTEM_RESET: the release sequence of a system reset or of a POR (R103). -/
def Hw.systemReset (h : Hw) (seat boot : Nat) : Hw :=
  match h.rst.pend with
  | some q =>
    if h.pendReady && q.level != .core then
      h.systemSeq (q.level == .system && h.is R.SYS_RST_CFG_MEM_KEEP && !q.noKeep) seat boot
    else h
  | none => h

/-- POR asserts: every volatile element is cleared; `c` is its cause (R86, R153). A pulse it cuts leaves its word open
(R121). -/
def Hw.porAssert (h : Hw) (c : Nat) : Hw :=
  let h := h.clearRegs .por
  let h := { h with
    clk := { ClkState.reset with locked := [], now := h.clk.now }, err := ErrState.reset,
    rst := { h.rst with pend := none, por := true, wdt := 0, wdtRun := false, dealerRun := false, aonErr := false },
    pwr' := PwrState.reset h.pwr'.winLevel, tap := TapState.reset,
    mem := { h.mem with hbm := [], hbmP := [] } }
  h.blocksReset.cause c

/-- POR is released: eFuses are loaded (`State.porLoad`), and the release sequence follows once REFCLK has been within limits
for two windows and SYSCLK runs (R94, R102). -/
def Hw.porRelease (h : Hw) : Hw :=
  if h.rst.por && !h.rst.det && !(NSet.has h.rst.pins 0) then
    let p : PendRst := { level := .por, noclk := true, nv := 0, wake := false, noKeep := true }
    { h with rst := { h.rst with por := false, pend := some p } }
  else h

/-- While a released POR waits for SYSCLK, the always-on domain has loaded the fuses (R38, R102). -/
def State.porLoad (s : State) : State :=
  if s.hw.rst.pend.any (fun q => q.level == .por && q.noclk && q.nv == 0) then
    let i := s.hw.ident
    { s with hw := { s.hw with ident := { i with sec := BitVec.ofNat 32 (fuseRd s.fuse 52) } } }
  else s

/-- POR_DETECT: the detector finds VDD_AO low; a running MRAM or eFuse pulse is cut off (R102, R121). -/
def Hw.porDetect (h : Hw) : Hw :=
  let h := h.mramCut
  ({ h with rst := { h.rst with det := true } } : Hw).porAssert rcPOR_DET

/-- POR_RELEASE: 1 ms after VDD_AO has risen above the release threshold (R102). -/
def Hw.porReleaseRow (h : Hw) : Hw := ({ h with rst := { h.rst with det := false } } : Hw).porRelease

/-! ### Reset pins (R98-R101, R120) -/

/-- POR_N: at once, or delayed behind a non-volatile pulse (R120). -/
def Hw.porPin (h : Hw) : Hw :=
  if h.rst.por then h.cause rcPOR_PIN
  else if h.nvRuns != 0 then
    let p : PendRst := { level := .por, noclk := false, nv := h.nvRuns, wake := false, noKeep := true }
    (h.cause rcPOR_PIN).setPend (some p)
  else h.porAssert rcPOR_PIN

/-- RESET_PIN_ASSERT: pin 0 POR_N, 1 SYS_RST_N, 2 CORE_RST_N has been low for 8 AOCLK cycles (R98). -/
def Hw.pinAssert (h : Hw) (p : Nat) : Hw :=
  if 3 ≤ p ∨ NSet.has h.rst.pins p then h
  else
    let h := if p = 0 then h.porPin
      else if p = 1 then h.resetReq .system rcSYS_PIN false false
      else h.resetReq .core rcCORE_PIN false false
    { h with rst := { h.rst with pins := NSet.add h.rst.pins p } }

/-- RESET_PIN_GLITCH: a low pulse ended before it was accepted (R100). -/
def Hw.pinGlitch (h : Hw) (p : Nat) : Hw :=
  match p with
  | 0 => h.bump R.SYS_RST_GLITCH_POR
  | 1 => h.bump R.SYS_RST_GLITCH_SYS
  | 2 => h.bump R.SYS_RST_GLITCH_CORE
  | _ => h

/-- RESET_PIN_RELEASE: the pin has been high for 8 AOCLK cycles (R101). -/
def Hw.pinRelease (h : Hw) (p : Nat) : Hw :=
  let h := { h with rst := { h.rst with pins := NSet.del h.rst.pins p } }
  if p = 0 then h.porRelease else h

/-! ### What a pending reset waits for (R94, R117-R120) -/

/-- RESET_PEND_NOCLK_START: REFCLK has been within limits for two windows and the system PLL has locked (R94). The PLLs
that hang on REFCLK lock with it. -/
def Hw.noclkStart (h : Hw) : Hw :=
  match h.rst.pend with
  | some q =>
    if q.noclk ∧ 2 ≤ h.clk.refGood then
      let l := [0, 1, 2].foldl NSet.add h.clk.locked
      let h := { h with clk := { h.clk with locked := l, lostPll := h.clk.lostPll.filter (fun p => decide (2 < p)) } }
      (h.setPend (some { q with noclk := false })).lastingOff eCLOCK 2
    else h
  | none => h

/-- RESET_NV_DELAY_END: the non-volatile pulses that delayed the reset have ended, and each delay is counted (R117-R120).
A delayed POR whose pin has gone high meanwhile is released at once. -/
def Hw.nvDelayEnd (h : Hw) : Hw :=
  match h.rst.pend with
  | some q =>
    if q.nv ≠ 0 ∧ h.nvRuns = 0 then
      let h := if bit q.nv 0 then h.bump R.SYS_RST_NVDELAY_MRAM else h
      let h := if bit q.nv 1 then h.bump R.SYS_RST_NVDELAY_FUSE else h
      if q.level == .por then (h.porAssert rcPOR_PIN).porRelease
      else h.setPend (some { q with nv := 0 })
    else h
  | none => h

/-! ### Watchdog and SYS_RST_REQ (R90-R93, R158-R160) -/

/-- The watchdog counts: enabled, the Dealer not stopped for a sleep, and not paused by a debug halt (R90-R92). -/
def Hw.wdtCounts (h : Hw) : Bool :=
  h.rst.wdtRun && h.is R.SYS_WDT_CTL_EN && !(h.is R.DBG_CTL_HALT && h.is R.SYS_WDT_CTL_DBG_PAUSE) && !h.rst.por

/-- WDT_TIMEOUT: `ms` milliseconds pass without a kick; at TIMEOUT the watchdog requests a system reset (R90). -/
def Hw.wdtTimeout (h : Hw) (ms : Nat) : Hw :=
  if !h.wdtCounts then h
  else
    let n := h.rst.wdt + ms
    if h.get R.SYS_WDT_CTL_TIMEOUT ≤ n then
      ({ h with rst := { h.rst with wdt := 0 } } : Hw).resetReq .system rcWDT false false
    else { h with rst := { h.rst with wdt := n } }

/-- SYS_WDT_KICK with value `v` (R160). -/
def Hw.wdtKick (h : Hw) (v : Nat) : Hw :=
  if v = 0x5EED then { h with rst := { h.rst with wdt := 0 } } else h

/-- A write of SYS_RST_REQ (R158). -/
def Hw.rstReqWrite (h : Hw) (v : Nat) : Hw :=
  if bits v 15 8 ≠ 0x5A then h
  else
    match v % 4 with
    | 1 => h.resetReq .core rcCORE_CMD false false
    | 2 => h.resetReq .system rcSYS_CMD false false
    | _ => h

/-! ### Core reset (R86, R87, R104-R107, R384, R728) -/

/-- Endpoints outside the scope of a core reset (R87, R728). -/
def coreOutside (n : Nat) : Bool :=
  n == 642 || n == 643 || decide (645 ≤ n ∧ n ≤ 653)

/-- Step 3 in the network: routers empty, requests of endpoints outside the scope close with STATUS ERROR, folds are
abandoned and every tile is fenced (R728, R106). -/
def Hw.coreNoc (h : Hw) : Hw :=
  let live := h.noc.outst.filter (fun o => coreOutside o.node && o.closed == .live)
  let outst := (h.noc.outst.filter (fun o => coreOutside o.node)).map (fun (o : Outst) => if o.closed == .live then { o with closed := .byTimeout } else o)
  let inbox := h.noc.inbox.filter (fun a => coreOutside a.node) ++ live.map (fun o => ⟨o.node, o.tag, 1, [], []⟩)
  let noc := h.noc
  let h := { h with noc := { noc with pkts := [], outst := outst, inbox := inbox, accepted := [],
                                      irq := noc.irq.filter (fun e => coreOutside e.1), folds := [], gated := [] } }
  let h := (List.range 64).foldl (fun (h : Hw) i => h.fenceSet (576 + i) .fold false) h
  { h with noc := { h.noc with fence := h.noc.fence.filter (fun e => decide (512 ≤ e.1)) } }

/-- A partition is OFF after a core reset (R106): its clock stopped and its tiles lost; a running FLR ends. -/
def Hw.coreOff (h : Hw) (p : Nat) : Hw :=
  let h := if (h.pt p).flr.isSome then h.putBit R.PCIE_FLR_STAT_FLR p false else h
  ((h.clkStop p).setPstate p pOFF).setFoldStat p fFOLDED

/-- Nothing waits any longer for a command that the reset ends. -/
def Hw.coreWaits (h : Hw) : Hw :=
  let net := h.net
  let h := { h with
    net := { net with qWait := [], ruleWait := none, ports := net.ports.map (fun (e : Nat × NetPort) => (e.1, { e.2 with change := none })) },
    tbl := { h.tbl with sleepCmd := none }, pwr' := { h.pwr' with cmd := none },
    sig := h.sig.map (fun (e : Nat × SigCore) => (e.1, { e.2 with stops := [] })),
    fab := { h.fab with ureg := h.fab.ureg.filter (fun w => match w.who with
      | .dealer _ _ => false
      | _ => true) } }
  if h.cfg.cmd.isSome then (h.onCfg (fun (e : CfgEng) => { e with cmd := none })).attemptFail 0x12 else h

/-- Commands in flight complete ABORTED, detail 1, in take order, after step 5 (R384, R394). -/
def Hw.coreAbort (h : Hw) : Hw :=
  h.mbx.infl.foldl (fun (h : Hw) f => h.complete f.mb f.hd stABORTED 1 0) h

/-- The sequence of a core reset (R104-R107). `volts`: the banks as the local staged release senses them (R335). -/
def Hw.coreSeq (h : Hw) (volts : Nat) : Hw :=
  let h := (h.clearRegs .core).putB R.MBX_GCTL_READY false
  let h := (List.range 16).foldl (fun (h : Hw) p => h.coreOff p) h.coreNoc
  let fw := h.fw
  let h := { h with
    tiles := [], part := [], gfx := GfxState.reset, mem := { h.mem with dsram := [], dsramP := [] },
    fw := { fw with boot := true, cmd := none, shut := fw.shut || fw.cmd.isSome, q := fw.q.take 2 },
    rst := { h.rst with dealerRun := !(h.is R.DBG_CTL_HALT) } }
  let h := (h.mramFinish.coreWaits.coreAbort).gfxShow
  let h := ((h.parkPorts false).localRelease volts).pwrRest pwrRUN
  h.setPend none

/-- CORE_RESET: the sequence of a core reset requested and not held by its pin. -/
def Hw.coreReset (h : Hw) (volts : Nat) : Hw :=
  match h.rst.pend with
  | some q => if h.pendReady && q.level == .core then h.coreSeq volts else h
  | none => h

end Sys2Proof.Machine
end

