-- ==== Sys2Proof/Machine/Power.lean ====
section
/-!
DEFINITION. Power states: entry, wake sources and exit (chapter 3: R124-R152; R1129, R1130, R1132, R1203).
-/
namespace Sys2Proof.Machine

open Sys2Proof

/-! ### Entry (R124-R134, R149) -/

/-- A partition is open or still folding. -/
def Hw.anyOpen (h : Hw) : Bool := (List.range 16).any (fun p => h.popen p || h.foldStat p == fFOLDING)

/-- Transitions that are permitted (R129, R130). -/
def Hw.pwrAllowed (h : Hw) (t : Nat) : Bool :=
  let sleep := decide (3 ≤ t)
  let ok := !sleep || decide (h.presentList.length < 2) || h.is R.TBL_STAT_SLEEP_OK
  if h.pwr = pwrRUN then decide (1 ≤ t ∧ t ≤ 4) && ok
  else if h.pwr = pwrIDLE then t == pwrRUN
  else if h.pwr = pwrPARK then (t == pwrRUN || t == pwrLISTEN || t == pwrDEEP) && ok
  else false

/-- The sensor front end keeps its wake configuration and floors alone. -/
def Hw.snsSleep (h : Hw) : Hw := { h with sns := { SnsState.reset with wake := h.sns.wake } }

/-- Table time and the always-on counter are copied (R142). -/
def Hw.snapTime (h : Hw) : Hw :=
  (h.wr64 R.PWR_TT_SNAP_LO R.PWR_TT_SNAP_HI h.clk.tt).wr64 R.PWR_AOT_SNAP_LO R.PWR_AOT_SNAP_HI h.aotCnt

/-- The Dealer halts: its watchdog stops at 0 (R92); every PLL stops. -/
def Hw.haltDealer (h : Hw) : Hw :=
  { h with rst := { h.rst with wdt := 0, wdtRun := false, dealerRun := false },
           clk := { h.clk with locked := [], lostPll := [], logged := [], heldSteps := [] } }

/-- A port's ring settings stay; its frames under way are gone. -/
def NetPort.idle (p : NetPort) : NetPort := { p with rx := [], tx := none, pauseTo := 0, change := none }

/-- Step 6 of the entry to LISTEN: retained memories and configuration stay, every other domain is gated (R131, R148). -/
def Hw.gateListen (h : Hw) : Hw :=
  let up := h.is R.PCIE_STAT_DL_UP
  let h := h.linksOff.clearRegs .listen
  let h := (List.range 40).foldl (fun (h : Hw) s => h.capDisarm s) h
  let lasting := h.err.lasting
  let pc := h.hbm.pc.filter (fun e => h.frozen e.1)
  let h := { h with
    err := { ErrState.reset with lasting := lasting }, mbx := MbxState.reset,
    pcie := { h.pcie with engines := [], cpl := [], posted := [] }, noc := NocState.reset,
    mem := { h.mem with kitty := [], kittyP := [] }, hbm := { h.hbm with pc := pc, reqs := [], pdown := [] },
    tiles := [], part := [], sig := [], gfx := GfxState.reset, dpy := DpyState.reset,
    net := { h.net with ports := h.net.ports.map (fun (e : Nat × NetPort) => (e.1, e.2.idle)), qWait := [], ruleWait := none },
    tbl := { h.tbl with sleepCmd := none }, fw := { h.fw with cmd := none }, cfg := { h.cfg with cmd := none },
    fab := { h.fab with localRel := false, outEn := false, writeEn := false, userRun := false, ffInit := true, pool := [],
                        regs := FabRegs.reset, ureg := [], rx := [] } }
  ((h.snsSleep.linkStat0).putB R.PCIE_STAT_L2 up).pwrRest pwrLISTEN

/-- Entry to DEEP: every domain but the always-on domain is off (R135, R148). -/
def Hw.gateDeep (h : Hw) : Hw :=
  let w := h.sns.wake
  let lasting := h.err.lasting
  let h := h.clearRegs .deep
  let h := { h with err := { ErrState.reset with lasting := lasting }, mem := { h.mem with hbm := [], hbmP := [] } }
  let h := h.blocksReset
  let h := { h with sns := { h.sns with wake := w } }
  ((h.tapFreed).pwrRest pwrDEEP).wakeOutShow

/-- The entry is complete: LISTEN or DEEP (R131 steps 5 and 6, R142). The wake detector starts. -/
def Hw.sleepNow (h : Hw) : Hw :=
  let t := h.get R.PWR_STATE_TARGET
  let h := h.snapTime.haltDealer.wakeStart
  if t = pwrLISTEN then h.gateListen else h.gateDeep

/-- Steps 2 to 4 of the entry once every partition has folded: clocks, links and stacks (R131). A POWER command
completes here (R406). DESIGN CHOICE (assumption 72): the rule puts the stacks into self-refresh and does not say what a
stack does that is not in RUN; one in TRAINING, REPAIR_HOLD, FAILED or OFF stays in its state, and the exit does not
retrain it. -/
def Hw.sleepWait (h : Hw) : Hw :=
  let h := (((h.parkPorts true).ethDown 0).ethDown 1).dpyOff
  let h := (List.range 2).foldl (fun (h : Hw) s => if h.memState s == msRUN then (h.drainWrites s).selfRefresh s else h) h
  let h := { h with pwr' := { h.pwr' with phase := .entryWait } }
  let h := match h.pwr'.cmd with
    | some (m, k) => ({ h with pwr' := { h.pwr' with cmd := none } } : Hw).ok m k (h.rd R.PWR_STATE)
    | none => h
  if h.linkUp then h else h.sleepNow

/-- An entry goes on when its last partition has folded and no FLR runs (R127, R131 step 2). -/
def Hw.pwrSettle (h : Hw) : Hw :=
  if h.pwr'.phase != .folding || h.anyOpen || h.is R.PCIE_FLR_STAT_FLR then h
  else if h.get R.PWR_STATE_TARGET = pwrPARK then (h.parkPorts true).pwrRest pwrPARK
  else h.sleepWait

/-- A transition that folds begins (R127, R131 step 1). -/
def Hw.pwrFold (h : Hw) (t : Nat) : Hw :=
  let h := (h.put R.PWR_STATE_TARGET t).putB R.PWR_STATE_BUSY true
  let h := { h with pwr' := { h.pwr' with phase := .folding, pme := false, latched := false } }
  let h := if 3 ≤ t then h.wakeActive.foldl (fun (h : Hw) n => h.wakeEvent (4 + n)) h else h
  ((List.range 16).foldl (fun (h : Hw) p => if h.popen p then h.foldRequest p false [] else h) h).pwrSettle

/-- A permitted transition starts (R124). -/
def Hw.pwrGo (h : Hw) (t : Nat) : Hw :=
  let h := h.put R.PWR_CTL_TARGET t
  if t = pwrRUN then (if h.pwr = pwrPARK then h.parkPorts false else h).pwrRest pwrRUN
  else if t = pwrIDLE then h.pwrRest pwrIDLE
  else h.pwrFold t

/-- A write of TARGET: reserved encodings are ignored (R16), a running transition holds it (R149), one not permitted is
refused (R129). -/
def Hw.pwrTarget (h : Hw) (t : Nat) : Hw :=
  if 4 < t then h
  else if h.is R.PWR_STATE_BUSY then { h with pwr' := { h.pwr' with held := some t } }
  else if h.pwrAllowed t then h.pwrGo t
  else h

/-- A write of `v` to PWR_CTL (R162). -/
def Hw.pwrCtl (h : Hw) (v : Nat) : Hw :=
  let h := if bits v 15 8 = 0 then h else h.put R.PWR_CTL_PCIE_TMO (bits v 15 8)
  h.pwrTarget (v % 8)

/-- PWR_HELD_TARGET_APPLY: the running transition has ended (R149). -/
def Hw.pwrHeldApply (h : Hw) : Hw :=
  match h.pwr'.held with
  | some t =>
    if h.is R.PWR_STATE_BUSY then h
    else ({ h with pwr' := { h.pwr' with held := none } } : Hw).pwrTarget t
  | none => h

/-- PME_TURN_OFF of the host; the link goes to L2/L3 Ready once the entry waits for it (R131 step 4). -/
def Hw.pmeTurnOff (h : Hw) : Hw := if h.linkUp then { h with pwr' := { h.pwr' with pme := true } } else h

/-- LISTEN_L2_READY: the link has reached L2/L3 Ready (R131 step 4). -/
def Hw.listenL2 (h : Hw) : Hw :=
  if h.pwr'.phase == .entryWait && h.pwr'.pme then h.sleepNow else h

/-- LISTEN_ABORT: PCIE_TMO milliseconds without PME_Turn_Off (R132). -/
def Hw.listenAbort (h : Hw) : Hw :=
  if h.pwr'.phase == .entryWait && !h.pwr'.pme then
    let h := (h.pwrUndo.pwrRest pwrRUN).putB R.PWR_WAKE_STAT_ABORT true
    { h with pwr' := { h.pwr' with latched := false } }
  else h

/-- LISTEN_DEEP_TIMEOUT: PWR_LD_TMO seconds in LISTEN; a wake in the same cycle wins (R152). -/
def Hw.listenDeep (h : Hw) : Hw :=
  if h.pwr = pwrLISTEN ∧ h.is R.PWR_LD_TMO_SECONDS ∧ h.pwr'.phase == .idle ∧ !h.pwr'.latched ∧ !h.pwr'.byReset then
    let run := h.get R.SNS_WAKE_STAT_RUN
    (h.linkStat0.gateDeep).put R.SNS_WAKE_STAT_RUN run
  else h

/-! ### Wake sources (R137-R141, R150, R151, R896) -/

/-- WAKE_IN_EDGE: pin `n` holds a new level after debounce. Its active edge triggers captures and signal cores, and is a
wake event where it is enabled. -/
def Hw.wakeIn (h : Hw) (n : Nat) (level : Bool) : Hw :=
  if 4 ≤ n ∨ (NSet.has h.pwr'.winLevel n) = level then h
  else
    let h := { h with pwr' := { h.pwr' with winLevel := NSet.put h.pwr'.winLevel n level } }
    if level != h.bitOf R.PWR_WAKE_CFG_WIN_POL n || h.rst.por then h
    else
      let h := if h.snsRuns then
          (List.range 40).foldl (fun (h : Hw) s => if h.get (R.SNS_CAP_CTL_TRIG s) = 4 + n then h.capTrig s else h) h
        else h
      let h := h.sigFire (64 + n) 0
      if h.bitOf R.PWR_WAKE_CFG_WIN_EN n then h.wakeEvent (4 + n) else h

/-- AOT_COMPARE_MATCH: the always-on counter reaches PWR_AOT_CMP. -/
def Hw.aotMatch (h : Hw) : Hw :=
  let c := h.rd64 R.PWR_AOT_CMP_LO R.PWR_AOT_CMP_HI
  let h := if h.aotCnt < c then h.wr64 R.PWR_AOT_CNT_LO R.PWR_AOT_CNT_HI c else h
  if h.is R.PWR_WAKE_CFG_AOT_EN then h.wakeEvent 1 else h

/-- PCIE_PERST_RISE: a wake event where it is enabled; PCIE_WAKE_N is released (R141). -/
def Hw.perstRise (h : Hw) : Hw :=
  let pcie := { h.pcie with perst := true }
  let h := { h with pcie := pcie }
  let h := if h.is R.PWR_WAKE_CFG_PCIE_EN then h.wakeEvent 2 else h
  { h with pwr' := { h.pwr' with pcieWake := false } }

/-- WAKE_FRAME: the wake detector ends a frame, and may declare wake (R894-R896). -/
def Hw.wakeFrameRow (h : Hw) (pdm : List Nat) : Hw :=
  let r := h.wakeFrame pdm
  if r.1 && r.2.is R.PWR_WAKE_CFG_AW_EN then r.2.wakeEvent 0 else r.2

/-! ### Exit (R143-R147, R1203) -/

/-- WAKE_EXIT, step 1: FROM, and WAKE_OUT high again with WO_MODE = 1 (R135, R144). The wake event itself has pulsed
WAKE_OUT and driven PCIE_WAKE_N (R136, R141). -/
def Hw.wakeExit (h : Hw) : Hw :=
  if !h.asleep || h.pwr'.phase != .idle || !(h.pwr'.latched || h.pwr'.byReset) then h
  else
    let wake := h.pwr'.latched
    let h := h.put R.PWR_WAKE_STAT_FROM h.pwr
    let h := if wake then h else h.putB R.PWR_WAKE_STAT_RST true
    let h := h.wakeStop
    let h := { h with pwr' := { h.pwr' with phase := .exit, latched := false, byReset := false } }
    ((h.putB R.PWR_STATE_BUSY true).put R.PWR_STATE_TARGET pwrRUN).wakeOutShow

/-- WAKE_OUT_PULSE_END: the pulse of 1 ms is over (R136). -/
def Hw.wakeOutEnd (h : Hw) : Hw :=
  if h.is R.PWR_WAKE_CFG_WO_MODE then h else { h with pwr' := { h.pwr' with wakeOut := false } }

/-- Table time after a sleep (R143): ticks of 488,281.25, to nearest, ties away from zero. -/
def Hw.resumeTime (h : Hw) : Hw :=
  let snap := h.rd64 R.PWR_AOT_SNAP_LO R.PWR_AOT_SNAP_HI
  let n := subMod 48 h.aotCnt snap
  let tt := (h.rd64 R.PWR_TT_SNAP_LO R.PWR_TT_SNAP_HI + (n * 1953125 + 2) / 4) % 2 ^ 64
  { h with clk := { h.clk with tt := tt, fwd := tt, locked := [0, 1, 2] } }

/-- The Dealer runs again, and its watchdog from 0 (R92). -/
def Hw.resumeDealer (h : Hw) : Hw :=
  { h with rst := { h.rst with wdt := 0, wdtRun := true, dealerRun := !(h.is R.DBG_CTL_HALT) } }

/-- A ring in Kitty is disabled (R1049). -/
def Hw.ringsOut (h : Hw) : Hw :=
  let k (a : Nat) : Bool := decide (gKitty 0 0 ≤ a % 2 ^ 45 ∧ a % 2 ^ 45 < gKitty 0 0 + 2 ^ 23)
  (List.range 2).foldl (fun (h : Hw) n =>
    let p := h.port n
    let h := (List.range 16).foldl (fun (h : Hw) q =>
      if k (NMap.get p.rxRing q) then h.put (R.NET_P_RX_ENTRIES_ENTRIES n q) 0 else h) h
    (List.range 8).foldl (fun (h : Hw) q =>
      if k (NMap.get p.txRing q) then h.put (R.NET_P_TX_ENTRIES_ENTRIES n q) 0 else h) h) h

/-- A pending reset no longer waits for the exit (R96). -/
def Hw.pendAwake (h : Hw) : Hw := h.setPend (h.rst.pend.map (fun (q : PendRst) => { q with wake := false }))

/-- Steps 3 to 6 of the exit from LISTEN (R144): time, the Dealer, the stacks' retraining and the local staged release
start. Step 7 follows once the last two have ended (`exitSettle`). `volts`: the banks' voltage check of the release
(R335). -/
def Hw.exitListen (h : Hw) (volts : Nat) : Hw :=
  let h := { h with pwr' := { h.pwr' with phase := .exitRun } }
  let h := h.resumeTime.resumeDealer.wakeStacks
  let h := ((h.parkPorts false).isoPorts.pllFences.localRelease volts)
  let h := (h.linkStat0.ringsOut).snsEnable 0 (h.rd R.SNS_CH_EN)
  let h := h.putB R.SYS_CLK_STAT_XTAL32_OK (NSet.has h.clk.good 4)
  (h.repeatLasting (2 ^ 16 - 1)).exitSettle

/-- Exit from DEEP: the switched domains start as after a system reset (R145, R146). -/
def Hw.exitDeep (h : Hw) (seat boot : Nat) : Hw :=
  let h := h.resumeTime.resumeDealer.cause rcDEEP_WAKE
  let h := h.straps seat boot
  let h := h.putB R.SYS_CLK_STAT_XTAL32_OK (NSet.has h.clk.good 4)
  let h := ((h.trainBoth false).snsEnable 0 (h.rd R.SNS_CH_EN)).pwrRest pwrRUN
  (h.repeatLasting (2 ^ 16 - 1)).wakeNote.tapSettle

/-- Every rail that WAKE_OUT switches is within tolerance: all but VDD_AO (R1203). -/
def Hw.railsGood (h : Hw) : Bool := h.get R.THM_RAIL_GOOD % 512 == 511

/-- WAKE_EXIT_CLOCKS_GOOD: REFCLK has been within limits for two windows (and from DEEP the rails are good); the exit
goes on. `ticks`: what the always-on counter has gained without a command of its own; `volts`: the banks' voltage check of
the local staged release (R335). -/
def Hw.wakeClocks (h : Hw) (ticks seat boot volts : Nat) : Hw :=
  if h.pwr'.phase != .exit || decide (h.clk.refGood < 2) then h
  else
    let h := h.aotAdd ticks
    if h.pwr = pwrLISTEN then (h.exitListen volts).pendAwake
    else if h.railsGood then (h.exitDeep seat boot).pendAwake
    else h

end Sys2Proof.Machine
end

