-- ==== Sys2Proof/Machine/MbxBlock.lean ====
section
/-!
DEFINITION. The mailbox block: doorbells, the arbiter and takes, the checks every command passes, completions the
Dealer posts, timeouts (chapter 7: R356-R364, R370, R375, R379, R381-R389, R397-R404).
-/
namespace Sys2Proof.Machine

open Sys2Proof

/-! ### Doorbells (R356, R357, R384) -/

/-- A doorbell write in IDLE returns the part to RUN (R124, R384). -/
def Hw.doorbellWakes (h : Hw) : Hw :=
  if h.pwr = pwrIDLE ∧ ¬ h.is R.PWR_STATE_BUSY then h.pwrRest pwrRUN else h

/-- MBX_DB_CMD: a write of value `v` (R356). -/
def Hw.dbCmd (h : Hw) (m v : Nat) : Hw :=
  if 17 ≤ m ∨ h.flrRuns m then h
  else
    let h := h.doorbellWakes
    let t := v % 65536
    let hd := h.get (R.MBX_CMD_HEAD_HEAD m)
    if 64 < subMod 16 t hd then h.raise (R.MBX_ERR_DB_RANGE m) 0
    else if subMod 16 t hd < subMod 16 (h.get (R.MBX_DB_CMD_TAIL m)) hd then h.raise (R.MBX_ERR_DB_BACK m) 0
    else h.put (R.MBX_DB_CMD_TAIL m) t

/-- MBX_DB_CPL: a write of value `v` (R357). -/
def Hw.dbCpl (h : Hw) (m v : Nat) : Hw :=
  if 17 ≤ m ∨ h.flrRuns m then h
  else
    let h := h.doorbellWakes
    let t := h.get (R.MBX_CPL_TAIL_TAIL m)
    if subMod 16 t v ≤ subMod 16 t (h.get (R.MBX_DB_CPL_HEAD m)) then h.put (R.MBX_DB_CPL_HEAD m) (v % 65536)
    else h.raise (R.MBX_ERR_DB_RANGE m) 0

/-! ### The arbiter (R359, R362-R364) -/

/-- Mailbox m is eligible (R362). -/
def Hw.eligible (h : Hw) (m : Nat) : Bool :=
  h.get (R.MBX_DB_CMD_TAIL m) != h.get (R.MBX_CMD_HEAD_HEAD m) && decide ((h.inflight m).length < 8) && h.slotFree m &&
    h.mbxReady m

/-- The mailbox the arbiter serves next (R363): partition mailboxes in turn from the last one, and every second take to
mailbox 16 while it is eligible. -/
def Hw.mbxChoice (h : Hw) : Option Nat :=
  let parts := (List.range 16).filter h.eligible
  let p := match parts.find? (fun m => decide (h.mbx.lastPart < m)) with
    | some m => some m
    | none => parts.head?
  if h.eligible 16 && (!h.mbx.lastMgmt || p.isNone) then some 16 else p

/-- The handle a take of mailbox m is given: the lowest one free. -/
def Hw.freeHandle (h : Hw) (m : Nat) : Nat :=
  ((List.range 8).find? (fun k => (h.cmd? m k).isNone)).getD 0

/-- MBX_NEXT as it reads: the arbiter's choice (R399). -/
def Hw.mbxNextView (h : Hw) : Nat :=
  match h.mbxChoice with
  | some m => 2 ^ 31 + m * 2 ^ 16 + h.freeHandle m * 2 ^ 8 + h.get (R.MBX_CMD_HEAD_HEAD m) % 64
  | none => 0

/-- The mailbox block takes a command of mailbox m: the entry is copied and MBX_CMD_HEAD advances (R359). -/
def Hw.take (h : Hw) (m : Nat) : Hw :=
  let hd := h.get (R.MBX_CMD_HEAD_HEAD m)
  let e := Mem.bytes h.mem.kitty (cmdSlot m hd) 64
  let k := h.freeHandle m
  let x := h.mbx
  let f : InFlight := { mb := m, hd := k, seq := x.nextSeq, entry := e, started := false }
  ({ h with mbx := { x with
      infl := x.infl ++ [f], nextSeq := x.nextSeq + 1, entry := e, lastTake := (m, k, hd % 64),
      lastPart := if m = 16 then x.lastPart else m, lastMgmt := m == 16 } } : Hw).put (R.MBX_CMD_HEAD_HEAD m)
    ((hd + 1) % 65536)

/-! ### Checks of an entry as it is taken (R353, R373, R381-R383, R388, R397, R402, R404) -/

/-- Opcodes of the command tables (R406, R409, R411). -/
def opListed (op : Nat) : Bool :=
  match op / 256 with
  | 0 => decide (op % 256 ≤ 7) || decide (0x10 ≤ op ∧ op ≤ 0x14)
  | 1 => decide (op % 256 ≤ 8)
  | 2 => decide (op % 256 ≤ 3)
  | 3 => decide (op % 256 ≤ 3)
  | 4 => decide (op % 256 ≤ 3)
  | 5 => decide (op % 256 ≤ 5)
  | 6 => decide (op % 256 ≤ 3)
  | 7 => decide (op % 256 ≤ 3)
  | 15 => decide (op % 256 ≤ 1)
  | _ => false

/-- Opcodes of ROM service mode: RESET, INFO, FW_WRITE and LOG_READ (R388). -/
def opInRom (op : Nat) : Bool := op == 0x0001 || op == 0x0002 || op == 0x0702 || op == 0x0F00

/-- Bytes [a, a + n) lie in what a partition mailbox reaches (R404): stores or windows of partition m's tiles, or its
HBM slice, on this seat. -/
def Hw.partReach (h : Hw) (m a n : Nat) : Bool :=
  addrSeat a == h.seat &&
  (match addrTarget a with
   | .tile t o => partOf t == m && decide (o + n ≤ 0x60000)
   | .tctl t o => partOf t == m && decide (o + n ≤ 0x10000)
   | .hbm o => within o n (h.get (R.NOC_ISO_SLICE_SLICE_BASE m) * 2 ^ 20) (h.get (R.NOC_ISO_SLICE_SLICE_LEN m) * 2 ^ 20)
   | _ => false)

/-- Registers that REG_WRITE does not write (R406): SYS_RST_REQ, CFG_CTL, the mailbox and the debug registers. -/
def regWriteBarred (a : Nat) : Bool :=
  a == R.SYS_RST_REQ || a == R.CFG_CTL || a / 0x10000 == 0x4002 || a / 0x10000 == 0x400E

/-- May the command's mailbox issue it (R402, R404, R406)? -/
def Hw.permitted (h : Hw) (f : InFlight) : Bool :=
  let op := f.opcode
  (decide (16 ≤ f.mb) && !(op == 0x0004 && regWriteBarred (f.par 0 4))) || op == 0x0000 || op == 0x0001 || op / 256 == 1 ||
    ((op == 0x0005 || op == 0x0006) && h.partReach f.mb (f.par 0 8) (max 1 (f.par 8 4)))

/-- A partition command that its mailbox may not issue although group 0x01 is open to it: PART_OPEN of a partition kept
as a spare (R1140), PROGRAM_LOAD from outside the partition's own slice (R819). -/
def Hw.partBarred (h : Hw) (f : InFlight) : Bool :=
  (f.opcode == 0x0100 && decide (f.part < 16) && h.spare f.part) ||
    (f.opcode == 0x0105 && decide (f.mb < 16) && f.par 1 1 == 0 && !h.inSlice f.mb (f.par 8 8) (f.par 24 4))

/-- The parameters of a listed opcode: offset and size of each field (R406, R409, R411). -/
def parFields (op : Nat) : List (Nat × Nat) :=
  let c := op % 256
  match op / 256 with
  | 0 =>
    if c = 0 then []
    else if c ≤ 2 ∨ c = 7 then [(0, 1)]
    else if c = 3 then [(0, 4)]
    else if c = 4 then [(0, 4), (4, 4)]
    else if c = 5 then [(0, 8), (8, 4), (16, 8)]
    else if c = 6 then [(0, 8), (8, 4), (16, 8), (24, 32)]
    else if c ≤ 0x11 then [(0, 8), (8, 4)]
    else if c ≤ 0x13 then [(0, 4), (4, 4), (8, 8)]
    else [(0, 4), (4, 4)]
  | 1 =>
    (0, 1) :: (if c = 0 then [(1, 1), (4, 4), (8, 4)]
      else if c = 3 then [(1, 5)]
      else if c = 4 then [(1, 4)]
      else if c = 5 then [(1, 1), (8, 8), (16, 8), (24, 4)]
      else if c = 6 then [(4, 4)]
      else [])
  | 2 => if c = 0 then [(0, 4), (8, 8)] else if c = 1 then [(0, 8), (8, 4), (12, 3)] else if c = 2 then [(0, 8)] else []
  | 3 => if c = 0 then [(0, 2), (8, 8), (16, 4)] else if c = 1 then [(0, 2), (2, 2)] else if c = 2 then [(0, 2)] else []
  | 4 => if c = 0 then [(0, 8), (8, 4)] else if c = 1 then [(0, 8), (8, 2)] else if c = 2 then [(0, 1), (8, 8)] else []
  | 5 =>
    if c = 0 ∨ c = 4 then [(0, 2)]
    else if c = 1 then [(0, 2), (8, 8)]
    else if c = 2 then [(0, 3), (8, 8), (16, 2)]
    else if c = 3 then [(0, 2), (3, 3), (8, 4)]
    else [(0, 1)]
  | 6 => if c = 1 then [(0, 2)] else if c = 3 then [(0, 1), (8, 8)] else []
  | 7 =>
    if c ≤ 1 then [(0, 2), (8, 8), (16, 4)]
    else if c = 2 then [(0, 1), (4, 4), (8, 8), (16, 4)]
    else [(0, 1)]
  | _ => if c = 0 then [(0, 4), (8, 8)] else [(0, 4)]

/-- Offset of a command's HOST parameter. -/
def hostOff (op : Nat) : Option Nat :=
  if op = 0x0005 ∨ op = 0x0006 ∨ op = 0x0105 then some 16
  else if op = 0x0010 ∨ op = 0x0011 then some 0
  else if op = 0x0012 ∨ op = 0x0013 ∨ op = 0x0F00 ∨ (0x0700 ≤ op ∧ op ≤ 0x0702) then some 8
  else none

/-- The first parameter offset that no command may fill so: a non-zero byte that no field uses (R353), or a HOST that is
not 4-byte aligned (R373). DEDUCED (assumption 35): BAD_PARAM, ahead of the fields' own checks. -/
def InFlight.entryBad (f : InFlight) : Option Nat :=
  let used := parFields f.opcode
  (List.range 56).find? (fun k =>
    (f.par k 1 != 0 && !(used.any (fun u => decide (u.1 ≤ k ∧ k < u.1 + u.2)))) ||
      (hostOff f.opcode == some k && f.par k 8 % 4 != 0))

/-- The status that ends a command as it is taken. -/
def Hw.checkFails (h : Hw) (f : InFlight) : Option (Nat × Nat) :=
  if !opListed f.opcode then some (stBAD_OPCODE, 0)
  else if h.is R.SYS_FW_STAT_ROM_SVC && !opInRom f.opcode then some (stNOT_IN_SERVICE, 0)
  else if !h.permitted f || h.partBarred f then some (stNOT_PERMITTED, f.mb)
  else if 4 ≤ f.flags then some (stBAD_FLAGS, 0)
  else f.entryBad.map (fun k => (stBAD_PARAM, k))

/-- The next entry of mailbox m reads poisoned from Kitty: the Dealer's read has an error response (R1157). -/
def Hw.entryPoisoned (h : Hw) (m : Nat) : Bool :=
  poisonIn 32 h.mem.kittyP (cmdSlot m (h.get (R.MBX_CMD_HEAD_HEAD m))) 64

/-- MBX_NEXT read by the Dealer: the chosen command is taken and checked. A poisoned entry completes MEM_ERROR, 2. -/
def Hw.mbxNext (h : Hw) : Hw :=
  match h.mbxChoice with
  | none => h
  | some m =>
    let k := h.freeHandle m
    let p := h.entryPoisoned m
    let h := h.take m
    match h.cmd? m k with
    | none => h
    | some f =>
      match if p then some (stMEM_ERROR, 2) else h.checkFails f with
      | some (st, d) => h.complete m k st d 0
      | none => h

/-- MBX_NEXT. -/
def Hw.mbxNextRow (h : Hw) : Hw := if h.dealerUp then h.mbxNext else h

/-! ### Completions of the Dealer, timeouts -/

/-- A write of `v` to MBX_POST_GO (R401): a completion of an in-flight handle, or an event entry with STATUS and DETAIL
of MBX_POST_SD. -/
def Hw.postGo (h : Hw) (v : Nat) : Hw :=
  let m := bits v 20 16
  let st := h.get R.MBX_POST_SD_STATUS
  let d := h.get R.MBX_POST_SD_DETAIL
  let res := h.rd64 R.MBX_POST_RES_LO R.MBX_POST_RES_HI
  if 16 < m then h
  else if bit v 31 then h.postEventSt m st d res
  else h.complete m (bits v 10 8) st d res

/-- MBX_POST_GO: the Dealer posts a completion. -/
def Hw.postGoRow (h : Hw) (m k : Nat) : Hw := if h.dealerUp then h.postGo (m % 32 * 2 ^ 16 + k % 8 * 2 ^ 8) else h

/-- MBX_POST_EVENT: the Dealer posts an event. -/
def Hw.postEventRow (h : Hw) (m : Nat) : Hw := if h.dealerUp then h.postGo (2 ^ 31 + m % 32 * 2 ^ 16) else h

/-- MBX_CMD_TIMEOUT: a command has been in flight for MBX_CMD_TMO (R370); 0 means no timeout. What the Dealer hands over
for it later is discarded with LATE (R371). -/
def Hw.cmdTimeout (h : Hw) (m k : Nat) : Hw :=
  if !h.is (R.MBX_CMD_TMO_MS m) || (h.cmd? m k).isNone then h
  else (((h.orphan m k 8).complete m k stTIMEOUT 0 0).raise (R.MBX_ERR_TMO m) 0).loadLost

/-- MBX_COAL_TIMEOUT: the oldest unsignalled completion of mailbox m has waited COAL_US (R375). -/
def Hw.coalTimeout (h : Hw) (m : Nat) : Hw :=
  if h.is (R.MBX_CTL_COAL_US m) && h.unsig m != 0 then h.mbxSignal m else h

/-- MBX_STATUS as it reads (R385, R398). -/
def Hw.mbxStatus (h : Hw) (m : Nat) : Nat :=
  b2n (h.mbxReady m) + 2 * b2n (h.is R.SYS_FW_STAT_ROM_SVC) + 2 ^ 8 * (h.inflight m).length + 2 ^ 16 * (h.events m).length

end Sys2Proof.Machine
end

