-- ==== Sys2Proof/Machine/Tap.lean ====
section
/-!
DEFINITION. The test access port and fuse programming (chapter 4: R169-R205; fuse map R228-R230).
-/
namespace Sys2Proof.Machine

open Sys2Proof

/-! ### Instructions (R176-R187) -/

def irUSERCODE : Nat := 0x003
def irCFG_STAT : Nat := 0x011
def irFUSE_PROG : Nat := 0x018
def irUSER1 : Nat := 0x030
def irDBG_ACCESS : Nat := 0x040
def irBYPASS : Nat := 0x3FF

/-- Opcodes of the table of R178. -/
def irListed (op : Nat) : Bool :=
  decide (op ≤ 7) || op == irCFG_IN || op == irCFG_STAT || op == irCFG_PARTIAL || op == irFUSE_PROG ||
    decide (0x020 ≤ op ∧ op ≤ 0x023) || decide (0x030 ≤ op ∧ op ≤ 0x033) || op == irDBG_ACCESS

/-- EXTEST, EXTEST_PULSE, EXTEST_TRAIN, CLAMP and HIGHZ: system logic sees each input as it was (R184). -/
def irFreezes (op : Nat) : Bool := op == 0 || op == 6 || op == 7 || op == 4 || op == 5

/-- USERCODE: the first four digest bytes of the loaded base image, byte 0 highest (R183). -/
def Hw.userCode (h : Hw) : Nat := if h.get R.CFG_STAT_IMAGE = 0 then 0 else ofBe (h.digestBytes.take 4)

/-- What Capture-DR loads for an instruction whose data register is a constant of the part (R178, R182, R183). -/
def Hw.drFixed (h : Hw) (op : Nat) : Nat :=
  if op = irIDCODE then h.ident.idcode.toNat else if op = irUSERCODE then h.userCode else 0

/-- A stack's wrapper is reached only while its controller is held in reset, untrained, or in the lane-repair hold (R195). -/
def Hw.wrapperOpen (h : Hw) (s : Nat) : Bool :=
  let st := h.memState s
  h.heldAt true || st == msRESET || st == msHOLD || !(h.is (R.MEM_STAT_TRAINED s))

/-- A stream instruction leaves the instruction register: its stream ends (R201, R247). -/
def Hw.irLeave (h : Hw) : Hw := if h.tap.ir = irCFG_IN ∨ h.tap.ir = irCFG_PARTIAL then h.streamEnd else h

/-- The instruction register takes an opcode, in controller state `c`. `cells`: the input cells at this Update-IR (R184). -/
def Hw.irLoad (h : Hw) (c : TapCtl) (op cells : Nat) : Hw :=
  let v := h.drFixed op
  { h with tap := { h.tap with ctl := c, ir := op, drCap := v, frozen := if irFreezes op then some cells else none } }

/-- The controller enters Test-Logic-Reset (R176, R201); a master that waits for it takes the TAP (R81). -/
def Hw.tapReset (h : Hw) : Hw := (h.irLeave.irLoad .tlr irIDCODE 0).tapSettle

/-- TEST_LOGIC_RESET from the pins (R173, R176). -/
def Hw.tlr (h : Hw) : Hw := if h.tapInternal then h else h.tapReset

/-- TRST_N_ASSERT: the TAP is reset (R176, R201). -/
def Hw.trst (h : Hw) : Hw := if h.tapInternal then h else h.tapReset

/-- CAPTURE_IR (R177). `done` is the level on DONE where this seat does not drive it. -/
def Hw.captureIr (h : Hw) (done : Bool) : Hw :=
  if h.tapInternal then h
  else
    let v := 1 + 4 * b2n (done && !h.driveDone) + 8 * h.get R.CFG_STAT_ERR + 16 * h.get R.CFG_STAT_LOCK +
      32 * b2n h.tap.hbmBad
    { h with tap := { h.tap with ctl := .capIr, irCap := v } }

/-- The boundary register is selected (R178). -/
def irBoundary (op : Nat) : Bool := op == 0 || op == 1 || op == 6 || op == 7

/-- The bypass register is selected (R178, R179). -/
def irBypassed (op : Nat) : Bool := op == 4 || op == 5 || op == irBYPASS

/-- A scan of the boundary or the bypass register: Capture-DR takes the cells (under EXTEST_PULSE and EXTEST_TRAIN a test
receiver's cell tells the transition of its leg, R192), or 0 into the bypass bit; Update-DR loads the cells' latches. -/
def Hw.drScan (h : Hw) (d : DrScan) : Hw :=
  if irBoundary h.tap.ir then
    { h with tap := { h.tap with ctl := .upDr, drCap := d.cap % 2 ^ bsrLen, cells := d.upd % 2 ^ bsrLen } }
  else if irBypassed h.tap.ir then { h with tap := { h.tap with ctl := .upDr, drCap := 0, byp := d.upd % 2 } }
  else h

/-- The next instruction keeps a stream alive: CFG_IN or CFG_PARTIAL (R247). -/
def irStream (op : Nat) : Bool := op == irCFG_IN || op == irCFG_PARTIAL

/-- UPDATE_IR with opcode `op`; an opcode not listed acts as BYPASS (R178, R179). `scans`: the scans of the boundary or
bypass register made under the instruction that leaves. -/
def Hw.updateIr (h : Hw) (op cells : Nat) (scans : List DrScan) : Hw :=
  if h.tapInternal then h
  else
    let h := scans.foldl (fun (h : Hw) d => h.drScan d) h
    let o := op % 1024
    let new := if irListed o then o else irBYPASS
    let h := if irStream new then h else h.irLeave
    let port := decide (0x020 ≤ new ∧ new ≤ 0x023)
    let bad := port && !(h.wrapperOpen (new / 2 % 2))
    let h := h.irLoad .upIr new cells
    { h with tap := { h.tap with hbmBad := bad } }

/-- The pins clock the controller with TMS; it enters Test-Logic-Reset with what that does, and stops where the internal
master takes the TAP. -/
def Hw.tapWalk (h : Hw) : List Bool → Hw
  | [] => h
  | b :: bs =>
    let h := h.tapSettle
    if h.tapInternal then h
    else
      let c := h.tap.ctl.clock b
      let h := if c == .tlr then h.tapReset else ({ h with tap := { h.tap with ctl := c } } : Hw).tapSettle
      h.tapWalk bs

/-- TAP_MASTER_TAKE: the internal TAP master takes the TAP for a flash boot, a waiting load command, lane repair or eFuse
programming by the Dealer (R172, R175), at the first Test-Logic-Reset or Run-Test/Idle that the pins' TMS leads to (R81). -/
def Hw.tapTake (h : Hw) (u : TapUse) (tms : List Bool) : Hw :=
  let may := match u with
    | .boot => true
    | .load => h.cfg.cmd.isSome && h.cfg.attempt != .pins && h.cfg.attempt != .partPins
    | _ => h.tap.use.isNone && h.dealerUp && h.cfg.attempt != .pins && h.cfg.attempt != .partPins
  if h.tapInternal || !may then h
  else
    let h := if u = .boot then h else { h with tap := { h.tap with use := some u } }
    (h.tapSettle).tapWalk tms

/-- CFG_STAT: Capture-DR of the status word (R271). -/
def Hw.captureCfgStat (h : Hw) : Hw :=
  if h.tapInternal || h.tap.ir != irCFG_STAT then h
  else
    let v := h.rd R.CFG_STAT
    { h with tap := { h.tap with drCap := v } }

/-- HBM_PORT: Update-DR of `upd` into the selected wrapper register, or Capture-DR, whose content the stack defines
(R195). A stack that is not held leaves a bypass bit. -/
def Hw.hbmPort (h : Hw) (upd : Option Nat) : Hw :=
  let op := h.tap.ir
  if h.tapInternal || decide (op < 0x020 ∨ 0x023 < op) then h
  else
    let s := op / 2 % 2
    if !(h.wrapperOpen s) then { h with tap := { h.tap with drCap := 0 } }
    else
      match upd with
      | some v => { h with tap := { h.tap with wrap := NMap.set h.tap.wrap (2 * s + op % 2) v } }
      | none =>
        let f := h.takeFree 4096
        { f.2 with tap := { f.2.tap with drCap := f.1 } }

/-! ### Fuses (R199-R203, R228-R230) -/

/-- FUSE_PROG is selected: by the pins, or by the internal TAP master while the Dealer holds it (R172). -/
def Hw.fuseSel (h : Hw) : Bool := if h.tapInternal then h.tap.use == some .fuse else h.tap.ir == irFUSE_PROG

/-- Programs to fuse word `w` are refused (R228, R229). -/
def fuseLocked (fz : SMap Word) (w : Nat) : Bool :=
  let s := fuseRd fz 52
  decide (w < 32) || (decide (32 ≤ w ∧ w ≤ 43) && bit s 4) || (decide (44 ≤ w ∧ w ≤ 51) && bit s 5) ||
    (w == 52 && bit s 6) || decide (53 ≤ w ∧ w ≤ 63)

/-- FUSE_PROGRAM: OP 0xA5 starts the pulse of fuse bit `a` (R199, R202, R230). No pulse starts while a reset waits. -/
def Hw.fuseProgram (h : Hw) (fz : SMap Word) (a : Nat) : Hw :=
  let b := a % 4096
  if !h.fuseSel || h.tap.pulse.isSome || h.rst.pend.isSome then h
  else if fuseLocked fz (b / 32) then { h with tap := { h.tap with locked := true } }
  else { h with tap := { h.tap with locked := false, pulse := some b } }

/-- FUSE_READ: OP 0x3C reads a fuse word (R199); the AES key reads 0, and the identity words have no layout in the
manual (R228). -/
def Hw.fuseReadRow (h : Hw) (fz : SMap Word) (a : Nat) : Hw :=
  let w := a % 4096 / 32
  if !h.fuseSel || h.tap.pulse.isSome then h
  else
    let v := if w < 32 then (Config.fuseIdent w).toNat else if 44 ≤ w ∧ w ≤ 51 then 0 else fuseRd fz w
    { h with tap := { h.tap with fuseWord := v } }

/-- The fuses with bit `b` programmed. -/
def fuseSet (fz : SMap Word) (b : Nat) : SMap Word :=
  SMap.set (fun _ => (0 : Word)) fz (b / 32) (BitVec.ofNat 32 (fuseRd fz (b / 32) ||| 2 ^ (b % 32)))

/-- The pulse's end in the part: BUSY clears, VERIFY_FAIL tells whether the bit read back as programmed, and a Dealer that
programs lets the TAP go (R172). -/
def Hw.fuseDone (h : Hw) (good : Bool) : Hw :=
  let h := { h with tap := { h.tap with pulse := none, verifyFail := !good } }
  if h.tap.use = some .fuse then h.tapRelease else h

/-- The 48-bit Capture-DR word of FUSE_PROG (R200). -/
def TapState.fuseCap (t : TapState) : Nat :=
  t.fuseWord % 2 ^ 32 + 2 ^ 40 * b2n t.pulse.isSome + 2 ^ 41 * b2n t.verifyFail + 2 ^ 42 * b2n t.locked

/-- The 66-bit Capture-DR word of DBG_ACCESS (R196). -/
def TapState.dbgCap (t : TapState) : Nat :=
  t.dbgData % 2 ^ 32 + 2 ^ 32 * (t.dbgAddr % 2 ^ 32) + 2 ^ 64 * b2n t.dbgErr + 2 ^ 65 * b2n t.dbgWait.isSome

/-- What Capture-DR loads and what its register then shifts out (R178, R246): CFG_IN and CFG_PARTIAL show zeros, DBG_ACCESS
and FUSE_PROG their words, the bypass register 0, the others what the last capture took. -/
def Hw.captureDr (h : Hw) : Nat :=
  if irStream h.tap.ir || irBypassed h.tap.ir then 0
  else if h.tap.ir = irDBG_ACCESS then h.tap.dbgCap
  else if h.tap.ir = irFUSE_PROG then h.tap.fuseCap
  else h.tap.drCap

/-- TDO in Shift-DR with `n` bits of the register shifted out: high-impedance (none) while the internal master owns the TAP
(R173), and 0 while a stream instruction shifts (R246). -/
def Hw.tdoBit (h : Hw) (n : Nat) : Option Bool := if h.tapInternal then none else some (bit h.captureDr n)

/-- FUSE_PULSE_DONE; `obs` is the bit read back. A bit already 1 reads 1. -/
def State.fuseDone (s : State) (obs : Bool) : State :=
  match s.hw.tap.pulse with
  | none => s
  | some b =>
    let good := obs || bit (fuseRd s.fuse (b / 32)) (b % 32)
    { s with fuse := if good then fuseSet s.fuse b else s.fuse, hw := s.hw.fuseDone good }

/-- POR from the detector cuts a fuse pulse off: the bit may have been programmed or not (R121). -/
def State.fuseCut (s : State) : State :=
  match s.hw.tap.pulse with
  | none => s
  | some b =>
    let r := s.hw.takeFreeB
    { s with fuse := if r.1 then fuseSet s.fuse b else s.fuse, hw := r.2 }

end Sys2Proof.Machine
end

