-- ==== Sys2Proof/Machine/Thermal.lean ====
section
/-!
DEFINITION. Temperature sensors, the throttle, the alarms and the rails (chapter 23: R1222-R1234).
-/
namespace Sys2Proof.Machine

open Sys2Proof

/-- The thermal and pacing block is clocked (R1232). -/
def Hw.thermalRuns (h : Hw) : Bool := !h.busDown

/-- A signed temperature field, in 1/16 °C. -/
def Hw.temp (h : Hw) (f : Fld) : Int := sext 16 (h.get f)

/-- A reading outside -50 °C to +150 °C reads 0x8000 (R1223). -/
def thmReading (v : Nat) : Nat := if sext 16 v < -800 ∨ 2400 < sext 16 v then 0x8000 else v % 65536

/-- The highest reading with its sensor, the lowest-numbered of equals; none where every sensor is out of range. -/
def thmMax (l : List Nat) : Option (Nat × Nat) :=
  (l.foldl (fun (a : Option (Nat × Nat) × Nat) v =>
    let best := match a.1 with
      | none => if v = 0x8000 then none else some (v, a.2)
      | some b => if v ≠ 0x8000 ∧ sext 16 b.1 < sext 16 v then some (v, a.2) else some b
    (best, a.2 + 1)) (none, 0)).1

/-- An alarm condition at a sample: `t` the temperature and `lim` its threshold in °C, with 2 °C of hysteresis (R1226).
While it is on its ERR_ALERT bit is set; where it comes on, THERMAL 0x01 is logged and the event posted (R1227). -/
def Hw.alarm (h : Hw) (b : Nat) (t : Int) (lim : Nat) : Hw :=
  let was := NSet.has h.err.alarm b
  let on := decide ((lim : Int) * 16 ≤ t) || (was && decide ((lim : Int) * 16 - 32 ≤ t))
  let h := { h with err := { h.err with alarm := NSet.put h.err.alarm b on } }
  if !on then h
  else
    let h := h.raise R.ERR_ALERT_ALERT b
    if was then h else (h.errAt eTHERMAL 1 nodeREG).postEvent 16 evTHERMAL (wrapI 16 t)

/-- The thermal cap takes a value (R1224, R1234). -/
def Hw.setCap' (h : Hw) (c : Nat) : Hw := (h.put R.THM_CAP_STAT_CAP c).putB R.THM_CAP_STAT_ACTIVE (decide (c < 28))

/-- The critical check: at the limit THERMAL 0x03 is fatal, and the cap is 0 at once (R1225, R1241). -/
def Hw.critical (h : Hw) (t : Int) : Hw :=
  let k := eTHERMAL * 256 + 3
  if (h.get R.THM_CRIT_DIE : Int) * 16 ≤ t then
    if NSet.has h.err.lasting k then h else (h.lastingOn eTHERMAL 3 nodeREG).setCap' 0
  else h.lastingOff eTHERMAL 3

/-- THERMAL_SAMPLE: the 18 sensors read `l` (R1222, R1223, R1225-R1227). With every sensor out of range THM_TMAX keeps
its value. -/
def Hw.thermalSample (h : Hw) (l : List Nat) : Hw :=
  if !h.thermalRuns || l.length != 18 then h
  else
    let rs := l.map thmReading
    let h := ((List.range 18).zip rs).foldl (fun (h : Hw) e => h.put (R.THM_TEMP_TEMP e.1) e.2) h
    let h := match thmMax rs with
      | some (v, s) => (h.put R.THM_TMAX_TEMP v).put R.THM_TMAX_SENSOR s
      | none => h
    let t := h.temp R.THM_TMAX_TEMP
    let h := (h.critical t).alarm 0 t (h.get R.THM_ALARM_DIE)
    [0, 1].foldl (fun (h : Hw) s => h.alarm (1 + s) (h.temp (R.MEM_TEMP_TEMP s)) (h.get R.THM_ALARM_HBM)) h

/-- THERMAL_CAP_INTERVAL: the throttle's loop (R1224). -/
def Hw.capInterval (h : Hw) : Hw :=
  let t := h.temp R.THM_TMAX_TEMP
  let cap := h.get R.THM_CAP_STAT_CAP
  if !h.thermalRuns then h
  else if (h.get R.THM_CAP_CFG_T_ON : Int) * 16 ≤ t ∧ h.get R.THM_CAP_CFG_FLOOR < cap then h.setCap' (cap - 1)
  else if t < (h.get R.THM_CAP_CFG_T_OFF : Int) * 16 ∧ cap < 28 then h.setCap' (cap + 1)
  else h

/-- RAIL_CHANGE: rail `r` enters or leaves its tolerance (R1234). -/
def Hw.railChange (h : Hw) (r : Nat) (good : Bool) : Hw := if r < 10 then h.putBit R.THM_RAIL_GOOD r good else h

/-- A write of `v` to THM_CAP_CFG: FLOOR 29 to 31, a T_OFF not below T_ON and INT 0 leave their fields (R16, R1234). -/
def Hw.capCfgWrite (h : Hw) (v : Nat) : Hw :=
  let h := h.put R.THM_CAP_CFG_T_ON (bits v 7 0)
  let h := if bits v 7 0 ≤ bits v 15 8 then h else h.put R.THM_CAP_CFG_T_OFF (bits v 15 8)
  let h := if 28 < bits v 20 16 then h else h.put R.THM_CAP_CFG_FLOOR (bits v 20 16)
  if bits v 31 24 = 0 then h else h.put R.THM_CAP_CFG_INT (bits v 31 24)

end Sys2Proof.Machine
end

