-- ==== Sys2Proof/Machine/RegAccess.lean ====
section
/-!
DEFINITION. Accesses to device registers: access codes, reserved encodings, pairs, views of state kept elsewhere, and the
writes that act (R10-R26, R1238 and the register tables of every chapter).
-/
namespace Sys2Proof.Machine

open Sys2Proof

/-- The source of debug accesses: no node id, and the lowest in the order of R21. -/
def srcTap : Nat := 1024

/-! ### Which blocks answer (R25) -/

/-- The register bus and a block's own clock: a block that is stopped or held in reset answers with an error. -/
def Hw.blkDown (h : Hw) (b : Blk) (a : Nat) : Bool :=
  h.busDown ||
  (match b with
   | .gfx => h.heldAt false
   | .noc => !h.nocclk
   | .mem => !h.memclk
   | .sns => h.fenced 642
   | .net => h.fenced 645
   | .pcie => h.fenced 646
   | .dpy => h.fenced 649
   | .lnk => h.fenced (650 + (a - 0x400B1000) / 0x100)
   | _ => false)

/-- The block whose window holds an address of the register area, for addresses no register is assigned to. -/
def pageBlk (a : Nat) : Blk :=
  match a / 0x10000 with
  | 0x4001 => .cfg | 0x4002 => .mbx | 0x4003 => .noc | 0x4004 => .mem | 0x4005 => .mem
  | 0x4006 => .sns | 0x4007 => .sig | 0x4008 => if a % 0x10000 < 0x8000 then .gfx else .dpy
  | 0x4009 => .net | 0x400A => .pcie
  | 0x400B => if 0x400B1000 ≤ a ∧ a < 0x400B1400 then .lnk else .tbl
  | 0x400C => .err | 0x400D => .pace | 0x400E => .dbg
  | _ => .sys

/-! ### Reads -/

/-- PLL lock bits of SYS_CLK_STAT (R82): bit p for PLL p. -/
def Hw.lockBits (h : Hw) : Nat := maskOf (h.clk.locked.filter (fun p => decide (p < 16)))

/-- A state-changing command on partition p has been taken and not completed (R800). -/
def Hw.partBusy (h : Hw) (p : Nat) : Bool :=
  h.mbx.infl.any (fun f => decide (0x0100 ≤ f.opcode ∧ f.opcode ≤ 0x0102) && f.part == p)

/-- SYS_PART_STATp (R851): its stored bits with those of the partition's state. -/
def Hw.partStatReg (h : Hw) (p : Nat) : Nat :=
  let x := h.pt p
  (h.rd (R.SYS_PART_STAT p) &&& 0x01010207) + 2 ^ 3 * b2n (h.partBusy p) + 2 ^ 4 * b2n (h.fused p) +
    2 ^ 5 * b2n (x.loaded.isSome || x.staged.isSome) + 2 ^ 6 * b2n x.run.isSome +
    2 ^ 7 * b2n (x.start.isSome && x.run.isSome) + 2 ^ 8 * b2n (h.ckBusy p)

/-- PACE_STATp (R855). -/
def Hw.paceStatReg (h : Hw) (p : Nat) : Nat :=
  let base := min (h.get (R.PACE_CFG_CEIL p)) h.gradeCeil
  h.get (R.SYS_TCLK_CUR_STEP p) + 2 ^ 8 * h.ceilEff p + 2 ^ 16 * h.get (R.PACE_STAT_F p) +
    2 ^ 24 * h.get (R.PACE_STAT_LAST p) + 2 ^ 26 * b2n (decide (h.get R.THM_CAP_STAT_CAP < base))

/-- Registers that show state kept elsewhere, in pages 0x4000 to 0x4003. -/
def Hw.viewSys (h : Hw) (a : Nat) : Nat :=
  if a = R.SYS_HWID then h.ident.hwid.toNat
  else if a = R.SYS_BIN then h.ident.bin.toNat
  else if a = R.SYS_PARTEN then h.ident.parten.toNat
  else if a = R.SYS_IDCODE then h.ident.idcode.toNat
  else if a = R.SYS_FEAT then h.ident.feat.toNat
  else if a = R.SYS_CLK_STAT then
    h.lockBits + 2 ^ 16 * h.get R.SYS_CLK_STAT_XTAL32_OK + 2 ^ 17 * h.get R.SYS_CLK_CFG_SNS_SRC
  else if R.SYS_PART_STAT 0 ≤ a ∧ a < R.SYS_PART_STAT 16 then h.partStatReg ((a - R.SYS_PART_STAT 0) / 4)
  else if R.MBX_STATUS 0 ≤ a ∧ a ≤ R.MBX_STATUS 16 ∧ a % 0x100 = 0x10 then h.mbxStatus ((a - R.MBX_STATUS 0) / 0x100)
  else if a = R.MBX_NEXT then h.mbxNextView
  else if R.MBX_ENTRY 0 ≤ a ∧ a < R.MBX_ENTRY 16 then leAt h.mbx.entry (a - R.MBX_ENTRY 0) 4
  else h.rd a

/-- A register's value as it reads, before what a read does. CFG_SEC shows the security word as POR loaded it (R38,
R279). -/
def Hw.regView (h : Hw) (a : Nat) : Nat :=
  if a < 0x40010000 then h.viewSys a
  else if a = R.CFG_SEC then h.ident.sec.toNat
  else if a = R.CFG_CTL then b2n (h.is R.CFG_STAT_LOCK)
  else if a / 0x10000 = 0x4002 then h.viewSys a
  else if 0x40060030 ≤ a ∧ a < 0x40060040 then h.rd a % 8 + 2 ^ 8 * h.snsW ((a - 0x40060030) / 4)
  else if a = R.MEM_STAT 0 then setBit (h.rd a) 4 (h.derated 0)
  else if a = R.MEM_STAT 1 then setBit (h.rd a) 4 (h.derated 1)
  else if a = R.PCIE_DMA_STAT then maskOf (h.pcie.engines.map (fun e => e.eng))
  else if a = R.TBL_PEER0 h.seat ∧ h.xstate ≠ xDOWN then h.ownRec.peer0
  else if a = R.TBL_PEER1 h.seat ∧ h.xstate ≠ xDOWN then h.ownRec.peer1
  else if a = R.TBL_TIME_LO then h.clk.tt % 2 ^ 32
  else if a = R.TBL_TIME_HI then h.clk.tt / 2 ^ 32
  else if a = R.ERR_SCRUB_STAT then
    h.rd a % 2 ^ 17 + 2 ^ 31 * b2n (h.is R.ERR_SCRUB_CFG_EN && h.is R.CFG_STAT_RELEASED)
  else if a / 0x10000 = 0x400D ∧ a < 0x400D0400 ∧ a % 16 = 8 then h.paceStatReg ((a - 0x400D0000) / 16)
  else if a = R.THM_VID then h.ident.vcore
  else if a = R.DBG_CTL then h.rd a % 2 + 2 * b2n (!h.rst.dealerRun) + 4 * b2n h.tapInternal
  else h.rd a

/-- Low words of the 64-bit quantities held in two registers (R19, R20). -/
def pairLow (a : Nat) : Bool :=
  a == R.PWR_AOT_CNT_LO || a == R.PWR_AOT_CMP_LO || a == R.PWR_TT_SNAP_LO || a == R.PWR_AOT_SNAP_LO ||
    a == R.CFG_PR_ISO_LO || a == R.MBX_POST_RES_LO || a == R.SNS_TRIG_LO || a == R.GFX_BINMEM_BASE_LO ||
    a == R.TBL_TIME_LO || a == R.TBL_ALARM_LO || (decide (0x40062000 ≤ a ∧ a < 0x40062500) && a % 0x20 == 0)

/-- Bits that read as 0: write-only fields and bits of no field (R10, R13). -/
def readMask (r : RegDef) : Nat :=
  r.fields.foldl (fun m f => if f.acc = .wo then m else m ||| (2 ^ (f.hi + 1 - f.lo) - 1) <<< f.lo) 0

/-- The word a read of an assigned register returns, with the latching of pairs (R19). -/
def Hw.regValue (h : Hw) (a : Nat) (r : RegDef) : Nat × Hw :=
  let v := h.regView a &&& readMask r
  if pairLow a then (v, h.latchAt a (h.regView (a + 4)))
  else if 4 ≤ a ∧ pairLow (a - 4) then
    match h.latched (a - 4) with
    | some w => (w.toNat, h)
    | none => (v, h)
  else (v, h)

/-! ### Writes -/

/-- One field of a write (R10, R16): the register's word after it. -/
def fieldWrite (locked : Bool) (v w : Nat) (f : FieldDef) : Nat :=
  let x := bits v f.hi f.lo
  let old := bits w f.hi f.lo
  match f.acc with
  | .rw => if f.reserved x then w else setBits w f.hi f.lo x
  | .rwl => if locked || f.reserved x then w else setBits w f.hi f.lo x
  | .w1c => setBits w f.hi f.lo (old - (old &&& x))
  | .w1s => setBits w f.hi f.lo (old ||| x)
  | _ => w

/-- The word that a write of `v` leaves in register `a` by its access codes. -/
def Hw.written (h : Hw) (r : RegDef) (a v : Nat) : Nat :=
  r.fields.foldl (fieldWrite (h.is R.CFG_STAT_LOCK) v) (h.rd a)

/-- A write by access codes alone (R22). -/
def Hw.plainWrite (h : Hw) (r : RegDef) (a v : Nat) : Hw := h.wr a (h.written r a v)

/-- A pair write (R20): the low word is held, and both take effect with the high one; `go` acts on the 64-bit value. -/
def Hw.pairWrite (h : Hw) (lo a v : Nat) (go : Hw → Nat → Nat → Hw) : Hw :=
  if a = lo then h.holdLow lo (some (BitVec.ofNat 32 v))
  else (go h (((h.heldLow lo).map BitVec.toNat).getD (h.rd lo)) v).holdLow lo none

/-- A write of DBG_CTL: HALT stops the Dealer, or lets it run (R206). -/
def Hw.dbgCtl (h : Hw) (v : Nat) : Hw :=
  let h := h.putB R.DBG_CTL_HALT (bit v 0)
  if h.asleep then h else { h with rst := { h.rst with dealerRun := !bit v 0 } }

/-- A write of PWR_WAKE_CFG, `n` being the state with the word stored: WAKE_OUT follows WO_MODE (R135, R136), and a level
source that the write makes active is an event (R137). -/
def Hw.wakeCfgWrite (h n : Hw) : Hw :=
  let was := h.is R.PWR_WAKE_CFG_WO_MODE
  let n := n.wakeOutShow
  let n := if was && !(n.is R.PWR_WAKE_CFG_WO_MODE) then { n with pwr' := { n.pwr' with wakeOut := false } } else n
  (n.wakeActive.filter (fun k => !(h.wakeActive.contains k))).foldl (fun (n : Hw) k => n.wakeEvent (4 + k)) n

/-- The user PLLs that hold lock (R336). -/
def Hw.userHeld (h : Hw) : Nat := maskOf ((List.range 8).filter (fun u => NSet.has h.clk.locked (8 + u)))

/-- Writes that act in the system, debug, configuration and fabric blocks. -/
def Hw.writeSys (h : Hw) (r : RegDef) (a v src : Nat) : Hw :=
  if a = R.SYS_CLK_LOSS then h.clkLossClear v
  else if a = R.SYS_CLK_CFG then
    -- R78: SNS_SRC stays while a sensor channel is enabled
    h.plainWrite r a (if h.rd R.SNS_CH_EN = 0 then v else setBit v 0 (h.is R.SYS_CLK_CFG_SNS_SRC))
  else if a = R.SYS_RST_CAUSE then
    let h' := h.plainWrite r a v
    if h.is R.SYS_RST_CAUSE_FATAL && !(h'.is R.SYS_RST_CAUSE_FATAL) then h'.put R.SYS_RST_CAUSE_FATAL_CODE 0 else h'
  else if a = R.SYS_RST_REQ then h.rstReqWrite v
  else if a = R.SYS_WDT_KICK then h.wdtKick v
  else if a = R.PWR_CTL then h.pwrCtl v
  else if a = R.PWR_WAKE_CFG then h.wakeCfgWrite (h.plainWrite r a v)
  else if a = R.PWR_AOT_CNT_LO ∨ a = R.PWR_AOT_CNT_HI then
    h.pairWrite R.PWR_AOT_CNT_LO a v (fun h l u => h.wr64 R.PWR_AOT_CNT_LO R.PWR_AOT_CNT_HI (l + u % 65536 * 2 ^ 32))
  else if a = R.PWR_AOT_CMP_LO ∨ a = R.PWR_AOT_CMP_HI then
    h.pairWrite R.PWR_AOT_CMP_LO a v (fun h l u => h.wr64 R.PWR_AOT_CMP_LO R.PWR_AOT_CMP_HI (l + u % 65536 * 2 ^ 32))
  else if a = R.SYS_FW_STAT then (if src = 640 then h.plainWrite r a v else h)
  else if a = R.DBG_CTL then h.dbgCtl v
  else if a = R.CFG_CTL then h.cfgCtl v
  else if a = R.FAB_PLL_LOSS then h.pllLossClear v h.userHeld
  else h.plainWrite r a v

/-- Writes of the mailbox block (R398-R401). -/
def Hw.writeMbx (h : Hw) (r : RegDef) (a v src : Nat) : Hw :=
  if a < 0x40022000 then
    let m := (a - 0x40020000) / 0x100
    match a % 0x100 with
    | 0x00 => h.dbCmd m v
    | 0x04 => h.dbCpl m v
    | 0x14 => h.plainWrite r a (if m = 16 then setBit v 1 false else v)
    | _ => h.plainWrite r a v
  else if src ≠ 640 then h
  else if a = R.MBX_POST_GO then h.postGo v
  else if a = R.MBX_POST_RES_LO ∨ a = R.MBX_POST_RES_HI then
    h.pairWrite R.MBX_POST_RES_LO a v (fun h l u => h.wr64 R.MBX_POST_RES_LO R.MBX_POST_RES_HI (l + u * 2 ^ 32))
  else h.plainWrite r a v

/-- A write of NOC_FOLD_REQ (R731). -/
def Hw.foldReqWrite (h : Hw) (v : Nat) : Hw :=
  let i := v % 64
  if !bit v 8 && decide (16 ≤ i) then h
  else
    let k := if bit v 8 then 16 + i else i
    if bit v 15 then h.unfoldReq k else h.foldRequest k (bit v 14 && decide (k < 16)) []

/-- Writes of the stack registers (R791). WR_LO is judged against the WR_HI of the same write (R16). -/
def Hw.writeMem (h : Hw) (r : RegDef) (a v : Nat) : Hw :=
  let s := a / 0x10000 - 0x4004
  match a % 0x10000 with
  | 0x004 =>
    let h := h.plainWrite r a v
    if bit v 0 then h.retrain s else h
  | 0x008 => h.memTemp s (v % 65536)
  | 0x010 =>
    let w := h.written r a v
    h.wr a (if bits w 22 16 ≤ bits w 29 24 then setBits w 29 24 (h.get (R.MEM_SCHED_WR_LO s)) else w)
  | _ => h.plainWrite r a v

/-- Writes of the sensor front end (R898-R900, R906): with a channel of the group enabled, only STEP of SNS_GRPg_CFG is
taken. -/
def Hw.writeSns (h : Hw) (r : RegDef) (a v : Nat) : Hw :=
  let busy (g : Nat) : Bool := !(h.grpEn g).isEmpty
  let any := h.rd R.SNS_CH_EN != 0
  if a = R.SNS_CH_EN then h.snsEnable (h.rd a) v
  else if R.SNS_GRP_CFG 0 ≤ a ∧ a < R.SNS_GRP_CFG 4 then
    if busy ((a - R.SNS_GRP_CFG 0) / 4) then h.put (R.SNS_GRP_CFG_STEP ((a - R.SNS_GRP_CFG 0) / 4)) (bits v 26 25)
    else h.plainWrite r a v
  else if R.SNS_GRP_RNG 0 ≤ a ∧ a < R.SNS_GRP_RNG 4 then
    if busy ((a - R.SNS_GRP_RNG 0) / 4) then h else h.plainWrite r a v
  else if a = R.SNS_FIR_CFG ∨ (0x40060080 ≤ a ∧ a < 0x40060100) ∨ (0x40060300 ≤ a ∧ a < 0x40060400) then
    if any then h else h.plainWrite r a v
  else if a = R.SNS_TRIG_LO ∨ a = R.SNS_TRIG_HI then
    h.pairWrite R.SNS_TRIG_LO a v (fun h l u => h.snsTrig (l + u % 256 * 2 ^ 32))
  else if R.SNS_WAKE_FLOOR 0 ≤ a ∧ a < R.SNS_WAKE_FLOOR 4 then
    h.setFloor ((a - R.SNS_WAKE_FLOOR 0) / 4) (sext 16 v * 256)
  else h.plainWrite r a v

/-- Writes of the raster unit and the display (R964, R1002). -/
def Hw.writeGfx (h : Hw) (r : RegDef) (a v : Nat) : Hw :=
  if a = R.GFX_AUTO_CLR then h.gfxAutoClr v
  else if a = R.GFX_BINMEM_BASE_LO ∨ a = R.GFX_BINMEM_BASE_HI then
    h.pairWrite R.GFX_BINMEM_BASE_LO a v
      (fun h l u => h.wr64 R.GFX_BINMEM_BASE_LO R.GFX_BINMEM_BASE_HI (l / 65536 * 65536 + u % 65536 * 2 ^ 32))
  else if a = R.DPY_AUX_CTL ∧ bit v 31 then h.auxGo v
  else h.plainWrite r a v

/-- Writes of the Ethernet block (R1033-R1035, R1051). -/
def Hw.writeNet (h : Hw) (r : RegDef) (a v : Nat) : Hw :=
  let n := (a - 0x40090000) / 0x1000
  let o := a % 0x1000
  if a = R.NET_SHP_CTL then (if bit v 0 then h.forgive (b2n (bit v 8)) (bits v 6 4) else h)
  else if n < 2 ∧ 0x300 ≤ o ∧ o < 0x380 ∧ o % 16 = 0 then h.setRate n ((o - 0x300) / 16) v
  else if n < 2 ∧ 0x300 ≤ o ∧ o < 0x380 ∧ o % 16 = 4 then h.setBucket n ((o - 0x300) / 16) v
  else h.plainWrite r a v

/-- Writes of the table unit (R1117, R1118, R1142). -/
def Hw.writeTbl (h : Hw) (r : RegDef) (a v : Nat) : Hw :=
  if a = R.TBL_TIME_OFS then h.timeOfs (v % 2 ^ 32)
  else if a = R.TBL_ALARM_LO ∨ a = R.TBL_ALARM_HI then
    h.pairWrite R.TBL_ALARM_LO a v (fun h l u => h.wr64 R.TBL_ALARM_LO R.TBL_ALARM_HI (l + u * 2 ^ 32))
  else h.plainWrite r a v

/-- Writes of the pacing and thermal registers (R675, R846, R855, R1234): a band whose LO is not below its HI keeps LO, and
a PACE_CFG or PACE_BAND write starts a new window as PART_PACE does. -/
def Hw.writePace (h : Hw) (r : RegDef) (a v : Nat) : Hw :=
  if a = R.THM_CAP_CFG then h.capCfgWrite v
  else if 0x400D0400 ≤ a ∧ a < 0x400D0440 then
    (h.setBw ((a - 0x400D0400) / 4) (h.written r a v)).getD h
  else if a < 0x400D0100 then
    let p := (a - 0x400D0000) / 16
    match a % 16 with
    | 0 => (h.plainWrite r a v).govStart p false
    | 4 =>
      let w := h.written r a v
      (h.wr a (if bits w 15 8 ≤ bits w 7 0 then setBits w 7 0 (h.get (R.PACE_BAND_LO p)) else w)).govStart p false
    | _ => h.plainWrite r a v
  else h.plainWrite r a v

/-- A write of `v` to the assigned register `a`, from source node `src`. -/
def Hw.regStore (h : Hw) (r : RegDef) (a v src : Nat) : Hw :=
  match r.blk with
  | .sys | .aon | .dbg | .cfg | .fab => h.writeSys r a v src
  | .mbx => h.writeMbx r a v src
  | .noc => if a = R.NOC_FOLD_REQ then h.foldReqWrite v else h.plainWrite r a v
  | .mem => h.writeMem r a v
  | .sns | .snsw => h.writeSns r a v
  | .sig => if a = R.SIG_SOFT then h.sigSoft (v % 65536) else h.plainWrite r a v
  | .gfx | .dpy => h.writeGfx r a v
  | .net => h.writeNet r a v
  | .pcie => if a = R.PCIE_VF_CFG ∧ h.vfEnable then h else h.plainWrite r a v
  | .tbl | .lnk => h.writeTbl r a v
  | .err => if a = R.ERR_FATAL then h.errFatalClear v else h.plainWrite r a v
  | .pace => h.writePace r a v

/-! ### Accesses -/

/-- How an access ends: data, an error response, or it waits. -/
inductive DRes where
  | ok (v : Nat)
  | err
  | wait
deriving DecidableEq, Repr

/-- The core whose MDATA register is at `a`. -/
def mdataCore (a : Nat) : Option Nat :=
  if 0x40070000 ≤ a ∧ a < 0x40071000 ∧ a % 0x100 = 0x24 then some ((a - 0x40070000) / 0x100) else none

/-- A 32-bit read of the device register at `a` (R15, R25). A read of MBX_NEXT takes the command it shows,
whoever reads (R10, R399; assumption 17). -/
def Hw.regRead (h : Hw) (a : Nat) : DRes × Hw :=
  match regDef? a with
  | none => if h.blkDown (pageBlk a) a then (.err, h) else (.ok 0, h)
  | some r =>
    if h.blkDown r.blk a then (.err, h)
    else
      match mdataCore a with
      | some k => (match h.sigMdata k none with
        | some (v, h) => (.ok v, h)
        | none => (.err, h))
      | none =>
        let x := h.regValue a r
        (.ok x.1, if a = R.MBX_NEXT then x.2.mbxNext else x.2)

/-- A 32-bit write of the device register at `a` from node `src`. -/
def Hw.regWrite (h : Hw) (a v src : Nat) : DRes × Hw :=
  match regDef? a with
  | none => if h.blkDown (pageBlk a) a then (.err, h) else (.ok 0, h)
  | some r =>
    if h.blkDown r.blk a then (.err, h)
    else
      match mdataCore a with
      | some k => (match h.sigMdata k (some (v % 2 ^ 32)) with
        | some (_, h) => (.ok 0, h)
        | none => (.err, h))
      | none => (.ok 0, h.regStore r a (v % 2 ^ 32) src)

/-- The bytes word group `g` will hold once the queued writes are done (R414). -/
def Hw.mramAhead (h : Hw) (g : Nat) : List Byte :=
  (((h.fw.pulse.toList ++ h.fw.q).filter (fun w => w.group == g)).getLast?.map (fun w => w.data)).getD
    (Mem.bytes h.mem.mram (32 * g) 32)

/-- A store of the Dealer into the MRAM, merged with the rest of its word group (R414, R416); other sources and closed
regions write nothing and set WP. -/
def Hw.mramStore (h : Hw) (o : Nat) (bs : List Byte) (src : Nat) : Hw :=
  if src ≠ 640 ∨ ¬ h.bitOf R.SYS_MRAM_CTL_WEN (wenBit (o / 32)) then h.raise R.SYS_MRAM_ERR_WP 0
  else
    let d := h.mramAhead (o / 32)
    let k := o % 32
    h.mramQueue [⟨o / 32, d.take k ++ bs ++ d.drop (k + bs.length)⟩]

/-- A read of `n` bytes (1 to 8, within an aligned 8) of the Dealer map at `a` (R15, R17, R18, R25). `ans` is the user
register port's answer. -/
def Hw.dmapRead (h : Hw) (a n : Nat) (ans : UAns) : DRes × Hw :=
  match dealerWin a with
  | .mram o =>
    if h.busDown then (.err, h)
    else if h.mramBusy o then (.wait, h)
    else if h.fw.bad.any (fun g => decide (o < 32 * g + 32 ∧ 32 * g < o + n)) then (.err, h.mramUE o n)
    else (.ok (Mem.rd h.mem.mram o n), h)
  | .rom o => if h.busDown then (.err, h) else (.ok (Mem.rd h.mem.rom o n), h)
  | .kitty o =>
    -- a poisoned line answers with an error (R1157)
    if h.busDown || !h.nocclk || h.fenced 641 || poisonIn 32 h.mem.kittyP o n then (.err, h)
    else (.ok (Mem.rd h.mem.kitty o n), h)
  | .reg a => if n ≠ 4 ∨ a % 4 ≠ 0 then (.err, h) else h.regRead a
  | .tile t o =>
    if h.busDown || !h.nocclk || h.winRefused t o n false then (.err, h)
    else
      let r := h.winRead t o
      (.ok r.1, r.2)
  | .user _ =>
    if n ≠ 4 ∨ a % 4 ≠ 0 ∨ h.busDown then (.err, h)
    else
      let r := h.ureg ans
      (if r.1 then .err else .ok r.2.1, r.2.2)
  | .none => (.err, h)

/-- A write of bytes to the Dealer map at `a`, from node `src`. -/
def Hw.dmapWrite (h : Hw) (a : Nat) (bs : List Byte) (src : Nat) (ans : UAns) : DRes × Hw :=
  let n := bs.length
  match dealerWin a with
  | .mram o => if h.busDown then (.err, h) else (.ok 0, h.mramStore o bs src)
  | .rom _ => if h.busDown then (.err, h) else (.ok 0, h)
  | .kitty o => if h.busDown || !h.nocclk || h.fenced 641 then (.err, h) else (.ok 0, h.kittyW o bs)
  | .reg a => if n ≠ 4 ∨ a % 4 ≠ 0 then (.err, h) else h.regWrite a (ofLe bs) src
  | .tile t o =>
    if h.busDown || !h.nocclk || h.winRefused t o n true then (.err, h) else (.ok 0, h.winWrite t o (ofLe bs))
  | .user _ =>
    if n ≠ 4 ∨ a % 4 ≠ 0 ∨ h.busDown then (.err, h)
    else
      let r := h.ureg ans
      (if r.1 then .err else .ok 0, r.2.2)
  | .none => (.err, h)

/-- Bits of a register that a 1 clears. -/
def w1cMask (r : RegDef) : Nat :=
  r.fields.foldl (fun m f => if f.acc = .w1c then m ||| (2 ^ (f.hi + 1 - f.lo) - 1) <<< f.lo else m) 0

/-- How far above its flag an OVF bit lies. -/
def ovfOfs (a : Nat) : Nat :=
  if a = R.SNS_BMRATE ∨ (R.SYS_PART_STAT 0 ≤ a ∧ a < R.SYS_PART_STAT 16) then 8 else 16

/-- A register write with events of the flags in mask `ev` in its cycle: a flag that the write would clear stays 1, with
its OVF bit set, as does an OVF bit that the cycle sets (R1175, R1177, R1178). Any other bit is written as ever (R1179). A
write of 1 counts as clearing its flag whatever the flag read before the cycle (DEDUCED, assumption 84). -/
def Hw.flagWrite (h : Hw) (a v ev src : Nat) : DRes × Hw :=
  let m := ((regDef? a).map w1cMask).getD 0
  let keep := ev &&& v &&& h.rd a &&& m
  let ovf := (keep <<< ovfOfs a) &&& m
  match h.regWrite a (v - (v &&& (keep ||| ovf))) src with
  | (.ok x, h) => (.ok x, if ovf = 0 then h else h.wr a (h.rd a ||| ovf))
  | r => r

/-- W1C bits of the tile-window word at offset `o`: TIL_FLAGS, TIL_SCH_ERR and TIL_LAYER (R525, R686). -/
def tileW1c (o : Nat) : Nat :=
  match o with
  | 0x020 => 0x7F007F
  | 0x044 => 0xFFFFFFFF
  | 0x04C => 0x3000000
  | _ => 0

/-- Set bits of such a word. -/
def Tile.flagSet (t : Tile) (o m : Nat) : Tile :=
  match o with
  | 0x020 => { t with ctl := { t.ctl with flags := t.ctl.flags ||| BitVec.ofNat 32 m } }
  | 0x044 => { t with str := { t.str with err := t.str.err ||| BitVec.ofNat 32 m } }
  | _ => { t with str := { t.str with pfOvf := t.str.pfOvf || bit m 25 } }

/-- A write of a flag word of tile `t`'s window with events of its flags in the same cycle, under the same rule (R575,
R684, R1177). -/
def Hw.tileFlagWrite (h : Hw) (t o : Nat) (w : RegWr) : Hw :=
  let m := tileW1c o
  let keep := w.ev &&& w.v &&& (h.tile t).winRd o &&& m
  let ovf := (keep <<< (if o = 0x04C then 1 else 16)) &&& m
  match h.dmapWrite w.a (leBytes 4 (w.v - (w.v &&& (keep ||| ovf)))) w.src w.ans with
  | (.ok _, h) => h.onTile t (fun x => x.flagSet o ovf)
  | (_, h) => h

/-- One register write (R10, R18, R25); PF BAR4 writes never reach a block (R24). A write whose byte parity fails at the
register has no effect and is reported (R1152). -/
def Hw.registerWrite (h : Hw) (w : RegWr) : Hw :=
  if w.parity then h.errAt eCRC 3 nodeREG
  else
    match dealerWin w.a with
    | .tile t o =>
      if w.ev ≠ 0 ∧ w.bytes = 4 ∧ tileW1c o ≠ 0 then h.tileFlagWrite t o w
      else (h.dmapWrite w.a (leBytes w.bytes w.v) w.src w.ans).2
    | .reg a =>
      if w.ev ≠ 0 ∧ w.bytes = 4 ∧ a % 4 = 0 then (h.flagWrite a (w.v % 2 ^ 32) w.ev w.src).2
      else (h.dmapWrite w.a (leBytes w.bytes w.v) w.src w.ans).2
    | _ => (h.dmapWrite w.a (leBytes w.bytes w.v) w.src w.ans).2

/-- A source's place in the order of R21: by node id, the test access port lowest. -/
def srcRank (s : Nat) : Nat := if s = srcTap then 0 else s + 1

/-- Put a write into the order of R21; writes of one source keep their order. -/
def insertWr (w : RegWr) : List RegWr → List RegWr
  | [] => [w]
  | x :: l => if srcRank x.src < srcRank w.src then x :: insertWr w l else w :: x :: l

/-- REGISTER_WRITE: the writes that arrive in one cycle, applied one after another in ascending order of source node id
(R21, R22). -/
def Hw.registerWrites (h : Hw) (ws : List RegWr) : Hw :=
  (ws.foldr insertWr []).foldl (fun (h : Hw) w => h.registerWrite w) h

end Sys2Proof.Machine
end

