-- ==== Sys2Proof/Machine/MailCmd.lean ====
section
/-!
DEFINITION. The device commands of group 0x00 (R393, R405-R407), SNS_CONFIG and SNS_WAKE (R903, R907, R908), and the debug
accesses of the TAP (R196-R198).
-/
namespace Sys2Proof.Machine

open Sys2Proof

/-! ### NOP, INFO, RESET, POWER -/

/-- NOP as a mailbox command. -/
def Hw.nopCmd (h : Hw) (m k : Nat) : Hw := h.onCmd m k 0x0000 (fun _ => h.ok m k 0)

/-- The versions of INFO SEL 1 (R407). In ROM service mode no firmware speaks for the settings schema and the table
protocol, which read 0. -/
def Hw.versions (h : Hw) : Nat :=
  let rom := h.is R.SYS_FW_STAT_ROM_SVC
  h.fwVer % 2 ^ 24 + 2 ^ 24 * h.get R.MBX_VERSION_PROTO + 2 ^ 32 * (if rom then 0 else h.fwByte 0x18) +
    2 ^ 40 * (if rom then 0 else h.fwByte 0x1B) + 2 ^ 48 * 0x14 + 2 ^ 56 * 2

/-- INFO's RESULT by SEL (R406). -/
def Hw.infoValue (h : Hw) (sel : Nat) : Option Nat :=
  match sel with
  | 0 => some (h.ident.hwid.toNat + 2 ^ 32 * h.ident.bin.toNat)
  | 1 => some h.versions
  | 2 => some (h.ident.parten.toNat + 2 ^ 32 * h.ident.idcode.toNat)
  | 3 => some (h.rd R.PWR_STATE + 2 ^ 32 * h.rd R.CFG_STAT)
  | 4 => some (h.rd R.CFG_SHELL + 2 ^ 32 * h.get R.SYS_FW_STAT_SLOT)
  | _ => none

/-- INFO: status ROM_SERVICE in ROM service mode (R426), SETTINGS_DEGRADED with unreadable settings records (R439). -/
def Hw.info (h : Hw) (m k : Nat) : Hw :=
  h.onCmd m k 0x0001 (fun c =>
    match h.infoValue (c.par 0 1) with
    | none => h.badParam m k 0
    | some v =>
      if h.is R.SYS_FW_STAT_ROM_SVC then h.complete m k stROM_SERVICE 0 v
      else
        let n := min 65535 (h.unreadable 0 + h.unreadable 1)
        if n = 0 then h.ok m k v else h.complete m k stSETTINGS_DEGRADED n v)

/-- RESET: completes OK with its message issued, then SYS_RST_REQ is written (R393, R394). -/
def Hw.resetCmd (h : Hw) (m k : Nat) : Hw :=
  h.onCmd m k 0x0002 (fun c =>
    let l := c.par 0 1
    if l = 0 ∨ 2 < l then h.badParam m k 0
    else
      let h := h.ok m k 0
      let h := if h.unsig m = 0 then h else h.mbxSignal m
      h.rstReqWrite (0x5A00 + l))

/-- POWER: writes PWR_CTL.TARGET; LISTEN and DEEP complete when their entry waits for PME_Turn_Off (R406). -/
def Hw.powerCmd (h : Hw) (m k : Nat) : Hw :=
  h.onCmd m k 0x0007 (fun c =>
    let t := c.par 0 1
    if 4 < t then h.badParam m k 0
    else if !h.is R.PWR_STATE_BUSY && !h.pwrAllowed t then h.wrongState m k h.pwr
    else if 3 ≤ t then
      let h := h.begun m k
      ({ h with pwr' := { h.pwr' with cmd := some (m, k) } } : Hw).pwrTarget t
    else
      let h := h.pwrTarget t
      h.ok m k (h.rd R.PWR_STATE))

/-! ### REG_READ and REG_WRITE -/

/-- REG_READ; `ans` answers an access to the user register window. -/
def Hw.regReadCmd (h : Hw) (m k : Nat) (ans : UAns) : Hw :=
  h.onCmd m k 0x0003 (fun c =>
    match h.dmapRead (c.par 0 4) 4 ans with
    | (.ok v, h) => h.ok m k v
    | (.err, h) => h.complete m k stMEM_ERROR 1 0
    | (.wait, h) => h)

/-- REG_WRITE. -/
def Hw.regWriteCmd (h : Hw) (m k : Nat) (ans : UAns) : Hw :=
  h.onCmd m k 0x0004 (fun c =>
    match h.dmapWrite (c.par 0 4) (leBytes 4 (c.par 4 4)) 640 ans with
    | (.ok _, h) => h.ok m k 0
    | (.err, h) => h.complete m k stMEM_ERROR 1 0
    | (.wait, h) => h)

/-! ### MEM_READ and MEM_WRITE (R404-R406) -/

/-- One 32-bit word that lies in a tile control window or behind the Dealer map; statuses as `nodeRead`. `ans` answers an
access to the user register window. -/
def Hw.wordRead (h : Hw) (a : Nat) (ans : UAns) : Option (Nat × List Byte × Hw) :=
  match addrTarget (h.loc a) with
  | .tctl t o =>
    if h.fenced t then some (3, [], h)
    else if h.winRefused t o 4 false then some (1, [], h)
    else
      let r := h.winRead t o
      some (0, leBytes 4 r.1, r.2)
  | .dealer d =>
    (match h.dmapRead d 4 ans with
     | (.ok v, h) => some (0, leBytes 4 v, h)
     | (.err, h) => some (1, [], h)
     | (.wait, _) => none)
  | _ => some (1, [], h)

/-- One 32-bit word written there. -/
def Hw.wordWrite (h : Hw) (a : Nat) (bs : List Byte) (ans : UAns) : Option (Nat × Hw) :=
  match addrTarget (h.loc a) with
  | .tctl t o =>
    if h.fenced t then some (3, h)
    else if h.winRefused t o 4 true then some (1, h)
    else some (0, h.winWrite t o (ofLe bs))
  | .dealer d =>
    (match h.dmapWrite d bs 640 ans with
     | (.ok _, h) => some (0, h)
     | (.err, h) => some (1, h)
     | (.wait, _) => none)
  | _ => some (1, h)

/-- The pieces a transfer of the Dealer is made of: words where registers are reached, else pieces of one granule. -/
def Hw.dealerPieces (h : Hw) (a n : Nat) (wr : Bool) : List (Bool × Nat × Nat) :=
  ((pieces a n).map (fun p =>
    if h.pieceStatus p.1 p.2 wr = 5 then (List.range (p.2 / 4)).map (fun i => (true, p.1 + 4 * i, 4))
    else [(false, p.1, p.2)])).flatten

/-- The user register port's answer to an access at global address `a`: none listed means no port (R320). -/
def ansAt (l : List (Nat × UAns)) (a : Nat) : UAns := ((l.find? (fun e => e.1 == a)).map (fun e => e.2)).getD .noPort

/-- Read the pieces in order; the first that fails ends the transfer. -/
def Hw.readPieces (far : Memory) (ans : Nat → UAns) : List (Bool × Nat × Nat) → Hw → Option (Nat × List Byte × Hw)
  | [], h => some (0, [], h)
  | (w, a, n) :: ps, h =>
    match if w then h.wordRead a (ans a) else h.nodeRead 640 a n far with
    | none => none
    | some (0, bs, h) =>
      (match Hw.readPieces far ans ps h with
       | some (e, cs, h) => some (e, bs ++ cs, h)
       | none => none)
    | some (e, _, h) => some (e, [], h)

/-- Write the pieces in order; the first that fails ends the transfer. `farOk` is another seat's answer. -/
def Hw.writePieces (farOk : Bool) (ans : Nat → UAns) : List (Bool × Nat × Nat) → List Byte → Hw → Option (Nat × Hw)
  | [], _, h => some (0, h)
  | (w, a, n) :: ps, bs, h =>
    match if w then h.wordWrite a (bs.take n) (ans a) else h.dealerWrite a (bs.take n) [] farOk with
    | none => none
    | some (0, h) => Hw.writePieces farOk ans ps (bs.drop n) h
    | some (e, h) => some (e, h)

/-- MEM_ERROR, with its DETAIL (R381). -/
def Hw.memError (h : Hw) (m k d : Nat) : Hw := h.complete m k stMEM_ERROR d 0

/-- The first bad parameter of a memory command; `inl` is the longest LEN without a host buffer. -/
def memPar (c : InFlight) : Option Nat :=
  let n := c.par 8 4
  if c.par 0 8 % 4 != 0 || decide (2 ^ 48 ≤ c.par 0 8) then some 0
  else if n < 4 ∨ 2 ^ 24 < n ∨ n % 4 ≠ 0 then some 8
  else if c.par 16 8 % 4 ≠ 0 then some 16
  else none

/-- MEM_READ: to its host buffer, or with HOST 0 and LEN up to 8 in RESULT. -/
def Hw.memRead (h : Hw) (m k : Nat) (far : Memory) (ans : List (Nat × UAns)) : Hw :=
  h.onCmd m k 0x0005 (fun c =>
    match memPar c with
    | some d => h.badParam m k d
    | none =>
      let n := c.par 8 4
      let inl := c.par 16 8 == 0 && decide (n ≤ 8)
      if !(inl || h.hostOutReady m k n) then h
      else
        match Hw.readPieces far (ansAt ans) (h.dealerPieces (c.par 0 8) n false) h with
        | none => h
        | some (0, bs, h) => if inl then h.ok m k (ofLe bs) else (h.hostOut m k bs).ok m k 0
        | some (e, _, h) => h.memError m k e)

/-- MEM_WRITE: from its host buffer, or with HOST 0 and LEN up to 32 from the entry (R405). -/
def Hw.memWrite (h : Hw) (m k : Nat) (farOk : Bool) (ans : List (Nat × UAns)) : Hw :=
  h.onCmd m k 0x0006 (fun c =>
    match memPar c with
    | some d => h.badParam m k d
    | none =>
      let n := c.par 8 4
      let data := if c.par 16 8 == 0 && decide (n ≤ 32) then some ((c.entry.drop 32).take n)
        else h.hostIn m k n
      match data with
      | none => h
      | some bs =>
        match Hw.writePieces farOk (ansAt ans) (h.dealerPieces (c.par 0 8) n true) bs h with
        | none => h
        | some (0, h) => h.ok m k 0
        | some (e, h) => h.memError m k e)

/-! ### SNS_CONFIG and SNS_WAKE -/

/-- The pairs of a register block of `n` pairs. -/
def blockPairs (bs : List Byte) (n : Nat) : List (Nat × Nat) :=
  (List.range n).map (fun i => (leAt bs (8 * i) 4, leAt bs (8 * i + 4) 4))

/-- May a pair name this offset of the sensor page (R907, R908)? -/
def snsPairOk (lo hi o : Nat) : Bool :=
  decide (lo ≤ o ∧ o < hi) && o % 4 == 0 && o != 0 &&
    (match regDef? (0x40060000 + o) with
     | some r => !(r.fields.all (fun f => f.acc == .ro))
     | none => true)

/-- Read and check a register block; `go` gets its pairs. -/
def Hw.snsBlock (h : Hw) (m k a lo hi d : Nat) (far : Memory) (go : Hw → List (Nat × Nat) → Hw) : Hw :=
  match h.nodeRead 640 a 8 far with
  | none => h
  | some (0, hd, h) =>
    let n := leAt hd 0 4
    if n = 0 ∨ 1024 < n then h.badParam m k d
    else
      (match h.nodeRead 640 (a + 8) (8 * n) far with
       | none => h
       | some (0, bs, h) =>
         let ps := blockPairs bs n
         if ps.all (fun p => snsPairOk lo hi p.1) then go h ps else h.badParam m k d
       | some (e, _, h) => h.memError m k e)
  | some (e, _, h) => h.memError m k e

/-- Write the pairs in order. -/
def Hw.writePairs (h : Hw) (ps : List (Nat × Nat)) : Hw :=
  ps.foldl (fun (h : Hw) p => (h.regWrite (0x40060000 + p.1) p.2 640).2) h

/-- SNS_CONFIG. -/
def Hw.snsConfig (h : Hw) (m k : Nat) (far : Memory) : Hw :=
  h.onCmd m k 0x0200 (fun c =>
    let a := c.par 8 8
    if 2 ^ 48 ≤ a then h.badParam m k 8
    else if h.blkDown .sns 0x40060000 then h.memError m k 1
    else
      h.snsBlock m k a 0 0x3000 8 far (fun h ps =>
        let h := (List.range 40).foldl (fun (h : Hw) s => h.capDisarm s) h
        let h := (h.wr R.SNS_CH_EN 0).writePairs ps
        (h.snsEnable 0 (c.par 0 4)).ok m k 0))

/-- SNS_WAKE. -/
def Hw.snsWake (h : Hw) (m k : Nat) (far : Memory) : Hw :=
  h.onCmd m k 0x0202 (fun c =>
    let a := c.par 0 8
    if 2 ^ 48 ≤ a then h.badParam m k 0
    else h.snsBlock m k a 0x3000 0x3100 0 far (fun h ps => (h.writePairs ps).ok m k 0))

/-! ### Accesses that wait for the user register port (R319, R321) -/

/-- The requester of a window access has its answer: an error, or the data of a read. -/
def UWait.answer (w : UWait) (r : Bool × Nat × Hw) : Hw :=
  let h := r.2.2
  match w.who with
  | .dealer m k => if r.1 then h.complete m k stMEM_ERROR 1 0 else h.ok m k (if w.wr.isSome then 0 else r.2.1)
  | .tap => { h with tap := { h.tap with dbgWait := none, dbgAddr := w.a, dbgErr := r.1,
                                         dbgData := if r.1 || w.wr.isSome then h.tap.dbgData else r.2.1 } }
  | .packet p =>
    if r.1 then h.answer p p.dstNode 1 [] []
    else if w.wr.isSome then h.answer p p.dstNode 0 [] []
    else h.answer p p.dstNode 0 (leBytes 4 r.2.1) [false]

/-- The access that a requester makes, with the state in which it waits; none where it makes none there. -/
def Hw.uregTake (h : Hw) (f : UFrom) (a : Nat) (wr : Option Nat) : Option (UWait × Hw) :=
  match f with
  | .dealer m k => (match h.cmd? m k with
    | some c =>
      if c.started || c.par 0 4 != a || c.opcode != (if wr.isSome then 4 else 3) then none
      else some (⟨a, wr, .dealer m k⟩, h.begun m k)
    | none => none)
  | .tap =>
    if h.tapInternal || h.tap.ir != irDBG_ACCESS || h.tap.dbgWait.isSome then none
    else some (⟨a, wr, .tap⟩, { h with tap := { h.tap with dbgWait := some (a, wr) } })
  | .packet k => (match h.pkt? k with
    | some p =>
      if p.dstSeat != h.seat || p.dstNode != 654 || p.bytes != 4 || p.op != (if wr.isSome then 2 else 1) ||
          addrTarget (h.loc p.addr) != .dealer a then none
      else some (⟨a, wr, .packet p⟩, h.dropPkt k)
    | none => none)

/-- FAB_UREG_ACCESS: an access to the window passes to the user register port, which answers at once, or keeps it waiting
(`ans` none). A port that stands still answers with an error (R25). -/
def Hw.uregAccess (h : Hw) (f : UFrom) (a : Nat) (wr : Option Nat) (ans : Option UAns) : Hw :=
  if h.busDown ∨ a < 0x60000000 ∨ 0x61000000 ≤ a ∨ a % 4 ≠ 0 then h
  else
    match h.uregTake f a wr with
    | none => h
    | some (w, h) =>
      match ans with
      | some u => w.answer (h.ureg u)
      | none =>
        if h.uregDown then w.answer (true, 0, h)
        else { h with fab := { h.fab with ureg := h.fab.ureg ++ [w] } }

/-- FAB_UREG_TIMEOUT: the oldest access has not been acknowledged within FAB_UREG_TMO.CYCLES: its requester gets an error
response, and TMO is set (R321). -/
def Hw.uregTimeout (h : Hw) : Hw :=
  match h.fab.ureg with
  | [] => h
  | w :: l =>
    let h := ({ h with fab := { h.fab with ureg := l } } : Hw).raise R.FAB_UREG_ERR_TMO 0
    w.answer (true, 0, h)

/-! ### Debug accesses (R196-R198, R202) -/

/-- An access through the test port: its data, error and address stay for Capture-DR. One that must wait is in progress
until its bank is free (R196, R445). -/
def Hw.dbgAccess (h : Hw) (a : Nat) (wr : Option Nat) (ans : UAns) : Hw :=
  let r := match wr with
    | some v => h.dmapWrite a (leBytes 4 v) srcTap ans
    | none => h.dmapRead a 4 ans
  match r with
  | (.wait, _) => { h with tap := { h.tap with dbgWait := some (a, wr) } }
  | (.err, h) => { h with tap := { h.tap with dbgWait := none, dbgAddr := a, dbgErr := true } }
  | (.ok v, h) => { h with tap := { h.tap with dbgWait := none, dbgAddr := a, dbgErr := false, dbgData := if wr.isSome then h.tap.dbgData else v } }

/-- DBG_ACCESS: an Update-DR with the issue bit set; none is taken while an access is in progress (R202). -/
def Hw.dbgAccessRow (h : Hw) (a : Nat) (wr : Option Nat) (ans : UAns) : Hw :=
  if h.tapInternal || h.tap.ir != irDBG_ACCESS || h.tap.dbgWait.isSome then h else h.dbgAccess (a % 2 ^ 32) wr ans

/-- A debug access that waited for an MRAM bank goes on (R196, R445). -/
def Hw.dbgResume (h : Hw) : Hw :=
  match h.tap.dbgWait with
  | some (a, wr) => (match dealerWin a with
    | .mram _ => h.dbgAccess a wr .noPort
    | _ => h)
  | none => h

/-- USERn is loaded, n = 1 to 4. -/
def Hw.userSel (h : Hw) (n : Nat) : Bool := !h.tapInternal && h.tap.dbgWait.isNone && decide (1 ≤ n ∧ n ≤ 4) && h.tap.ir == irUSER1 + n - 1

/-- USER_WRITE: Update-DR of USERn (R198). -/
def Hw.userWrite (h : Hw) (n v : Nat) (ans : UAns) : Hw :=
  if h.userSel n then h.dbgAccess (0x60000000 + 8 * (n - 1)) (some v) ans else h

/-- USER_READ: Capture-DR of USERn (R198). -/
def Hw.userRead (h : Hw) (n : Nat) (ans : UAns) : Hw :=
  if h.userSel n then
    let h := h.dbgAccess (0x60000000 + 8 * (n - 1) + 4) none ans
    { h with tap := { h.tap with drCap := h.tap.dbgData } }
  else h

end Sys2Proof.Machine
end

