-- ==== Sys2Proof/Machine/Sink.lean ====
section
/-!
DEFINITION. Request packets at their sinks (R692-R703, R713, R739, R778, R1150-R1157).
-/
namespace Sys2Proof.Machine

open Sys2Proof

/-- SRAM errors of tile t that a read finds: an uncorrectable one poisons its granule, and each is reported (R1151,
R1154, R1164). -/
def Hw.tileSram (h : Hw) (t : Nat) (es : List SramErr) : Hw :=
  es.foldl (fun (h : Hw) e => (h.onTile t (fun x => x.sramErr e)).errAt eMEMORY (if e.ue then 6 else 5) t) h

/-- SRAM errors of Kitty that a read finds. -/
def Hw.kittySram (h : Hw) (es : List SramErr) : Hw :=
  es.foldl (fun (h : Hw) e =>
    let h := if e.ue then { h with mem := { h.mem with kittyP := NSet.add h.mem.kittyP (e.off / 32) } } else h
    h.errAt eMEMORY (if e.ue then 8 else 7) 641) h

/-- Offset in the MRAM of a Dealer-map address. -/
def mramOff (d : Nat) : Option Nat :=
  match dealerWin d with
  | .mram o => some o
  | _ => none

/-- Errors of MRAM words that a read finds, by offset: a single-bit one is corrected and counted in CE, a double-bit one
leaves its word group unreadable (R413). -/
def Hw.mramFound (h : Hw) (es : List SramErr) : Hw :=
  es.foldl (fun (h : Hw) e =>
    if e.ue then { h with fw := { h.fw with bad := NSet.add h.fw.bad (e.off / 32) } }
    else (h.raise R.SYS_MRAM_ERR_CE 0).errAt eMRAM 1 nodeREG) h

/-- Errors found while node n's store, or the MRAM behind node 654, is accessed. -/
def Hw.sramFound (h : Hw) (n : Nat) (es : List SramErr) : Hw :=
  if n < 512 then h.tileSram n es else if n = 641 then h.kittySram es else if n = 654 then h.mramFound es else h

/-- A failed packet CRC is logged by the sink (R702). -/
def Hw.crcLog (h : Hw) (p : Packet) (bad : Bool) : Hw := if bad then h.errAddr eCRC 1 p.dstNode p.addr else h

/-- The sink's answer of a stored read or write: data of a served read; a write with a failed CRC is stored poisoned and
answered with ERROR (R702). -/
def Hw.storeServe (h : Hw) (p : Packet) (bad : Bool) : Hw :=
  if p.op = 1 then
    if bad then h.answer p p.dstNode 1 [] []
    else
      let r := h.gGet p.addr p.bytes
      r.2.2.answer p p.dstNode 0 r.1 r.2.1
  else
    let ps := if bad then p.poison.map (fun _ => true) ++ List.replicate 17 true else p.poison
    (h.gPut p.addr p.data ps).answer p p.dstNode (b2n bad) [] []

/-- A request to registers: a tile control window, or what lies behind node 654. A write with a failed CRC or poisoned
data has no effect (DESIGN CHOICE, assumption 18), nor has one whose byte parity fails (R1152). -/
def Hw.regServe (h : Hw) (p : Packet) (bad parity : Bool) (ans : UAns) : Hw :=
  let a := h.loc p.addr
  let refuse (h : Hw) : Hw := h.answer p p.dstNode 1 [] []
  if bad || p.poison.any (fun b => b) then refuse h
  else if parity && p.op == 2 then refuse (h.errAt eCRC 3 nodeREG)
  else
    match addrTarget a with
    | .tctl t o =>
      if h.winRefused t o p.bytes (p.op == 2) then refuse h
      else if p.op = 1 then
        let r := h.winRead t o
        r.2.answer p p.dstNode 0 (leBytes 4 r.1) [false]
      else (h.winWrite t o (ofLe p.data)).answer p p.dstNode 0 [] []
    | .dealer d =>
      if p.op = 1 then
        (match h.dmapRead d p.bytes ans with
         | (.ok v, h) => h.answer p p.dstNode 0 (leBytes p.bytes v) ((granules 32 d p.bytes).map (fun _ => false))
         | (_, h) => refuse h)
      else
        (match h.dmapWrite d p.data p.srcNode ans with
         | (.ok _, h) => h.answer p p.dstNode 0 [] []
         | (_, h) => refuse h)
    | _ => refuse h

/-- A request at an HBM port (R739, R778, R779). A packet that finds its queue full stays in the network. -/
def Hw.hbmServe (h : Hw) (k : Nat) (p : Packet) (bad : Bool) : Hw :=
  let a := h.loc p.addr
  let q := { p with addr := a }
  let cs := hbmChans q.hbmOff p.bytes
  match cs.find? h.frozen with
  | some c => ((h.dropPkt k).crcLog p bad).hold c q
  | none =>
    if cs.any (fun c => h.memState (c / 32) == msFAILED || h.memState (c / 32) == msOFF) then
      ((h.dropPkt k).crcLog p bad).answer p p.dstNode 1 [] []
    else if !h.hbmRoom q.hbmOff p.bytes (p.op == 2) then h
    else if bad && p.op == 1 then ((h.dropPkt k).crcLog p bad).answer p p.dstNode 1 [] []
    else ((h.dropPkt k).crcLog p bad).hbmAccept q bad

/-- The fence that a request meets at its destination: a clock loss answers under R71, a fold with FENCED. -/
def Hw.fenceAnswer (h : Hw) (p : Packet) : Hw :=
  if h.fenceMask p.dstNode % 4 != 0 then h.clockRefuse p p.dstNode else h.answer p p.dstNode 2 [] []

/-- RD or WR: request packet k reaches its sink, or the gateway to its seat. `crc`: the packet CRC fails there; `sram`: errors
that the store finds; `ans`: the user register port's answer; `parity`: the register bus parity fails. -/
def Hw.reqRow (h : Hw) (op k : Nat) (crc : Bool) (sram : List SramErr) (parity : Bool) (ans : UAns) : Hw :=
  match h.pkt? k with
  | none => h
  | some p =>
    let n := p.dstNode
    let bad := crc || p.crcBad
    if p.op != op then h
    else if p.dstSeat != h.seat then (h.dropPkt k).toGate p
    else if h.fenced n then (h.dropPkt k).fenceAnswer p
    else if 576 ≤ n ∧ n < 640 then (h.dropPkt k).portRequest n p bad
    else if 512 ≤ n ∧ n < 576 then h.hbmServe k p bad
    else
      let st := h.gStatus p.addr p.bytes (op == 2)
      if st = 3 then h
      else
        let h := ((h.dropPkt k).crcLog p bad).sramFound n sram
        if st = 5 then h.regServe p bad parity ans
        else if st = 0 then h.storeServe p bad
        else (h.gFault p.addr p.bytes).answer p n (if st = 2 then 2 else 1) [] []

/-- FOLD_REQ reaches its node once the endpoint can stop: no bin job runs there and no checkpoint is being written (R717,
R847, R985). -/
def Hw.foldReqRow (h : Hw) (n : Nat) : Hw :=
  let p := partOf n
  if n < 512 ∧ ((h.pstate p = pGRAPHICS ∧ ¬ h.gfxReleased p) ∨ h.ckBusy p) then h else h.foldReqAt n

end Sys2Proof.Machine
end

