-- ==== Sys2Proof/Machine/HostMem.lean ====
section
/-!
DEFINITION. Host memory requests through the BARs (R1058-R1068, R1077, R1079) and the host DMA engines (R372, R373,
R1070-R1073).
-/
namespace Sys2Proof.Machine

open Sys2Proof

/-! ### Where a BAR offset leads -/

/-- What a host request reaches. -/
inductive HostAt where
  /-- a global address of this seat -/
  | global (a : Nat)
  /-- a ring byte, by mailbox and offset in its window -/
  | ring (m o : Nat)
  /-- a mailbox register -/
  | mbxReg (a : Nat)
  /-- the MSI-X table of the function, by offset -/
  | msix (o : Nat)
  /-- its pending bits, by offset -/
  | pba (o : Nat)
  /-- the read-only window of BAR4, by global address -/
  | bar4 (a : Nat)
  /-- unassigned: reads 0 (R15) -/
  | unassigned
  | refused
deriving DecidableEq, Repr

/-- A window offset (R349). -/
def winAt (m o : Nat) : HostAt :=
  if o < 0x1400 then .ring m o
  else if 0x2000 ≤ o ∧ o < 0x2100 then .mbxReg (0x40020000 + 0x100 * m + (o - 0x2000))
  else .unassigned

/-- The global address of a Dealer-map address of this seat (R692). -/
def Hw.ofDealer (h : Hw) (d : Nat) : Nat := h.seat * 2 ^ 45 + 0x120000000000 + d

/-- Decode an offset of BAR `bar` (0, 2 or 4) of function `fn` (R350, R1058-R1060). -/
def Hw.hostAt (h : Hw) (fn bar o : Nat) : HostAt :=
  let s := h.seat * 2 ^ 45
  if fn = 0 then
    if bar = 0 then
      if o < 0x110000 then winAt (o / 0x10000) (o % 0x10000)
      else if 0x200000 ≤ o ∧ o < 0x200400 then .msix (o - 0x200000)
      else if 0x208000 ≤ o ∧ o < 0x208008 then .pba (o - 0x208000)
      else .unassigned
    else if bar = 2 then
      if o < 0x800000000 then .global (s + o)
      else
        let q := o - 0x800000000
        match q / 2 ^ 32 with
        | 0 => .global (s + 0x100000000000 + q)
        | 1 => .global (s + 0x110000000000 + q % 2 ^ 32)
        | 2 => if h.is R.PCIE_CTL_BAR2_DEVREG then .global (h.ofDealer (q % 2 ^ 32)) else .refused
        | _ => .refused
    else if o < 0x400000 then .bar4 (h.ofDealer o)
    else if o < 0x410000 then .bar4 (h.ofDealer (0x0F000000 + (o - 0x400000)))
    else if 0x800000 ≤ o ∧ o < 0x900000 then .bar4 (h.ofDealer (0x40000000 + (o - 0x800000)))
    else .unassigned
  else if bar = 0 then winAt (fn - 1) (o % 0x10000)
  else if bar = 2 then
    if h.get (R.NOC_ISO_SLICE_SLICE_LEN (fn - 1)) * 2 ^ 20 ≤ o then .refused
    else .global (s + (h.get (R.NOC_ISO_SLICE_SLICE_BASE (fn - 1)) * 2 ^ 20 + o) % 2 ^ 45)
  else if o < 0x80 then .msix o
  else if 0x8000 ≤ o ∧ o < 0x8008 then .pba (o - 0x8000)
  else .unassigned

/-- Memory Space Enable of a function: Command bit 1 for PF0, VF MSE of the SR-IOV control for the VFs. -/
def Hw.memEnable (h : Hw) (fn : Nat) : Bool := if fn = 0 then bit (h.cfgRd 0 4) 1 else bit (h.cfgRd 0 0x208) 3

/-- An access stays in one entry of its ring (R352). -/
def inEntry (o n : Nat) : Bool :=
  let e := if o < 0x1000 then 64 else 16
  decide (1 ≤ n ∧ n ≤ 64 ∧ o % e + n ≤ e)

/-- The source node of host accesses (R1059). -/
def srcHost : Nat := 646

/-- A refused request: logged, with PCIE_FLAGS.REFUSED (R1062). -/
def Hw.hostRefused (h : Hw) (fn : Nat) : Hw := (h.errFull ePCIE 1 srcHost none fn 1 false).raise R.PCIE_FLAGS_REFUSED 0

/-- A read refused: Completer Abort, reported through AER (R1062). -/
def Hw.hostCA (h : Hw) (fn : Nat) (done : List HostCpl) : Hw :=
  ((h.aer fn 15 1).raise R.PCIE_FLAGS_REFUSED 0).hostCpl (done ++ [⟨4, [], false⟩])

/-! ### Reads -/

/-- The completions of a served piece, of at most `mps` bytes and split at multiples of it: EP marks those that carry a
poisoned line of `ps` (R1062). -/
def cplSplit (mps a : Nat) (bs : List Byte) (ps : List Bool) : List HostCpl :=
  (chunks mps mps bs.length a bs.length).map (fun c =>
    ⟨0, (bs.drop (c.1 - a)).take c.2, (granules 32 c.1 c.2).any (fun g => listAt false ps (g - a / 32))⟩)

/-- One network request of a read: none while it waits; no data where it is refused. -/
def Hw.hostPiece (h : Hw) (fn a n : Nat) (ans : UAns) : Option (Option (List HostCpl) × Hw) :=
  match h.pieceStatus a n false with
  | 0 =>
    let r := h.gGet a n
    some (some (cplSplit (h.maxPayload fn) a r.1 r.2.1), r.2.2)
  | 3 => none
  | 5 =>
    (match addrTarget (h.loc a) with
     | .tctl t o =>
       if h.fenced t || h.winRefused t o n false then some (none, h)
       else
         let r := h.winRead t o
         some (some [⟨0, leBytes 4 r.1, false⟩], r.2)
     | .dealer d => (match h.dmapRead d n ans with
       | (.ok v, h) => some (some [⟨0, leBytes n v, false⟩], h)
       | (.err, h) => some (none, h)
       | (.wait, _) => none)
     | _ => some (none, h))
  | _ => some (none, h.gFault a n)

/-- The requests of a read in address order: completions, ending at the first refusal. -/
def Hw.hostPieces (fn : Nat) (ans : UAns) : List (Nat × Nat) → Hw → Option (List HostCpl × Bool × Hw)
  | [], h => some ([], true, h)
  | (a, n) :: ps, h =>
    match h.hostPiece fn a n ans with
    | none => none
    | some (none, h) => some ([], false, h)
    | some (some c, h) =>
      (match Hw.hostPieces fn ans ps h with
       | some (cs, good, h) => some (c ++ cs, good, h)
       | none => none)

/-- Read global memory for function `fn`. -/
def Hw.hostRead (h : Hw) (fn a n : Nat) (sram : List SramErr) (ans : UAns) : Hw :=
  let found := match addrTarget (h.loc a) with
    | .tile t _ => h.sramFound t sram
    | .kitty _ => h.sramFound 641 sram
    | .dealer d => if (mramOff d).isSome then h.sramFound 654 sram else h
    | _ => h
  match Hw.hostPieces fn ans (pieces a n) found with
  | none => h
  | some (cs, true, h) => h.hostCpl cs
  | some (cs, false, h) => h.hostCA fn cs

/-- Bytes of a table of words. -/
def wordBytes (f : Nat → Nat) (o n : Nat) : List Byte :=
  (List.range n).map (fun i => BitVec.ofNat 8 (f ((o + i) / 4 * 4) / 2 ^ (8 * ((o + i) % 4))))

/-- The pending bits of function `fn` (R377). -/
def Hw.pbaWord (h : Hw) (fn o : Nat) : Nat :=
  maskOf ((List.range 32).filter (fun b => NSet.has h.pcie.pend (fn * 64 + 8 * o + b)))

/-- A request is served at all: none while the link is down; else whether the function answers (R1057, R1077, R1079). -/
def Hw.hostServes (h : Hw) (fn : Nat) : Bool := h.fnExists fn && h.memEnable fn

/-- HOST_MEM_READ of `n` bytes at offset `o` of BAR `bar` of function `fn`. `ecrc`: the TLP fails its ECRC (R1067). -/
def Hw.hostMemRead (h : Hw) (fn bar o n : Nat) (ecrc : Bool) (sram : List SramErr) (ans : UAns) : Hw :=
  if !h.linkUp || n == 0 then h
  else if ecrc then ((h.aer (if h.fnExists fn then fn else 0) 19 2).raise R.PCIE_FLAGS_ECRC 0).hostCpl []
  else if !h.hostServes fn || (decide (1 ≤ fn) && h.bitOf R.PCIE_FLR_STAT_FLR (fn - 1)) then h.hostUR fn
  else
    match h.hostAt fn bar o with
    | .global a => h.hostRead fn a n sram ans
    | .bar4 a => h.hostRead fn a n sram ans
    | .ring m p =>
      if inEntry p n then h.hostRead fn (h.seat * 2 ^ 45 + 0x110000000000 + 0x2000 * m + p) n sram ans
      else h.hostCA fn []
    | .mbxReg a =>
      if n ≠ 4 ∨ a % 4 ≠ 0 then h.hostCA fn []
      else
        (match h.regRead a with
         | (.ok v, h) => h.hostCpl [⟨0, leBytes 4 v, false⟩]
         | (_, h) => h.hostCA fn [])
    | .msix p =>
      h.hostCpl [⟨0, wordBytes (fun w => (SMap.get msixReset h.pcie.msix (fn * 65536 + w)).toNat) p n, false⟩]
    | .pba p => h.hostCpl [⟨0, wordBytes (h.pbaWord fn) p n, false⟩]
    | .unassigned => h.hostCpl [⟨0, List.replicate n 0, false⟩]
    | .refused => h.hostCA fn []

/-! ### Writes -/

/-- One network request of a write: is it served? A write that waits keeps the whole TLP waiting. -/
def Hw.hostPut (h : Hw) (a : Nat) (bs : List Byte) (ep : Bool) (ans : UAns) : Bool × Hw :=
  match h.pieceStatus a bs.length true with
  | 0 => (true, h.gPut a bs (List.replicate 17 ep))
  | 5 =>
    if ep then (false, h)
    else
      (match addrTarget (h.loc a) with
       | .tctl t o =>
         if h.fenced t || h.winRefused t o bs.length true then (false, h) else (true, h.winWrite t o (ofLe bs))
       | .dealer d => (match h.dmapWrite d bs srcHost ans with
         | (.ok _, h) => (true, h)
         | (_, h) => (false, h))
       | _ => (false, h))
  | _ => (false, h)

/-- The requests of a write in address order; those refused are discarded (R1062). -/
def Hw.hostPuts (ep : Bool) (ans : UAns) : List (Nat × Nat) → List Byte → Hw → Bool × Hw
  | [], _, h => (true, h)
  | (a, n) :: ps, bs, h =>
    let r := h.hostPut a (bs.take n) ep ans
    let q := Hw.hostPuts ep ans ps (bs.drop n) r.2
    (r.1 && q.1, q.2)

/-- Write global memory for function `fn`. -/
def Hw.hostWrite (h : Hw) (fn a : Nat) (bs : List Byte) (ep : Bool) (ans : UAns) : Hw :=
  if (pieces a bs.length).any (fun p => h.pieceStatus p.1 p.2 true == 3) then h
  else
    let r := Hw.hostPuts ep ans (pieces a bs.length) bs h
    if r.1 then r.2 else r.2.hostRefused fn

/-- Words of the MSI-X table that a write fills whole. -/
def Hw.msixPut (h : Hw) (fn o : Nat) (bs : List Byte) : Hw :=
  let ws := (List.range (bs.length / 4)).map (fun i => (o + 4 * i, leAt bs (4 * i) 4))
  if o % 4 ≠ 0 ∨ bs.length % 4 ≠ 0 then h
  else
    let keep (e : Nat × Nat) : Nat := if e.1 % 16 = 0 then e.2 / 4 * 4 else if e.1 % 16 = 12 then e.2 % 2 else e.2
    let m := ws.foldl (fun m e => SMap.set msixReset m (fn * 65536 + e.1) (BitVec.ofNat 32 (keep e))) h.pcie.msix
    ({ h with pcie := { h.pcie with msix := m } } : Hw).msixUnmask

/-- A poisoned TLP is reported (R1066). -/
def Hw.poisonRx (h : Hw) (fn : Nat) : Hw := (h.aer fn 12 3).raise R.PCIE_FLAGS_POISON_RX 0

/-- HOST_MEM_WRITE of `bs` at offset `o` of BAR `bar` of function `fn`. `ep`: the TLP carries EP; `ecrc`: it fails its
ECRC. -/
def Hw.hostMemWrite (h : Hw) (fn bar o : Nat) (bs : List Byte) (ep ecrc : Bool) (ans : UAns) : Hw :=
  if !h.linkUp || bs.isEmpty then h
  else if ecrc then (h.aer (if h.fnExists fn then fn else 0) 19 2).raise R.PCIE_FLAGS_ECRC 0
  else if !h.hostServes fn then (h.aer (if h.fnExists fn then fn else 0) 20 5)
  else if 1 ≤ fn ∧ h.bitOf R.PCIE_FLR_STAT_FLR (fn - 1) then h
  else
    let h := if ep then h.poisonRx fn else h
    match h.hostAt fn bar o with
    | .global a => h.hostWrite fn a bs ep ans
    | .ring m p =>
      if inEntry p bs.length then h.hostWrite fn (h.seat * 2 ^ 45 + 0x110000000000 + 0x2000 * m + p) bs ep ans
      else h.hostRefused fn
    | .mbxReg a =>
      if bs.length ≠ 4 ∨ a % 4 ≠ 0 ∨ ep then h.hostRefused fn
      else
        (match h.regWrite a (ofLe bs) srcHost with
         | (.ok _, h) => h
         | (_, h) => h.hostRefused fn)
    | .msix p => if ep then h else h.msixPut fn p bs
    -- writes through BAR4 have no effect (R24); unassigned addresses take none (R15)
    | .bar4 _ => h
    | .pba _ => h
    | .unassigned => h
    | .refused => h.hostRefused fn

/-! ### DMA engines -/

/-- A command's host transfer: does it read host memory, its address and length (R372, R406, R409-R411). -/
def InFlight.dma (f : InFlight) : Option (Bool × Nat × Nat) :=
  let t (rd : Bool) (host len : Nat) : Option (Bool × Nat × Nat) := some (rd, f.par host 8, f.par len 4)
  match f.opcode with
  | 0x0005 => if f.par 16 8 == 0 && decide (f.par 8 4 ≤ 8) then none else t false 16 8
  | 0x0006 => if f.par 16 8 == 0 && decide (f.par 8 4 ≤ 32) then none else t true 16 8
  | 0x0010 => t true 0 8
  | 0x0011 => t true 0 8
  | 0x0012 => t false 8 4
  | 0x0013 => t true 8 4
  | 0x0105 => if f.par 1 1 = 1 then t true 16 24 else none
  | 0x0700 => t false 8 16
  | 0x0701 => t true 8 16
  | 0x0702 => t true 8 16
  | 0x0F00 => if f.par 2 2 = 0 then none else some (false, f.par 8 8, 32 * f.par 2 2)
  | _ => none

/-- The command has passed its checks (R382): a load its unit has begun, any other as its row will judge it. Only then
does data move for it. -/
def Hw.dmaDue (h : Hw) (f : InFlight) : Bool :=
  match f.opcode with
  | 0x0005 => (memPar f).isNone
  | 0x0006 => (memPar f).isNone
  | 0x0012 => (h.flashBad f 1 4).isNone
  | 0x0013 => (h.flashBad f 256 256).isNone
  | 0x0105 => h.loadPasses f
  | 0x0700 => true
  | 0x0701 => h.fw.cmd.isNone && (h.setBad f).isNone
  | 0x0702 => h.fw.cmd.isNone && (h.fwBad f).isNone
  | 0x0F00 => (logPar f).isNone
  | _ => f.started

/-- The oldest command that waits for an engine, in take order: one that may start under R365 and R366, or has. -/
def Hw.dmaWaiting (h : Hw) : Option InFlight :=
  (h.mbx.infl.filter (fun f => f.dma.any (fun d => d.2.2 != 0) && (h.engine f.mb f.hd).isNone &&
      (f.started || h.mayStart f) && h.dmaDue f)).foldl (fun b f => match b with
    | none => some f
    | some g => if f.seq < g.seq then some f else some g) none

/-- May DMA carry the requester ID of function `fn`: it exists, with Bus Master Enable (R1072)? -/
def Hw.dmaAllowed (h : Hw) (fn : Nat) : Bool := h.fnExists fn && h.busMaster fn

/-- Bytes for which the engine has issued reads. -/
def DmaEng.issued (g : DmaEng) : Nat := g.got.length + (g.reqs.map (fun r => r.len)).foldl (· + ·) 0

/-- Reads outstanding. -/
def DmaEng.waiting (g : DmaEng) : Nat := (g.reqs.filter (fun r => decide (r.got.length < r.len))).length

/-- Issue reads of at most `mx` bytes, none across 4 KiB, while fewer than `lim` are outstanding (R1070, R1071). -/
def DmaEng.issue (mx lim : Nat) : Nat → DmaEng → DmaEng
  | 0, g => g
  | f + 1, g =>
    match chunks mx 4096 1 (g.addr + g.issued) (g.len - g.issued) with
    | c :: _ => if g.rd ∧ g.waiting < lim then DmaEng.issue mx lim f { g with reqs := g.reqs ++ [⟨c.2, []⟩] } else g
    | [] => g

/-- An engine issues what it may. -/
def Hw.dmaIssue (h : Hw) (g : DmaEng) : DmaEng :=
  g.issue (h.maxRead (dmaFn g.mb)) (h.maxTags (dmaFn g.mb)) 96

/-- Whole reads at the head are taken, in address order. -/
def takeWhole : List Byte → List DmaReq → List Byte × List DmaReq
  | bs, r :: rs => if r.got.length < r.len then (bs, r :: rs) else takeWhole (bs ++ r.got) rs
  | bs, [] => (bs, [])

/-- Bytes of a completion for the engine's read `j`: of one read they come in address order. -/
def DmaEng.arrive (g : DmaEng) (j : Nat) (bs : List Byte) : DmaEng :=
  let rs := listUpd (fun r => { r with got := (r.got ++ bs).take r.len }) g.reqs j
  let t := takeWhole g.got rs
  { g with got := t.1, reqs := t.2 }

/-- DMA_ENGINE_ASSIGN: a free engine goes to the oldest waiting command; a DMA that may not be issued completes it
NOT_PERMITTED (R372, R1072); a load it ends gets no data (R247). -/
def Hw.dmaAssign (h : Hw) : Hw :=
  match h.dmaWaiting, (List.range 8).find? (fun e => !(h.pcie.engines.any (fun g => g.eng == e))) with
  | some f, some e =>
    let fn := dmaFn f.mb
    if !h.dmaAllowed fn then (h.complete f.mb f.hd stNOT_PERMITTED f.mb 0).loadLost
    else
      (match f.dma with
       | some (rd, a, n) =>
         let g : DmaEng := ⟨e, f.mb, f.hd, a, n, rd, [], []⟩
         { h with pcie := { h.pcie with engines := h.pcie.engines ++ [h.dmaIssue g] } }
       | none => h)
  | _, _ => h

/-- A DMA read ends with an error (R1073). -/
def Hw.dmaFail (h : Hw) (g : DmaEng) (d : Nat) : Hw := (h.complete g.mb g.hd stDMA_ERROR d 0).loadLost

/-- The read `j` of engine `e` is outstanding. -/
def DmaEng.expects (g : DmaEng) (j : Nat) : Bool := g.reqs[j]?.any (fun r => decide (r.got.length < r.len))

/-- DMA_COMPLETION for read `j` of engine `e`, counted from the oldest: status 0 success with `bs`, 1 UR, 2 CA, 3 a
timeout; `ep` marks poisoned data (R1066, R1073). The engine then issues what it may. A transfer that may not go on ends
NOT_PERMITTED (R1072). A completion that no read awaits is reported (R1069). -/
def Hw.dmaCompletion (h : Hw) (e j status : Nat) (bs : List Byte) (ep : Bool) : Hw :=
  match h.pcie.engines.find? (fun g => g.eng == e && g.expects j) with
  | none => if status = 3 ∨ ¬ h.linkUp ∨ h.pinsFrozen then h else h.aer 0 16 5
  | some g =>
    let fn := dmaFn g.mb
    if status ≠ 3 ∧ (¬ h.linkUp ∨ h.pinsFrozen) then h
    else if status = 0 ∧ ¬ ep then
      let g := g.arrive j bs
      let h := { h with pcie := { h.pcie with engines := h.pcie.engines.map (fun x => if x.eng == e then h.dmaIssue g else x) } }
      if g.issued < g.len ∧ ¬ h.dmaAllowed fn then (h.complete g.mb g.hd stNOT_PERMITTED g.mb 0).loadLost else h
    else if status = 0 then (h.poisonRx fn).dmaFail g 4
    else if status = 1 ∨ status = 2 then h.dmaFail g status
    else if status = 3 then ((h.aer fn 14 4).raise R.PCIE_FLAGS_CPL_TMO 0).dmaFail g 3
    else h

end Sys2Proof.Machine
end

