-- ==== Sys2Proof/Machine/Guards.lean ====
section
/-!
DEFINITION. Which part of the chip must run for a command to have an effect (R86, R103, R104, R131, R184), and register
writes as commands.
-/
namespace Sys2Proof.Machine

open Sys2Proof

/-- The blocks of the system domain run: the part is not in LISTEN or DEEP, neither POR nor a system reset holds them, and
SYSCLK runs (R72, R86). -/
def Hw.sysUp (h : Hw) : Bool := !h.busDown

/-- Tiles, routers and raster unit run as well: no core reset holds them (R87), and NOCCLK runs. -/
def Hw.coreUp (h : Hw) : Bool := !h.busDown && !h.heldAt false && h.nocclk

/-- The HBM controllers and their PHYs run (R50, R72). -/
def Hw.memUp (h : Hw) : Bool := !h.busDown && h.memclk

/-- A command of the system domain. -/
def State.sys (s : State) (f : Hw → Hw) : Host.Outcome State Fault Refusal :=
  s.upd (fun h => if h.sysUp then f h else h)

/-- A command of the memory stacks. -/
def State.mem (s : State) (f : Hw → Hw) : Host.Outcome State Fault Refusal :=
  s.upd (fun h => if h.memUp then f h else h)

/-- A command of the tiles, the network or the raster unit. -/
def State.core (s : State) (f : Hw → Hw) : Host.Outcome State Fault Refusal :=
  s.upd (fun h => if h.coreUp then f h else h)

/-- A command the Dealer carries out: its processor runs (R206). -/
def State.dealer (s : State) (f : Hw → Hw) : Host.Outcome State Fault Refusal :=
  s.upd (fun h => if h.dealerUp then f h else h)

/-- An event on an input pin: boundary-scan instructions keep it from system logic (R184). -/
def State.pins (s : State) (f : Hw → Hw) : Host.Outcome State Fault Refusal :=
  s.upd (fun h => if h.pinsFrozen then h else f h)

/-- An event on an input pin of a block of the system domain. -/
def State.sysPins (s : State) (f : Hw → Hw) : Host.Outcome State Fault Refusal :=
  s.upd (fun h => if h.pinsFrozen || !h.sysUp then h else f h)

/-- A write of `v` to the device register at `a` by the Dealer. -/
def Hw.regDo (h : Hw) (a v : Nat) : Hw := (h.regWrite a v 640).2

/-- A write of a word of tile `t`'s control window (R571-R579). -/
def Hw.tilWrite (h : Hw) (t o v : Nat) : Hw :=
  if 512 ≤ t ∨ h.fenced t ∨ h.winRefused t o 4 true then h else h.winWrite t o v

/-- TEN and BKEN of TIL_CTL as they stand. -/
def Hw.tilCtl (h : Hw) (t : Nat) : Nat := 256 * b2n (h.tile t).ctl.ten + 512 * b2n (h.tile t).ctl.bken

/-- PCIE_LINK_DOWN, with the level of PCIE_PERST_N (R1079). -/
def Hw.pcieDownRow (h : Hw) (low : Bool) : Hw :=
  let h := if low && !h.pinsFrozen then { h with pcie := { h.pcie with perst := false } } else h
  h.pcieDown.loadLost

end Sys2Proof.Machine
end

