-- ==== Sys2Proof/Machine/RowsConfig.lean ====
section
/-!
DEFINITION. Commands of the configuration engine (chapter 5) and the fabric (chapter 6): one meaning per command.
-/
namespace Sys2Proof.Machine

open Sys2Proof

/-- CFG_IN (R208): A complete 32-bit stream word shifted in through CFG_IN is passed to the configuration engine. -/
def execCfgIn (src : StreamSrc) (s : State) : Host.Outcome State Fault Refusal :=
  s.sys (fun (h : Hw) => h.cfgIn s.fuse src)

/-- CFG_PARTIAL (R256): A complete stream word of a partial image is passed to the configuration engine. -/
def execCfgPartial (src : StreamSrc) (s : State) : Host.Outcome State Fault Refusal :=
  s.sys (fun (h : Hw) => h.cfgPartial s.fuse src)

/-- CONFIG_START (R207): after system reset release the engine starts configuration from the BOOT_SRC source, probing
flash if selected. -/
def execConfigStart (probe : Option (Nat × Bool)) (s : State) : Host.Outcome State Fault Refusal :=
  s.sys (fun (h : Hw) => h.cfgStart probe)

/-- DATA_RECORD (R216): A DATA body record is checked and writes its frame. -/
def execDataRecord (s : State) : Host.Outcome State Fault Refusal :=
  s.sys (fun (h : Hw) => h.dataRecord)

/-- REPEAT_RECORD (R216): A REPEAT record is checked and writes the last DATA content to its frame. -/
def execRepeatRecord (s : State) : Host.Outcome State Fault Refusal :=
  s.sys (fun (h : Hw) => h.repeatRecord)

/-- END_RECORD (R223): the END record closes the body; tag and digest are verified and the image is LOADED or fails.
-/
def execEndRecord (s : State) : Host.Outcome State Fault Refusal :=
  s.sys (fun (h : Hw) => h.endRecord)

/-- CFG_STREAM_END (R247): A stream ends early on TRST_N, Test-Logic-Reset or another instruction and fails with 0x12.
-/
def execCfgStreamEnd (s : State) : Host.Outcome State Fault Refusal :=
  s.sys (fun (h : Hw) => h.streamEnd)

/-- FLASH_READ_TIMEOUT (R223): A flash read during a load gets no data for 10 ms, or returns a read error, and the
attempt fails with reason 0x15. -/
def execFlashReadTimeout (s : State) : Host.Outcome State Fault Refusal :=
  s.sys (fun (h : Hw) => h.flashTimeout)

/-- CLEAR_PASS_DONE (R239): A clear pass after a failed attempt completes and the fallback sequence picks the next
attempt or FAILED. -/
def execClearPassDone (s : State) : Host.Outcome State Fault Refusal :=
  s.sys (fun (h : Hw) => h.clearDone)

/-- DONE_RELEASE (R250): with LOADED, IDENT_OK and HBM_OK all set, the seat stops driving DONE low. -/
def execDoneRelease (s : State) : Host.Outcome State Fault Refusal :=
  s.sys (fun (h : Hw) => h.doneRelease)

/-- DONE_SEEN_HIGH (R252): 32 high DONE samples start the staged release with user outputs enabled. -/
def execDoneSeenHigh (volts : Nat) (s : State) : Host.Outcome State Fault Refusal :=
  s.sysPins (fun (h : Hw) => h.doneSeenHigh volts)

/-- RELEASE_STAGE (R252): A staged-release gap expires and the next stage (write enables, user resets, lock) runs. -/
def execReleaseStage (volts : Nat) (s : State) : Host.Outcome State Fault Refusal :=
  s.sys (fun (h : Hw) => (h.releaseStage volts).exitSettle)

/-- DONE_SEEN_LOW (R263): 32 low DONE samples return the seat to the unreleased state or signal a possible seat loss.
-/
def execDoneSeenLow (s : State) : Host.Outcome State Fault Refusal :=
  s.sysPins (fun (h : Hw) => h.doneSeenLow)

/-- PROG_N (R266): PROG_N is accepted and released, abandoning any load, clearing the fabric and restarting
configuration. -/
def execProgN (s : State) : Host.Outcome State Fault Refusal :=
  s.sysPins (fun (h : Hw) => h.cfgRestart)

/-- CFG_CTL_RESTART (R266): A keyed CFG_CTL write with RESTART acts as PROG_N. -/
def execCfgCtlRestart (s : State) : Host.Outcome State Fault Refusal :=
  s.upd (fun (h : Hw) => h.regDo R.CFG_CTL 0xC502)

/-- CFG_CTL_LOCK (R253): A write of CFG_CTL.LOCK sets the configuration lock. -/
def execCfgCtlLock (s : State) : Host.Outcome State Fault Refusal :=
  s.upd (fun (h : Hw) => h.regDo R.CFG_CTL 1)

/-- PARTIAL_FOLD_DONE (R260): the fabric ports of a partial load's regions finish folding and the regions are isolated
for writing. -/
def execPartialFoldDone (s : State) : Host.Outcome State Fault Refusal :=
  s.sys (fun (h : Hw) => h.partFoldDone)

/-- SCRUB_FRAME (R1172): every GAP×64 SYSCLK cycles the scrub reads one configuration frame and compares its CRC. -/
def execScrubFrame (upset : BitVec 2048) (s : State) : Host.Outcome State Fault Refusal :=
  s.sys (fun (h : Hw) => h.scrubFrame upset)

/-- FAB_UREG_ACCESS (R319): an access to the user register window passes to the fabric's user register port. -/
def execFabUregAccess (f : UFrom) (a : Nat) (wr : Option Nat) (ans : Option UAns) (s : State) : Host.Outcome State Fault Refusal :=
  s.sys (fun (h : Hw) => h.uregAccess f a wr ans)

/-- FAB_UREG_TIMEOUT (R321): A user register access goes unacknowledged for CYCLES and completes with an error. -/
def execFabUregTimeout (s : State) : Host.Outcome State Fault Refusal :=
  s.sys (fun (h : Hw) => h.uregTimeout)

/-- FAB_PLL_LOSS_CLEAR (R336): A write of 1 to a FAB_PLL_LOSS bit clears it and unfences the ports if the PLL held
lock. -/
def execFabPllLossClear (v : Nat) (s : State) : Host.Outcome State Fault Refusal :=
  s.upd (fun (h : Hw) => h.regDo R.FAB_PLL_LOSS v)

/-- FABRIC_PORT_TX (R315): A fabric port accepts a packet from user logic, fills its header, computes the CRC and
injects it. -/
def execFabricPortTx (i : Nat) (u : UserPkt) (s : State) : Host.Outcome State Fault Refusal :=
  s.core (fun (h : Hw) => h.portTx i u)

/-- FABRIC_PORT_RX (R317): A fabric port delivers a received packet to user logic, raising RX_POISON on failure. -/
def execFabricPortRx (k : Nat) (crc : Bool) (s : State) : Host.Outcome State Fault Refusal :=
  s.core (fun (h : Hw) => h.portRx k crc)

end Sys2Proof.Machine
end

