-- ==== Sys2Proof/Machine/RowsDevice.lean ====
section
/-!
DEFINITION. Mailbox commands of group 0x00: device, configuration and flash (chapter 7): one meaning per command.
-/
namespace Sys2Proof.Machine

open Sys2Proof

/-- NOP (R406): NOP completes with RESULT 0. -/
def execNop (at_ : NopAt) (cyc : Nat) (s : State) : Host.Outcome State Fault Refusal :=
  s.upd (fun (h : Hw) => match at_ with | .mailbox m k => (if h.dealerUp then h.nopCmd m k else h) | .core k => (if h.sysUp then h.sigInstr k 0x00 cyc else h))

/-- INFO (R406): INFO returns identity, versions, state or shell range by SEL. -/
def execInfo (m : Nat) (k : Nat) (s : State) : Host.Outcome State Fault Refusal :=
  s.dealer (fun (h : Hw) => h.info m k)

/-- RESET (R393): RESET completes OK and then writes SYS_RST_REQ at core or system level. -/
def execReset (m : Nat) (k : Nat) (s : State) : Host.Outcome State Fault Refusal :=
  s.dealer (fun (h : Hw) => h.resetCmd m k)

/-- REG_READ (R406): REG_READ returns a Dealer-map register value. -/
def execRegRead (m : Nat) (k : Nat) (ans : UAns) (s : State) : Host.Outcome State Fault Refusal :=
  s.dealer (fun (h : Hw) => h.regReadCmd m k ans)

/-- REG_WRITE (R406): REG_WRITE writes a Dealer-map register, refusing protected registers. -/
def execRegWrite (m : Nat) (k : Nat) (ans : UAns) (s : State) : Host.Outcome State Fault Refusal :=
  s.dealer (fun (h : Hw) => h.regWriteCmd m k ans)

/-- MEM_READ (R406): MEM_READ copies global memory to a host buffer or RESULT. -/
def execMemRead (m : Nat) (k : Nat) (far : Memory) (ans : List (Nat × UAns)) (s : State) : Host.Outcome State Fault Refusal :=
  s.dealer (fun (h : Hw) => h.memRead m k far ans)

/-- MEM_WRITE (R406): MEM_WRITE copies a host buffer or inline data to global memory. -/
def execMemWrite (m : Nat) (k : Nat) (farOk : Bool) (ans : List (Nat × UAns)) (s : State) : Host.Outcome State Fault Refusal :=
  s.dealer (fun (h : Hw) => h.memWrite m k farOk ans)

/-- POWER (R406): POWER writes PWR_CTL.TARGET and completes by target. -/
def execPower (m : Nat) (k : Nat) (s : State) : Host.Outcome State Fault Refusal :=
  s.dealer (fun (h : Hw) => h.powerCmd m k)

/-- IMAGE_LOAD (R406): IMAGE_LOAD streams a host image into the configuration engine. -/
def execImageLoad (m : Nat) (k : Nat) (s : State) : Host.Outcome State Fault Refusal :=
  s.dealer (fun (h : Hw) => h.imageLoad m k)

/-- PARTIAL_LOAD (R406): PARTIAL_LOAD streams a host partial image through CFG_PARTIAL. -/
def execPartialLoad (m : Nat) (k : Nat) (s : State) : Host.Outcome State Fault Refusal :=
  s.dealer (fun (h : Hw) => h.partialLoad m k)

/-- FLASH_READ (R406): FLASH_READ copies flash bytes to host memory. -/
def execFlashRead (m : Nat) (k : Nat) (obs : FlashObs) (s : State) : Host.Outcome State Fault Refusal :=
  s.dealer (fun (h : Hw) => h.flashRead m k obs)

/-- FLASH_WRITE (R406): FLASH_WRITE programs and verifies flash pages from host memory. -/
def execFlashWrite (m : Nat) (k : Nat) (obs : FlashObs) (s : State) : Host.Outcome State Fault Refusal :=
  s.dealer (fun (h : Hw) => h.flashWrite m k obs)

/-- FLASH_ERASE (R406): FLASH_ERASE erases 64 KiB flash sectors. -/
def execFlashErase (m : Nat) (k : Nat) (obs : FlashObs) (s : State) : Host.Outcome State Fault Refusal :=
  s.dealer (fun (h : Hw) => h.flashErase m k obs)

end Sys2Proof.Machine
end

