-- ==== Sys2Proof/Machine/RowsIntegrity.lean ====
section
/-!
DEFINITION. Commands of the error collector and the thermal block (chapters 22 and 23): one meaning per command.
-/
namespace Sys2Proof.Machine

open Sys2Proof

/-- ERROR_REPORT (R1159): A block's error report enters the collector and is logged, merged or counted. -/
def execErrorReport (s : State) : Host.Outcome State Fault Refusal :=
  s.upd (fun (h : Hw) => h.errorReport)

/-- THERMAL_SAMPLE (R1222): every 100 µs the sensors are sampled, checking alarms and the critical limit. -/
def execThermalSample (l : List Nat) (s : State) : Host.Outcome State Fault Refusal :=
  s.upd (fun (h : Hw) => h.thermalSample l)

/-- THERMAL_CAP_INTERVAL (R1224): every INT × 10 ms the throttle lowers or raises the thermal cap. -/
def execThermalCapInterval (s : State) : Host.Outcome State Fault Refusal :=
  s.upd (fun (h : Hw) => h.capInterval)

/-- RAIL_CHANGE (R1202): A switched rail enters or leaves tolerance, reported in THM_RAIL. -/
def execRailChange (r : Nat) (good : Bool) (s : State) : Host.Outcome State Fault Refusal :=
  s.upd (fun (h : Hw) => h.railChange r good)

end Sys2Proof.Machine
end

