-- ==== Sys2Proof/Machine/RowsMailbox.lean ====
section
/-!
DEFINITION. Commands of the mailbox block and the host DMA engines (chapter 7): one meaning per command.
-/
namespace Sys2Proof.Machine

open Sys2Proof

/-- MBX_DB_CMD (R356): A write to the command doorbell sets the producer index, if in range. -/
def execMbxDbCmd (m : Nat) (v : Nat) (s : State) : Host.Outcome State Fault Refusal :=
  s.upd (fun (h : Hw) => if m ≤ 16 then h.regDo (R.MBX_DB_CMD m) v else h)

/-- MBX_DB_CPL (R357): A write to the completion doorbell sets the consumer index, if in range. -/
def execMbxDbCpl (m : Nat) (v : Nat) (s : State) : Host.Outcome State Fault Refusal :=
  s.upd (fun (h : Hw) => if m ≤ 16 then h.regDo (R.MBX_DB_CPL m) v else h)

/-- MBX_NEXT (R359): A read of MBX_NEXT returning VALID takes the arbiter's chosen command into the Dealer. -/
def execMbxNext (s : State) : Host.Outcome State Fault Refusal :=
  s.sys (fun (h : Hw) => h.mbxNextRow)

/-- MBX_POST_GO (R401): A Dealer write posts a completion for an in-flight handle. -/
def execMbxPostGo (m : Nat) (k : Nat) (s : State) : Host.Outcome State Fault Refusal :=
  s.sys (fun (h : Hw) => h.postGoRow m k)

/-- MBX_POST_EVENT (R379): A MBX_POST_GO write with EVENT set posts an event entry or queues it. -/
def execMbxPostEvent (m : Nat) (s : State) : Host.Outcome State Fault Refusal :=
  s.sys (fun (h : Hw) => h.postEventRow m)

/-- MBX_EVENT_DEQUEUE (R379): A queued event is posted when a completion slot becomes free. -/
def execMbxEventDequeue (m : Nat) (s : State) : Host.Outcome State Fault Refusal :=
  s.sys (fun (h : Hw) => h.dequeueEvent m)

/-- MBX_CMD_TIMEOUT (R370): A command reaches MBX_CMD_TMO without completion and receives TIMEOUT. -/
def execMbxCmdTimeout (m : Nat) (k : Nat) (s : State) : Host.Outcome State Fault Refusal :=
  s.sys (fun (h : Hw) => h.cmdTimeout m k)

/-- MBX_COAL_TIMEOUT (R375): the oldest unsignalled completion has waited COAL_US and the MSI-X vector is sent. -/
def execMbxCoalTimeout (m : Nat) (s : State) : Host.Outcome State Fault Refusal :=
  s.sys (fun (h : Hw) => h.coalTimeout m)

/-- DMA_ENGINE_ASSIGN (R372): A free host DMA engine is assigned to the oldest waiting command. -/
def execDmaEngineAssign (s : State) : Host.Outcome State Fault Refusal :=
  s.sys (fun (h : Hw) => h.dmaAssign)

end Sys2Proof.Machine
end

