-- ==== Sys2Proof/Machine/RowsMem.lean ====
section
/-!
DEFINITION. Commands of the memory stacks (chapter 14): one meaning per command.
-/
namespace Sys2Proof.Machine

open Sys2Proof

/-- The Dealer's lane repair through the internal TAP master, which it took for this or holds already (R172, R754). -/
def Hw.laneRepairTap (h : Hw) (st : Nat) : Hw :=
  if !h.tapInternal then h
  else
    let h := h.laneRepair st
    if h.tap.use = some .repair then h.tapRelease else h

/-- BURST_ISSUE (R743): an HBM controller chooses and issues a burst, decoding, correcting or hammer-tracking it. -/
def execBurstIssue (c : Nat) (par : Nat) (err : List (Nat × Nat)) (s : State) : Host.Outcome State Fault Refusal :=
  s.mem (fun (h : Hw) => h.burstIssue c par err)

/-- THROTTLE_END (R772): A requester's row-hammer throttle expires. -/
def execThrottleEnd (c : Nat) (s : State) : Host.Outcome State Fault Refusal :=
  s.mem (fun (h : Hw) => h.throttleEnd c)

/-- REFRESH (R749): A per-bank or all-bank refresh interval falls due and refresh is issued. -/
def execRefresh (c : Nat) (s : State) : Host.Outcome State Fault Refusal :=
  s.mem (fun (h : Hw) => h.refresh c)

/-- REFRESH_WINDOW (R769): A refresh window starts, clearing tracker entries and lowering throttle levels. -/
def execRefreshWindow (st : Nat) (s : State) : Host.Outcome State Fault Refusal :=
  s.mem (fun (h : Hw) => h.refreshWindow st)

/-- ROW_CLOSE (R746): A row unused for 64 MEMCLK cycles is closed. -/
def execRowClose (c : Nat) (bank : Nat) (s : State) : Host.Outcome State Fault Refusal :=
  s.mem (fun (h : Hw) => h.rowClose c bank)

/-- POWER_DOWN (R746): A stack idle for PD_IDLE enters power-down. -/
def execPowerDown (st : Nat) (s : State) : Host.Outcome State Fault Refusal :=
  s.mem (fun (h : Hw) => h.powerDown st)

/-- MEM_TEMP_UPDATE (R750): every 1 ms the thermal block writes MEM_TEMP, switching the derated refresh rows. -/
def execMemTempUpdate (st : Nat) (temp : Nat) (s : State) : Host.Outcome State Fault Refusal :=
  s.sys (fun (h : Hw) => h.memTemp st temp)

/-- TEMP_STALE (R750): MEM_TEMP unwritten for 4 ms sets TEMP_STALE and forces derating. -/
def execTempStale (st : Nat) (s : State) : Host.Outcome State Fault Refusal :=
  s.sys (fun (h : Hw) => h.tempStale st)

/-- HBM_CATASTROPHIC_TEMP (R751): A stack drives its catastrophic-temperature output and is put in self-refresh with a
fatal error. -/
def execHbmCatastrophicTemp (st : Nat) (on : Bool) (s : State) : Host.Outcome State Fault Refusal :=
  s.upd (fun (h : Hw) => h.hbmHot st on)

/-- TRAINING_DONE (R752): stack training completes, enters REPAIR_HOLD or FAILED. -/
def execTrainingDone (st : Nat) (res : Option (Option (Nat × Nat))) (s : State) : Host.Outcome State Fault Refusal :=
  s.mem (fun (h : Hw) => (h.trainingDone st res).exitSettle)

/-- LANE_REPAIR (R754): the Dealer completes a lane repair and training restarts. -/
def execLaneRepair (st : Nat) (s : State) : Host.Outcome State Fault Refusal :=
  s.dealer (fun (h : Hw) => h.laneRepairTap st)

/-- RETRAIN (R791): A write of MEM_CTL.RETRAIN retrains the stack by its state. -/
def execRetrain (st : Nat) (s : State) : Host.Outcome State Fault Refusal :=
  s.upd (fun (h : Hw) => if st < 2 then h.regDo (R.MEM_CTL st) (setBit (h.rd (R.MEM_CTL st)) 0 true) else h)

end Sys2Proof.Machine
end

