-- ==== Sys2Proof/Machine/RowsNet.lean ====
section
/-!
DEFINITION. Commands of the Ethernet ports (chapter 19): one meaning per command.
-/
namespace Sys2Proof.Machine

open Sys2Proof

/-- RX_FRAME (R1007): A received Ethernet frame is checked, parsed, classified and sent to its queue or dropped. -/
def execRxFrame (n : Nat) (bs : List Byte) (far : Memory) (farOk : Bool) (s : State) : Host.Outcome State Fault Refusal :=
  s.sysPins (fun (h : Hw) => h.rxFrame n bs far farOk)

/-- RX_DESCRIPTOR_WRITE (R1027): A frame's data writes are answered and its receive descriptor is written DONE. -/
def execRxDescriptorWrite (n : Nat) (q : Nat) (farOk : Bool) (s : State) : Host.Outcome State Fault Refusal :=
  s.sys (fun (h : Hw) => h.rxDescWrite n q farOk)

/-- TX_FRAME_START (R1032): the highest eligible transmit queue starts a frame and is charged. -/
def execTxFrameStart (n : Nat) (crc : Bool) (far : Memory) (farOk : Bool) (s : State) : Host.Outcome State Fault Refusal :=
  s.sys (fun (h : Hw) => h.txStart n crc far farOk)

/-- TX_FRAME_DONE (R1027): A transmit frame leaves the port and its descriptor is written DONE. -/
def execTxFrameDone (n : Nat) (farOk : Bool) (s : State) : Host.Outcome State Fault Refusal :=
  s.sys (fun (h : Hw) => h.txDone n farOk)

/-- SHAPER_TICK (R1031): every 8 µs each shaper's count rises by RATE, clamped to BUCKET. -/
def execShaperTick (s : State) : Host.Outcome State Fault Refusal :=
  s.sys (fun (h : Hw) => h.shaperTick)

/-- FORGIVE (R1034): A write of NET_SHP_CTL.FORGIVE sets a queue's negative count to 0. -/
def execForgive (n : Nat) (q : Nat) (s : State) : Host.Outcome State Fault Refusal :=
  s.upd (fun (h : Hw) => h.regDo R.NET_SHP_CTL (1 + 256 * (n % 2) + 16 * (q % 8)))

/-- NET_PN_SHPQ_RATE (R1033): A RATE write keeps existing debt and applies from the next tick. -/
def execNetPnShpqRate (n : Nat) (q : Nat) (v : Nat) (s : State) : Host.Outcome State Fault Refusal :=
  s.upd (fun (h : Hw) => h.regDo (0x40090300 + 0x1000 * (n % 2) + 16 * (q % 8)) v)

/-- NET_PN_SHPQ_BUCKET (R1035): A BUCKET write clamps the count to the new bucket. -/
def execNetPnShpqBucket (n : Nat) (q : Nat) (v : Nat) (s : State) : Host.Outcome State Fault Refusal :=
  s.upd (fun (h : Hw) => h.regDo (0x40090304 + 0x1000 * (n % 2) + 16 * (q % 8)) v)

/-- ETH_LINK_UP (R1051): an Ethernet port's PCS gains lock (and auto-negotiation completes), setting NET_Pn_STAT.LINK
and posting LINK_CHANGE. -/
def execEthLinkUp (n : Nat) (s : State) : Host.Outcome State Fault Refusal :=
  s.sysPins (fun (h : Hw) => h.ethUp n)

/-- ETH_LINK_DOWN (R1051): an Ethernet port loses PCS lock, clearing NET_Pn_STAT.LINK and posting LINK_CHANGE. -/
def execEthLinkDown (n : Nat) (s : State) : Host.Outcome State Fault Refusal :=
  s.sys (fun (h : Hw) => h.ethDown n)

/-- NET_RULE_SLOT_TIMEOUT (R1023): A NET_RULE that has waited 1 ms without a free action slot completes NO_RESOURCE,
detail 4, and changes nothing. -/
def execNetRuleSlotTimeout (s : State) : Host.Outcome State Fault Refusal :=
  s.sys (fun (h : Hw) => h.ruleTimeout)

end Sys2Proof.Machine
end

