-- ==== Sys2Proof/Machine/TileRow.lean ====
section
/-!
DEFINITION. A wide word in its tile and partition (R535-R568, R828, R834), and the matrix write-back.
-/
namespace Sys2Proof.Machine

open Sys2Proof

/-- The counters after `n` cycles in which the word at the head of a running tile ended as `e` (R576, R834). -/
def Tile.cycles (t : Tile) (n : Nat) (e : WordEnd) : Tile :=
  let k := BitVec.ofNat 32 n
  let c : TileCtl := { t.ctl with cntRun := t.ctl.cntRun + k }
  let c : TileCtl := match e with
    | .wait .stream => { c with cntSstall := c.cntSstall + k }
    | .wait .other => { c with cntOstall := c.cntOstall + k }
    | _ => c
  { t with ctl := c }

/-- A word that waits in its CKPT instruction arrives when it can (R834 step 1). -/
def Tile.atCkpt (t : Tile) (e : WordEnd) : Tile :=
  match e with
  | .wait .other =>
    if t.ctl.arrived.isNone && wOp t.word slC == opCKPT then t.ckptArrive (cIMM (wSlot t.word slC)) else t
  | _ => t

/-- The word's fetch meets an uncorrectable error: one listed inside its 64 bytes of the instruction store (R555). -/
def fetchBad (pc : Nat) (es : List SramErr) : Bool :=
  es.any (fun e => e.ue && decide (0x50000 + 64 * pc ≤ e.off ∧ e.off < 0x50000 + 64 * pc + 64))

/-- WIDE_WORD: the word at the head of tile `t` waits, commits or faults after `n` cycles; `es` are the SRAM errors its
fetch and reads find. A tile halted FAULTED faults its partition (R828); a HALT may end the tile's part of a job
(R823). -/
def Hw.wideWord (h : Hw) (t n : Nat) (es : List SramErr) : Hw :=
  let p := partOf t
  if 512 ≤ t ∨ ¬ h.tileClk p ∨ ¬ (h.tile t).running then h
  else
    let ue := fetchBad (h.tile t).ctl.pc es
    let h := h.tileSram t es
    let r := (h.tile t).execWord ue h.seat (h.sharesOf p)
    let h := h.setTile t ((r.1.cycles n r.2).atCkpt r.2)
    let rel := ((tilesOf p).findIdx? (fun x => x == t)).getD 0
    match r.2 with
    | .fault => if r.1.ctl.st = .faulted then h.partFault p 1 rel else h
    | .done => if r.1.ctl.st = .halted ∧ r.1.ctl.why = 1 then h.jobPrep p rel else h
    | _ => h

/-- MATRIX_WRITEBACK: the oldest matrix operation of tile `t` finishes and writes its entries (R548, R557). -/
def Hw.matrixWriteback (h : Hw) (t : Nat) : Hw :=
  if 512 ≤ t ∨ ¬ h.tileClk (partOf t) then h else h.onTile t Tile.writeback

end Sys2Proof.Machine
end

