-- ==== Sys2Proof/Machine/RowsNoc.lean ====
section
/-!
DEFINITION. Commands of the network and the Fold handshake (chapter 13): one meaning per command.
-/
namespace Sys2Proof.Machine

open Sys2Proof

/-- RD (R698): A read request packet reaches its sink and is answered. -/
def execRd (k : Nat) (crc : Bool) (es : List SramErr) (ans : UAns) (s : State) : Host.Outcome State Fault Refusal :=
  s.core (fun (h : Hw) => h.reqRow 1 k crc es false ans)

/-- WR (R698): A write request packet reaches its sink, writes and is answered. -/
def execWr (k : Nat) (crc : Bool) (es : List SramErr) (parity : Bool) (ans : UAns) (s : State) : Host.Outcome State Fault Refusal :=
  s.core (fun (h : Hw) => h.reqRow 2 k crc es parity ans)

/-- RD_RSP (R703): A read response reaches the requester's NI. -/
def execRdRsp (k : Nat) (crc : Bool) (s : State) : Host.Outcome State Fault Refusal :=
  s.core (fun (h : Hw) => h.rspRow 0x81 k crc)

/-- WR_RSP (R703): A write response reaches the requester's NI. -/
def execWrRsp (k : Nat) (crc : Bool) (s : State) : Host.Outcome State Fault Refusal :=
  s.core (fun (h : Hw) => h.rspRow 0x82 k crc)

/-- FOLD_REQ (R715): FOLD_REQ reaches an NI, which stops its endpoint injecting. -/
def execFoldReq (n : Nat) (s : State) : Host.Outcome State Fault Refusal :=
  s.core (fun (h : Hw) => h.foldReqRow n)

/-- FOLD_OUT_DRAINED (R715): an NI's OUT count reaches 0 during a fold and its port is fenced. -/
def execFoldOutDrained (n : Nat) (s : State) : Host.Outcome State Fault Refusal :=
  s.core (fun (h : Hw) => h.outDrained n)

/-- FOLD_IN_DRAINED (R715): an NI's IN count reaches 0 during a fold and it sends FENCE_DONE. -/
def execFoldInDrained (n : Nat) (s : State) : Host.Outcome State Fault Refusal :=
  s.core (fun (h : Hw) => h.inDrained n)

/-- FENCE_DONE (R715): FENCE_DONE reaches the fold controller; with all received, the clock stops and FOLD_ACK is
sent. -/
def execFenceDone (n : Nat) (s : State) : Host.Outcome State Fault Refusal :=
  s.core (fun (h : Hw) => h.fenceDone n)

/-- FOLD_ACK (R715): FOLD_ACK reaches node 640 and the region is FOLDED. -/
def execFoldAck (k : Nat) (s : State) : Host.Outcome State Fault Refusal :=
  s.core (fun (h : Hw) => (h.foldAck k).pwrSettle)

/-- HEARTBEAT (R1110): A heartbeat from another seat is received, committing epochs and noting SLEEP or BUSY. -/
def execHeartbeat (k : Nat) (crc : Bool) (lost : Option Nat) (s : State) : Host.Outcome State Fault Refusal :=
  s.core (fun (h : Hw) => (h.heartbeat k crc lost).doneFollow)

/-- INTERRUPT (R698): an INTERRUPT packet is delivered to its node. -/
def execInterrupt (k : Nat) (crc : Bool) (s : State) : Host.Outcome State Fault Refusal :=
  s.core (fun (h : Hw) => h.interrupt k crc)

/-- NOC_FOLD (R715): A NOC_FOLD_REQ write with OP 0 starts a fold of a partition or fabric port. -/
def execNocFold (port : Bool) (i : Nat) (pgate : Bool) (s : State) : Host.Outcome State Fault Refusal :=
  s.core (fun (h : Hw) => h.regDo R.NOC_FOLD_REQ (i % 64 + 256 * b2n port + 16384 * b2n pgate))

/-- NOC_UNFOLD (R720): A NOC_FOLD_REQ write with OP 1 unfolds a region. -/
def execNocUnfold (port : Bool) (i : Nat) (s : State) : Host.Outcome State Fault Refusal :=
  s.core (fun (h : Hw) => h.regDo R.NOC_FOLD_REQ (i % 64 + 256 * b2n port + 32768))

/-- FOLD_TIMEOUT (R718): NOC_FOLD_TMO expires and the fold is forced. -/
def execFoldTimeout (k : Nat) (s : State) : Host.Outcome State Fault Refusal :=
  s.core (fun (h : Hw) => (h.foldTimeout k).pwrSettle)

/-- RSP_TIMEOUT (R724): A request has no response for NOC_RSP_TMO and its NI closes it with an error. -/
def execRspTimeout (n : Nat) (tag : Nat) (s : State) : Host.Outcome State Fault Refusal :=
  s.core (fun (h : Hw) => h.rspTimeout n tag)

end Sys2Proof.Machine
end

