-- ==== Sys2Proof/Machine/RowsPart.lean ====
section
/-!
DEFINITION. Partition, job, pacing and checkpoint commands (chapters 7, 12 and 15): one meaning per command.
-/
namespace Sys2Proof.Machine

open Sys2Proof

/-- PART_OPEN (R798): PART_OPEN opens a partition in compute or graphics mode from OFF or FOLDED. -/
def execPartOpen (m : Nat) (k : Nat) (s : State) : Host.Outcome State Fault Refusal :=
  s.dealer (fun (h : Hw) => h.partOpen m k)

/-- PART_FOLD (R798): PART_FOLD folds a partition and completes at FOLD_ACK. -/
def execPartFold (m : Nat) (k : Nat) (s : State) : Host.Outcome State Fault Refusal :=
  s.dealer (fun (h : Hw) => h.partFold m k)

/-- PART_OFF (R798): PART_OFF gates a FOLDED partition's power. -/
def execPartOff (m : Nat) (k : Nat) (s : State) : Host.Outcome State Fault Refusal :=
  s.dealer (fun (h : Hw) => h.partOff m k)

/-- PART_PACE (R846): PART_PACE sets floor, ceiling, band and window of the pacing governor. -/
def execPartPace (m : Nat) (k : Nat) (s : State) : Host.Outcome State Fault Refusal :=
  s.dealer (fun (h : Hw) => h.partPace m k)

/-- PART_BW (R675): PART_BW sets FCFS or SPLIT mode and bandwidth shares. -/
def execPartBw (m : Nat) (k : Nat) (s : State) : Host.Outcome State Fault Refusal :=
  s.dealer (fun (h : Hw) => h.partBw m k)

/-- PROGRAM_LOAD (R818): PROGRAM_LOAD checks and copies or stages a job image. -/
def execProgramLoad (m : Nat) (k : Nat) (far : List Byte) (s : State) : Host.Outcome State Fault Refusal :=
  s.dealer (fun (h : Hw) => h.programLoad m k far)

/-- JOB_START (R821): JOB_START runs the first fill and releases the tiles, or queues behind a running job. -/
def execJobStart (m : Nat) (k : Nat) (s : State) : Host.Outcome State Fault Refusal :=
  s.dealer (fun (h : Hw) => h.jobStart m k)

/-- CHECKPOINT (R837): CHECKPOINT stops the tiles at a word boundary and writes a checkpoint and its dummy copy. -/
def execCheckpoint (m : Nat) (k : Nat) (s : State) : Host.Outcome State Fault Refusal :=
  s.dealer (fun (h : Hw) => h.checkpoint m k)

/-- PART_STATUS (R409): PART_STATUS returns state, clock step, stall fraction and job id. -/
def execPartStatus (m : Nat) (k : Nat) (s : State) : Host.Outcome State Fault Refusal :=
  s.dealer (fun (h : Hw) => h.partStatus m k)

/-- JOB_RELEASE (R667): when every tile has finished its layer-0 fills, all tiles swap halves and start at the entry
word. -/
def execJobRelease (p : Nat) (s : State) : Host.Outcome State Fault Refusal :=
  s.core (fun (h : Hw) => h.jobRelease p)

/-- JOB_END (R670): every tile has halted and no stream operation is outstanding: the job ends and JOB_DONE is posted.
-/
def execJobEnd (p : Nat) (s : State) : Host.Outcome State Fault Refusal :=
  s.core (fun (h : Hw) => h.jobEnd p)

/-- PACING_SAMPLE (R809): every 4 µs the governor samples the tile run and stall counters. -/
def execPacingSample (p : Nat) (s : State) : Host.Outcome State Fault Refusal :=
  s.core (fun (h : Hw) => h.govSample p)

/-- PACING_WINDOW (R811): A pacing window ends and the governor steps the clock up, down or holds. -/
def execPacingWindow (p : Nat) (s : State) : Host.Outcome State Fault Refusal :=
  s.core (fun (h : Hw) => h.govWindow p)

/-- PACING_CORRECT (R813): every 1 µs the governor steps a clock lying outside its effective range toward it. -/
def execPacingCorrect (p : Nat) (s : State) : Host.Outcome State Fault Refusal :=
  s.core (fun (h : Hw) => h.govCorrect p)

/-- CHECKPOINT_WRITE (R834): all tiles have arrived at a checkpoint and their records start to be written. -/
def execCheckpointWrite (p : Nat) (s : State) : Host.Outcome State Fault Refusal :=
  s.core (fun (h : Hw) => h.ckWrite p)

/-- CHECKPOINT_COMMIT (R834): records and header written, the buffer becomes active and the dummy copy starts. -/
def execCheckpointCommit (p : Nat) (s : State) : Host.Outcome State Fault Refusal :=
  s.core (fun (h : Hw) => h.ckCommit p)

/-- DUMMY_COPY_ACK (R1120): every write of a dummy copy is answered and the partner marks the copy VALID. -/
def execDummyCopyAck (p : Nat) (partner : Bool) (mlen : Nat) (refused : Bool) (s : State) : Host.Outcome State Fault Refusal :=
  s.sys (fun (h : Hw) => h.copyAck p partner mlen refused)

end Sys2Proof.Machine
end

