-- ==== Sys2Proof/Machine/RowsPcie.lean ====
section
/-!
DEFINITION. Commands of the PCIe host interface (chapter 20): one meaning per command.
-/
namespace Sys2Proof.Machine

open Sys2Proof

/-- HOST_MEM_READ (R1064): A host memory read TLP is split into network requests and completed. -/
def execHostMemRead (fn : Nat) (bar : Nat) (o : Nat) (n : Nat) (ecrc : Bool) (es : List SramErr) (ans : UAns) (s : State) : Host.Outcome State Fault Refusal :=
  s.sysPins (fun (h : Hw) => h.hostMemRead fn bar o n ecrc es ans)

/-- HOST_MEM_WRITE (R1063): A host posted write TLP is issued to the network or its target. -/
def execHostMemWrite (fn : Nat) (bar : Nat) (o : Nat) (bs : List Byte) (ep : Bool) (ecrc : Bool) (ans : UAns) (s : State) : Host.Outcome State Fault Refusal :=
  s.sysPins (fun (h : Hw) => h.hostMemWrite fn bar o bs ep ecrc ans)

/-- CONFIG_REQUEST (R1081): A PCIe configuration request is served. -/
def execConfigRequest (fn : Nat) (off : Nat) (wr : Option Nat) (s : State) : Host.Outcome State Fault Refusal :=
  s.sysPins (fun (h : Hw) => (h.configRequest fn off wr).pwrSettle)

/-- FUNCTION_LEVEL_RESET (R1076): initiate FLR of a VF resets its mailbox and partition. -/
def execFunctionLevelReset (n : Nat) (s : State) : Host.Outcome State Fault Refusal :=
  s.sysPins (fun (h : Hw) => (h.flr n).pwrSettle)

/-- PME_TURN_OFF (R131): A PME_Turn_Off message arrives and the link goes to L2/L3 Ready. -/
def execPmeTurnOff (s : State) : Host.Outcome State Fault Refusal :=
  s.pins (fun (h : Hw) => h.pmeTurnOff)

/-- PCIE_LINK_UP (R1081): the PCIe link finishes training and first reaches L0, after which configuration requests are
served and the retained configuration space is in place. -/
def execPcieLinkUp (speed : Nat) (width : Nat) (s : State) : Host.Outcome State Fault Refusal :=
  s.pins (fun (h : Hw) => h.pcieUp speed width)

/-- PCIE_LINK_DOWN (R1082): the PCIe link goes down, closing DMA reads and discarding host requests. -/
def execPcieLinkDown (perst : Bool) (s : State) : Host.Outcome State Fault Refusal :=
  s.upd (fun (h : Hw) => h.pcieDownRow perst)

/-- DMA_COMPLETION (R1073): A completion TLP for a DMA read arrives or times out. -/
def execDmaCompletion (e : Nat) (j : Nat) (st : Nat) (bs : List Byte) (ep : Bool) (s : State) : Host.Outcome State Fault Refusal :=
  s.sys (fun (h : Hw) => h.dmaCompletion e j st bs ep)

end Sys2Proof.Machine
end

