-- ==== Sys2Proof/Machine/RowsRaster.lean ====
section
/-!
DEFINITION. Commands of the raster unit and the display (chapter 18): one meaning per command.
-/
namespace Sys2Proof.Machine

open Sys2Proof

/-- PASS (R961): A PASS list entry starts a pass in TILED, IMMEDIATE or AUTO mode. -/
def execPass (far : Memory) (s : State) : Host.Outcome State Fault Refusal :=
  s.core (fun (h : Hw) => h.gfxPass far)

/-- SHADER (R975): A SHADER list entry waits for idle and copies a shader image into graphics tiles. -/
def execShader (far : Memory) (s : State) : Host.Outcome State Fault Refusal :=
  s.core (fun (h : Hw) => h.gfxShader far)

/-- DRAW (R957): A DRAW list entry fetches, sets up and bins or tests its triangles. -/
def execDraw (far : Memory) (s : State) : Host.Outcome State Fault Refusal :=
  s.core (fun (h : Hw) => h.gfxDraw far)

/-- BIN_JOB_START (R971): the raster unit gives a bin job to the longest-waiting HALTED graphics tile. -/
def execBinJobStart (far : Memory) (s : State) : Host.Outcome State Fault Refusal :=
  s.core (fun (h : Hw) => h.binJobStart far)

/-- WAVE_RECORD_WRITE (R973): with room in the wave ring, the unit writes the next wave record. -/
def execWaveRecordWrite (t : Nat) (far : Memory) (farOk : Bool) (s : State) : Host.Outcome State Fault Refusal :=
  s.core (fun (h : Hw) => h.waveRecordWrite t far farOk)

/-- BIN_JOB_STORE (R971): the shader has halted and the unit stores the bin buffer to the targets. -/
def execBinJobStore (t : Nat) (farOk : Bool) (s : State) : Host.Outcome State Fault Refusal :=
  s.core (fun (h : Hw) => h.binJobStore t farOk)

/-- GFX_RELEASE (R985): no bin job runs on a folding graphics partition, and the unit releases it to the Fold. -/
def execGfxRelease (q : Nat) (s : State) : Host.Outcome State Fault Refusal :=
  s.core (fun (h : Hw) => h.gfxRelease q)

/-- GFX_AUTO_CLR (R964): A GFX_AUTO_CLR write clears AUTO history VALID bits. -/
def execGfxAutoClr (v : Nat) (s : State) : Host.Outcome State Fault Refusal :=
  s.upd (fun (h : Hw) => h.regDo R.GFX_AUTO_CLR v)

/-- VBLANK (R993): vertical blanking starts and pending plane settings take effect. -/
def execVblank (s : State) : Host.Outcome State Fault Refusal :=
  s.sys (fun (h : Hw) => h.vblank)

/-- SCANOUT_UNDERFLOW (R994): scan-out data misses a pixel; black to line end and UNDERFLOW set. -/
def execScanoutUnderflow (poisoned : Bool) (s : State) : Host.Outcome State Fault Refusal :=
  s.sys (fun (h : Hw) => h.scanUnderflow poisoned)

/-- HPD_UNPLUG (R995): DP_HPD low for 2 ms takes the link down to NO_SINK. -/
def execHpdUnplug (s : State) : Host.Outcome State Fault Refusal :=
  s.sysPins (fun (h : Hw) => h.hpdUnplug)

/-- IRQ_HPD (R995): A short HPD pulse makes the source read DPCD and retrain if needed. -/
def execIrqHpd (lost : Bool) (trained : Bool) (s : State) : Host.Outcome State Fault Refusal :=
  s.sysPins (fun (h : Hw) => h.irqHpd lost trained)

/-- HPD_PLUG (R995): DP_HPD rises after an unplug and LINK_CHANGE is posted. -/
def execHpdPlug (s : State) : Host.Outcome State Fault Refusal :=
  s.sysPins (fun (h : Hw) => h.hpdPlug)

/-- DPY_AUX_GO (R1002): A write of DPY_AUX_CTL.GO starts an AUX transaction. -/
def execDpyAuxGo (v : Nat) (s : State) : Host.Outcome State Fault Refusal :=
  s.upd (fun (h : Hw) => h.regDo R.DPY_AUX_CTL (setBit v 31 true))

/-- DPY_AUX_DONE (R1002): an AUX transaction started by DPY_AUX_CTL.GO ends with an ACK, NACK or DEFER reply or a 400
µs timeout, clearing GO and setting DPY_AUX_STAT.REPLY. -/
def execDpyAuxDone (reply : Nat) (data : List Byte) (s : State) : Host.Outcome State Fault Refusal :=
  s.sys (fun (h : Hw) => h.auxDone reply data)

end Sys2Proof.Machine
end

