-- ==== Sys2Proof/Machine/RowsSensor.lean ====
section
/-!
DEFINITION. Commands of the sensor front end (chapter 16): one meaning per command.
-/
namespace Sys2Proof.Machine

open Sys2Proof

/-- SNS_OUTPUT_SAMPLE (R863): A decimation chain delivers an output sample, ranging, beam summing and capture follow.
-/
def execSnsOutputSample (g : Nat) (pdm : List Nat) (s : State) : Host.Outcome State Fault Refusal :=
  s.upd (fun (h : Hw) => h.snsSample g pdm)

/-- SNS_TRIG (R885): A write of an SNS_TRIG bit gives a SOFT trigger to a capture unit. -/
def execSnsTrig (mask : Nat) (s : State) : Host.Outcome State Fault Refusal :=
  s.upd (fun (h : Hw) => (h.regDo R.SNS_TRIG_LO (mask % 2 ^ 32)).regDo R.SNS_TRIG_HI (mask / 2 ^ 32 % 2 ^ 32))

/-- CAPTURE_BLOCK_COMPLETE (R883): A capture block's writes are answered and WIDX increments. -/
def execCaptureBlockComplete (u : Nat) (farOk : Bool) (s : State) : Host.Outcome State Fault Refusal :=
  s.sys (fun (h : Hw) => h.capBlockDone u farOk)

/-- WAKE_FRAME (R895): A wake detector frame ends; floors update and wake may be declared. -/
def execWakeFrame (pdm : List Nat) (s : State) : Host.Outcome State Fault Refusal :=
  s.upd (fun (h : Hw) => h.wakeFrameRow pdm)

end Sys2Proof.Machine
end

