-- ==== Sys2Proof/Machine/RowsSignal.lean ====
section
/-!
DEFINITION. Commands of the signal engine and its instructions (chapter 17): one meaning per command.
-/
namespace Sys2Proof.Machine

open Sys2Proof

/-- SIG_TRIGGER (R935): A trigger reaches an armed signal core and starts, queues or restarts a run. -/
def execSigTrigger (k : Nat) (s : State) : Host.Outcome State Fault Refusal :=
  s.sys (fun (h : Hw) => h.sigTriggerRow k)

/-- SIG_SOFT (R951): A write of SIG_SOFT gives SOFT triggers to cores. -/
def execSigSoft (mask : Nat) (s : State) : Host.Outcome State Fault Refusal :=
  s.upd (fun (h : Hw) => h.regDo R.SIG_SOFT mask)

/-- SIG_RUN_END (R935): A core's HALT has committed and its transfers are done; the run ends. -/
def execSigRunEnd (k : Nat) (cyc : Nat) (s : State) : Host.Outcome State Fault Refusal :=
  s.sys (fun (h : Hw) => h.sigRunEnd k cyc)

/-- SIG_TRANSFER_RESPONSE (R941): A signal-core GET, PUT or SIGNAL transfer receives its response. -/
def execSigTransferResponse (tag : Nat) (s : State) : Host.Outcome State Fault Refusal :=
  s.sys (fun (h : Hw) => h.sigResponse tag)

/-- SIG_COREK_MDATA (R950): an access to SIG_COREk_MDATA reads or writes a core memory word and increments WORD. -/
def execSigCorekMdata (k : Nat) (wr : Option Nat) (s : State) : Host.Outcome State Fault Refusal :=
  s.upd (fun (h : Hw) => if 16 ≤ k then h else match wr with | none => (h.regRead (R.SIG_CORE_MDATA k)).2 | some v => h.regDo (R.SIG_CORE_MDATA k) v)

/-- FMAC (R921): fused multiply-add rounded once under RHU. -/
def execFmac (k : Nat) (cyc : Nat) (s : State) : Host.Outcome State Fault Refusal :=
  s.sys (fun (h : Hw) => h.sigInstr k 0x01 cyc)

/-- FMSC (R918): fused negated multiply-add. -/
def execFmsc (k : Nat) (cyc : Nat) (s : State) : Host.Outcome State Fault Refusal :=
  s.sys (fun (h : Hw) => h.sigInstr k 0x02 cyc)

/-- FMUL (R918): FP32 multiply. -/
def execFmul (k : Nat) (cyc : Nat) (s : State) : Host.Outcome State Fault Refusal :=
  s.sys (fun (h : Hw) => h.sigInstr k 0x03 cyc)

/-- FADD (R918): FP32 add. -/
def execFadd (k : Nat) (cyc : Nat) (s : State) : Host.Outcome State Fault Refusal :=
  s.sys (fun (h : Hw) => h.sigInstr k 0x04 cyc)

/-- FSUB (R918): FP32 subtract. -/
def execFsub (k : Nat) (cyc : Nat) (s : State) : Host.Outcome State Fault Refusal :=
  s.sys (fun (h : Hw) => h.sigInstr k 0x05 cyc)

/-- FABS (R918): clear sign bit. -/
def execFabs (k : Nat) (cyc : Nat) (s : State) : Host.Outcome State Fault Refusal :=
  s.sys (fun (h : Hw) => h.sigInstr k 0x06 cyc)

/-- FNEG (R918): invert sign bit. -/
def execFneg (k : Nat) (cyc : Nat) (s : State) : Host.Outcome State Fault Refusal :=
  s.sys (fun (h : Hw) => h.sigInstr k 0x07 cyc)

/-- FMIN (R918): FP32 minimum. -/
def execFmin (k : Nat) (cyc : Nat) (s : State) : Host.Outcome State Fault Refusal :=
  s.sys (fun (h : Hw) => h.sigInstr k 0x08 cyc)

/-- FMAX (R918): FP32 maximum. -/
def execFmax (k : Nat) (cyc : Nat) (s : State) : Host.Outcome State Fault Refusal :=
  s.sys (fun (h : Hw) => h.sigInstr k 0x09 cyc)

/-- FCMP (R919): FP32 compare setting LT, EQ, UN. -/
def execFcmp (k : Nat) (cyc : Nat) (s : State) : Host.Outcome State Fault Refusal :=
  s.sys (fun (h : Hw) => h.sigInstr k 0x0A cyc)

/-- FCVTQ (R918): Q1.23 to FP32. -/
def execFcvtq (k : Nat) (cyc : Nat) (s : State) : Host.Outcome State Fault Refusal :=
  s.sys (fun (h : Hw) => h.sigInstr k 0x0B cyc)

/-- FCVTF (R918): FP32 to Q1.23 under RHU. -/
def execFcvtf (k : Nat) (cyc : Nat) (s : State) : Host.Outcome State Fault Refusal :=
  s.sys (fun (h : Hw) => h.sigInstr k 0x0C cyc)

/-- FRCP (R918): approximate reciprocal. -/
def execFrcp (k : Nat) (cyc : Nat) (s : State) : Host.Outcome State Fault Refusal :=
  s.sys (fun (h : Hw) => h.sigInstr k 0x0D cyc)

/-- FRSQRT (R918): approximate reciprocal square root. -/
def execFrsqrt (k : Nat) (cyc : Nat) (s : State) : Host.Outcome State Fault Refusal :=
  s.sys (fun (h : Hw) => h.sigInstr k 0x0E cyc)

/-- IADD (R918): integer add. -/
def execIadd (k : Nat) (cyc : Nat) (s : State) : Host.Outcome State Fault Refusal :=
  s.sys (fun (h : Hw) => h.sigInstr k 0x20 cyc)

/-- ISUB (R918): integer subtract. -/
def execIsub (k : Nat) (cyc : Nat) (s : State) : Host.Outcome State Fault Refusal :=
  s.sys (fun (h : Hw) => h.sigInstr k 0x21 cyc)

/-- IAND (R918): integer AND. -/
def execIand (k : Nat) (cyc : Nat) (s : State) : Host.Outcome State Fault Refusal :=
  s.sys (fun (h : Hw) => h.sigInstr k 0x22 cyc)

/-- IOR (R918): integer OR. -/
def execIor (k : Nat) (cyc : Nat) (s : State) : Host.Outcome State Fault Refusal :=
  s.sys (fun (h : Hw) => h.sigInstr k 0x23 cyc)

/-- ISHL (R918): integer shift left. -/
def execIshl (k : Nat) (cyc : Nat) (s : State) : Host.Outcome State Fault Refusal :=
  s.sys (fun (h : Hw) => h.sigInstr k 0x24 cyc)

/-- ISHR (R918): integer shift right. -/
def execIshr (k : Nat) (cyc : Nat) (s : State) : Host.Outcome State Fault Refusal :=
  s.sys (fun (h : Hw) => h.sigInstr k 0x25 cyc)

/-- IMOV (R918): load sign-extended immediate. -/
def execImov (k : Nat) (cyc : Nat) (s : State) : Host.Outcome State Fault Refusal :=
  s.sys (fun (h : Hw) => h.sigInstr k 0x26 cyc)

/-- ICMP (R919): signed integer compare. -/
def execIcmp (k : Nat) (cyc : Nat) (s : State) : Host.Outcome State Fault Refusal :=
  s.sys (fun (h : Hw) => h.sigInstr k 0x27 cyc)

/-- SETA (R924): load address-generator settings. -/
def execSeta (k : Nat) (cyc : Nat) (s : State) : Host.Outcome State Fault Refusal :=
  s.sys (fun (h : Hw) => h.sigInstr k 0x28 cyc)

/-- MOVA (R918): move r to an address register. -/
def execMova (k : Nat) (cyc : Nat) (s : State) : Host.Outcome State Fault Refusal :=
  s.sys (fun (h : Hw) => h.sigInstr k 0x29 cyc)

/-- MOVR (R918): move an address register to r. -/
def execMovr (k : Nat) (cyc : Nat) (s : State) : Host.Outcome State Fault Refusal :=
  s.sys (fun (h : Hw) => h.sigInstr k 0x2A cyc)

/-- LOOP (R927): start a zero-overhead loop. -/
def execLoop (k : Nat) (cyc : Nat) (s : State) : Host.Outcome State Fault Refusal :=
  s.sys (fun (h : Hw) => h.sigInstr k 0x40 cyc)

/-- SIG_BR (R920): signal-core conditional branch. -/
def execSigBr (k : Nat) (cyc : Nat) (s : State) : Host.Outcome State Fault Refusal :=
  s.sys (fun (h : Hw) => h.sigInstr k 0x41 cyc)

/-- SIG_JMP (R920): signal-core jump. -/
def execSigJmp (k : Nat) (cyc : Nat) (s : State) : Host.Outcome State Fault Refusal :=
  s.sys (fun (h : Hw) => h.sigInstr k 0x42 cyc)

/-- SIG_CALL (R920): signal-core call pushing the return stack. -/
def execSigCall (k : Nat) (cyc : Nat) (s : State) : Host.Outcome State Fault Refusal :=
  s.sys (fun (h : Hw) => h.sigInstr k 0x43 cyc)

/-- RET (R920): signal-core return popping the return stack. -/
def execRet (k : Nat) (cyc : Nat) (s : State) : Host.Outcome State Fault Refusal :=
  s.sys (fun (h : Hw) => h.sigInstr k 0x44 cyc)

/-- SIG_HALT (R935): signal-core HALT ending the run. -/
def execSigHalt (k : Nat) (cyc : Nat) (s : State) : Host.Outcome State Fault Refusal :=
  s.sys (fun (h : Hw) => h.sigInstr k 0x45 cyc)

/-- WAITT (R918): wait until no transfer is outstanding. -/
def execWaitt (k : Nat) (cyc : Nat) (s : State) : Host.Outcome State Fault Refusal :=
  s.sys (fun (h : Hw) => h.sigInstr k 0x46 cyc)

/-- GET (R941): issue a transfer from global space into X, Y or C. -/
def execGet (k : Nat) (cyc : Nat) (s : State) : Host.Outcome State Fault Refusal :=
  s.sys (fun (h : Hw) => h.sigInstr k 0x60 cyc)

/-- PUT (R941): issue a transfer from X or Y to global space. -/
def execPut (k : Nat) (cyc : Nat) (s : State) : Host.Outcome State Fault Refusal :=
  s.sys (fun (h : Hw) => h.sigInstr k 0x61 cyc)

/-- SIGNAL (R943): write r[B] to a global address after older PUTs. -/
def execSignal (k : Nat) (cyc : Nat) (s : State) : Host.Outcome State Fault Refusal :=
  s.sys (fun (h : Hw) => h.sigInstr k 0x62 cyc)

end Sys2Proof.Machine
end

