-- ==== Sys2Proof/Machine/RowsSystem.lean ====
section
/-!
DEFINITION. Commands of the system block: clocks (chapter 2), resets and power states (chapter 3): one meaning per command.
-/
namespace Sys2Proof.Machine

open Sys2Proof

/-- REGISTER_WRITE (R10): A write to a device register with no row of its own: applied whole, in source-id order
within a cycle, under the field's access code. -/
def execRegisterWrite (ws : List RegWr) (s : State) : Host.Outcome State Fault Refusal :=
  s.upd (fun (h : Hw) => h.registerWrites ws)

/-- MONITOR_WINDOW (R68): A 240-cycle AOCLK window of a clock monitor ends and the input's count is judged against its
limits, raising MARG or LOST events. -/
def execMonitorWindow (i : Nat) (n : Nat) (s : State) : Host.Outcome State Fault Refusal :=
  s.upd (fun (h : Hw) => (h.monitorWindow i n).doneFollow)

/-- XTAL32_WINDOW (R67): 3,072 AOCLK cycles pass without an XTAL32 rising edge and count as one window outside limits.
-/
def execXtal32Window (s : State) : Host.Outcome State Fault Refusal :=
  s.upd (fun (h : Hw) => h.xtalWindow)

/-- XTAL32_RISING_EDGE (R67): A rising edge of XTAL32 restarts its monitor count and ends a run of out-of-limit
windows, so the crystal counts as back. -/
def execXtal32RisingEdge (s : State) : Host.Outcome State Fault Refusal :=
  s.upd (fun (h : Hw) => h.xtalEdge)

/-- PLL_LOCK_LOSS (R70): A PLL or partition clock generator loses lock and the part applies that PLL's row of
consequences. -/
def execPllLockLoss (p : Nat) (s : State) : Host.Outcome State Fault Refusal :=
  s.upd (fun (h : Hw) => (h.pllLoss p).doneFollow)

/-- PLL_LOCK_HELD (R70): A PCIe, audio or display PLL has held lock for 10 µs and its node's fence is removed. -/
def execPllLockHeld (p : Nat) (s : State) : Host.Outcome State Fault Refusal :=
  s.upd (fun (h : Hw) => h.pllHeld p)

/-- CLOCK_LOSS_CLEAR (R73): A write of 1 to a LOST flag of SYS_CLK_LOSS clears it and removes the clock-loss fence if
the input has been good. -/
def execClockLossClear (v : Nat) (s : State) : Host.Outcome State Fault Refusal :=
  s.upd (fun (h : Hw) => h.regDo R.SYS_CLK_LOSS v)

/-- STEP_COMPLETE (R63): A partition clock step finishes slewing, and a held step starts. -/
def execStepComplete (p : Nat) (s : State) : Host.Outcome State Fault Refusal :=
  s.sys (fun (h : Hw) => h.stepDone p)

/-- TABLE_TIME_FORWARD (R61): every 64 SYSCLK cycles the table-time value is forwarded to the Ethernet, link, sensor
and memory domain counters. -/
def execTableTimeForward (n : Nat) (s : State) : Host.Outcome State Fault Refusal :=
  s.sys (fun (h : Hw) => h.timeForwards n)

/-- POR_DETECT (R102): VDD_AO falls below the detector threshold and POR is asserted. -/
def execPorDetect (s : State) : Host.Outcome State Fault Refusal :=
  s.fuseCut.upd (fun (h : Hw) => h.porDetect)

/-- POR_RELEASE (R102): 1 ms after VDD_AO rises above its threshold, POR is released, eFuses are loaded and the system
PLL starts. -/
def execPorRelease (s : State) : Host.Outcome State Fault Refusal :=
  .next ({ s with hw := s.hw.porReleaseRow } : State).porLoad

/-- RESET_PIN_ASSERT (R98): A reset pin sampled low on 8 consecutive AOCLK cycles is accepted as a request of its
reset level. -/
def execResetPinAssert (p : Nat) (s : State) : Host.Outcome State Fault Refusal :=
  s.upd (fun (h : Hw) => h.pinAssert p)

/-- RESET_PIN_GLITCH (R100): A low pulse on a reset pin ends before acceptance and increments its glitch counter. -/
def execResetPinGlitch (p : Nat) (s : State) : Host.Outcome State Fault Refusal :=
  s.upd (fun (h : Hw) => h.pinGlitch p)

/-- RESET_PIN_RELEASE (R101): an accepted reset pin is sampled high on 8 consecutive cycles and the release sequence
starts. -/
def execResetPinRelease (p : Nat) (s : State) : Host.Outcome State Fault Refusal :=
  .next ({ s with hw := s.hw.pinRelease p } : State).porLoad

/-- SYSTEM_RESET (R103): A system reset runs its release sequence: cause recorded, HBM kept if MEM_KEEP, blocks held
and released in order. -/
def execSystemReset (seat : Nat) (boot : Nat) (s : State) : Host.Outcome State Fault Refusal :=
  s.upd (fun (h : Hw) => h.systemReset seat boot)

/-- CORE_RESET (R104): A core reset holds and releases the Dealer, tiles, routers and raster unit, leaving partitions
OFF. -/
def execCoreReset (volts : Nat) (s : State) : Host.Outcome State Fault Refusal :=
  s.upd (fun (h : Hw) => h.coreReset volts)

/-- RESET_PEND_NOCLK_START (R94): A reset pending for SYSCLK starts once REFCLK is good for two windows and the system
PLL has locked. -/
def execResetPendNoclkStart (s : State) : Host.Outcome State Fault Refusal :=
  s.upd (fun (h : Hw) => h.noclkStart)

/-- RESET_NV_DELAY_END (R117): A reset delayed by an MRAM or eFuse write pulse proceeds when the pulse ends. -/
def execResetNvDelayEnd (s : State) : Host.Outcome State Fault Refusal :=
  .next ({ s with hw := s.hw.nvDelayEnd } : State).porLoad

/-- WDT_TIMEOUT (R90): the Dealer watchdog count reaches TIMEOUT and requests a system reset. -/
def execWdtTimeout (ms : Nat) (s : State) : Host.Outcome State Fault Refusal :=
  s.upd (fun (h : Hw) => h.wdtTimeout ms)

/-- SYS_WDT_KICK (R160): A write of 0x5EED restarts the watchdog count. -/
def execSysWdtKick (v : Nat) (s : State) : Host.Outcome State Fault Refusal :=
  s.upd (fun (h : Hw) => h.regDo R.SYS_WDT_KICK v)

/-- SYS_RST_REQ_CORE (R158): A keyed write with LEVEL 0b01 requests a core reset. -/
def execSysRstReqCore (s : State) : Host.Outcome State Fault Refusal :=
  s.upd (fun (h : Hw) => h.regDo R.SYS_RST_REQ 0x5A01)

/-- SYS_RST_REQ_SYSTEM (R158): A keyed write with LEVEL 0b10 requests a system reset. -/
def execSysRstReqSystem (s : State) : Host.Outcome State Fault Refusal :=
  s.upd (fun (h : Hw) => h.regDo R.SYS_RST_REQ 0x5A02)

/-- PWR_TARGET_RUN (R126): A PWR_CTL write of TARGET RUN returns the part to RUN from IDLE or PARK. -/
def execPwrTargetRun (tmo : Nat) (s : State) : Host.Outcome State Fault Refusal :=
  s.upd (fun (h : Hw) => h.regDo R.PWR_CTL (tmo % 256 * 256 + pwrRUN))

/-- PWR_TARGET_IDLE (R124): A PWR_CTL write of TARGET IDLE gates every tile clock. -/
def execPwrTargetIdle (tmo : Nat) (s : State) : Host.Outcome State Fault Refusal :=
  s.upd (fun (h : Hw) => h.regDo R.PWR_CTL (tmo % 256 * 256 + pwrIDLE))

/-- PWR_TARGET_PARK (R127): A PWR_CTL write of TARGET PARK folds every open partition and gates fabric clocks. -/
def execPwrTargetPark (tmo : Nat) (s : State) : Host.Outcome State Fault Refusal :=
  s.upd (fun (h : Hw) => h.regDo R.PWR_CTL (tmo % 256 * 256 + pwrPARK))

/-- PWR_TARGET_LISTEN (R131): A PWR_CTL write of TARGET LISTEN starts the entry to LISTEN up to the PME_Turn_Off wait.
-/
def execPwrTargetListen (tmo : Nat) (s : State) : Host.Outcome State Fault Refusal :=
  s.upd (fun (h : Hw) => h.regDo R.PWR_CTL (tmo % 256 * 256 + pwrLISTEN))

/-- PWR_TARGET_DEEP (R135): A PWR_CTL write of TARGET DEEP starts entry to DEEP through steps 1 to 4 of the LISTEN
entry. -/
def execPwrTargetDeep (tmo : Nat) (s : State) : Host.Outcome State Fault Refusal :=
  s.upd (fun (h : Hw) => h.regDo R.PWR_CTL (tmo % 256 * 256 + pwrDEEP))

/-- PWR_HELD_TARGET_APPLY (R149): A PWR_CTL write held during a transition is applied when the running transition
ends. -/
def execPwrHeldTargetApply (s : State) : Host.Outcome State Fault Refusal :=
  s.upd (fun (h : Hw) => h.pwrHeldApply)

/-- LISTEN_L2_READY (R131): the PCIe link reaches L2/L3 Ready and the LISTEN or DEEP entry completes its power-down
steps. -/
def execListenL2Ready (s : State) : Host.Outcome State Fault Refusal :=
  s.upd (fun (h : Hw) => h.listenL2)

/-- LISTEN_ABORT (R132): PCIE_TMO expires without PME_Turn_Off and the entry is abandoned back to RUN. -/
def execListenAbort (s : State) : Host.Outcome State Fault Refusal :=
  s.upd (fun (h : Hw) => h.listenAbort)

/-- LISTEN_DEEP_TIMEOUT (R167): PWR_LD_TMO seconds pass in LISTEN without a wake and the part moves to DEEP. -/
def execListenDeepTimeout (s : State) : Host.Outcome State Fault Refusal :=
  s.upd (fun (h : Hw) => h.listenDeep)

/-- WAKE_EXIT (R144): A wake event in LISTEN or DEEP starts the exit sequence back to RUN. -/
def execWakeExit (s : State) : Host.Outcome State Fault Refusal :=
  s.upd (fun (h : Hw) => h.wakeExit)

/-- WAKE_EXIT_CLOCKS_GOOD (R144): during an exit, REFCLK becomes good and the PLLs lock, and the exit continues to
RUN. -/
def execWakeExitClocksGood (ticks : Nat) (seat : Nat) (boot : Nat) (volts : Nat) (s : State) : Host.Outcome State Fault Refusal :=
  s.upd (fun (h : Hw) => h.wakeClocks ticks seat boot volts)

/-- WAKE_IN_EDGE (R138): A WAKE_IN pin holds its new value through the debounce and acts as wake event or trigger. -/
def execWakeInEdge (n : Nat) (level : Bool) (s : State) : Host.Outcome State Fault Refusal :=
  s.pins (fun (h : Hw) => h.wakeIn n level)

/-- AOT_COMPARE_MATCH (R137): the always-on time counter reaches PWR_AOT_CMP and raises the timer wake. -/
def execAotCompareMatch (s : State) : Host.Outcome State Fault Refusal :=
  s.upd (fun (h : Hw) => h.aotMatch)

/-- PCIE_PERST_RISE (R137): A rising edge of PCIE_PERST_N acts as the PCIe wake source. -/
def execPciePerstRise (s : State) : Host.Outcome State Fault Refusal :=
  s.pins (fun (h : Hw) => h.perstRise)

/-- WAKE_OUT_PULSE_END (R136): with WO_MODE = 0, the 1 ms WAKE_OUT pulse started by a wake event ends and the pin
returns low. -/
def execWakeOutPulseEnd (s : State) : Host.Outcome State Fault Refusal :=
  s.upd (fun (h : Hw) => h.wakeOutEnd)

end Sys2Proof.Machine
end

