-- ==== Sys2Proof/Machine/RowsTable.lean ====
section
/-!
DEFINITION. Commands of the table unit and the Moazel links (chapter 21): one meaning per command.
-/
namespace Sys2Proof.Machine

open Sys2Proof

/-- HELLO (R1091): A HELLO frame is received and link wiring is judged. -/
def execHello (k : Nat) (bs : List Byte) (seat : Nat) (letter : Nat) (s : State) : Host.Outcome State Fault Refusal :=
  s.sysPins (fun (h : Hw) => (h.hello k bs seat letter).doneFollow)

/-- DATA (R1097): A DATA frame is received, accepted or discarded with NAK. -/
def execData (k : Nat) (bs : List Byte) (s : State) : Host.Outcome State Fault Refusal :=
  s.sysPins (fun (h : Hw) => h.linkData k bs)

/-- IDLE (R1095): an IDLE frame returns credits and ACK. -/
def execIdle (k : Nat) (bs : List Byte) (s : State) : Host.Outcome State Fault Refusal :=
  s.sysPins (fun (h : Hw) => h.linkIdle k bs)

/-- NAK (R1098): A NAK frame makes the transmitter replay. -/
def execNak (k : Nat) (bs : List Byte) (s : State) : Host.Outcome State Fault Refusal :=
  s.sysPins (fun (h : Hw) => h.linkNak k bs)

/-- TIME (R1115): A TIME frame gives a table-time offset sample to the servo. -/
def execTime (k : Nat) (bs : List Byte) (sent : Nat) (rtt : Nat) (turn : Nat) (s : State) : Host.Outcome State Fault Refusal :=
  s.sysPins (fun (h : Hw) => h.timeFrame k bs sent rtt turn)

/-- IDENT (R1103): an IDENT frame delivers identity records. -/
def execIdent (k : Nat) (bs : List Byte) (s : State) : Host.Outcome State Fault Refusal :=
  s.sysPins (fun (h : Hw) => (h.ident' k bs).doneFollow)

/-- REPLAY_TIMEOUT (R1098): 8 µs without a new ACK starts a replay, or a retrain after eight. -/
def execReplayTimeout (k : Nat) (s : State) : Host.Outcome State Fault Refusal :=
  s.sys (fun (h : Hw) => (h.replayTimeout k).doneFollow)

/-- LINK_UP (R1089): A link port completes bring-up and credits are initialised. -/
def execLinkUp (k : Nat) (lanes : Nat) (s : State) : Host.Outcome State Fault Refusal :=
  s.sysPins (fun (h : Hw) => (h.linkBringUp k lanes).doneFollow)

/-- LINK_DOWN (R1092): A link goes down on timeout, bad sync or failed retrain. -/
def execLinkDown (k : Nat) (s : State) : Host.Outcome State Fault Refusal :=
  s.sys (fun (h : Hw) => (h.linkLost k).doneFollow)

/-- LINK_RESTART (R1089): 2 ms after link-down the port starts bring-up again. -/
def execLinkRestart (k : Nat) (s : State) : Host.Outcome State Fault Refusal :=
  s.sys (fun (h : Hw) => h.linkRestart k)

/-- IDENT_SEND (R1103): every 50 µs the seat sends its records on every up link. -/
def execIdentSend (s : State) : Host.Outcome State Fault Refusal :=
  s.sys (fun (h : Hw) => h.identSend)

/-- IDENT_COMPLETE (R1103): records unchanged for 1 ms with no disagreement set IDENT_OK. -/
def execIdentComplete (map : List MapEnt) (s : State) : Host.Outcome State Fault Refusal :=
  s.sys (fun (h : Hw) => (h.identComplete map).doneFollow)

/-- XWAIT_TIMEOUT (R1104): no link up within XWAIT: the seat forms a one-seat table. -/
def execXwaitTimeout (s : State) : Host.Outcome State Fault Refusal :=
  s.sys (fun (h : Hw) => h.xwait)

/-- HEARTBEAT_SEND (R1110): every 100 µs the seat sends heartbeats. -/
def execHeartbeatSend (s : State) : Host.Outcome State Fault Refusal :=
  s.sys (fun (h : Hw) => h.heartbeatSend)

/-- HEARTBEAT_TIMEOUT (R1111): A loss condition is met and a seat is declared lost. -/
def execHeartbeatTimeout (seat : Nat) (s : State) : Host.Outcome State Fault Refusal :=
  s.sys (fun (h : Hw) => (h.heartbeatTimeout seat).doneFollow)

/-- CUT_WAIT (R1112): at a two-seat table with all links down, the seat-numbered wait ends: cut or declare loss. -/
def execCutWait (low : Bool) (s : State) : Host.Outcome State Fault Refusal :=
  s.sys (fun (h : Hw) => (h.cutWait low).doneFollow)

/-- REDEAL_DONE (R1124): tile records are restored, redirects set, tiles run and REDEAL_DONE posted. -/
def execRedealDone (opened : List LostPart) (valid : Nat) (spares : Nat) (s : State) : Host.Outcome State Fault Refusal :=
  s.sys (fun (h : Hw) => h.redealDone opened valid spares)

/-- TIME_EXCHANGE (R1115): every 1 ms linked seats exchange TIME frames. -/
def execTimeExchange (s : State) : Host.Outcome State Fault Refusal :=
  s.sys (fun (h : Hw) => h.timeExchange)

/-- TBL_TIME_OFS (R1118): A write on the time master feeds an offset sample to the servo. -/
def execTblTimeOfs (v : Nat) (s : State) : Host.Outcome State Fault Refusal :=
  s.upd (fun (h : Hw) => h.regDo R.TBL_TIME_OFS v)

/-- TBL_ALARM (R1117): table time reaches an armed alarm, which fires triggers or is skipped. -/
def execTblAlarm (s : State) : Host.Outcome State Fault Refusal :=
  s.sys (fun (h : Hw) => h.tblAlarm)

end Sys2Proof.Machine
end

