-- ==== Sys2Proof/Machine/RowsTap.lean ====
section
/-!
DEFINITION. Commands of the test access port (chapter 4): one meaning per command.
-/
namespace Sys2Proof.Machine

open Sys2Proof

/-- TEST_LOGIC_RESET (R176): the TAP enters Test-Logic-Reset and IDCODE is loaded into the instruction register. -/
def execTestLogicReset (s : State) : Host.Outcome State Fault Refusal :=
  s.upd (fun (h : Hw) => h.tlr)

/-- TRST_N_ASSERT (R201): TRST_N falls, resetting the TAP and ending any CFG_IN or CFG_PARTIAL stream. -/
def execTrstNAssert (s : State) : Host.Outcome State Fault Refusal :=
  s.upd (fun (h : Hw) => h.trst)

/-- CAPTURE_IR (R177): Capture-IR loads the status bits into the instruction register. -/
def execCaptureIr (done : Bool) (s : State) : Host.Outcome State Fault Refusal :=
  s.upd (fun (h : Hw) => h.captureIr done)

/-- UPDATE_IR (R178): Update-IR loads a new TAP instruction. -/
def execUpdateIr (op : Nat) (cells : Nat) (scans : List DrScan) (s : State) : Host.Outcome State Fault Refusal :=
  s.upd (fun (h : Hw) => h.updateIr op cells scans)

/-- CFG_STAT (R271): Capture-DR of CFG_STAT captures the configuration status word. -/
def execCfgStat (s : State) : Host.Outcome State Fault Refusal :=
  s.upd (fun (h : Hw) => h.captureCfgStat)

/-- FUSE_PROGRAM (R199): A FUSE_PROG Update-DR with OP 0xA5 starts programming one fuse bit, unless locked or busy. -/
def execFuseProgram (a : Nat) (s : State) : Host.Outcome State Fault Refusal :=
  s.upd (fun (h : Hw) => h.fuseProgram s.fuse a)

/-- FUSE_READ (R199): A FUSE_PROG Update-DR with OP 0x3C reads one fuse word. -/
def execFuseRead (a : Nat) (s : State) : Host.Outcome State Fault Refusal :=
  s.upd (fun (h : Hw) => h.fuseReadRow s.fuse a)

/-- FUSE_PULSE_DONE (R199): A fuse programming pulse ends and its read-back sets or clears VERIFY_FAIL. -/
def execFusePulseDone (obs : Bool) (s : State) : Host.Outcome State Fault Refusal :=
  .next (s.fuseDone obs)

/-- HBM_PORT (R195): A capture, shift or update of a stack's IEEE 1500 wrapper through HBM_PORT. -/
def execHbmPort (upd : Option Nat) (s : State) : Host.Outcome State Fault Refusal :=
  s.upd (fun (h : Hw) => h.hbmPort upd)

/-- USER_WRITE (R198): Update-DR of USERn writes the fabric user word through the user register window. -/
def execUserWrite (n : Nat) (v : Nat) (ans : UAns) (s : State) : Host.Outcome State Fault Refusal :=
  s.upd (fun (h : Hw) => h.userWrite n v ans)

/-- USER_READ (R198): Capture-DR of USERn reads the fabric user word. -/
def execUserRead (n : Nat) (ans : UAns) (s : State) : Host.Outcome State Fault Refusal :=
  s.upd (fun (h : Hw) => h.userRead n ans)

/-- DBG_ACCESS (R197): an Update-DR with the issue bit set makes a 32-bit access to the Dealer address map. -/
def execDbgAccess (a : Nat) (wr : Option Nat) (ans : UAns) (s : State) : Host.Outcome State Fault Refusal :=
  s.upd (fun (h : Hw) => h.dbgAccessRow a wr ans)

/-- DBG_CTL_HALT (R206): A write of DBG_CTL.HALT halts or resumes the Dealer at an instruction boundary. -/
def execDbgCtlHalt (b : Bool) (src : Nat) (s : State) : Host.Outcome State Fault Refusal :=
  s.upd (fun (h : Hw) => (h.regWrite R.DBG_CTL (setBit (h.rd R.DBG_CTL) 0 b) src).2)

/-- TAP_MASTER_TAKE (R175): the internal TAP master takes the TAP at the first Test-Logic-Reset or Run-Test/Idle. -/
def execTapMasterTake (u : TapUse) (tms : List Bool) (s : State) : Host.Outcome State Fault Refusal :=
  s.sys (fun (h : Hw) => h.tapTake u tms)

end Sys2Proof.Machine
end

