-- ==== Sys2Proof/Machine/RowsTile.lean ====
section
/-!
DEFINITION. Commands of the tiles and their streams (chapters 10 to 12): one meaning per command.
-/
namespace Sys2Proof.Machine

open Sys2Proof

/-- WIDE_WORD (R535): A tile wide word issues, executes as one step and commits, or is squashed. -/
def execWideWord (t : Nat) (n : Nat) (es : List SramErr) (s : State) : Host.Outcome State Fault Refusal :=
  s.core (fun (h : Hw) => h.wideWord t n es)

/-- MATRIX_WRITEBACK (R547): A matrix operation finishes and writes its result back to ACC. -/
def execMatrixWriteback (t : Nat) (s : State) : Host.Outcome State Fault Refusal :=
  s.core (fun (h : Hw) => h.matrixWriteback t)

/-- TIL_CTL_RUN (R578): A write of TIL_CTL.RUN runs a halted tile from TIL_PC. -/
def execTilCtlRun (t : Nat) (s : State) : Host.Outcome State Fault Refusal :=
  s.core (fun (h : Hw) => h.tilWrite t 0x004 (h.tilCtl t + 1))

/-- TIL_CTL_STEP (R578): A write of TIL_CTL.STEP runs one word and halts. -/
def execTilCtlStep (t : Nat) (s : State) : Host.Outcome State Fault Refusal :=
  s.core (fun (h : Hw) => h.tilWrite t 0x004 (h.tilCtl t + 4))

/-- TIL_CTL_HALT (R563): A write of TIL_CTL.HALT halts the tile at a word boundary. -/
def execTilCtlHalt (t : Nat) (s : State) : Host.Outcome State Fault Refusal :=
  s.core (fun (h : Hw) => h.tilWrite t 0x004 (h.tilCtl t + 2))

/-- TIL_SEED (R571): A write of TIL_SEED while halted loads every lane LFSR. -/
def execTilSeed (t : Nat) (v : Nat) (s : State) : Host.Outcome State Fault Refusal :=
  s.core (fun (h : Hw) => h.tilWrite t 0x024 v)

/-- STREAM_REQUEST (R636): A tile stream engine sends the next request of a box or fill, one per NOCCLK cycle. -/
def execStreamRequest (n : Nat) (fill : Bool) (s : State) : Host.Outcome State Fault Refusal :=
  s.core (fun (h : Hw) => (h.streamRequest n fill).jobPrep (partOf n) (relOf n))

/-- STREAM_RESPONSE (R654): A response to a stream request arrives, writing data or recording an error and poison. -/
def execStreamResponse (n : Nat) (tag : Nat) (s : State) : Host.Outcome State Fault Refusal :=
  s.core (fun (h : Hw) => h.streamResponse n tag)

/-- LAYER_LIST_READ (R661): the stream engine reads the next layer-list entry into the prefetch queue as space frees.
-/
def execLayerListRead (n : Nat) (far : List Byte) (s : State) : Host.Outcome State Fault Refusal :=
  s.core (fun (h : Hw) => h.layerListRead n far)

/-- PREFETCH_FILL (R659): A prefetch fill reads its descriptor and writes its box into the shadow half. -/
def execPrefetchFill (n : Nat) (far : List Byte) (s : State) : Host.Outcome State Fault Refusal :=
  s.core (fun (h : Hw) => h.prefetchFill n far)

end Sys2Proof.Machine
end

