-- ==== Sys2Proof/Machine/RowsUnits.lean ====
section
/-!
DEFINITION. Mailbox commands of groups 0x02 to 0x0F: the units, settings, firmware and diagnostics (chapter 7): one meaning per command.
-/
namespace Sys2Proof.Machine

open Sys2Proof

/-- SNS_CONFIG (R907): SNS_CONFIG disarms captures and writes sensor register pairs then enables channels. -/
def execSnsConfig (m : Nat) (k : Nat) (far : Memory) (s : State) : Host.Outcome State Fault Refusal :=
  s.dealer (fun (h : Hw) => h.snsConfig m k far)

/-- SNS_CAPTURE (R902): SNS_CAPTURE arms or re-arms a capture unit. -/
def execSnsCapture (m : Nat) (k : Nat) (s : State) : Host.Outcome State Fault Refusal :=
  s.dealer (fun (h : Hw) => h.snsCapture m k)

/-- SNS_WAKE (R908): SNS_WAKE writes wake detector register pairs. -/
def execSnsWake (m : Nat) (k : Nat) (far : Memory) (s : State) : Host.Outcome State Fault Refusal :=
  s.dealer (fun (h : Hw) => h.snsWake m k far)

/-- SNS_STATUS (R910): SNS_STATUS returns range and overrun summary. -/
def execSnsStatus (m : Nat) (k : Nat) (s : State) : Host.Outcome State Fault Refusal :=
  s.dealer (fun (h : Hw) => h.snsStatus m k)

/-- SIG_LOAD (R934): SIG_LOAD checks and writes a signal image into named cores. -/
def execSigLoad (m : Nat) (k : Nat) (far : List Byte) (s : State) : Host.Outcome State Fault Refusal :=
  s.dealer (fun (h : Hw) => h.sigLoad m k far)

/-- SIG_RUN (R935): SIG_RUN arms named cores with trigger and policy. -/
def execSigRun (m : Nat) (k : Nat) (s : State) : Host.Outcome State Fault Refusal :=
  s.dealer (fun (h : Hw) => h.sigRun m k)

/-- SIG_STOP (R940): SIG_STOP stops named cores and leaves them IDLE once transfers end. -/
def execSigStop (m : Nat) (k : Nat) (s : State) : Host.Outcome State Fault Refusal :=
  s.dealer (fun (h : Hw) => h.sigStop m k)

/-- SIG_STATUS (R952): SIG_STATUS returns per-core state and pending bits. -/
def execSigStatus (m : Nat) (k : Nat) (s : State) : Host.Outcome State Fault Refusal :=
  s.dealer (fun (h : Hw) => h.sigStatus m k)

/-- GFX_SUBMIT (R1003): GFX_SUBMIT runs a frame list and completes when its last pass is stored. -/
def execGfxSubmit (m : Nat) (k : Nat) (far : Memory) (s : State) : Host.Outcome State Fault Refusal :=
  s.dealer (fun (h : Hw) => h.gfxSubmit m k far)

/-- DPY_MODE (R990): DPY_MODE checks a timing block and trains the DisplayPort link. -/
def execDpyMode (m : Nat) (k : Nat) (far : List Byte) (trained : Bool) (s : State) : Host.Outcome State Fault Refusal :=
  s.dealer (fun (h : Hw) => h.dpyMode m k far trained)

/-- DPY_PLANE (R993): DPY_PLANE checks a plane block and schedules it for the next vertical blanking. -/
def execDpyPlane (m : Nat) (k : Nat) (far : List Byte) (s : State) : Host.Outcome State Fault Refusal :=
  s.dealer (fun (h : Hw) => h.dpyPlane m k far)

/-- GFX_STATUS (R1003): GFX_STATUS returns GFX_STAT and DPY_STAT. -/
def execGfxStatus (m : Nat) (k : Nat) (s : State) : Host.Outcome State Fault Refusal :=
  s.dealer (fun (h : Hw) => h.gfxStatus m k)

/-- NET_PORT (R1047): NET_PORT drains and changes an Ethernet port's mode. -/
def execNetPort (m : Nat) (k : Nat) (s : State) : Host.Outcome State Fault Refusal :=
  s.dealer (fun (h : Hw) => h.netPort m k)

/-- NET_RULE (R1019): NET_RULE installs a rule into a free slot and repoints its index. -/
def execNetRule (m : Nat) (k : Nat) (far : List Byte) (s : State) : Host.Outcome State Fault Refusal :=
  s.dealer (fun (h : Hw) => h.netRule m k far)

/-- NET_QUEUE (R1024): NET_QUEUE sets up or disables a receive or transmit ring. -/
def execNetQueue (m : Nat) (k : Nat) (s : State) : Host.Outcome State Fault Refusal :=
  s.dealer (fun (h : Hw) => h.netQueue m k)

/-- NET_SHAPER (R1036): NET_SHAPER writes a queue's RATE and BUCKET and optionally forgives debt. -/
def execNetShaper (m : Nat) (k : Nat) (s : State) : Host.Outcome State Fault Refusal :=
  s.dealer (fun (h : Hw) => h.netShaper m k)

/-- NET_PTP (R1041): NET_PTP sets a port's PTP mode. -/
def execNetPtp (m : Nat) (k : Nat) (s : State) : Host.Outcome State Fault Refusal :=
  s.dealer (fun (h : Hw) => h.netPtp m k)

/-- NET_STATUS (R1052): NET_STATUS returns link and counter summary. -/
def execNetStatus (m : Nat) (k : Nat) (s : State) : Host.Outcome State Fault Refusal :=
  s.dealer (fun (h : Hw) => h.netStatus m k)

/-- TBL_STATUS (R1143): TBL_STATUS returns present seats, flags and epoch. -/
def execTblStatus (m : Nat) (k : Nat) (high : Bool) (s : State) : Host.Outcome State Fault Refusal :=
  s.dealer (fun (h : Hw) => h.tblStatus m k high)

/-- TBL_SPARE (R1144): TBL_SPARE reserves local spare partitions. -/
def execTblSpare (m : Nat) (k : Nat) (s : State) : Host.Outcome State Fault Refusal :=
  s.dealer (fun (h : Hw) => h.tblSpare m k)

/-- TBL_SLEEP (R1129): TBL_SLEEP announces table sleep and completes when all seats answer. -/
def execTblSleep (m : Nat) (k : Nat) (s : State) : Host.Outcome State Fault Refusal :=
  s.dealer (fun (h : Hw) => h.tblSleep m k)

/-- TBL_TIME_READ (R1145): TBL_TIME with OP 0 returns table time. -/
def execTblTimeRead (m : Nat) (k : Nat) (s : State) : Host.Outcome State Fault Refusal :=
  s.dealer (fun (h : Hw) => h.timeRead m k)

/-- TBL_TIME_STEP (R1145): TBL_TIME with OP 1 steps table time on the master. -/
def execTblTimeStep (m : Nat) (k : Nat) (s : State) : Host.Outcome State Fault Refusal :=
  s.dealer (fun (h : Hw) => h.timeStepCmd m k)

/-- SET_READ (R469): SET_READ copies a key's value record to the host. -/
def execSetRead (m : Nat) (k : Nat) (s : State) : Host.Outcome State Fault Refusal :=
  s.dealer (fun (h : Hw) => h.setRead m k)

/-- SET_WRITE (R470): SET_WRITE appends a settings record, compacting if needed. -/
def execSetWrite (m : Nat) (k : Nat) (s : State) : Host.Outcome State Fault Refusal :=
  s.dealer (fun (h : Hw) => h.setWrite m k)

/-- FW_WRITE (R452): FW_WRITE writes and verifies bytes of a firmware slot. -/
def execFwWrite (m : Nat) (k : Nat) (s : State) : Host.Outcome State Fault Refusal :=
  s.dealer (fun (h : Hw) => h.fwWrite m k)

/-- FW_SELECT (R456): FW_SELECT with SLOT 0 or 1 makes a qualified slot preferred at next boot. -/
def execFwSelect (m : Nat) (k : Nat) (s : State) : Host.Outcome State Fault Refusal :=
  s.dealer (fun (h : Hw) => h.fwSelect m k)

/-- FW_CONFIRM (R457): FW_SELECT with SLOT 2 confirms the running slot. -/
def execFwConfirm (m : Nat) (k : Nat) (s : State) : Host.Outcome State Fault Refusal :=
  s.dealer (fun (h : Hw) => h.fwConfirm m k)

/-- LOG_READ (R1170): LOG_READ copies error log entries to the host. -/
def execLogRead (m : Nat) (k : Nat) (s : State) : Host.Outcome State Fault Refusal :=
  s.dealer (fun (h : Hw) => h.logRead m k)

/-- SELF_TEST (R411): SELF_TEST runs block self-tests and returns the failing block mask. -/
def execSelfTest (m : Nat) (k : Nat) (s : State) : Host.Outcome State Fault Refusal :=
  s.dealer (fun (h : Hw) => h.selfTest m k)

/-- BOOT_SLOT_SELECT (R423): the boot ROM checks both firmware slots, chooses one or enters ROM service mode, and
writes CFG_SHELL. -/
def execBootSlotSelect (s : State) : Host.Outcome State Fault Refusal :=
  s.dealer (fun (h : Hw) => h.bootSelect)

/-- MRAM_PULSE_START (R446): A queued MRAM word-group write pulse starts when permitted. -/
def execMramPulseStart (waited : Bool) (s : State) : Host.Outcome State Fault Refusal :=
  s.sys (fun (h : Hw) => h.mramStart waited)

/-- MRAM_PULSE_DONE (R414): an MRAM write pulse ends and waiting fetches and reads proceed. -/
def execMramPulseDone (obs : Option (List Byte)) (fetch : Option (Nat × Nat)) (s : State) : Host.Outcome State Fault Refusal :=
  s.upd (fun (h : Hw) => (h.mramDone obs fetch).dbgResume)

end Sys2Proof.Machine
end

