-- ==== Sys2Proof/Machine/Dispatch.lean ====
section
/-!
DEFINITION. One arm per command, each a direct call of its meaning.
-/
namespace Sys2Proof.Machine

open Sys2Proof

def exec (i : Instr) (s : State) : Host.Outcome State Fault Refusal :=
  match i with
  | .registerWrite ws => Sys2Proof.Machine.execRegisterWrite ws s
  | .monitorWindow ix n => Sys2Proof.Machine.execMonitorWindow ix n s
  | .xtal32Window => Sys2Proof.Machine.execXtal32Window s
  | .pllLockLoss p => Sys2Proof.Machine.execPllLockLoss p s
  | .pllLockHeld p => Sys2Proof.Machine.execPllLockHeld p s
  | .clockLossClear v => Sys2Proof.Machine.execClockLossClear v s
  | .stepComplete p => Sys2Proof.Machine.execStepComplete p s
  | .tableTimeForward n => Sys2Proof.Machine.execTableTimeForward n s
  | .porDetect => Sys2Proof.Machine.execPorDetect s
  | .porRelease => Sys2Proof.Machine.execPorRelease s
  | .resetPinAssert p => Sys2Proof.Machine.execResetPinAssert p s
  | .resetPinGlitch p => Sys2Proof.Machine.execResetPinGlitch p s
  | .resetPinRelease p => Sys2Proof.Machine.execResetPinRelease p s
  | .systemReset seat boot => Sys2Proof.Machine.execSystemReset seat boot s
  | .coreReset volts => Sys2Proof.Machine.execCoreReset volts s
  | .resetPendNoclkStart => Sys2Proof.Machine.execResetPendNoclkStart s
  | .resetNvDelayEnd => Sys2Proof.Machine.execResetNvDelayEnd s
  | .wdtTimeout ms => Sys2Proof.Machine.execWdtTimeout ms s
  | .sysWdtKick v => Sys2Proof.Machine.execSysWdtKick v s
  | .sysRstReqCore => Sys2Proof.Machine.execSysRstReqCore s
  | .sysRstReqSystem => Sys2Proof.Machine.execSysRstReqSystem s
  | .pwrTargetRun tmo => Sys2Proof.Machine.execPwrTargetRun tmo s
  | .pwrTargetIdle tmo => Sys2Proof.Machine.execPwrTargetIdle tmo s
  | .pwrTargetPark tmo => Sys2Proof.Machine.execPwrTargetPark tmo s
  | .pwrTargetListen tmo => Sys2Proof.Machine.execPwrTargetListen tmo s
  | .pwrTargetDeep tmo => Sys2Proof.Machine.execPwrTargetDeep tmo s
  | .pwrHeldTargetApply => Sys2Proof.Machine.execPwrHeldTargetApply s
  | .listenL2Ready => Sys2Proof.Machine.execListenL2Ready s
  | .listenAbort => Sys2Proof.Machine.execListenAbort s
  | .listenDeepTimeout => Sys2Proof.Machine.execListenDeepTimeout s
  | .wakeExit => Sys2Proof.Machine.execWakeExit s
  | .wakeExitClocksGood ticks seat boot volts => Sys2Proof.Machine.execWakeExitClocksGood ticks seat boot volts s
  | .wakeInEdge n level => Sys2Proof.Machine.execWakeInEdge n level s
  | .aotCompareMatch => Sys2Proof.Machine.execAotCompareMatch s
  | .pciePerstRise => Sys2Proof.Machine.execPciePerstRise s
  | .testLogicReset => Sys2Proof.Machine.execTestLogicReset s
  | .trstNAssert => Sys2Proof.Machine.execTrstNAssert s
  | .captureIr done => Sys2Proof.Machine.execCaptureIr done s
  | .updateIr op cells scans => Sys2Proof.Machine.execUpdateIr op cells scans s
  | .cfgIn src => Sys2Proof.Machine.execCfgIn src s
  | .cfgPartial src => Sys2Proof.Machine.execCfgPartial src s
  | .cfgStat => Sys2Proof.Machine.execCfgStat s
  | .fuseProgram a => Sys2Proof.Machine.execFuseProgram a s
  | .fuseRead a => Sys2Proof.Machine.execFuseRead a s
  | .fusePulseDone obs => Sys2Proof.Machine.execFusePulseDone obs s
  | .hbmPort upd => Sys2Proof.Machine.execHbmPort upd s
  | .userWrite n v ans => Sys2Proof.Machine.execUserWrite n v ans s
  | .userRead n ans => Sys2Proof.Machine.execUserRead n ans s
  | .dbgAccess a wr ans => Sys2Proof.Machine.execDbgAccess a wr ans s
  | .dbgCtlHalt b src => Sys2Proof.Machine.execDbgCtlHalt b src s
  | .tapMasterTake u tms => Sys2Proof.Machine.execTapMasterTake u tms s
  | .configStart probe => Sys2Proof.Machine.execConfigStart probe s
  | .dataRecord => Sys2Proof.Machine.execDataRecord s
  | .repeatRecord => Sys2Proof.Machine.execRepeatRecord s
  | .endRecord => Sys2Proof.Machine.execEndRecord s
  | .cfgStreamEnd => Sys2Proof.Machine.execCfgStreamEnd s
  | .clearPassDone => Sys2Proof.Machine.execClearPassDone s
  | .doneRelease => Sys2Proof.Machine.execDoneRelease s
  | .doneSeenHigh volts => Sys2Proof.Machine.execDoneSeenHigh volts s
  | .releaseStage volts => Sys2Proof.Machine.execReleaseStage volts s
  | .doneSeenLow => Sys2Proof.Machine.execDoneSeenLow s
  | .progN => Sys2Proof.Machine.execProgN s
  | .cfgCtlRestart => Sys2Proof.Machine.execCfgCtlRestart s
  | .cfgCtlLock => Sys2Proof.Machine.execCfgCtlLock s
  | .partialFoldDone => Sys2Proof.Machine.execPartialFoldDone s
  | .scrubFrame upset => Sys2Proof.Machine.execScrubFrame upset s
  | .fabUregAccess f a wr ans => Sys2Proof.Machine.execFabUregAccess f a wr ans s
  | .fabUregTimeout => Sys2Proof.Machine.execFabUregTimeout s
  | .fabPllLossClear v => Sys2Proof.Machine.execFabPllLossClear v s
  | .fabricPortTx ix u => Sys2Proof.Machine.execFabricPortTx ix u s
  | .fabricPortRx k crc => Sys2Proof.Machine.execFabricPortRx k crc s
  | .mbxDbCmd m v => Sys2Proof.Machine.execMbxDbCmd m v s
  | .mbxDbCpl m v => Sys2Proof.Machine.execMbxDbCpl m v s
  | .mbxNext => Sys2Proof.Machine.execMbxNext s
  | .mbxPostGo m k => Sys2Proof.Machine.execMbxPostGo m k s
  | .mbxPostEvent m => Sys2Proof.Machine.execMbxPostEvent m s
  | .mbxEventDequeue m => Sys2Proof.Machine.execMbxEventDequeue m s
  | .mbxCmdTimeout m k => Sys2Proof.Machine.execMbxCmdTimeout m k s
  | .mbxCoalTimeout m => Sys2Proof.Machine.execMbxCoalTimeout m s
  | .dmaEngineAssign => Sys2Proof.Machine.execDmaEngineAssign s
  | .nop at_ cyc => Sys2Proof.Machine.execNop at_ cyc s
  | .info m k => Sys2Proof.Machine.execInfo m k s
  | .reset m k => Sys2Proof.Machine.execReset m k s
  | .regRead m k ans => Sys2Proof.Machine.execRegRead m k ans s
  | .regWrite m k ans => Sys2Proof.Machine.execRegWrite m k ans s
  | .memRead m k far ans => Sys2Proof.Machine.execMemRead m k far ans s
  | .memWrite m k farOk ans => Sys2Proof.Machine.execMemWrite m k farOk ans s
  | .power m k => Sys2Proof.Machine.execPower m k s
  | .imageLoad m k => Sys2Proof.Machine.execImageLoad m k s
  | .partialLoad m k => Sys2Proof.Machine.execPartialLoad m k s
  | .flashRead m k obs => Sys2Proof.Machine.execFlashRead m k obs s
  | .flashWrite m k obs => Sys2Proof.Machine.execFlashWrite m k obs s
  | .flashErase m k obs => Sys2Proof.Machine.execFlashErase m k obs s
  | .partOpen m k => Sys2Proof.Machine.execPartOpen m k s
  | .partFold m k => Sys2Proof.Machine.execPartFold m k s
  | .partOff m k => Sys2Proof.Machine.execPartOff m k s
  | .partPace m k => Sys2Proof.Machine.execPartPace m k s
  | .partBw m k => Sys2Proof.Machine.execPartBw m k s
  | .programLoad m k far => Sys2Proof.Machine.execProgramLoad m k far s
  | .jobStart m k => Sys2Proof.Machine.execJobStart m k s
  | .checkpoint m k => Sys2Proof.Machine.execCheckpoint m k s
  | .partStatus m k => Sys2Proof.Machine.execPartStatus m k s
  | .snsConfig m k far => Sys2Proof.Machine.execSnsConfig m k far s
  | .snsCapture m k => Sys2Proof.Machine.execSnsCapture m k s
  | .snsWake m k far => Sys2Proof.Machine.execSnsWake m k far s
  | .snsStatus m k => Sys2Proof.Machine.execSnsStatus m k s
  | .sigLoad m k far => Sys2Proof.Machine.execSigLoad m k far s
  | .sigRun m k => Sys2Proof.Machine.execSigRun m k s
  | .sigStop m k => Sys2Proof.Machine.execSigStop m k s
  | .sigStatus m k => Sys2Proof.Machine.execSigStatus m k s
  | .gfxSubmit m k far => Sys2Proof.Machine.execGfxSubmit m k far s
  | .dpyMode m k far trained => Sys2Proof.Machine.execDpyMode m k far trained s
  | .dpyPlane m k far => Sys2Proof.Machine.execDpyPlane m k far s
  | .gfxStatus m k => Sys2Proof.Machine.execGfxStatus m k s
  | .netPort m k => Sys2Proof.Machine.execNetPort m k s
  | .netRule m k far => Sys2Proof.Machine.execNetRule m k far s
  | .netQueue m k => Sys2Proof.Machine.execNetQueue m k s
  | .netShaper m k => Sys2Proof.Machine.execNetShaper m k s
  | .netPtp m k => Sys2Proof.Machine.execNetPtp m k s
  | .netStatus m k => Sys2Proof.Machine.execNetStatus m k s
  | .tblStatus m k high => Sys2Proof.Machine.execTblStatus m k high s
  | .tblSpare m k => Sys2Proof.Machine.execTblSpare m k s
  | .tblSleep m k => Sys2Proof.Machine.execTblSleep m k s
  | .tblTimeRead m k => Sys2Proof.Machine.execTblTimeRead m k s
  | .tblTimeStep m k => Sys2Proof.Machine.execTblTimeStep m k s
  | .setRead m k => Sys2Proof.Machine.execSetRead m k s
  | .setWrite m k => Sys2Proof.Machine.execSetWrite m k s
  | .fwWrite m k => Sys2Proof.Machine.execFwWrite m k s
  | .fwSelect m k => Sys2Proof.Machine.execFwSelect m k s
  | .fwConfirm m k => Sys2Proof.Machine.execFwConfirm m k s
  | .logRead m k => Sys2Proof.Machine.execLogRead m k s
  | .selfTest m k => Sys2Proof.Machine.execSelfTest m k s
  | .bootSlotSelect => Sys2Proof.Machine.execBootSlotSelect s
  | .mramPulseStart waited => Sys2Proof.Machine.execMramPulseStart waited s
  | .mramPulseDone obs fetch => Sys2Proof.Machine.execMramPulseDone obs fetch s
  | .wideWord t n es => Sys2Proof.Machine.execWideWord t n es s
  | .matrixWriteback t => Sys2Proof.Machine.execMatrixWriteback t s
  | .tilCtlRun t => Sys2Proof.Machine.execTilCtlRun t s
  | .tilCtlStep t => Sys2Proof.Machine.execTilCtlStep t s
  | .tilCtlHalt t => Sys2Proof.Machine.execTilCtlHalt t s
  | .tilSeed t v => Sys2Proof.Machine.execTilSeed t v s
  | .streamRequest n fill => Sys2Proof.Machine.execStreamRequest n fill s
  | .streamResponse n tag => Sys2Proof.Machine.execStreamResponse n tag s
  | .layerListRead n far => Sys2Proof.Machine.execLayerListRead n far s
  | .prefetchFill n far => Sys2Proof.Machine.execPrefetchFill n far s
  | .jobRelease p => Sys2Proof.Machine.execJobRelease p s
  | .jobEnd p => Sys2Proof.Machine.execJobEnd p s
  | .rd k crc es ans => Sys2Proof.Machine.execRd k crc es ans s
  | .wr k crc es parity ans => Sys2Proof.Machine.execWr k crc es parity ans s
  | .rdRsp k crc => Sys2Proof.Machine.execRdRsp k crc s
  | .wrRsp k crc => Sys2Proof.Machine.execWrRsp k crc s
  | .foldReq n => Sys2Proof.Machine.execFoldReq n s
  | .foldOutDrained n => Sys2Proof.Machine.execFoldOutDrained n s
  | .foldInDrained n => Sys2Proof.Machine.execFoldInDrained n s
  | .fenceDone n => Sys2Proof.Machine.execFenceDone n s
  | .foldAck k => Sys2Proof.Machine.execFoldAck k s
  | .heartbeat k crc lost => Sys2Proof.Machine.execHeartbeat k crc lost s
  | .interrupt k crc => Sys2Proof.Machine.execInterrupt k crc s
  | .nocFold port ix pgate => Sys2Proof.Machine.execNocFold port ix pgate s
  | .nocUnfold port ix => Sys2Proof.Machine.execNocUnfold port ix s
  | .foldTimeout k => Sys2Proof.Machine.execFoldTimeout k s
  | .rspTimeout n tag => Sys2Proof.Machine.execRspTimeout n tag s
  | .burstIssue c par err => Sys2Proof.Machine.execBurstIssue c par err s
  | .throttleEnd c => Sys2Proof.Machine.execThrottleEnd c s
  | .refresh c => Sys2Proof.Machine.execRefresh c s
  | .refreshWindow st => Sys2Proof.Machine.execRefreshWindow st s
  | .rowClose c bank => Sys2Proof.Machine.execRowClose c bank s
  | .powerDown st => Sys2Proof.Machine.execPowerDown st s
  | .memTempUpdate st temp => Sys2Proof.Machine.execMemTempUpdate st temp s
  | .tempStale st => Sys2Proof.Machine.execTempStale st s
  | .hbmCatastrophicTemp st on => Sys2Proof.Machine.execHbmCatastrophicTemp st on s
  | .trainingDone st res => Sys2Proof.Machine.execTrainingDone st res s
  | .laneRepair st => Sys2Proof.Machine.execLaneRepair st s
  | .retrain st => Sys2Proof.Machine.execRetrain st s
  | .pacingSample p => Sys2Proof.Machine.execPacingSample p s
  | .pacingWindow p => Sys2Proof.Machine.execPacingWindow p s
  | .pacingCorrect p => Sys2Proof.Machine.execPacingCorrect p s
  | .checkpointWrite p => Sys2Proof.Machine.execCheckpointWrite p s
  | .checkpointCommit p => Sys2Proof.Machine.execCheckpointCommit p s
  | .dummyCopyAck p partner mlen refused => Sys2Proof.Machine.execDummyCopyAck p partner mlen refused s
  | .snsOutputSample g pdm => Sys2Proof.Machine.execSnsOutputSample g pdm s
  | .snsTrig mask => Sys2Proof.Machine.execSnsTrig mask s
  | .captureBlockComplete u farOk => Sys2Proof.Machine.execCaptureBlockComplete u farOk s
  | .wakeFrame pdm => Sys2Proof.Machine.execWakeFrame pdm s
  | .sigTrigger k => Sys2Proof.Machine.execSigTrigger k s
  | .sigSoft mask => Sys2Proof.Machine.execSigSoft mask s
  | .sigRunEnd k cyc => Sys2Proof.Machine.execSigRunEnd k cyc s
  | .sigTransferResponse tag => Sys2Proof.Machine.execSigTransferResponse tag s
  | .sigCorekMdata k wr => Sys2Proof.Machine.execSigCorekMdata k wr s
  | .fmac k cyc => Sys2Proof.Machine.execFmac k cyc s
  | .fmsc k cyc => Sys2Proof.Machine.execFmsc k cyc s
  | .fmul k cyc => Sys2Proof.Machine.execFmul k cyc s
  | .fadd k cyc => Sys2Proof.Machine.execFadd k cyc s
  | .fsub k cyc => Sys2Proof.Machine.execFsub k cyc s
  | .fabs k cyc => Sys2Proof.Machine.execFabs k cyc s
  | .fneg k cyc => Sys2Proof.Machine.execFneg k cyc s
  | .fmin k cyc => Sys2Proof.Machine.execFmin k cyc s
  | .fmax k cyc => Sys2Proof.Machine.execFmax k cyc s
  | .fcmp k cyc => Sys2Proof.Machine.execFcmp k cyc s
  | .fcvtq k cyc => Sys2Proof.Machine.execFcvtq k cyc s
  | .fcvtf k cyc => Sys2Proof.Machine.execFcvtf k cyc s
  | .frcp k cyc => Sys2Proof.Machine.execFrcp k cyc s
  | .frsqrt k cyc => Sys2Proof.Machine.execFrsqrt k cyc s
  | .iadd k cyc => Sys2Proof.Machine.execIadd k cyc s
  | .isub k cyc => Sys2Proof.Machine.execIsub k cyc s
  | .iand k cyc => Sys2Proof.Machine.execIand k cyc s
  | .ior k cyc => Sys2Proof.Machine.execIor k cyc s
  | .ishl k cyc => Sys2Proof.Machine.execIshl k cyc s
  | .ishr k cyc => Sys2Proof.Machine.execIshr k cyc s
  | .imov k cyc => Sys2Proof.Machine.execImov k cyc s
  | .icmp k cyc => Sys2Proof.Machine.execIcmp k cyc s
  | .seta k cyc => Sys2Proof.Machine.execSeta k cyc s
  | .mova k cyc => Sys2Proof.Machine.execMova k cyc s
  | .movr k cyc => Sys2Proof.Machine.execMovr k cyc s
  | .loop k cyc => Sys2Proof.Machine.execLoop k cyc s
  | .sigBr k cyc => Sys2Proof.Machine.execSigBr k cyc s
  | .sigJmp k cyc => Sys2Proof.Machine.execSigJmp k cyc s
  | .sigCall k cyc => Sys2Proof.Machine.execSigCall k cyc s
  | .ret k cyc => Sys2Proof.Machine.execRet k cyc s
  | .sigHalt k cyc => Sys2Proof.Machine.execSigHalt k cyc s
  | .waitt k cyc => Sys2Proof.Machine.execWaitt k cyc s
  | .get k cyc => Sys2Proof.Machine.execGet k cyc s
  | .put k cyc => Sys2Proof.Machine.execPut k cyc s
  | .signal k cyc => Sys2Proof.Machine.execSignal k cyc s
  | .pass far => Sys2Proof.Machine.execPass far s
  | .shader far => Sys2Proof.Machine.execShader far s
  | .draw far => Sys2Proof.Machine.execDraw far s
  | .binJobStart far => Sys2Proof.Machine.execBinJobStart far s
  | .waveRecordWrite t far farOk => Sys2Proof.Machine.execWaveRecordWrite t far farOk s
  | .binJobStore t farOk => Sys2Proof.Machine.execBinJobStore t farOk s
  | .gfxRelease q => Sys2Proof.Machine.execGfxRelease q s
  | .gfxAutoClr v => Sys2Proof.Machine.execGfxAutoClr v s
  | .vblank => Sys2Proof.Machine.execVblank s
  | .scanoutUnderflow poisoned => Sys2Proof.Machine.execScanoutUnderflow poisoned s
  | .hpdUnplug => Sys2Proof.Machine.execHpdUnplug s
  | .irqHpd lost trained => Sys2Proof.Machine.execIrqHpd lost trained s
  | .hpdPlug => Sys2Proof.Machine.execHpdPlug s
  | .dpyAuxGo v => Sys2Proof.Machine.execDpyAuxGo v s
  | .rxFrame n bs far farOk => Sys2Proof.Machine.execRxFrame n bs far farOk s
  | .rxDescriptorWrite n q farOk => Sys2Proof.Machine.execRxDescriptorWrite n q farOk s
  | .txFrameStart n crc far farOk => Sys2Proof.Machine.execTxFrameStart n crc far farOk s
  | .txFrameDone n farOk => Sys2Proof.Machine.execTxFrameDone n farOk s
  | .shaperTick => Sys2Proof.Machine.execShaperTick s
  | .forgive n q => Sys2Proof.Machine.execForgive n q s
  | .netPnShpqRate n q v => Sys2Proof.Machine.execNetPnShpqRate n q v s
  | .netPnShpqBucket n q v => Sys2Proof.Machine.execNetPnShpqBucket n q v s
  | .hostMemRead fn bar o n ecrc es ans => Sys2Proof.Machine.execHostMemRead fn bar o n ecrc es ans s
  | .hostMemWrite fn bar o bs ep ecrc ans => Sys2Proof.Machine.execHostMemWrite fn bar o bs ep ecrc ans s
  | .configRequest fn off wr => Sys2Proof.Machine.execConfigRequest fn off wr s
  | .functionLevelReset n => Sys2Proof.Machine.execFunctionLevelReset n s
  | .pmeTurnOff => Sys2Proof.Machine.execPmeTurnOff s
  | .pcieLinkDown perst => Sys2Proof.Machine.execPcieLinkDown perst s
  | .dmaCompletion e j st bs ep => Sys2Proof.Machine.execDmaCompletion e j st bs ep s
  | .hello k bs seat letter => Sys2Proof.Machine.execHello k bs seat letter s
  | .data k bs => Sys2Proof.Machine.execData k bs s
  | .idle k bs => Sys2Proof.Machine.execIdle k bs s
  | .nak k bs => Sys2Proof.Machine.execNak k bs s
  | .time k bs sent rtt turn => Sys2Proof.Machine.execTime k bs sent rtt turn s
  | .ident k bs => Sys2Proof.Machine.execIdent k bs s
  | .replayTimeout k => Sys2Proof.Machine.execReplayTimeout k s
  | .linkUp k lanes => Sys2Proof.Machine.execLinkUp k lanes s
  | .linkDown k => Sys2Proof.Machine.execLinkDown k s
  | .linkRestart k => Sys2Proof.Machine.execLinkRestart k s
  | .identSend => Sys2Proof.Machine.execIdentSend s
  | .identComplete map => Sys2Proof.Machine.execIdentComplete map s
  | .xwaitTimeout => Sys2Proof.Machine.execXwaitTimeout s
  | .heartbeatSend => Sys2Proof.Machine.execHeartbeatSend s
  | .heartbeatTimeout seat => Sys2Proof.Machine.execHeartbeatTimeout seat s
  | .cutWait low => Sys2Proof.Machine.execCutWait low s
  | .redealDone opened valid spares => Sys2Proof.Machine.execRedealDone opened valid spares s
  | .timeExchange => Sys2Proof.Machine.execTimeExchange s
  | .tblTimeOfs v => Sys2Proof.Machine.execTblTimeOfs v s
  | .tblAlarm => Sys2Proof.Machine.execTblAlarm s
  | .errorReport => Sys2Proof.Machine.execErrorReport s
  | .thermalSample l => Sys2Proof.Machine.execThermalSample l s
  | .thermalCapInterval => Sys2Proof.Machine.execThermalCapInterval s
  | .railChange r good => Sys2Proof.Machine.execRailChange r good s
  | .xtal32RisingEdge => Sys2Proof.Machine.execXtal32RisingEdge s
  | .pcieLinkUp speed width => Sys2Proof.Machine.execPcieLinkUp speed width s
  | .ethLinkUp n => Sys2Proof.Machine.execEthLinkUp n s
  | .ethLinkDown n => Sys2Proof.Machine.execEthLinkDown n s
  | .wakeOutPulseEnd => Sys2Proof.Machine.execWakeOutPulseEnd s
  | .flashReadTimeout => Sys2Proof.Machine.execFlashReadTimeout s
  | .dpyAuxDone reply data => Sys2Proof.Machine.execDpyAuxDone reply data s
  | .netRuleSlotTimeout => Sys2Proof.Machine.execNetRuleSlotTimeout s

end Sys2Proof.Machine
end

