-- ==== Sys2Proof/Machine/Boundary.lean ====
section
/-!
DEFINITION. The boundary register: its pins and cells (R188, R189), and what the boundary-scan instructions make output
pins drive (R184, R187, R190-R192). The order of the cells is that of EL512_A1.bsd, a file outside the spec: the cell of a
pin's function is a constant without a body (assumption 66).
-/
namespace Sys2Proof.Machine

open Sys2Proof

/-- The instructions that take the output pins from the system: EXTEST, CLAMP, HIGHZ, EXTEST_PULSE, EXTEST_TRAIN. -/
def Hw.scanDrives (h : Hw) : Bool := irFreezes h.tap.ir

/-- What the part drives on a pin: nothing, a level, a value of two bits, or the signal that the pin's own function makes;
on a lane, electrical idle, or the pulse or train of IEEE 1149.6 with its data. -/
inductive Drive where
  | highZ | low | high | value (v : Nat) | active | idle | pulse (d : Bool) | train (d : Bool)
deriving DecidableEq, Repr

/-- An open-drain output: low where `b`, else released. -/
def Drive.drain (b : Bool) : Drive := if b then .low else .highZ

/-- A push-pull output. -/
def Drive.level (b : Bool) : Drive := if b then .high else .low

/-- What boundary scan makes a pin drive, from the update latches: high-impedance or idle under HIGHZ (R187); a level while
the enable is on; on a transmit pair a DC level under EXTEST (R191) and CLAMP, the pulse or train of IEEE 1149.6 under
EXTEST_PULSE and EXTEST_TRAIN (R192). -/
def Hw.scanOut (h : Hw) (p : BPin) : Drive :=
  let v := h.tap.cells
  let on := bCell v p .enable
  let lane := match p with
    | .tx _ | .dpAux => true
    | _ => false
  if lane then
    if h.tap.ir = 5 ∨ !on then .idle
    else if h.tap.ir = 6 then .pulse (bCell v p .data)
    else if h.tap.ir = 7 then .train (bCell v p .data)
    else .level (bCell v p .data)
  else if h.tap.ir = 5 ∨ !on then .highZ
  else .level (bCell v p .output)

end Sys2Proof.Machine
end

