-- ==== Sys2Proof/Machine/Pins.lean ====
section
/-!
DEFINITION. The output pins as the state drives them (R1218, with R107, R135, R136, R141, R243, R248, R856, R860, R1161,
R1163). No row reads them: the pins are what the outside sees of a state.
-/
namespace Sys2Proof.Machine

open Sys2Proof

/-- The output pins of R1218. IO_Bn_m by bank and number, SNS_CLK[g] by its group, SNS_RNG by the pair [2g + 1:2g], a
transmit pair as in `BPin`. -/
inductive OutPin where
  | io (n m : Nat)
  | tdo
  | tx (i : Nat)
  | spiClk | spiCsN | spiResetN | spiDq | done | cfgErrN | errN | alertN | pcieWakeN | pcieClkreqN
  | snsClk (g : Nat) | snsRng (g : Nat) | wakeOut
deriving DecidableEq, Repr

/-- The columns of R1218 for a powered part; `run` is none of them. -/
inductive PinPhase where
  | por | system | core | listen | deep | run
deriving DecidableEq, Repr

/-- Where the part stands (R1218). -/
def Hw.pinPhase (h : Hw) : PinPhase :=
  if h.rst.por then .por
  else if h.heldAt true then .system
  else if h.pwr == pwrLISTEN then .listen
  else if h.pwr == pwrDEEP then .deep
  else if h.heldAt false then .core
  else .run

/-- SNS_CLK[g] outside reset and sleep (R860). -/
def Hw.snsClkRuns (h : Hw) (g : Nat) : Bool := !(h.grpEn g).isEmpty && !h.fenced 642

/-- What holds a sensor data pin (R861). -/
inductive SnsPull where
  | none | keeper | down
deriving DecidableEq, Repr

/-- The hold of SNS_D[d], of group d div 4 (R856, R861). -/
def Hw.snsPull (h : Hw) (d : Nat) : SnsPull :=
  match h.get (R.SNS_GRP_CFG_KEEP (d / 4)) with
  | 1 => .keeper
  | 2 => .down
  | _ => .none

/-- Channel c's data pin, and whether the rising edge of its group's clock captures it (R857). -/
def snsPinOf (c : Nat) : Nat × Bool := (c / 2, c % 2 == 0)

/-- Half nanoseconds from the clock edge at the ball to the capture of group g's pins (R858). -/
def Hw.snsCaptureAfter (h : Hw) (g : Nat) : Nat := h.get (R.SNS_GRP_CFG_DLY g)

/-- The transmit pairs of a block that runs: not idle in reset, in LISTEN or in DEEP (R1218). PCIe lanes keep L2 in LISTEN
and are down in a system reset. -/
def Hw.txOut (h : Hw) (i : Nat) : Drive :=
  match h.pinPhase with
  | .por | .system | .deep => .idle
  | .listen => if i < 8 then .active else .idle
  | _ => .active

/-- What an output pin does under the system's control (R1218). -/
def Hw.sysOut (h : Hw) : OutPin → Drive
  | .io n m => if h.pinPhase = .run ∧ h.fab.outEn ∧ !(h.fab.ioHeld n m) then .active else .highZ
  | .tdo => if h.pinPhase = .por ∨ h.tapInternal ∨ h.tap.ctl ≠ .shDr then .highZ else Drive.level (bit h.captureDr 0)
  | .tx i => h.txOut i
  | .spiClk => match h.pinPhase with
    | .por | .listen | .deep => .highZ
    | .system => .low
    | _ => .active
  | .spiCsN => match h.pinPhase with
    | .por | .listen | .deep => .highZ
    | .system => .high
    | _ => .active
  | .spiResetN => match h.pinPhase with
    | .por | .listen | .deep => .highZ
    | .system => .low
    | _ => .high
  | .spiDq => match h.pinPhase with
    | .core | .run => .active
    | _ => .highZ
  | .done => match h.pinPhase with
    | .por | .system => .low
    | .listen | .deep => .highZ
    | _ => Drive.drain h.driveDone
  | .cfgErrN => match h.pinPhase with
    | .por | .system => .low
    | .listen | .deep => .highZ
    | _ => Drive.drain (h.is R.CFG_STAT_ERR)
  | .errN => match h.pinPhase with
    | .por | .system => .low
    | .listen | .deep => .highZ
    | _ => Drive.drain h.errN
  | .alertN => match h.pinPhase with
    | .core | .run => Drive.drain h.alertN
    | _ => .highZ
  | .pcieWakeN => match h.pinPhase with
    | .listen | .deep | .run => Drive.drain h.pwr'.pcieWake
    | _ => .highZ
  | .pcieClkreqN => match h.pinPhase with
    | .por | .listen | .deep => .highZ
    | _ => .low
  | .snsClk g => match h.pinPhase with
    | .por | .system => .low
    | .listen | .deep => if g = 0 ∧ h.is R.SNS_WAKE_STAT_RUN then .active else .low
    | _ => if h.snsClkRuns g then .active else .low
  | .snsRng g => match h.pinPhase with
    | .por | .system => .low
    | .listen | .deep => if g = 0 then .value (h.get R.SNS_WAKE_CFG_RNG) else .low
    | _ => .value (h.sgrp g).step
  | .wakeOut => match h.pinPhase with
    | .por => .low
    | _ => Drive.level h.pwr'.wakeOut

/-- The pin of the boundary register that an output pin is; none for TDO, and none for WAKE_OUT, which no instruction
changes (R189, R190). -/
def OutPin.bpin : OutPin → Option BPin
  | .io n m => some (.io n m)
  | .tx i => some (.tx i)
  | .spiClk => some .spiClk | .spiCsN => some .spiCsN | .spiResetN => some .spiResetN | .spiDq => some (.spiDq 0)
  | .done => some .done | .cfgErrN => some .cfgErrN | .errN => some .errN | .alertN => some .alertN
  | .pcieWakeN => some .pcieWakeN | .pcieClkreqN => some .clkreqN
  | .snsClk g => some (.snsClk g) | .snsRng g => some (.snsRng (2 * g))
  | .tdo | .wakeOut => none

/-- What an output pin does: under EXTEST, CLAMP, HIGHZ, EXTEST_PULSE and EXTEST_TRAIN the boundary register drives it (R187,
R191, R192), else the system. -/
def Hw.pinOut (h : Hw) (p : OutPin) : Drive :=
  match p.bpin with
  | some b => if h.scanDrives then h.scanOut b else h.sysOut p
  | none => h.sysOut p

end Sys2Proof.Machine
end

