-- ==== Sys2Proof/WellFormed.lean ====
section
/-!
DEFINITION. Which operands a command of the table may carry. The meanings are total: an operand outside its range leaves
the state as it is, or is taken as the register or bus it would reach takes it.
-/
namespace Sys2Proof

/-- Is it a mailbox (R346): 0 to 15 of the partitions, 16 of the management? -/
def mboxOk (m : Nat) : Bool := decide (m ≤ 16)

/-- Is it a handle (R362)? -/
def handleOk (k : Nat) : Bool := decide (k < 8)

/-- Is it a tile (R691)? -/
def tileOk (t : Nat) : Bool := decide (t < 512)

/-- Is it a partition (R796)? -/
def partOk (p : Nat) : Bool := decide (p < 16)

/-- Is it a node (R691)? -/
def nodeOk (n : Nat) : Bool := decide (n < 655)

/-- Is it a fold region: a partition, or 16 + fabric port (R715)? -/
def regionOk (k : Nat) : Bool := decide (k < 80)

/-- Is it a register word (R17)? -/
def wordOk (v : Nat) : Bool := decide (v < 2 ^ 32)

/-- Is it a Dealer-map address (R346)? -/
def addrOk (a : Nat) : Bool := decide (a < 2 ^ 32)

/-- Is it a monitored input (R67)? -/
def inputOk (i : Nat) : Bool := decide (i < 4)

/-- Is it a PLL or partition clock generator (R70)? -/
def pllOk (p : Nat) : Bool := decide (p < 32)

/-- Is it a reset pin (R98)? -/
def pinOk (p : Nat) : Bool := decide (p < 3)

/-- Is it a WAKE_IN pin (R138)? -/
def wakeOk (n : Nat) : Bool := decide (n < 4)

/-- Is it a seat (R1089)? -/
def seatOk (n : Nat) : Bool := decide (n < 8)

/-- Is it a BOOT_SRC strap (R207)? -/
def bootOk (n : Nat) : Bool := decide (n < 4)

/-- Is it an 8-bit field? -/
def byteOk (v : Nat) : Bool := decide (v < 256)

/-- Is it the width of an access in bytes (R17, R18)? -/
def widthOk (n : Nat) : Bool := decide (1 ≤ n ∧ n ≤ 8)

/-- Is it ADDR of FUSE_PROG: a bit of 128 words of 32 (R199, R228)? -/
def fuseBitOk (a : Nat) : Bool := decide (a < 4096)

/-- Is it an instruction code of the TAP (R178)? -/
def irOk (v : Nat) : Bool := decide (v < 1024)

/-- Is it USER1 to USER4 (R178)? -/
def userOk (n : Nat) : Bool := decide (1 ≤ n ∧ n ≤ 4)

/-- Is it a fabric port (R313)? -/
def portOk (i : Nat) : Bool := decide (i < 64)

/-- Is it a pseudo-channel (R740)? -/
def chanOk (c : Nat) : Bool := decide (c < 64)

/-- Is it a bank of a pseudo-channel (R734)? -/
def bankOk (b : Nat) : Bool := decide (b < 32)

/-- Is it a memory stack (R791)? -/
def stackOk (s : Nat) : Bool := decide (s < 2)

/-- Is it a sensor group (R898)? -/
def groupOk (g : Nat) : Bool := decide (g < 4)

/-- Is it a capture source (R902)? -/
def captureOk (s : Nat) : Bool := decide (s < 40)

/-- Is it one of the 16 signal cores (chapter 17)? -/
def coreOk (k : Nat) : Bool := decide (k < 16)

/-- Is it an Ethernet port (R1004)? -/
def ethOk (n : Nat) : Bool := decide (n < 2)

/-- Is it a queue of an Ethernet port (R1024)? -/
def queueOk (q : Nat) : Bool := decide (q < 8)

/-- Is it a receive queue of an Ethernet port (R1024)? -/
def rxQueueOk (q : Nat) : Bool := decide (q < 16)

/-- Is it a Moazel link (R1086)? -/
def linkOk (k : Nat) : Bool := decide (k < 4)

/-- Is it a PCIe function (R1057)? -/
def vfOk (n : Nat) : Bool := decide (n ≤ 16)

/-- Is it a BAR (R1058)? -/
def barOk (n : Nat) : Bool := n == 0 || n == 2 || n == 4

/-- Is it a host DMA engine (R372)? -/
def engineOk (e : Nat) : Bool := decide (e < 8)

/-- Is it a switched rail (R1234)? -/
def railOk (r : Nat) : Bool := decide (r < 10)

/-- Is it the 18 temperature sensors (R1222)? -/
def sensorsOk (l : List Nat) : Bool := l.length == 18

/-- Are they the sensed voltages of 13 banks, two bits a bank (R335)? -/
def voltsOk (v : Nat) : Bool := decide (v < 2 ^ 26)

/-- What runs a NOP. -/
def nopOk : Machine.NopAt → Bool
  | .mailbox m k => mboxOk m && handleOk k
  | .core k => coreOk k

/-- A well-formed command. -/
def Instr.wf : Instr → Bool
  | .registerWrite ws => ws.all (fun w => addrOk w.a && widthOk w.bytes && decide (w.ev < 2 ^ 32))
  | .monitorWindow i _ => inputOk i
  | .xtal32Window => true
  | .pllLockLoss p => pllOk p
  | .pllLockHeld p => pllOk p
  | .clockLossClear v => wordOk v
  | .stepComplete p => partOk p
  | .tableTimeForward _ => true
  | .porDetect => true
  | .porRelease => true
  | .resetPinAssert p => pinOk p
  | .resetPinGlitch p => pinOk p
  | .resetPinRelease p => pinOk p
  | .systemReset seat boot => seatOk seat && bootOk boot
  | .coreReset v => voltsOk v
  | .resetPendNoclkStart => true
  | .resetNvDelayEnd => true
  | .wdtTimeout _ => true
  | .sysWdtKick v => wordOk v
  | .sysRstReqCore => true
  | .sysRstReqSystem => true
  | .pwrTargetRun tmo => byteOk tmo
  | .pwrTargetIdle tmo => byteOk tmo
  | .pwrTargetPark tmo => byteOk tmo
  | .pwrTargetListen tmo => byteOk tmo
  | .pwrTargetDeep tmo => byteOk tmo
  | .pwrHeldTargetApply => true
  | .listenL2Ready => true
  | .listenAbort => true
  | .listenDeepTimeout => true
  | .wakeExit => true
  | .wakeExitClocksGood _ seat boot v => seatOk seat && bootOk boot && voltsOk v
  | .wakeInEdge n _ => wakeOk n
  | .aotCompareMatch => true
  | .pciePerstRise => true
  | .testLogicReset => true
  | .trstNAssert => true
  | .captureIr _ => true
  | .updateIr op _ _ => irOk op
  | .cfgIn _ => true
  | .cfgPartial _ => true
  | .cfgStat => true
  | .fuseProgram a => fuseBitOk a
  | .fuseRead a => fuseBitOk a
  | .fusePulseDone _ => true
  | .hbmPort _ => true
  | .userWrite n v _ => userOk n && wordOk v
  | .userRead n _ => userOk n
  | .dbgAccess a _ _ => addrOk a
  | .dbgCtlHalt _ _ => true
  | .tapMasterTake _ _ => true
  | .configStart _ => true
  | .dataRecord => true
  | .repeatRecord => true
  | .endRecord => true
  | .cfgStreamEnd => true
  | .clearPassDone => true
  | .doneRelease => true
  | .doneSeenHigh v => voltsOk v
  | .releaseStage v => voltsOk v
  | .doneSeenLow => true
  | .progN => true
  | .cfgCtlRestart => true
  | .cfgCtlLock => true
  | .partialFoldDone => true
  | .scrubFrame _ => true
  | .fabUregAccess _ a _ _ => addrOk a
  | .fabUregTimeout => true
  | .fabPllLossClear v => wordOk v
  | .fabricPortTx i _ => portOk i
  | .fabricPortRx _ _ => true
  | .mbxDbCmd m v => mboxOk m && wordOk v
  | .mbxDbCpl m v => mboxOk m && wordOk v
  | .mbxNext => true
  | .mbxPostGo m k => mboxOk m && handleOk k
  | .mbxPostEvent m => mboxOk m
  | .mbxEventDequeue m => mboxOk m
  | .mbxCmdTimeout m k => mboxOk m && handleOk k
  | .mbxCoalTimeout m => mboxOk m
  | .dmaEngineAssign => true
  | .nop at_ _ => nopOk at_
  | .info m k => mboxOk m && handleOk k
  | .reset m k => mboxOk m && handleOk k
  | .regRead m k _ => mboxOk m && handleOk k
  | .regWrite m k _ => mboxOk m && handleOk k
  | .memRead m k _ _ => mboxOk m && handleOk k
  | .memWrite m k _ _ => mboxOk m && handleOk k
  | .power m k => mboxOk m && handleOk k
  | .imageLoad m k => mboxOk m && handleOk k
  | .partialLoad m k => mboxOk m && handleOk k
  | .flashRead m k _ => mboxOk m && handleOk k
  | .flashWrite m k _ => mboxOk m && handleOk k
  | .flashErase m k _ => mboxOk m && handleOk k
  | .partOpen m k => mboxOk m && handleOk k
  | .partFold m k => mboxOk m && handleOk k
  | .partOff m k => mboxOk m && handleOk k
  | .partPace m k => mboxOk m && handleOk k
  | .partBw m k => mboxOk m && handleOk k
  | .programLoad m k _ => mboxOk m && handleOk k
  | .jobStart m k => mboxOk m && handleOk k
  | .checkpoint m k => mboxOk m && handleOk k
  | .partStatus m k => mboxOk m && handleOk k
  | .snsConfig m k _ => mboxOk m && handleOk k
  | .snsCapture m k => mboxOk m && handleOk k
  | .snsWake m k _ => mboxOk m && handleOk k
  | .snsStatus m k => mboxOk m && handleOk k
  | .sigLoad m k _ => mboxOk m && handleOk k
  | .sigRun m k => mboxOk m && handleOk k
  | .sigStop m k => mboxOk m && handleOk k
  | .sigStatus m k => mboxOk m && handleOk k
  | .gfxSubmit m k _ => mboxOk m && handleOk k
  | .dpyMode m k _ _ => mboxOk m && handleOk k
  | .dpyPlane m k _ => mboxOk m && handleOk k
  | .gfxStatus m k => mboxOk m && handleOk k
  | .netPort m k => mboxOk m && handleOk k
  | .netRule m k _ => mboxOk m && handleOk k
  | .netQueue m k => mboxOk m && handleOk k
  | .netShaper m k => mboxOk m && handleOk k
  | .netPtp m k => mboxOk m && handleOk k
  | .netStatus m k => mboxOk m && handleOk k
  | .tblStatus m k _ => mboxOk m && handleOk k
  | .tblSpare m k => mboxOk m && handleOk k
  | .tblSleep m k => mboxOk m && handleOk k
  | .tblTimeRead m k => mboxOk m && handleOk k
  | .tblTimeStep m k => mboxOk m && handleOk k
  | .setRead m k => mboxOk m && handleOk k
  | .setWrite m k => mboxOk m && handleOk k
  | .fwWrite m k => mboxOk m && handleOk k
  | .fwSelect m k => mboxOk m && handleOk k
  | .fwConfirm m k => mboxOk m && handleOk k
  | .logRead m k => mboxOk m && handleOk k
  | .selfTest m k => mboxOk m && handleOk k
  | .bootSlotSelect => true
  | .mramPulseStart _ => true
  | .mramPulseDone _ f => f.all (fun e => decide (e.1 < 0x400000 ∧ e.2 ≤ 240))
  | .wideWord t _ _ => tileOk t
  | .matrixWriteback t => tileOk t
  | .tilCtlRun t => tileOk t
  | .tilCtlStep t => tileOk t
  | .tilCtlHalt t => tileOk t
  | .tilSeed t v => tileOk t && wordOk v
  | .streamRequest n _ => tileOk n
  | .streamResponse n _ => tileOk n
  | .layerListRead n _ => tileOk n
  | .prefetchFill n _ => tileOk n
  | .jobRelease p => partOk p
  | .jobEnd p => partOk p
  | .rd _ _ _ _ => true
  | .wr _ _ _ _ _ => true
  | .rdRsp _ _ => true
  | .wrRsp _ _ => true
  | .foldReq n => nodeOk n
  | .foldOutDrained n => nodeOk n
  | .foldInDrained n => nodeOk n
  | .fenceDone n => nodeOk n
  | .foldAck k => regionOk k
  | .heartbeat _ _ _ => true
  | .interrupt _ _ => true
  | .nocFold _ i _ => portOk i
  | .nocUnfold _ i => portOk i
  | .foldTimeout k => regionOk k
  | .rspTimeout n _ => nodeOk n
  | .burstIssue c _ _ => chanOk c
  | .throttleEnd c => chanOk c
  | .refresh c => chanOk c
  | .refreshWindow st => stackOk st
  | .rowClose c bank => chanOk c && bankOk bank
  | .powerDown st => stackOk st
  | .memTempUpdate st _ => stackOk st
  | .tempStale st => stackOk st
  | .hbmCatastrophicTemp st _ => stackOk st
  | .trainingDone st _ => stackOk st
  | .laneRepair st => stackOk st
  | .retrain st => stackOk st
  | .pacingSample p => partOk p
  | .pacingWindow p => partOk p
  | .pacingCorrect p => partOk p
  | .checkpointWrite p => partOk p
  | .checkpointCommit p => partOk p
  | .dummyCopyAck p _ _ _ => partOk p
  | .snsOutputSample g _ => groupOk g
  | .snsTrig _ => true
  | .captureBlockComplete u _ => captureOk u
  | .wakeFrame _ => true
  | .sigTrigger k => coreOk k
  | .sigSoft _ => true
  | .sigRunEnd k _ => coreOk k
  | .sigTransferResponse _ => true
  | .sigCorekMdata k _ => coreOk k
  | .fmac k _ => coreOk k
  | .fmsc k _ => coreOk k
  | .fmul k _ => coreOk k
  | .fadd k _ => coreOk k
  | .fsub k _ => coreOk k
  | .fabs k _ => coreOk k
  | .fneg k _ => coreOk k
  | .fmin k _ => coreOk k
  | .fmax k _ => coreOk k
  | .fcmp k _ => coreOk k
  | .fcvtq k _ => coreOk k
  | .fcvtf k _ => coreOk k
  | .frcp k _ => coreOk k
  | .frsqrt k _ => coreOk k
  | .iadd k _ => coreOk k
  | .isub k _ => coreOk k
  | .iand k _ => coreOk k
  | .ior k _ => coreOk k
  | .ishl k _ => coreOk k
  | .ishr k _ => coreOk k
  | .imov k _ => coreOk k
  | .icmp k _ => coreOk k
  | .seta k _ => coreOk k
  | .mova k _ => coreOk k
  | .movr k _ => coreOk k
  | .loop k _ => coreOk k
  | .sigBr k _ => coreOk k
  | .sigJmp k _ => coreOk k
  | .sigCall k _ => coreOk k
  | .ret k _ => coreOk k
  | .sigHalt k _ => coreOk k
  | .waitt k _ => coreOk k
  | .get k _ => coreOk k
  | .put k _ => coreOk k
  | .signal k _ => coreOk k
  | .pass _ => true
  | .shader _ => true
  | .draw _ => true
  | .binJobStart _ => true
  | .waveRecordWrite t _ _ => tileOk t
  | .binJobStore t _ => tileOk t
  | .gfxRelease q => partOk q
  | .gfxAutoClr v => wordOk v
  | .vblank => true
  | .scanoutUnderflow _ => true
  | .hpdUnplug => true
  | .irqHpd _ _ => true
  | .hpdPlug => true
  | .dpyAuxGo v => wordOk v
  | .rxFrame n _ _ _ => ethOk n
  | .rxDescriptorWrite n q _ => ethOk n && rxQueueOk q
  | .txFrameStart n _ _ _ => ethOk n
  | .txFrameDone n _ => ethOk n
  | .shaperTick => true
  | .forgive n q => ethOk n && queueOk q
  | .netPnShpqRate n q v => ethOk n && queueOk q && wordOk v
  | .netPnShpqBucket n q v => ethOk n && queueOk q && wordOk v
  | .hostMemRead fn bar _ _ _ _ _ => vfOk fn && barOk bar
  | .hostMemWrite fn bar _ _ _ _ _ => vfOk fn && barOk bar
  | .configRequest fn _ _ => vfOk fn
  | .functionLevelReset n => vfOk n
  | .pmeTurnOff => true
  | .pcieLinkDown _ => true
  | .dmaCompletion e j _ _ _ => engineOk e && decide (j < 96)
  | .hello k _ seat _ => linkOk k && seatOk seat
  | .data k _ => linkOk k
  | .idle k _ => linkOk k
  | .nak k _ => linkOk k
  | .time k _ _ _ _ => linkOk k
  | .ident k _ => linkOk k
  | .replayTimeout k => linkOk k
  | .linkUp k _ => linkOk k
  | .linkDown k => linkOk k
  | .linkRestart k => linkOk k
  | .identSend => true
  | .identComplete _ => true
  | .xwaitTimeout => true
  | .heartbeatSend => true
  | .heartbeatTimeout seat => seatOk seat
  | .cutWait _ => true
  | .redealDone _ _ _ => true
  | .timeExchange => true
  | .tblTimeOfs v => wordOk v
  | .tblAlarm => true
  | .errorReport => true
  | .thermalSample l => sensorsOk l
  | .thermalCapInterval => true
  | .railChange r _ => railOk r
  | .xtal32RisingEdge => true
  | .pcieLinkUp _ _ => true
  | .ethLinkUp n => ethOk n
  | .ethLinkDown n => ethOk n
  | .wakeOutPulseEnd => true
  | .flashReadTimeout => true
  | .dpyAuxDone _ _ => true
  | .netRuleSlotTimeout => true

end Sys2Proof
end

