-- ==== Sys2Proof/Safety.lean ====
section
/-!
DEFINITION. What counts as a sound state and a safe run, in the terms the claims use.
-/
namespace Sys2Proof.Machine

open Sys2Proof

/-- Fuses only ever turn from 0 to 1 (R228): every bit programmed in `s` is programmed in `t`. -/
def FuseKept (s t : State) : Prop :=
  ∀ w b : Nat, bit (fuseRd s.fuse w) b = true → bit (fuseRd t.fuse w) b = true

/-- The fuse words in their canonical form. -/
def fuseWf (f : SMap Word) : Bool := SMap.wf (fun _ => (0 : Word)) f

/-- Every memory of the part in its canonical form. -/
def Mems.wf (m : Mems) : Bool :=
  [m.kitty, m.hbm, m.dsram, m.mram, m.flash, m.rom, m.host].all Memory.wf &&
    NSet.wf 0 m.kittyP && NSet.wf 0 m.hbmP && NSet.wf 0 m.dsramP

/-- The states that `n` commands of `s`'s queue lead to, while every step answers a next state. -/
def run : Nat → State → Option State
  | 0, s => some s
  | n + 1, s => match step s with
    | .next t => run n t
    | _ => none

/-- A run is safe when no step of it stops. -/
def SafeRun (n : Nat) (s : State) : Prop := (run n s).isSome = true

end Sys2Proof.Machine
end

