-- ==== Sys2Proof/Certificates/Slice0/Obligations.lean ====
section
/-!
DEFINITION. The statements for the provers.
-/
open Sys2Proof Sys2Proof.Machine

/-- For every command c and state s, a step of s with c at the front of its queue is exec of c on s with the rest of
the queue. -/
def Obligations.StepRunsFront : Prop :=
  ∀ (c : Instr) (l : List Instr) (s : State), step { s with pending := c :: l } = exec c { s with pending := l }

/-- A step on an empty queue whose fabric clocks do not run answers the same state; with them running it answers a
state that differs in the fabric and the free-value counter alone. The spec has no such step; the model's choice is log
entry 10. -/
def Obligations.EmptyQueueIdles : Prop :=
  (∀ s : State, s.pending = [] → s.hw.fabRuns = false → step s = .next s) ∧
  (∀ s : State, s.pending = [] → s.hw.fabRuns = true → ∃ h, step s = .next { s with hw := h } ∧
    h = { s.hw with fab := h.fab, free := h.free })

/-- At State.reset no command waits, no fuse of words 32 to 127 is programmed, and NOC_FOLD_TMO, NOC_RSP_TMO and
NOC_ARB hold 1,000, 2,000 and the weights 4, 2 and 1; every partition reads OFF, every signal core reads IDLE, every tile
is as after a reset that clears its store, and every byte of HBM and Kitty reads 0. That unlisted bytes read 0 and that
the fuses are unprogrammed is the model's choice (log entries 2 and 3). -/
def Obligations.ResetValues : Prop :=
  State.reset.pending = [] ∧ State.reset.fuse = [] ∧
    State.reset.hw.get R.NOC_FOLD_TMO_US = 1000 ∧ State.reset.hw.get R.NOC_RSP_TMO_US = 2000 ∧
    State.reset.hw.get R.NOC_ARB_W_RSP = 4 ∧ State.reset.hw.get R.NOC_ARB_W_REQ = 2 ∧ State.reset.hw.get R.NOC_ARB_W_BULK = 1 ∧
    (∀ p, p < 16 → State.reset.hw.pstate p = 0 ∧ State.reset.hw.sstate p = 0) ∧
    (∀ n, n < 512 → State.reset.hw.tile n = Tile.reset) ∧
    (∀ a, Mem.get State.reset.hw.mem.hbm a = 0 ∧ Mem.get State.reset.hw.mem.kitty a = 0)

/-- No command of the table ends in a fault or a refusal in any state, and what a command does leaves the queue behind
it as it was. -/
def Obligations.EveryCommandAnswers : Prop :=
  ∀ (c : Instr) (s : State), ∃ t, exec c s = .next t ∧ t.pending = s.pending

/-- From every state whose fuses are in canonical form, a step that answers a next state leaves them in canonical form
and keeps every programmed bit programmed, whatever command it runs. -/
def Obligations.FusesKept : Prop :=
  ∀ s t : State, fuseWf s.fuse = true → step s = .next t → fuseWf t.fuse = true ∧ FuseKept s t

/-- At State.reset the fuses are in canonical form and so is every memory of the part. -/
def Obligations.ResetInvariant : Prop :=
  fuseWf State.reset.fuse = true ∧ State.reset.hw.mem.wf = true

/-- A window of input i within its limits marks it good and ends its run of bad windows; the first window outside the
limits raises MARG[i]; a bad crystal window clears XTAL32_OK and a crystal edge sets it; a write of 1 to LOST[i] clears it
exactly when the loss is over. None of them changes a memory or a tile. -/
def Obligations.ClockMonitors : Prop :=
  (∀ (s : State) (i n : Nat), i < 4 → s.hw.rst.por = false → countOk i n = true → ∃ t, exec (.monitorWindow i n) s =
    .next t ∧ NSet.has t.hw.clk.good i = true ∧ NMap.get t.hw.clk.run i = 0 ∧ t.hw.mem = s.hw.mem ∧ t.hw.tiles =
    s.hw.tiles) ∧
  (∀ (s : State) (i n : Nat), i < 4 → s.hw.rst.por = false → s.hw.asleep = false → countOk i n = false → (i = 3 →
    s.hw.is R.SYS_CLK_CFG_SNS_SRC = false) → NMap.get s.hw.clk.run i = 0 → ∃ t, exec (.monitorWindow i n) s = .next t
    ∧ NSet.has t.hw.clk.good i = false ∧ NMap.get t.hw.clk.run i = 1 ∧ bit (t.hw.rd R.SYS_CLK_LOSS) (8 + i) = true ∧
    t.hw.mem = s.hw.mem ∧ t.hw.tiles = s.hw.tiles) ∧
  (∀ (s : State), s.hw.rst.por = false → ∃ t, exec .xtal32Window s = .next t ∧ NSet.has t.hw.clk.good 4 = false ∧
    t.hw.get R.SYS_CLK_STAT_XTAL32_OK = 0 ∧ t.hw.mem = s.hw.mem ∧ t.hw.tiles = s.hw.tiles) ∧
  (∀ (s : State), s.hw.rst.por = false → ∃ t, exec .xtal32RisingEdge s = .next t ∧ NSet.has t.hw.clk.good 4 = true ∧
    NMap.get t.hw.clk.run 4 = 0 ∧ t.hw.get R.SYS_CLK_STAT_XTAL32_OK = 1 ∧ t.hw.mem = s.hw.mem ∧ t.hw.tiles =
    s.hw.tiles) ∧
  (∀ (s : State) (i : Nat), i < 5 → s.hw.blkDown .sys R.SYS_CLK_LOSS = false → ∃ t, exec (.clockLossClear (2 ^ i)) s =
    .next t ∧ bit (t.hw.rd R.SYS_CLK_LOSS) i = (bit (s.hw.rd R.SYS_CLK_LOSS) i && !s.hw.lossOver i) ∧ t.hw.mem =
    s.hw.mem ∧ t.hw.tiles = s.hw.tiles)

/-- The audio PLL's loss of lock leaves it unlocked and, where it is the sensor clock's source, fences node 642; a PLL
that has held lock is locked again and its own loss no longer fences its node. Neither changes a register or a
memory. -/
def Obligations.PllLocks : Prop :=
  (∀ (s : State), s.hw.rst.por = false → s.hw.asleep = false → NSet.has s.hw.clk.locked 6 = true → ∃ t,
    exec (.pllLockLoss 6) s = .next t ∧ NSet.has t.hw.clk.locked 6 = false ∧ (s.hw.is R.SYS_CLK_CFG_SNS_SRC =
    true → t.hw.fenced 642 = true) ∧ t.hw.regs = s.hw.regs ∧ t.hw.mem = s.hw.mem) ∧
  (∀ (s : State) (p : Nat), p < 16 → s.hw.rst.por = false → s.hw.asleep = false → ∃ t, exec (.pllLockHeld p) s = .next
    t ∧ NSet.has t.hw.clk.locked p = true ∧ (p = 3 → bit (t.hw.fenceMask 646) 1 = false) ∧ (p = 6 → bit
    (t.hw.fenceMask 642) 1 = false) ∧ (p = 7 → bit (t.hw.fenceMask 649) 1 = false) ∧ t.hw.regs = s.hw.regs ∧ t.hw.mem
    = s.hw.mem)

/-- Where no step is held a completed step leaves the generator at rest; a held step otherwise becomes the present one
and slews on; a forward of table time moves the forwarded value to table time and 1,280 sixteenths of a nanosecond
pass. -/
def Obligations.ClockSteps : Prop :=
  (∀ (s : State) (p : Nat), s.hw.sysUp = true → s.hw.slewing p = true → s.hw.heldSteps p = [] → (s.hw.pt p).gov.closed
    = false → exec (.stepComplete p) s = .next { s with hw := (s.hw.put (R.SYS_TCLK_CUR_SLEWING p) 0) }) ∧
  (∀ (s : State) (p : Nat), s.hw.sysUp = true → s.hw.slewing p = true → s.hw.heldSteps p = [] → ∃ t, exec
    (.stepComplete p) s = .next t ∧ t.hw.slewing p = false ∧ (t.hw.pt p).gov.closed = false ∧ t.hw.mem = s.hw.mem ∧
    t.hw.tiles = s.hw.tiles) ∧
  (∀ (s : State) (p k : Nat) (ks : List Nat), s.hw.sysUp = true → s.hw.slewing p = true → s.hw.heldSteps p = k :: ks →
    exec (.stepComplete p) s = .next { s with hw := ((s.hw.setHeld p ks).put (R.SYS_TCLK_CUR_STEP p) k) }) ∧
  (∀ (s : State), s.hw.sysUp = true → ∃ t, exec (.tableTimeForward 1) s = .next t ∧ t.hw.clk.fwd = t.hw.clk.tt ∧
    t.hw.clk.now = s.hw.clk.now + 1280 ∧ t.hw.regs = s.hw.regs ∧ t.hw.mem = s.hw.mem)

/-- The POR detector clears tiles, partitions, HBM and Kitty and records POR_DET. Its release loads the security word
from fuse word 52 and leaves the release sequence pending for SYSCLK. SYS_RST_N or CORE_RST_N held low is recorded with
its cause and leaves a reset pending; POR_N held low asserts POR with its cause. A glitch of a pin is counted in the pin's
own counter. A released pin no longer holds; the release of POR_N releases POR where the detector does not hold it. -/
def Obligations.ResetPins : Prop :=
  (∀ (s : State), ∃ t, exec .porDetect s = .next t ∧ t.hw.rst.por = true ∧ t.hw.rst.det = true ∧ t.hw.tiles = [] ∧
    t.hw.part = [] ∧ t.hw.mem.hbm = [] ∧ t.hw.mem.kitty = [] ∧ bit (t.hw.rd R.SYS_RST_CAUSE) 2 = true) ∧
  (∀ (s : State), s.hw.rst.por = true → NSet.has s.hw.rst.pins 0 = false → exec .porRelease s = .next
    { s with hw := { s.hw with rst := { s.hw.rst with det := false, por := false, pend := some ⟨.por, true, 0, false, true⟩ }, ident := { s.hw.ident with sec := BitVec.ofNat 32 (fuseRd s.fuse 52) } } }) ∧
  (∀ (s : State) (p : Nat), p = 1 ∨ p = 2 → NSet.has s.hw.rst.pins p = false → s.hw.rst.por = false → s.hw.pwr'.phase
    = .idle → ∃ t, exec (.resetPinAssert p) s = .next t ∧ NSet.has t.hw.rst.pins p = true ∧ bit (t.hw.rd
    R.SYS_RST_CAUSE) (if p = 1 then 4 else 8) = true ∧ t.hw.rst.pend.isSome = true ∧ (p = 1 → s.hw.rst.pend = none →
    t.hw.rst.pend.map (fun q => q.level) = some .system) ∧ t.hw.mem = s.hw.mem ∧ t.hw.tiles = s.hw.tiles) ∧
  (∀ (s : State), NSet.has s.hw.rst.pins 0 = false → s.hw.rst.por = false → s.hw.nvRuns = 0 → ∃ t, exec
    (.resetPinAssert 0) s = .next t ∧ t.hw.rst.por = true ∧ NSet.has t.hw.rst.pins 0 = true ∧ bit (t.hw.rd
    R.SYS_RST_CAUSE) 3 = true ∧ t.hw.tiles = [] ∧ t.hw.mem.hbm = []) ∧
  (∀ (s : State), exec (.resetPinGlitch 0) s = .next { s with hw := (s.hw.bump R.SYS_RST_GLITCH_POR) }) ∧
  (∀ (s : State), exec (.resetPinGlitch 1) s = .next { s with hw := (s.hw.bump R.SYS_RST_GLITCH_SYS) }) ∧
  (∀ (s : State), exec (.resetPinGlitch 2) s = .next { s with hw := (s.hw.bump R.SYS_RST_GLITCH_CORE) }) ∧
  (∀ (s : State) (p : Nat), p ≠ 0 → exec (.resetPinRelease p) s = .next ({ s with hw := { s.hw with rst :=
    { s.hw.rst with pins := NSet.del s.hw.rst.pins p } } } : State).porLoad) ∧
  (∀ (s : State), s.hw.rst.por = true → s.hw.rst.det = false → ∃ t, exec (.resetPinRelease 0) s = .next t ∧
    t.hw.rst.por = false ∧ NSet.has t.hw.rst.pins 0 = false ∧ t.hw.rst.pend.map (fun q => q.level) = some .por ∧
    t.hw.regs = s.hw.regs)

/-- A system reset that may run (nothing is waited for, no reset pin holds) leaves no reset pending, no tile or
partition state, Kitty and Dealer SRAM empty, the sampled straps in TBL_STAT.SEAT and CFG_STAT.SOURCE and both stacks in
TRAINING; MRAM and flash stay. A core reset that may run leaves no reset pending, every tile as after reset, every
partition OFF, Dealer SRAM empty, and the part in RUN with BUSY 0; HBM and flash stay. -/
def Obligations.ResetSequences : Prop :=
  (∀ (s : State) (seat boot : Nat) (q : PendRst), s.hw.rst.pend = some q → s.hw.pendReady = true → q.level ≠ .core →
    s.hw.pinsFrozen = false → ∃ t, exec (.systemReset seat boot) s = .next t ∧ t.hw.rst.pend = none ∧ t.hw.tiles = [] ∧
    t.hw.part = [] ∧ t.hw.mem.kitty = [] ∧ t.hw.mem.dsram = [] ∧ t.hw.get R.TBL_STAT_SEAT = seat % 8 ∧ t.hw.get
    R.CFG_STAT_SOURCE = boot % 4 ∧ t.hw.get (R.MEM_STAT_STATE 0) = 1 ∧ t.hw.get (R.MEM_STAT_STATE 1) = 1 ∧
    t.hw.mem.mram = s.hw.mem.mram ∧ t.hw.mem.flash = s.hw.mem.flash) ∧
  (∀ (s : State) (volts : Nat) (q : PendRst), s.hw.rst.pend = some q → s.hw.pendReady = true → q.level = .core →
    ∃ t, exec (.coreReset volts) s = .next t ∧ t.hw.rst.pend = none ∧ t.hw.tiles = [] ∧ (∀ p, p < 16 → t.hw.pstate p =
    0) ∧ t.hw.mem.dsram = [] ∧ t.hw.get R.PWR_STATE_STATE = 0 ∧ t.hw.get R.PWR_STATE_BUSY = 0 ∧ t.hw.mem.hbm =
    s.hw.mem.hbm ∧ t.hw.mem.flash = s.hw.mem.flash)

/-- A reset that waits for SYSCLK no longer waits once REFCLK has been good for two windows, and the PLLs that hang on
REFCLK are locked. One delayed by write pulses no longer waits once they have ended, and each delay is counted; a POR so
delayed asserts. The watchdog below TIMEOUT counts on; at TIMEOUT its count restarts, WDT is recorded and a reset of at
least the system level is pending. A kick of 0x5EED restarts the count. A keyed write of SYS_RST_REQ for a core reset
records CORE_CMD and leaves a reset pending, of the system level with PROMOTED while the fabric is unreleased; one for a
system reset records SYS_CMD and leaves a reset of at least the system level pending. -/
def Obligations.ResetWaits : Prop :=
  (∀ (s : State) (q : PendRst), s.hw.rst.pend = some q → q.noclk = true → 2 ≤ s.hw.clk.refGood → ∃ t, exec
    .resetPendNoclkStart s = .next t ∧ t.hw.rst.pend = some { q with noclk := false } ∧ NSet.has t.hw.clk.locked 0 =
    true ∧ NSet.has t.hw.clk.locked 1 = true ∧ NSet.has t.hw.clk.locked 2 = true ∧ t.hw.mem = s.hw.mem ∧ t.hw.tiles =
    s.hw.tiles) ∧
  (∀ (s : State) (q : PendRst), s.hw.rst.pend = some q → q.nv ≠ 0 → s.hw.nvRuns = 0 → q.level ≠ .por → ∃ h, exec
    .resetNvDelayEnd s = .next { s with hw := h } ∧ h.rst = { s.hw.rst with pend := some { q with nv := 0 } } ∧
    h.get R.SYS_RST_NVDELAY_MRAM = (if bit q.nv 0 = true then min 255 (s.hw.get R.SYS_RST_NVDELAY_MRAM + 1) else
    s.hw.get R.SYS_RST_NVDELAY_MRAM) ∧ h.get R.SYS_RST_NVDELAY_FUSE = (if bit q.nv 1 = true then min 255 (s.hw.get
    R.SYS_RST_NVDELAY_FUSE + 1) else s.hw.get R.SYS_RST_NVDELAY_FUSE) ∧ h = { s.hw with regs := h.regs, rst := h.rst }) ∧
  (∀ (s : State) (q : PendRst), s.hw.rst.pend = some q → q.nv ≠ 0 → s.hw.nvRuns = 0 → q.level = .por → ∃ t, exec
    .resetNvDelayEnd s = .next t ∧ t.hw.rst.por = (s.hw.rst.det || NSet.has s.hw.rst.pins 0) ∧ bit (t.hw.rd
    R.SYS_RST_CAUSE) 3 = true ∧ t.hw.tiles = [] ∧ t.hw.part = [] ∧ t.hw.mem.hbm = []) ∧
  (∀ (s : State) (ms : Nat), s.hw.wdtCounts = true → s.hw.rst.wdt + ms < s.hw.get R.SYS_WDT_CTL_TIMEOUT → exec
    (.wdtTimeout ms) s = .next { s with hw := ({ s.hw with rst := { s.hw.rst with wdt := s.hw.rst.wdt + ms } }) }) ∧
  (∀ (s : State) (ms : Nat), s.hw.wdtCounts = true → s.hw.get R.SYS_WDT_CTL_TIMEOUT ≤ s.hw.rst.wdt + ms →
    s.hw.pwr'.phase = .idle → ∃ t, exec (.wdtTimeout ms) s = .next t ∧ t.hw.rst.wdt = 0 ∧ bit (t.hw.rd
    R.SYS_RST_CAUSE) 6 = true ∧ (∃ q, t.hw.rst.pend = some q ∧ q.level ≠ .core) ∧ t.hw.mem = s.hw.mem ∧ t.hw.tiles =
    s.hw.tiles) ∧
  (∀ (s : State) (v : Nat), s.hw.blkDown .sys R.SYS_WDT_KICK = false → v % 2 ^ 32 = 0x5EED → exec (.sysWdtKick v) s =
    .next { s with hw := ({ s.hw with rst := { s.hw.rst with wdt := 0 } }) }) ∧
  (∀ (s : State), s.hw.blkDown .sys R.SYS_RST_REQ = false → s.hw.rst.por = false → s.hw.pwr'.phase = .idle → ∃ t, exec
    .sysRstReqCore s = .next t ∧ bit (t.hw.rd R.SYS_RST_CAUSE) 9 = true ∧ (∃ q, t.hw.rst.pend = some q ∧
    (s.hw.fabricReleased = true → s.hw.rst.pend = none → q.level = .core) ∧ (s.hw.fabricReleased = false → q.level ≠
    .core ∧ bit (t.hw.rd R.SYS_RST_CAUSE) 11 = true)) ∧ t.hw.mem = s.hw.mem ∧ t.hw.tiles = s.hw.tiles) ∧
  (∀ (s : State), s.hw.blkDown .sys R.SYS_RST_REQ = false → s.hw.rst.por = false → s.hw.pwr'.phase = .idle → ∃ t, exec
    .sysRstReqSystem s = .next t ∧ bit (t.hw.rd R.SYS_RST_CAUSE) 5 = true ∧ (∃ q, t.hw.rst.pend = some q ∧ q.level ≠
    .core) ∧ t.hw.mem = s.hw.mem ∧ t.hw.tiles = s.hw.tiles)

/-- Permitted targets with no transition running: RUN from IDLE or PARK and IDLE from RUN take effect at once; PARK
from RUN with nothing open fences every fabric port. LISTEN and DEEP from RUN, on a seat alone at its table with nothing
open and no active wake level, fence every fabric port and wait for the link's L2/L3 Ready with TARGET and BUSY set, or,
with the link down, end in LISTEN or DEEP at once with Kitty and the tiles lost. A held target of IDLE is applied when
the transition that held it has ended. -/
def Obligations.PowerTargets : Prop :=
  (∀ (s : State) (tmo : Nat), s.hw.blkDown .aon R.PWR_CTL = false → s.hw.is R.PWR_STATE_BUSY = false → s.hw.pwr = 1 ∨
    s.hw.pwr = 2 → ∃ t, exec (.pwrTargetRun tmo) s = .next t ∧ t.hw.pwr = 0 ∧ t.hw.is R.PWR_STATE_BUSY = false ∧
    t.hw.mem = s.hw.mem ∧ t.hw.tiles = s.hw.tiles) ∧
  (∀ (s : State) (tmo : Nat), s.hw.blkDown .aon R.PWR_CTL = false → s.hw.is R.PWR_STATE_BUSY = false → s.hw.pwr = 0 →
    ∃ t, exec (.pwrTargetIdle tmo) s = .next t ∧ t.hw.pwr = 1 ∧ t.hw.is R.PWR_STATE_BUSY = false ∧ t.hw.mem = s.hw.mem
    ∧ t.hw.tiles = s.hw.tiles) ∧
  (∀ (s : State) (tmo : Nat), s.hw.blkDown .aon R.PWR_CTL = false → s.hw.is R.PWR_STATE_BUSY = false → s.hw.pwr = 0 →
    s.hw.anyOpen = false → s.hw.is R.PCIE_FLR_STAT_FLR = false → ∃ t, exec (.pwrTargetPark tmo) s = .next t ∧ t.hw.pwr
    = 2 ∧ t.hw.is R.PWR_STATE_BUSY = false ∧ (∀ i, i < 64 → t.hw.fenced (576 + i) = true) ∧ t.hw.mem = s.hw.mem ∧
    t.hw.tiles = s.hw.tiles) ∧
  (∀ (s : State) (tmo : Nat), s.hw.blkDown .aon R.PWR_CTL = false → s.hw.is R.PWR_STATE_BUSY = false → s.hw.pwr = 0 →
    s.hw.presentList.length < 2 → s.hw.anyOpen = false → s.hw.is R.PCIE_FLR_STAT_FLR = false → s.hw.wakeActive = [] →
    s.hw.pwr'.cmd = none → ∃ t, exec (.pwrTargetListen tmo) s = .next t ∧ (s.hw.linkUp = true → t.hw.pwr'.phase =
    .entryWait ∧ t.hw.get R.PWR_STATE_TARGET = 3 ∧ t.hw.is R.PWR_STATE_BUSY = true ∧ ∀ i, i < 64 → t.hw.fenced (576 + i)
    = true) ∧ (s.hw.linkUp = false → t.hw.pwr = 3 ∧ t.hw.is R.PWR_STATE_BUSY = false ∧ t.hw.tiles = [] ∧ t.hw.mem.kitty
    = [])) ∧
  (∀ (s : State) (tmo : Nat), s.hw.blkDown .aon R.PWR_CTL = false → s.hw.is R.PWR_STATE_BUSY = false → s.hw.pwr = 0 →
    s.hw.presentList.length < 2 → s.hw.anyOpen = false → s.hw.is R.PCIE_FLR_STAT_FLR = false → s.hw.wakeActive = [] →
    s.hw.pwr'.cmd = none → ∃ t, exec (.pwrTargetDeep tmo) s = .next t ∧ (s.hw.linkUp = true → t.hw.pwr'.phase =
    .entryWait ∧ t.hw.get R.PWR_STATE_TARGET = 4 ∧ t.hw.is R.PWR_STATE_BUSY = true ∧ ∀ i, i < 64 → t.hw.fenced (576 + i)
    = true) ∧ (s.hw.linkUp = false → t.hw.pwr = 4 ∧ t.hw.is R.PWR_STATE_BUSY = false ∧ t.hw.tiles = [] ∧ t.hw.mem.kitty
    = [] ∧ t.hw.mem.hbm = [])) ∧
  (∀ (s : State), s.hw.pwr'.held = some 1 → s.hw.is R.PWR_STATE_BUSY = false → s.hw.pwr = 0 → ∃ t, exec
    .pwrHeldTargetApply s = .next t ∧ t.hw.pwr = 1 ∧ t.hw.pwr'.held = none ∧ t.hw.mem = s.hw.mem ∧ t.hw.tiles =
    s.hw.tiles)

/-- With PME_Turn_Off taken an entry ends in its target state, tiles and Kitty lost; without it the entry is aborted
and the part is in RUN with ABORT set. LISTEN falls to DEEP at its timeout, HBM lost. A latched wake or a waiting reset
starts the exit and records the state left. With REFCLK good for two windows and the rails good the exit from DEEP ends
in RUN with DEEP_WAKE recorded; that from LISTEN restarts the watchdog's count and either waits for the stacks' training
or the local release, or ends in RUN. A WAKE_IN pin's new level is taken, and its active edge sets the pin's wake flag
where it is enabled; so do a compare match and a rise of PERST_N theirs. The end of a pulse takes WAKE_OUT low. -/
def Obligations.SleepAndWake : Prop :=
  (∀ (s : State), s.hw.pwr'.phase = .entryWait → s.hw.pwr'.pme = true → ∃ t, exec .listenL2Ready s = .next t ∧
    t.hw.pwr = (if s.hw.get R.PWR_STATE_TARGET = 3 then 3 else 4) ∧ t.hw.pwr'.phase = .idle ∧ t.hw.tiles = [] ∧
    t.hw.mem.kitty = []) ∧
  (∀ (s : State), s.hw.pwr'.phase = .entryWait → s.hw.pwr'.pme = false → ∃ t, exec .listenAbort s = .next t ∧ t.hw.get
    R.PWR_WAKE_STAT_ABORT = 1 ∧ t.hw.pwr = 0 ∧ t.hw.pwr'.phase = .idle ∧ t.hw.mem = s.hw.mem ∧ t.hw.tiles =
    s.hw.tiles) ∧
  (∀ (s : State), s.hw.pwr = 3 → s.hw.is R.PWR_LD_TMO_SECONDS = true → s.hw.pwr'.phase = .idle → s.hw.pwr'.latched =
    false → s.hw.pwr'.byReset = false → ∃ t, exec .listenDeepTimeout s = .next t ∧ t.hw.pwr = 4 ∧ t.hw.mem.hbm = []) ∧
  (∀ (s : State), s.hw.asleep = true → s.hw.pwr'.phase = .idle → s.hw.pwr'.latched = true ∨ s.hw.pwr'.byReset = true →
    ∃ t, exec .wakeExit s = .next t ∧ t.hw.pwr'.phase = .exit ∧ t.hw.is R.PWR_STATE_BUSY = true ∧ t.hw.get
    R.PWR_STATE_TARGET = 0 ∧ t.hw.get R.PWR_WAKE_STAT_FROM = s.hw.pwr ∧ t.hw.mem = s.hw.mem ∧ t.hw.tiles = s.hw.tiles) ∧
  (∀ (s : State) (ticks seat boot volts : Nat), s.hw.pwr'.phase = .exit → 2 ≤ s.hw.clk.refGood → s.hw.pwr ≠ 3 →
    s.hw.railsGood = true → ∃ t, exec (.wakeExitClocksGood ticks seat boot volts) s = .next t ∧ t.hw.pwr = 0 ∧ t.hw.is
    R.PWR_STATE_BUSY = false ∧ t.hw.pwr'.phase = .idle ∧ bit (t.hw.rd R.SYS_RST_CAUSE) 10 = true) ∧
  (∀ (s : State) (ticks seat boot volts : Nat), s.hw.pwr'.phase = .exit → 2 ≤ s.hw.clk.refGood → s.hw.pwr = 3 → ∃ t,
    exec (.wakeExitClocksGood ticks seat boot volts) s = .next t ∧ t.hw.rst.wdt = 0 ∧ t.hw.rst.wdtRun = true ∧
    ((t.hw.pwr'.phase = .exitRun ∧ (t.hw.memTrains = true ∨ t.hw.fab.localRel = true)) ∨ (t.hw.pwr'.phase = .idle ∧
    t.hw.pwr = 0 ∧ t.hw.is R.PWR_STATE_BUSY = false))) ∧
  (∀ (s : State) (n : Nat) (level : Bool), s.hw.pinsFrozen = false → n < 4 → NSet.has s.hw.pwr'.winLevel n ≠ level →
    level ≠ s.hw.bitOf R.PWR_WAKE_CFG_WIN_POL n → exec (.wakeInEdge n level) s = .next
    { s with hw := ({ s.hw with pwr' := { s.hw.pwr' with winLevel := NSet.put s.hw.pwr'.winLevel n level } }) }) ∧
  (∀ (s : State) (n : Nat) (level : Bool), s.hw.pinsFrozen = false → n < 4 → NSet.has s.hw.pwr'.winLevel n ≠ level →
    level = s.hw.bitOf R.PWR_WAKE_CFG_WIN_POL n → s.hw.rst.por = false → s.hw.bitOf R.PWR_WAKE_CFG_WIN_EN n = true → ∃ t,
    exec (.wakeInEdge n level) s = .next t ∧ NSet.has t.hw.pwr'.winLevel n = level ∧ bit (t.hw.rd R.PWR_WAKE_STAT) (4 +
    n) = true ∧ t.hw.mem = s.hw.mem ∧ t.hw.tiles = s.hw.tiles) ∧
  (∀ (s : State), s.hw.is R.PWR_WAKE_CFG_AOT_EN = true → ∃ t, exec .aotCompareMatch s = .next t ∧ bit (t.hw.rd
    R.PWR_WAKE_STAT) 1 = true ∧ t.hw.mem = s.hw.mem ∧ t.hw.tiles = s.hw.tiles) ∧
  (∀ (s : State), s.hw.pinsFrozen = false → ∃ t, exec .pciePerstRise s = .next t ∧ t.hw.pcie.perst = true ∧
    t.hw.pwr'.pcieWake = false ∧ (s.hw.is R.PWR_WAKE_CFG_PCIE_EN = true → bit (t.hw.rd R.PWR_WAKE_STAT) 2 = true) ∧
    t.hw.mem = s.hw.mem ∧ t.hw.tiles = s.hw.tiles) ∧
  (∀ (s : State), s.hw.is R.PWR_WAKE_CFG_WO_MODE = false → exec .wakeOutPulseEnd s = .next
    { s with hw := ({ s.hw with pwr' := { s.hw.pwr' with wakeOut := false } }) })

/-- When the detector asserts POR, the user I/O, ALERT_N and PCIE_CLKREQ_N are high-impedance, and DONE, CFG_ERR_N,
ERR_N, SNS_CLK, SNS_RNG and WAKE_OUT are low. After the sequence of a system reset on a part whose TAP holds no
instruction that drives pins, the user I/O are still high-impedance, the seat drives DONE and CFG_ERR_N low,
CFG_SPI_RESET_N is released, SNS_CLK stands still and WAKE_OUT is low. -/
def Obligations.OutputPins : Prop :=
  (∀ (s : State), ∃ t, exec .porDetect s = .next t ∧ (∀ n m, t.hw.pinOut (.io n m) = .highZ) ∧ t.hw.pinOut .alertN =
    .highZ ∧ t.hw.pinOut .pcieClkreqN = .highZ ∧ t.hw.pinOut .done = .low ∧ t.hw.pinOut .cfgErrN = .low ∧ t.hw.pinOut
    .errN = .low ∧ t.hw.pinOut .wakeOut = .low ∧ ∀ g, t.hw.pinOut (.snsClk g) = .low ∧ t.hw.pinOut (.snsRng g) = .low) ∧
  (∀ (s : State) (seat boot : Nat) (q : PendRst), s.hw.rst.pend = some q → s.hw.pendReady = true → q.level ≠ .core →
    irFreezes s.hw.tap.ir = false → ∃ t, exec (.systemReset seat boot) s = .next t ∧ (∀ n m, t.hw.pinOut (.io n m) =
    .highZ) ∧ t.hw.pinOut .done = .low ∧ t.hw.pinOut .cfgErrN = .low ∧ t.hw.pinOut .spiResetN = .high ∧ t.hw.pinOut
    .wakeOut = .low ∧ (∀ g, g < 4 → t.hw.pinOut (.snsClk g) = .low))

/-- Test-Logic-Reset by TMS, TRST_N and POR loads IDCODE into the instruction register and ends the hold of input cells;
an opcode that is listed takes the instruction register, any other acts as BYPASS. Capture-IR loads IR[1:0] = 01, DONE,
ERR, LOCK and the HBM_PORT flag; Capture-DR of CFG_STAT takes the configuration status word. The internal master takes the
TAP for a waiting load at once in Test-Logic-Reset or Run-Test/Idle, and otherwise at the Test-Logic-Reset that five TMS
ones lead to, with IDCODE loaded. (R176, R177, R179) -/
def Obligations.TapInstructions : Prop :=
  (∀ (s : State), s.hw.tapInternal = false → ∃ t, exec .testLogicReset s = .next t ∧ t.hw.tap.ir = irIDCODE ∧
    t.hw.tap.ctl = .tlr ∧ t.hw.tap.frozen = none ∧ t.hw.tap.drCap = s.hw.ident.idcode.toNat) ∧
  (∀ (s : State), s.hw.tapInternal = false → ∃ t, exec .trstNAssert s = .next t ∧ t.hw.tap.ir = irIDCODE ∧
    t.hw.tap.ctl = .tlr ∧ t.hw.tap.frozen = none ∧ t.hw.tap.drCap = s.hw.ident.idcode.toNat) ∧
  (∀ (s : State), ∃ t, exec .porDetect s = .next t ∧ t.hw.tap.ir = irIDCODE ∧ t.hw.tap.frozen = none) ∧
  (∀ (s : State) (done : Bool), s.hw.tapInternal = false → exec (.captureIr done) s = .next
    { s with hw := ({ s.hw with tap := { s.hw.tap with ctl := .capIr, irCap := 1 + 4 * b2n (done && !s.hw.driveDone) + 8 * s.hw.get R.CFG_STAT_ERR + 16 * s.hw.get R.CFG_STAT_LOCK + 32 * b2n s.hw.tap.hbmBad } }) }) ∧
  (∀ (s : State) (op cells : Nat) (scans : List DrScan), s.hw.tapInternal = false → ∃ t, exec (.updateIr op cells scans)
    s = .next t ∧ t.hw.tap.ir = (if irListed (op % 1024) = true then op % 1024 else irBYPASS) ∧ t.hw.tap.frozen = (if
    irFreezes t.hw.tap.ir = true then some cells else none)) ∧
  (∀ (s : State), s.hw.tapInternal = false → s.hw.tap.ir = irCFG_STAT → exec .cfgStat s = .next
    { s with hw := ({ s.hw with tap := { s.hw.tap with drCap := s.hw.rd R.CFG_STAT } }) }) ∧
  (∀ (s : State) (tms : List Bool), s.hw.sysUp = true → s.hw.cfg.cmd.isSome = true → s.hw.tapInternal = false →
    s.hw.cfg.attempt ≠ .pins → s.hw.cfg.attempt ≠ .partPins → s.hw.tap.ctl.parked = true → exec (.tapMasterTake .load
    tms) s = .next { s with hw := ({ s.hw with tap := { s.hw.tap with use := some .load, own := true } }) }) ∧
  (∀ (s : State), s.hw.sysUp = true → s.hw.cfg.cmd.isSome = true → s.hw.tapInternal = false → s.hw.cfg.attempt ≠ .pins
    → s.hw.cfg.attempt ≠ .partPins → s.hw.streaming = false → s.hw.tap.ctl.parked = false → ∃ t, exec (.tapMasterTake
    .load [true, true, true, true, true]) s = .next t ∧ t.hw.tap.own = true ∧ t.hw.tap.ctl = .tlr ∧ t.hw.tap.ir =
    irIDCODE)

/-- A program command of an unlocked fuse starts its pulse and of a locked one sets LOCKED; a pulse that reads back 1
leaves its bit programmed and every other bit of the fuses as it was; a fuse read of words 32 and up gives the word, 0 for
the key. -/
def Obligations.Fuses : Prop :=
  (∀ (s : State) (a : Nat), s.hw.fuseSel = true → s.hw.tap.pulse = none → s.hw.rst.pend = none → fuseLocked s.fuse (a
    % 4096 / 32) = false → exec (.fuseProgram a) s = .next
    { s with hw := ({ s.hw with tap := { s.hw.tap with locked := false, pulse := some (a % 4096) } }) }) ∧
  (∀ (s : State) (a : Nat), s.hw.fuseSel = true → s.hw.tap.pulse = none → s.hw.rst.pend = none → fuseLocked s.fuse (a
    % 4096 / 32) = true → exec (.fuseProgram a) s = .next
    { s with hw := ({ s.hw with tap := { s.hw.tap with locked := true } }) }) ∧
  (∀ (s : State) (b : Nat), s.hw.tap.pulse = some b → s.hw.tap.use ≠ some .fuse → ∃ t, exec (.fusePulseDone true) s =
    .next t ∧ t.hw = { s.hw with tap := { s.hw.tap with pulse := none, verifyFail := false } } ∧ bit (fuseRd t.fuse (b /
    32)) (b % 32) = true ∧ (∀ w k : Nat, k < 32 → (w ≠ b / 32 ∨ k ≠ b % 32) → bit (fuseRd t.fuse w) k = bit (fuseRd
    s.fuse w) k)) ∧
  (∀ (s : State) (a : Nat), s.hw.fuseSel = true → s.hw.tap.pulse = none → 32 ≤ a % 4096 / 32 → exec (.fuseRead a) s =
    .next
    { s with hw := ({ s.hw with tap := { s.hw.tap with fuseWord := if 44 ≤ a % 4096 / 32 ∧ a % 4096 / 32 ≤ 51 then 0 else fuseRd s.fuse (a % 4096 / 32) } }) })

/-- HBM_PORT updates the wrapper register it selects. USERn and DBG_ACCESS reads and writes of the user register window
record address, data and outcome; a write with no acknowledgement in time is an error and sets TMO; an address outside
every window is an error. A write of DBG_CTL leaves HALT as written and the Dealer halted, or running, accordingly. -/
def Obligations.DebugAccess : Prop :=
  (∀ (s : State) (v : Nat), s.hw.tapInternal = false → 0x020 ≤ s.hw.tap.ir → s.hw.tap.ir ≤ 0x023 → s.hw.wrapperOpen
    (s.hw.tap.ir / 2 % 2) = true → exec (.hbmPort (some v)) s = .next
    { s with hw := ({ s.hw with tap := { s.hw.tap with wrap := NMap.set s.hw.tap.wrap (2 * (s.hw.tap.ir / 2 % 2) + s.hw.tap.ir % 2) v } }) }) ∧
  (∀ (s : State) (n v w : Nat), s.hw.userSel n = true → s.hw.sysUp = true → s.hw.uregDown = false → exec (.userWrite n v
    (.value w)) s = .next
    { s with hw := ({ s.hw with tap := { s.hw.tap with dbgAddr := 0x60000000 + 8 * (n - 1), dbgErr := false } }) }) ∧
  (∀ (s : State) (n v : Nat), s.hw.userSel n = true → s.hw.sysUp = true → s.hw.uregDown = false → exec (.userWrite n v
    .timeout) s = .next { s with hw := { (s.hw.raise R.FAB_UREG_ERR_TMO 0) with tap :=
      { s.hw.tap with dbgAddr := 0x60000000 + 8 * (n - 1), dbgErr := true } } }) ∧
  (∀ (s : State) (n w : Nat), s.hw.userSel n = true → s.hw.sysUp = true → s.hw.uregDown = false → exec (.userRead n
    (.value w)) s = .next
    { s with hw := ({ s.hw with tap := { s.hw.tap with dbgAddr := 0x60000000 + 8 * (n - 1) + 4, dbgErr := false, dbgData := w % 2 ^ 32, drCap := w % 2 ^ 32 } }) }) ∧
  (∀ (s : State) (a w : Nat), s.hw.tapInternal = false → s.hw.tap.ir = irDBG_ACCESS → s.hw.tap.dbgWait = none →
    s.hw.sysUp = true → s.hw.uregDown = false → 0x60000000 ≤ a → a < 0x61000000 → a % 4 = 0 → exec (.dbgAccess a none
    (.value w)) s = .next
    { s with hw := ({ s.hw with tap := { s.hw.tap with dbgAddr := a, dbgErr := false, dbgData := w % 2 ^ 32 } }) }) ∧
  (∀ (s : State) (a : Nat) (wr : Option Nat) (ans : UAns), s.hw.tapInternal = false → s.hw.tap.ir = irDBG_ACCESS →
    s.hw.tap.dbgWait = none → a < 2 ^ 32 → dealerWin a = .none → exec (.dbgAccess a wr ans) s = .next
    { s with hw := ({ s.hw with tap := { s.hw.tap with dbgAddr := a, dbgErr := true } }) }) ∧
  (∀ (s : State) (b : Bool) (src : Nat), s.hw.blkDown .dbg R.DBG_CTL = false → ∃ t, exec (.dbgCtlHalt b src) s = .next
    t ∧ t.hw.is R.DBG_CTL_HALT = b ∧ t.hw.rst.dealerRun = !b ∧ t.hw.mem = s.hw.mem ∧ t.hw.tiles = s.hw.tiles)

/-- A 32-bit write by any source to a register of the network block (but NOC_FOLD_REQ) whose block answers leaves the
word its fields' access codes give, and changes nothing else; a write whose byte parity fails changes no register of the
block it addresses, no memory and no tile. -/
def Obligations.RegisterWrites : Prop :=
  (∀ (s : State) (r : RegDef) (a v src : Nat) (ans : UAns), regDef? a = some r → r.blk = .noc → a ≠ R.NOC_FOLD_REQ →
    mdataCore a = none → 0x40000000 ≤ a → a < 0x40100000 → a % 4 = 0 → s.hw.blkDown r.blk a = false → exec
    (.registerWrite [⟨a, v, src, 4, false, ans, 0⟩]) s = .next { s with hw := (s.hw.wr a (s.hw.written r a (v % 2 ^
    32))) }) ∧
  (∀ (s : State) (a v src n ev : Nat) (ans : UAns), ∃ t, exec (.registerWrite [⟨a, v, src, n, true, ans, ev⟩]) s = .next
    t ∧ t.hw.regs = s.hw.regs ∧ t.hw.mem = s.hw.mem ∧ t.hw.tiles = s.hw.tiles)

/-- For every field of a register: a read-only, write-only or read-clears field keeps its bits; a read-write field
takes the written value unless it is a reserved encoding; a lockable field does so only unlocked; a write-one-to-clear
field loses the bits written 1; a write-one-to-set field gains them; bits outside the field stay. -/
def Obligations.AccessCodes : Prop :=
  ∀ (locked : Bool) (v w : Nat) (f : FieldDef), f.lo ≤ f.hi →
    ((f.acc = .ro ∨ f.acc = .wo ∨ f.acc = .rc) → fieldWrite locked v w f = w) ∧
    (f.acc = .rw → bits (fieldWrite locked v w f) f.hi f.lo =
      if f.reserved (bits v f.hi f.lo) = true then bits w f.hi f.lo else bits v f.hi f.lo) ∧
    (f.acc = .rwl → bits (fieldWrite locked v w f) f.hi f.lo =
      if locked = true ∨ f.reserved (bits v f.hi f.lo) = true then bits w f.hi f.lo else bits v f.hi f.lo) ∧
    (f.acc = .w1c → ∀ k, (bits (fieldWrite locked v w f) f.hi f.lo).testBit k =
      ((bits w f.hi f.lo).testBit k && !(bits v f.hi f.lo).testBit k)) ∧
    (f.acc = .w1s → ∀ k, (bits (fieldWrite locked v w f) f.hi f.lo).testBit k =
      ((bits w f.hi f.lo).testBit k || (bits v f.hi f.lo).testBit k)) ∧
    (∀ k, (k < f.lo ∨ f.hi < k) → (fieldWrite locked v w f).testBit k = w.testBit k)

/-- With BOOT_SRC 01 or 10 the engine waits for a stream; with 00 and a flash found it begins an attempt's header; with 11,
or with no flash, it is FAILED with reason 0x18 or 0x15 and ERR set. The first probe word of a CFG_IN stream in WAIT or of
a CFG_PARTIAL stream in RELEASED becomes the header's first bytes; a later word of an unencrypted body, or of a flash
attempt's header, is appended. A short pin stream that wrote nothing ends FAILED with reason 0x12; a flash timeout starts
the clear pass with reason 0x15. -/
def Obligations.ConfigStreams : Prop :=
  (∀ (s : State) (probe : Option (Nat × Bool)), s.hw.sysUp = true → s.hw.cfg.startPend = true → s.hw.get
    R.CFG_STAT_SOURCE = 1 ∨ s.hw.get R.CFG_STAT_SOURCE = 2 → ∃ t, exec (.configStart probe) s = .next t ∧ t.hw.cstate
    = csWAIT ∧ t.hw.cfg.startPend = false ∧ t.hw.mem = s.hw.mem ∧ t.hw.fab = s.hw.fab) ∧
  (∀ (s : State) (size : Nat) (octal : Bool), s.hw.sysUp = true → s.hw.cfg.startPend = true → s.hw.get
    R.CFG_STAT_SOURCE = 0 → ∃ t, exec (.configStart (some (size, octal))) s = .next t ∧ t.hw.cstate = csHEADER ∧
    t.hw.cfg.hdr = [] ∧ t.hw.cfg.startPend = false ∧ t.hw.get R.CFG_FLASH_SIZE = size % 2 ^ 16 ∧ t.hw.mem = s.hw.mem ∧
    t.hw.fab = s.hw.fab) ∧
  (∀ (s : State) (probe : Option (Nat × Bool)), s.hw.sysUp = true → s.hw.cfg.startPend = true → s.hw.cfg.cmd = none →
    s.hw.get R.CFG_STAT_SOURCE = 3 ∨ (s.hw.get R.CFG_STAT_SOURCE = 0 ∧ probe = none) → ∃ t, exec (.configStart probe)
    s = .next t ∧ t.hw.cstate = csFAILED ∧ t.hw.get R.CFG_STAT_LAST_REASON = (if s.hw.get R.CFG_STAT_SOURCE = 3 then
    0x18 else 0x15) ∧ t.hw.get R.CFG_STAT_ERR = 1 ∧ t.hw.mem = s.hw.mem ∧ t.hw.fab = s.hw.fab) ∧
  (∀ (s : State) (w : Word), s.hw.sysUp = true → s.hw.tap.ir = irCFG_IN → s.hw.tapInternal = false → s.hw.cstate =
    csWAIT → s.hw.cfg.spent = false → ∃ t, exec (.cfgIn (.pins w)) s = .next t ∧
    t.hw.cfg.hdr = leBytes 4 w.toNat ∧ t.hw.cfg.attempt = .pins ∧ t.hw.cstate = csHEADER ∧ t.hw.mem = s.hw.mem ∧
    t.hw.fab = s.hw.fab) ∧
  (∀ (s : State) (w : Word), s.hw.sysUp = true → s.hw.tap.ir = irCFG_IN → s.hw.tapInternal = false → s.hw.cstate =
    csBODY → s.hw.cfg.attempt = .pins → 512 ≤ s.hw.cfg.hdr.length → s.hw.cfg.pos < s.hw.cfg.bodyLen →
    s.hw.cfg.encrypted = false → exec (.cfgIn (.pins w)) s = .next
    { s with hw := ({ s.hw with cfg := { s.hw.cfg with pos := s.hw.cfg.pos + 4, buf := s.hw.cfg.buf ++ leBytes 4 w.toNat, plain := s.hw.cfg.plain ++ leBytes 4 w.toNat } }) }) ∧
  (∀ (s : State), s.hw.sysUp = true → s.hw.cfg.attempt.flash = true → s.hw.tapInternal = true → s.hw.pinsFrozen = false
    → s.hw.cstate = csHEADER → s.hw.cfg.hdr.length < 508 → exec (.cfgIn .flash) s = .next
    { s with hw := ({ s.hw with tap := { s.hw.tap with ir := irCFG_IN }, cfg := { s.hw.cfg with fpos := s.hw.cfg.fpos + 4, hdr := s.hw.cfg.hdr ++ Mem.bytes s.hw.mem.flash s.hw.cfg.fpos 4 } }) }) ∧
  (∀ (s : State) (w : Word), s.hw.sysUp = true → s.hw.tap.ir = irCFG_PARTIAL → s.hw.tapInternal = false → s.hw.cstate
    = csRELEASED → s.hw.cfg.spent = false → ∃ t, exec (.cfgPartial (.pins w)) s = .next t ∧ t.hw.cfg.hdr = leBytes 4
    w.toNat ∧ t.hw.cfg.attempt = .partPins ∧ t.hw.cstate = csPARTIAL ∧ t.hw.mem = s.hw.mem ∧ t.hw.fab = s.hw.fab) ∧
  (∀ (s : State), s.hw.sysUp = true → s.hw.cstate = csHEADER → s.hw.cfg.attempt = .pins → s.hw.cfg.hdr.length < 512 →
    s.hw.cfg.wrote = false → s.hw.cfg.cmd = none → ∃ t, exec .cfgStreamEnd s = .next t ∧ t.hw.cstate = csFAILED ∧
    t.hw.get R.CFG_STAT_LAST_REASON = 0x12 ∧ t.hw.get R.CFG_STAT_ERR = 1 ∧ t.hw.mem = s.hw.mem ∧ t.hw.fab = s.hw.fab) ∧
  (∀ (s : State), s.hw.sysUp = true → s.hw.cfg.attempt.flash = true → s.hw.streaming = true → ∃
    t, exec .flashReadTimeout s = .next t ∧ t.hw.cstate = csCLEAR ∧ t.hw.get R.CFG_STAT_LAST_REASON = 0x15 ∧ t.hw.mem
    = s.hw.mem ∧ t.hw.fab = s.hw.fab)

/-- An accepted DATA record writes its 256 bytes to its frame, a REPEAT record the data of the most recent DATA record, and
the record leaves the buffer. An accepted END record of an unencrypted base image sets LOADED and IMAGE to its TYPE and
leaves the engine HELD, the frames kept. A restart's clear pass leaves every frame and pool RAM zero and the engine ready
to start. -/
def Obligations.ConfigRecords : Prop :=
  (∀ (s : State), s.hw.sysUp = true → s.hw.inBody = true → s.hw.cfg.kind = 0 → 264 ≤ s.hw.cfg.buf.length →
    s.hw.cfg.past 264 = false → s.hw.cfg.recReason 264 false = 0 → ∃ t, exec .dataRecord s = .next t ∧ t.hw.fab =
    s.hw.fab.writeFrame (bits (leAt s.hw.cfg.buf 0 4) 16 0) (BitVec.ofNat 2048 (ofLe ((s.hw.cfg.buf.drop 4).take
    256))) ∧ t.hw.cfg.idx = s.hw.cfg.idx + 1 ∧ t.hw.cfg.buf = s.hw.cfg.buf.drop 264 ∧ t.hw.regs = s.hw.regs ∧ t.hw.mem
    = s.hw.mem) ∧
  (∀ (s : State), s.hw.sysUp = true → s.hw.inBody = true → s.hw.cfg.kind = 1 → 8 ≤ s.hw.cfg.buf.length → s.hw.cfg.past
    8 = false → s.hw.cfg.recReason 8 false = 0 → ∃ t, exec .repeatRecord s = .next t ∧ t.hw.fab = s.hw.fab.writeFrame
    (bits (leAt s.hw.cfg.buf 0 4) 16 0) s.hw.cfg.lastData ∧ t.hw.cfg.idx = s.hw.cfg.idx + 1 ∧ t.hw.cfg.buf =
    s.hw.cfg.buf.drop 8 ∧ t.hw.regs = s.hw.regs ∧ t.hw.mem = s.hw.mem) ∧
  (∀ (s : State), s.hw.sysUp = true → s.hw.inBody = true → s.hw.cfg.kind = 3 → 8 ≤ s.hw.cfg.buf.length → s.hw.cfg.past
    8 = false → s.hw.cfg.recReason 8 true = 0 → s.hw.cfg.encrypted = false → sha384 s.hw.cfg.plain = s.hw.cfg.hb 0x40
    48 → s.hw.cfg.attempt.partial' = false → s.hw.cfg.cmd = none → s.hw.tbl.solo = false → ∃ t, exec .endRecord s =
    .next t ∧ t.hw.get R.CFG_STAT_LOADED = 1 ∧ t.hw.get R.CFG_STAT_IMAGE = s.hw.cfg.type % 4 ∧ t.hw.cstate = csHELD ∧
    t.hw.cfg.attempt = .none ∧ t.hw.fab.frames = s.hw.fab.frames ∧ t.hw.mem = s.hw.mem) ∧
  (∀ (s : State), s.hw.sysUp = true → s.hw.cstate = csCLEAR → s.hw.cfg.restart = true → ∃ t, exec .clearPassDone s =
    .next t ∧ t.hw.cstate = csWAIT ∧ t.hw.cfg.startPend = true ∧ t.hw.fab.frames = [] ∧ t.hw.fab.pool = [] ∧ t.hw.mem
    = s.hw.mem)

/-- DONE is no longer driven by the configuration once LOADED, IDENT_OK and HBM_OK are set and no seat clashes. DONE seen
high on a held seat starts the release: step 1 enables the user outputs and records the banks whose cells do not match the
sensed voltages, the next stage turns the write enables on, the third loads the initial values, releases the user resets
and lifts the release's fence of every fabric port, the last sets RELEASED and LOCK. DONE seen low during the release
returns the engine to HELD with user outputs off; at another time it is only recorded. PROG_N and CFG_CTL.RESTART drive
DONE low, clear IDENT_OK and start the clear pass of a restart. CFG_CTL.LOCK sets CFG_STAT.LOCK. Once the ports of a
partial load's regions are FOLDED, the regions are isolated, with their write enables off and user resets on, and the
load writes. -/
def Obligations.StagedRelease : Prop :=
  (∀ (s : State), s.hw.sysUp = true → s.hw.is R.CFG_STAT_LOADED = true → s.hw.is R.CFG_STAT_IDENT_OK = true → s.hw.is
    R.CFG_STAT_HBM_OK = true → s.hw.tbl.clash = false → exec .doneRelease s = .next
    { s with hw := ({ s.hw with fab := { s.hw.fab with drive := false } }) }) ∧
  (∀ (s : State) (volts : Nat), s.hw.pinsFrozen = false → s.hw.sysUp = true → s.hw.driveDone = false →
    s.hw.fab.doneHigh = false → s.hw.cstate = csHELD → ∃ t, exec (.doneSeenHigh volts) s = .next t ∧ t.hw.fab =
    { s.hw.fab with doneHigh := true, stage := 1, outEn := true, volts := volts % 2 ^ 26 } ∧ t.hw.cstate = csRELEASING ∧
    t.hw.get R.FAB_IO_VMIS_BANK = maskOf ((List.range 13).filter (fun n => (List.range 32).any (fun m => t.hw.fab.ioHeld
    n m))) ∧ t.hw.mem = s.hw.mem ∧ t.hw.tiles = s.hw.tiles) ∧
  (∀ (s : State) (volts : Nat), s.hw.sysUp = true → s.hw.pwr'.phase ≠ .exitRun → s.hw.cfg.part = .none → s.hw.cstate =
    csRELEASING → s.hw.fab.stage = 1 → exec (.releaseStage volts) s = .next
    { s with hw := ({ s.hw with fab := { s.hw.fab with stage := 2, writeEn := true } }) }) ∧
  (∀ (s : State) (volts : Nat), s.hw.sysUp = true → s.hw.pwr'.phase ≠ .exitRun → s.hw.cfg.part = .none → s.hw.cstate =
    csRELEASING → s.hw.fab.stage = 2 → ∃ t, exec (.releaseStage volts) s = .next t ∧ t.hw.fab =
    { s.hw.fab.loadInit (fun _ => true) with stage := 3, userRun := true, ffInit := false } ∧ (∀ i, i < 64 → bit
    (t.hw.fenceMask (576 + i)) 3 = false) ∧ t.hw.cfg = s.hw.cfg ∧ t.hw.mem = s.hw.mem ∧ t.hw.tiles = s.hw.tiles) ∧
  (∀ (s : State) (volts : Nat), s.hw.sysUp = true → s.hw.pwr'.phase ≠ .exitRun → s.hw.cfg.part = .none → s.hw.cstate =
    csRELEASING → s.hw.fab.stage = 3 → ∃ t, exec (.releaseStage volts) s = .next t ∧ t.hw.fab = { s.hw.fab with stage := 4 }
    ∧ t.hw.is R.CFG_STAT_RELEASED = true ∧ t.hw.is R.CFG_STAT_LOCK = true ∧ t.hw.cstate = csRELEASED ∧ t.hw.mem =
    s.hw.mem ∧ t.hw.tiles = s.hw.tiles) ∧
  (∀ (s : State), s.hw.pinsFrozen = false → s.hw.sysUp = true → s.hw.fab.doneHigh = true → s.hw.cstate = csRELEASING →
    ∃ t, exec .doneSeenLow s = .next t ∧ t.hw.fab.doneHigh = false ∧ t.hw.fab.stage = 0 ∧ t.hw.fab.outEn = false ∧
    t.hw.cstate = csHELD ∧ t.hw.mem = s.hw.mem ∧ t.hw.tiles = s.hw.tiles) ∧
  (∀ (s : State), s.hw.pinsFrozen = false → s.hw.sysUp = true → s.hw.fab.doneHigh = true → s.hw.cstate ≠ csRELEASING →
    exec .doneSeenLow s = .next { s with hw := ({ s.hw with fab := { s.hw.fab with doneHigh := false } }) }) ∧
  (∀ (s : State), s.hw.pinsFrozen = false → s.hw.sysUp = true → s.hw.cfg.cmd = none → ∃ t, exec .progN s = .next t ∧
    t.hw.cstate = csCLEAR ∧ t.hw.cfg.restart = true ∧ t.hw.driveDone = true ∧ t.hw.fab.stage = 0 ∧ t.hw.is
    R.CFG_STAT_IDENT_OK = false ∧ t.hw.mem = s.hw.mem ∧ t.hw.tiles = s.hw.tiles) ∧
  (∀ (s : State), s.hw.blkDown .cfg R.CFG_CTL = false → s.hw.cfg.cmd = none → ∃ t, exec .cfgCtlRestart s = .next t ∧
    t.hw.cstate = csCLEAR ∧ t.hw.cfg.restart = true ∧ t.hw.driveDone = true ∧ t.hw.fab.stage = 0 ∧ t.hw.is
    R.CFG_STAT_IDENT_OK = false ∧ t.hw.mem = s.hw.mem ∧ t.hw.tiles = s.hw.tiles) ∧
  (∀ (s : State), s.hw.blkDown .cfg R.CFG_CTL = false → exec .cfgCtlLock s = .next
    { s with hw := (s.hw.putB R.CFG_STAT_LOCK true) }) ∧
  (∀ (s : State), s.hw.sysUp = true → s.hw.cfg.part = .folding → ((List.range 64).filter (fun i => bit
    s.hw.cfg.regions (portRegion i))).all (fun i => s.hw.foldStat (16 + i) == fFOLDED) = true → ∃ t, exec
    .partialFoldDone s = .next t ∧ t.hw.cfg = { s.hw.cfg with part := .writing } ∧ (∀ r, r < 54 → bit s.hw.cfg.regions r
    = true → bit t.hw.prIso r = true) ∧ t.hw.fab.weOff = s.hw.fab.weOff ||| s.hw.cfg.regions ∧ t.hw.fab.rstOn =
    s.hw.fab.rstOn ||| s.hw.cfg.regions ∧ t.hw.fab.frames = s.hw.fab.frames ∧ t.hw.mem = s.hw.mem ∧ t.hw.tiles =
    s.hw.tiles)

/-- A scrub step moves to the next frame. A test-port access passed to a running user register port waits for its answer;
one that times out ends with an error and TMO set. A cleared user PLL loss stays clear while its PLL holds lock. An
accepted request of user logic enters the network from its port as one more outstanding request, and a request that
reaches an unfenced port is accepted and handed to user logic. -/
def Obligations.Fabric : Prop :=
  (∀ (s : State) (upset : BitVec 2048), s.hw.sysUp = true → s.hw.is R.ERR_SCRUB_CFG_EN = true → s.hw.is
    R.CFG_STAT_RELEASED = true → ∃ t, exec (.scrubFrame upset) s = .next t ∧ t.hw.err.scrubNext = (if
    s.hw.err.scrubNext + 1 = fabFrames then 0 else s.hw.err.scrubNext + 1) ∧ t.hw.mem = s.hw.mem ∧ t.hw.tiles =
    s.hw.tiles) ∧
  (∀ (s : State) (a : Nat) (wr : Option Nat), s.hw.sysUp = true → s.hw.tapInternal = false → s.hw.tap.ir = irDBG_ACCESS
    → s.hw.tap.dbgWait = none → s.hw.uregDown = false → 0x60000000 ≤ a → a < 0x61000000 → a % 4 = 0 → exec
    (.fabUregAccess .tap a wr none) s = .next
    { s with hw := ({ s.hw with tap := { s.hw.tap with dbgWait := some (a, wr) }, fab := { s.hw.fab with ureg := s.hw.fab.ureg ++ [⟨a, wr, .tap⟩] } }) }) ∧
  (∀ (s : State) (a : Nat) (wr : Option Nat) (l : List UWait), s.hw.sysUp = true → s.hw.fab.ureg = ⟨a, wr, .tap⟩ :: l →
    ∃ t, exec .fabUregTimeout s = .next t ∧ t.hw.tap = { s.hw.tap with dbgWait := none, dbgAddr := a, dbgErr := true } ∧
    t.hw.fab = { s.hw.fab with ureg := l } ∧ bit (t.hw.rd R.FAB_UREG_ERR) 0 = true ∧ t.hw.mem = s.hw.mem ∧ t.hw.tiles =
    s.hw.tiles) ∧
  (∀ (s : State) (u : Nat), u < 8 → s.hw.blkDown .fab R.FAB_PLL_LOSS = false → bit s.hw.userHeld u = true → ∃ t, exec
    (.fabPllLossClear (2 ^ u)) s = .next t ∧ t.hw.bitOf R.FAB_PLL_LOSS_LOSS u = false ∧ t.hw.mem = s.hw.mem ∧
    t.hw.tiles = s.hw.tiles) ∧
  (∀ (s : State) (i : Nat) (u : UserPkt), s.hw.coreUp = true → i < 64 → s.hw.fenced (576 + i) = false →
    s.hw.fab.userRun = true → u.cls ≠ 0 → u.op = 1 ∨ u.op = 2 → u.fits = true → (s.hw.niCheck (576 + i) u.addr u.bytes
    (some 16)).1 = none → s.hw.tagFree (576 + i) = true → ∃ t, exec (.fabricPortTx i u) s = .next t ∧ (∃ p, t.hw.noc.pkts
    = s.hw.noc.pkts ++ [p] ∧ p.op = u.op ∧ p.addr = u.addr ∧ p.srcSeat = s.hw.seat ∧ p.srcNode = 576 + i ∧ p.bytes =
    u.bytes ∧ p.data = u.data) ∧ t.hw.noc.outst.length = s.hw.noc.outst.length + 1 ∧ t.hw.regs = s.hw.regs ∧ t.hw.mem =
    s.hw.mem ∧ t.hw.fab = s.hw.fab) ∧
  (∀ (s : State) (k : Nat) (crc : Bool) (p : Packet), s.hw.coreUp = true → s.hw.pkt? k = some p → p.dstSeat =
    s.hw.seat → 576 ≤ p.dstNode → p.dstNode < 640 → p.op = 1 ∨ p.op = 2 → s.hw.fenced p.dstNode = false → ∃ t, exec
    (.fabricPortRx k crc) s = .next t ∧ t.hw.noc.accepted = s.hw.noc.accepted ++ [p] ∧ t.hw.fab.rx = s.hw.fab.rx ++
    [(p.dstNode, p, crc || p.crcBad || p.poison.any (fun b => b))] ∧ t.hw.noc.pkts = s.hw.noc.pkts.eraseIdx k ∧ t.hw.regs
    = s.hw.regs ∧ t.hw.mem = s.hw.mem)

/-- Handing over a completion for a command in flight writes TAG, STATUS with PHASE, DETAIL and RESULT in the
completion slot of MBX_CPL_TAIL, advances MBX_CPL_TAIL by one modulo 65,536 and takes the command out of flight; no
other byte of Kitty, no other store and no tile changes. -/
def Obligations.MailboxCompletion : Prop :=
  ∀ (h : Hw) (m k st d r : Nat) (f : InFlight), m ≤ 16 → st < 2 ^ 15 → d < 2 ^ 16 → r < 2 ^ 64 → h.cmd? m k = some f →
    (h.complete m k st d r).cmd? m k = none ∧
    (h.complete m k st d r).get (R.MBX_CPL_TAIL_TAIL m) = (h.get (R.MBX_CPL_TAIL_TAIL m) + 1) % 65536 ∧
    Mem.bytes (h.complete m k st d r).mem.kitty (cplSlot m (h.get (R.MBX_CPL_TAIL_TAIL m))) 16 =
      leBytes 4 f.tag ++ leBytes 2 (st + 32768 * phaseOf (h.get (R.MBX_CPL_TAIL_TAIL m))) ++ leBytes 2 d ++ leBytes 8 r ∧
    (∀ a, (a < cplSlot m (h.get (R.MBX_CPL_TAIL_TAIL m)) ∨ cplSlot m (h.get (R.MBX_CPL_TAIL_TAIL m)) + 16 ≤ a) →
      Mem.get (h.complete m k st d r).mem.kitty a = Mem.get h.mem.kitty a) ∧
    (h.complete m k st d r).mem = { h.mem with
      kitty := (h.complete m k st d r).mem.kitty, kittyP := (h.complete m k st d r).mem.kittyP } ∧
    (h.complete m k st d r).tiles = h.tiles

/-- A doorbell write of a mailbox whose block answers and whose function is not in a function-level reset: MBX_DB_CMD
takes an index within 64 of MBX_CMD_HEAD that does not step back, MBX_DB_CPL one that does not pass the completions
posted; otherwise the index stays and DB_RANGE or DB_BACK is set. In power state IDLE the write also wakes the part
(doorbellWakes). While the function is in reset the write changes nothing. (R356, R357) -/
def Obligations.Doorbells : Prop :=
  (∀ (s : State) (m v : Nat), m ≤ 16 → s.hw.blkDown .mbx (R.MBX_DB_CMD m) = false → s.hw.flrRuns m = false → (v %
    65536 + 65536 - s.hw.get (R.MBX_CMD_HEAD_HEAD m)) % 65536 ≤ 64 → (s.hw.get (R.MBX_DB_CMD_TAIL m) + 65536 -
    s.hw.get (R.MBX_CMD_HEAD_HEAD m)) % 65536 ≤ (v % 65536 + 65536 - s.hw.get (R.MBX_CMD_HEAD_HEAD m)) % 65536 → ∃ t,
    exec (.mbxDbCmd m v) s = .next t ∧ t.hw = s.hw.doorbellWakes.put (R.MBX_DB_CMD_TAIL m) (v % 65536) ∧ t.hw.get
    (R.MBX_DB_CMD_TAIL m) = v % 65536) ∧
  (∀ (s : State) (m v : Nat), m ≤ 16 → s.hw.blkDown .mbx (R.MBX_DB_CMD m) = false → s.hw.flrRuns m = false → 64 < (v %
    65536 + 65536 - s.hw.get (R.MBX_CMD_HEAD_HEAD m)) % 65536 → ∃ t, exec (.mbxDbCmd m v) s = .next t ∧ t.hw =
    s.hw.doorbellWakes.raise (R.MBX_ERR_DB_RANGE m) 0 ∧ t.hw.get (R.MBX_DB_CMD_TAIL m) = s.hw.get (R.MBX_DB_CMD_TAIL
    m) ∧ t.hw.is (R.MBX_ERR_DB_RANGE m) = true) ∧
  (∀ (s : State) (m v : Nat), m ≤ 16 → s.hw.blkDown .mbx (R.MBX_DB_CMD m) = false → s.hw.flrRuns m = false → (v %
    65536 + 65536 - s.hw.get (R.MBX_CMD_HEAD_HEAD m)) % 65536 ≤ 64 → (v % 65536 + 65536 - s.hw.get
    (R.MBX_CMD_HEAD_HEAD m)) % 65536 < (s.hw.get (R.MBX_DB_CMD_TAIL m) + 65536 - s.hw.get (R.MBX_CMD_HEAD_HEAD m)) %
    65536 → ∃ t, exec (.mbxDbCmd m v) s = .next t ∧ t.hw = s.hw.doorbellWakes.raise (R.MBX_ERR_DB_BACK m) 0 ∧ t.hw.get
    (R.MBX_DB_CMD_TAIL m) = s.hw.get (R.MBX_DB_CMD_TAIL m) ∧ t.hw.is (R.MBX_ERR_DB_BACK m) = true) ∧
  (∀ (s : State) (m v : Nat), m ≤ 16 → s.hw.blkDown .mbx (R.MBX_DB_CPL m) = false → s.hw.flrRuns m = false → (s.hw.get
    (R.MBX_CPL_TAIL_TAIL m) + 65536 - v % 65536) % 65536 ≤ (s.hw.get (R.MBX_CPL_TAIL_TAIL m) + 65536 - s.hw.get
    (R.MBX_DB_CPL_HEAD m)) % 65536 → ∃ t, exec (.mbxDbCpl m v) s = .next t ∧ t.hw = s.hw.doorbellWakes.put
    (R.MBX_DB_CPL_HEAD m) (v % 65536) ∧ t.hw.get (R.MBX_DB_CPL_HEAD m) = v % 65536) ∧
  (∀ (s : State) (m v : Nat), m ≤ 16 → s.hw.blkDown .mbx (R.MBX_DB_CPL m) = false → s.hw.flrRuns m = false → (s.hw.get
    (R.MBX_CPL_TAIL_TAIL m) + 65536 - s.hw.get (R.MBX_DB_CPL_HEAD m)) % 65536 < (s.hw.get (R.MBX_CPL_TAIL_TAIL m) +
    65536 - v % 65536) % 65536 → ∃ t, exec (.mbxDbCpl m v) s = .next t ∧ t.hw = s.hw.doorbellWakes.raise
    (R.MBX_ERR_DB_RANGE m) 0 ∧ t.hw.get (R.MBX_DB_CPL_HEAD m) = s.hw.get (R.MBX_DB_CPL_HEAD m) ∧ t.hw.is
    (R.MBX_ERR_DB_RANGE m) = true) ∧
  (∀ (s : State) (m v : Nat), m ≤ 16 → s.hw.blkDown .mbx (R.MBX_DB_CMD m) = false → s.hw.flrRuns m = true → exec
    (.mbxDbCmd m v) s = .next { s with hw := (s.hw) }) ∧
  (∀ (s : State) (m v : Nat), m ≤ 16 → s.hw.blkDown .mbx (R.MBX_DB_CPL m) = false → s.hw.flrRuns m = true → exec
    (.mbxDbCpl m v) s = .next { s with hw := (s.hw) })

/-- A take of the arbiter's choice advances that mailbox's MBX_CMD_HEAD by one and, when the entry passes the checks,
puts it in flight; the first check that fails gives its completion, and a poisoned entry completes MEM_ERROR, 2; with no
eligible mailbox nothing is taken. A post of the Dealer for a handle completes it with the posted STATUS, DETAIL and
RESULT; a posted event takes a free slot, or with 32 waiting and no slot is lost with EVT_LOST; a queued event takes a
freed slot. A timed-out command completes TIMEOUT with TMO set, and units that still hold it hold it under no handle of
the ring. A coalescing timeout sends the mailbox's vector. A free DMA engine goes to the oldest waiting command of a
function that may master the bus, and issues its reads. -/
def Obligations.MailboxFlow : Prop :=
  (∀ (s : State) (m : Nat), s.hw.sysUp = true → s.hw.dealerUp = true → s.hw.mbxChoice = some m → m ≤ 16 →
    s.hw.entryPoisoned m = false → s.hw.checkFails
    { mb := m, hd := s.hw.freeHandle m, seq := s.hw.mbx.nextSeq, entry := Mem.bytes s.hw.mem.kitty (cmdSlot m (s.hw.get (R.MBX_CMD_HEAD_HEAD m))) 64, started := false }
    = none → ∃ t, exec .mbxNext s = .next t ∧ t.hw.get (R.MBX_CMD_HEAD_HEAD m) = (s.hw.get (R.MBX_CMD_HEAD_HEAD m) +
    1) % 65536 ∧ t.hw.mbx.infl = s.hw.mbx.infl ++
    [{ mb := m, hd := s.hw.freeHandle m, seq := s.hw.mbx.nextSeq, entry := Mem.bytes s.hw.mem.kitty (cmdSlot m (s.hw.get (R.MBX_CMD_HEAD_HEAD m))) 64, started := false }]
    ∧ t.hw.mem = s.hw.mem ∧ t.hw.tiles = s.hw.tiles) ∧
  (∀ (s : State) (m st d : Nat), s.hw.sysUp = true → s.hw.dealerUp = true → s.hw.mbxChoice = some m → m ≤ 16 →
    s.hw.entryPoisoned m = false → s.hw.checkFails
    { mb := m, hd := s.hw.freeHandle m, seq := s.hw.mbx.nextSeq, entry := Mem.bytes s.hw.mem.kitty (cmdSlot m (s.hw.get (R.MBX_CMD_HEAD_HEAD m))) 64, started := false }
    = some (st, d) → exec .mbxNext s = .next { s with hw := ((s.hw.take m).complete m (s.hw.freeHandle m) st d 0) }) ∧
  (∀ (s : State) (m : Nat), s.hw.sysUp = true → s.hw.dealerUp = true → s.hw.mbxChoice = some m → m ≤ 16 →
    s.hw.entryPoisoned m = true → exec .mbxNext s = .next
    { s with hw := ((s.hw.take m).complete m (s.hw.freeHandle m) 0x19 2 0) }) ∧
  (∀ (s : State), s.hw.sysUp = true → s.hw.mbxChoice = none → exec .mbxNext s = .next { s with hw := (s.hw) }) ∧
  (∀ (s : State) (m k : Nat), s.hw.sysUp = true → s.hw.dealerUp = true → m ≤ 16 → k < 8 → exec (.mbxPostGo m k) s =
    .next
    { s with hw := (s.hw.complete m k (s.hw.get R.MBX_POST_SD_STATUS) (s.hw.get R.MBX_POST_SD_DETAIL) (s.hw.rd64 R.MBX_POST_RES_LO R.MBX_POST_RES_HI)) }) ∧
  (∀ (s : State) (m : Nat), s.hw.sysUp = true → s.hw.dealerUp = true → m ≤ 16 → s.hw.events m = [] → s.hw.slotFree m =
    true → exec (.mbxPostEvent m) s = .next
    { s with hw := (s.hw.postEntry m 0xFFFFFFFF (s.hw.get R.MBX_POST_SD_STATUS) (s.hw.get R.MBX_POST_SD_DETAIL) (s.hw.rd64 R.MBX_POST_RES_LO R.MBX_POST_RES_HI) false) }) ∧
  (∀ (s : State) (m : Nat), s.hw.sysUp = true → s.hw.dealerUp = true → m ≤ 16 → s.hw.slotFree m = false → 32 ≤
    (s.hw.events m).length → exec (.mbxPostEvent m) s = .next { s with hw := (s.hw.raise (R.MBX_ERR_EVT_LOST m) 0) }) ∧
  (∀ (s : State) (m : Nat) (e : Evt) (l : List Evt), s.hw.sysUp = true → s.hw.events m = e :: l → s.hw.slotFree m =
    true → exec (.mbxEventDequeue m) s = .next
    { s with hw := (({ s.hw with mbx := { s.hw.mbx with events := lmapSet s.hw.mbx.events m l } } : Hw).postEntry m 0xFFFFFFFF e.status e.code e.result false) }) ∧
  (∀ (s : State) (m k : Nat) (f : InFlight), s.hw.sysUp = true → s.hw.is (R.MBX_CMD_TMO_MS m) = true → s.hw.cmd? m k =
    some f → s.hw.cfg.cmd = none → exec (.mbxCmdTimeout m k) s = .next
    { s with hw := (((s.hw.orphan m k 8).complete m k 0x1A 0 0).raise (R.MBX_ERR_TMO m) 0) }) ∧
  (∀ (s : State) (m : Nat), s.hw.sysUp = true → s.hw.is (R.MBX_CTL_COAL_US m) = true → s.hw.unsig m ≠ 0 → s.hw.is
    (R.MBX_CTL_IRQ_EN m) = true → exec (.mbxCoalTimeout m) s = .next
    { s with hw := ((s.hw.setUnsig m 0).msixFire (s.hw.mbxVector m).1 (s.hw.mbxVector m).2) }) ∧
  (∀ (s : State) (f : InFlight) (e a n : Nat) (rd : Bool), s.hw.sysUp = true → s.hw.dmaWaiting = some f → f.dma = some
    (rd, a, n) → (List.range 8).find? (fun e => !(s.hw.pcie.engines.any (fun g => g.eng == e))) = some e →
    s.hw.dmaAllowed (dmaFn f.mb) = true → exec .dmaEngineAssign s = .next
    { s with hw := ({ s.hw with pcie := { s.hw.pcie with engines := s.hw.pcie.engines ++ [s.hw.dmaIssue ⟨e, f.mb, f.hd, a, n, rd, [], []⟩] } }) })

/-- A device command free to start and found valid has its effect and is completed OK: NOP with RESULT 0; INFO with the
value of its SEL; RESET of LEVEL 1, after which a core reset is requested; REG_READ with the data and REG_WRITE after the
write of the Dealer-map register; MEM_READ of up to 8 bytes with the bytes read and MEM_WRITE of up to 32 bytes from the
entry, piece by piece; POWER with a permitted target of RUN, IDLE or PARK, with PWR_STATE after the target is written. A
POWER target above 4 ends BAD_PARAM, 0. -/
def Obligations.DeviceCommands : Prop :=
  (∀ (s : State) (m k : Nat) (f : InFlight) (cyc : Nat), s.hw.dealerUp = true → s.hw.cmdFor m k 0x0000 = some f → exec
    (.nop (.mailbox m k) cyc) s = .next { s with hw := (s.hw.complete m k 0 0 0) }) ∧
  (∀ (s : State) (m k : Nat) (f : InFlight) (v : Nat), s.hw.dealerUp = true → s.hw.cmdFor m k 0x0001 = some f →
    s.hw.infoValue (f.par 0 1) = some v → s.hw.is R.SYS_FW_STAT_ROM_SVC = false → s.hw.unreadable 0 + s.hw.unreadable
    1 = 0 → exec (.info m k) s = .next { s with hw := (s.hw.complete m k 0 0 v) }) ∧
  (∀ (s : State) (m k : Nat) (f : InFlight), s.hw.dealerUp = true → s.hw.cmdFor m k 0x0002 = some f → f.par 0 1 = 1 →
    (s.hw.complete m k 0 0 0).unsig m = 0 → exec (.reset m k) s = .next
    { s with hw := ((s.hw.complete m k 0 0 0).resetReq .core rcCORE_CMD false false) }) ∧
  (∀ (s : State) (m k : Nat) (f : InFlight) (ans : UAns) (v : Nat) (h : Hw), s.hw.dealerUp = true → s.hw.cmdFor m k
    0x0003 = some f → s.hw.dmapRead (f.par 0 4) 4 ans = (.ok v, h) → exec (.regRead m k ans) s
    = .next { s with hw := (h.complete m k 0 0 v) }) ∧
  (∀ (s : State) (m k : Nat) (f : InFlight) (ans : UAns) (h : Hw) (v : Nat), s.hw.dealerUp = true → s.hw.cmdFor m k
    0x0004 = some f → s.hw.dmapWrite (f.par 0 4) (leBytes 4 (f.par 4 4)) 640 ans = (.ok v, h) → exec (.regWrite m k
    ans) s = .next { s with hw := (h.complete m k 0 0 0) }) ∧
  (∀ (s : State) (m k : Nat) (f : InFlight) (far : Memory) (ans : List (Nat × UAns)) (bs : List Byte) (h : Hw), s.hw.dealerUp = true →
    s.hw.cmdFor m k 0x0005 = some f → memPar f = none → f.par 16 8 = 0 → f.par 8 4 ≤ 8 → Hw.readPieces far
    (ansAt ans) (s.hw.dealerPieces (f.par 0 8) (f.par 8 4) false) s.hw = some (0, bs, h) → exec (.memRead m k far ans) s =
    .next { s with hw := (h.complete m k 0 0 (ofLe bs)) }) ∧
  (∀ (s : State) (m k : Nat) (f : InFlight) (farOk : Bool) (ans : List (Nat × UAns)) (h : Hw), s.hw.dealerUp = true → s.hw.cmdFor m k 0x0006 =
    some f → memPar f = none → f.par 16 8 = 0 → f.par 8 4 ≤ 32 → Hw.writePieces farOk (ansAt ans) (s.hw.dealerPieces (f.par 0 8)
    (f.par 8 4) true) ((f.entry.drop 32).take (f.par 8 4)) s.hw = some (0, h) → exec (.memWrite m k farOk ans) s = .next
    { s with hw := (h.complete m k 0 0 0) }) ∧
  (∀ (s : State) (m k : Nat) (f : InFlight), s.hw.dealerUp = true → s.hw.cmdFor m k 0x0007 = some f → 4 < f.par 0 1 →
    exec (.power m k) s = .next { s with hw := (s.hw.complete m k 0x12 0 0) }) ∧
  (∀ (s : State) (m k : Nat) (f : InFlight), s.hw.dealerUp = true → s.hw.cmdFor m k 0x0007 = some f → f.par 0 1 ≤ 2 →
    s.hw.is R.PWR_STATE_BUSY = false → s.hw.pwrAllowed (f.par 0 1) = true → exec (.power m k) s = .next
    { s with hw := ((s.hw.pwrGo (f.par 0 1)).complete m k 0 0 ((s.hw.pwrGo (f.par 0 1)).rd R.PWR_STATE)) })

/-- IMAGE_LOAD with no attempt running becomes the loading command in configuration states WAIT and FAILED and ends
WRONG_STATE with the state elsewhere; PARTIAL_LOAD with no attempt running becomes the loading command. With valid
parameters and the engine not holding the flash, a flash read writes the flash's bytes to the host buffer, and a flash
write and erase that the flash carries out leave the host's data or 0xFF in their range; each completes OK. -/
def Obligations.ImageAndFlashCommands : Prop :=
  (∀ (s : State) (m k : Nat) (f : InFlight), s.hw.dealerUp = true → s.hw.cmdFor m k 0x0010 = some f → s.hw.cfg.attempt
    = .none → s.hw.cstate = csWAIT ∨ s.hw.cstate = csFAILED → exec (.imageLoad m k) s = .next
    { s with hw := ({ (s.hw.begun m k) with cfg := { s.hw.cfg with cmd := some (m, k), taken := 0 } }) }) ∧
  (∀ (s : State) (m k : Nat) (f : InFlight), s.hw.dealerUp = true → s.hw.cmdFor m k 0x0010 = some f → s.hw.cfg.attempt
    = .none → s.hw.cstate ≠ csWAIT → s.hw.cstate ≠ csFAILED → exec (.imageLoad m k) s = .next
    { s with hw := (s.hw.complete m k 0x15 s.hw.cstate 0) }) ∧
  (∀ (s : State) (m k : Nat) (f : InFlight), s.hw.dealerUp = true → s.hw.cmdFor m k 0x0011 = some f → s.hw.cfg.attempt
    = .none → exec (.partialLoad m k) s = .next
    { s with hw := ({ (s.hw.begun m k) with cfg := { s.hw.cfg with cmd := some (m, k), taken := 0 } }) }) ∧
  (∀ (s : State) (m k : Nat) (f : InFlight) (obs : FlashObs), s.hw.dealerUp = true → s.hw.cmdFor m k 0x0014 = some f →
    obs.code = 0 → s.hw.pinsFrozen = false → f.par 4 4 % 0x10000 = 0 → f.par 0 4 % 0x10000 = 0 → s.hw.is R.CFG_FLASH_SIZE = false ∨ f.par 0 4 +
    f.par 4 4 ≤ s.hw.get R.CFG_FLASH_SIZE * 2 ^ 20 → s.hw.flashBusy = false → exec (.flashErase m k obs) s = .next
    { s with hw := (({ s.hw with mem := { s.hw.mem with flash := Mem.write s.hw.mem.flash (f.par 0 4) (List.replicate (f.par 4 4) 0xFF) } } : Hw).complete m k 0 0 0) }) ∧
  (∀ (s : State) (m k : Nat) (f : InFlight) (obs : FlashObs) (bs : List Byte), s.hw.dealerUp = true →
    s.hw.cmdFor m k 0x0013 = some f → obs.code = 0 → s.hw.pinsFrozen = false → f.par 4 4 % 256 = 0 → f.par 0 4 % 256 = 0 → s.hw.is
    R.CFG_FLASH_SIZE = false ∨ f.par 0 4 + f.par 4 4 ≤ s.hw.get R.CFG_FLASH_SIZE * 2 ^ 20 → s.hw.flashBusy = false →
    s.hw.hostIn m k (f.par 4 4) = some bs → exec (.flashWrite m k obs) s = .next
    { s with hw := (({ s.hw with mem := { s.hw.mem with flash := Mem.write s.hw.mem.flash (f.par 0 4) bs } } : Hw).complete m k 0 0 0) }) ∧
  (∀ (s : State) (m k : Nat) (f : InFlight) (obs : FlashObs), s.hw.dealerUp = true → s.hw.cmdFor m k 0x0012 = some f →
    obs.code = 0 → s.hw.pinsFrozen = false → f.par 4 4 % 4 = 0 → s.hw.is R.CFG_FLASH_SIZE = false ∨ f.par 0 4 + f.par 4 4 ≤ s.hw.get
    R.CFG_FLASH_SIZE * 2 ^ 20 → s.hw.flashBusy = false → s.hw.hostOutReady m k (f.par 4 4) = true → exec (.flashRead m k obs) s =
    .next { s with hw := ((s.hw.hostOut m k (Mem.bytes s.hw.mem.flash (f.par 0 4) (f.par 4 4))).complete m k 0 0 0) })

/-- On a partition that is not fused off, the fabric released: PART_OPEN of an OFF or FOLDED partition with parameters in
range opens it and completes with its state; PART_FOLD of an open one requests its fold, acknowledged under the command's
handle; PART_OFF of a FOLDED one leaves it OFF and gated; PART_PACE with parameters in range writes floor, ceiling, band
and window and starts a window; PART_BW writes shares whose sums fit and otherwise ends NO_RESOURCE, 3; PART_STATUS
completes with the state, the step, the present count F and the last job. PART_OPEN of an open partition and PART_FOLD of
one that is OFF or FOLDED end WRONG_STATE with that state. -/
def Obligations.PartitionCommands : Prop :=
  (∀ (s : State) (m k : Nat) (f : InFlight), s.hw.dealerUp = true → s.hw.cmdFor m k 0x0100 = some f → f.part < 16 →
    s.hw.is R.CFG_STAT_RELEASED = true → s.hw.fused f.part = false → openPar f = none → s.hw.spare f.part = false →
    s.hw.pstate f.part = 0 ∨ s.hw.pstate f.part = 1 → f.par 1 1 = 0 ∨ s.hw.graphicsCount < 4 → exec (.partOpen m k) s
    = .next
    { s with hw := ((s.hw.openPart f.part (f.par 1 1) (f.par 4 4) (f.par 8 4)).complete m k 0 0 ((s.hw.openPart f.part (f.par 1 1) (f.par 4 4) (f.par 8 4)).pstate f.part)) }) ∧
  (∀ (s : State) (m k : Nat) (f : InFlight), s.hw.dealerUp = true → s.hw.cmdFor m k 0x0100 = some f → f.part < 16 →
    s.hw.is R.CFG_STAT_RELEASED = true → s.hw.fused f.part = false → openPar f = none → s.hw.spare f.part = false →
    s.hw.pstate f.part ≠ 0 → s.hw.pstate f.part ≠ 1 → exec (.partOpen m k) s = .next
    { s with hw := (s.hw.complete m k 0x15 (s.hw.pstate f.part) 0) }) ∧
  (∀ (s : State) (m k : Nat) (f : InFlight), s.hw.dealerUp = true → s.hw.cmdFor m k 0x0101 = some f → f.part < 16 →
    s.hw.is R.CFG_STAT_RELEASED = true → s.hw.fused f.part = false → 2 ≤ s.hw.pstate f.part → s.hw.pstate f.part ≤ 4 →
    exec (.partFold m k) s = .next { s with hw := ((s.hw.begun m k).foldRequest f.part false [32 * m + k]) }) ∧
  (∀ (s : State) (m k : Nat) (f : InFlight), s.hw.dealerUp = true → s.hw.cmdFor m k 0x0101 = some f → f.part < 16 →
    s.hw.is R.CFG_STAT_RELEASED = true → s.hw.fused f.part = false → s.hw.pstate f.part < 2 → exec (.partFold m k) s =
    .next { s with hw := (s.hw.complete m k 0x15 (s.hw.pstate f.part) 0) }) ∧
  (∀ (s : State) (m k : Nat) (f : InFlight), s.hw.dealerUp = true → s.hw.cmdFor m k 0x0102 = some f → f.part < 16 →
    s.hw.is R.CFG_STAT_RELEASED = true → s.hw.fused f.part = false → s.hw.pstate f.part = 1 → exec (.partOff m k) s =
    .next
    { s with hw := (((({ s.hw with noc := { s.hw.noc with gated := NSet.add s.hw.noc.gated f.part } } : Hw).clearPart f.part).put (R.SYS_PART_STAT_STATE f.part) 0).complete m k 0 0 0) }) ∧
  (∀ (s : State) (m k : Nat) (f : InFlight), s.hw.dealerUp = true → s.hw.cmdFor m k 0x0103 = some f → f.part < 16 →
    s.hw.is R.CFG_STAT_RELEASED = true → s.hw.fused f.part = false → f.par 1 1 ≤ f.par 2 1 → f.par 2 1 ≤ 28 → f.par 3
    1 < f.par 4 1 → f.par 5 1 % 4 = 0 → 4 ≤ f.par 5 1 → f.par 5 1 ≤ 64 → exec (.partPace m k) s = .next
    { s with hw := (((((((s.hw.put (R.PACE_CFG_FLOOR f.part) (f.par 1 1)).put (R.PACE_CFG_CEIL f.part) (f.par 2 1)).put (R.PACE_CFG_WIN_US f.part) (f.par 5 1)).put (R.PACE_BAND_LO f.part) (f.par 3 1)).put (R.PACE_BAND_HI f.part) (f.par 4 1)).govStart f.part false).complete m k 0 0 0) }) ∧
  (∀ (s : State) (m k : Nat) (f : InFlight) (h : Hw), s.hw.dealerUp = true → s.hw.cmdFor m k 0x0104 = some f → f.part
    < 16 → s.hw.is R.CFG_STAT_RELEASED = true → s.hw.fused f.part = false → f.par 1 1 ≤ 1 → f.par 2 1 ≤ 16 → f.par 3 1
    ≤ 16 → f.par 4 1 ≤ 16 → h = s.hw.wr (R.PACE_BW f.part) (f.par 1 1 + f.par 2 1 * 2 ^ 8 + f.par 3 1 * 2 ^ 16 + f.par
    4 1 * 2 ^ 24) → h.sharesFit = true → exec (.partBw m k) s = .next { s with hw := (h.complete m k 0 0 0) }) ∧
  (∀ (s : State) (m k : Nat) (f : InFlight), s.hw.dealerUp = true → s.hw.cmdFor m k 0x0104 = some f → f.part < 16 →
    s.hw.is R.CFG_STAT_RELEASED = true → s.hw.fused f.part = false → f.par 1 1 ≤ 1 → f.par 2 1 ≤ 16 → f.par 3 1 ≤ 16 →
    f.par 4 1 ≤ 16 → (s.hw.wr (R.PACE_BW f.part) (f.par 1 1 + f.par 2 1 * 2 ^ 8 + f.par 3 1 * 2 ^ 16 + f.par 4 1 * 2 ^
    24)).sharesFit = false → exec (.partBw m k) s = .next { s with hw := (s.hw.complete m k 0x17 3 0) }) ∧
  (∀ (s : State) (m k : Nat) (f : InFlight), s.hw.dealerUp = true → s.hw.cmdFor m k 0x0108 = some f → f.part < 16 →
    s.hw.fused f.part = false → exec (.partStatus m k) s = .next
    { s with hw := (s.hw.complete m k 0 0 (s.hw.pstate f.part + s.hw.get (R.SYS_TCLK_CUR_STEP f.part) * 2 ^ 8 + s.hw.get (R.PACE_STAT_F f.part) * 2 ^ 16 + (s.hw.pt f.part).job * 2 ^ 32)) })

/-- PROGRAM_LOAD of a valid host image in COMPUTE without a running job, its HBM sections written, copies its other sections
to their tiles, records the image as loaded and completes OK. JOB_START with nothing loaded ends WRONG_STATE; behind a
running job it queues the staged image. A queued job in COMPUTE whose fills are done and failed nowhere is released on its
tiles, becomes the running job and completes with table time. A job whose tiles have all halted with HALT_WHY 1, their
streams quiet, ends with status 0. CHECKPOINT outside COMPUTE ends WRONG_STATE; in COMPUTE with no checkpoint under way it
begins one that waits for its tiles. With the stopped tiles quiet the checkpoint goes on to write; the commit writes the
records and makes the buffer active, or abandons the checkpoint where a write fails, or waits. The acknowledgement of a
dummy copy ends it on its sender, and on the partner, where the slot fits and is free, sets VALID. -/
def Obligations.JobsAndCheckpoints : Prop :=
  (∀ (s : State) (m k : Nat) (f : InFlight) (far bs : List Byte) (img : JobImg) (h : Hw), s.hw.dealerUp =
    true → s.hw.cmdFor m k 0x0105 = some f → f.part < 16 → s.hw.is R.CFG_STAT_RELEASED = true → s.hw.fused f.part =
    false → loadPar f = none → s.hw.pstate f.part = 2 → (s.hw.pt f.part).run = none → 64 ≤ f.par 24 4 → f.par 1 1 = 1
    → s.hw.hostData m k = some bs → parseJob bs (f.par 24 4) (s.hw.get (R.NOC_ISO_SLICE_SLICE_BASE f.part))
    (s.hw.get (R.NOC_ISO_SLICE_SLICE_LEN f.part)) = some img → img.secs.any (fun x => x.kind == 0 && (maskTiles f.part
    img.mask).any (fun e => x.to img.mask e.1 && (s.hw.tile e.2).running)) = false → s.hw.copyHbm f.part img = some
    (0, h) → exec (.programLoad m k far) s = .next
    { s with hw := (((h.copySecs f.part img (fun _ => true)).onPt f.part (fun x => { x with loaded := some img, staged := none })).complete m k 0 0 0) }) ∧
  (∀ (s : State) (m k : Nat) (f : InFlight), s.hw.dealerUp = true → s.hw.cmdFor m k 0x0106 = some f → f.part < 16 →
    s.hw.is R.CFG_STAT_RELEASED = true → s.hw.fused f.part = false → (s.hw.pt f.part).staged = none → (s.hw.pt
    f.part).loaded = none → exec (.jobStart m k) s = .next
    { s with hw := (s.hw.complete m k 0x15 (s.hw.pstate f.part) 0) }) ∧
  (∀ (s : State) (m k : Nat) (f : InFlight) (img : JobImg), s.hw.dealerUp = true → s.hw.cmdFor m k 0x0106 = some f →
    f.part < 16 → s.hw.is R.CFG_STAT_RELEASED = true → s.hw.fused f.part = false → (s.hw.pt f.part).run.isSome = true
    → (s.hw.pt f.part).staged = some img → img.job = f.par 4 4 → s.hw.pstate f.part = 2 → exec (.jobStart m k) s =
    .next
    { s with hw := (((s.hw.begun m k).onPt f.part (fun x => { x with start := some ⟨img, m, k, []⟩ })).jobPrepAll f.part) }) ∧
  (∀ (s : State) (p : Nat) (x : JobStart), s.hw.coreUp = true → (s.hw.jobPrepAll p).pt p =
    { (s.hw.jobPrepAll p).pt p with start := some x, run := none } → (s.hw.jobPrepAll p).pstate p = 2 → (maskTiles p
    x.img.mask).all (fun e => ((s.hw.jobPrepAll p).tile e.2).str.jobErr == 0) = true → (s.hw.jobPrepAll p).jobFilled p
    x = true → exec (.jobRelease p) s = .next
    { s with hw := ((((maskTiles p x.img.mask).foldl (fun (h : Hw) e => h.onTile e.2 (fun t => t.release x.img)) (s.hw.jobPrepAll p)).onPt p (fun y => { y with start := none, run := some ⟨x.img.job, x.img.mask, x.mb⟩, job := x.img.job, loaded := some x.img, staged := none })).complete x.mb x.hd 0 0 s.hw.clk.tt) }) ∧
  (∀ (s : State) (p : Nat) (r : JobRun), s.hw.coreUp = true → (s.hw.pt p).run = some r → (s.hw.pt p).start = none →
    (s.hw.pt p).flrJob = false → s.hw.pstate p = 2 → (maskTiles p r.mask).all (fun e => !(s.hw.tile e.2).running &&
    (s.hw.tile e.2).jobQuiet false && (s.hw.tile e.2).ctl.why == 1) = true → exec (.jobEnd p) s = .next
    { s with hw := (s.hw.endJob p 0) }) ∧
  (∀ (s : State) (m k : Nat) (f : InFlight), s.hw.dealerUp = true → s.hw.cmdFor m k 0x0107 = some f → f.part < 16 →
    s.hw.is R.CFG_STAT_RELEASED = true → s.hw.fused f.part = false → s.hw.pstate f.part ≠ 2 → exec (.checkpoint m k) s
    = .next { s with hw := (s.hw.complete m k 0x15 (s.hw.pstate f.part) 0) }) ∧
  (∀ (s : State) (m k : Nat) (f : InFlight), s.hw.dealerUp = true → s.hw.cmdFor m k 0x0107 = some f → f.part < 16 →
    s.hw.is R.CFG_STAT_RELEASED = true → s.hw.fused f.part = false → s.hw.pstate f.part = 2 → (s.hw.pt
    f.part).ck.phase = .none → ∃ t, exec (.checkpoint m k) s = .next t ∧ (t.hw.pt f.part).ck =
    { (s.hw.pt f.part).ck with phase := .arriving, tag := 0xFFFF, cmd := some (m, k) } ∧ t.hw.regs = s.hw.regs ∧
    t.hw.mem = s.hw.mem) ∧
  (∀ (s : State) (p : Nat), s.hw.coreUp = true → s.hw.popen p = true → s.hw.foldStat p = fOPEN → (s.hw.pt
    p).ck.copying = false → (s.hw.pt p).ck.phase = .arriving → (tilesOf p).all (fun n => !(s.hw.tile n).ctl.ckStop || ((s.hw.tile n).quiet && (s.hw.tile n).mxu.isEmpty)) = true → exec (.checkpointWrite p) s = .next
    { s with hw := (s.hw.onPt p (fun x => { x with ck := { x.ck with phase := .writing } })) }) ∧
  (∀ (s : State) (p : Nat), s.hw.coreUp = true → (s.hw.pt p).ck.phase = .writing → exec (.checkpointCommit p) s =
    .next
    { s with hw := (match s.hw.ckWriteAll p with | some (0, h) => h.ckActive p (s.hw.get (R.SYS_PART_STAT_CKPT_ACT p)) ((s.hw.get (R.SYS_PART_SEQ_SEQ p) + 1) % 2 ^ 32) (s.hw.pt p).ck | some (d, h) => h.ckAbandon p d true | none => s.hw) }) ∧
  (∀ (s : State) (p mlen : Nat), s.hw.sysUp = true → p < 16 → (s.hw.pt p).ck.copying = true → s.hw.get
    R.TBL_MIRSTAT_PARTNER ≠ s.hw.seat → exec (.dummyCopyAck p false mlen false) s = .next
    { s with hw := (s.hw.copyDone p false) }) ∧
  (∀ (s : State) (p mlen : Nat), s.hw.sysUp = true → p < 16 → s.hw.get R.TBL_MIRSTAT_PRED ≠ s.hw.seat → 32 + 2 * mlen
    ≤ s.hw.get R.TBL_MIRROR_SLOT → s.hw.slotMib p + s.hw.get R.TBL_MIRROR_SLOT ≤ 32768 → s.hw.slotUsed p = false →
    exec (.dummyCopyAck p true mlen false) s = .next { s with hw := (s.hw.putBit R.TBL_MIRSTAT_VALID p true) })

/-- While the governor of a partition works (govOn) a sample touches only its accumulators; a window with no run
cycles, or during a checkpoint, holds with LAST 3; any other window reports the stall fraction and steps down above the
band, up below it, or holds; a clock outside the effective range is stepped toward it; while the governor does not work a
sample changes nothing. (R811) -/
def Obligations.Pacing : Prop :=
  (∀ (s : State) (p : Nat), s.hw.coreUp = true → p < 16 → s.hw.govOn p = true → ∃ t, exec (.pacingSample p) s = .next
    t ∧ t.hw = s.hw.onPt p (fun x => { x with gov := (t.hw.pt p).gov }) ∧ (t.hw.pt p).gov.closed = (s.hw.pt
    p).gov.closed) ∧
  (∀ (s : State) (p : Nat), s.hw.coreUp = true → s.hw.govOn p = false → exec (.pacingSample p) s = .next
    { s with hw := (s.hw) }) ∧
  (∀ (s : State) (p : Nat), s.hw.coreUp = true → s.hw.govOn p = true → (s.hw.pt p).gov.closed = false → (s.hw.pt
    p).gov.run = 0 ∨ s.hw.ckBusy p = true → exec (.pacingWindow p) s = .next
    { s with hw := ((s.hw.put (R.PACE_STAT_LAST p) 3).govStart p false) }) ∧
  (∀ (s : State) (p fr : Nat), s.hw.coreUp = true → p < 16 → s.hw.govOn p = true → (s.hw.pt p).gov.closed = false → 0
    < (s.hw.pt p).gov.run → s.hw.ckBusy p = false → fr = min 255 (256 * (s.hw.pt p).gov.stall / (s.hw.pt p).gov.run) →
    ¬(s.hw.get (R.PACE_BAND_HI p) < fr ∧ s.hw.floorEff p < s.hw.get (R.SYS_TCLK_CUR_STEP p)) → ¬(fr < s.hw.get
    (R.PACE_BAND_LO p) ∧ s.hw.get (R.SYS_TCLK_CUR_STEP p) < s.hw.ceilEff p) → exec (.pacingWindow p) s = .next
    { s with hw := (((s.hw.put (R.PACE_STAT_F p) fr).govStart p false).put (R.PACE_STAT_LAST p) 0) }) ∧
  (∀ (s : State) (p fr : Nat), s.hw.coreUp = true → p < 16 → s.hw.govOn p = true → (s.hw.pt p).gov.closed = false → 0
    < (s.hw.pt p).gov.run → s.hw.ckBusy p = false → fr = min 255 (256 * (s.hw.pt p).gov.stall / (s.hw.pt p).gov.run) →
    s.hw.get (R.PACE_BAND_HI p) < fr → s.hw.floorEff p < s.hw.get (R.SYS_TCLK_CUR_STEP p) → exec (.pacingWindow p) s =
    .next
    { s with hw := (((((s.hw.put (R.PACE_STAT_F p) fr).govStart p false).put (R.PACE_STAT_LAST p) 2).govStep p false).onPt p (fun x => { x with gov := { x.gov with closed := true } })) }) ∧
  (∀ (s : State) (p fr : Nat), s.hw.coreUp = true → p < 16 → s.hw.govOn p = true → (s.hw.pt p).gov.closed = false → 0
    < (s.hw.pt p).gov.run → s.hw.ckBusy p = false → fr = min 255 (256 * (s.hw.pt p).gov.stall / (s.hw.pt p).gov.run) →
    fr < s.hw.get (R.PACE_BAND_LO p) → ¬(s.hw.get (R.PACE_BAND_HI p) < fr ∧ s.hw.floorEff p < s.hw.get
    (R.SYS_TCLK_CUR_STEP p)) → s.hw.get (R.SYS_TCLK_CUR_STEP p) < s.hw.ceilEff p → exec (.pacingWindow p) s = .next
    { s with hw := (((((s.hw.put (R.PACE_STAT_F p) fr).govStart p false).put (R.PACE_STAT_LAST p) 1).govStep p true).onPt p (fun x => { x with gov := { x.gov with closed := true } })) }) ∧
  (∀ (s : State) (p : Nat), s.hw.coreUp = true → s.hw.govOn p = true → s.hw.lastStep p < s.hw.floorEff p → exec
    (.pacingCorrect p) s = .next { s with hw := (s.hw.govStep p true) }) ∧
  (∀ (s : State) (p : Nat), s.hw.coreUp = true → s.hw.govOn p = true → s.hw.floorEff p ≤ s.hw.lastStep p →
    s.hw.ceilEff p < s.hw.lastStep p → exec (.pacingCorrect p) s = .next { s with hw := (s.hw.govStep p false) })

/-- A sensor register block that reads whole and names only writable registers of its range is written pair by pair and
the command completes OK (SNS_CONFIG after disarming every capture and disabling every channel, enabling them last).
SNS_CAPTURE of an idle capture of an enabled channel arms it and completes OK. SIG_LOAD of a valid image to cores that are
all IDLE or FAULTED puts it into each of them, with its ENTRY, and leaves them IDLE. SIG_RUN with a trigger source, of cores
that are all IDLE, leaves them ARMED with TRIG and POLICY. SIG_STOP of no core completes OK; of one core it empties the
core's queue and retires it under the command. SNS_STATUS with no chirp straddling completes with the groups' steps, CLIP,
the sum of the overruns and SNS_CH_EN, and SIG_STATUS with no trigger pending with the cores' states. -/
def Obligations.SensorAndSignalCommands : Prop :=
  (∀ (s : State) (m k : Nat) (f : InFlight) (far : Memory) (hd bs : List Byte) (h g : Hw), s.hw.dealerUp = true →
    s.hw.cmdFor m k 0x0200 = some f → f.par 8 8 < 2 ^ 48 → s.hw.blkDown .sns 0x40060000 = false → s.hw.nodeRead 640
    (f.par 8 8) 8 far = some (0, hd, h) → leAt hd 0 4 ≠ 0 → leAt hd 0 4 ≤ 1024 → h.nodeRead 640 (f.par 8 8 + 8) (8 *
    leAt hd 0 4) far = some (0, bs, g) → (blockPairs bs (leAt hd 0 4)).all (fun p => snsPairOk 0 0x3000 p.1) = true →
    exec (.snsConfig m k far) s = .next
    { s with hw := ((((((List.range 40).foldl (fun (h : Hw) u => h.capDisarm u) g).wr R.SNS_CH_EN 0).writePairs (blockPairs bs (leAt hd 0 4))).snsEnable 0 (f.par 0 4)).complete m k 0 0 0) }) ∧
  (∀ (s : State) (m k : Nat) (f : InFlight) (far : Memory) (hd bs : List Byte) (h g : Hw), s.hw.dealerUp = true →
    s.hw.cmdFor m k 0x0202 = some f → f.par 0 8 < 2 ^ 48 → s.hw.nodeRead 640 (f.par 0 8) 8 far = some (0, hd, h) →
    leAt hd 0 4 ≠ 0 → leAt hd 0 4 ≤ 1024 → h.nodeRead 640 (f.par 0 8 + 8) (8 * leAt hd 0 4) far = some (0, bs, g) →
    (blockPairs bs (leAt hd 0 4)).all (fun p => snsPairOk 0x3000 0x3100 p.1) = true → exec (.snsWake m k far) s =
    .next { s with hw := ((g.writePairs (blockPairs bs (leAt hd 0 4))).complete m k 0 0 0) }) ∧
  (∀ (s : State) (m k : Nat) (f : InFlight), s.hw.dealerUp = true → s.hw.cmdFor m k 0x0201 = some f → f.par 0 8 % 32 =
    0 → f.par 0 8 < 2 ^ 48 → f.par 8 4 % 1120 = 0 → f.par 12 1 < 32 → s.hw.chEn (f.par 12 1) = true → f.par 13 1 < 8 →
    f.par 14 1 < 3 → s.hw.is (R.SNS_CAP_STAT_RUN (f.par 12 1)) = false → exec (.snsCapture m k) s = .next
    { s with hw := ((s.hw.capArm (f.par 12 1) (f.par 0 8) (f.par 8 4) (f.par 13 1) (f.par 14 1)).complete m k 0 0 0) }) ∧
  (∀ (s : State) (m k : Nat) (f : InFlight) (st ov : Nat), s.hw.dealerUp = true → s.hw.cmdFor m k 0x0203 = some f → st
    = (s.hw.sgrp 0).step + (s.hw.sgrp 1).step * 4 + (s.hw.sgrp 2).step * 16 + (s.hw.sgrp 3).step * 64 → (List.range
    4).all (fun g => (s.hw.sgrp g).strad.isNone) = true → ov = min 65535 ((List.range 40).map (fun u => s.hw.get
    (R.SNS_CAP_CNT_OVR u))).sum → exec (.snsStatus m k) s = .next
    { s with hw := (s.hw.complete m k 0 0 (st + s.hw.get R.SNS_FLAGS_CLIP * 2 ^ 8 + ov * 2 ^ 16 + s.hw.rd R.SNS_CH_EN * 2 ^ 32)) }) ∧
  (∀ (s : State) (m k : Nat) (f : InFlight) (far bs : List Byte) (h : Hw) (e : Nat) (l : List (Nat × Nat × List
    Byte)), s.hw.dealerUp = true → s.hw.cmdFor m k 0x0300 = some f → f.par 8 8 < 2 ^ 48 → 32 ≤ f.par 16 4 →
    s.hw.dealerRead (f.par 8 8) (f.par 16 4) far = some (0, bs, h) → parseSig bs (f.par 16 4) = some (e, l) →
    h.sigWrong (f.par 0 2) (fun x => x == sgIDLE || x == sgFAULTED) = none → exec (.sigLoad m k far) s = .next
    { s with hw := (((bitList 16 (f.par 0 2)).foldl (fun (h : Hw) q => ((h.upCore q { l.foldl (fun x y => x.putBytes y.1 y.2.1 y.2.2) (h.core q) with xerr := false }).put (R.SIG_CORE_ENTRY_ENTRY q) e).setSstate q sgIDLE) h).complete m k 0 0 0) }) ∧
  (∀ (s : State) (m k : Nat) (f : InFlight), s.hw.dealerUp = true → s.hw.cmdFor m k 0x0301 = some f → sigTrigOk (f.par
    2 1) = true → f.par 2 1 ≠ 0 → f.par 3 1 < 3 → s.hw.sigWrong (f.par 0 2) (fun x => x == sgIDLE) = none → exec
    (.sigRun m k) s = .next
    { s with hw := (((bitList 16 (f.par 0 2)).foldl (fun (h : Hw) q => (((h.put (R.SIG_CORE_TRIG_TRIG q) (f.par 2 1)).put (R.SIG_CORE_TRIG_POLICY q) (f.par 3 1)).upCore q { ((h.put (R.SIG_CORE_TRIG_TRIG q) (f.par 2 1)).put (R.SIG_CORE_TRIG_POLICY q) (f.par 3 1)).core q with inq := [], pend := none, drops := 0 }).setSstate q sgARMED) s.hw).complete m k 0 0 0) }) ∧
  (∀ (s : State) (m k : Nat) (f : InFlight), s.hw.dealerUp = true → s.hw.cmdFor m k 0x0302 = some f → f.par 0 2 = 0 →
    exec (.sigStop m k) s = .next { s with hw := (s.hw.complete m k 0 0 0) }) ∧
  (∀ (s : State) (m k : Nat) (f : InFlight) (q : Nat), s.hw.dealerUp = true → s.hw.cmdFor m k 0x0302 = some f → q < 16
    → f.par 0 2 = 2 ^ q → exec (.sigStop m k) s = .next
    { s with hw := (((s.hw.begun m k).upCore q { s.hw.core q with inq := [], pend := none, stops := (s.hw.core q).stops ++ [32 * m + k] }).sigRetire q) }) ∧
  (∀ (s : State) (m k : Nat) (f : InFlight), s.hw.dealerUp = true → s.hw.cmdFor m k 0x0303 = some f → (List.range
    16).all (fun q => (s.hw.core q).pend.isNone) = true → exec (.sigStatus m k) s = .next
    { s with hw := (s.hw.complete m k 0 0 ((List.range 16).foldl (fun a q => a + s.hw.sstate q * 8 ^ q) 0)) })

/-- On a released seat: GFX_SUBMIT with a graphics partition whose first entry can be fetched makes it the frame that the
raster unit draws; DPY_MODE with a valid block and a trained link leaves the display ACTIVE in that mode and completes with
DPY_STAT; DPY_PLANE keeps a valid block for the next blanking and completes OK. GFX_STATUS completes with GFX_STAT and
DPY_STAT. With parameters in range: NET_PORT leaves the mode change to be made once the port is empty; NET_RULE with a slot
free completes with the rule's generation; NET_QUEUE of a closed ring sets its entries, base and indices and completes OK;
NET_SHAPER sets rate and bucket, and forgives the debt where asked; NET_PTP sets the PTP mode; NET_STATUS completes with
link, mode, error sum and received frames. -/
def Obligations.GraphicsAndNetworkCommands : Prop :=
  (∀ (s : State) (m k : Nat) (f : InFlight) (far : Memory) (r : GFrame × Hw), s.hw.dealerUp = true → s.hw.cmdFor m k
    0x0400 = some f → f.par 0 8 < 2 ^ 48 → f.par 8 4 % 32 = 0 → s.hw.is R.CFG_STAT_RELEASED = true → s.hw.gfxParts ≠
    [] → s.hw.fetchEntry ⟨m, k, f.par 0 8, f.par 8 4 / 32, 0, [], false, 0, 0, false, none, false, none⟩ 0 far = some
    r → exec (.gfxSubmit m k far) s = .next
    { s with hw := ((((r.2.begun m k).setFrame (some r.1)).gfxSettle r.1).gfxShow) }) ∧
  (∀ (s : State) (m k : Nat) (f : InFlight), s.hw.dealerUp = true → s.hw.cmdFor m k 0x0403 = some f → exec (.gfxStatus
    m k) s = .next { s with hw := (s.hw.complete m k 0 0 (s.hw.rd R.GFX_STAT + 2 ^ 32 * s.hw.rd R.DPY_STAT)) }) ∧
  (∀ (s : State) (m k : Nat) (f : InFlight) (far bs : List Byte) (h : Hw), s.hw.dealerUp = true → s.hw.cmdFor m k
    0x0401 = some f → f.par 0 8 < 2 ^ 48 → f.par 8 1 = 1 ∨ f.par 8 1 = 2 ∨ f.par 8 1 = 4 → f.par 9 1 ≤ 3 → s.hw.is
    R.CFG_STAT_RELEASED = true → s.hw.dealerRead (f.par 0 8) 32 far = some (0, bs, h) → timingOk bs (f.par 8 1) (f.par
    9 1) = true → h.get R.DPY_STAT_HPD ≠ 0 → ∃ t, exec (.dpyMode m k far true) s = .next t ∧ ∃ g : Hw, g =
    { (h.dpySet dACTIVE (f.par 8 1) (f.par 9 1)) with dpy := { (h.dpySet dACTIVE (f.par 8 1) (f.par 9 1)).dpy with mode := bs, lanes := f.par 8 1, rate := f.par 9 1 } }
    ∧ t.hw = g.complete m k 0 0 (g.rd R.DPY_STAT)) ∧
  (∀ (s : State) (m k : Nat) (f : InFlight) (far bs : List Byte) (h : Hw), s.hw.dealerUp = true → s.hw.cmdFor m k
    0x0402 = some f → f.par 0 1 ≤ 1 → f.par 8 8 < 2 ^ 48 → s.hw.is R.CFG_STAT_RELEASED = true → s.hw.dealerRead (f.par
    8 8) 32 far = some (0, bs, h) → planeOk (f.par 0 1) h.dpy.mode bs = true → exec (.dpyPlane m k far) s = .next
    { s with hw := (({ h with dpy := { h.dpy with next := SMap.ins h.dpy.next (f.par 0 1) (planeOf bs) } } : Hw).complete m k 0 0 0) }) ∧
  (∀ (s : State) (m k : Nat) (f : InFlight), s.hw.dealerUp = true → s.hw.cmdFor m k 0x0500 = some f → f.par 0 1 ≤ 1 →
    f.par 1 1 ≤ 2 → exec (.netPort m k) s = .next
    { s with hw := (((s.hw.begun m k).onPort (f.par 0 1) (fun p => { p with change := some (m, k, f.par 1 1) })).portDone (f.par 0 1)) }) ∧
  (∀ (s : State) (m k : Nat) (f : InFlight) (far bs : List Byte) (h g : Hw) (gen : Nat), s.hw.dealerUp = true →
    s.hw.cmdFor m k 0x0501 = some f → f.par 0 2 ≤ 2047 → f.par 8 8 < 2 ^ 48 → s.hw.dealerRead (f.par 8 8) 160 far =
    some (0, bs, h) → ruleOk bs = true → h.installRule (f.par 0 2) bs = some (gen, g) → exec (.netRule m k far) s =
    .next { s with hw := (g.complete m k 0 0 gen) }) ∧
  (∀ (s : State) (m k : Nat) (f : InFlight), s.hw.dealerUp = true → s.hw.cmdFor m k 0x0502 = some f → f.par 0 1 ≤ 1 →
    f.par 1 1 = 0 → f.par 2 1 ≤ 15 → f.par 8 8 % 32 = 0 → f.par 8 8 < 2 ^ 48 → ringSize (f.par 16 2) = true → s.hw.is
    (R.NET_P_RX_ENTRIES_ENTRIES (f.par 0 1) (f.par 2 1)) = false → exec (.netQueue m k) s = .next
    { s with hw := (((((s.hw.put (R.NET_P_RX_ENTRIES_ENTRIES (f.par 0 1) (f.par 2 1)) (f.par 16 2)).put (R.NET_P_RX_HEAD_HEAD (f.par 0 1) (f.par 2 1)) 0).put (R.NET_P_RX_TAIL_TAIL (f.par 0 1) (f.par 2 1)) 0).onPort (f.par 0 1) (fun p => { p with rxRing := NMap.set p.rxRing (f.par 2 1) (f.par 8 8) })).complete m k 0 0 0) }) ∧
  (∀ (s : State) (m k : Nat) (f : InFlight), s.hw.dealerUp = true → s.hw.cmdFor m k 0x0502 = some f → f.par 0 1 ≤ 1 →
    f.par 1 1 = 1 → f.par 2 1 ≤ 7 → f.par 8 8 % 32 = 0 → f.par 8 8 < 2 ^ 48 → ringSize (f.par 16 2) = true → s.hw.is
    (R.NET_P_TX_ENTRIES_ENTRIES (f.par 0 1) (f.par 2 1)) = false → exec (.netQueue m k) s = .next
    { s with hw := (((((s.hw.put (R.NET_P_TX_ENTRIES_ENTRIES (f.par 0 1) (f.par 2 1)) (f.par 16 2)).put (R.NET_P_TX_HEAD_HEAD (f.par 0 1) (f.par 2 1)) 0).put (R.NET_P_TX_TAIL_TAIL (f.par 0 1) (f.par 2 1)) 0).onPort (f.par 0 1) (fun p => { p with txRing := NMap.set p.txRing (f.par 2 1) (f.par 8 8) })).complete m k 0 0 0) }) ∧
  (∀ (s : State) (m k : Nat) (f : InFlight), s.hw.dealerUp = true → s.hw.cmdFor m k 0x0503 = some f → f.par 0 1 ≤ 1 →
    f.par 1 1 ≤ 7 → f.par 3 1 ≤ 1 → 1 ≤ f.par 4 2 → f.par 4 2 ≤ 10000 → f.par 8 4 ≤ 1048576 → exec (.netShaper m k) s
    = .next
    { s with hw := ((if f.par 3 1 = 1 then ((s.hw.setRate (f.par 0 1) (f.par 1 1) (f.par 4 2)).setBucket (f.par 0 1) (f.par 1 1) (f.par 8 4)).forgive (f.par 0 1) (f.par 1 1) else ((s.hw.setRate (f.par 0 1) (f.par 1 1) (f.par 4 2)).setBucket (f.par 0 1) (f.par 1 1) (f.par 8 4))).complete m k 0 0 0) }) ∧
  (∀ (s : State) (m k : Nat) (f : InFlight), s.hw.dealerUp = true → s.hw.cmdFor m k 0x0504 = some f → f.par 0 1 ≤ 1 →
    f.par 1 1 ≤ 2 → exec (.netPtp m k) s = .next
    { s with hw := ((s.hw.put (R.NET_P_CFG_PTP (f.par 0 1)) (f.par 1 1)).complete m k 0 0 0) }) ∧
  (∀ (s : State) (m k : Nat) (f : InFlight) (n e : Nat), s.hw.dealerUp = true → s.hw.cmdFor m k 0x0505 = some f → n =
    f.par 0 1 → n ≤ 1 → e = min 65535 (s.hw.get (R.NET_P_CNT_FCS_COUNT n) + s.hw.get (R.NET_P_CNT_DEEP_COUNT n) +
    s.hw.get (R.NET_P_CNT_LEN_COUNT n) + s.hw.get (R.NET_P_CNT_NOBUF_COUNT n)) → exec (.netStatus m k) s = .next
    { s with hw := (s.hw.complete m k 0 0 (s.hw.get (R.NET_P_STAT_LINK n) + 2 * s.hw.get (R.NET_P_STAT_AN_DONE n) + 4 * s.hw.get (R.NET_P_CFG_MODE n) + 2 ^ 16 * e + 2 ^ 32 * s.hw.get (R.NET_P_CNT_RX_OK_COUNT n))) })

/-- TBL_STATUS of a seat with no re-deal, not CUT, LATE or ISOLATED, completes with PRESENT, QUEUED, TIME_BAD, DONE sensed
low and the epoch. On a released seat: TBL_SPARE of partitions that are all OFF and not fused off, where the dummy slots
fit, sets SPARE and completes OK; TBL_SLEEP with no re-deal and no copy begins the announcement; TBL_TIME with OP 0
completes with table time, and with OP 1 on the time master steps table time by the signed amount and completes with the
stepped time, elsewhere ends WRONG_STATE, 3. -/
def Obligations.TableCommands : Prop :=
  (∀ (s : State) (m k : Nat) (f : InFlight) (high : Bool), s.hw.dealerUp = true → s.hw.cmdFor m k 0x0600 = some f →
    s.hw.tbl.redeal = none → s.hw.xstate < 5 → exec (.tblStatus m k high) s = .next
    { s with hw := (s.hw.complete m k 0 0 (s.hw.get R.TBL_STAT_PRESENT + 2 ^ 9 * s.hw.get R.TBL_STAT_QUEUED + 2 ^ 10 * s.hw.get R.TBL_STAT_TIME_BAD + 2 ^ 11 * b2n (!high) + 2 ^ 32 * s.hw.get R.TBL_EPOCH_EPOCH)) }) ∧
  (∀ (s : State) (m k : Nat) (f : InFlight), s.hw.dealerUp = true → s.hw.cmdFor m k 0x0601 = some f → s.hw.is
    R.CFG_STAT_RELEASED = true → s.hw.tbl.redeal = none → (bitList 16 (f.par 0 2)).any s.hw.fused = false → (bitList
    16 (f.par 0 2)).all (fun p => s.hw.pstate p == 0) = true → f.par 0 2 = 0 ∨ (32 ≤ s.hw.get R.TBL_MIRROR_SLOT ∧
    s.hw.slotMib 16 ≤ 32768) → exec (.tblSpare m k) s = .next
    { s with hw := ((s.hw.put R.TBL_SPARE_MASK (f.par 0 2)).complete m k 0 0 0) }) ∧
  (∀ (s : State) (m k : Nat) (f : InFlight), s.hw.dealerUp = true → s.hw.cmdFor m k 0x0602 = some f → s.hw.is
    R.CFG_STAT_RELEASED = true → s.hw.tbl.redeal = none → s.hw.copiesRun = false → exec (.tblSleep m k) s = .next
    { s with hw := (({ (s.hw.begun m k) with tbl := { s.hw.tbl with sleep := true, sleepCmd := some (m, k), sleepAns := [] } } : Hw).sleepCheck) }) ∧
  (∀ (s : State) (m k : Nat) (f : InFlight), s.hw.dealerUp = true → s.hw.cmdFor m k 0x0603 = some f → f.par 0 1 = 0 →
    s.hw.is R.CFG_STAT_RELEASED = true → exec (.tblTimeRead m k) s = .next
    { s with hw := (s.hw.complete m k 0 0 s.hw.clk.tt) }) ∧
  (∀ (s : State) (m k : Nat) (f : InFlight), s.hw.dealerUp = true → s.hw.cmdFor m k 0x0603 = some f → f.par 0 1 = 1 →
    s.hw.is R.CFG_STAT_RELEASED = true → s.hw.isMaster = true → exec (.tblTimeStep m k) s = .next
    { s with hw := ((s.hw.timeStep (sext 64 (f.par 8 8))).complete m k 0 0 (s.hw.timeStep (sext 64 (f.par 8 8))).clk.tt) }) ∧
  (∀ (s : State) (m k : Nat) (f : InFlight), s.hw.dealerUp = true → s.hw.cmdFor m k 0x0603 = some f → f.par 0 1 = 1 →
    s.hw.is R.CFG_STAT_RELEASED = true → s.hw.isMaster = false → exec (.tblTimeStep m k) s = .next
    { s with hw := (s.hw.complete m k 0x15 3 0) })

/-- SET_READ of an absent key completes with 0xFFFF. With no earlier MRAM command under way: SET_WRITE with room, FW_WRITE
of the slot that does not run, FW_SELECT of a qualified slot and FW_CONFIRM queue their MRAM writes and complete with them;
FW_SELECT of another slot ends WRONG_STATE with its state. LOG_READ of unpoisoned entries copies them to the host and
completes with the next index and the write index. SELF_TEST completes with a free value within the mask asked for. The
boot ROM without a qualified slot sets ROM_SVC. A pulse of a write-enabled region starts; the write to another is dropped
with WP set. A pulse's end leaves its 32 bytes in the MRAM, and the cycles that a fetch of its bank waited, at most 240,
are added to SYS_MRAM_STALL. -/
def Obligations.SettingsAndFirmware : Prop :=
  (∀ (s : State) (m k : Nat) (f : InFlight), s.hw.dealerUp = true → s.hw.cmdFor m k 0x0700 = some f → s.hw.valueOf
    (f.par 0 2) = none → exec (.setRead m k) s = .next { s with hw := (s.hw.logWalk.complete m k 0 0 0xFFFF) }) ∧
  (∀ (s : State) (m k : Nat) (f : InFlight) (bs : List Byte) (r q : Nat) (w : List MWrite), s.hw.dealerUp =
    true → s.hw.cmdFor m k 0x0701 = some f → s.hw.fw.cmd = none → f.par 0 2 ≠ 0 → f.par 0 2 ≠ 0xFFFF → f.par 16 4 ≤ 4064 → s.hw.unreadable
    s.hw.runSlot = 0 → s.hw.hostIn m k (f.par 16 4) = some bs → r = s.hw.runSlot → q = ((s.hw.regionWalk 0).1 ++
    (s.hw.regionWalk 1).1).foldl (fun (a : Nat) x => max a x.seq) 0 → s.hw.appendWrites r (f.par 0 2) (q + 1) bs = (w,
    false) → exec (.setWrite m k) s = .next { s with hw := (s.hw.logWalk.mramCmd m k w 0 0 (q + 1)) }) ∧
  (∀ (s : State) (m k : Nat) (f : InFlight) (bs : List Byte), s.hw.dealerUp = true → s.hw.cmdFor m k 0x0702
    = some f → s.hw.fw.cmd = none → f.par 0 1 ≤ 1 → f.par 0 1 ≠ s.hw.runSlot → f.par 4 4 % 32 = 0 → f.par 16 4 % 32 = 0 →
    f.par 4 4 + f.par 16 4 ≤ 0xFFFE0 → s.hw.hostIn m k (f.par 16 4) = some bs → exec (.fwWrite m k) s = .next
    { s with hw := (s.hw.mramCmd m k (if f.par 4 4 = 0 ∧ 0 < f.par 16 4 then groupWrites (slotBase (f.par 0 1) + f.par 4 4) bs ++ [ctlWriteOf (f.par 0 1) ⟨0, 0, false⟩] else groupWrites (slotBase (f.par 0 1) + f.par 4 4) bs) 0 0 0) }) ∧
  (∀ (s : State) (m k : Nat) (f : InFlight), s.hw.dealerUp = true → s.hw.cmdFor m k 0x0703 = some f → s.hw.fw.cmd = none → f.par 0 1 ≤ 1 →
    exec (.fwSelect m k) s = .next
    { s with hw := (if s.hw.slotState (f.par 0 1) = 5 then s.hw.mramCmd m k [ctlWriteOf (f.par 0 1) ⟨(s.hw.slotCtl (1 - f.par 0 1)).pref + 1, 0, false⟩] 0 0 ((s.hw.slotCtl (1 - f.par 0 1)).pref + 1) else s.hw.complete m k 0x15 (s.hw.slotState (f.par 0 1)) 0) }) ∧
  (∀ (s : State) (m k : Nat) (f : InFlight), s.hw.dealerUp = true → s.hw.cmdFor m k 0x0703 = some f → s.hw.fw.cmd = none → f.par 0 1 = 2 →
    exec (.fwConfirm m k) s = .next
    { s with hw := (s.hw.mramCmd m k [ctlWriteOf s.hw.runSlot { s.hw.slotCtl s.hw.runSlot with tries := 0, conf := true }] 0 0 0) }) ∧
  (∀ (s : State) (m k : Nat) (f : InFlight) (w : List Nat), s.hw.dealerUp = true → s.hw.cmdFor m k 0x0F00 = some f →
    f.par 0 2 ≤ 4095 → 1 ≤ f.par 2 2 → f.par 2 2 ≤ 4096 → s.hw.hostReady m k = true → w = logSlots (f.par 0 2) (f.par
    2 2) → w.any (fun e => poisonIn 32 s.hw.mem.kittyP (logBase + 32 * e) 32) = false → exec (.logRead m k) s = .next
    { s with hw := ((s.hw.hostOut m k (w.map (fun e => Mem.bytes s.hw.mem.kitty (logBase + 32 * e) 32)).flatten).complete m k 0 0 ((f.par 0 2 + f.par 2 2) % 4096 + 2 ^ 32 * s.hw.get R.ERR_LOG_WIDX_WIDX)) }) ∧
  (∀ (s : State) (m k : Nat) (f : InFlight), s.hw.dealerUp = true → s.hw.cmdFor m k 0x0F01 = some f → exec (.selfTest
    m k) s = .next { s with hw := ((s.hw.takeFree 32).2.complete m k 0 0 ((s.hw.takeFree 32).1 &&& f.par 0 4)) }) ∧
  (∀ (s : State), s.hw.dealerUp = true → s.hw.fw.boot = true → s.hw.slotState 0 ≠ 5 → s.hw.slotState 1 ≠ 5 → ∃ t, exec
    .bootSlotSelect s = .next t ∧ t.hw.is R.SYS_FW_STAT_ROM_SVC = true ∧ t.hw.fw.boot = false ∧ t.hw.mem = s.hw.mem ∧
    t.hw.tiles = s.hw.tiles) ∧
  (∀ (s : State) (waited : Bool) (w : MWrite) (l : List MWrite), s.hw.sysUp = true → s.hw.fw.q = w :: l →
    s.hw.fw.pulse = none → s.hw.rst.pend = none → mramBank w.group ≠ s.hw.runSlot ∨ s.hw.fw.last ≠ some (mramBank
    w.group) ∨ waited = true → s.hw.bitOf R.SYS_MRAM_CTL_WEN (wenBit w.group) = true → exec (.mramPulseStart waited) s
    = .next { s with hw := ({ s.hw with fw := { s.hw.fw with q := l, pulse := some w } }) }) ∧
  (∀ (s : State) (waited : Bool) (w : MWrite) (l : List MWrite), s.hw.sysUp = true → s.hw.fw.q = w :: l →
    s.hw.fw.pulse = none → s.hw.rst.pend = none → waited = true → s.hw.bitOf R.SYS_MRAM_CTL_WEN (wenBit w.group) =
    false → exec (.mramPulseStart waited) s = .next
    { s with hw := (({ s.hw with fw := { s.hw.fw with q := l } } : Hw).raise R.SYS_MRAM_ERR_WP 0) }) ∧
  (∀ (s : State) (w : MWrite), s.hw.fw.pulse = some w → s.hw.fw.cmd = none → s.hw.fw.shut = false → s.hw.tap.dbgWait =
    none → ∃ t, exec (.mramPulseDone none none) s = .next t ∧ t.hw.mem = { s.hw.mem with mram := Mem.write s.hw.mem.mram (32 * w.group) w.data } ∧ t.hw.fw.pulse = none ∧
    t.hw.regs = s.hw.regs ∧ t.hw.tiles = s.hw.tiles) ∧
  (∀ (s : State) (w : MWrite) (a n : Nat), s.hw.fw.pulse = some w → s.hw.fw.cmd = none → s.hw.fw.shut = false →
    s.hw.tap.dbgWait = none → mramBank (a / 32) = mramBank w.group → ∃ t, exec (.mramPulseDone none (some (a, n))) s =
    .next t ∧ t.hw.mem = { s.hw.mem with mram := Mem.write s.hw.mem.mram (32 * w.group) w.data } ∧ t.hw.get
    R.SYS_MRAM_STALL_COUNT = min 0xFFFFFFFF (s.hw.get R.SYS_MRAM_STALL_COUNT + min 240 n) ∧ t.hw.tiles = s.hw.tiles)

/-- The word at the PC of a running tile of a clocked partition, fetched without an error and not stopped at a breakpoint:
with a predicate that matches, no wait and no fault it commits as one step (a HALT apart); with a predicate that does not
match it is only counted and passed; where it waits for the stream engine it stays; an illegal word, and the first fault in
slot order, is taken as an exception where TEN = 1 and no handler runs. The cycles passed are counted in each case. A tile
that does not run does nothing. The oldest matrix operation's write-back leaves its entries in ACC and its flags set. -/
def Obligations.WideWords : Prop :=
  (∀ (s : State) (n c w : Nat), s.hw.coreUp = true → n < 512 → s.hw.tileClk (partOf n) = true → (s.hw.tile n).running
    = true → (s.hw.tile n).ctl.bken = false → (s.hw.tile n).ctl.pc < 1024 → w = (s.hw.tile n).word → illegal w
    (s.hw.tile n).ctl.intrap = none → (s.hw.tile n).p (wPred w) ≠ wNeg w → (s.hw.tile n).waits w = none → (s.hw.tile
    n).wFault w s.hw.seat (s.hw.sharesOf (partOf n)) = none → wOp w slC ≠ 0x0A → exec (.wideWord n c []) s = .next
    { s with hw := (s.hw.setTile n (((s.hw.tile n).commit w).cycles c .done)) }) ∧
  (∀ (s : State) (n c w : Nat), s.hw.coreUp = true → n < 512 → s.hw.tileClk (partOf n) = true → (s.hw.tile n).running
    = true → (s.hw.tile n).ctl.bken = false → (s.hw.tile n).ctl.pc < 1024 → w = (s.hw.tile n).word → illegal w
    (s.hw.tile n).ctl.intrap = none → (s.hw.tile n).p (wPred w) = wNeg w → exec (.wideWord n c []) s = .next
    { s with hw := (s.hw.setTile n ((s.hw.tile n).skip.cycles c .done)) }) ∧
  (∀ (s : State) (n c w : Nat), s.hw.coreUp = true → n < 512 → s.hw.tileClk (partOf n) = true → (s.hw.tile n).running
    = true → (s.hw.tile n).ctl.bken = false → (s.hw.tile n).ctl.pc < 1024 → w = (s.hw.tile n).word → illegal w
    (s.hw.tile n).ctl.intrap = none → (s.hw.tile n).p (wPred w) ≠ wNeg w → (s.hw.tile n).waits w = some .stream → exec
    (.wideWord n c []) s = .next { s with hw := (s.hw.setTile n ((s.hw.tile n).cycles c (.wait .stream))) }) ∧
  (∀ (s : State) (n c w : Nat) (e : Nat × Nat), s.hw.coreUp = true → n < 512 → s.hw.tileClk (partOf n) = true →
    (s.hw.tile n).running = true → (s.hw.tile n).ctl.bken = false → (s.hw.tile n).ctl.pc < 1024 → w = (s.hw.tile
    n).word → illegal w (s.hw.tile n).ctl.intrap = some e → (s.hw.tile n).ctl.ten = true → (s.hw.tile n).ctl.intrap =
    false → exec (.wideWord n c []) s = .next
    { s with hw := (s.hw.setTile n (((s.hw.tile n).except e.2 ⟨1, e.1, w % 2 ^ 64⟩).cycles c .fault)) }) ∧
  (∀ (s : State) (n c w : Nat) (e : Nat × TFault), s.hw.coreUp = true → n < 512 → s.hw.tileClk (partOf n) = true →
    (s.hw.tile n).running = true → (s.hw.tile n).ctl.bken = false → (s.hw.tile n).ctl.pc < 1024 → w = (s.hw.tile
    n).word → illegal w (s.hw.tile n).ctl.intrap = none → (s.hw.tile n).p (wPred w) ≠ wNeg w → (s.hw.tile n).waits w =
    none → (s.hw.tile n).wFault w s.hw.seat (s.hw.sharesOf (partOf n)) = some e → (s.hw.tile n).ctl.ten = true →
    (s.hw.tile n).ctl.intrap = false → exec (.wideWord n c []) s = .next
    { s with hw := (s.hw.setTile n (((s.hw.tile n).except e.1 e.2).cycles c .fault)) }) ∧
  (∀ (s : State) (n c : Nat) (es : List SramErr), s.hw.coreUp = true → (s.hw.tile n).running = false ∨ 512 ≤ n ∨
    s.hw.tileClk (partOf n) = false → exec (.wideWord n c es) s = .next { s with hw := (s.hw) }) ∧
  (∀ (s : State) (n : Nat) (o : MxuOp) (l : List MxuOp), s.hw.coreUp = true → n < 512 → s.hw.tileClk (partOf n) = true
    → (s.hw.tile n).mxu = o :: l → exec (.matrixWriteback n) s = .next
    { s with hw := (s.hw.setTile n ((({ s.hw.tile n with mxu := l } : Tile).setAccs o.dst ((o.res.map BitVec.toNat).zip o.poison)).flag o.flags)) })

/-- An exception writes TIL_EPC, TIL_CAUSE (code, slot, detail) and TIL_EVAL and leaves no matrix operation held. With
TEN = 1 outside a handler and outside a single step the tile continues at TIL_TVEC with INTRAP set; with TEN = 0 or inside
a handler it is FAULTED at its word, with HALT_WHY 7 inside a handler. General, predicate, vector, mode and descriptor
registers, the tile store, the instruction store and the stream engine are unchanged. (R561) -/
def Obligations.TileExceptions : Prop :=
  ∀ (t : Tile) (sl code detail ev : Nat), sl < 8 → code < 256 → detail < 65536 →
    (t.except sl ⟨code, detail, ev⟩).ctl.epc = t.ctl.pc % 1024 ∧
    (t.except sl ⟨code, detail, ev⟩).ctl.cause.toNat = code + 256 * sl + 65536 * detail ∧
    (t.except sl ⟨code, detail, ev⟩).ctl.eval = BitVec.ofNat 64 ev ∧
    (t.except sl ⟨code, detail, ev⟩).mxu = [] ∧
    (t.ctl.ten = true → t.ctl.intrap = false → t.ctl.step = false →
      (t.except sl ⟨code, detail, ev⟩).ctl.intrap = true ∧ (t.except sl ⟨code, detail, ev⟩).ctl.pc = t.ctl.tvec ∧
      (t.except sl ⟨code, detail, ev⟩).ctl.st = t.ctl.st) ∧
    ((t.ctl.ten = false ∨ t.ctl.intrap = true) →
      (t.except sl ⟨code, detail, ev⟩).ctl.st = .faulted ∧ (t.except sl ⟨code, detail, ev⟩).ctl.pc = t.ctl.pc ∧
      (t.except sl ⟨code, detail, ev⟩).ctl.intrap = t.ctl.intrap ∧
      (t.ctl.intrap = true → (t.except sl ⟨code, detail, ev⟩).ctl.why = 7)) ∧
    (t.except sl ⟨code, detail, ev⟩).regs = t.regs ∧ (t.except sl ⟨code, detail, ev⟩).str = t.str ∧
    (t.except sl ⟨code, detail, ev⟩).mem.ts = t.mem.ts ∧ (t.except sl ⟨code, detail, ev⟩).mem.imem = t.mem.imem

/-- For ADD, SUB, AND, OR, XOR, ANDN, MUL, MULHU, MINU, MAXU and MOV, the destination takes the result of g[RA] and
op2 modulo 2^64; for CEQ, CNE, CLTU and CGEU the destination predicate takes the comparison; the operands are those
before the word. Every other g and p register, the stores, the trap and counter registers and the stream engine keep
their values; a write of g0 or p0 changes nothing. -/
def Obligations.ScalarSlot : Prop :=
  ∀ (o t : Tile) (w sl : Nat),
    let x := wSlot w sl
    let a := o.g (sRA x)
    let b := o.op2 w sl
    (∀ (op : Nat) (f : Nat → Nat → Nat), wOp w sl = op →
      (op, f) ∈ [(0x01, fun a b => (a + b) % 2 ^ 64), (0x02, fun a b => (a + 2 ^ 64 - b) % 2 ^ 64), (0x03, fun a b => a &&& b),
        (0x04, fun a b => a ||| b), (0x05, fun a b => a ^^^ b), (0x06, fun a b => a &&& (2 ^ 64 - 1 - b)),
        (0x0C, fun a b => a * b % 2 ^ 64), (0x0E, fun a b => a * b / 2 ^ 64), (0x12, fun a b => min a b),
        (0x13, fun a b => max a b), (0x18, fun _ b => b)] →
      (sRD x ≠ 0 → (sApply o t w sl).g (sRD x) = f a b) ∧ (sRD x = 0 → sApply o t w sl = t) ∧
      (∀ r, r ≠ sRD x → (sApply o t w sl).g r = t.g r) ∧ (∀ r, (sApply o t w sl).p r = t.p r) ∧
      (sApply o t w sl).ctl = t.ctl ∧ (sApply o t w sl).mem = t.mem ∧ (sApply o t w sl).str = t.str ∧
      (sApply o t w sl).mxu = t.mxu) ∧
    (∀ (op : Nat) (f : Nat → Nat → Bool), wOp w sl = op →
      (op, f) ∈ [(0x20, fun a b => a == b), (0x21, fun a b => a != b), (0x23, fun a b => decide (a < b)),
        (0x25, fun a b => decide (b ≤ a))] →
      (sRD x ≠ 0 → (sApply o t w sl).p (sRD x) = f a b) ∧ (sRD x = 0 → sApply o t w sl = t) ∧
      (∀ r, r ≠ sRD x → (sApply o t w sl).p r = t.p r) ∧ (∀ r, (sApply o t w sl).g r = t.g r) ∧
      (sApply o t w sl).ctl = t.ctl ∧ (sApply o t w sl).mem = t.mem ∧ (sApply o t w sl).str = t.str ∧
      (sApply o t w sl).mxu = t.mxu)

/-- On a tile whose window answers: RUN on a tile not in RUN starts it with HALT_WHY 0, STEP the same for one word,
HALT on a running tile halts it with HALT_WHY 2; TIL_SEED on a tile not in RUN loads every lane LFSR. Nothing else
changes. -/
def Obligations.TileControl : Prop :=
  (∀ (s : State) (n : Nat), s.hw.coreUp = true → n < 512 → s.hw.fenced n = false → s.hw.tileClk (partOf n) = true →
    (s.hw.tile n).running = false → exec (.tilCtlRun n) s = .next
    { s with hw := (s.hw.onTile n (fun x => { x with ctl := { x.ctl with st := .run, why := 0, fresh := true, step := false, ckStop := false, arrived := none } })) }) ∧
  (∀ (s : State) (n : Nat), s.hw.coreUp = true → n < 512 → s.hw.fenced n = false → s.hw.tileClk (partOf n) = true →
    (s.hw.tile n).running = false → exec (.tilCtlStep n) s = .next
    { s with hw := (s.hw.onTile n (fun x => { x with ctl := { x.ctl with st := .run, why := 0, fresh := true, step := true, ckStop := false, arrived := none } })) }) ∧
  (∀ (s : State) (n : Nat), s.hw.coreUp = true → n < 512 → s.hw.fenced n = false → s.hw.tileClk (partOf n) = true →
    (s.hw.tile n).running = true → exec (.tilCtlHalt n) s = .next
    { s with hw := (s.hw.onTile n (fun x => { x with ctl := { x.ctl with st := .halted, why := 2, step := false, fresh := false, arrived := none } })) }) ∧
  (∀ (s : State) (n v : Nat), s.hw.coreUp = true → n < 512 → s.hw.fenced n = false → s.hw.tileClk (partOf n) = true →
    (s.hw.tile n).running = false → exec (.tilSeed n v) s = .next
    { s with hw := (s.hw.onTile n (fun x => x.loadSeed v)) })

/-- A permitted request of the chosen SSIGNAL is sent with a free tag and recorded as outstanding. A delivered response
whose bytes may be written is taken: its data or its error goes to its operation, and operations that are done leave the
engine. A valid layer-list entry enqueues its fill and moves to the next entry, LAST ending the walk. A valid descriptor
makes its fill ready. -/
def Obligations.TileStreams : Prop :=
  (∀ (s : State) (n : Nat) (o : SOp) (q : SReq) (r f : Nat) (h : Hw), s.hw.coreUp = true → (s.hw.tile n).pickOp false
    = some o → o.padded = true → o.kind = .signal → o.next? = some (q, r, f) → s.hw.niCheck n q.gaddr q.len (some
    (partOf n)) = (none, h) → h.tagFree n = true → (s.hw.pt (partOf n)).start = none → ∃ t, exec (.streamRequest n
    false) s = .next t ∧ t.hw = ((h.niSend n 2 q.gaddr q.len (h.prioOf n)
    (({ s.hw.tile n with str := { (s.hw.tile n).str with last := o.chan } } : Tile).storeData o q).1
    (({ s.hw.tile n with str := { (s.hw.tile n).str with last := o.chan } } : Tile).storeData o q).2).2.setTile n
    (({ s.hw.tile n with str := { (s.hw.tile n).str with last := o.chan } } : Tile).putOp o
    { o with row := r, off := f, out := o.out ++ [{ q with tag := h.freeTag n }] })).jobPrep (partOf n) (relOf n)) ∧
  (∀ (s : State) (n tag : Nat) (o : SOp) (q : SReq) (a : Arrived) (h : Hw), s.hw.coreUp = true → (s.hw.tile
    n).str.ops.findSome? (fun o => (o.out.find? (fun q => q.tag == tag)).map (fun q => (o, q))) = some (o, q) →
    s.hw.takeRsp n tag = some (a, h) → o.writesTs = false ∨ (s.hw.tile n).held q.ts q.len = false → exec
    (.streamResponse n tag) s = .next
    { s with hw := (h.setTile n (((s.hw.tile n).streamRsp o q a.status a.data a.poison).retireOps)) }) ∧
  (∀ (s : State) (n : Nat) (far bs : List Byte) (h : Hw), s.hw.coreUp = true → (s.hw.tile n).str.walking = true →
    (s.hw.tile n).str.stopped = false → (s.hw.tile n).fills.length < 16 → s.hw.engineRead n (s.hw.tile n).str.next 16
    far = (0, bs, false, h) → leAt bs 12 2 < 2 → leAt bs 14 2 = 0 → leAt bs 0 8 % 128 = 0 → leAt bs 0 8 < 2 ^ 48 →
    leAt bs 8 4 % 32 = 0 → 0x30000 ≤ leAt bs 8 4 → leAt bs 8 4 < 0x40000 → ∃ t, exec (.layerListRead n far) s = .next
    t ∧ (t.hw.tile n).str.ops = (s.hw.tile n).str.ops ++ [listFill (leAt bs 0 8) (leAt bs 8 4)] ∧ (t.hw.tile
    n).str.next = ((s.hw.tile n).str.next + 16) % 2 ^ 48 ∧ (t.hw.tile n).str.walking = !bit (leAt bs 12 2) 0) ∧
  (∀ (s : State) (n : Nat) (far bs : List Byte) (h : Hw) (o : SOp), s.hw.coreUp = true → (s.hw.tile n).str.ops.find?
    (fun o => o.kind == .fill && !o.ready) = some o → (s.hw.tile n).str.stopped = false → s.hw.engineRead n o.daddr
    128 far = (0, bs, false, h) → xCheck .spref ((List.range 16).map (fun w => leAt bs (8 * w) 8)) o.ts 0 h.seat ⟨h.is
    (R.PACE_BW_MODE (partOf n)), h.get (R.PACE_BW_READ (partOf n)), h.get (R.PACE_BW_WRITE (partOf n)), h.get
    (R.PACE_BW_REMOTE (partOf n))⟩ = none → exec (.prefetchFill n far) s = .next
    { s with hw := (h.setTile n ((s.hw.tile n).putOp o { o with desc := (List.range 16).map (fun w => leAt bs (8 * w) 8), ready := true })) })

/-- An RD or WR with a valid CRC to an unfenced tile of this seat that can serve it leaves the network and is served and
answered; an RD to an unfenced HBM port is handed to its controller. An RD_RSP or WR_RSP to an existing node leaves the
network and arrives at its NI. An interrupt packet is delivered to its node with its vector. A heartbeat of a present seat is
noted for that seat. A request whose response does not come in time is closed: its NI's inbox takes an ERROR, and the
timeout is reported. -/
def Obligations.NetworkPackets : Prop :=
  (∀ (s : State) (k : Nat) (ans : UAns) (p : Packet), s.hw.coreUp = true → s.hw.pkt? k = some p → p.op = 1 → p.crcBad
    = false → p.dstSeat = s.hw.seat → p.dstNode < 512 → s.hw.fenced p.dstNode = false → s.hw.gStatus p.addr p.bytes
    false = 0 → exec (.rd k false [] ans) s = .next { s with hw := ((s.hw.dropPkt k).storeServe p false) }) ∧
  (∀ (s : State) (k : Nat) (ans : UAns) (p : Packet), s.hw.coreUp = true → s.hw.pkt? k = some p → p.op = 1 → p.crcBad
    = false → p.dstSeat = s.hw.seat → 512 ≤ p.dstNode → p.dstNode < 576 → s.hw.fenced p.dstNode = false → exec (.rd k
    false [] ans) s = .next { s with hw := (s.hw.hbmServe k p false) }) ∧
  (∀ (s : State) (k : Nat) (ans : UAns) (p : Packet) (parity : Bool), s.hw.coreUp = true → s.hw.pkt? k = some p → p.op
    = 2 → p.crcBad = false → p.dstSeat = s.hw.seat → p.dstNode < 512 → s.hw.fenced p.dstNode = false → s.hw.gStatus
    p.addr p.bytes true = 0 → exec (.wr k false [] parity ans) s = .next
    { s with hw := ((s.hw.dropPkt k).storeServe p false) }) ∧
  (∀ (s : State) (k : Nat) (crc : Bool) (p : Packet), s.hw.coreUp = true → s.hw.pkt? k = some p → p.op = 0x81 →
    p.dstSeat = s.hw.seat → p.dstNode < 655 → exec (.rdRsp k crc) s = .next
    { s with hw := ((s.hw.dropPkt k).rspArrive { p with crcBad := p.crcBad || crc }) }) ∧
  (∀ (s : State) (k : Nat) (crc : Bool) (p : Packet), s.hw.coreUp = true → s.hw.pkt? k = some p → p.op = 0x82 →
    p.dstSeat = s.hw.seat → p.dstNode < 655 → exec (.wrRsp k crc) s = .next
    { s with hw := ((s.hw.dropPkt k).rspArrive { p with crcBad := p.crcBad || crc }) }) ∧
  (∀ (s : State) (k : Nat) (p : Packet), s.hw.coreUp = true → s.hw.pkt? k = some p → p.op = 0xC4 → p.dstSeat =
    s.hw.seat → p.crcBad = false → exec (.interrupt k false) s = .next
    { s with hw := ({ (s.hw.dropPkt k) with noc := { (s.hw.dropPkt k).noc with irq := (s.hw.dropPkt k).noc.irq ++ [(p.dstNode, bits p.aux 10 0)] } }) }) ∧
  (∀ (s : State) (k : Nat) (p : Packet), s.hw.coreUp = true → s.hw.pkt? k = some p → p.op = 0xC3 → p.dstSeat =
    s.hw.seat → p.dstNode = 647 → p.crcBad = false → s.hw.watching = true → s.hw.bitOf R.TBL_STAT_PRESENT (bits p.aux
    2 0) = true → s.hw.tbl.redeal = none → s.hw.tbl.sleepCmd = none → s.hw.is R.CFG_STAT_IDENT_OK = true → exec
    (.heartbeat k false none) s = .next
    { s with hw := ({ (s.hw.dropPkt k) with tbl := { s.hw.tbl with hb := SMap.set (fun _ => none) s.hw.tbl.hb (bits p.aux 2 0) (some ⟨bit p.aux 3, bit p.aux 4, bit p.aux 5, bits p.aux 47 16⟩) } }) }) ∧
  (∀ (s : State) (n tag : Nat) (o : Outst), s.hw.coreUp = true → 512 ≤ n → s.hw.noc.outst.find? (fun x => x.node == n
    && x.tag == tag && x.closed == .live) = some o → exec (.rspTimeout n tag) s = .next
    { s with hw := (({ s.hw with noc := { s.hw.noc with outst := s.hw.noc.outst.map (fun x => if x = o then { x with closed := .byTimeout } else x), inbox := s.hw.noc.inbox ++ [⟨n, tag, 1, [], []⟩] } } : Hw).errAddr eTIMEOUT 1 n o.addr) })

/-- NOC_FOLD_REQ requests a fold or an unfold of the partition or port it names, and has no effect for a partition above
15. FOLD_REQ stops an endpoint that may stop. OUT drained fences a port's node and moves it on; IN drained moves a node on;
FENCE_DONE is noted. FOLD_ACK of a port whose nodes are all done leaves it FOLDED. A fold timeout forces the fold of a
port. -/
def Obligations.Folds : Prop :=
  (∀ (s : State) (i : Nat) (pgate : Bool), s.hw.coreUp = true → i < 64 → s.hw.blkDown .noc R.NOC_FOLD_REQ = false →
    exec (.nocFold true i pgate) s = .next { s with hw := (s.hw.foldRequest (16 + i) false []) }) ∧
  (∀ (s : State) (i : Nat) (pgate : Bool), s.hw.coreUp = true → i < 16 → s.hw.blkDown .noc R.NOC_FOLD_REQ = false →
    exec (.nocFold false i pgate) s = .next { s with hw := (s.hw.foldRequest i pgate []) }) ∧
  (∀ (s : State) (i : Nat) (pgate : Bool), s.hw.coreUp = true → 16 ≤ i → i < 64 → s.hw.blkDown .noc R.NOC_FOLD_REQ =
    false → exec (.nocFold false i pgate) s = .next { s with hw := (s.hw) }) ∧
  (∀ (s : State) (i : Nat), s.hw.coreUp = true → i < 64 → s.hw.blkDown .noc R.NOC_FOLD_REQ = false → exec (.nocUnfold
    true i) s = .next { s with hw := (s.hw.unfoldReq (16 + i)) }) ∧
  (∀ (s : State) (i : Nat), s.hw.coreUp = true → i < 16 → s.hw.blkDown .noc R.NOC_FOLD_REQ = false → exec (.nocUnfold
    false i) s = .next { s with hw := (s.hw.unfoldReq i) }) ∧
  (∀ (s : State) (n : Nat), s.hw.coreUp = true → 512 ≤ n ∨ (s.hw.pstate (partOf n) ≠ 3 ∧ s.hw.ckBusy (partOf n) =
    false) → exec (.foldReq n) s = .next { s with hw := (s.hw.foldReqAt n) }) ∧
  (∀ (s : State) (n : Nat), s.hw.coreUp = true → 512 ≤ n → NSet.has (s.hw.fsm (regionOf n)).waitOut n = true →
    s.hw.outOf n = [] → exec (.foldOutDrained n) s = .next
    { s with hw := ((s.hw.setFsm (regionOf n) { s.hw.fsm (regionOf n) with waitOut := NSet.del (s.hw.fsm (regionOf n)).waitOut n, waitIn := NSet.add (s.hw.fsm (regionOf n)).waitIn n }).fenceSet n .fold true) }) ∧
  (∀ (s : State) (n : Nat), s.hw.coreUp = true → NSet.has (s.hw.fsm (regionOf n)).waitIn n = true →
    s.hw.noc.accepted.all (fun p => p.dstNode != n) = true → exec (.foldInDrained n) s = .next
    { s with hw := (s.hw.setFsm (regionOf n) { s.hw.fsm (regionOf n) with waitIn := NSet.del (s.hw.fsm (regionOf n)).waitIn n, waitDone := NSet.add (s.hw.fsm (regionOf n)).waitDone n }) }) ∧
  (∀ (s : State) (n : Nat), s.hw.coreUp = true → exec (.fenceDone n) s = .next
    { s with hw := (s.hw.setFsm (regionOf n) { s.hw.fsm (regionOf n) with waitDone := NSet.del (s.hw.fsm (regionOf n)).waitDone n }) }) ∧
  (∀ (s : State) (k : Nat), s.hw.coreUp = true → 16 ≤ k → s.hw.foldReady k = true → (s.hw.fsm k).forced = false →
    (s.hw.fsm k).held = false → (s.hw.fsm k).acks = [] → s.hw.pwr'.phase ≠ .folding → exec (.foldAck k) s = .next
    { s with hw := ((s.hw.setFsm k FoldSm.reset).setFoldStat k fFOLDED) }) ∧
  (∀ (s : State) (k : Nat), s.hw.coreUp = true → 16 ≤ k → s.hw.foldStat k = fFOLDING → (s.hw.fsm k).forced = false →
    exec (.foldTimeout k) s = .next { s with hw := ((s.hw.foldForce k).pwrSettle) })

/-- For every offset in the 32 GiB of a seat's memory, the local address is L = o[34:14], o[7:0], the pseudo channel
is the xor of the five fields of the hash and below 64, the local address is below 2^29 and the pair gives back the
offset; and every channel below 64 and local address below 2^29 is reached by exactly the offset computed from it.
(R741) -/
def Obligations.HbmMapping : Prop :=
  (∀ o, o < 2 ^ 35 → hbmLocal o = o / 2 ^ 14 * 2 ^ 8 + o % 2 ^ 8 ∧
      hbmChan o = (bits o 13 8 ^^^ bits o 19 14 ^^^ bits o 25 20 ^^^ bits o 31 26 ^^^ bits o 34 32) ∧ hbmChan o < 64 ∧ hbmLocal o < 2 ^ 29 ∧ hbmOffset (hbmChan o) (hbmLocal o) = o) ∧
    (∀ c l, c < 64 → l < 2 ^ 29 → hbmOffset c l < 2 ^ 35 ∧ hbmChan (hbmOffset c l) = c ∧ hbmLocal (hbmOffset c l) = l)

/-- With the memory clock running. BURST_ISSUE: of a pseudo channel that does not run, nothing changes; of one that
runs, the burst R743 chooses issues and the calendar slot of its direction moves on; with nothing queued nothing
changes. REFRESH of a running stack: all-bank closes every row; per bank moves the rotation on and leaves the queue,
the registers and the stored data. A refresh window clears trackers and lowers the throttle levels that did not trigger.
A throttle whose time has come ends. A row unused for 64 cycles closes. A stack with empty queues and PD_IDLE set enters
power-down. -/
def Obligations.MemoryController : Prop :=
  (∀ (s : State) (c par : Nat) (err : List (Nat × Nat)), s.hw.memUp = true → s.hw.pcRuns c = false → exec (.burstIssue
    c par err) s = .next { s with hw := (s.hw) }) ∧
  (∀ (s : State) (c par : Nat) (err : List (Nat × Nat)), s.hw.memUp = true → (s.hw.pcs c).q = [] → exec (.burstIssue
    c par err) s = .next { s with hw := (s.hw) }) ∧
  (∀ (s : State) (c par : Nat) (err : List (Nat × Nat)) (b : HBurst) (p : PcState), s.hw.memUp = true → s.hw.pcRuns c
    = true → p = { s.hw.calendars (s.hw.pcs c) with drain := s.hw.drainState c (s.hw.calendars (s.hw.pcs c)) } →
    s.hw.chooseBurst c p = some b → b.kind = .read → exec (.burstIssue c par err) s = .next
    { s with hw := ((s.hw.setPcs c { p with slotR := (p.slotR + 1) % 16 }).issueBurst c b par err) }) ∧
  (∀ (s : State) (c par : Nat) (err : List (Nat × Nat)) (b : HBurst) (p : PcState), s.hw.memUp = true → s.hw.pcRuns c
    = true → p = { s.hw.calendars (s.hw.pcs c) with drain := s.hw.drainState c (s.hw.calendars (s.hw.pcs c)) } →
    s.hw.chooseBurst c p = some b → b.kind ≠ .read → exec (.burstIssue c par err) s = .next
    { s with hw := ((s.hw.setPcs c { p with slotW := (p.slotW + 1) % 16 }).issueBurst c b par err) }) ∧
  (∀ (s : State) (c : Nat), s.hw.memUp = true → s.hw.memState (c / 32) = msRUN → s.hw.is (R.MEM_REF_CFG_MODE (c / 32))
    = true → exec (.refresh c) s = .next { s with hw := (s.hw.setPcs c { s.hw.pcs c with rows := [], due := [] }) }) ∧
  (∀ (s : State) (c : Nat), s.hw.memUp = true → s.hw.memState (c / 32) = msRUN → s.hw.is (R.MEM_REF_CFG_MODE (c / 32))
    = false → ∃ t, exec (.refresh c) s = .next t ∧ (t.hw.pcs c).rot = ((s.hw.pcs c).rot + 1) % 32 ∧ (t.hw.pcs c).q =
    (s.hw.pcs c).q ∧ t.hw.regs = s.hw.regs ∧ t.hw.mem = s.hw.mem) ∧
  (∀ (s : State) (st n : Nat), s.hw.memUp = true → n < 32 → ∃ t, exec (.refreshWindow st) s = .next t ∧ (t.hw.pcs (32
    * st + n)).trk = [] ∧ (t.hw.pcs (32 * st + n)).thr = (s.hw.pcs (32 * st + n)).thr.map (fun e =>
    { e with level := if e.trig then e.level else e.level - 1, trig := false }) ∧ t.hw.regs = s.hw.regs ∧ t.hw.mem =
    s.hw.mem) ∧
  (∀ (s : State) (c : Nat), s.hw.memUp = true → exec (.throttleEnd c) s = .next
    { s with hw := ((s.hw.setPcs c { s.hw.pcs c with thr := (s.hw.pcs c).thr.map (fun e => if e.till ≤ s.hw.clk.now then { e with active := false } else e) }).thrShow c) }) ∧
  (∀ (s : State) (c bank : Nat), s.hw.memUp = true → NMap.get (s.hw.pcs c).used bank + 640 ≤ s.hw.clk.now → exec
    (.rowClose c bank) s = .next
    { s with hw := (s.hw.setPcs c { s.hw.pcs c with rows := NMap.set (s.hw.pcs c).rows bank 0 }) }) ∧
  (∀ (s : State) (st : Nat), s.hw.memUp = true → s.hw.memState st = msRUN → s.hw.is (R.MEM_CTL_PD_IDLE st) = true →
    (List.range 32).all (fun n => (s.hw.pcs (32 * st + n)).q.isEmpty) = true → exec (.powerDown st) s = .next
    { s with hw := ({ s.hw with hbm := { s.hw.hbm with pdown := NSet.add s.hw.hbm.pdown st } }) })

/-- A temperature write clears TEMP_STALE, above 85 °C sets DERATED, below 83 °C clears it, and between leaves it; a
stale temperature sets TEMP_STALE, and the stack then refreshes at the derated intervals. A catastrophic output that
rises raises a fatal error and ALERT, and puts a running stack in self-refresh. Training that succeeds leaves the stack
in RUN and TRAINED with no failed attempt counted; a failed step starts a new attempt, and the third failure leads to
FAILED; a lane that fails leads to REPAIR_HOLD. A lane repair marks its lane group, with HARD = 1 for good, and trains
again from step 1. RETRAIN acts by the stack's state. -/
def Obligations.MemoryStacks : Prop :=
  (∀ (s : State) (st v : Nat), s.hw.sysUp = true → 85 * 16 < sext 16 v → exec (.memTempUpdate st v) s = .next
    { s with hw := (((s.hw.put (R.MEM_TEMP_TEMP st) v).putB (R.MEM_STAT_TEMP_STALE st) false).putB (R.MEM_STAT_DERATED st) true) }) ∧
  (∀ (s : State) (st v : Nat), s.hw.sysUp = true → sext 16 v < 83 * 16 → exec (.memTempUpdate st v) s = .next
    { s with hw := (((s.hw.put (R.MEM_TEMP_TEMP st) v).putB (R.MEM_STAT_TEMP_STALE st) false).putB (R.MEM_STAT_DERATED st) false) }) ∧
  (∀ (s : State) (st v : Nat), s.hw.sysUp = true → 83 * 16 ≤ sext 16 v → sext 16 v ≤ 85 * 16 → exec (.memTempUpdate st
    v) s = .next { s with hw := ((s.hw.put (R.MEM_TEMP_TEMP st) v).putB (R.MEM_STAT_TEMP_STALE st) false) }) ∧
  (∀ (s : State) (st : Nat), st < 2 → s.hw.sysUp = true → ∃ t, exec (.tempStale st) s = .next t ∧
    t = { s with hw := (s.hw.putB (R.MEM_STAT_TEMP_STALE st) true) } ∧ t.hw.refreshTimes st = (1950, 16000000, 61)) ∧
  (∀ (s : State) (st : Nat) (g : Hw), st < 2 → s.hw.asleep = false → NSet.has s.hw.err.alarm (3 + st) = false →
    g = (({ s.hw with err := { s.hw.err with alarm := NSet.put s.hw.err.alarm (3 + st) true } } : Hw).lastingOn eTHERMAL 2 nodeREG).raise R.ERR_ALERT_ALERT (1 + st) →
    exec (.hbmCatastrophicTemp st true) s = .next { s with hw := (if g.memState st = msRUN then g.selfRefresh st else g) }) ∧
  (∀ (s : State) (st : Nat) (g : Hw), s.hw.memUp = true → s.hw.memState st = msTRAINING → s.hw.pwr'.phase ≠ .exitRun →
    g = { s.hw.attempt st with hbm := { (s.hw.attempt st).hbm with fails := NMap.set (s.hw.attempt st).hbm.fails st 0, kept := NSet.del (s.hw.attempt st).hbm.kept st } } →
    exec (.trainingDone st none) s = .next
    { s with hw := ((((g.put (R.MEM_STAT_STATE st) msRUN).put (R.MEM_STAT_STEP st) 8).putB (R.MEM_STAT_TRAINED st) true).hbmOk) }) ∧
  (∀ (s : State) (st : Nat) (g : Hw), s.hw.memUp = true → s.hw.memState st = msTRAINING → s.hw.pwr'.phase ≠ .exitRun →
    NMap.get s.hw.hbm.fails st < 2 →
    g = { s.hw.attempt st with hbm := { s.hw.hbm with fails := NMap.set s.hw.hbm.fails st (NMap.get s.hw.hbm.fails st + 1) } } →
    exec (.trainingDone st (some none)) s = .next { s with hw := (g.trainStart st 1) }) ∧
  (∀ (s : State) (st : Nat) (g : Hw), s.hw.memUp = true → s.hw.memState st = msTRAINING → s.hw.pwr'.phase ≠ .exitRun →
    2 ≤ NMap.get s.hw.hbm.fails st →
    g = { s.hw.attempt st with hbm := { s.hw.hbm with fails := NMap.set s.hw.hbm.fails st (NMap.get s.hw.hbm.fails st + 1) } } →
    exec (.trainingDone st (some none)) s = .next { s with hw := (g.trainFailed st) }) ∧
  (∀ (s : State) (st n lane : Nat), st < 2 → n < 32 → lane < 64 → s.hw.memUp = true → s.hw.memState st = msTRAINING →
    s.hw.pwr'.phase ≠ .exitRun → NMap.get s.hw.hbm.fails st < 2 → NSet.has s.hw.hbm.soft (laneGroup st n lane) = false →
    NSet.has s.hw.hbm.hard (laneGroup st n lane) = false → ∃ t, exec (.trainingDone st (some (some (n, lane)))) s = .next t ∧
    t.hw.memState st = msHOLD ∧ t.hw.get (R.MEM_LANE_FAIL_PC st) = n ∧ t.hw.get (R.MEM_LANE_FAIL_LANE st) = lane) ∧
  (∀ (s : State) (st g : Nat), s.hw.dealerUp = true → s.hw.tapInternal = true → s.hw.tap.use ≠ some .repair →
    s.hw.memState st = msHOLD → s.hw.is (R.MEM_REPAIR_CFG_REQ st) = true → s.hw.is (R.MEM_REPAIR_CFG_HARD st) = false →
    g = laneGroup st (s.hw.get (R.MEM_LANE_FAIL_PC st)) (s.hw.get (R.MEM_LANE_FAIL_LANE st)) → exec (.laneRepair st) s = .next
    { s with hw := ((({ s.hw with hbm := { s.hw.hbm with soft := NSet.add s.hw.hbm.soft g } } : Hw).putB (R.MEM_REPAIR_CFG_REQ st) false).trainStart st 1) }) ∧
  (∀ (s : State) (st g : Nat), st < 2 → s.hw.dealerUp = true → s.hw.tapInternal = true → s.hw.tap.use ≠ some .repair →
    s.hw.memState st = msHOLD → s.hw.is (R.MEM_REPAIR_CFG_REQ st) = true → s.hw.is (R.MEM_REPAIR_CFG_HARD st) = true →
    g = laneGroup st (s.hw.get (R.MEM_LANE_FAIL_PC st)) (s.hw.get (R.MEM_LANE_FAIL_LANE st)) → exec (.laneRepair st) s = .next
    { s with hw := ((({ s.hw with hbm := { s.hw.hbm with soft := NSet.add s.hw.hbm.soft g, hard := NSet.add s.hw.hbm.hard g } } : Hw).putB (R.MEM_REPAIR_CFG_REQ st) false).trainStart st 1) }) ∧
  (∀ (s : State) (st : Nat), st < 2 → s.hw.blkDown .mem (R.MEM_CTL st) = false → ∃ t, exec (.retrain st) s = .next t ∧
    ∃ r, regDef? (R.MEM_CTL st) = some r ∧ t.hw = (s.hw.plainWrite r (R.MEM_CTL st) (setBit (s.hw.rd (R.MEM_CTL st)) 0
    true)).retrain st)

/-- An output sample of a group without enabled channels, or with the sensor node fenced, asleep or held, changes
nothing; one of a group with enabled channels runs every channel, then the beams, then ranging. A SOFT trigger of an
armed unit with TRIG 2 that does not run starts its sequence; of a running unit, POLICY 0 makes it pending, 1 restarts it
with the next block and 2 counts it as ignored. A completed block of a unit that moves WIDX triggers its signal cores. A
frame of a running wake detector is judged, and a declared wake is an event when enabled; a detector that does not run
changes nothing. -/
def Obligations.SensorFrontEnd : Prop :=
  (∀ (s : State) (g : Nat) (pdm : List Nat), s.hw.grpEn g = [] ∨ s.hw.snsRuns = false → exec (.snsOutputSample g pdm)
    s = .next { s with hw := (s.hw) }) ∧
  (∀ (s : State) (g : Nat) (pdm : List Nat) (r : Nat × Hw), s.hw.grpEn g ≠ [] → s.hw.snsRuns = true → (s.hw.is
    (R.SNS_GRP_CFG_AUTO g) = true ∨ (s.hw.sgrp g).strad ≠ none ∨ s.hw.get (R.SNS_GRP_CFG_STEP g) = (s.hw.sgrp g).step) → r = ((List.range (s.hw.grpEn g).length).zip (s.hw.grpEn g)).foldl (fun (a : Nat ×
    Hw) e => (max a.1 (a.2.chanSample g e.2 (a.2.pdmSeen (e.2 / 2) (listAt 0 pdm e.1))).1, (a.2.chanSample g e.2 (a.2.pdmSeen (e.2 / 2) (listAt 0 pdm e.1))).2)) (0,
    s.hw) → exec (.snsOutputSample g pdm) s = .next
    { s with hw := (((List.range 8).foldl (fun (h : Hw) u => h.beamStep g u) r.2).ranging g r.1) }) ∧
  (∀ (s : State) (u : Nat), u < 40 → s.hw.blkDown .sns R.SNS_TRIG_LO = false → s.hw.snsRuns = true → s.hw.get
    (R.SNS_CAP_CTL_TRIG u) = 2 → s.hw.is (R.SNS_CAP_STAT_ARMED u) = true → s.hw.is (R.SNS_CAP_STAT_RUN u) = false → exec
    (.snsTrig (2 ^ u)) s = .next { s with hw := ((s.hw.capStart u false).holdLow R.SNS_TRIG_LO none) }) ∧
  (∀ (s : State) (u : Nat), u < 40 → s.hw.blkDown .sns R.SNS_TRIG_LO = false → s.hw.snsRuns = true → s.hw.get
    (R.SNS_CAP_CTL_TRIG u) = 2 → s.hw.is (R.SNS_CAP_STAT_ARMED u) = true → s.hw.is (R.SNS_CAP_STAT_RUN u) = true →
    s.hw.get (R.SNS_CAP_CTL_POLICY u) = 0 → s.hw.is (R.SNS_CAP_STAT_PEND u) = false → exec
    (.snsTrig (2 ^ u)) s = .next { s with hw := ((s.hw.put (R.SNS_CAP_STAT_PEND u) 1).holdLow R.SNS_TRIG_LO none) }) ∧
  (∀ (s : State) (u : Nat), u < 40 → s.hw.blkDown .sns R.SNS_TRIG_LO = false → s.hw.snsRuns = true → s.hw.get
    (R.SNS_CAP_CTL_TRIG u) = 2 → s.hw.is (R.SNS_CAP_STAT_ARMED u) = true → s.hw.is (R.SNS_CAP_STAT_RUN u) = true →
    s.hw.get (R.SNS_CAP_CTL_POLICY u) = 1 → exec
    (.snsTrig (2 ^ u)) s = .next { s with hw := ((s.hw.setCap u { s.hw.cap u with again := true }).holdLow R.SNS_TRIG_LO none) }) ∧
  (∀ (s : State) (u : Nat), u < 40 → s.hw.blkDown .sns R.SNS_TRIG_LO = false → s.hw.snsRuns = true → s.hw.get
    (R.SNS_CAP_CTL_TRIG u) = 2 → s.hw.is (R.SNS_CAP_STAT_ARMED u) = true → s.hw.is (R.SNS_CAP_STAT_RUN u) = true →
    2 ≤ s.hw.get (R.SNS_CAP_CTL_POLICY u) → exec
    (.snsTrig (2 ^ u)) s = .next { s with hw := ((s.hw.bump (R.SNS_CAP_CNT_IGN u)).holdLow R.SNS_TRIG_LO none) }) ∧
  (∀ (s : State) (u : Nat) (farOk : Bool) (h : Hw), s.hw.sysUp = true → s.hw.capComplete u farOk = (true, h) → exec
    (.captureBlockComplete u farOk) s = .next
    { s with hw := (h.sigFire (8 + u) (h.get (R.SNS_CAP_WIDX_WIDX u) - 1)) }) ∧
  (∀ (s : State) (pdm : List Nat) (b : Bool) (h : Hw), s.hw.is R.SNS_WAKE_STAT_RUN = true → s.hw.wakeFrame pdm = (b,
    h) → exec (.wakeFrame pdm) s = .next
    { s with hw := (if (b && h.is R.PWR_WAKE_CFG_AW_EN) = true then h.wakeEvent 0 else h) }) ∧
  (∀ (s : State) (pdm : List Nat), s.hw.is R.SNS_WAKE_STAT_RUN = false → exec (.wakeFrame pdm) s = .next
    { s with hw := (s.hw) })

/-- The oldest trigger on its way to an ARMED core leaves the way and starts its run: the core stands at ENTRY with r0
the trigger's time, r1 its value, no loop active, and is in RUN. One that meets a run is kept pending (POLICY 0, none
pending), counted as overrun (POLICY 0, one pending), restarts the core (POLICY 1) or is counted as ignored (POLICY 2 or
3). SIG_SOFT sends a trigger towards a core with TRIG 1. A halted core without transfers and without a transfer error
ends its run IDLE (TRIG 0) or ARMED; with a transfer error it faults with code 6. A good response to a core's PUT or SIGNAL closes
its request. A write of SIG_COREk_MDATA outside P stores the word at WORD, and a write or a read advances WORD. -/
def Obligations.SignalRuns : Prop :=
  (∀ (s : State) (k : Nat) (x : SigTrig) (l : List SigTrig), s.hw.sysUp = true → (s.hw.core k).inq = x :: l →
    s.hw.sstate k = 1 → exec (.sigTrigger k) s = .next
    { s with hw := ((s.hw.setCore k { s.hw.core k with inq := l }).sigStart k x) }) ∧
  (∀ (s : State) (k : Nat) (x : SigTrig) (l : List SigTrig), s.hw.sysUp = true → k < 16 → (s.hw.core k).inq = x :: l →
    s.hw.sstate k = 2 → s.hw.get (R.SIG_CORE_TRIG_POLICY k) = 0 → (s.hw.core k).pend = none → exec (.sigTrigger k) s =
    .next { s with hw := (s.hw.upCore k { s.hw.core k with inq := l, pend := some x }) }) ∧
  (∀ (s : State) (k : Nat) (x y : SigTrig) (l : List SigTrig), s.hw.sysUp = true → k < 16 → (s.hw.core k).inq = x :: l →
    s.hw.sstate k = 2 → s.hw.get (R.SIG_CORE_TRIG_POLICY k) = 0 → (s.hw.core k).pend = some y → exec (.sigTrigger k) s =
    .next { s with hw := ((s.hw.setCore k { s.hw.core k with inq := l, drops := (s.hw.core k).drops + 1 }).bump (R.SIG_CORE_CNT_OVR k)) }) ∧
  (∀ (s : State) (k : Nat) (x : SigTrig) (l : List SigTrig), s.hw.sysUp = true → (s.hw.core k).inq = x :: l →
    s.hw.sstate k = 2 → s.hw.get (R.SIG_CORE_TRIG_POLICY k) = 1 → exec (.sigTrigger k) s = .next
    { s with hw := ((s.hw.setCore k { s.hw.core k with inq := l }).sigStart k x) }) ∧
  (∀ (h : Hw) (k : Nat) (x : SigTrig), k < 16 → (h.sigStart k x).sstate k = 2 ∧ ((h.sigStart k x).core k).pc = h.get
    (R.SIG_CORE_ENTRY_ENTRY k) ∧ ((h.sigStart k x).core k).rr 0 = x.time % 2 ^ 64 ∧ ((h.sigStart k x).core k).rr 1 = x.r1
    % 2 ^ 64 ∧ ((h.sigStart k x).core k).loops = []) ∧
  (∀ (s : State) (k : Nat) (x : SigTrig) (l : List SigTrig), s.hw.sysUp = true → (s.hw.core k).inq = x :: l →
    s.hw.sstate k = 2 → 2 ≤ s.hw.get (R.SIG_CORE_TRIG_POLICY k) → exec (.sigTrigger k) s = .next
    { s with hw := ((s.hw.setCore k { s.hw.core k with inq := l }).bump (R.SIG_CORE_CNT_IGN k)) }) ∧
  (∀ (s : State) (k : Nat), k < 16 → s.hw.blkDown .sig R.SIG_SOFT = false → s.hw.get (R.SIG_CORE_TRIG_TRIG k) = 1 →
    exec (.sigSoft (2 ^ k)) s = .next
    { s with hw := (s.hw.setCore k { s.hw.core k with inq := (s.hw.core k).inq ++ [⟨s.hw.clk.tt, 0⟩] }) }) ∧
  (∀ (s : State) (k cyc : Nat), s.hw.sysUp = true → s.hw.sstate k = 2 → (s.hw.core k).halted = true → (s.hw.core
    k).xfers = [] → (s.hw.core k).xerr = false → exec (.sigRunEnd k cyc) s = .next
    { s with hw := (s.hw.sigEnds k (if s.hw.get (R.SIG_CORE_TRIG_TRIG k) = 0 then 0 else 1) cyc) }) ∧
  (∀ (s : State) (k cyc : Nat), s.hw.sysUp = true → s.hw.sstate k = 2 → (s.hw.core k).halted = true → (s.hw.core
    k).xfers = [] → (s.hw.core k).xerr = true → exec (.sigRunEnd k cyc) s = .next { s with hw := (s.hw.sigFault k 6 cyc) }) ∧
  (∀ (s : State) (tag k : Nat) (x : SigXfer) (a : Arrived) (h : Hw), s.hw.sysUp = true → (List.range 16).find? (fun c
    => (s.hw.core c).xfers.any (fun y => y.reqs.any (fun q => q.tag == tag))) = some k → (s.hw.core k).xfers = [x] →
    x.kind ≠ .get → s.hw.takeRsp 643 tag = some (a, h) → a.status = 0 → a.poison.all (fun b => !b) = true → exec
    (.sigTransferResponse tag) s = .next
    { s with hw := ((h.setCore k { s.hw.core k with xfers := [{ x with reqs := x.reqs.filter (fun q => q.tag != tag) }] }).sigRetire k) }) ∧
  (∀ (s : State) (k v : Nat), k < 16 → s.hw.blkDown .sig (R.SIG_CORE_MDATA k) = false → s.hw.get (R.SIG_CORE_MADDR_MEM
    k) ≠ 0 → s.hw.get (R.SIG_CORE_MADDR_WORD k) < sigWords (s.hw.get (R.SIG_CORE_MADDR_MEM k)) → exec (.sigCorekMdata
    k (some v)) s = .next
    { s with hw := ((s.hw.setCore k ((s.hw.core k).setWord (s.hw.get (R.SIG_CORE_MADDR_MEM k)) (s.hw.get (R.SIG_CORE_MADDR_WORD k)) (v % 2 ^ 32))).put (R.SIG_CORE_MADDR_WORD k) (s.hw.get (R.SIG_CORE_MADDR_WORD k) + 1)) }) ∧
  (∀ (s : State) (k : Nat), k < 16 → s.hw.blkDown .sig (R.SIG_CORE_MDATA k) = false → exec (.sigCorekMdata k none) s =
    .next { s with hw := (s.hw.put (R.SIG_CORE_MADDR_WORD k) (s.hw.get (R.SIG_CORE_MADDR_WORD k) + 1)) })

/-- A core in RUN that stands at a legal floating-point instruction without moves writes f[D] with the operation's
result (FMAC and FMSC fused and rounded once, FABS and FNEG on the sign alone), FCMP writes LT, EQ and UN, NOP writes
nothing, the flag events join SIG_COREk_FLAGS, and the core goes on after the instruction (`SigCore.fall`). An FMAC with
moves whose C-bus access is in range runs its operation and its moves as one. -/
def Obligations.SignalArithmetic : Prop :=
  (∀ (s : State) (k cyc w : Nat), s.hw.sysUp = true → s.hw.sstate k = 2 → (s.hw.core k).halted = false → (s.hw.core
    k).stops = [] → (s.hw.core k).pc ≤ 2047 → w = (s.hw.core k).instr → iIllegal w = false → iOP w = 0x01 → w < 2 ^ 24
    → exec (.fmac k cyc) s = .next
    { s with hw := ((s.hw.upCore k ((s.hw.core k).setF (iD w) (sgFma false ((s.hw.core k).fr (iA w)) ((s.hw.core k).fr (iB w)) ((s.hw.core k).fr (iC w))).1).fall).sigFlags k (sgFma false ((s.hw.core k).fr (iA w)) ((s.hw.core k).fr (iB w)) ((s.hw.core k).fr (iC w))).2.mask) }) ∧
  (∀ (s : State) (k cyc w : Nat), s.hw.sysUp = true → s.hw.sstate k = 2 → (s.hw.core k).halted = false → (s.hw.core
    k).stops = [] → (s.hw.core k).pc ≤ 2047 → w = (s.hw.core k).instr → iIllegal w = false → iOP w = 0x02 → w < 2 ^ 24
    → exec (.fmsc k cyc) s = .next
    { s with hw := ((s.hw.upCore k ((s.hw.core k).setF (iD w) (sgFma true ((s.hw.core k).fr (iA w)) ((s.hw.core k).fr (iB w)) ((s.hw.core k).fr (iC w))).1).fall).sigFlags k (sgFma true ((s.hw.core k).fr (iA w)) ((s.hw.core k).fr (iB w)) ((s.hw.core k).fr (iC w))).2.mask) }) ∧
  (∀ (s : State) (k cyc w : Nat), s.hw.sysUp = true → s.hw.sstate k = 2 → (s.hw.core k).halted = false → (s.hw.core
    k).stops = [] → (s.hw.core k).pc ≤ 2047 → w = (s.hw.core k).instr → iIllegal w = false → iOP w = 0x03 → w < 2 ^ 24
    → exec (.fmul k cyc) s = .next
    { s with hw := ((s.hw.upCore k ((s.hw.core k).setF (iD w) (sgArith 0x03 ((s.hw.core k).fr (iA w)) ((s.hw.core k).fr (iB w))).1).fall).sigFlags k (sgArith 0x03 ((s.hw.core k).fr (iA w)) ((s.hw.core k).fr (iB w))).2.mask) }) ∧
  (∀ (s : State) (k cyc w : Nat), s.hw.sysUp = true → s.hw.sstate k = 2 → (s.hw.core k).halted = false → (s.hw.core
    k).stops = [] → (s.hw.core k).pc ≤ 2047 → w = (s.hw.core k).instr → iIllegal w = false → iOP w = 0x04 → w < 2 ^ 24
    → exec (.fadd k cyc) s = .next
    { s with hw := ((s.hw.upCore k ((s.hw.core k).setF (iD w) (sgArith 0x04 ((s.hw.core k).fr (iA w)) ((s.hw.core k).fr (iB w))).1).fall).sigFlags k (sgArith 0x04 ((s.hw.core k).fr (iA w)) ((s.hw.core k).fr (iB w))).2.mask) }) ∧
  (∀ (s : State) (k cyc w : Nat), s.hw.sysUp = true → s.hw.sstate k = 2 → (s.hw.core k).halted = false → (s.hw.core
    k).stops = [] → (s.hw.core k).pc ≤ 2047 → w = (s.hw.core k).instr → iIllegal w = false → iOP w = 0x05 → w < 2 ^ 24
    → exec (.fsub k cyc) s = .next
    { s with hw := ((s.hw.upCore k ((s.hw.core k).setF (iD w) (sgArith 0x05 ((s.hw.core k).fr (iA w)) ((s.hw.core k).fr (iB w))).1).fall).sigFlags k (sgArith 0x05 ((s.hw.core k).fr (iA w)) ((s.hw.core k).fr (iB w))).2.mask) }) ∧
  (∀ (s : State) (k cyc w : Nat), s.hw.sysUp = true → s.hw.sstate k = 2 → (s.hw.core k).halted = false → (s.hw.core
    k).stops = [] → (s.hw.core k).pc ≤ 2047 → w = (s.hw.core k).instr → iIllegal w = false → iOP w = 0x08 → w < 2 ^ 24
    → exec (.fmin k cyc) s = .next
    { s with hw := ((s.hw.upCore k ((s.hw.core k).setF (iD w) (laneMinMax false fmtFP32 ((s.hw.core k).fr (iA w)) ((s.hw.core k).fr (iB w))).1).fall).sigFlags k (laneMinMax false fmtFP32 ((s.hw.core k).fr (iA w)) ((s.hw.core k).fr (iB w))).2.mask) }) ∧
  (∀ (s : State) (k cyc w : Nat), s.hw.sysUp = true → s.hw.sstate k = 2 → (s.hw.core k).halted = false → (s.hw.core
    k).stops = [] → (s.hw.core k).pc ≤ 2047 → w = (s.hw.core k).instr → iIllegal w = false → iOP w = 0x09 → w < 2 ^ 24
    → exec (.fmax k cyc) s = .next
    { s with hw := ((s.hw.upCore k ((s.hw.core k).setF (iD w) (laneMinMax true fmtFP32 ((s.hw.core k).fr (iA w)) ((s.hw.core k).fr (iB w))).1).fall).sigFlags k (laneMinMax true fmtFP32 ((s.hw.core k).fr (iA w)) ((s.hw.core k).fr (iB w))).2.mask) }) ∧
  (∀ (s : State) (k cyc w : Nat), s.hw.sysUp = true → s.hw.sstate k = 2 → (s.hw.core k).halted = false → (s.hw.core
    k).stops = [] → (s.hw.core k).pc ≤ 2047 → w = (s.hw.core k).instr → iIllegal w = false → iOP w = 0x0C → w < 2 ^ 24
    → exec (.fcvtf k cyc) s = .next
    { s with hw := ((s.hw.upCore k ((s.hw.core k).setF (iD w) (sgToQ ((s.hw.core k).fr (iA w))).1).fall).sigFlags k (sgToQ ((s.hw.core k).fr (iA w))).2.mask) }) ∧
  (∀ (s : State) (k cyc w : Nat), s.hw.sysUp = true → s.hw.sstate k = 2 → (s.hw.core k).halted = false → (s.hw.core
    k).stops = [] → (s.hw.core k).pc ≤ 2047 → w = (s.hw.core k).instr → iIllegal w = false → iOP w = 0x0D → w < 2 ^ 24
    → exec (.frcp k cyc) s = .next
    { s with hw := ((s.hw.upCore k ((s.hw.core k).setF (iD w) (approx 2 ((s.hw.core k).fr (iA w))).1).fall).sigFlags k (approx 2 ((s.hw.core k).fr (iA w))).2.mask) }) ∧
  (∀ (s : State) (k cyc w : Nat), s.hw.sysUp = true → s.hw.sstate k = 2 → (s.hw.core k).halted = false → (s.hw.core
    k).stops = [] → (s.hw.core k).pc ≤ 2047 → w = (s.hw.core k).instr → iIllegal w = false → iOP w = 0x0E → w < 2 ^ 24
    → exec (.frsqrt k cyc) s = .next
    { s with hw := ((s.hw.upCore k ((s.hw.core k).setF (iD w) (approx 3 ((s.hw.core k).fr (iA w))).1).fall).sigFlags k (approx 3 ((s.hw.core k).fr (iA w))).2.mask) }) ∧
  (∀ (s : State) (k cyc w : Nat), s.hw.sysUp = true → s.hw.sstate k = 2 → (s.hw.core k).halted = false → (s.hw.core
    k).stops = [] → (s.hw.core k).pc ≤ 2047 → w = (s.hw.core k).instr → iIllegal w = false → iOP w = 0x06 → w < 2 ^ 24
    → exec (.fabs k cyc) s = .next
    { s with hw := ((s.hw.upCore k ((s.hw.core k).setF (iD w) (((s.hw.core k).fr (iA w)) % 2 ^ 31)).fall).sigFlags k 0) }) ∧
  (∀ (s : State) (k cyc w : Nat), s.hw.sysUp = true → s.hw.sstate k = 2 → (s.hw.core k).halted = false → (s.hw.core
    k).stops = [] → (s.hw.core k).pc ≤ 2047 → w = (s.hw.core k).instr → iIllegal w = false → iOP w = 0x07 → w < 2 ^ 24
    → exec (.fneg k cyc) s = .next
    { s with hw := ((s.hw.upCore k ((s.hw.core k).setF (iD w) (((s.hw.core k).fr (iA w)) ^^^ 2 ^ 31)).fall).sigFlags k 0) }) ∧
  (∀ (s : State) (k cyc w : Nat), s.hw.sysUp = true → s.hw.sstate k = 2 → (s.hw.core k).halted = false → (s.hw.core
    k).stops = [] → (s.hw.core k).pc ≤ 2047 → w = (s.hw.core k).instr → iIllegal w = false → iOP w = 0x0B → w < 2 ^ 24
    → exec (.fcvtq k cyc) s = .next
    { s with hw := ((s.hw.upCore k ((s.hw.core k).setF (iD w) (sgFromQ ((s.hw.core k).fr (iA w)))).fall).sigFlags k 0) }) ∧
  (∀ (s : State) (k cyc w : Nat), s.hw.sysUp = true → s.hw.sstate k = 2 → (s.hw.core k).halted = false → (s.hw.core
    k).stops = [] → (s.hw.core k).pc ≤ 2047 → w = (s.hw.core k).instr → iIllegal w = false → iOP w = 0x0A → w < 2 ^ 24
    → exec (.fcmp k cyc) s = .next
    { s with hw := ((s.hw.upCore k (SigCore.fall { s.hw.core k with un := (ofFP32 ((s.hw.core k).fr (iA w))).1.isNan || (ofFP32 ((s.hw.core k).fr (iB w))).1.isNan, lt := (ofFP32 ((s.hw.core k).fr (iA w))).1.lt (ofFP32 ((s.hw.core k).fr (iB w))).1, eq := (ofFP32 ((s.hw.core k).fr (iA w))).1.eq (ofFP32 ((s.hw.core k).fr (iB w))).1 })).sigFlags k ((ofFP32 ((s.hw.core k).fr (iA w))).2.or (ofFP32 ((s.hw.core k).fr (iB w))).2).mask) }) ∧
  (∀ (s : State) (k cyc w : Nat), s.hw.sysUp = true → s.hw.sstate k = 2 → (s.hw.core k).halted = false → (s.hw.core
    k).stops = [] → (s.hw.core k).pc ≤ 2047 → w = (s.hw.core k).instr → iIllegal w = false → iOP w = 0x00 → w < 2 ^ 24
    → exec (.nop (.core k) cyc) s = .next { s with hw := ((s.hw.upCore k (s.hw.core k).fall).sigFlags k 0) }) ∧
  (∀ (s : State) (k cyc w : Nat), s.hw.sysUp = true → s.hw.sstate k = 2 → (s.hw.core k).halted = false → (s.hw.core
    k).stops = [] → (s.hw.core k).pc ≤ 2047 → w = (s.hw.core k).instr → iIllegal w = false → iOP w = 0x01 → (s.hw.core
    k).cRange w = false → exec (.fmac k cyc) s = .next { s with hw := (s.hw.sigOp k w) })

/-- A core in RUN that stands at a legal word. Integer instructions write r[D] modulo 2^64 and go on; ICMP writes LT
and EQ and clears UN; SETA, MOVA and MOVR set and read address generators; LOOP starts a loop, or with a count of 0 goes
on after its body, and faults LOOP_DEPTH; BR, JMP and CALL go to their target, CALL pushes the return index and RET pops
it, and both fault with code 5 on a full or an empty stack; HALT without a transfer error halts the core; WAITT goes on
where no transfer is outstanding and stays where one is; GET and PUT of 1 to 4,096 words send their requests and SIGNAL
joins the core's transfers; a transfer at an address that is not a multiple of 4 faults with code 1. -/
def Obligations.SignalIntegersAndControl : Prop :=
  (∀ (s : State) (k cyc w : Nat), s.hw.sysUp = true → s.hw.sstate k = 2 → (s.hw.core k).halted = false → (s.hw.core
    k).stops = [] → (s.hw.core k).pc ≤ 2047 → w = (s.hw.core k).instr → iIllegal w = false → iOP w = 0x20 → exec
    (.iadd k cyc) s = .next
    { s with hw := (s.hw.upCore k ((s.hw.core k).setR (iD w) ((((s.hw.core k).rr (iA w)) + ((s.hw.core k).rr (iB w))) % 2 ^ 64)).fall) }) ∧
  (∀ (s : State) (k cyc w : Nat), s.hw.sysUp = true → s.hw.sstate k = 2 → (s.hw.core k).halted = false → (s.hw.core
    k).stops = [] → (s.hw.core k).pc ≤ 2047 → w = (s.hw.core k).instr → iIllegal w = false → iOP w = 0x21 → exec
    (.isub k cyc) s = .next
    { s with hw := (s.hw.upCore k ((s.hw.core k).setR (iD w) ((((s.hw.core k).rr (iA w)) + 2 ^ 64 - ((s.hw.core k).rr (iB w))) % 2 ^ 64)).fall) }) ∧
  (∀ (s : State) (k cyc w : Nat), s.hw.sysUp = true → s.hw.sstate k = 2 → (s.hw.core k).halted = false → (s.hw.core
    k).stops = [] → (s.hw.core k).pc ≤ 2047 → w = (s.hw.core k).instr → iIllegal w = false → iOP w = 0x22 → exec
    (.iand k cyc) s = .next
    { s with hw := (s.hw.upCore k ((s.hw.core k).setR (iD w) (((s.hw.core k).rr (iA w)) &&& ((s.hw.core k).rr (iB w)))).fall) }) ∧
  (∀ (s : State) (k cyc w : Nat), s.hw.sysUp = true → s.hw.sstate k = 2 → (s.hw.core k).halted = false → (s.hw.core
    k).stops = [] → (s.hw.core k).pc ≤ 2047 → w = (s.hw.core k).instr → iIllegal w = false → iOP w = 0x23 → exec (.ior
    k cyc) s = .next
    { s with hw := (s.hw.upCore k ((s.hw.core k).setR (iD w) (((s.hw.core k).rr (iA w)) ||| ((s.hw.core k).rr (iB w)))).fall) }) ∧
  (∀ (s : State) (k cyc w : Nat), s.hw.sysUp = true → s.hw.sstate k = 2 → (s.hw.core k).halted = false → (s.hw.core
    k).stops = [] → (s.hw.core k).pc ≤ 2047 → w = (s.hw.core k).instr → iIllegal w = false → iOP w = 0x24 → exec
    (.ishl k cyc) s = .next
    { s with hw := (s.hw.upCore k ((s.hw.core k).setR (iD w) (((s.hw.core k).rr (iA w)) * 2 ^ (((s.hw.core k).rr (iB w)) % 64) % 2 ^ 64)).fall) }) ∧
  (∀ (s : State) (k cyc w : Nat), s.hw.sysUp = true → s.hw.sstate k = 2 → (s.hw.core k).halted = false → (s.hw.core
    k).stops = [] → (s.hw.core k).pc ≤ 2047 → w = (s.hw.core k).instr → iIllegal w = false → iOP w = 0x25 → exec
    (.ishr k cyc) s = .next
    { s with hw := (s.hw.upCore k ((s.hw.core k).setR (iD w) (((s.hw.core k).rr (iA w)) / 2 ^ (((s.hw.core k).rr (iB w)) % 64))).fall) }) ∧
  (∀ (s : State) (k cyc w : Nat), s.hw.sysUp = true → s.hw.sstate k = 2 → (s.hw.core k).halted = false → (s.hw.core
    k).stops = [] → (s.hw.core k).pc ≤ 2047 → w = (s.hw.core k).instr → iIllegal w = false → iOP w = 0x26 → exec
    (.imov k cyc) s = .next
    { s with hw := (s.hw.upCore k ((s.hw.core k).setR (iD w) (wrapI 64 (sext 36 (iIMM w)))).fall) }) ∧
  (∀ (s : State) (k cyc w : Nat), s.hw.sysUp = true → s.hw.sstate k = 2 → (s.hw.core k).halted = false → (s.hw.core
    k).stops = [] → (s.hw.core k).pc ≤ 2047 → w = (s.hw.core k).instr → iIllegal w = false → iOP w = 0x2A → exec
    (.movr k cyc) s = .next
    { s with hw := (s.hw.upCore k ((s.hw.core k).setR (iD w) ((s.hw.core k).ar (iA w))).fall) }) ∧
  (∀ (s : State) (k cyc w : Nat), s.hw.sysUp = true → s.hw.sstate k = 2 → (s.hw.core k).halted = false → (s.hw.core
    k).stops = [] → (s.hw.core k).pc ≤ 2047 → w = (s.hw.core k).instr → iIllegal w = false → iOP w = 0x27 → exec
    (.icmp k cyc) s = .next
    { s with hw := (s.hw.upCore k (SigCore.fall { s.hw.core k with un := false, lt := decide (sext 64 ((s.hw.core k).rr (iA w)) < sext 64 ((s.hw.core k).rr (iB w))), eq := ((s.hw.core k).rr (iA w)) == ((s.hw.core k).rr (iB w)) })) }) ∧
  (∀ (s : State) (k cyc w : Nat), s.hw.sysUp = true → s.hw.sstate k = 2 → (s.hw.core k).halted = false → (s.hw.core
    k).stops = [] → (s.hw.core k).pc ≤ 2047 → w = (s.hw.core k).instr → iIllegal w = false → iOP w = 0x28 → exec
    (.seta k cyc) s = .next
    { s with hw := (s.hw.upCore k (((s.hw.core k).setGen (iD w) ⟨bits (iIMM w) 12 0, bits (iIMM w) 26 13, sext 7 (bits (iIMM w) 33 27), bits (iIMM w) 35 34⟩).setA (iD w) (bits (iIMM w) 12 0)).fall) }) ∧
  (∀ (s : State) (k cyc w : Nat), s.hw.sysUp = true → s.hw.sstate k = 2 → (s.hw.core k).halted = false → (s.hw.core
    k).stops = [] → (s.hw.core k).pc ≤ 2047 → w = (s.hw.core k).instr → iIllegal w = false → iOP w = 0x29 → exec
    (.mova k cyc) s = .next
    { s with hw := (s.hw.upCore k ((s.hw.core k).setA (iD w) ((s.hw.core k).rr (iA w))).fall) }) ∧
  (∀ (s : State) (k cyc w : Nat) (c : SigCore), s.hw.sysUp = true → s.hw.sstate k = 2 → (s.hw.core k).halted = false →
    (s.hw.core k).stops = [] → (s.hw.core k).pc ≤ 2047 → w = (s.hw.core k).instr → iIllegal w = false → iOP w = 0x40 →
    (s.hw.core k).loop w = some c → exec (.loop k cyc) s = .next { s with hw := (s.hw.upCore k c) }) ∧
  (∀ (s : State) (k cyc w : Nat), s.hw.sysUp = true → s.hw.sstate k = 2 → (s.hw.core k).halted = false → (s.hw.core
    k).stops = [] → (s.hw.core k).pc ≤ 2047 → w = (s.hw.core k).instr → iIllegal w = false → iOP w = 0x41 → exec
    (.sigBr k cyc) s = .next
    { s with hw := (s.hw.upCore k (if (s.hw.core k).cond (iD w) = true then (s.hw.core k).jump (bits (iIMM w) 10 0) else (s.hw.core k).fall)) }) ∧
  (∀ (s : State) (k cyc w : Nat), s.hw.sysUp = true → s.hw.sstate k = 2 → (s.hw.core k).halted = false → (s.hw.core
    k).stops = [] → (s.hw.core k).pc ≤ 2047 → w = (s.hw.core k).instr → iIllegal w = false → iOP w = 0x42 → exec
    (.sigJmp k cyc) s = .next { s with hw := (s.hw.upCore k ((s.hw.core k).jump (bits (iIMM w) 10 0))) }) ∧
  (∀ (s : State) (k cyc w : Nat), s.hw.sysUp = true → s.hw.sstate k = 2 → (s.hw.core k).halted = false → (s.hw.core
    k).stops = [] → (s.hw.core k).pc ≤ 2047 → w = (s.hw.core k).instr → iIllegal w = false → iOP w = 0x43 → (s.hw.core
    k).stack.length < 4 → exec (.sigCall k cyc) s = .next
    { s with hw := (s.hw.upCore k { (s.hw.core k).jump (bits (iIMM w) 10 0) with stack := ((s.hw.core k).pc + 1) :: (s.hw.core k).stack }) }) ∧
  (∀ (s : State) (k cyc w : Nat) (r : Nat) (l : List Nat), s.hw.sysUp = true → s.hw.sstate k = 2 → (s.hw.core
    k).halted = false → (s.hw.core k).stops = [] → (s.hw.core k).pc ≤ 2047 → w = (s.hw.core k).instr → iIllegal w =
    false → iOP w = 0x44 → (s.hw.core k).stack = r :: l → exec (.ret k cyc) s = .next
    { s with hw := (s.hw.upCore k { s.hw.core k with stack := l, pc := r }) }) ∧
  (∀ (s : State) (k cyc w : Nat), s.hw.sysUp = true → s.hw.sstate k = 2 → (s.hw.core k).halted = false → (s.hw.core
    k).stops = [] → (s.hw.core k).pc ≤ 2047 → w = (s.hw.core k).instr → iIllegal w = false → iOP w = 0x44 → (s.hw.core
    k).stack = [] → exec (.ret k cyc) s = .next { s with hw := (s.hw.sigFault k 5 cyc) }) ∧
  (∀ (s : State) (k cyc w : Nat), s.hw.sysUp = true → s.hw.sstate k = 2 → (s.hw.core k).halted = false → (s.hw.core
    k).stops = [] → (s.hw.core k).pc ≤ 2047 → w = (s.hw.core k).instr → iIllegal w = false → iOP w = 0x45 → (s.hw.core
    k).xerr = false → exec (.sigHalt k cyc) s = .next
    { s with hw := (s.hw.upCore k { s.hw.core k with halted := true }) }) ∧
  (∀ (s : State) (k cyc w : Nat), s.hw.sysUp = true → s.hw.sstate k = 2 → (s.hw.core k).halted = false → (s.hw.core
    k).stops = [] → (s.hw.core k).pc ≤ 2047 → w = (s.hw.core k).instr → iIllegal w = false → iOP w = 0x46 → (s.hw.core
    k).xfers = [] → (s.hw.core k).xerr = false → exec (.waitt k cyc) s = .next
    { s with hw := (s.hw.upCore k (s.hw.core k).fall) }) ∧
  (∀ (s : State) (k cyc w : Nat) (a n m : Nat) (l : List SigReq) (h : Hw), s.hw.sysUp = true → s.hw.sstate k = 2 →
    (s.hw.core k).halted = false → (s.hw.core k).stops = [] → (s.hw.core k).pc ≤ 2047 → w = (s.hw.core k).instr →
    iIllegal w = false → iOP w = 0x60 → a = ((s.hw.core k).rr (iA w)) % 2 ^ 48 → a % 4 = 0 → (s.hw.core
    k).xfers.length < 8 → n = (if bits (iIMM w) 11 0 = 0 then 4096 else bits (iIMM w) 11 0) → m = bits (iIMM w) 13 12 → (s.hw.core k).ar (iB w) + n ≤
    sigWords m → (s.hw.noc.outst.filter (fun o => o.node == 643)).length + (pieces a (4 * n)).length ≤ 4096 →
    s.hw.sigSend k false m a ((s.hw.core k).ar (iB w)) n = (l, h) → exec (.get k cyc) s = .next
    { s with hw := ((h.upCore k (SigCore.fall { h.core k with xfers := (s.hw.core k).xfers ++ [⟨.get, m, a, 0, false, l⟩] })).sigRetire k) }) ∧
  (∀ (s : State) (k cyc w : Nat) (a n m : Nat) (l : List SigReq) (h : Hw), s.hw.sysUp = true → s.hw.sstate k = 2 →
    (s.hw.core k).halted = false → (s.hw.core k).stops = [] → (s.hw.core k).pc ≤ 2047 → w = (s.hw.core k).instr →
    iIllegal w = false → iOP w = 0x61 → a = ((s.hw.core k).rr (iA w)) % 2 ^ 48 → a % 4 = 0 → (s.hw.core
    k).xfers.length < 8 → n = (if bits (iIMM w) 11 0 = 0 then 4096 else bits (iIMM w) 11 0) → m = bits (iIMM w) 13 12 → (s.hw.core k).ar (iB w) + n ≤
    sigWords m → (s.hw.noc.outst.filter (fun o => o.node == 643)).length + (pieces a (4 * n)).length ≤ 4096 →
    s.hw.sigSend k true m a ((s.hw.core k).ar (iB w)) n = (l, h) → exec (.put k cyc) s = .next
    { s with hw := ((h.upCore k (SigCore.fall { h.core k with xfers := (s.hw.core k).xfers ++ [⟨.put, m, a, 0, false, l⟩] })).sigRetire k) }) ∧
  (∀ (s : State) (k cyc w : Nat) (a : Nat), s.hw.sysUp = true → s.hw.sstate k = 2 → (s.hw.core k).halted = false →
    (s.hw.core k).stops = [] → (s.hw.core k).pc ≤ 2047 → w = (s.hw.core k).instr → iIllegal w = false → iOP w = 0x62 →
    a = ((s.hw.core k).rr (iA w)) % 2 ^ 48 → a % 4 = 0 → (s.hw.core k).xfers.length < 8 → exec (.signal k cyc) s =
    .next
    { s with hw := ((s.hw.upCore k (SigCore.fall { s.hw.core k with xfers := (s.hw.core k).xfers ++ [⟨.signal, 0, a, ((s.hw.core k).rr (iB w)), true, []⟩] })).sigRetire k) }) ∧
  (∀ (s : State) (k cyc w : Nat), s.hw.sysUp = true → s.hw.sstate k = 2 → (s.hw.core k).halted = false → (s.hw.core k).stops = [] → (s.hw.core k).pc ≤ 2047 → w = (s.hw.core k).instr → iIllegal w = false →
    iOP w = 0x60 → (s.hw.core k).rr (iA w) % 2 ^ 48 % 4 ≠ 0 → (s.hw.core k).xfers.length < 8 → exec (.get k cyc) s = .next
    { s with hw := (s.hw.sigFault k 1 cyc) }) ∧
  (∀ (s : State) (k cyc w : Nat), s.hw.sysUp = true → s.hw.sstate k = 2 → (s.hw.core k).halted = false → (s.hw.core k).stops = [] → (s.hw.core k).pc ≤ 2047 → w = (s.hw.core k).instr → iIllegal w = false →
    iOP w = 0x61 → (s.hw.core k).rr (iA w) % 2 ^ 48 % 4 ≠ 0 → (s.hw.core k).xfers.length < 8 → exec (.put k cyc) s = .next
    { s with hw := (s.hw.sigFault k 1 cyc) }) ∧
  (∀ (s : State) (k cyc w : Nat), s.hw.sysUp = true → s.hw.sstate k = 2 → (s.hw.core k).halted = false → (s.hw.core k).stops = [] → (s.hw.core k).pc ≤ 2047 → w = (s.hw.core k).instr → iIllegal w = false →
    iOP w = 0x62 → (s.hw.core k).rr (iA w) % 2 ^ 48 % 4 ≠ 0 → (s.hw.core k).xfers.length < 8 → exec (.signal k cyc) s = .next
    { s with hw := (s.hw.sigFault k 1 cyc) }) ∧
  (∀ (s : State) (k cyc w : Nat), s.hw.sysUp = true → s.hw.sstate k = 2 → (s.hw.core k).halted = false → (s.hw.core k).stops = [] → (s.hw.core k).pc ≤ 2047 → w = (s.hw.core k).instr → iIllegal w = false →
    iOP w = 0x40 → (s.hw.core k).loop w = none → exec (.loop k cyc) s = .next { s with hw := (s.hw.sigFault k 4 cyc) }) ∧
  (∀ (s : State) (k cyc w n : Nat), s.hw.sysUp = true → s.hw.sstate k = 2 → (s.hw.core k).halted = false → (s.hw.core k).stops = [] → (s.hw.core k).pc ≤ 2047 → w = (s.hw.core k).instr → iIllegal w = false →
    iOP w = 0x40 → (s.hw.core k).loops = [] → n = (if bit (iIMM w) 35 = true then (s.hw.core k).rr (iA w) % 2 ^ 32 else bits (iIMM w) 15 0) →
    n ≠ 0 → exec (.loop k cyc) s = .next
    { s with hw := (s.hw.upCore k { s.hw.core k with loops := [⟨(s.hw.core k).pc + 1, (s.hw.core k).pc + bits (iIMM w) 26 16, n⟩], pc := (s.hw.core k).pc + 1 }) }) ∧
  (∀ (s : State) (k cyc w n : Nat), s.hw.sysUp = true → s.hw.sstate k = 2 → (s.hw.core k).halted = false → (s.hw.core k).stops = [] → (s.hw.core k).pc ≤ 2047 → w = (s.hw.core k).instr → iIllegal w = false →
    iOP w = 0x40 → (s.hw.core k).loops = [] → n = (if bit (iIMM w) 35 = true then (s.hw.core k).rr (iA w) % 2 ^ 32 else bits (iIMM w) 15 0) →
    n = 0 → exec (.loop k cyc) s = .next
    { s with hw := (s.hw.upCore k { s.hw.core k with pc := (s.hw.core k).pc + bits (iIMM w) 26 16 + 1 }) }) ∧
  (∀ (s : State) (k cyc w : Nat), s.hw.sysUp = true → s.hw.sstate k = 2 → (s.hw.core k).halted = false → (s.hw.core k).stops = [] → (s.hw.core k).pc ≤ 2047 → w = (s.hw.core k).instr → iIllegal w = false →
    iOP w = 0x43 → 4 ≤ (s.hw.core k).stack.length → exec (.sigCall k cyc) s = .next { s with hw := (s.hw.sigFault k 5 cyc) }) ∧
  (∀ (s : State) (k cyc w : Nat), s.hw.sysUp = true → s.hw.sstate k = 2 → (s.hw.core k).halted = false → (s.hw.core k).stops = [] → (s.hw.core k).pc ≤ 2047 → w = (s.hw.core k).instr → iIllegal w = false →
    iOP w = 0x46 → (s.hw.core k).xfers ≠ [] → exec (.waitt k cyc) s = .next { s with hw := (s.hw) })

/-- A valid PASS entry outside a pass whose block reads whole starts its pass and fetches the next entry: tiled in mode
0, and in mode 2 where its history is not valid or within the budget. A valid SHADER entry whose image reads whole and
is good is copied to the graphics partitions, and the next entry is fetched. A DRAW entry that was interrupted goes on
where it stopped; a new one whose descriptor reads whole, is good and has no samplers joins the pass's draws and goes on
with its triangles. The first waiting bin job of a pass without targets starts on the longest-waiting tile. With room
in the ring, a job's next wave record is written. A job whose records are all written, and whose shader has halted
where it has any, stores its bin. -/
def Obligations.FrameEntries : Prop :=
  (∀ (s : State) (far : Memory) (f : GFrame) (bs : List Byte) (h g : Hw) (p : GPass), s.hw.coreUp = true →
    s.hw.entryFor 1 = some f → f.pass = none → entryOk f.ent = true → s.hw.gfxRead (leAt f.ent 8 8) 256 far = some (0,
    bs, h) → p = ⟨bs, true, [], [], 0, false, 0, 0, [], [], false, [], 0, [], false, h.hbmSettle.mem.hbm,
    h.hbmSettle.mem.kitty⟩ → passOk p = true → h.hbmSettle.nextEntry
    { f with pass := some { p with tiled := p.mode == 0 || (p.mode == 2 && (!(h.hbmSettle.is (R.GFX_AUTO_HIST_VALID p.id)) || decide (h.hbmSettle.get (R.GFX_AUTO_HIST_DEMAND p.id) ≤ p.budget))) } }
    far = some g → exec (.pass far) s = .next { s with hw := (g.gfxShow) }) ∧
  (∀ (s : State) (far : Memory) (f : GFrame) (bs : List Byte) (h g : Hw), s.hw.coreUp = true → s.hw.entryFor 2 = some
    f → entryOk f.ent = true → 32 ≤ leAt f.ent 0x10 4 → leAt f.ent 0x10 4 ≤ 32 + 65536 + 32768 → s.hw.gfxRead (leAt
    f.ent 8 8) (leAt f.ent 0x10 4) far = some (0, bs, h) → shaderOk bs (leAt f.ent 0x10 4) = true → h.nextEntry f far
    = some g → exec (.shader far) s = .next
    { s with hw := (g.gfxParts.foldl (fun (h : Hw) q => h.copyShader q bs) ({ g with gfx := { g.gfx with image := some bs, have_ := [] } } : Hw)) }) ∧
  (∀ (s : State) (far : Memory) (f : GFrame) (p : GPass), s.hw.coreUp = true → s.hw.entryFor 3 = some f → f.pass =
    some p → f.inDraw = true → exec (.draw far) s = .next { s with hw := (s.hw.drawRun f p far) }) ∧
  (∀ (s : State) (far : Memory) (f : GFrame) (p : GPass) (img : List Byte) (j : GJob) (js : List GJob) (n : Nat),
    s.hw.coreUp = true → s.hw.gfx.frame = some f → s.hw.gfx.image = some img → f.pass = some p → p.jobs = j :: js →
    s.hw.jobTile p img = some n → p.tgts = [] → exec (.binJobStart far) s = .next
    { s with hw := (s.hw.jobGo p j js n img []) }) ∧
  (∀ (s : State) (n : Nat) (far : Memory) (farOk : Bool) (f : GFrame) (p : GPass) (j : GJob) (w : GWave) (d : GDraw),
    s.hw.coreUp = true → s.hw.gfx.frame = some f → f.pass = some p → p.run.find? (fun j => j.tile == n) = some j →
    j.waves[j.sent]? = some w → j.sent + 1 ≤ ofLe ((s.hw.tile n).tsRead 0x19410 4) + 4 → s.hw.hbmWaits = false →
    p.draws[w.draw]? = some d → exec (.waveRecordWrite n far farOk) s = .next
    { s with hw := (s.hw.waveWrite p j w d n far farOk) }) ∧
  (∀ (s : State) (n : Nat) (farOk : Bool) (f : GFrame) (p : GPass) (j : GJob), s.hw.coreUp = true → s.hw.gfx.frame =
    some f → f.pass = some p → p.run.find? (fun j => j.tile == n) = some j → j.sent = j.waves.length → j.waves = [] ∨
    ((s.hw.tile n).ctl.st = .halted ∧ (s.hw.tile n).ctl.why = 1) → s.hw.hbmWaits = false → exec (.binJobStore n farOk)
    s = .next { s with hw := (s.hw.jobStore p j n farOk) }) ∧
  (∀ (s : State) (far : Memory) (f : GFrame) (p : GPass) (bs : List Byte) (h : Hw), s.hw.coreUp = true →
    s.hw.entryFor 3 = some f → f.pass = some p → f.inDraw = false → entryOk f.ent = true → s.hw.gfxRead (leAt f.ent 8 8) 128
    far = some (0, bs, h) → leAt bs 0x1B 1 = 0 → drawOk p ⟨bs, []⟩ = true → exec (.draw far) s = .next
    { s with hw := (h.drawRun f { p with draws := p.draws ++ [⟨bs, []⟩] } far) })

/-- GFX_AUTO_CLR clears the VALID bit of the history written 1. A folding graphics partition that no bin job runs on is
released to the Fold. Blanking of an active display brings pending plane settings into effect. An underflow of an active
display sets UNDERFLOW, and poisoned data reports GRAPHICS 2 too. An unplug shows NO_SINK, a plug OFF, and each posts
LINK_CHANGE. A short pulse of a plugged sink sets HPD_IRQ; where the link of an active display is lost it trains again,
to ACTIVE or TRAIN_FAIL. DPY_AUX_CTL.GO starts an AUX transaction where none runs; the end of one whose reply brings no
data clears GO and stores the reply. -/
def Obligations.DisplayEvents : Prop :=
  (∀ (s : State) (n : Nat), n < 16 → s.hw.blkDown .gfx R.GFX_AUTO_CLR = false → exec (.gfxAutoClr (2 ^ n)) s = .next
    { s with hw := (s.hw.putB (R.GFX_AUTO_HIST_VALID n) false) }) ∧
  (∀ (s : State) (q : Nat), s.hw.coreUp = true → (∀ f p, s.hw.gfx.frame = some f → f.pass = some p → p.run.any (fun j
    => partOf j.tile == q) = false) → s.hw.pstate q = 3 → s.hw.foldStat q =
    fFOLDING → exec (.gfxRelease q) s = .next
    { s with hw := ({ s.hw with gfx := { s.hw.gfx with released := NSet.add s.hw.gfx.released q } }) }) ∧
  (∀ (s : State), s.hw.sysUp = true → s.hw.dpyState = dACTIVE → exec .vblank s = .next
    { s with hw := ({ s.hw with dpy := { s.hw.dpy with planes := s.hw.dpy.next.foldl (fun m e => SMap.set (fun _ => DPlane.off) m e.1 e.2) s.hw.dpy.planes, next := [] } }) }) ∧
  (∀ (s : State), s.hw.sysUp = true → s.hw.dpyState = dACTIVE → exec (.scanoutUnderflow false) s = .next
    { s with hw := (s.hw.raise R.DPY_FLAGS_UNDERFLOW 0) }) ∧
  (∀ (s : State), s.hw.sysUp = true → s.hw.dpyState = dACTIVE → exec (.scanoutUnderflow true) s = .next
    { s with hw := ((s.hw.raise R.DPY_FLAGS_UNDERFLOW 0).errAt eGRAPHICS 2 649) }) ∧
  (∀ (s : State), s.hw.pinsFrozen = false → s.hw.sysUp = true → s.hw.get R.DPY_STAT_HPD = 1 → exec .hpdUnplug s =
    .next
    { s with hw := (((s.hw.put R.DPY_STAT_HPD 0).dpySet dNO_SINK 0 (s.hw.get R.DPY_STAT_RATE)).dpyChange false) }) ∧
  (∀ (s : State), s.hw.pinsFrozen = false → s.hw.sysUp = true → s.hw.get R.DPY_STAT_HPD = 0 → exec .hpdPlug s = .next
    { s with hw := (((s.hw.put R.DPY_STAT_HPD 1).put R.DPY_STAT_STATE dOFF).dpyChange true) }) ∧
  (∀ (s : State) (lost trained : Bool), s.hw.pinsFrozen = false → s.hw.sysUp = true → s.hw.get R.DPY_STAT_HPD = 1 →
    lost = false → exec (.irqHpd lost trained) s = .next { s with hw := (s.hw.raiseAt R.DPY_FLAGS_HPD_IRQ 0 16) }) ∧
  (∀ (s : State), s.hw.pinsFrozen = false → s.hw.sysUp = true → s.hw.get R.DPY_STAT_HPD = 1 → s.hw.dpyState = dACTIVE
    → exec (.irqHpd true false) s = .next
    { s with hw := ((s.hw.raiseAt R.DPY_FLAGS_HPD_IRQ 0 16).dpySet dTRAIN_FAIL 0 s.hw.dpy.rate) }) ∧
  (∀ (s : State) (v : Nat), v < 2 ^ 32 → s.hw.blkDown .dpy R.DPY_AUX_CTL = false → bit (s.hw.rd R.DPY_AUX_CTL) 31 =
    false → exec (.dpyAuxGo v) s = .next { s with hw := (s.hw.wr R.DPY_AUX_CTL (v % 2 ^ 27 + 2 ^ 31)) }) ∧
  (∀ (s : State) (reply : Nat) (data : List Byte), s.hw.sysUp = true → bit (s.hw.rd R.DPY_AUX_CTL) 31 = true → reply %
    4 ≠ 0 ∨ bit (s.hw.rd R.DPY_AUX_CTL) 26 = true → exec (.dpyAuxDone reply data) s = .next
    { s with hw := ((s.hw.wr R.DPY_AUX_CTL (s.hw.rd R.DPY_AUX_CTL % 2 ^ 31)).put R.DPY_AUX_STAT_REPLY (reply % 4)) }) ∧
  (∀ (s : State), s.hw.pinsFrozen = false → s.hw.sysUp = true → s.hw.get R.DPY_STAT_HPD = 1 → s.hw.dpyState = dACTIVE
    → exec (.irqHpd true true) s = .next
    { s with hw := ((s.hw.raiseAt R.DPY_FLAGS_HPD_IRQ 0 16).dpySet dACTIVE s.hw.dpy.lanes s.hw.dpy.rate) })

/-- A port that is not on takes no frame. On an enabled port a frame below 64 bytes is a RUNT, one above the MTU a LONG
event, one whose check fails an FCS event; a good frame, PAUSE apart, that a rule or a default admits is delivered to
its queue, and one that neither admits is dropped. The oldest frame in flight of a receive queue gets its descriptor:
length, DONE with the status, rule, generation, tag and time stamp. A port that is off, sending or paused starts no
frame; the first eligible queue's frame starts to be sent, stomped where its data or its packet failed. A sent frame's
descriptor is written DONE, with the stomp and suspect-time bits, a time stamp where one is asked for, and TX_OK counts
a frame not stomped. A rule that waited too long completes NO_RESOURCE 4. A port's link rises and falls with
LINK_CHANGE. -/
def Obligations.EthernetFrames : Prop :=
  (∀ (s : State) (n : Nat) (bs : List Byte) (far : Memory) (farOk : Bool), s.hw.pinsFrozen = false → s.hw.sysUp = true → s.hw.portOn n = false →
    exec (.rxFrame n bs far farOk) s = .next { s with hw := (s.hw) }) ∧
  (∀ (s : State) (n : Nat) (bs : List Byte) (far : Memory) (farOk : Bool), s.hw.pinsFrozen = false → s.hw.sysUp = true → s.hw.portOn n = true →
    bs.length < 64 → exec (.rxFrame n bs far farOk) s = .next { s with hw := (s.hw.netEvent n .runt) }) ∧
  (∀ (s : State) (n : Nat) (bs : List Byte) (far : Memory) (farOk : Bool), s.hw.pinsFrozen = false → s.hw.sysUp = true → s.hw.portOn n = true →
    64 ≤ bs.length → s.hw.get (R.NET_P_CFG_MTU n) < bs.length → exec (.rxFrame n bs far farOk) s = .next
    { s with hw := (s.hw.netEvent n .long) }) ∧
  (∀ (s : State) (n : Nat) (bs : List Byte) (far : Memory) (farOk : Bool), s.hw.pinsFrozen = false → s.hw.sysUp = true → s.hw.portOn n = true →
    64 ≤ bs.length → bs.length ≤ s.hw.get (R.NET_P_CFG_MTU n) → leAt bs (bs.length - 4) 4 ≠ fcs32 (bs.take (bs.length
    - 4)) → exec (.rxFrame n bs far farOk) s = .next { s with hw := (s.hw.netEvent n .fcs) }) ∧
  (∀ (s : State) (n q : Nat) (bs : List Byte) (far : Memory) (farOk : Bool) (p : Parse) (g : Hw), s.hw.pinsFrozen = false → s.hw.sysUp = true →
    s.hw.portOn n = true → 64 ≤ bs.length → bs.length ≤ s.hw.get (R.NET_P_CFG_MTU n) → leAt bs (bs.length - 4) 4 =
    fcs32 (bs.take (bs.length - 4)) → isPause (bs.take (bs.length - 4)) = false → p = parseFrame (bs.take (bs.length -
    4)) (if s.hw.is R.NET_HST_PORT_EN = true then some (s.hw.get R.NET_HST_PORT_PORT) else none) → p.cls = PClass.ok →
    (s.hw.verdict n p (bs.take (bs.length - 4))).queue = some q → s.hw.deliver n (s.hw.verdict n p (bs.take (bs.length
    - 4))) q (bs.take (bs.length - 4)) far farOk = some g → exec (.rxFrame n bs far farOk) s = .next
    { s with hw := (g) }) ∧
  (∀ (s : State) (n : Nat) (bs : List Byte) (far : Memory) (farOk : Bool) (p : Parse), s.hw.pinsFrozen = false → s.hw.sysUp = true →
    s.hw.portOn n = true → 64 ≤ bs.length → bs.length ≤ s.hw.get (R.NET_P_CFG_MTU n) → leAt bs (bs.length - 4) 4 =
    fcs32 (bs.take (bs.length - 4)) → isPause (bs.take (bs.length - 4)) = false → p = parseFrame (bs.take (bs.length -
    4)) (if s.hw.is R.NET_HST_PORT_EN = true then some (s.hw.get R.NET_HST_PORT_PORT) else none) → p.cls = PClass.ok →
    (s.hw.verdict n p (bs.take (bs.length - 4))).queue = none → exec (.rxFrame n bs far farOk) s = .next
    { s with hw := (s.hw) }) ∧
  (∀ (s : State) (n q : Nat) (farOk : Bool), s.hw.sysUp = true → (s.hw.port n).rxOf q = [] → exec (.rxDescriptorWrite
    n q farOk) s = .next { s with hw := (s.hw) }) ∧
  (∀ (s : State) (n q : Nat) (farOk : Bool) (x : RxFlight) (l : List RxFlight) (h : Hw), s.hw.sysUp = true →
    (s.hw.port n).rxOf q = x :: l → s.hw.gStatus (x.desc + 10) 22 true ≠ 3 → x.slot = none → h = ((s.hw.nodeWrite 645 (x.desc + 10) (leBytes 2 x.len ++ leBytes 2 (x.status + 1 + 8 * b2n s.hw.tsSuspect) ++ leBytes 2 x.rule ++ leBytes 2 x.gen ++ leBytes 2 x.tag ++ leBytes 4 0 ++ leBytes 8 x.time) []
    farOk).2.onPort n (fun p => { p with rx := p.rx.erase x })) → h.get (R.NET_P_RX_ENTRIES_ENTRIES n q) ≠ 0 → exec
    (.rxDescriptorWrite n q farOk) s = .next
    { s with hw := (((((h.put (R.NET_P_RX_HEAD_HEAD n q) ((h.get (R.NET_P_RX_HEAD_HEAD n q) + 1) % h.get (R.NET_P_RX_ENTRIES_ENTRIES n q))).bump (R.NET_P_CNT_RX_OK_COUNT n)).ruleRetry).queueDone).portDone n) }) ∧
  (∀ (s : State) (n : Nat) (crc : Bool) (far : Memory) (farOk : Bool), s.hw.sysUp = true → s.hw.portOn n = false ∨
    (s.hw.port n).tx.isSome = true ∨ s.hw.clk.now < (s.hw.port n).pauseTo → exec (.txFrameStart n crc far farOk) s =
    .next { s with hw := (s.hw) }) ∧
  (∀ (s : State) (n q e : Nat) (crc : Bool) (far : Memory) (farOk : Bool) (ds bs : List Byte) (h g : Hw), s.hw.sysUp =
    true → s.hw.portOn n = true → (s.hw.port n).tx = none → (s.hw.port n).pauseTo ≤ s.hw.clk.now → s.hw.txQueue n =
    some q → s.hw.nodeRead 645 (NMap.get (s.hw.port n).txRing q + 32 * (s.hw.get (R.NET_P_TX_HEAD_HEAD n q) % s.hw.get
    (R.NET_P_TX_ENTRIES_ENTRIES n q))) 32 far = some (0, ds, h) → 60 ≤ leAt ds 8 2 → leAt ds 8 2 + 4 ≤ h.get
    (R.NET_P_CFG_MTU n) → h.nodeRead 645 (leAt ds 0 8 % 2 ^ 48) (leAt ds 8 2) far = some (e, bs, g) → ∃ t, exec
    (.txFrameStart n crc far farOk) s = .next t ∧ ∃ x, (t.hw.port n).tx = some x ∧ x.q = q ∧ x.stomped = (crc || e !=
    0)) ∧
  (∀ (s : State) (n : Nat) (farOk : Bool), s.hw.sysUp = true → (s.hw.port n).tx = none → exec (.txFrameDone n farOk) s
    = .next { s with hw := (s.hw) }) ∧
  (∀ (s : State) (n : Nat) (farOk : Bool) (x : TxFlight) (g : Hw), s.hw.sysUp = true → (s.hw.port n).tx = some x → s.hw.gStatus
    x.desc 32 true ≠ 3 → x.ts = false → g = (s.hw.nodeWrite 645 (x.desc + 12) (leBytes 2 (1 + 2 * b2n x.stomped)) [] farOk).2 →
    exec (.txFrameDone n farOk) s = .next
    { s with hw := ((((((if x.stomped = true then g else g.bump (R.NET_P_CNT_TX_OK_COUNT n)).txAdvance n x.q).onPort n (fun p => { p with tx := none })).queueDone).portDone n)) }) ∧
  (∀ (s : State) (n : Nat) (farOk : Bool) (x : TxFlight) (g : Hw), s.hw.sysUp = true → (s.hw.port n).tx = some x → s.hw.gStatus
    x.desc 32 true ≠ 3 → x.ts = true → g = (((s.hw.nodeWrite 645 (x.desc + 0x18) (leBytes 8 x.time) [] farOk).2).nodeWrite 645
    (x.desc + 12) (leBytes 2 (1 + 2 * b2n x.stomped + 8 * b2n s.hw.tsSuspect)) [] farOk).2 → exec (.txFrameDone n farOk) s = .next
    { s with hw := ((((((if x.stomped = true then g else g.bump (R.NET_P_CNT_TX_OK_COUNT n)).txAdvance n x.q).onPort n (fun p => { p with tx := none })).queueDone).portDone n)) }) ∧
  (∀ (s : State) (w : RuleWait), s.hw.sysUp = true → s.hw.net.ruleWait = some w → exec .netRuleSlotTimeout s = .next
    { s with hw := (({ s.hw with net := { s.hw.net with ruleWait := none } } : Hw).complete w.mb w.hd 0x17 4 0) }) ∧
  (∀ (s : State) (n : Nat), s.hw.pinsFrozen = false → s.hw.sysUp = true → n < 2 → s.hw.get (R.NET_P_CFG_MODE n) ≠ 0 → s.hw.is (R.NET_P_STAT_LINK
    n) = false → exec (.ethLinkUp n) s = .next
    { s with hw := (((s.hw.putB (R.NET_P_STAT_LINK n) true).putB (R.NET_P_STAT_AN_DONE n) (s.hw.get (R.NET_P_CFG_MODE n) == 1 && s.hw.is (R.NET_P_CFG_AN_EN n))).ethChange n true) }) ∧
  (∀ (s : State) (n : Nat), s.hw.sysUp = true → n < 2 → s.hw.is (R.NET_P_STAT_LINK n) = true → exec (.ethLinkDown n) s
    = .next
    { s with hw := (((s.hw.putB (R.NET_P_STAT_LINK n) false).putB (R.NET_P_STAT_AN_DONE n) false).ethChange n false) })

/-- A tick adds RATE to every queue's count and clamps it to BUCKET, leaving memories, tiles and the ports' other
state as they were; FORGIVE sets a negative count to 0 and leaves another; a RATE within 1 to 10,000 is stored and any
other 14-bit value changes nothing; a BUCKET up to 1,048,576 is stored, and clamps a count above it to it. (R1035) -/
def Obligations.Shapers : Prop :=
  (∀ (s : State) (n q : Nat), s.hw.sysUp = true → n < 2 → q < 8 → ∃ t, exec .shaperTick s = .next t ∧ t.hw.tokens n q
    = min (s.hw.get (R.NET_P_SHP_BUCKET_BUCKET n q) : Int) (s.hw.tokens n q + s.hw.get (R.NET_P_SHP_RATE_RATE n q)) ∧
    t.hw.mem = s.hw.mem ∧ t.hw.tiles = s.hw.tiles ∧ t.hw.net = s.hw.net) ∧
  (∀ (s : State) (n q : Nat), n < 2 → q < 8 → s.hw.blkDown .net R.NET_SHP_CTL = false → s.hw.tokens n q < 0 → exec
    (.forgive n q) s = .next { s with hw := (s.hw.setTokens n q 0) }) ∧
  (∀ (s : State) (n q : Nat), n < 2 → q < 8 → s.hw.blkDown .net R.NET_SHP_CTL = false → 0 ≤ s.hw.tokens n q → exec
    (.forgive n q) s = .next { s with hw := (s.hw) }) ∧
  (∀ (s : State) (n q v : Nat), n < 2 → q < 8 → s.hw.blkDown .net (0x40090300 + 0x1000 * n + 16 * q) = false → 1 ≤ v →
    v ≤ 10000 → exec (.netPnShpqRate n q v) s = .next { s with hw := (s.hw.put (R.NET_P_SHP_RATE_RATE n q) v) }) ∧
  (∀ (s : State) (n q v : Nat), n < 2 → q < 8 → s.hw.blkDown .net (0x40090300 + 0x1000 * n + 16 * q) = false → v = 0 ∨
    10000 < v → v < 2 ^ 14 → exec (.netPnShpqRate n q v) s = .next { s with hw := (s.hw) }) ∧
  (∀ (s : State) (n q v : Nat), n < 2 → q < 8 → s.hw.blkDown .net (0x40090304 + 0x1000 * n + 16 * q) = false → v ≤
    1048576 → s.hw.tokens n q ≤ v → exec (.netPnShpqBucket n q v) s = .next
    { s with hw := (s.hw.put (R.NET_P_SHP_BUCKET_BUCKET n q) v) }) ∧
  (∀ (s : State) (n q v : Nat), n < 2 → q < 8 → s.hw.blkDown .net (0x40090304 + 0x1000 * n + 16 * q) = false → v ≤
    1048576 → (v : Int) < s.hw.tokens n q → exec (.netPnShpqBucket n q v) s = .next
    { s with hw := ((s.hw.put (R.NET_P_SHP_BUCKET_BUCKET n q) v).setTokens n q v) })

/-- A configuration read of a function that exists completes with the word; a configuration write is answered and made.
A memory read of a BAR offset that nothing is assigned to completes with zeros and such a write takes nothing; a
mailbox register is read and written by words; global memory is read and written. The link comes up with its speed and
width and configuration served, and goes down with LINK_DOWN; awake, going down clears the configuration space.
PME_Turn_Off is noted while the link is up. An FLR of function 0 or of a VF that does not exist changes nothing; one of a
VF without commands in flight and without an open partition clears its function and its mailbox and ends. A good DMA
completion joins its engine's bytes, and the engine issues what it may; a UR, a CA, poisoned data and a timeout each
fail the command with their detail. -/
def Obligations.HostRequests : Prop :=
  (∀ (s : State) (fn off : Nat), s.hw.pinsFrozen = false → s.hw.sysUp = true → s.hw.pcie.cfgUp = true → s.hw.is R.PCIE_STAT_DL_UP = true →
    s.hw.fnExists fn = true → s.hw.pwr'.phase ≠ .folding → exec (.configRequest fn off none) s = .next
    { s with hw := ({ s.hw with pcie := { s.hw.pcie with cpl := [⟨0, leBytes 4 (s.hw.cfgRd fn (off % 4096 / 4 * 4)), false⟩] } }) }) ∧
  (∀ (s : State) (fn off v : Nat), s.hw.pinsFrozen = false → s.hw.sysUp = true → s.hw.pcie.cfgUp = true → s.hw.is R.PCIE_STAT_DL_UP = true →
    s.hw.fnExists fn = true → fn = 0 ∨ (s.hw.bitOf R.PCIE_FLR_STAT_FLR (fn - 1) = false ∧ (off % 4096 / 4 * 4 ≠ 0x078 ∨ bit
    v 15 = false)) → exec (.configRequest fn off (some v)) s = .next
    { s with hw := ((({ s.hw with pcie := { s.hw.pcie with cpl := [⟨0, [], false⟩] } } : Hw).cfgWrite fn (off % 4096 / 4 * 4) (v % 2 ^ 32)).pwrSettle) }) ∧
  (∀ (s : State) (fn bar o n : Nat) (ans : UAns), s.hw.pinsFrozen = false → s.hw.sysUp = true → s.hw.linkUp = true → n ≠ 0 → s.hw.hostServes fn
    = true → fn = 0 ∨ s.hw.bitOf R.PCIE_FLR_STAT_FLR (fn - 1) = false → s.hw.hostAt fn bar o = .unassigned → exec
    (.hostMemRead fn bar o n false [] ans) s = .next
    { s with hw := ({ s.hw with pcie := { s.hw.pcie with cpl := [⟨0, List.replicate n 0, false⟩] } }) }) ∧
  (∀ (s : State) (fn bar o n a v : Nat) (ans : UAns) (h : Hw), s.hw.pinsFrozen = false → s.hw.sysUp = true → s.hw.linkUp = true → n = 4 →
    s.hw.hostServes fn = true → fn = 0 ∨ s.hw.bitOf R.PCIE_FLR_STAT_FLR (fn - 1) = false → s.hw.hostAt fn bar o =
    .mbxReg a → a % 4 = 0 → s.hw.regRead a = (.ok v, h) → exec (.hostMemRead fn bar o n
    false [] ans) s = .next { s with hw := ({ h with pcie := { h.pcie with cpl := [⟨0, leBytes 4 v, false⟩] } }) }) ∧
  (∀ (s : State) (fn bar o n a : Nat) (es : List SramErr) (ans : UAns), s.hw.pinsFrozen = false → s.hw.sysUp = true → s.hw.linkUp = true → n ≠ 0
    → s.hw.hostServes fn = true → fn = 0 ∨ s.hw.bitOf R.PCIE_FLR_STAT_FLR (fn - 1) = false → s.hw.hostAt fn bar o =
    .global a → exec (.hostMemRead fn bar o n false es ans) s = .next
    { s with hw := (s.hw.hostRead fn a n es ans) }) ∧
  (∀ (s : State) (fn bar o : Nat) (bs : List Byte) (ans : UAns), s.hw.pinsFrozen = false → s.hw.sysUp = true → s.hw.linkUp = true → bs ≠ [] →
    s.hw.hostServes fn = true → fn = 0 ∨ s.hw.bitOf R.PCIE_FLR_STAT_FLR (fn - 1) = false → s.hw.hostAt fn bar o =
    .unassigned → exec (.hostMemWrite fn bar o bs false false ans) s = .next { s with hw := (s.hw) }) ∧
  (∀ (s : State) (fn bar o a v : Nat) (bs : List Byte) (ans : UAns) (h : Hw), s.hw.pinsFrozen = false → s.hw.sysUp = true → s.hw.linkUp = true →
    bs.length = 4 → s.hw.hostServes fn = true → fn = 0 ∨ s.hw.bitOf R.PCIE_FLR_STAT_FLR (fn - 1) = false → s.hw.hostAt
    fn bar o = .mbxReg a → a % 4 = 0 → s.hw.regWrite a (ofLe bs) srcHost = (.ok v, h) → exec (.hostMemWrite fn bar o
    bs false false ans) s = .next { s with hw := (h) }) ∧
  (∀ (s : State) (fn bar o a : Nat) (bs : List Byte) (ans : UAns), s.hw.pinsFrozen = false → s.hw.sysUp = true → s.hw.linkUp = true → bs ≠ [] →
    s.hw.hostServes fn = true → fn = 0 ∨ s.hw.bitOf R.PCIE_FLR_STAT_FLR (fn - 1) = false → s.hw.hostAt fn bar o =
    .global a → exec (.hostMemWrite fn bar o bs false false ans) s = .next
    { s with hw := (s.hw.hostWrite fn a bs false ans) }) ∧
  (∀ (s : State) (n : Nat), s.hw.pinsFrozen = false → s.hw.sysUp = true → n = 0 ∨ s.hw.fnExists n = false → s.hw.pwr'.phase ≠ .folding → exec
    (.functionLevelReset n) s = .next { s with hw := (s.hw) }) ∧
  (∀ (s : State) (n : Nat), s.hw.pinsFrozen = false → s.hw.sysUp = true → 1 ≤ n → s.hw.fnExists n = true → s.hw.is R.PCIE_STAT_DL_UP = true →
    s.hw.bitOf R.PCIE_FLR_STAT_FLR (n - 1) = false → s.hw.mbx.infl = [] → s.hw.pstate (n - 1) < 2 → ∃ t, exec
    (.functionLevelReset n) s = .next t ∧ ∃ g : Hw, g = (((s.hw.cfgClear n).flrMailbox (n - 1)).putBit
    R.PCIE_FLR_STAT_FLR (n - 1) true) ∧ t.hw = ((g.onPt (n - 1) (fun x =>
    { x with flr := some false, start := none })).flrFinish (n - 1)).pwrSettle) ∧
  (∀ (s : State), s.hw.pinsFrozen = false → s.hw.linkUp = true → exec .pmeTurnOff s = .next
    { s with hw := ({ s.hw with pwr' := { s.hw.pwr' with pme := true } }) }) ∧
  (∀ (s : State) (v w : Nat), s.hw.pinsFrozen = false → s.hw.pcie.perst = true → s.hw.asleep = false → s.hw.is R.PCIE_STAT_DL_UP = false →
    s.hw.heldAt true = false → ∃ t, exec (.pcieLinkUp v w) s = .next t ∧ t.hw.is R.PCIE_STAT_DL_UP = true ∧ t.hw.is
    R.PCIE_STAT_L2 = false ∧ t.hw.get R.PCIE_STAT_SPEED = v % 2 ^ (R.PCIE_STAT_SPEED.hi + 1 - R.PCIE_STAT_SPEED.lo) ∧
    t.hw.pcie.cfgUp = true ∧ t.hw.mem = s.hw.mem ∧ t.hw.tiles = s.hw.tiles) ∧
  (∀ (s : State), s.hw.is R.PCIE_STAT_DL_UP = true → s.hw.pcie.engines = [] → s.hw.asleep = true ∨ s.hw.is
    R.PWR_STATE_BUSY = true → s.hw.cfg.cmd = none → exec (.pcieLinkDown false) s = .next
    { s with hw := (s.hw.linkStat0.raise R.PCIE_FLAGS_LINK_DOWN 0) }) ∧
  (∀ (s : State), s.hw.is R.PCIE_STAT_DL_UP = true → s.hw.pcie.engines = [] → s.hw.asleep = false → s.hw.is
    R.PWR_STATE_BUSY = false → s.hw.cfg.cmd = none → exec (.pcieLinkDown false) s = .next
    { s with hw := ((s.hw.linkStat0.raise R.PCIE_FLAGS_LINK_DOWN 0).cfgClearAll) }) ∧
  (∀ (s : State) (e j : Nat) (bs : List Byte) (g q : DmaEng), s.hw.sysUp = true → s.hw.pcie.engines.find? (fun g => g.eng
    == e && g.expects j) = some g → s.hw.linkUp = true → s.hw.pinsFrozen = false → q = g.arrive j bs → q.len ≤ q.issued ∨
    s.hw.dmaAllowed (dmaFn g.mb) = true → exec (.dmaCompletion e j 0 bs false) s = .next
    { s with hw := ({ s.hw with pcie := { s.hw.pcie with engines := s.hw.pcie.engines.map (fun x => if x.eng == e then s.hw.dmaIssue q else x) } }) }) ∧
  (∀ (s : State) (e j : Nat) (bs : List Byte) (g : DmaEng), s.hw.sysUp = true → s.hw.pcie.engines.find? (fun g => g.eng
    == e && g.expects j) = some g → s.hw.linkUp = true → s.hw.pinsFrozen = false → exec (.dmaCompletion e j 0 bs true) s =
    .next { s with hw := ((s.hw.poisonRx (dmaFn g.mb)).dmaFail g 4) }) ∧
  (∀ (s : State) (e j st : Nat) (bs : List Byte) (ep : Bool) (g : DmaEng), s.hw.sysUp = true → s.hw.pcie.engines.find? (fun
    g => g.eng == e && g.expects j) = some g → s.hw.linkUp = true → s.hw.pinsFrozen = false → st = 1 ∨ st = 2 → exec
    (.dmaCompletion e j st bs ep) s = .next { s with hw := (s.hw.dmaFail g st) }) ∧
  (∀ (s : State) (e j : Nat) (bs : List Byte) (ep : Bool) (g : DmaEng), s.hw.sysUp = true → s.hw.pcie.engines.find? (fun
    g => g.eng == e && g.expects j) = some g → exec (.dmaCompletion e j 3 bs ep) s = .next
    { s with hw := (((s.hw.aer (dmaFn g.mb) 14 4).raise R.PCIE_FLAGS_CPL_TMO 0).dmaFail g 3) })

/-- On an up link: a DATA frame that parses and carries the awaited SEQ is accepted and its flits taken in; one that does
not parse, or carries another SEQ, is discarded, counted and flagged; an IDLE frame returns credits and acknowledges;
a NAK frame does so and starts a replay; a TIME frame joins the delay measurements, and from the link that leads to
the master feeds the servo; the records of an IDENT frame are taken in. A good HELLO of another seat's facing link is
shown. A replay counts, and the eighth without a new ACK starts a retrain. A link is up after its HELLO, goes down with
its held frames discarded and LINK_CHANGE where it was up, and starts again. -/
def Obligations.LinkFrames : Prop :=
  (∀ (s : State) (k : Nat) (bs : List Byte), s.hw.pinsFrozen = false → s.hw.sysUp = true → k < 4 → s.hw.linkIsUp k = true → parseLFrame bs =
    none → exec (.data k bs) s = .next { s with hw := ((s.hw.bump (R.LNK_CNT_LCRC_COUNT k)).linkFlag k lfLCRC) }) ∧
  (∀ (s : State) (k : Nat) (bs : List Byte) (f : LFrame), s.hw.pinsFrozen = false → s.hw.sysUp = true → k < 4 → s.hw.linkIsUp k = true →
    parseLFrame bs = some f → f.ftype = 0 → f.seq = ((s.hw.link k).rx + 1) % 4096 → exec (.data k bs) s = .next
    { s with hw := (((s.hw.setLink k ({ s.hw.link k with rx := f.seq }.acked f)).linkPump k).linkFlits k f.flits) }) ∧
  (∀ (s : State) (k : Nat) (bs : List Byte) (f : LFrame), s.hw.pinsFrozen = false → s.hw.sysUp = true → k < 4 → s.hw.linkIsUp k = true →
    parseLFrame bs = some f → f.ftype = 0 → f.seq ≠ ((s.hw.link k).rx + 1) % 4096 → exec (.data k bs) s = .next
    { s with hw := ((s.hw.bump (R.LNK_CNT_LCRC_COUNT k)).linkFlag k lfLCRC) }) ∧
  (∀ (s : State) (k : Nat) (bs : List Byte) (f : LFrame), s.hw.pinsFrozen = false → s.hw.sysUp = true → k < 4 → s.hw.linkIsUp k = true →
    parseLFrame bs = some f → f.ftype = 1 → exec (.idle k bs) s = .next
    { s with hw := ((s.hw.setLink k ((s.hw.link k).acked f)).linkPump k) }) ∧
  (∀ (s : State) (k : Nat) (bs : List Byte) (f : LFrame), s.hw.pinsFrozen = false → s.hw.sysUp = true → k < 4 → s.hw.linkIsUp k = true →
    parseLFrame bs = some f → f.ftype = 2 → exec (.nak k bs) s = .next
    { s with hw := (((s.hw.setLink k ((s.hw.link k).acked f)).linkPump k).linkReplay k) }) ∧
  (∀ (s : State) (k sx lx : Nat) (bs : List Byte) (f : LFrame) (h : Hw), s.hw.pinsFrozen = false → s.hw.sysUp = true → s.hw.linkAccept k 3 bs =
    (some f, h) → h.linkIsUp k = false → sx < 8 → lx < 4 → sx ≠ h.seat → lx = facing k → h.fab.doneHigh = true → exec (.hello k bs sx lx) s = .next
    { s with hw := (((((h.setLink k { h.link k with hello := some ⟨sx, lx⟩ }).put (R.LNK_STAT_STATE k) 2).put (R.LNK_STAT_PEER_SEAT k) sx).put (R.LNK_STAT_PEER_LINK k) lx)) }) ∧
  (∀ (s : State) (k sent rtt turn : Nat) (bs : List Byte) (f : LFrame) (h : Hw), s.hw.pinsFrozen = false → s.hw.sysUp = true → s.hw.linkAccept k
    4 bs = (some f, h) → h.get R.TBL_STAT_MASTER = h.seat → ∃ t, exec (.time k bs sent rtt turn) s = .next t ∧ t.hw =
    (h.setLink k { h.link k with delays := ((rtt - turn) / 2 :: (h.link k).delays).take 16 }).wr (R.LNK_DELAY k)
    (meanDelay (((rtt - turn) / 2 :: (h.link k).delays).take 16))) ∧
  (∀ (s : State) (k sent rtt turn d m : Nat) (bs : List Byte) (f : LFrame) (h g : Hw), s.hw.pinsFrozen = false → s.hw.sysUp = true →
    s.hw.linkAccept k 4 bs = (some f, h) → d = meanDelay (((rtt - turn) / 2 :: (h.link k).delays).take 16) → g = (h.setLink k
    { h.link k with delays := ((rtt - turn) / 2 :: (h.link k).delays).take 16 }).wr (R.LNK_DELAY k) d → m = g.get
    R.TBL_STAT_MASTER → m ≠ g.seat → g.bitOf R.TBL_STAT_PRESENT m = true → g.routeOf m = k → exec (.time k bs sent rtt turn) s =
    .next { s with hw := (g.servo ((g.clk.tt : Int) - (sent : Int) - (d : Int))) }) ∧
  (∀ (s : State) (k : Nat) (bs : List Byte) (f : LFrame) (h : Hw), s.hw.pinsFrozen = false → s.hw.sysUp = true → s.hw.linkAccept k 5 bs = (some
    f, h) → exec (.ident k bs) s = .next
    { s with hw := (((List.range (f.flits.length / 3)).foldl (fun (h : Hw) i => h.record (IdRec.ofBytes (((f.flits.map (fun x => x.data)).flatten.drop (96 * i)).take 96))) h).doneFollow) }) ∧
  (∀ (s : State) (k : Nat), s.hw.sysUp = true → k < 4 → s.hw.linkIsUp k = true → (s.hw.link k).held ≠ [] → (s.hw.link
    k).replays = 7 → s.hw.fab.doneHigh = true → exec (.replayTimeout k) s = .next
    { s with hw := (((((((s.hw.setLink k { s.hw.link k with replays := 8 }).bump (R.LNK_CNT_REPLAY_COUNT k)).linkFlag k lfREPLAY).setLink k { s.hw.link k with replays := 0, retrain := true, hello := none }).put (R.LNK_STAT_STATE k) 1).linkFlag k lfRETRAIN)) }) ∧
  (∀ (s : State) (k : Nat), s.hw.sysUp = true → k < 4 → s.hw.linkIsUp k = true → (s.hw.link k).held ≠ [] → (s.hw.link
    k).replays < 7 → s.hw.fab.doneHigh = true → exec (.replayTimeout k) s = .next
    { s with hw := (((s.hw.setLink k { s.hw.link k with replays := (s.hw.link k).replays + 1 }).bump (R.LNK_CNT_REPLAY_COUNT k)).linkFlag k lfREPLAY) }) ∧
  (∀ (s : State) (k lanes : Nat) (e : Hello) (w : Bool), s.hw.pinsFrozen = false → s.hw.sysUp = true → (s.hw.link k).hello = some e → laneMode
    lanes = some w → s.hw.linkMay k = true → s.hw.get (R.LNK_STAT_STATE k) = 2 → s.hw.xstate ≠ 6 → e.letter = facing k
    → e.seat ≠ s.hw.seat → ∃ t, exec (.linkUp k lanes) s = .next t ∧ t.hw.tbl.everUp = true ∧ t.hw.linkIsUp k = true ∧ t.hw.is
    (R.LNK_STAT_WIDTH4 k) = w ∧ t.hw.tiles = s.hw.tiles ∧ t.hw.mem.hbm = s.hw.mem.hbm) ∧
  (∀ (s : State) (k : Nat), s.hw.sysUp = true → k < 4 → s.hw.get (R.LNK_STAT_STATE k) ≠ 0 → s.hw.get
    R.TBL_STAT_PRESENT = 0 → s.hw.get (R.LNK_STAT_STATE k) ≠ 3 → (s.hw.link k).retrain = false → (s.hw.link k).out =
    [] → s.hw.watching = false → s.hw.fab.doneHigh = true → exec (.linkDown k) s = .next
    { s with hw := (((s.hw.put (R.LNK_STAT_STATE k) 0).setLink k LinkState.reset).linkFlag k lfDOWN) }) ∧
  (∀ (s : State) (k : Nat) (g : Hw), s.hw.sysUp = true → k < 4 → s.hw.linkIsUp k = true → (s.hw.link k).out = [] →
    s.hw.watching = false → s.hw.fab.doneHigh = true → g = (((s.hw.put (R.LNK_STAT_STATE k) 0).setLink k LinkState.reset).linkFlag k
    lfDOWN).postEvent 16 evLINK_CHANGE (0x20 + k) → exec (.linkDown k) s = .next
    { s with hw := (if g.get R.TBL_STAT_PRESENT = 0 then g else g.setRoutes) }) ∧
  (∀ (s : State) (k : Nat), s.hw.sysUp = true → s.hw.linkMay k = true → s.hw.get (R.LNK_STAT_STATE k) = 0 →
    s.hw.xstate ≠ 0 → exec (.linkRestart k) s = .next
    { s with hw := ((s.hw.put (R.LNK_STAT_STATE k) 1).setLink k { LinkState.reset with delays := (s.hw.link k).delays }) })

/-- For every frame with TYPE below 16, SEQ and ACK below 4,096, CRVC below 8, CRCNT below 256 and at most 8 flits,
each of 32 bytes with a virtual channel below 8 and a 32-bit CRC on its tail alone, reading the payload bytes of its
blocks gives the same frame, its LCRC passing. -/
def Obligations.LinkFrameRoundTrip : Prop :=
  ∀ f : LFrame, f.ftype < 16 → f.seq < 4096 → f.ack < 4096 → f.crvc < 8 → f.crcnt < 256 → f.flits.length ≤ 8 →
    (∀ x ∈ f.flits, x.vc < 8 ∧ x.data.length = 32 ∧ x.crc < 2 ^ 32 ∧ (x.tail = false → x.crc = 0)) →
    parseLFrame f.encode = some f

/-- An open exchange sends every known record on each up link with room. A complete one of two seats or more, whose
records agree, sets agreement. XWAIT without a link makes a one-seat table. A watching or agreed seat sends a heartbeat
to every other seat present. A watching seat whose peer's heartbeats stop takes the steps of a loss; without a re-deal
under way, a TBL_SLEEP or copies to that seat, these flag it LOST, post SEAT_LOST, close its requests, take it out of the
table and begin its re-deal. At a two-seat table with every link down the wait ends in a cut where DONE was seen low, else in
the loss of the other seat. A re-deal finishes once its map is in force, on the coordinator after its entries are
written with EPOCH + 1; with none under way REDEAL_DONE changes nothing. -/
def Obligations.TableAgreement : Prop :=
  (∀ (s : State) (k : Nat), s.hw.sysUp = true → s.hw.tbl.closed = false → s.hw.xstate < 5 → k < 4 → s.hw.linkIsUp k =
    true → (s.hw.link k).held.length + s.hw.recList.length ≤ 64 → ∃ t, exec .identSend s = .next t ∧ t.hw.link k =
    s.hw.recList.foldl (fun l r => l.push 5 r.flits) (s.hw.link k) ∧ t.hw.regs = s.hw.regs ∧ t.hw.mem = s.hw.mem ∧
    t.hw.tiles = s.hw.tiles) ∧
  (∀ (s : State) (m : List MapEnt) (l : List IdRec), s.hw.sysUp = true → s.hw.tbl.closed = false → s.hw.xstate < 5 →
    s.hw.is R.CFG_STAT_LOADED = true → s.hw.tbl.clash = false → s.hw.tbl.slept = false → s.hw.tbl.reload = false → l =
    s.hw.recList → digestsDiffer l = false → 2 ≤ l.length → l.all (fun r => (r.st == iHELD || r.st == iSLEPT) &&
    r.known == maskOf s.hw.knownSet) = true → l.foldl (fun (a : Nat) r => max a r.epoch) 0 = s.hw.ownRec.epoch → exec
    (.identComplete m) s = .next
    { s with hw := ((({ s.hw with tbl := { s.hw.tbl with redir := (m.filter (fun e => e.st != 0)).foldl (fun q e => NSet.add q e.seat) s.hw.tbl.redir } } : Hw).agree).doneFollow) }) ∧
  (∀ (s : State), s.hw.sysUp = true → s.hw.tbl.everUp = false → s.hw.tbl.closed = false → s.hw.tbl.solo = false →
    s.hw.xstate ≤ 1 → exec .xwaitTimeout s = .next
    { s with hw := ((({ s.hw with tbl := { s.hw.tbl with solo := true, recs := [] } } : Hw).setX xEXCHANGE).soloAgree) }) ∧
  (∀ (s : State), s.hw.sysUp = true → s.hw.watching = true ∨ s.hw.xstate = xAGREED → exec .heartbeatSend s = .next
    { s with hw := ((s.hw.presentList.filter (fun q => q != s.hw.seat)).foldl (fun (h : Hw) q => h.toGate { op := 0xC3, addr := 0, srcSeat := h.seat, srcNode := 647, dstSeat := q, dstNode := 647, prio := h.prioOf 647, tag := 0, status := 0, bytes := 0, aux := s.hw.seat + 8 * b2n s.hw.tbl.sleep + 16 * b2n (s.hw.is R.TBL_STAT_TIME_BAD) + 32 * b2n s.hw.tblBusy + s.hw.get R.TBL_EPOCH_EPOCH * 2 ^ 16, data := [], poison := [], crcBad := false }) s.hw) }) ∧
  (∀ (s : State) (q : Nat), s.hw.sysUp = true → s.hw.watching = true → SMap.get (fun _ => none) s.hw.tbl.hb q = none →
    s.hw.allDown = false → exec (.heartbeatTimeout q)
    s = .next { s with hw := ((s.hw.loseSeat q).doneFollow) }) ∧
  (∀ (s : State) (q : Nat) (g : Hw), s.hw.sysUp = true → s.hw.watching = true → SMap.get (fun _ => none) s.hw.tbl.hb q = none →
    s.hw.allDown = false → q < 8 → q ≠ s.hw.seat → s.hw.bitOf R.TBL_STAT_PRESENT q = true → s.hw.bitOf R.TBL_STAT_LOST q = false →
    s.hw.get R.TBL_MIRSTAT_PARTNER ≠ q → s.hw.tbl.sleepCmd = none → s.hw.tbl.redeal = none → g = ((((s.hw.putBit
    R.TBL_STAT_LOST q true).dis dSEAT_LOST).errAt eTABLE 1 647).postEvent 16 evSEAT_LOST q).closeSeat q → exec (.heartbeatTimeout q)
    s = .next
    { s with hw := ((((g.setPresent (g.presentList.filter (fun x => x != q))).onTbl (fun t => { t with redeal := some q, committed := false })).setX xREDEAL).doneFollow) }) ∧
  (∀ (s : State) (o : Nat), s.hw.sysUp = true → s.hw.watching = true → s.hw.allDown = true → s.hw.presentList.length = 2 →
    s.hw.presentList.find? (fun q => q != s.hw.seat) = some o → exec (.cutWait false) s = .next
    { s with hw := (((s.hw.onTbl (fun t => { t with doneLow := true })).loseSeat o).doneFollow) }) ∧
  (∀ (s : State), s.hw.sysUp = true → s.hw.watching = true → s.hw.allDown = true → s.hw.presentList.length = 2 → exec
    (.cutWait true) s = .next { s with hw := (s.hw.cut.doneFollow) }) ∧
  (∀ (s : State) (l : List LostPart) (v q : Nat), s.hw.sysUp = true → s.hw.tbl.redeal = none → exec (.redealDone l v
    q) s = .next { s with hw := (s.hw) }) ∧
  (∀ (s : State) (l : List LostPart) (v q x : Nat), s.hw.sysUp = true → s.hw.tbl.redeal = some x → s.hw.tbl.committed
    = true → exec (.redealDone l v q) s = .next { s with hw := (s.hw.redealFinish x) }) ∧
  (∀ (s : State) (l : List LostPart) (v q x : Nat), s.hw.sysUp = true → s.hw.tbl.redeal = some x → s.hw.tbl.committed
    = false → s.hw.coordinates = true → ∃ t, exec (.redealDone l v q) s = .next t ∧ ∃ g : Hw, g = (s.hw.redealEntries
    x l v q).foldl (fun (h : Hw) e => h.setMap e) s.hw ∧ t.hw = (g.put R.TBL_EPOCH_EPOCH (g.get R.TBL_EPOCH_EPOCH +
    1)).redealFinish x)

/-- Every up link with room sends a TIME frame at the exchange. A write of TBL_TIME_OFS on the master feeds the servo,
and elsewhere changes nothing; a sample beyond 1 µs steps table time and its forwarded copy back by the offset, and a
smaller one moves the rate. An armed alarm whose time has come is disarmed and triggers its captures and cores, or is
skipped with ALARM_SKIP while time is bad; before its time, or unarmed, nothing happens. -/
def Obligations.TableTime : Prop :=
  (∀ (s : State) (k : Nat), s.hw.sysUp = true → k < 4 → s.hw.linkIsUp k = true → (s.hw.link k).held.length < 64 → ∃ t,
    exec .timeExchange s = .next t ∧ t.hw.link k = (s.hw.link k).push 4 [] ∧ t.hw.regs = s.hw.regs ∧ t.hw.mem =
    s.hw.mem ∧ t.hw.tiles = s.hw.tiles) ∧
  (∀ (s : State) (v : Nat), v < 2 ^ 32 → s.hw.blkDown .tbl R.TBL_TIME_OFS = false → s.hw.isMaster = true → exec
    (.tblTimeOfs v) s = .next { s with hw := (s.hw.servo (sext 32 v)) }) ∧
  (∀ (s : State) (v : Nat), v < 2 ^ 32 → s.hw.blkDown .tbl R.TBL_TIME_OFS = false → s.hw.isMaster = false → exec
    (.tblTimeOfs v) s = .next { s with hw := (s.hw) }) ∧
  (∀ (s : State), s.hw.sysUp = true → s.hw.is R.TBL_ALARM_CTL_ARM = true → s.hw.rd64 R.TBL_ALARM_LO R.TBL_ALARM_HI ≤
    s.hw.clk.tt → s.hw.is R.TBL_STAT_TIME_BAD = false → ∃ t, exec .tblAlarm s = .next t ∧ ∃ g : Hw, g = s.hw.putB
    R.TBL_ALARM_CTL_ARM false ∧ t.hw = (g.snsTrig (g.rd R.TBL_ALARM_SNS + g.get R.TBL_ALARM_CTL_SRC_HI * 2 ^
    32)).sigSoft ((g.snsTrig (g.rd R.TBL_ALARM_SNS + g.get R.TBL_ALARM_CTL_SRC_HI * 2 ^ 32)).get
    R.TBL_ALARM_CTL_CORES)) ∧
  (∀ (s : State), s.hw.sysUp = true → s.hw.is R.TBL_ALARM_CTL_ARM = false ∨ s.hw.clk.tt < s.hw.rd64 R.TBL_ALARM_LO
    R.TBL_ALARM_HI → exec .tblAlarm s = .next { s with hw := (s.hw) }) ∧
  (∀ (s : State), s.hw.sysUp = true → s.hw.is R.TBL_ALARM_CTL_ARM = true → s.hw.rd64 R.TBL_ALARM_LO R.TBL_ALARM_HI ≤
    s.hw.clk.tt → s.hw.is R.TBL_STAT_TIME_BAD = true → exec .tblAlarm s = .next
    { s with hw := ((s.hw.putB R.TBL_ALARM_CTL_ARM false).dis dALARM_SKIP) }) ∧
  (∀ (s : State) (v : Nat), v < 2 ^ 32 → s.hw.blkDown .tbl R.TBL_TIME_OFS = false → s.hw.isMaster = true → 16000 < (sext 32
    v).natAbs → ∃ t, exec (.tblTimeOfs v) s = .next t ∧ t.hw.clk.tt = wrapI 64 ((s.hw.clk.tt : Int) - sext 32 v) ∧ t.hw.clk.fwd =
    t.hw.clk.tt ∧ t.hw.tbl = s.hw.tbl) ∧
  (∀ (s : State) (v : Nat), v < 2 ^ 32 → s.hw.blkDown .tbl R.TBL_TIME_OFS = false → s.hw.isMaster = true → (sext 32
    v).natAbs ≤ 16000 → ∃ t, exec (.tblTimeOfs v) s = .next t ∧ t.hw.clk.tt = s.hw.clk.tt ∧ t.hw.tbl.servoI = clampPpm
    (s.hw.tbl.servoI - sext 32 v) ∧ t.hw.tbl.rate = clampPpm (clampPpm (s.hw.tbl.servoI - sext 32 v) - 16 * sext 32 v))

/-- A waiting report is taken: one that is not fatal is counted and logged, a fatal one sets its class and acts; with
none waiting, held log entries are written. The cap falls by one at or above T_ON while above its floor, else rises by
one below T_OFF while below 28, and otherwise stays. A sample without its 18 readings changes nothing; one with them shows
each reading. A rail change sets its bit alone. -/
def Obligations.ErrorsAndHeat : Prop :=
  (∀ (s : State) (r : Report), s.hw.busDown = false → nextReport s.hw.err = some r → r.fatal
    = false → exec .errorReport s = .next { s with hw := ((s.hw.takeReport r).collectNonFatal r) }) ∧
  (∀ (s : State) (r : Report), s.hw.busDown = false → nextReport s.hw.err = some r → r.fatal
    = true → exec .errorReport s = .next { s with hw := (((s.hw.takeReport r).collectFatal r).fatalAct r) }) ∧
  (∀ (s : State), s.hw.busDown = false → nextReport s.hw.err = none → exec .errorReport s = .next { s with hw := (s.hw.drainLog) }) ∧
  (∀ (s : State), s.hw.thermalRuns = true → s.hw.temp R.THM_TMAX_TEMP < (s.hw.get R.THM_CAP_CFG_T_ON : Int) * 16 ∨
    s.hw.get R.THM_CAP_STAT_CAP ≤ s.hw.get R.THM_CAP_CFG_FLOOR → (s.hw.get R.THM_CAP_CFG_T_OFF : Int) * 16 ≤ s.hw.temp
    R.THM_TMAX_TEMP ∨ 28 ≤ s.hw.get R.THM_CAP_STAT_CAP → exec .thermalCapInterval s = .next { s with hw := (s.hw) }) ∧
  (∀ (s : State), s.hw.thermalRuns = true → (s.hw.get R.THM_CAP_CFG_T_ON : Int) * 16 ≤ s.hw.temp R.THM_TMAX_TEMP →
    s.hw.get R.THM_CAP_CFG_FLOOR < s.hw.get R.THM_CAP_STAT_CAP → exec .thermalCapInterval s = .next
    { s with hw := ((s.hw.put R.THM_CAP_STAT_CAP (s.hw.get R.THM_CAP_STAT_CAP - 1)).putB R.THM_CAP_STAT_ACTIVE (decide (s.hw.get R.THM_CAP_STAT_CAP - 1 < 28))) }) ∧
  (∀ (s : State), s.hw.thermalRuns = true → s.hw.temp R.THM_TMAX_TEMP < (s.hw.get R.THM_CAP_CFG_T_ON : Int) * 16 →
    s.hw.temp R.THM_TMAX_TEMP < (s.hw.get R.THM_CAP_CFG_T_OFF : Int) * 16 → s.hw.get R.THM_CAP_STAT_CAP < 28 → exec
    .thermalCapInterval s = .next
    { s with hw := ((s.hw.put R.THM_CAP_STAT_CAP (s.hw.get R.THM_CAP_STAT_CAP + 1)).putB R.THM_CAP_STAT_ACTIVE (decide (s.hw.get R.THM_CAP_STAT_CAP + 1 < 28))) }) ∧
  (∀ (s : State) (l : List Nat), l.length ≠ 18 ∨ s.hw.thermalRuns = false → exec (.thermalSample l) s = .next
    { s with hw := (s.hw) }) ∧
  (∀ (s : State) (l : List Nat) (n : Nat), s.hw.thermalRuns = true → l.length = 18 → n < 18 → ∃ t, exec
    (.thermalSample l) s = .next t ∧ t.hw.get (R.THM_TEMP_TEMP n) = thmReading (listAt 0 l n) ∧ t.hw.tiles =
    s.hw.tiles ∧ t.hw.mem.hbm = s.hw.mem.hbm) ∧
  (∀ (s : State) (r : Nat) (good : Bool), r < 10 → exec (.railChange r good) s = .next
    { s with hw := (s.hw.putBit R.THM_RAIL_GOOD r good) })
end

