-- ==== Sys2Proof/Laws/Bits.lean ====
section
/-!
SUPPORT. Laws of bit fields: what a field reads after a field is written.
-/
namespace Sys2Proof.Machine

open Sys2Proof

/-- A number is its upper part, one field and its lower part. -/
theorem split_field (v hi lo : Nat) (h : lo ≤ hi + 1) :
    v = v / 2 ^ (hi + 1) * 2 ^ (hi + 1) + bits v hi lo * 2 ^ lo + v % 2 ^ lo := by
  have e : 2 ^ (hi + 1) = 2 ^ lo * 2 ^ (hi + 1 - lo) := by rw [← pow_add]; congr 1; omega
  have h1 : v / 2 ^ (hi + 1) = v / 2 ^ lo / 2 ^ (hi + 1 - lo) := by rw [e, Nat.div_div_eq_div_mul]
  have h2 := Nat.div_add_mod (v / 2 ^ lo) (2 ^ (hi + 1 - lo))
  have h3 := Nat.div_add_mod v (2 ^ lo)
  rw [bits, Nat.shiftRight_eq_div_pow, h1, e]
  calc v = 2 ^ lo * (v / 2 ^ lo) + v % 2 ^ lo := h3.symm
    _ = 2 ^ lo * (2 ^ (hi + 1 - lo) * (v / 2 ^ lo / 2 ^ (hi + 1 - lo)) + v / 2 ^ lo % 2 ^ (hi + 1 - lo)) + v % 2 ^ lo := by
        rw [h2]
    _ = _ := by ring

/-- A field write by its parts. -/
theorem setBits_eq (v hi lo x : Nat) (h : lo ≤ hi + 1) :
    setBits v hi lo x = v / 2 ^ (hi + 1) * 2 ^ (hi + 1) + x % 2 ^ (hi + 1 - lo) * 2 ^ lo + v % 2 ^ lo := by
  have := split_field v hi lo h
  rw [setBits, Nat.shiftLeft_eq, Nat.shiftLeft_eq]
  generalize bits v hi lo * 2 ^ lo = b at *
  generalize x % 2 ^ (hi + 1 - lo) * 2 ^ lo = y at *
  generalize v / 2 ^ (hi + 1) * 2 ^ (hi + 1) = a at *
  generalize v % 2 ^ lo = c at *
  omega

/-- The written field reads the value's low bits. -/
@[simp] theorem bits_setBits (v hi lo x : Nat) (h : lo ≤ hi + 1) :
    bits (setBits v hi lo x) hi lo = x % 2 ^ (hi + 1 - lo) := by
  have e : 2 ^ (hi + 1) = 2 ^ lo * 2 ^ (hi + 1 - lo) := by rw [← pow_add]; congr 1; omega
  rw [setBits_eq v hi lo x h, bits, Nat.shiftRight_eq_div_pow, e]
  have hc : v % 2 ^ lo < 2 ^ lo := Nat.mod_lt _ (by positivity)
  generalize v % 2 ^ lo = c at *
  generalize v / (2 ^ lo * 2 ^ (hi + 1 - lo)) = a
  rw [show a * (2 ^ lo * 2 ^ (hi + 1 - lo)) + x % 2 ^ (hi + 1 - lo) * 2 ^ lo + c
      = c + 2 ^ lo * (a * 2 ^ (hi + 1 - lo) + x % 2 ^ (hi + 1 - lo)) by ring,
    Nat.add_mul_div_left _ _ (by positivity), Nat.div_eq_of_lt hc, Nat.zero_add, Nat.mul_add_mod_self_right, Nat.mod_mod]

/-- A bit of a number with a field replaced. -/
theorem testBit_setBits (v hi lo x i : Nat) (h : lo ≤ hi + 1) :
    (setBits v hi lo x).testBit i = if lo ≤ i ∧ i ≤ hi then x.testBit (i - lo) else v.testBit i := by
  have hc : v % 2 ^ lo < 2 ^ lo := Nat.mod_lt _ (by positivity)
  have hx : x % 2 ^ (hi + 1 - lo) < 2 ^ (hi + 1 - lo) := Nat.mod_lt _ (by positivity)
  have e : 2 ^ (hi + 1) = 2 ^ (hi + 1 - lo) * 2 ^ lo := by rw [← pow_add]; congr 1; omega
  have hlow : x % 2 ^ (hi + 1 - lo) * 2 ^ lo + v % 2 ^ lo < 2 ^ (hi + 1) := by
    have := Nat.mul_le_mul_right (2 ^ lo) (Nat.succ_le_of_lt hx)
    rw [Nat.succ_mul] at this
    rw [e]
    omega
  rw [setBits_eq v hi lo x h, Nat.add_assoc, Nat.mul_comm, Nat.testBit_two_pow_mul_add _ hlow]
  by_cases h1 : i < hi + 1
  · rw [if_pos h1, Nat.mul_comm, Nat.testBit_two_pow_mul_add _ hc]
    by_cases h2 : i < lo
    · rw [if_pos h2, if_neg (by omega), Nat.testBit_mod_two_pow]; simp [h2]
    · rw [if_neg h2, if_pos (by omega), Nat.testBit_mod_two_pow]
      simp; omega
  · rw [if_neg h1, if_neg (by omega), Nat.testBit_div_two_pow]; congr 1; omega

/-- A bit of a field. -/
theorem testBit_bits (v hi lo i : Nat) : (bits v hi lo).testBit i = (decide (i < hi + 1 - lo) && v.testBit (lo + i)) := by
  rw [bits, Nat.testBit_mod_two_pow, Nat.testBit_shiftRight]

/-- A field that does not meet the written one reads as before. -/
theorem bits_setBits_disj (v hi lo x hi' lo' : Nat) (h : lo ≤ hi + 1) (hd : hi < lo' ∨ hi' < lo) :
    bits (setBits v hi lo x) hi' lo' = bits v hi' lo' := by
  apply Nat.eq_of_testBit_eq
  intro i
  rw [testBit_bits, testBit_bits, testBit_setBits _ _ _ _ _ h]
  by_cases h1 : i < hi' + 1 - lo'
  · rw [if_neg (by omega)]
  · simp [h1]

/-- A field write stays within a word. -/
theorem setBits_lt (v hi lo x w : Nat) (h : lo ≤ hi + 1) (hw : hi < w) (hv : v < 2 ^ w) : setBits v hi lo x < 2 ^ w := by
  apply Nat.lt_pow_two_of_testBit
  intro i hi'
  rw [testBit_setBits _ _ _ _ _ h, if_neg (by omega)]
  exact Nat.testBit_lt_two_pow (lt_of_lt_of_le hv (Nat.pow_le_pow_right (by omega) hi'))

theorem bit_eq (v n : Nat) : bit v n = v.testBit n := by
  rw [bit, Nat.shiftRight_eq_div_pow, Nat.testBit_eq_decide_div_mod_eq]; rfl

/-- One bit after a bit is written. -/
theorem bit_setBit (v n m : Nat) (b : Bool) : bit (setBit v n b) m = if m = n then b else bit v m := by
  rw [bit_eq, bit_eq, setBit, testBit_setBits _ _ _ _ _ (by omega)]
  by_cases h : m = n
  · subst h; cases b <;> simp
  · rw [if_neg (by omega), if_neg h]

theorem bits_lt (v hi lo : Nat) : bits v hi lo < 2 ^ (hi + 1 - lo) := Nat.mod_lt _ (by positivity)

end Sys2Proof.Machine
end

