-- ==== Sys2Proof/Laws/Exec.lean ====
section
/-!
SUPPORT. Each command's arm of `exec`, as an equation: proofs cite these and never unfold `exec`.
-/
namespace Sys2Proof.Machine

open Sys2Proof

@[simp] theorem exec_registerWrite (ws : List RegWr) (s : State) :
    exec (.registerWrite ws) s = execRegisterWrite ws s := rfl
@[simp] theorem exec_monitorWindow (i : Nat) (n : Nat) (s : State) :
    exec (.monitorWindow i n) s = execMonitorWindow i n s := rfl
@[simp] theorem exec_xtal32Window (s : State) :
    exec .xtal32Window s = execXtal32Window s := rfl
@[simp] theorem exec_pllLockLoss (p : Nat) (s : State) :
    exec (.pllLockLoss p) s = execPllLockLoss p s := rfl
@[simp] theorem exec_pllLockHeld (p : Nat) (s : State) :
    exec (.pllLockHeld p) s = execPllLockHeld p s := rfl
@[simp] theorem exec_clockLossClear (v : Nat) (s : State) :
    exec (.clockLossClear v) s = execClockLossClear v s := rfl
@[simp] theorem exec_stepComplete (p : Nat) (s : State) :
    exec (.stepComplete p) s = execStepComplete p s := rfl
@[simp] theorem exec_tableTimeForward (n : Nat) (s : State) :
    exec (.tableTimeForward n) s = execTableTimeForward n s := rfl
@[simp] theorem exec_porDetect (s : State) :
    exec .porDetect s = execPorDetect s := rfl
@[simp] theorem exec_porRelease (s : State) :
    exec .porRelease s = execPorRelease s := rfl
@[simp] theorem exec_resetPinAssert (p : Nat) (s : State) :
    exec (.resetPinAssert p) s = execResetPinAssert p s := rfl
@[simp] theorem exec_resetPinGlitch (p : Nat) (s : State) :
    exec (.resetPinGlitch p) s = execResetPinGlitch p s := rfl
@[simp] theorem exec_resetPinRelease (p : Nat) (s : State) :
    exec (.resetPinRelease p) s = execResetPinRelease p s := rfl
@[simp] theorem exec_systemReset (seat : Nat) (boot : Nat) (s : State) :
    exec (.systemReset seat boot) s = execSystemReset seat boot s := rfl
@[simp] theorem exec_coreReset (volts : Nat) (s : State) :
    exec (.coreReset volts) s = execCoreReset volts s := rfl
@[simp] theorem exec_resetPendNoclkStart (s : State) :
    exec .resetPendNoclkStart s = execResetPendNoclkStart s := rfl
@[simp] theorem exec_resetNvDelayEnd (s : State) :
    exec .resetNvDelayEnd s = execResetNvDelayEnd s := rfl
@[simp] theorem exec_wdtTimeout (ms : Nat) (s : State) :
    exec (.wdtTimeout ms) s = execWdtTimeout ms s := rfl
@[simp] theorem exec_sysWdtKick (v : Nat) (s : State) :
    exec (.sysWdtKick v) s = execSysWdtKick v s := rfl
@[simp] theorem exec_sysRstReqCore (s : State) :
    exec .sysRstReqCore s = execSysRstReqCore s := rfl
@[simp] theorem exec_sysRstReqSystem (s : State) :
    exec .sysRstReqSystem s = execSysRstReqSystem s := rfl
@[simp] theorem exec_pwrTargetRun (tmo : Nat) (s : State) :
    exec (.pwrTargetRun tmo) s = execPwrTargetRun tmo s := rfl
@[simp] theorem exec_pwrTargetIdle (tmo : Nat) (s : State) :
    exec (.pwrTargetIdle tmo) s = execPwrTargetIdle tmo s := rfl
@[simp] theorem exec_pwrTargetPark (tmo : Nat) (s : State) :
    exec (.pwrTargetPark tmo) s = execPwrTargetPark tmo s := rfl
@[simp] theorem exec_pwrTargetListen (tmo : Nat) (s : State) :
    exec (.pwrTargetListen tmo) s = execPwrTargetListen tmo s := rfl
@[simp] theorem exec_pwrTargetDeep (tmo : Nat) (s : State) :
    exec (.pwrTargetDeep tmo) s = execPwrTargetDeep tmo s := rfl
@[simp] theorem exec_pwrHeldTargetApply (s : State) :
    exec .pwrHeldTargetApply s = execPwrHeldTargetApply s := rfl
@[simp] theorem exec_listenL2Ready (s : State) :
    exec .listenL2Ready s = execListenL2Ready s := rfl
@[simp] theorem exec_listenAbort (s : State) :
    exec .listenAbort s = execListenAbort s := rfl
@[simp] theorem exec_listenDeepTimeout (s : State) :
    exec .listenDeepTimeout s = execListenDeepTimeout s := rfl
@[simp] theorem exec_wakeExit (s : State) :
    exec .wakeExit s = execWakeExit s := rfl
@[simp] theorem exec_wakeExitClocksGood (ticks : Nat) (seat : Nat) (boot : Nat) (volts : Nat) (s : State) :
    exec (.wakeExitClocksGood ticks seat boot volts) s = execWakeExitClocksGood ticks seat boot volts s := rfl
@[simp] theorem exec_wakeInEdge (n : Nat) (level : Bool) (s : State) :
    exec (.wakeInEdge n level) s = execWakeInEdge n level s := rfl
@[simp] theorem exec_aotCompareMatch (s : State) :
    exec .aotCompareMatch s = execAotCompareMatch s := rfl
@[simp] theorem exec_pciePerstRise (s : State) :
    exec .pciePerstRise s = execPciePerstRise s := rfl
@[simp] theorem exec_testLogicReset (s : State) :
    exec .testLogicReset s = execTestLogicReset s := rfl
@[simp] theorem exec_trstNAssert (s : State) :
    exec .trstNAssert s = execTrstNAssert s := rfl
@[simp] theorem exec_captureIr (done : Bool) (s : State) :
    exec (.captureIr done) s = execCaptureIr done s := rfl
@[simp] theorem exec_updateIr (op : Nat) (cells : Nat) (scans : List DrScan) (s : State) :
    exec (.updateIr op cells scans) s = execUpdateIr op cells scans s := rfl
@[simp] theorem exec_cfgIn (src : StreamSrc) (s : State) :
    exec (.cfgIn src) s = execCfgIn src s := rfl
@[simp] theorem exec_cfgPartial (src : StreamSrc) (s : State) :
    exec (.cfgPartial src) s = execCfgPartial src s := rfl
@[simp] theorem exec_cfgStat (s : State) :
    exec .cfgStat s = execCfgStat s := rfl
@[simp] theorem exec_fuseProgram (a : Nat) (s : State) :
    exec (.fuseProgram a) s = execFuseProgram a s := rfl
@[simp] theorem exec_fuseRead (a : Nat) (s : State) :
    exec (.fuseRead a) s = execFuseRead a s := rfl
@[simp] theorem exec_fusePulseDone (obs : Bool) (s : State) :
    exec (.fusePulseDone obs) s = execFusePulseDone obs s := rfl
@[simp] theorem exec_hbmPort (upd : Option Nat) (s : State) :
    exec (.hbmPort upd) s = execHbmPort upd s := rfl
@[simp] theorem exec_userWrite (n : Nat) (v : Nat) (ans : UAns) (s : State) :
    exec (.userWrite n v ans) s = execUserWrite n v ans s := rfl
@[simp] theorem exec_userRead (n : Nat) (ans : UAns) (s : State) :
    exec (.userRead n ans) s = execUserRead n ans s := rfl
@[simp] theorem exec_dbgAccess (a : Nat) (wr : Option Nat) (ans : UAns) (s : State) :
    exec (.dbgAccess a wr ans) s = execDbgAccess a wr ans s := rfl
@[simp] theorem exec_dbgCtlHalt (b : Bool) (src : Nat) (s : State) :
    exec (.dbgCtlHalt b src) s = execDbgCtlHalt b src s := rfl
@[simp] theorem exec_tapMasterTake (u : TapUse) (tms : List Bool) (s : State) :
    exec (.tapMasterTake u tms) s = execTapMasterTake u tms s := rfl
@[simp] theorem exec_configStart (probe : Option (Nat × Bool)) (s : State) :
    exec (.configStart probe) s = execConfigStart probe s := rfl
@[simp] theorem exec_dataRecord (s : State) :
    exec .dataRecord s = execDataRecord s := rfl
@[simp] theorem exec_repeatRecord (s : State) :
    exec .repeatRecord s = execRepeatRecord s := rfl
@[simp] theorem exec_endRecord (s : State) :
    exec .endRecord s = execEndRecord s := rfl
@[simp] theorem exec_cfgStreamEnd (s : State) :
    exec .cfgStreamEnd s = execCfgStreamEnd s := rfl
@[simp] theorem exec_clearPassDone (s : State) :
    exec .clearPassDone s = execClearPassDone s := rfl
@[simp] theorem exec_doneRelease (s : State) :
    exec .doneRelease s = execDoneRelease s := rfl
@[simp] theorem exec_doneSeenHigh (volts : Nat) (s : State) :
    exec (.doneSeenHigh volts) s = execDoneSeenHigh volts s := rfl
@[simp] theorem exec_releaseStage (volts : Nat) (s : State) :
    exec (.releaseStage volts) s = execReleaseStage volts s := rfl
@[simp] theorem exec_doneSeenLow (s : State) :
    exec .doneSeenLow s = execDoneSeenLow s := rfl
@[simp] theorem exec_progN (s : State) :
    exec .progN s = execProgN s := rfl
@[simp] theorem exec_cfgCtlRestart (s : State) :
    exec .cfgCtlRestart s = execCfgCtlRestart s := rfl
@[simp] theorem exec_cfgCtlLock (s : State) :
    exec .cfgCtlLock s = execCfgCtlLock s := rfl
@[simp] theorem exec_partialFoldDone (s : State) :
    exec .partialFoldDone s = execPartialFoldDone s := rfl
@[simp] theorem exec_scrubFrame (upset : BitVec 2048) (s : State) :
    exec (.scrubFrame upset) s = execScrubFrame upset s := rfl
@[simp] theorem exec_fabUregAccess (f : UFrom) (a : Nat) (wr : Option Nat) (ans : Option UAns) (s : State) :
    exec (.fabUregAccess f a wr ans) s = execFabUregAccess f a wr ans s := rfl
@[simp] theorem exec_fabUregTimeout (s : State) :
    exec .fabUregTimeout s = execFabUregTimeout s := rfl
@[simp] theorem exec_fabPllLossClear (v : Nat) (s : State) :
    exec (.fabPllLossClear v) s = execFabPllLossClear v s := rfl
@[simp] theorem exec_fabricPortTx (i : Nat) (u : UserPkt) (s : State) :
    exec (.fabricPortTx i u) s = execFabricPortTx i u s := rfl
@[simp] theorem exec_fabricPortRx (k : Nat) (crc : Bool) (s : State) :
    exec (.fabricPortRx k crc) s = execFabricPortRx k crc s := rfl
@[simp] theorem exec_mbxDbCmd (m : Nat) (v : Nat) (s : State) :
    exec (.mbxDbCmd m v) s = execMbxDbCmd m v s := rfl
@[simp] theorem exec_mbxDbCpl (m : Nat) (v : Nat) (s : State) :
    exec (.mbxDbCpl m v) s = execMbxDbCpl m v s := rfl
@[simp] theorem exec_mbxNext (s : State) :
    exec .mbxNext s = execMbxNext s := rfl
@[simp] theorem exec_mbxPostGo (m : Nat) (k : Nat) (s : State) :
    exec (.mbxPostGo m k) s = execMbxPostGo m k s := rfl
@[simp] theorem exec_mbxPostEvent (m : Nat) (s : State) :
    exec (.mbxPostEvent m) s = execMbxPostEvent m s := rfl
@[simp] theorem exec_mbxEventDequeue (m : Nat) (s : State) :
    exec (.mbxEventDequeue m) s = execMbxEventDequeue m s := rfl
@[simp] theorem exec_mbxCmdTimeout (m : Nat) (k : Nat) (s : State) :
    exec (.mbxCmdTimeout m k) s = execMbxCmdTimeout m k s := rfl
@[simp] theorem exec_mbxCoalTimeout (m : Nat) (s : State) :
    exec (.mbxCoalTimeout m) s = execMbxCoalTimeout m s := rfl
@[simp] theorem exec_dmaEngineAssign (s : State) :
    exec .dmaEngineAssign s = execDmaEngineAssign s := rfl
@[simp] theorem exec_nop (at_ : NopAt) (cyc : Nat) (s : State) :
    exec (.nop at_ cyc) s = execNop at_ cyc s := rfl
@[simp] theorem exec_info (m : Nat) (k : Nat) (s : State) :
    exec (.info m k) s = execInfo m k s := rfl
@[simp] theorem exec_reset (m : Nat) (k : Nat) (s : State) :
    exec (.reset m k) s = execReset m k s := rfl
@[simp] theorem exec_regRead (m : Nat) (k : Nat) (ans : UAns) (s : State) :
    exec (.regRead m k ans) s = execRegRead m k ans s := rfl
@[simp] theorem exec_regWrite (m : Nat) (k : Nat) (ans : UAns) (s : State) :
    exec (.regWrite m k ans) s = execRegWrite m k ans s := rfl
@[simp] theorem exec_memRead (m : Nat) (k : Nat) (far : Memory) (ans : List (Nat × UAns)) (s : State) :
    exec (.memRead m k far ans) s = execMemRead m k far ans s := rfl
@[simp] theorem exec_memWrite (m : Nat) (k : Nat) (farOk : Bool) (ans : List (Nat × UAns)) (s : State) :
    exec (.memWrite m k farOk ans) s = execMemWrite m k farOk ans s := rfl
@[simp] theorem exec_power (m : Nat) (k : Nat) (s : State) :
    exec (.power m k) s = execPower m k s := rfl
@[simp] theorem exec_imageLoad (m : Nat) (k : Nat) (s : State) :
    exec (.imageLoad m k) s = execImageLoad m k s := rfl
@[simp] theorem exec_partialLoad (m : Nat) (k : Nat) (s : State) :
    exec (.partialLoad m k) s = execPartialLoad m k s := rfl
@[simp] theorem exec_flashRead (m : Nat) (k : Nat) (obs : FlashObs) (s : State) :
    exec (.flashRead m k obs) s = execFlashRead m k obs s := rfl
@[simp] theorem exec_flashWrite (m : Nat) (k : Nat) (obs : FlashObs) (s : State) :
    exec (.flashWrite m k obs) s = execFlashWrite m k obs s := rfl
@[simp] theorem exec_flashErase (m : Nat) (k : Nat) (obs : FlashObs) (s : State) :
    exec (.flashErase m k obs) s = execFlashErase m k obs s := rfl
@[simp] theorem exec_partOpen (m : Nat) (k : Nat) (s : State) :
    exec (.partOpen m k) s = execPartOpen m k s := rfl
@[simp] theorem exec_partFold (m : Nat) (k : Nat) (s : State) :
    exec (.partFold m k) s = execPartFold m k s := rfl
@[simp] theorem exec_partOff (m : Nat) (k : Nat) (s : State) :
    exec (.partOff m k) s = execPartOff m k s := rfl
@[simp] theorem exec_partPace (m : Nat) (k : Nat) (s : State) :
    exec (.partPace m k) s = execPartPace m k s := rfl
@[simp] theorem exec_partBw (m : Nat) (k : Nat) (s : State) :
    exec (.partBw m k) s = execPartBw m k s := rfl
@[simp] theorem exec_programLoad (m : Nat) (k : Nat) (far : List Byte) (s : State) :
    exec (.programLoad m k far) s = execProgramLoad m k far s := rfl
@[simp] theorem exec_jobStart (m : Nat) (k : Nat) (s : State) :
    exec (.jobStart m k) s = execJobStart m k s := rfl
@[simp] theorem exec_checkpoint (m : Nat) (k : Nat) (s : State) :
    exec (.checkpoint m k) s = execCheckpoint m k s := rfl
@[simp] theorem exec_partStatus (m : Nat) (k : Nat) (s : State) :
    exec (.partStatus m k) s = execPartStatus m k s := rfl
@[simp] theorem exec_snsConfig (m : Nat) (k : Nat) (far : Memory) (s : State) :
    exec (.snsConfig m k far) s = execSnsConfig m k far s := rfl
@[simp] theorem exec_snsCapture (m : Nat) (k : Nat) (s : State) :
    exec (.snsCapture m k) s = execSnsCapture m k s := rfl
@[simp] theorem exec_snsWake (m : Nat) (k : Nat) (far : Memory) (s : State) :
    exec (.snsWake m k far) s = execSnsWake m k far s := rfl
@[simp] theorem exec_snsStatus (m : Nat) (k : Nat) (s : State) :
    exec (.snsStatus m k) s = execSnsStatus m k s := rfl
@[simp] theorem exec_sigLoad (m : Nat) (k : Nat) (far : List Byte) (s : State) :
    exec (.sigLoad m k far) s = execSigLoad m k far s := rfl
@[simp] theorem exec_sigRun (m : Nat) (k : Nat) (s : State) :
    exec (.sigRun m k) s = execSigRun m k s := rfl
@[simp] theorem exec_sigStop (m : Nat) (k : Nat) (s : State) :
    exec (.sigStop m k) s = execSigStop m k s := rfl
@[simp] theorem exec_sigStatus (m : Nat) (k : Nat) (s : State) :
    exec (.sigStatus m k) s = execSigStatus m k s := rfl
@[simp] theorem exec_gfxSubmit (m : Nat) (k : Nat) (far : Memory) (s : State) :
    exec (.gfxSubmit m k far) s = execGfxSubmit m k far s := rfl
@[simp] theorem exec_dpyMode (m : Nat) (k : Nat) (far : List Byte) (trained : Bool) (s : State) :
    exec (.dpyMode m k far trained) s = execDpyMode m k far trained s := rfl
@[simp] theorem exec_dpyPlane (m : Nat) (k : Nat) (far : List Byte) (s : State) :
    exec (.dpyPlane m k far) s = execDpyPlane m k far s := rfl
@[simp] theorem exec_gfxStatus (m : Nat) (k : Nat) (s : State) :
    exec (.gfxStatus m k) s = execGfxStatus m k s := rfl
@[simp] theorem exec_netPort (m : Nat) (k : Nat) (s : State) :
    exec (.netPort m k) s = execNetPort m k s := rfl
@[simp] theorem exec_netRule (m : Nat) (k : Nat) (far : List Byte) (s : State) :
    exec (.netRule m k far) s = execNetRule m k far s := rfl
@[simp] theorem exec_netQueue (m : Nat) (k : Nat) (s : State) :
    exec (.netQueue m k) s = execNetQueue m k s := rfl
@[simp] theorem exec_netShaper (m : Nat) (k : Nat) (s : State) :
    exec (.netShaper m k) s = execNetShaper m k s := rfl
@[simp] theorem exec_netPtp (m : Nat) (k : Nat) (s : State) :
    exec (.netPtp m k) s = execNetPtp m k s := rfl
@[simp] theorem exec_netStatus (m : Nat) (k : Nat) (s : State) :
    exec (.netStatus m k) s = execNetStatus m k s := rfl
@[simp] theorem exec_tblStatus (m : Nat) (k : Nat) (high : Bool) (s : State) :
    exec (.tblStatus m k high) s = execTblStatus m k high s := rfl
@[simp] theorem exec_tblSpare (m : Nat) (k : Nat) (s : State) :
    exec (.tblSpare m k) s = execTblSpare m k s := rfl
@[simp] theorem exec_tblSleep (m : Nat) (k : Nat) (s : State) :
    exec (.tblSleep m k) s = execTblSleep m k s := rfl
@[simp] theorem exec_tblTimeRead (m : Nat) (k : Nat) (s : State) :
    exec (.tblTimeRead m k) s = execTblTimeRead m k s := rfl
@[simp] theorem exec_tblTimeStep (m : Nat) (k : Nat) (s : State) :
    exec (.tblTimeStep m k) s = execTblTimeStep m k s := rfl
@[simp] theorem exec_setRead (m : Nat) (k : Nat) (s : State) :
    exec (.setRead m k) s = execSetRead m k s := rfl
@[simp] theorem exec_setWrite (m : Nat) (k : Nat) (s : State) :
    exec (.setWrite m k) s = execSetWrite m k s := rfl
@[simp] theorem exec_fwWrite (m : Nat) (k : Nat) (s : State) :
    exec (.fwWrite m k) s = execFwWrite m k s := rfl
@[simp] theorem exec_fwSelect (m : Nat) (k : Nat) (s : State) :
    exec (.fwSelect m k) s = execFwSelect m k s := rfl
@[simp] theorem exec_fwConfirm (m : Nat) (k : Nat) (s : State) :
    exec (.fwConfirm m k) s = execFwConfirm m k s := rfl
@[simp] theorem exec_logRead (m : Nat) (k : Nat) (s : State) :
    exec (.logRead m k) s = execLogRead m k s := rfl
@[simp] theorem exec_selfTest (m : Nat) (k : Nat) (s : State) :
    exec (.selfTest m k) s = execSelfTest m k s := rfl
@[simp] theorem exec_bootSlotSelect (s : State) :
    exec .bootSlotSelect s = execBootSlotSelect s := rfl
@[simp] theorem exec_mramPulseStart (waited : Bool) (s : State) :
    exec (.mramPulseStart waited) s = execMramPulseStart waited s := rfl
@[simp] theorem exec_mramPulseDone (obs : Option (List Byte)) (fetch : Option (Nat × Nat)) (s : State) :
    exec (.mramPulseDone obs fetch) s = execMramPulseDone obs fetch s := rfl
@[simp] theorem exec_wideWord (t : Nat) (n : Nat) (es : List SramErr) (s : State) :
    exec (.wideWord t n es) s = execWideWord t n es s := rfl
@[simp] theorem exec_matrixWriteback (t : Nat) (s : State) :
    exec (.matrixWriteback t) s = execMatrixWriteback t s := rfl
@[simp] theorem exec_tilCtlRun (t : Nat) (s : State) :
    exec (.tilCtlRun t) s = execTilCtlRun t s := rfl
@[simp] theorem exec_tilCtlStep (t : Nat) (s : State) :
    exec (.tilCtlStep t) s = execTilCtlStep t s := rfl
@[simp] theorem exec_tilCtlHalt (t : Nat) (s : State) :
    exec (.tilCtlHalt t) s = execTilCtlHalt t s := rfl
@[simp] theorem exec_tilSeed (t : Nat) (v : Nat) (s : State) :
    exec (.tilSeed t v) s = execTilSeed t v s := rfl
@[simp] theorem exec_streamRequest (n : Nat) (fill : Bool) (s : State) :
    exec (.streamRequest n fill) s = execStreamRequest n fill s := rfl
@[simp] theorem exec_streamResponse (n : Nat) (tag : Nat) (s : State) :
    exec (.streamResponse n tag) s = execStreamResponse n tag s := rfl
@[simp] theorem exec_layerListRead (n : Nat) (far : List Byte) (s : State) :
    exec (.layerListRead n far) s = execLayerListRead n far s := rfl
@[simp] theorem exec_prefetchFill (n : Nat) (far : List Byte) (s : State) :
    exec (.prefetchFill n far) s = execPrefetchFill n far s := rfl
@[simp] theorem exec_jobRelease (p : Nat) (s : State) :
    exec (.jobRelease p) s = execJobRelease p s := rfl
@[simp] theorem exec_jobEnd (p : Nat) (s : State) :
    exec (.jobEnd p) s = execJobEnd p s := rfl
@[simp] theorem exec_rd (k : Nat) (crc : Bool) (es : List SramErr) (ans : UAns) (s : State) :
    exec (.rd k crc es ans) s = execRd k crc es ans s := rfl
@[simp] theorem exec_wr (k : Nat) (crc : Bool) (es : List SramErr) (parity : Bool) (ans : UAns) (s : State) :
    exec (.wr k crc es parity ans) s = execWr k crc es parity ans s := rfl
@[simp] theorem exec_rdRsp (k : Nat) (crc : Bool) (s : State) :
    exec (.rdRsp k crc) s = execRdRsp k crc s := rfl
@[simp] theorem exec_wrRsp (k : Nat) (crc : Bool) (s : State) :
    exec (.wrRsp k crc) s = execWrRsp k crc s := rfl
@[simp] theorem exec_foldReq (n : Nat) (s : State) :
    exec (.foldReq n) s = execFoldReq n s := rfl
@[simp] theorem exec_foldOutDrained (n : Nat) (s : State) :
    exec (.foldOutDrained n) s = execFoldOutDrained n s := rfl
@[simp] theorem exec_foldInDrained (n : Nat) (s : State) :
    exec (.foldInDrained n) s = execFoldInDrained n s := rfl
@[simp] theorem exec_fenceDone (n : Nat) (s : State) :
    exec (.fenceDone n) s = execFenceDone n s := rfl
@[simp] theorem exec_foldAck (k : Nat) (s : State) :
    exec (.foldAck k) s = execFoldAck k s := rfl
@[simp] theorem exec_heartbeat (k : Nat) (crc : Bool) (lost : Option Nat) (s : State) :
    exec (.heartbeat k crc lost) s = execHeartbeat k crc lost s := rfl
@[simp] theorem exec_interrupt (k : Nat) (crc : Bool) (s : State) :
    exec (.interrupt k crc) s = execInterrupt k crc s := rfl
@[simp] theorem exec_nocFold (port : Bool) (i : Nat) (pgate : Bool) (s : State) :
    exec (.nocFold port i pgate) s = execNocFold port i pgate s := rfl
@[simp] theorem exec_nocUnfold (port : Bool) (i : Nat) (s : State) :
    exec (.nocUnfold port i) s = execNocUnfold port i s := rfl
@[simp] theorem exec_foldTimeout (k : Nat) (s : State) :
    exec (.foldTimeout k) s = execFoldTimeout k s := rfl
@[simp] theorem exec_rspTimeout (n : Nat) (tag : Nat) (s : State) :
    exec (.rspTimeout n tag) s = execRspTimeout n tag s := rfl
@[simp] theorem exec_burstIssue (c : Nat) (par : Nat) (err : List (Nat × Nat)) (s : State) :
    exec (.burstIssue c par err) s = execBurstIssue c par err s := rfl
@[simp] theorem exec_throttleEnd (c : Nat) (s : State) :
    exec (.throttleEnd c) s = execThrottleEnd c s := rfl
@[simp] theorem exec_refresh (c : Nat) (s : State) :
    exec (.refresh c) s = execRefresh c s := rfl
@[simp] theorem exec_refreshWindow (st : Nat) (s : State) :
    exec (.refreshWindow st) s = execRefreshWindow st s := rfl
@[simp] theorem exec_rowClose (c : Nat) (bank : Nat) (s : State) :
    exec (.rowClose c bank) s = execRowClose c bank s := rfl
@[simp] theorem exec_powerDown (st : Nat) (s : State) :
    exec (.powerDown st) s = execPowerDown st s := rfl
@[simp] theorem exec_memTempUpdate (st : Nat) (temp : Nat) (s : State) :
    exec (.memTempUpdate st temp) s = execMemTempUpdate st temp s := rfl
@[simp] theorem exec_tempStale (st : Nat) (s : State) :
    exec (.tempStale st) s = execTempStale st s := rfl
@[simp] theorem exec_hbmCatastrophicTemp (st : Nat) (on : Bool) (s : State) :
    exec (.hbmCatastrophicTemp st on) s = execHbmCatastrophicTemp st on s := rfl
@[simp] theorem exec_trainingDone (st : Nat) (res : Option (Option (Nat × Nat))) (s : State) :
    exec (.trainingDone st res) s = execTrainingDone st res s := rfl
@[simp] theorem exec_laneRepair (st : Nat) (s : State) :
    exec (.laneRepair st) s = execLaneRepair st s := rfl
@[simp] theorem exec_retrain (st : Nat) (s : State) :
    exec (.retrain st) s = execRetrain st s := rfl
@[simp] theorem exec_pacingSample (p : Nat) (s : State) :
    exec (.pacingSample p) s = execPacingSample p s := rfl
@[simp] theorem exec_pacingWindow (p : Nat) (s : State) :
    exec (.pacingWindow p) s = execPacingWindow p s := rfl
@[simp] theorem exec_pacingCorrect (p : Nat) (s : State) :
    exec (.pacingCorrect p) s = execPacingCorrect p s := rfl
@[simp] theorem exec_checkpointWrite (p : Nat) (s : State) :
    exec (.checkpointWrite p) s = execCheckpointWrite p s := rfl
@[simp] theorem exec_checkpointCommit (p : Nat) (s : State) :
    exec (.checkpointCommit p) s = execCheckpointCommit p s := rfl
@[simp] theorem exec_dummyCopyAck (p : Nat) (partner : Bool) (mlen : Nat) (refused : Bool) (s : State) :
    exec (.dummyCopyAck p partner mlen refused) s = execDummyCopyAck p partner mlen refused s := rfl
@[simp] theorem exec_snsOutputSample (g : Nat) (pdm : List Nat) (s : State) :
    exec (.snsOutputSample g pdm) s = execSnsOutputSample g pdm s := rfl
@[simp] theorem exec_snsTrig (mask : Nat) (s : State) :
    exec (.snsTrig mask) s = execSnsTrig mask s := rfl
@[simp] theorem exec_captureBlockComplete (u : Nat) (farOk : Bool) (s : State) :
    exec (.captureBlockComplete u farOk) s = execCaptureBlockComplete u farOk s := rfl
@[simp] theorem exec_wakeFrame (pdm : List Nat) (s : State) :
    exec (.wakeFrame pdm) s = execWakeFrame pdm s := rfl
@[simp] theorem exec_sigTrigger (k : Nat) (s : State) :
    exec (.sigTrigger k) s = execSigTrigger k s := rfl
@[simp] theorem exec_sigSoft (mask : Nat) (s : State) :
    exec (.sigSoft mask) s = execSigSoft mask s := rfl
@[simp] theorem exec_sigRunEnd (k : Nat) (cyc : Nat) (s : State) :
    exec (.sigRunEnd k cyc) s = execSigRunEnd k cyc s := rfl
@[simp] theorem exec_sigTransferResponse (tag : Nat) (s : State) :
    exec (.sigTransferResponse tag) s = execSigTransferResponse tag s := rfl
@[simp] theorem exec_sigCorekMdata (k : Nat) (wr : Option Nat) (s : State) :
    exec (.sigCorekMdata k wr) s = execSigCorekMdata k wr s := rfl
@[simp] theorem exec_fmac (k : Nat) (cyc : Nat) (s : State) :
    exec (.fmac k cyc) s = execFmac k cyc s := rfl
@[simp] theorem exec_fmsc (k : Nat) (cyc : Nat) (s : State) :
    exec (.fmsc k cyc) s = execFmsc k cyc s := rfl
@[simp] theorem exec_fmul (k : Nat) (cyc : Nat) (s : State) :
    exec (.fmul k cyc) s = execFmul k cyc s := rfl
@[simp] theorem exec_fadd (k : Nat) (cyc : Nat) (s : State) :
    exec (.fadd k cyc) s = execFadd k cyc s := rfl
@[simp] theorem exec_fsub (k : Nat) (cyc : Nat) (s : State) :
    exec (.fsub k cyc) s = execFsub k cyc s := rfl
@[simp] theorem exec_fabs (k : Nat) (cyc : Nat) (s : State) :
    exec (.fabs k cyc) s = execFabs k cyc s := rfl
@[simp] theorem exec_fneg (k : Nat) (cyc : Nat) (s : State) :
    exec (.fneg k cyc) s = execFneg k cyc s := rfl
@[simp] theorem exec_fmin (k : Nat) (cyc : Nat) (s : State) :
    exec (.fmin k cyc) s = execFmin k cyc s := rfl
@[simp] theorem exec_fmax (k : Nat) (cyc : Nat) (s : State) :
    exec (.fmax k cyc) s = execFmax k cyc s := rfl
@[simp] theorem exec_fcmp (k : Nat) (cyc : Nat) (s : State) :
    exec (.fcmp k cyc) s = execFcmp k cyc s := rfl
@[simp] theorem exec_fcvtq (k : Nat) (cyc : Nat) (s : State) :
    exec (.fcvtq k cyc) s = execFcvtq k cyc s := rfl
@[simp] theorem exec_fcvtf (k : Nat) (cyc : Nat) (s : State) :
    exec (.fcvtf k cyc) s = execFcvtf k cyc s := rfl
@[simp] theorem exec_frcp (k : Nat) (cyc : Nat) (s : State) :
    exec (.frcp k cyc) s = execFrcp k cyc s := rfl
@[simp] theorem exec_frsqrt (k : Nat) (cyc : Nat) (s : State) :
    exec (.frsqrt k cyc) s = execFrsqrt k cyc s := rfl
@[simp] theorem exec_iadd (k : Nat) (cyc : Nat) (s : State) :
    exec (.iadd k cyc) s = execIadd k cyc s := rfl
@[simp] theorem exec_isub (k : Nat) (cyc : Nat) (s : State) :
    exec (.isub k cyc) s = execIsub k cyc s := rfl
@[simp] theorem exec_iand (k : Nat) (cyc : Nat) (s : State) :
    exec (.iand k cyc) s = execIand k cyc s := rfl
@[simp] theorem exec_ior (k : Nat) (cyc : Nat) (s : State) :
    exec (.ior k cyc) s = execIor k cyc s := rfl
@[simp] theorem exec_ishl (k : Nat) (cyc : Nat) (s : State) :
    exec (.ishl k cyc) s = execIshl k cyc s := rfl
@[simp] theorem exec_ishr (k : Nat) (cyc : Nat) (s : State) :
    exec (.ishr k cyc) s = execIshr k cyc s := rfl
@[simp] theorem exec_imov (k : Nat) (cyc : Nat) (s : State) :
    exec (.imov k cyc) s = execImov k cyc s := rfl
@[simp] theorem exec_icmp (k : Nat) (cyc : Nat) (s : State) :
    exec (.icmp k cyc) s = execIcmp k cyc s := rfl
@[simp] theorem exec_seta (k : Nat) (cyc : Nat) (s : State) :
    exec (.seta k cyc) s = execSeta k cyc s := rfl
@[simp] theorem exec_mova (k : Nat) (cyc : Nat) (s : State) :
    exec (.mova k cyc) s = execMova k cyc s := rfl
@[simp] theorem exec_movr (k : Nat) (cyc : Nat) (s : State) :
    exec (.movr k cyc) s = execMovr k cyc s := rfl
@[simp] theorem exec_loop (k : Nat) (cyc : Nat) (s : State) :
    exec (.loop k cyc) s = execLoop k cyc s := rfl
@[simp] theorem exec_sigBr (k : Nat) (cyc : Nat) (s : State) :
    exec (.sigBr k cyc) s = execSigBr k cyc s := rfl
@[simp] theorem exec_sigJmp (k : Nat) (cyc : Nat) (s : State) :
    exec (.sigJmp k cyc) s = execSigJmp k cyc s := rfl
@[simp] theorem exec_sigCall (k : Nat) (cyc : Nat) (s : State) :
    exec (.sigCall k cyc) s = execSigCall k cyc s := rfl
@[simp] theorem exec_ret (k : Nat) (cyc : Nat) (s : State) :
    exec (.ret k cyc) s = execRet k cyc s := rfl
@[simp] theorem exec_sigHalt (k : Nat) (cyc : Nat) (s : State) :
    exec (.sigHalt k cyc) s = execSigHalt k cyc s := rfl
@[simp] theorem exec_waitt (k : Nat) (cyc : Nat) (s : State) :
    exec (.waitt k cyc) s = execWaitt k cyc s := rfl
@[simp] theorem exec_get (k : Nat) (cyc : Nat) (s : State) :
    exec (.get k cyc) s = execGet k cyc s := rfl
@[simp] theorem exec_put (k : Nat) (cyc : Nat) (s : State) :
    exec (.put k cyc) s = execPut k cyc s := rfl
@[simp] theorem exec_signal (k : Nat) (cyc : Nat) (s : State) :
    exec (.signal k cyc) s = execSignal k cyc s := rfl
@[simp] theorem exec_pass (far : Memory) (s : State) :
    exec (.pass far) s = execPass far s := rfl
@[simp] theorem exec_shader (far : Memory) (s : State) :
    exec (.shader far) s = execShader far s := rfl
@[simp] theorem exec_draw (far : Memory) (s : State) :
    exec (.draw far) s = execDraw far s := rfl
@[simp] theorem exec_binJobStart (far : Memory) (s : State) :
    exec (.binJobStart far) s = execBinJobStart far s := rfl
@[simp] theorem exec_waveRecordWrite (t : Nat) (far : Memory) (farOk : Bool) (s : State) :
    exec (.waveRecordWrite t far farOk) s = execWaveRecordWrite t far farOk s := rfl
@[simp] theorem exec_binJobStore (t : Nat) (farOk : Bool) (s : State) :
    exec (.binJobStore t farOk) s = execBinJobStore t farOk s := rfl
@[simp] theorem exec_gfxRelease (q : Nat) (s : State) :
    exec (.gfxRelease q) s = execGfxRelease q s := rfl
@[simp] theorem exec_gfxAutoClr (v : Nat) (s : State) :
    exec (.gfxAutoClr v) s = execGfxAutoClr v s := rfl
@[simp] theorem exec_vblank (s : State) :
    exec .vblank s = execVblank s := rfl
@[simp] theorem exec_scanoutUnderflow (poisoned : Bool) (s : State) :
    exec (.scanoutUnderflow poisoned) s = execScanoutUnderflow poisoned s := rfl
@[simp] theorem exec_hpdUnplug (s : State) :
    exec .hpdUnplug s = execHpdUnplug s := rfl
@[simp] theorem exec_irqHpd (lost : Bool) (trained : Bool) (s : State) :
    exec (.irqHpd lost trained) s = execIrqHpd lost trained s := rfl
@[simp] theorem exec_hpdPlug (s : State) :
    exec .hpdPlug s = execHpdPlug s := rfl
@[simp] theorem exec_dpyAuxGo (v : Nat) (s : State) :
    exec (.dpyAuxGo v) s = execDpyAuxGo v s := rfl
@[simp] theorem exec_rxFrame (n : Nat) (bs : List Byte) (far : Memory) (farOk : Bool) (s : State) :
    exec (.rxFrame n bs far farOk) s = execRxFrame n bs far farOk s := rfl
@[simp] theorem exec_rxDescriptorWrite (n : Nat) (q : Nat) (farOk : Bool) (s : State) :
    exec (.rxDescriptorWrite n q farOk) s = execRxDescriptorWrite n q farOk s := rfl
@[simp] theorem exec_txFrameStart (n : Nat) (crc : Bool) (far : Memory) (farOk : Bool) (s : State) :
    exec (.txFrameStart n crc far farOk) s = execTxFrameStart n crc far farOk s := rfl
@[simp] theorem exec_txFrameDone (n : Nat) (farOk : Bool) (s : State) :
    exec (.txFrameDone n farOk) s = execTxFrameDone n farOk s := rfl
@[simp] theorem exec_shaperTick (s : State) :
    exec .shaperTick s = execShaperTick s := rfl
@[simp] theorem exec_forgive (n : Nat) (q : Nat) (s : State) :
    exec (.forgive n q) s = execForgive n q s := rfl
@[simp] theorem exec_netPnShpqRate (n : Nat) (q : Nat) (v : Nat) (s : State) :
    exec (.netPnShpqRate n q v) s = execNetPnShpqRate n q v s := rfl
@[simp] theorem exec_netPnShpqBucket (n : Nat) (q : Nat) (v : Nat) (s : State) :
    exec (.netPnShpqBucket n q v) s = execNetPnShpqBucket n q v s := rfl
@[simp] theorem exec_hostMemRead (fn : Nat) (bar : Nat) (o : Nat) (n : Nat) (ecrc : Bool) (es : List SramErr) (ans : UAns) (s : State) :
    exec (.hostMemRead fn bar o n ecrc es ans) s = execHostMemRead fn bar o n ecrc es ans s := rfl
@[simp] theorem exec_hostMemWrite (fn : Nat) (bar : Nat) (o : Nat) (bs : List Byte) (ep : Bool) (ecrc : Bool) (ans : UAns) (s : State) :
    exec (.hostMemWrite fn bar o bs ep ecrc ans) s = execHostMemWrite fn bar o bs ep ecrc ans s := rfl
@[simp] theorem exec_configRequest (fn : Nat) (off : Nat) (wr : Option Nat) (s : State) :
    exec (.configRequest fn off wr) s = execConfigRequest fn off wr s := rfl
@[simp] theorem exec_functionLevelReset (n : Nat) (s : State) :
    exec (.functionLevelReset n) s = execFunctionLevelReset n s := rfl
@[simp] theorem exec_pmeTurnOff (s : State) :
    exec .pmeTurnOff s = execPmeTurnOff s := rfl
@[simp] theorem exec_pcieLinkDown (perst : Bool) (s : State) :
    exec (.pcieLinkDown perst) s = execPcieLinkDown perst s := rfl
@[simp] theorem exec_dmaCompletion (e : Nat) (j : Nat) (st : Nat) (bs : List Byte) (ep : Bool) (s : State) :
    exec (.dmaCompletion e j st bs ep) s = execDmaCompletion e j st bs ep s := rfl
@[simp] theorem exec_hello (k : Nat) (bs : List Byte) (seat : Nat) (letter : Nat) (s : State) :
    exec (.hello k bs seat letter) s = execHello k bs seat letter s := rfl
@[simp] theorem exec_data (k : Nat) (bs : List Byte) (s : State) :
    exec (.data k bs) s = execData k bs s := rfl
@[simp] theorem exec_idle (k : Nat) (bs : List Byte) (s : State) :
    exec (.idle k bs) s = execIdle k bs s := rfl
@[simp] theorem exec_nak (k : Nat) (bs : List Byte) (s : State) :
    exec (.nak k bs) s = execNak k bs s := rfl
@[simp] theorem exec_time (k : Nat) (bs : List Byte) (sent : Nat) (rtt : Nat) (turn : Nat) (s : State) :
    exec (.time k bs sent rtt turn) s = execTime k bs sent rtt turn s := rfl
@[simp] theorem exec_ident (k : Nat) (bs : List Byte) (s : State) :
    exec (.ident k bs) s = execIdent k bs s := rfl
@[simp] theorem exec_replayTimeout (k : Nat) (s : State) :
    exec (.replayTimeout k) s = execReplayTimeout k s := rfl
@[simp] theorem exec_linkUp (k : Nat) (lanes : Nat) (s : State) :
    exec (.linkUp k lanes) s = execLinkUp k lanes s := rfl
@[simp] theorem exec_linkDown (k : Nat) (s : State) :
    exec (.linkDown k) s = execLinkDown k s := rfl
@[simp] theorem exec_linkRestart (k : Nat) (s : State) :
    exec (.linkRestart k) s = execLinkRestart k s := rfl
@[simp] theorem exec_identSend (s : State) :
    exec .identSend s = execIdentSend s := rfl
@[simp] theorem exec_identComplete (map : List MapEnt) (s : State) :
    exec (.identComplete map) s = execIdentComplete map s := rfl
@[simp] theorem exec_xwaitTimeout (s : State) :
    exec .xwaitTimeout s = execXwaitTimeout s := rfl
@[simp] theorem exec_heartbeatSend (s : State) :
    exec .heartbeatSend s = execHeartbeatSend s := rfl
@[simp] theorem exec_heartbeatTimeout (seat : Nat) (s : State) :
    exec (.heartbeatTimeout seat) s = execHeartbeatTimeout seat s := rfl
@[simp] theorem exec_cutWait (low : Bool) (s : State) :
    exec (.cutWait low) s = execCutWait low s := rfl
@[simp] theorem exec_redealDone (opened : List LostPart) (valid : Nat) (spares : Nat) (s : State) :
    exec (.redealDone opened valid spares) s = execRedealDone opened valid spares s := rfl
@[simp] theorem exec_timeExchange (s : State) :
    exec .timeExchange s = execTimeExchange s := rfl
@[simp] theorem exec_tblTimeOfs (v : Nat) (s : State) :
    exec (.tblTimeOfs v) s = execTblTimeOfs v s := rfl
@[simp] theorem exec_tblAlarm (s : State) :
    exec .tblAlarm s = execTblAlarm s := rfl
@[simp] theorem exec_errorReport (s : State) :
    exec .errorReport s = execErrorReport s := rfl
@[simp] theorem exec_thermalSample (l : List Nat) (s : State) :
    exec (.thermalSample l) s = execThermalSample l s := rfl
@[simp] theorem exec_thermalCapInterval (s : State) :
    exec .thermalCapInterval s = execThermalCapInterval s := rfl
@[simp] theorem exec_railChange (r : Nat) (good : Bool) (s : State) :
    exec (.railChange r good) s = execRailChange r good s := rfl
@[simp] theorem exec_xtal32RisingEdge (s : State) :
    exec .xtal32RisingEdge s = execXtal32RisingEdge s := rfl
@[simp] theorem exec_pcieLinkUp (speed : Nat) (width : Nat) (s : State) :
    exec (.pcieLinkUp speed width) s = execPcieLinkUp speed width s := rfl
@[simp] theorem exec_ethLinkUp (n : Nat) (s : State) :
    exec (.ethLinkUp n) s = execEthLinkUp n s := rfl
@[simp] theorem exec_ethLinkDown (n : Nat) (s : State) :
    exec (.ethLinkDown n) s = execEthLinkDown n s := rfl
@[simp] theorem exec_wakeOutPulseEnd (s : State) :
    exec .wakeOutPulseEnd s = execWakeOutPulseEnd s := rfl
@[simp] theorem exec_flashReadTimeout (s : State) :
    exec .flashReadTimeout s = execFlashReadTimeout s := rfl
@[simp] theorem exec_dpyAuxDone (reply : Nat) (data : List Byte) (s : State) :
    exec (.dpyAuxDone reply data) s = execDpyAuxDone reply data s := rfl
@[simp] theorem exec_netRuleSlotTimeout (s : State) :
    exec .netRuleSlotTimeout s = execNetRuleSlotTimeout s := rfl

end Sys2Proof.Machine
end

