-- ==== Sys2Proof/Laws/Maps.lean ====
section
/-!
SUPPORT. Laws of the sparse maps, memories and key sets: read after write, and the canonical form.
-/
namespace Sys2Proof.Machine

open Sys2Proof

variable {α : Type}

/-! ### Read after write -/

@[simp] theorem SMap.get_nil (d : Nat → α) (k : Nat) : SMap.get d [] k = d k := rfl

@[simp] theorem SMap.get_erase_self (d : Nat → α) (m : SMap α) (k : Nat) : SMap.get d (SMap.erase m k) k = d k := by
  induction m with
  | nil => rfl
  | cons e m ih =>
    obtain ⟨j, v⟩ := e
    by_cases h : j = k <;> simp [SMap.erase, SMap.get, h, ih]

theorem SMap.get_erase_ne (d : Nat → α) (m : SMap α) {k j : Nat} (hj : j ≠ k) :
    SMap.get d (SMap.erase m k) j = SMap.get d m j := by
  induction m with
  | nil => rfl
  | cons e m ih =>
    obtain ⟨i, v⟩ := e
    by_cases h : i = k
    · subst h; simp [SMap.erase, SMap.get, ih, Ne.symm hj]
    · simp [SMap.erase, SMap.get, h, ih]

@[simp] theorem SMap.get_ins_self (d : Nat → α) (m : SMap α) (k : Nat) (v : α) : SMap.get d (SMap.ins m k v) k = v := by
  induction m with
  | nil => simp [SMap.ins, SMap.get]
  | cons e m ih =>
    obtain ⟨j, w⟩ := e
    by_cases h : j = k
    · simp [SMap.ins, SMap.get, h]
    · by_cases h2 : k < j <;> simp [SMap.ins, SMap.get, h, h2, ih]

theorem SMap.get_ins_ne (d : Nat → α) (m : SMap α) {k j : Nat} (v : α) (hj : j ≠ k) :
    SMap.get d (SMap.ins m k v) j = SMap.get d m j := by
  induction m with
  | nil => simp [SMap.ins, SMap.get, Ne.symm hj]
  | cons e m ih =>
    obtain ⟨i, w⟩ := e
    by_cases h : i = k
    · subst h; simp [SMap.ins, SMap.get, Ne.symm hj]
    · by_cases h2 : k < i
      · simp [SMap.ins, SMap.get, h, h2, Ne.symm hj]
      · simp [SMap.ins, SMap.get, h, h2, ih]

variable [DecidableEq α]

/-- A read after a write: the value written at the key, what was there elsewhere. -/
theorem SMap.get_set (d : Nat → α) (m : SMap α) (k j : Nat) (v : α) :
    SMap.get d (SMap.set d m k v) j = if j = k then v else SMap.get d m j := by
  by_cases hj : j = k
  · subst hj
    by_cases hv : v = d j
    · rw [SMap.set, if_pos hv, SMap.get_erase_self, if_pos rfl, hv]
    · rw [SMap.set, if_neg hv, SMap.get_ins_self, if_pos rfl]
  · by_cases hv : v = d k
    · rw [SMap.set, if_pos hv, SMap.get_erase_ne d m hj, if_neg hj]
    · rw [SMap.set, if_neg hv, SMap.get_ins_ne d m v hj, if_neg hj]

@[simp] theorem SMap.get_set_self (d : Nat → α) (m : SMap α) (k : Nat) (v : α) :
    SMap.get d (SMap.set d m k v) k = v := by simp [SMap.get_set]

theorem SMap.get_set_ne (d : Nat → α) (m : SMap α) {k j : Nat} (v : α) (hj : j ≠ k) :
    SMap.get d (SMap.set d m k v) j = SMap.get d m j := by simp [SMap.get_set, hj]

omit [DecidableEq α] in
/-- Dropping the entries of other keys leaves a read alone. -/
theorem SMap.get_filter (d : Nat → α) (m : SMap α) (p : Nat → Bool) (k : Nat) :
    SMap.get d (m.filter (fun e => p e.1)) k = if p k then SMap.get d m k else d k := by
  induction m with
  | nil => simp
  | cons e m ih =>
    obtain ⟨j, v⟩ := e
    by_cases hp : p j <;> by_cases h : j = k <;> simp_all [List.filter, SMap.get]

/-! ### The canonical form -/

omit [DecidableEq α] in
theorem SMap.rising_mono {m : SMap α} {a b : Nat} (hab : a ≤ b) (h : SMap.rising b m = true) :
    SMap.rising a m = true := by
  cases m with
  | nil => rfl
  | cons e m =>
    simp only [SMap.rising, Bool.and_eq_true, decide_eq_true_eq] at h ⊢
    exact ⟨by omega, h.2⟩

omit [DecidableEq α] in
theorem SMap.rising_erase {m : SMap α} {a : Nat} (k : Nat) (h : SMap.rising a m = true) :
    SMap.rising a (SMap.erase m k) = true := by
  induction m generalizing a with
  | nil => rfl
  | cons e m ih =>
    simp only [SMap.rising, Bool.and_eq_true, decide_eq_true_eq] at h
    by_cases hk : e.1 = k
    · simp only [SMap.erase, hk, if_true]
      exact ih (SMap.rising_mono (by omega) h.2)
    · simp only [SMap.erase, hk, if_false, SMap.rising, Bool.and_eq_true, decide_eq_true_eq]
      exact ⟨h.1, ih h.2⟩

omit [DecidableEq α] in
theorem SMap.rising_ins {m : SMap α} {a k : Nat} (v : α) (h : SMap.rising a m = true) (hk : a ≤ k) :
    SMap.rising a (SMap.ins m k v) = true := by
  induction m generalizing a with
  | nil => simp [SMap.ins, SMap.rising, hk]
  | cons e m ih =>
    simp only [SMap.rising, Bool.and_eq_true, decide_eq_true_eq] at h
    by_cases h1 : e.1 = k
    · simp only [SMap.ins, h1, if_true, SMap.rising, Bool.and_eq_true, decide_eq_true_eq]
      exact ⟨hk, h1 ▸ h.2⟩
    · by_cases h2 : k < e.1
      · simp only [SMap.ins, h1, h2, if_false, if_true, SMap.rising, Bool.and_eq_true, decide_eq_true_eq]
        exact ⟨hk, by omega, h.2⟩
      · simp only [SMap.ins, h1, h2, if_false, SMap.rising, Bool.and_eq_true, decide_eq_true_eq]
        exact ⟨h.1, ih h.2 (by omega)⟩

omit [DecidableEq α] in
theorem SMap.mem_erase {m : SMap α} {k : Nat} {e : Nat × α} (h : e ∈ SMap.erase m k) : e ∈ m := by
  induction m with
  | nil => simp [SMap.erase] at h
  | cons f m ih =>
    by_cases hk : f.1 = k
    · simp only [SMap.erase, hk, if_true] at h; exact List.mem_cons_of_mem _ (ih h)
    · simp only [SMap.erase, hk, if_false, List.mem_cons] at h
      rcases h with h | h
      · exact h ▸ List.mem_cons_self
      · exact List.mem_cons_of_mem _ (ih h)

omit [DecidableEq α] in
theorem SMap.mem_ins {m : SMap α} {k : Nat} {v : α} {e : Nat × α} (h : e ∈ SMap.ins m k v) : e = (k, v) ∨ e ∈ m := by
  induction m with
  | nil => simpa [SMap.ins] using h
  | cons f m ih =>
    by_cases h1 : f.1 = k
    · simp only [SMap.ins, h1, if_true, List.mem_cons] at h
      rcases h with h | h
      · exact .inl h
      · exact .inr (List.mem_cons_of_mem _ h)
    · by_cases h2 : k < f.1
      · simp only [SMap.ins, h1, h2, if_false, if_true, List.mem_cons] at h
        rcases h with h | h | h
        · exact .inl h
        · exact .inr (h ▸ List.mem_cons_self)
        · exact .inr (List.mem_cons_of_mem _ h)
      · simp only [SMap.ins, h1, h2, if_false, List.mem_cons] at h
        rcases h with h | h
        · exact .inr (h ▸ List.mem_cons_self)
        · rcases ih h with h | h
          · exact .inl h
          · exact .inr (List.mem_cons_of_mem _ h)

/-- A write keeps the canonical form. -/
theorem SMap.wf_set {d : Nat → α} {m : SMap α} (k : Nat) (v : α) (h : SMap.wf d m = true) :
    SMap.wf d (SMap.set d m k v) = true := by
  simp only [SMap.wf, Bool.and_eq_true, List.all_eq_true, decide_eq_true_eq] at h ⊢
  by_cases hv : v = d k
  · rw [SMap.set, if_pos hv]
    exact ⟨SMap.rising_erase k h.1, fun e he => h.2 e (SMap.mem_erase he)⟩
  · rw [SMap.set, if_neg hv]
    refine ⟨SMap.rising_ins v h.1 (Nat.zero_le k), fun e he => ?_⟩
    rcases SMap.mem_ins he with rfl | he
    · exact hv
    · exact h.2 e he

omit [DecidableEq α] in
theorem SMap.rising_filter {m : SMap α} {a : Nat} (p : Nat × α → Bool) (h : SMap.rising a m = true) :
    SMap.rising a (m.filter p) = true := by
  induction m generalizing a with
  | nil => rfl
  | cons e m ih =>
    simp only [SMap.rising, Bool.and_eq_true, decide_eq_true_eq] at h
    by_cases hp : p e = true
    · simp only [List.filter, hp, SMap.rising, Bool.and_eq_true, decide_eq_true_eq]
      exact ⟨h.1, ih h.2⟩
    · simp only [List.filter, hp]
      exact ih (SMap.rising_mono (by omega) h.2)

/-- Dropping entries keeps the canonical form. -/
theorem SMap.wf_filter {d : Nat → α} {m : SMap α} (p : Nat × α → Bool) (h : SMap.wf d m = true) :
    SMap.wf d (m.filter p) = true := by
  simp only [SMap.wf, Bool.and_eq_true, List.all_eq_true] at h ⊢
  exact ⟨SMap.rising_filter p h.1, fun e he => h.2 e (List.mem_filter.mp he).1⟩

omit [DecidableEq α] in
/-- Two canonical maps that read alike are equal data. -/
theorem SMap.get_lt (d : Nat → α) {m : SMap α} {a k : Nat} (h : SMap.rising a m = true) (hk : k < a) :
    SMap.get d m k = d k := by
  induction m generalizing a with
  | nil => rfl
  | cons e m ih =>
    simp only [SMap.rising, Bool.and_eq_true, decide_eq_true_eq] at h
    have : e.1 ≠ k := by omega
    simp only [SMap.get, this, if_false]
    exact ih h.2 (by omega)

/-! ### Memories -/

theorem Mem.get_set (m : Memory) (a b : Nat) (v : Byte) :
    Mem.get (Mem.set m a v) b = if b = a then v else Mem.get m b := SMap.get_set memDefault m a b v

theorem Mem.set_wf {m : Memory} (a : Nat) (v : Byte) (h : Memory.wf m = true) : Memory.wf (Mem.set m a v) = true :=
  SMap.wf_set a v h

theorem Mem.write_wf {m : Memory} (a : Nat) (bs : List Byte) (h : Memory.wf m = true) :
    Memory.wf (Mem.write m a bs) = true := by
  induction bs generalizing m a with
  | nil => exact h
  | cons b bs ih => exact ih (a + 1) (Mem.set_wf a b h)

theorem Mem.wr_wf {m : Memory} (a n v : Nat) (h : Memory.wf m = true) : Memory.wf (Mem.wr m a n v) = true :=
  Mem.write_wf a _ h

theorem Mem.zero_wf {m : Memory} (lo hi : Nat) (h : Memory.wf m = true) : Memory.wf (Mem.zero m lo hi) = true :=
  SMap.wf_filter _ h

theorem Mem.fill_wf {m : Memory} (a n : Nat) (v : Byte) (h : Memory.wf m = true) :
    Memory.wf (Mem.fill m a n v) = true := by
  induction n generalizing m a with
  | zero => exact h
  | succ n ih => exact ih (a + 1) (Mem.set_wf a v h)

theorem kittyWrite_wf {m : Memory} (a : Nat) (bs : List Byte) (h : Memory.wf m = true) :
    Memory.wf (kittyWrite m a bs) = true := by
  induction bs generalizing m a with
  | nil => exact h
  | cons b bs ih =>
    by_cases hk : kittyHole a = true
    · simpa [kittyWrite, hk] using ih (a + 1) h
    · simpa [kittyWrite, hk] using ih (a + 1) (Mem.set_wf a b h)

/-- Bytes outside a written range read as before. -/
theorem Mem.get_write_out (m : Memory) (a : Nat) (bs : List Byte) (k : Nat) (hk : k < a ∨ a + bs.length ≤ k) :
    Mem.get (Mem.write m a bs) k = Mem.get m k := by
  induction bs generalizing m a with
  | nil => rfl
  | cons b bs ih =>
    simp only [List.length_cons] at hk
    rw [Mem.write, ih _ _ (by omega), Mem.get_set, if_neg (by omega)]

/-- Bytes of a written range read as written. -/
theorem Mem.get_write_in (m : Memory) (a : Nat) (bs : List Byte) (i : Nat) (hi : i < bs.length) :
    Mem.get (Mem.write m a bs) (a + i) = bs[i] := by
  induction bs generalizing m a i with
  | nil => simp at hi
  | cons b bs ih =>
    cases i with
    | zero =>
      rw [Mem.write, Mem.get_write_out _ _ _ _ (by omega)]
      simp [Mem.get_set]
    | succ i =>
      have := ih (Mem.set m a b) (a + 1) i (by simpa using hi)
      rw [Mem.write, show a + (i + 1) = a + 1 + i from by omega, this]
      rfl

/-- Outside an emptied range bytes read as before, inside they read 0. -/
theorem Mem.get_zero (m : Memory) (lo hi k : Nat) :
    Mem.get (Mem.zero m lo hi) k = if k < lo ∨ hi ≤ k then Mem.get m k else 0 := by
  have := SMap.get_filter memDefault m (fun a => decide (a < lo ∨ hi ≤ a)) k
  simpa [Mem.get, Mem.zero, memDefault] using this

/-! ### Key sets -/

theorem NSet.mem_add (s : NSet) (k j : Nat) : j ∈ NSet.add s k ↔ j = k ∨ j ∈ s := by
  induction s with
  | nil => simp [NSet.add]
  | cons i s ih =>
    by_cases h1 : i = k
    · subst h1; simp [NSet.add]
    · by_cases h2 : k < i
      · simp [NSet.add, h1, h2]
      · simp only [NSet.add, h1, h2, if_false, List.mem_cons, ih]
        exact ⟨fun h => by tauto, fun h => by tauto⟩

theorem NSet.has_iff (s : NSet) (k : Nat) : NSet.has s k = true ↔ k ∈ s := by simp [NSet.has]

theorem NSet.has_add (s : NSet) (k j : Nat) : NSet.has (NSet.add s k) j = (j == k || NSet.has s j) := by
  rw [Bool.eq_iff_iff, NSet.has_iff, NSet.mem_add, Bool.or_eq_true, NSet.has_iff, beq_iff_eq]

theorem NSet.has_del (s : NSet) (k j : Nat) : NSet.has (NSet.del s k) j = (j != k && NSet.has s j) := by
  rw [Bool.eq_iff_iff]
  simp [NSet.has, NSet.del, and_comm]

theorem NSet.has_put (s : NSet) (k j : Nat) (b : Bool) :
    NSet.has (NSet.put s k b) j = if j = k then b else NSet.has s j := by
  cases b <;> by_cases h : j = k <;> simp [NSet.put, NSet.has_add, NSet.has_del, h]

theorem NSet.wf_mono {s : NSet} {a b : Nat} (hab : a ≤ b) (h : NSet.wf b s = true) : NSet.wf a s = true := by
  cases s with
  | nil => rfl
  | cons e s =>
    simp only [NSet.wf, Bool.and_eq_true, decide_eq_true_eq] at h ⊢
    exact ⟨by omega, h.2⟩

theorem NSet.wf_add {s : NSet} {a k : Nat} (h : NSet.wf a s = true) (hk : a ≤ k) : NSet.wf a (NSet.add s k) = true := by
  induction s generalizing a with
  | nil => simp [NSet.add, NSet.wf, hk]
  | cons e s ih =>
    simp only [NSet.wf, Bool.and_eq_true, decide_eq_true_eq] at h
    by_cases h1 : e = k
    · simp only [NSet.add, h1, if_true, NSet.wf, Bool.and_eq_true, decide_eq_true_eq]; exact ⟨hk, h1 ▸ h.2⟩
    · by_cases h2 : k < e
      · simp only [NSet.add, h1, h2, if_true, if_false, NSet.wf, Bool.and_eq_true, decide_eq_true_eq]
        exact ⟨hk, by omega, h.2⟩
      · simp only [NSet.add, h1, h2, if_false, NSet.wf, Bool.and_eq_true, decide_eq_true_eq]
        exact ⟨h.1, ih h.2 (by omega)⟩

theorem NSet.wf_del {s : NSet} {a : Nat} (k : Nat) (h : NSet.wf a s = true) : NSet.wf a (NSet.del s k) = true := by
  induction s generalizing a with
  | nil => rfl
  | cons e s ih =>
    simp only [NSet.wf, Bool.and_eq_true, decide_eq_true_eq] at h
    by_cases h1 : e = k
    · simp only [NSet.del, List.filter, h1, bne_self_eq_false]
      exact ih (NSet.wf_mono (by omega) h.2)
    · simp only [NSet.del, List.filter, bne_iff_ne.mpr h1, NSet.wf, Bool.and_eq_true, decide_eq_true_eq]
      exact ⟨h.1, ih h.2⟩

end Sys2Proof.Machine
end

