-- ==== Sys2Proof/Laws/State.lean ====
section
/-!
SUPPORT. What the named operations of Machine/Ops.lean leave of each part of the state, and what a register reads after it
is written.
-/
namespace Sys2Proof.Machine

open Sys2Proof

namespace Hw

/-! ### Parts of the state that an operation leaves alone -/

@[simp] theorem wr_latch (h : Hw) (a v : Nat) : (h.wr a v).latch = h.latch := (rfl)
@[simp] theorem wr_lowHold (h : Hw) (a v : Nat) : (h.wr a v).lowHold = h.lowHold := (rfl)
@[simp] theorem wr_free (h : Hw) (a v : Nat) : (h.wr a v).free = h.free := (rfl)
@[simp] theorem wr_ident (h : Hw) (a v : Nat) : (h.wr a v).ident = h.ident := (rfl)
@[simp] theorem wr_clk (h : Hw) (a v : Nat) : (h.wr a v).clk = h.clk := (rfl)
@[simp] theorem wr_rst (h : Hw) (a v : Nat) : (h.wr a v).rst = h.rst := (rfl)
@[simp] theorem wr_pwr' (h : Hw) (a v : Nat) : (h.wr a v).pwr' = h.pwr' := (rfl)
@[simp] theorem wr_err (h : Hw) (a v : Nat) : (h.wr a v).err = h.err := (rfl)
@[simp] theorem wr_mbx (h : Hw) (a v : Nat) : (h.wr a v).mbx = h.mbx := (rfl)
@[simp] theorem wr_pcie (h : Hw) (a v : Nat) : (h.wr a v).pcie = h.pcie := (rfl)
@[simp] theorem wr_noc (h : Hw) (a v : Nat) : (h.wr a v).noc = h.noc := (rfl)
@[simp] theorem wr_mem (h : Hw) (a v : Nat) : (h.wr a v).mem = h.mem := (rfl)
@[simp] theorem wr_hbm (h : Hw) (a v : Nat) : (h.wr a v).hbm = h.hbm := (rfl)
@[simp] theorem wr_tiles (h : Hw) (a v : Nat) : (h.wr a v).tiles = h.tiles := (rfl)
@[simp] theorem wr_part (h : Hw) (a v : Nat) : (h.wr a v).part = h.part := (rfl)
@[simp] theorem wr_sns (h : Hw) (a v : Nat) : (h.wr a v).sns = h.sns := (rfl)
@[simp] theorem wr_sig (h : Hw) (a v : Nat) : (h.wr a v).sig = h.sig := (rfl)
@[simp] theorem wr_gfx (h : Hw) (a v : Nat) : (h.wr a v).gfx = h.gfx := (rfl)
@[simp] theorem wr_dpy (h : Hw) (a v : Nat) : (h.wr a v).dpy = h.dpy := (rfl)
@[simp] theorem wr_net (h : Hw) (a v : Nat) : (h.wr a v).net = h.net := (rfl)
@[simp] theorem wr_tbl (h : Hw) (a v : Nat) : (h.wr a v).tbl = h.tbl := (rfl)
@[simp] theorem wr_fw (h : Hw) (a v : Nat) : (h.wr a v).fw = h.fw := (rfl)
@[simp] theorem wr_cfg (h : Hw) (a v : Nat) : (h.wr a v).cfg = h.cfg := (rfl)
@[simp] theorem wr_fab (h : Hw) (a v : Nat) : (h.wr a v).fab = h.fab := (rfl)
@[simp] theorem wr_tap (h : Hw) (a v : Nat) : (h.wr a v).tap = h.tap := (rfl)

@[simp] theorem put_latch (h : Hw) (f : Fld) (v : Nat) : (h.put f v).latch = h.latch := (rfl)
@[simp] theorem put_lowHold (h : Hw) (f : Fld) (v : Nat) : (h.put f v).lowHold = h.lowHold := (rfl)
@[simp] theorem put_free (h : Hw) (f : Fld) (v : Nat) : (h.put f v).free = h.free := (rfl)
@[simp] theorem put_ident (h : Hw) (f : Fld) (v : Nat) : (h.put f v).ident = h.ident := (rfl)
@[simp] theorem put_clk (h : Hw) (f : Fld) (v : Nat) : (h.put f v).clk = h.clk := (rfl)
@[simp] theorem put_rst (h : Hw) (f : Fld) (v : Nat) : (h.put f v).rst = h.rst := (rfl)
@[simp] theorem put_pwr' (h : Hw) (f : Fld) (v : Nat) : (h.put f v).pwr' = h.pwr' := (rfl)
@[simp] theorem put_err (h : Hw) (f : Fld) (v : Nat) : (h.put f v).err = h.err := (rfl)
@[simp] theorem put_mbx (h : Hw) (f : Fld) (v : Nat) : (h.put f v).mbx = h.mbx := (rfl)
@[simp] theorem put_pcie (h : Hw) (f : Fld) (v : Nat) : (h.put f v).pcie = h.pcie := (rfl)
@[simp] theorem put_noc (h : Hw) (f : Fld) (v : Nat) : (h.put f v).noc = h.noc := (rfl)
@[simp] theorem put_mem (h : Hw) (f : Fld) (v : Nat) : (h.put f v).mem = h.mem := (rfl)
@[simp] theorem put_hbm (h : Hw) (f : Fld) (v : Nat) : (h.put f v).hbm = h.hbm := (rfl)
@[simp] theorem put_tiles (h : Hw) (f : Fld) (v : Nat) : (h.put f v).tiles = h.tiles := (rfl)
@[simp] theorem put_part (h : Hw) (f : Fld) (v : Nat) : (h.put f v).part = h.part := (rfl)
@[simp] theorem put_sns (h : Hw) (f : Fld) (v : Nat) : (h.put f v).sns = h.sns := (rfl)
@[simp] theorem put_sig (h : Hw) (f : Fld) (v : Nat) : (h.put f v).sig = h.sig := (rfl)
@[simp] theorem put_gfx (h : Hw) (f : Fld) (v : Nat) : (h.put f v).gfx = h.gfx := (rfl)
@[simp] theorem put_dpy (h : Hw) (f : Fld) (v : Nat) : (h.put f v).dpy = h.dpy := (rfl)
@[simp] theorem put_net (h : Hw) (f : Fld) (v : Nat) : (h.put f v).net = h.net := (rfl)
@[simp] theorem put_tbl (h : Hw) (f : Fld) (v : Nat) : (h.put f v).tbl = h.tbl := (rfl)
@[simp] theorem put_fw (h : Hw) (f : Fld) (v : Nat) : (h.put f v).fw = h.fw := (rfl)
@[simp] theorem put_cfg (h : Hw) (f : Fld) (v : Nat) : (h.put f v).cfg = h.cfg := (rfl)
@[simp] theorem put_fab (h : Hw) (f : Fld) (v : Nat) : (h.put f v).fab = h.fab := (rfl)
@[simp] theorem put_tap (h : Hw) (f : Fld) (v : Nat) : (h.put f v).tap = h.tap := (rfl)

@[simp] theorem putB_latch (h : Hw) (f : Fld) (b : Bool) : (h.putB f b).latch = h.latch := (rfl)
@[simp] theorem putB_lowHold (h : Hw) (f : Fld) (b : Bool) : (h.putB f b).lowHold = h.lowHold := (rfl)
@[simp] theorem putB_free (h : Hw) (f : Fld) (b : Bool) : (h.putB f b).free = h.free := (rfl)
@[simp] theorem putB_ident (h : Hw) (f : Fld) (b : Bool) : (h.putB f b).ident = h.ident := (rfl)
@[simp] theorem putB_clk (h : Hw) (f : Fld) (b : Bool) : (h.putB f b).clk = h.clk := (rfl)
@[simp] theorem putB_rst (h : Hw) (f : Fld) (b : Bool) : (h.putB f b).rst = h.rst := (rfl)
@[simp] theorem putB_pwr' (h : Hw) (f : Fld) (b : Bool) : (h.putB f b).pwr' = h.pwr' := (rfl)
@[simp] theorem putB_err (h : Hw) (f : Fld) (b : Bool) : (h.putB f b).err = h.err := (rfl)
@[simp] theorem putB_mbx (h : Hw) (f : Fld) (b : Bool) : (h.putB f b).mbx = h.mbx := (rfl)
@[simp] theorem putB_pcie (h : Hw) (f : Fld) (b : Bool) : (h.putB f b).pcie = h.pcie := (rfl)
@[simp] theorem putB_noc (h : Hw) (f : Fld) (b : Bool) : (h.putB f b).noc = h.noc := (rfl)
@[simp] theorem putB_mem (h : Hw) (f : Fld) (b : Bool) : (h.putB f b).mem = h.mem := (rfl)
@[simp] theorem putB_hbm (h : Hw) (f : Fld) (b : Bool) : (h.putB f b).hbm = h.hbm := (rfl)
@[simp] theorem putB_tiles (h : Hw) (f : Fld) (b : Bool) : (h.putB f b).tiles = h.tiles := (rfl)
@[simp] theorem putB_part (h : Hw) (f : Fld) (b : Bool) : (h.putB f b).part = h.part := (rfl)
@[simp] theorem putB_sns (h : Hw) (f : Fld) (b : Bool) : (h.putB f b).sns = h.sns := (rfl)
@[simp] theorem putB_sig (h : Hw) (f : Fld) (b : Bool) : (h.putB f b).sig = h.sig := (rfl)
@[simp] theorem putB_gfx (h : Hw) (f : Fld) (b : Bool) : (h.putB f b).gfx = h.gfx := (rfl)
@[simp] theorem putB_dpy (h : Hw) (f : Fld) (b : Bool) : (h.putB f b).dpy = h.dpy := (rfl)
@[simp] theorem putB_net (h : Hw) (f : Fld) (b : Bool) : (h.putB f b).net = h.net := (rfl)
@[simp] theorem putB_tbl (h : Hw) (f : Fld) (b : Bool) : (h.putB f b).tbl = h.tbl := (rfl)
@[simp] theorem putB_fw (h : Hw) (f : Fld) (b : Bool) : (h.putB f b).fw = h.fw := (rfl)
@[simp] theorem putB_cfg (h : Hw) (f : Fld) (b : Bool) : (h.putB f b).cfg = h.cfg := (rfl)
@[simp] theorem putB_fab (h : Hw) (f : Fld) (b : Bool) : (h.putB f b).fab = h.fab := (rfl)
@[simp] theorem putB_tap (h : Hw) (f : Fld) (b : Bool) : (h.putB f b).tap = h.tap := (rfl)

@[simp] theorem putBit_latch (h : Hw) (f : Fld) (k : Nat) (b : Bool) : (h.putBit f k b).latch = h.latch := (rfl)
@[simp] theorem putBit_lowHold (h : Hw) (f : Fld) (k : Nat) (b : Bool) : (h.putBit f k b).lowHold = h.lowHold := (rfl)
@[simp] theorem putBit_free (h : Hw) (f : Fld) (k : Nat) (b : Bool) : (h.putBit f k b).free = h.free := (rfl)
@[simp] theorem putBit_ident (h : Hw) (f : Fld) (k : Nat) (b : Bool) : (h.putBit f k b).ident = h.ident := (rfl)
@[simp] theorem putBit_clk (h : Hw) (f : Fld) (k : Nat) (b : Bool) : (h.putBit f k b).clk = h.clk := (rfl)
@[simp] theorem putBit_rst (h : Hw) (f : Fld) (k : Nat) (b : Bool) : (h.putBit f k b).rst = h.rst := (rfl)
@[simp] theorem putBit_pwr' (h : Hw) (f : Fld) (k : Nat) (b : Bool) : (h.putBit f k b).pwr' = h.pwr' := (rfl)
@[simp] theorem putBit_err (h : Hw) (f : Fld) (k : Nat) (b : Bool) : (h.putBit f k b).err = h.err := (rfl)
@[simp] theorem putBit_mbx (h : Hw) (f : Fld) (k : Nat) (b : Bool) : (h.putBit f k b).mbx = h.mbx := (rfl)
@[simp] theorem putBit_pcie (h : Hw) (f : Fld) (k : Nat) (b : Bool) : (h.putBit f k b).pcie = h.pcie := (rfl)
@[simp] theorem putBit_noc (h : Hw) (f : Fld) (k : Nat) (b : Bool) : (h.putBit f k b).noc = h.noc := (rfl)
@[simp] theorem putBit_mem (h : Hw) (f : Fld) (k : Nat) (b : Bool) : (h.putBit f k b).mem = h.mem := (rfl)
@[simp] theorem putBit_hbm (h : Hw) (f : Fld) (k : Nat) (b : Bool) : (h.putBit f k b).hbm = h.hbm := (rfl)
@[simp] theorem putBit_tiles (h : Hw) (f : Fld) (k : Nat) (b : Bool) : (h.putBit f k b).tiles = h.tiles := (rfl)
@[simp] theorem putBit_part (h : Hw) (f : Fld) (k : Nat) (b : Bool) : (h.putBit f k b).part = h.part := (rfl)
@[simp] theorem putBit_sns (h : Hw) (f : Fld) (k : Nat) (b : Bool) : (h.putBit f k b).sns = h.sns := (rfl)
@[simp] theorem putBit_sig (h : Hw) (f : Fld) (k : Nat) (b : Bool) : (h.putBit f k b).sig = h.sig := (rfl)
@[simp] theorem putBit_gfx (h : Hw) (f : Fld) (k : Nat) (b : Bool) : (h.putBit f k b).gfx = h.gfx := (rfl)
@[simp] theorem putBit_dpy (h : Hw) (f : Fld) (k : Nat) (b : Bool) : (h.putBit f k b).dpy = h.dpy := (rfl)
@[simp] theorem putBit_net (h : Hw) (f : Fld) (k : Nat) (b : Bool) : (h.putBit f k b).net = h.net := (rfl)
@[simp] theorem putBit_tbl (h : Hw) (f : Fld) (k : Nat) (b : Bool) : (h.putBit f k b).tbl = h.tbl := (rfl)
@[simp] theorem putBit_fw (h : Hw) (f : Fld) (k : Nat) (b : Bool) : (h.putBit f k b).fw = h.fw := (rfl)
@[simp] theorem putBit_cfg (h : Hw) (f : Fld) (k : Nat) (b : Bool) : (h.putBit f k b).cfg = h.cfg := (rfl)
@[simp] theorem putBit_fab (h : Hw) (f : Fld) (k : Nat) (b : Bool) : (h.putBit f k b).fab = h.fab := (rfl)
@[simp] theorem putBit_tap (h : Hw) (f : Fld) (k : Nat) (b : Bool) : (h.putBit f k b).tap = h.tap := (rfl)

@[simp] theorem put2_latch (h : Hw) (f : Fld) (k v : Nat) : (h.put2 f k v).latch = h.latch := (rfl)
@[simp] theorem put2_lowHold (h : Hw) (f : Fld) (k v : Nat) : (h.put2 f k v).lowHold = h.lowHold := (rfl)
@[simp] theorem put2_free (h : Hw) (f : Fld) (k v : Nat) : (h.put2 f k v).free = h.free := (rfl)
@[simp] theorem put2_ident (h : Hw) (f : Fld) (k v : Nat) : (h.put2 f k v).ident = h.ident := (rfl)
@[simp] theorem put2_clk (h : Hw) (f : Fld) (k v : Nat) : (h.put2 f k v).clk = h.clk := (rfl)
@[simp] theorem put2_rst (h : Hw) (f : Fld) (k v : Nat) : (h.put2 f k v).rst = h.rst := (rfl)
@[simp] theorem put2_pwr' (h : Hw) (f : Fld) (k v : Nat) : (h.put2 f k v).pwr' = h.pwr' := (rfl)
@[simp] theorem put2_err (h : Hw) (f : Fld) (k v : Nat) : (h.put2 f k v).err = h.err := (rfl)
@[simp] theorem put2_mbx (h : Hw) (f : Fld) (k v : Nat) : (h.put2 f k v).mbx = h.mbx := (rfl)
@[simp] theorem put2_pcie (h : Hw) (f : Fld) (k v : Nat) : (h.put2 f k v).pcie = h.pcie := (rfl)
@[simp] theorem put2_noc (h : Hw) (f : Fld) (k v : Nat) : (h.put2 f k v).noc = h.noc := (rfl)
@[simp] theorem put2_mem (h : Hw) (f : Fld) (k v : Nat) : (h.put2 f k v).mem = h.mem := (rfl)
@[simp] theorem put2_hbm (h : Hw) (f : Fld) (k v : Nat) : (h.put2 f k v).hbm = h.hbm := (rfl)
@[simp] theorem put2_tiles (h : Hw) (f : Fld) (k v : Nat) : (h.put2 f k v).tiles = h.tiles := (rfl)
@[simp] theorem put2_part (h : Hw) (f : Fld) (k v : Nat) : (h.put2 f k v).part = h.part := (rfl)
@[simp] theorem put2_sns (h : Hw) (f : Fld) (k v : Nat) : (h.put2 f k v).sns = h.sns := (rfl)
@[simp] theorem put2_sig (h : Hw) (f : Fld) (k v : Nat) : (h.put2 f k v).sig = h.sig := (rfl)
@[simp] theorem put2_gfx (h : Hw) (f : Fld) (k v : Nat) : (h.put2 f k v).gfx = h.gfx := (rfl)
@[simp] theorem put2_dpy (h : Hw) (f : Fld) (k v : Nat) : (h.put2 f k v).dpy = h.dpy := (rfl)
@[simp] theorem put2_net (h : Hw) (f : Fld) (k v : Nat) : (h.put2 f k v).net = h.net := (rfl)
@[simp] theorem put2_tbl (h : Hw) (f : Fld) (k v : Nat) : (h.put2 f k v).tbl = h.tbl := (rfl)
@[simp] theorem put2_fw (h : Hw) (f : Fld) (k v : Nat) : (h.put2 f k v).fw = h.fw := (rfl)
@[simp] theorem put2_cfg (h : Hw) (f : Fld) (k v : Nat) : (h.put2 f k v).cfg = h.cfg := (rfl)
@[simp] theorem put2_fab (h : Hw) (f : Fld) (k v : Nat) : (h.put2 f k v).fab = h.fab := (rfl)
@[simp] theorem put2_tap (h : Hw) (f : Fld) (k v : Nat) : (h.put2 f k v).tap = h.tap := (rfl)

@[simp] theorem bumpBy_latch (h : Hw) (f : Fld) (n : Nat) : (h.bumpBy f n).latch = h.latch := (rfl)
@[simp] theorem bumpBy_lowHold (h : Hw) (f : Fld) (n : Nat) : (h.bumpBy f n).lowHold = h.lowHold := (rfl)
@[simp] theorem bumpBy_free (h : Hw) (f : Fld) (n : Nat) : (h.bumpBy f n).free = h.free := (rfl)
@[simp] theorem bumpBy_ident (h : Hw) (f : Fld) (n : Nat) : (h.bumpBy f n).ident = h.ident := (rfl)
@[simp] theorem bumpBy_clk (h : Hw) (f : Fld) (n : Nat) : (h.bumpBy f n).clk = h.clk := (rfl)
@[simp] theorem bumpBy_rst (h : Hw) (f : Fld) (n : Nat) : (h.bumpBy f n).rst = h.rst := (rfl)
@[simp] theorem bumpBy_pwr' (h : Hw) (f : Fld) (n : Nat) : (h.bumpBy f n).pwr' = h.pwr' := (rfl)
@[simp] theorem bumpBy_err (h : Hw) (f : Fld) (n : Nat) : (h.bumpBy f n).err = h.err := (rfl)
@[simp] theorem bumpBy_mbx (h : Hw) (f : Fld) (n : Nat) : (h.bumpBy f n).mbx = h.mbx := (rfl)
@[simp] theorem bumpBy_pcie (h : Hw) (f : Fld) (n : Nat) : (h.bumpBy f n).pcie = h.pcie := (rfl)
@[simp] theorem bumpBy_noc (h : Hw) (f : Fld) (n : Nat) : (h.bumpBy f n).noc = h.noc := (rfl)
@[simp] theorem bumpBy_mem (h : Hw) (f : Fld) (n : Nat) : (h.bumpBy f n).mem = h.mem := (rfl)
@[simp] theorem bumpBy_hbm (h : Hw) (f : Fld) (n : Nat) : (h.bumpBy f n).hbm = h.hbm := (rfl)
@[simp] theorem bumpBy_tiles (h : Hw) (f : Fld) (n : Nat) : (h.bumpBy f n).tiles = h.tiles := (rfl)
@[simp] theorem bumpBy_part (h : Hw) (f : Fld) (n : Nat) : (h.bumpBy f n).part = h.part := (rfl)
@[simp] theorem bumpBy_sns (h : Hw) (f : Fld) (n : Nat) : (h.bumpBy f n).sns = h.sns := (rfl)
@[simp] theorem bumpBy_sig (h : Hw) (f : Fld) (n : Nat) : (h.bumpBy f n).sig = h.sig := (rfl)
@[simp] theorem bumpBy_gfx (h : Hw) (f : Fld) (n : Nat) : (h.bumpBy f n).gfx = h.gfx := (rfl)
@[simp] theorem bumpBy_dpy (h : Hw) (f : Fld) (n : Nat) : (h.bumpBy f n).dpy = h.dpy := (rfl)
@[simp] theorem bumpBy_net (h : Hw) (f : Fld) (n : Nat) : (h.bumpBy f n).net = h.net := (rfl)
@[simp] theorem bumpBy_tbl (h : Hw) (f : Fld) (n : Nat) : (h.bumpBy f n).tbl = h.tbl := (rfl)
@[simp] theorem bumpBy_fw (h : Hw) (f : Fld) (n : Nat) : (h.bumpBy f n).fw = h.fw := (rfl)
@[simp] theorem bumpBy_cfg (h : Hw) (f : Fld) (n : Nat) : (h.bumpBy f n).cfg = h.cfg := (rfl)
@[simp] theorem bumpBy_fab (h : Hw) (f : Fld) (n : Nat) : (h.bumpBy f n).fab = h.fab := (rfl)
@[simp] theorem bumpBy_tap (h : Hw) (f : Fld) (n : Nat) : (h.bumpBy f n).tap = h.tap := (rfl)

@[simp] theorem bump_latch (h : Hw) (f : Fld) : (h.bump f).latch = h.latch := (rfl)
@[simp] theorem bump_lowHold (h : Hw) (f : Fld) : (h.bump f).lowHold = h.lowHold := (rfl)
@[simp] theorem bump_free (h : Hw) (f : Fld) : (h.bump f).free = h.free := (rfl)
@[simp] theorem bump_ident (h : Hw) (f : Fld) : (h.bump f).ident = h.ident := (rfl)
@[simp] theorem bump_clk (h : Hw) (f : Fld) : (h.bump f).clk = h.clk := (rfl)
@[simp] theorem bump_rst (h : Hw) (f : Fld) : (h.bump f).rst = h.rst := (rfl)
@[simp] theorem bump_pwr' (h : Hw) (f : Fld) : (h.bump f).pwr' = h.pwr' := (rfl)
@[simp] theorem bump_err (h : Hw) (f : Fld) : (h.bump f).err = h.err := (rfl)
@[simp] theorem bump_mbx (h : Hw) (f : Fld) : (h.bump f).mbx = h.mbx := (rfl)
@[simp] theorem bump_pcie (h : Hw) (f : Fld) : (h.bump f).pcie = h.pcie := (rfl)
@[simp] theorem bump_noc (h : Hw) (f : Fld) : (h.bump f).noc = h.noc := (rfl)
@[simp] theorem bump_mem (h : Hw) (f : Fld) : (h.bump f).mem = h.mem := (rfl)
@[simp] theorem bump_hbm (h : Hw) (f : Fld) : (h.bump f).hbm = h.hbm := (rfl)
@[simp] theorem bump_tiles (h : Hw) (f : Fld) : (h.bump f).tiles = h.tiles := (rfl)
@[simp] theorem bump_part (h : Hw) (f : Fld) : (h.bump f).part = h.part := (rfl)
@[simp] theorem bump_sns (h : Hw) (f : Fld) : (h.bump f).sns = h.sns := (rfl)
@[simp] theorem bump_sig (h : Hw) (f : Fld) : (h.bump f).sig = h.sig := (rfl)
@[simp] theorem bump_gfx (h : Hw) (f : Fld) : (h.bump f).gfx = h.gfx := (rfl)
@[simp] theorem bump_dpy (h : Hw) (f : Fld) : (h.bump f).dpy = h.dpy := (rfl)
@[simp] theorem bump_net (h : Hw) (f : Fld) : (h.bump f).net = h.net := (rfl)
@[simp] theorem bump_tbl (h : Hw) (f : Fld) : (h.bump f).tbl = h.tbl := (rfl)
@[simp] theorem bump_fw (h : Hw) (f : Fld) : (h.bump f).fw = h.fw := (rfl)
@[simp] theorem bump_cfg (h : Hw) (f : Fld) : (h.bump f).cfg = h.cfg := (rfl)
@[simp] theorem bump_fab (h : Hw) (f : Fld) : (h.bump f).fab = h.fab := (rfl)
@[simp] theorem bump_tap (h : Hw) (f : Fld) : (h.bump f).tap = h.tap := (rfl)

@[simp] theorem wr64_latch (h : Hw) (lo hi v : Nat) : (h.wr64 lo hi v).latch = h.latch := (rfl)
@[simp] theorem wr64_lowHold (h : Hw) (lo hi v : Nat) : (h.wr64 lo hi v).lowHold = h.lowHold := (rfl)
@[simp] theorem wr64_free (h : Hw) (lo hi v : Nat) : (h.wr64 lo hi v).free = h.free := (rfl)
@[simp] theorem wr64_ident (h : Hw) (lo hi v : Nat) : (h.wr64 lo hi v).ident = h.ident := (rfl)
@[simp] theorem wr64_clk (h : Hw) (lo hi v : Nat) : (h.wr64 lo hi v).clk = h.clk := (rfl)
@[simp] theorem wr64_rst (h : Hw) (lo hi v : Nat) : (h.wr64 lo hi v).rst = h.rst := (rfl)
@[simp] theorem wr64_pwr' (h : Hw) (lo hi v : Nat) : (h.wr64 lo hi v).pwr' = h.pwr' := (rfl)
@[simp] theorem wr64_err (h : Hw) (lo hi v : Nat) : (h.wr64 lo hi v).err = h.err := (rfl)
@[simp] theorem wr64_mbx (h : Hw) (lo hi v : Nat) : (h.wr64 lo hi v).mbx = h.mbx := (rfl)
@[simp] theorem wr64_pcie (h : Hw) (lo hi v : Nat) : (h.wr64 lo hi v).pcie = h.pcie := (rfl)
@[simp] theorem wr64_noc (h : Hw) (lo hi v : Nat) : (h.wr64 lo hi v).noc = h.noc := (rfl)
@[simp] theorem wr64_mem (h : Hw) (lo hi v : Nat) : (h.wr64 lo hi v).mem = h.mem := (rfl)
@[simp] theorem wr64_hbm (h : Hw) (lo hi v : Nat) : (h.wr64 lo hi v).hbm = h.hbm := (rfl)
@[simp] theorem wr64_tiles (h : Hw) (lo hi v : Nat) : (h.wr64 lo hi v).tiles = h.tiles := (rfl)
@[simp] theorem wr64_part (h : Hw) (lo hi v : Nat) : (h.wr64 lo hi v).part = h.part := (rfl)
@[simp] theorem wr64_sns (h : Hw) (lo hi v : Nat) : (h.wr64 lo hi v).sns = h.sns := (rfl)
@[simp] theorem wr64_sig (h : Hw) (lo hi v : Nat) : (h.wr64 lo hi v).sig = h.sig := (rfl)
@[simp] theorem wr64_gfx (h : Hw) (lo hi v : Nat) : (h.wr64 lo hi v).gfx = h.gfx := (rfl)
@[simp] theorem wr64_dpy (h : Hw) (lo hi v : Nat) : (h.wr64 lo hi v).dpy = h.dpy := (rfl)
@[simp] theorem wr64_net (h : Hw) (lo hi v : Nat) : (h.wr64 lo hi v).net = h.net := (rfl)
@[simp] theorem wr64_tbl (h : Hw) (lo hi v : Nat) : (h.wr64 lo hi v).tbl = h.tbl := (rfl)
@[simp] theorem wr64_fw (h : Hw) (lo hi v : Nat) : (h.wr64 lo hi v).fw = h.fw := (rfl)
@[simp] theorem wr64_cfg (h : Hw) (lo hi v : Nat) : (h.wr64 lo hi v).cfg = h.cfg := (rfl)
@[simp] theorem wr64_fab (h : Hw) (lo hi v : Nat) : (h.wr64 lo hi v).fab = h.fab := (rfl)
@[simp] theorem wr64_tap (h : Hw) (lo hi v : Nat) : (h.wr64 lo hi v).tap = h.tap := (rfl)

@[simp] theorem raiseAt_latch (h : Hw) (f : Fld) (k ofs : Nat) : (h.raiseAt f k ofs).latch = h.latch := by unfold Hw.raiseAt; dsimp only; split <;> rfl
@[simp] theorem raiseAt_lowHold (h : Hw) (f : Fld) (k ofs : Nat) : (h.raiseAt f k ofs).lowHold = h.lowHold := by unfold Hw.raiseAt; dsimp only; split <;> rfl
@[simp] theorem raiseAt_free (h : Hw) (f : Fld) (k ofs : Nat) : (h.raiseAt f k ofs).free = h.free := by unfold Hw.raiseAt; dsimp only; split <;> rfl
@[simp] theorem raiseAt_ident (h : Hw) (f : Fld) (k ofs : Nat) : (h.raiseAt f k ofs).ident = h.ident := by unfold Hw.raiseAt; dsimp only; split <;> rfl
@[simp] theorem raiseAt_clk (h : Hw) (f : Fld) (k ofs : Nat) : (h.raiseAt f k ofs).clk = h.clk := by unfold Hw.raiseAt; dsimp only; split <;> rfl
@[simp] theorem raiseAt_rst (h : Hw) (f : Fld) (k ofs : Nat) : (h.raiseAt f k ofs).rst = h.rst := by unfold Hw.raiseAt; dsimp only; split <;> rfl
@[simp] theorem raiseAt_pwr' (h : Hw) (f : Fld) (k ofs : Nat) : (h.raiseAt f k ofs).pwr' = h.pwr' := by unfold Hw.raiseAt; dsimp only; split <;> rfl
@[simp] theorem raiseAt_err (h : Hw) (f : Fld) (k ofs : Nat) : (h.raiseAt f k ofs).err = h.err := by unfold Hw.raiseAt; dsimp only; split <;> rfl
@[simp] theorem raiseAt_mbx (h : Hw) (f : Fld) (k ofs : Nat) : (h.raiseAt f k ofs).mbx = h.mbx := by unfold Hw.raiseAt; dsimp only; split <;> rfl
@[simp] theorem raiseAt_pcie (h : Hw) (f : Fld) (k ofs : Nat) : (h.raiseAt f k ofs).pcie = h.pcie := by unfold Hw.raiseAt; dsimp only; split <;> rfl
@[simp] theorem raiseAt_noc (h : Hw) (f : Fld) (k ofs : Nat) : (h.raiseAt f k ofs).noc = h.noc := by unfold Hw.raiseAt; dsimp only; split <;> rfl
@[simp] theorem raiseAt_mem (h : Hw) (f : Fld) (k ofs : Nat) : (h.raiseAt f k ofs).mem = h.mem := by unfold Hw.raiseAt; dsimp only; split <;> rfl
@[simp] theorem raiseAt_hbm (h : Hw) (f : Fld) (k ofs : Nat) : (h.raiseAt f k ofs).hbm = h.hbm := by unfold Hw.raiseAt; dsimp only; split <;> rfl
@[simp] theorem raiseAt_tiles (h : Hw) (f : Fld) (k ofs : Nat) : (h.raiseAt f k ofs).tiles = h.tiles := by unfold Hw.raiseAt; dsimp only; split <;> rfl
@[simp] theorem raiseAt_part (h : Hw) (f : Fld) (k ofs : Nat) : (h.raiseAt f k ofs).part = h.part := by unfold Hw.raiseAt; dsimp only; split <;> rfl
@[simp] theorem raiseAt_sns (h : Hw) (f : Fld) (k ofs : Nat) : (h.raiseAt f k ofs).sns = h.sns := by unfold Hw.raiseAt; dsimp only; split <;> rfl
@[simp] theorem raiseAt_sig (h : Hw) (f : Fld) (k ofs : Nat) : (h.raiseAt f k ofs).sig = h.sig := by unfold Hw.raiseAt; dsimp only; split <;> rfl
@[simp] theorem raiseAt_gfx (h : Hw) (f : Fld) (k ofs : Nat) : (h.raiseAt f k ofs).gfx = h.gfx := by unfold Hw.raiseAt; dsimp only; split <;> rfl
@[simp] theorem raiseAt_dpy (h : Hw) (f : Fld) (k ofs : Nat) : (h.raiseAt f k ofs).dpy = h.dpy := by unfold Hw.raiseAt; dsimp only; split <;> rfl
@[simp] theorem raiseAt_net (h : Hw) (f : Fld) (k ofs : Nat) : (h.raiseAt f k ofs).net = h.net := by unfold Hw.raiseAt; dsimp only; split <;> rfl
@[simp] theorem raiseAt_tbl (h : Hw) (f : Fld) (k ofs : Nat) : (h.raiseAt f k ofs).tbl = h.tbl := by unfold Hw.raiseAt; dsimp only; split <;> rfl
@[simp] theorem raiseAt_fw (h : Hw) (f : Fld) (k ofs : Nat) : (h.raiseAt f k ofs).fw = h.fw := by unfold Hw.raiseAt; dsimp only; split <;> rfl
@[simp] theorem raiseAt_cfg (h : Hw) (f : Fld) (k ofs : Nat) : (h.raiseAt f k ofs).cfg = h.cfg := by unfold Hw.raiseAt; dsimp only; split <;> rfl
@[simp] theorem raiseAt_fab (h : Hw) (f : Fld) (k ofs : Nat) : (h.raiseAt f k ofs).fab = h.fab := by unfold Hw.raiseAt; dsimp only; split <;> rfl
@[simp] theorem raiseAt_tap (h : Hw) (f : Fld) (k ofs : Nat) : (h.raiseAt f k ofs).tap = h.tap := by unfold Hw.raiseAt; dsimp only; split <;> rfl

@[simp] theorem raise_latch (h : Hw) (f : Fld) (k : Nat) : (h.raise f k).latch = h.latch := raiseAt_latch h f k 16
@[simp] theorem raise_lowHold (h : Hw) (f : Fld) (k : Nat) : (h.raise f k).lowHold = h.lowHold := raiseAt_lowHold h f k 16
@[simp] theorem raise_free (h : Hw) (f : Fld) (k : Nat) : (h.raise f k).free = h.free := raiseAt_free h f k 16
@[simp] theorem raise_ident (h : Hw) (f : Fld) (k : Nat) : (h.raise f k).ident = h.ident := raiseAt_ident h f k 16
@[simp] theorem raise_clk (h : Hw) (f : Fld) (k : Nat) : (h.raise f k).clk = h.clk := raiseAt_clk h f k 16
@[simp] theorem raise_rst (h : Hw) (f : Fld) (k : Nat) : (h.raise f k).rst = h.rst := raiseAt_rst h f k 16
@[simp] theorem raise_pwr' (h : Hw) (f : Fld) (k : Nat) : (h.raise f k).pwr' = h.pwr' := raiseAt_pwr' h f k 16
@[simp] theorem raise_err (h : Hw) (f : Fld) (k : Nat) : (h.raise f k).err = h.err := raiseAt_err h f k 16
@[simp] theorem raise_mbx (h : Hw) (f : Fld) (k : Nat) : (h.raise f k).mbx = h.mbx := raiseAt_mbx h f k 16
@[simp] theorem raise_pcie (h : Hw) (f : Fld) (k : Nat) : (h.raise f k).pcie = h.pcie := raiseAt_pcie h f k 16
@[simp] theorem raise_noc (h : Hw) (f : Fld) (k : Nat) : (h.raise f k).noc = h.noc := raiseAt_noc h f k 16
@[simp] theorem raise_mem (h : Hw) (f : Fld) (k : Nat) : (h.raise f k).mem = h.mem := raiseAt_mem h f k 16
@[simp] theorem raise_hbm (h : Hw) (f : Fld) (k : Nat) : (h.raise f k).hbm = h.hbm := raiseAt_hbm h f k 16
@[simp] theorem raise_tiles (h : Hw) (f : Fld) (k : Nat) : (h.raise f k).tiles = h.tiles := raiseAt_tiles h f k 16
@[simp] theorem raise_part (h : Hw) (f : Fld) (k : Nat) : (h.raise f k).part = h.part := raiseAt_part h f k 16
@[simp] theorem raise_sns (h : Hw) (f : Fld) (k : Nat) : (h.raise f k).sns = h.sns := raiseAt_sns h f k 16
@[simp] theorem raise_sig (h : Hw) (f : Fld) (k : Nat) : (h.raise f k).sig = h.sig := raiseAt_sig h f k 16
@[simp] theorem raise_gfx (h : Hw) (f : Fld) (k : Nat) : (h.raise f k).gfx = h.gfx := raiseAt_gfx h f k 16
@[simp] theorem raise_dpy (h : Hw) (f : Fld) (k : Nat) : (h.raise f k).dpy = h.dpy := raiseAt_dpy h f k 16
@[simp] theorem raise_net (h : Hw) (f : Fld) (k : Nat) : (h.raise f k).net = h.net := raiseAt_net h f k 16
@[simp] theorem raise_tbl (h : Hw) (f : Fld) (k : Nat) : (h.raise f k).tbl = h.tbl := raiseAt_tbl h f k 16
@[simp] theorem raise_fw (h : Hw) (f : Fld) (k : Nat) : (h.raise f k).fw = h.fw := raiseAt_fw h f k 16
@[simp] theorem raise_cfg (h : Hw) (f : Fld) (k : Nat) : (h.raise f k).cfg = h.cfg := raiseAt_cfg h f k 16
@[simp] theorem raise_fab (h : Hw) (f : Fld) (k : Nat) : (h.raise f k).fab = h.fab := raiseAt_fab h f k 16
@[simp] theorem raise_tap (h : Hw) (f : Fld) (k : Nat) : (h.raise f k).tap = h.tap := raiseAt_tap h f k 16

@[simp] theorem fenceSet_regs (h : Hw) (n : Nat) (c : Cause) (b : Bool) : (h.fenceSet n c b).regs = h.regs := (rfl)
@[simp] theorem fenceSet_latch (h : Hw) (n : Nat) (c : Cause) (b : Bool) : (h.fenceSet n c b).latch = h.latch := (rfl)
@[simp] theorem fenceSet_lowHold (h : Hw) (n : Nat) (c : Cause) (b : Bool) : (h.fenceSet n c b).lowHold = h.lowHold := (rfl)
@[simp] theorem fenceSet_free (h : Hw) (n : Nat) (c : Cause) (b : Bool) : (h.fenceSet n c b).free = h.free := (rfl)
@[simp] theorem fenceSet_ident (h : Hw) (n : Nat) (c : Cause) (b : Bool) : (h.fenceSet n c b).ident = h.ident := (rfl)
@[simp] theorem fenceSet_clk (h : Hw) (n : Nat) (c : Cause) (b : Bool) : (h.fenceSet n c b).clk = h.clk := (rfl)
@[simp] theorem fenceSet_rst (h : Hw) (n : Nat) (c : Cause) (b : Bool) : (h.fenceSet n c b).rst = h.rst := (rfl)
@[simp] theorem fenceSet_pwr' (h : Hw) (n : Nat) (c : Cause) (b : Bool) : (h.fenceSet n c b).pwr' = h.pwr' := (rfl)
@[simp] theorem fenceSet_err (h : Hw) (n : Nat) (c : Cause) (b : Bool) : (h.fenceSet n c b).err = h.err := (rfl)
@[simp] theorem fenceSet_mbx (h : Hw) (n : Nat) (c : Cause) (b : Bool) : (h.fenceSet n c b).mbx = h.mbx := (rfl)
@[simp] theorem fenceSet_pcie (h : Hw) (n : Nat) (c : Cause) (b : Bool) : (h.fenceSet n c b).pcie = h.pcie := (rfl)
@[simp] theorem fenceSet_mem (h : Hw) (n : Nat) (c : Cause) (b : Bool) : (h.fenceSet n c b).mem = h.mem := (rfl)
@[simp] theorem fenceSet_hbm (h : Hw) (n : Nat) (c : Cause) (b : Bool) : (h.fenceSet n c b).hbm = h.hbm := (rfl)
@[simp] theorem fenceSet_tiles (h : Hw) (n : Nat) (c : Cause) (b : Bool) : (h.fenceSet n c b).tiles = h.tiles := (rfl)
@[simp] theorem fenceSet_part (h : Hw) (n : Nat) (c : Cause) (b : Bool) : (h.fenceSet n c b).part = h.part := (rfl)
@[simp] theorem fenceSet_sns (h : Hw) (n : Nat) (c : Cause) (b : Bool) : (h.fenceSet n c b).sns = h.sns := (rfl)
@[simp] theorem fenceSet_sig (h : Hw) (n : Nat) (c : Cause) (b : Bool) : (h.fenceSet n c b).sig = h.sig := (rfl)
@[simp] theorem fenceSet_gfx (h : Hw) (n : Nat) (c : Cause) (b : Bool) : (h.fenceSet n c b).gfx = h.gfx := (rfl)
@[simp] theorem fenceSet_dpy (h : Hw) (n : Nat) (c : Cause) (b : Bool) : (h.fenceSet n c b).dpy = h.dpy := (rfl)
@[simp] theorem fenceSet_net (h : Hw) (n : Nat) (c : Cause) (b : Bool) : (h.fenceSet n c b).net = h.net := (rfl)
@[simp] theorem fenceSet_tbl (h : Hw) (n : Nat) (c : Cause) (b : Bool) : (h.fenceSet n c b).tbl = h.tbl := (rfl)
@[simp] theorem fenceSet_fw (h : Hw) (n : Nat) (c : Cause) (b : Bool) : (h.fenceSet n c b).fw = h.fw := (rfl)
@[simp] theorem fenceSet_cfg (h : Hw) (n : Nat) (c : Cause) (b : Bool) : (h.fenceSet n c b).cfg = h.cfg := (rfl)
@[simp] theorem fenceSet_fab (h : Hw) (n : Nat) (c : Cause) (b : Bool) : (h.fenceSet n c b).fab = h.fab := (rfl)
@[simp] theorem fenceSet_tap (h : Hw) (n : Nat) (c : Cause) (b : Bool) : (h.fenceSet n c b).tap = h.tap := (rfl)

@[simp] theorem kittyW_regs (h : Hw) (a : Nat) (bs : List Byte) (p : Bool) : (h.kittyW a bs p).regs = h.regs := (rfl)
@[simp] theorem kittyW_latch (h : Hw) (a : Nat) (bs : List Byte) (p : Bool) : (h.kittyW a bs p).latch = h.latch := (rfl)
@[simp] theorem kittyW_lowHold (h : Hw) (a : Nat) (bs : List Byte) (p : Bool) : (h.kittyW a bs p).lowHold = h.lowHold := (rfl)
@[simp] theorem kittyW_free (h : Hw) (a : Nat) (bs : List Byte) (p : Bool) : (h.kittyW a bs p).free = h.free := (rfl)
@[simp] theorem kittyW_ident (h : Hw) (a : Nat) (bs : List Byte) (p : Bool) : (h.kittyW a bs p).ident = h.ident := (rfl)
@[simp] theorem kittyW_clk (h : Hw) (a : Nat) (bs : List Byte) (p : Bool) : (h.kittyW a bs p).clk = h.clk := (rfl)
@[simp] theorem kittyW_rst (h : Hw) (a : Nat) (bs : List Byte) (p : Bool) : (h.kittyW a bs p).rst = h.rst := (rfl)
@[simp] theorem kittyW_pwr' (h : Hw) (a : Nat) (bs : List Byte) (p : Bool) : (h.kittyW a bs p).pwr' = h.pwr' := (rfl)
@[simp] theorem kittyW_err (h : Hw) (a : Nat) (bs : List Byte) (p : Bool) : (h.kittyW a bs p).err = h.err := (rfl)
@[simp] theorem kittyW_mbx (h : Hw) (a : Nat) (bs : List Byte) (p : Bool) : (h.kittyW a bs p).mbx = h.mbx := (rfl)
@[simp] theorem kittyW_pcie (h : Hw) (a : Nat) (bs : List Byte) (p : Bool) : (h.kittyW a bs p).pcie = h.pcie := (rfl)
@[simp] theorem kittyW_noc (h : Hw) (a : Nat) (bs : List Byte) (p : Bool) : (h.kittyW a bs p).noc = h.noc := (rfl)
@[simp] theorem kittyW_hbm (h : Hw) (a : Nat) (bs : List Byte) (p : Bool) : (h.kittyW a bs p).hbm = h.hbm := (rfl)
@[simp] theorem kittyW_tiles (h : Hw) (a : Nat) (bs : List Byte) (p : Bool) : (h.kittyW a bs p).tiles = h.tiles := (rfl)
@[simp] theorem kittyW_part (h : Hw) (a : Nat) (bs : List Byte) (p : Bool) : (h.kittyW a bs p).part = h.part := (rfl)
@[simp] theorem kittyW_sns (h : Hw) (a : Nat) (bs : List Byte) (p : Bool) : (h.kittyW a bs p).sns = h.sns := (rfl)
@[simp] theorem kittyW_sig (h : Hw) (a : Nat) (bs : List Byte) (p : Bool) : (h.kittyW a bs p).sig = h.sig := (rfl)
@[simp] theorem kittyW_gfx (h : Hw) (a : Nat) (bs : List Byte) (p : Bool) : (h.kittyW a bs p).gfx = h.gfx := (rfl)
@[simp] theorem kittyW_dpy (h : Hw) (a : Nat) (bs : List Byte) (p : Bool) : (h.kittyW a bs p).dpy = h.dpy := (rfl)
@[simp] theorem kittyW_net (h : Hw) (a : Nat) (bs : List Byte) (p : Bool) : (h.kittyW a bs p).net = h.net := (rfl)
@[simp] theorem kittyW_tbl (h : Hw) (a : Nat) (bs : List Byte) (p : Bool) : (h.kittyW a bs p).tbl = h.tbl := (rfl)
@[simp] theorem kittyW_fw (h : Hw) (a : Nat) (bs : List Byte) (p : Bool) : (h.kittyW a bs p).fw = h.fw := (rfl)
@[simp] theorem kittyW_cfg (h : Hw) (a : Nat) (bs : List Byte) (p : Bool) : (h.kittyW a bs p).cfg = h.cfg := (rfl)
@[simp] theorem kittyW_fab (h : Hw) (a : Nat) (bs : List Byte) (p : Bool) : (h.kittyW a bs p).fab = h.fab := (rfl)
@[simp] theorem kittyW_tap (h : Hw) (a : Nat) (bs : List Byte) (p : Bool) : (h.kittyW a bs p).tap = h.tap := (rfl)

@[simp] theorem hbmW_regs (h : Hw) (a : Nat) (bs : List Byte) (p : Bool) : (h.hbmW a bs p).regs = h.regs := (rfl)
@[simp] theorem hbmW_latch (h : Hw) (a : Nat) (bs : List Byte) (p : Bool) : (h.hbmW a bs p).latch = h.latch := (rfl)
@[simp] theorem hbmW_lowHold (h : Hw) (a : Nat) (bs : List Byte) (p : Bool) : (h.hbmW a bs p).lowHold = h.lowHold := (rfl)
@[simp] theorem hbmW_free (h : Hw) (a : Nat) (bs : List Byte) (p : Bool) : (h.hbmW a bs p).free = h.free := (rfl)
@[simp] theorem hbmW_ident (h : Hw) (a : Nat) (bs : List Byte) (p : Bool) : (h.hbmW a bs p).ident = h.ident := (rfl)
@[simp] theorem hbmW_clk (h : Hw) (a : Nat) (bs : List Byte) (p : Bool) : (h.hbmW a bs p).clk = h.clk := (rfl)
@[simp] theorem hbmW_rst (h : Hw) (a : Nat) (bs : List Byte) (p : Bool) : (h.hbmW a bs p).rst = h.rst := (rfl)
@[simp] theorem hbmW_pwr' (h : Hw) (a : Nat) (bs : List Byte) (p : Bool) : (h.hbmW a bs p).pwr' = h.pwr' := (rfl)
@[simp] theorem hbmW_err (h : Hw) (a : Nat) (bs : List Byte) (p : Bool) : (h.hbmW a bs p).err = h.err := (rfl)
@[simp] theorem hbmW_mbx (h : Hw) (a : Nat) (bs : List Byte) (p : Bool) : (h.hbmW a bs p).mbx = h.mbx := (rfl)
@[simp] theorem hbmW_pcie (h : Hw) (a : Nat) (bs : List Byte) (p : Bool) : (h.hbmW a bs p).pcie = h.pcie := (rfl)
@[simp] theorem hbmW_noc (h : Hw) (a : Nat) (bs : List Byte) (p : Bool) : (h.hbmW a bs p).noc = h.noc := (rfl)
@[simp] theorem hbmW_hbm (h : Hw) (a : Nat) (bs : List Byte) (p : Bool) : (h.hbmW a bs p).hbm = h.hbm := (rfl)
@[simp] theorem hbmW_tiles (h : Hw) (a : Nat) (bs : List Byte) (p : Bool) : (h.hbmW a bs p).tiles = h.tiles := (rfl)
@[simp] theorem hbmW_part (h : Hw) (a : Nat) (bs : List Byte) (p : Bool) : (h.hbmW a bs p).part = h.part := (rfl)
@[simp] theorem hbmW_sns (h : Hw) (a : Nat) (bs : List Byte) (p : Bool) : (h.hbmW a bs p).sns = h.sns := (rfl)
@[simp] theorem hbmW_sig (h : Hw) (a : Nat) (bs : List Byte) (p : Bool) : (h.hbmW a bs p).sig = h.sig := (rfl)
@[simp] theorem hbmW_gfx (h : Hw) (a : Nat) (bs : List Byte) (p : Bool) : (h.hbmW a bs p).gfx = h.gfx := (rfl)
@[simp] theorem hbmW_dpy (h : Hw) (a : Nat) (bs : List Byte) (p : Bool) : (h.hbmW a bs p).dpy = h.dpy := (rfl)
@[simp] theorem hbmW_net (h : Hw) (a : Nat) (bs : List Byte) (p : Bool) : (h.hbmW a bs p).net = h.net := (rfl)
@[simp] theorem hbmW_tbl (h : Hw) (a : Nat) (bs : List Byte) (p : Bool) : (h.hbmW a bs p).tbl = h.tbl := (rfl)
@[simp] theorem hbmW_fw (h : Hw) (a : Nat) (bs : List Byte) (p : Bool) : (h.hbmW a bs p).fw = h.fw := (rfl)
@[simp] theorem hbmW_cfg (h : Hw) (a : Nat) (bs : List Byte) (p : Bool) : (h.hbmW a bs p).cfg = h.cfg := (rfl)
@[simp] theorem hbmW_fab (h : Hw) (a : Nat) (bs : List Byte) (p : Bool) : (h.hbmW a bs p).fab = h.fab := (rfl)
@[simp] theorem hbmW_tap (h : Hw) (a : Nat) (bs : List Byte) (p : Bool) : (h.hbmW a bs p).tap = h.tap := (rfl)

@[simp] theorem hostW_regs (h : Hw) (a : Nat) (bs : List Byte) : (h.hostW a bs).regs = h.regs := (rfl)
@[simp] theorem hostW_latch (h : Hw) (a : Nat) (bs : List Byte) : (h.hostW a bs).latch = h.latch := (rfl)
@[simp] theorem hostW_lowHold (h : Hw) (a : Nat) (bs : List Byte) : (h.hostW a bs).lowHold = h.lowHold := (rfl)
@[simp] theorem hostW_free (h : Hw) (a : Nat) (bs : List Byte) : (h.hostW a bs).free = h.free := (rfl)
@[simp] theorem hostW_ident (h : Hw) (a : Nat) (bs : List Byte) : (h.hostW a bs).ident = h.ident := (rfl)
@[simp] theorem hostW_clk (h : Hw) (a : Nat) (bs : List Byte) : (h.hostW a bs).clk = h.clk := (rfl)
@[simp] theorem hostW_rst (h : Hw) (a : Nat) (bs : List Byte) : (h.hostW a bs).rst = h.rst := (rfl)
@[simp] theorem hostW_pwr' (h : Hw) (a : Nat) (bs : List Byte) : (h.hostW a bs).pwr' = h.pwr' := (rfl)
@[simp] theorem hostW_err (h : Hw) (a : Nat) (bs : List Byte) : (h.hostW a bs).err = h.err := (rfl)
@[simp] theorem hostW_mbx (h : Hw) (a : Nat) (bs : List Byte) : (h.hostW a bs).mbx = h.mbx := (rfl)
@[simp] theorem hostW_pcie (h : Hw) (a : Nat) (bs : List Byte) : (h.hostW a bs).pcie = h.pcie := (rfl)
@[simp] theorem hostW_noc (h : Hw) (a : Nat) (bs : List Byte) : (h.hostW a bs).noc = h.noc := (rfl)
@[simp] theorem hostW_hbm (h : Hw) (a : Nat) (bs : List Byte) : (h.hostW a bs).hbm = h.hbm := (rfl)
@[simp] theorem hostW_tiles (h : Hw) (a : Nat) (bs : List Byte) : (h.hostW a bs).tiles = h.tiles := (rfl)
@[simp] theorem hostW_part (h : Hw) (a : Nat) (bs : List Byte) : (h.hostW a bs).part = h.part := (rfl)
@[simp] theorem hostW_sns (h : Hw) (a : Nat) (bs : List Byte) : (h.hostW a bs).sns = h.sns := (rfl)
@[simp] theorem hostW_sig (h : Hw) (a : Nat) (bs : List Byte) : (h.hostW a bs).sig = h.sig := (rfl)
@[simp] theorem hostW_gfx (h : Hw) (a : Nat) (bs : List Byte) : (h.hostW a bs).gfx = h.gfx := (rfl)
@[simp] theorem hostW_dpy (h : Hw) (a : Nat) (bs : List Byte) : (h.hostW a bs).dpy = h.dpy := (rfl)
@[simp] theorem hostW_net (h : Hw) (a : Nat) (bs : List Byte) : (h.hostW a bs).net = h.net := (rfl)
@[simp] theorem hostW_tbl (h : Hw) (a : Nat) (bs : List Byte) : (h.hostW a bs).tbl = h.tbl := (rfl)
@[simp] theorem hostW_fw (h : Hw) (a : Nat) (bs : List Byte) : (h.hostW a bs).fw = h.fw := (rfl)
@[simp] theorem hostW_cfg (h : Hw) (a : Nat) (bs : List Byte) : (h.hostW a bs).cfg = h.cfg := (rfl)
@[simp] theorem hostW_fab (h : Hw) (a : Nat) (bs : List Byte) : (h.hostW a bs).fab = h.fab := (rfl)
@[simp] theorem hostW_tap (h : Hw) (a : Nat) (bs : List Byte) : (h.hostW a bs).tap = h.tap := (rfl)

/-! ### Registers -/

/-- A register read depends on the register file alone. -/
theorem rd_congr {h g : Hw} (e : h.regs = g.regs) (a : Nat) : h.rd a = g.rd a := by simp only [Hw.rd, e]

theorem get_congr {h g : Hw} (e : h.regs = g.regs) (f : Fld) : h.get f = g.get f := by simp only [Hw.get, rd_congr e]

theorem is_congr {h g : Hw} (e : h.regs = g.regs) (f : Fld) : h.is f = g.is f := by simp only [Hw.is, get_congr e]

theorem rd_lt (h : Hw) (a : Nat) : h.rd a < 2 ^ 32 := BitVec.isLt _

/-- A register after a register is written whole (R22). -/
theorem rd_wr (h : Hw) (a v b : Nat) : (h.wr a v).rd b = if b = a then v % 2 ^ 32 else h.rd b := by
  simp only [Hw.rd, Hw.wr, SMap.get_set]
  split <;> simp

@[simp] theorem rd_wr_self (h : Hw) (a v : Nat) : (h.wr a v).rd a = v % 2 ^ 32 := by simp [rd_wr]

theorem rd_wr_ne (h : Hw) {a b : Nat} (v : Nat) (hb : b ≠ a) : (h.wr a v).rd b = h.rd b := by simp [rd_wr, hb]

/-- A register after one of its fields is written. -/
theorem rd_put_self (h : Hw) (f : Fld) (v : Nat) (hf : f.lo ≤ f.hi) (hw : f.hi < 32) :
    (h.put f v).rd f.addr = setBits (h.rd f.addr) f.hi f.lo v := by
  rw [Hw.put, rd_wr_self, Nat.mod_eq_of_lt (setBits_lt _ _ _ _ 32 (by omega) hw (rd_lt h f.addr))]

theorem rd_put_ne (h : Hw) (f : Fld) (v : Nat) {b : Nat} (hb : b ≠ f.addr) : (h.put f v).rd b = h.rd b := rd_wr_ne h _ hb

/-- The written field reads the value's low bits. -/
theorem get_put_self (h : Hw) (f : Fld) (v : Nat) (hf : f.lo ≤ f.hi) (hw : f.hi < 32) :
    (h.put f v).get f = v % 2 ^ (f.hi + 1 - f.lo) := by
  rw [Hw.get, rd_put_self h f v hf hw, bits_setBits _ _ _ _ (by omega)]

/-- A field of another register, or of other bits, reads as before. -/
theorem get_put_other (h : Hw) (f g : Fld) (v : Nat) (hf : f.lo ≤ f.hi) (hw : f.hi < 32)
    (hd : g.addr ≠ f.addr ∨ f.hi < g.lo ∨ g.hi < f.lo) : (h.put f v).get g = h.get g := by
  by_cases ha : g.addr = f.addr
  · rw [Hw.get, ha, rd_put_self h f v hf hw, bits_setBits_disj _ _ _ _ _ _ (by omega) (by tauto), Hw.get, ha]
  · rw [Hw.get, rd_put_ne h f v ha, Hw.get]

theorem get_wr_ne (h : Hw) {a : Nat} (v : Nat) {f : Fld} (hf : f.addr ≠ a) : (h.wr a v).get f = h.get f := by
  rw [Hw.get, rd_wr_ne h v hf, Hw.get]

theorem get_wr_self (h : Hw) (f : Fld) (v : Nat) : (h.wr f.addr v).get f = bits (v % 2 ^ 32) f.hi f.lo := by
  rw [Hw.get, rd_wr_self]

/-- A one-bit field written with a truth value. -/
theorem get_putB_self (h : Hw) (f : Fld) (b : Bool) (hf : f.lo = f.hi) (hw : f.hi < 32) :
    (h.putB f b).get f = if b then 1 else 0 := by
  have e : f.hi + 1 - f.lo = 1 := by omega
  rw [Hw.putB, get_put_self h f _ (by omega) hw, e]
  cases b <;> rfl

theorem is_putB_self (h : Hw) (f : Fld) (b : Bool) (hf : f.lo = f.hi) (hw : f.hi < 32) : (h.putB f b).is f = b := by
  rw [Hw.is, get_putB_self h f b hf hw]
  cases b <;> rfl

theorem get_putB_other (h : Hw) (f g : Fld) (b : Bool) (hf : f.lo ≤ f.hi) (hw : f.hi < 32)
    (hd : g.addr ≠ f.addr ∨ f.hi < g.lo ∨ g.hi < f.lo) : (h.putB f b).get g = h.get g := get_put_other h f g _ hf hw hd

/-- Two writes of one register: the later stands. -/
theorem rd_wr_wr (h : Hw) (a v w b : Nat) : ((h.wr a v).wr a w).rd b = (h.wr a w).rd b := by
  simp only [rd_wr]; split <;> rfl

/-! ### Fences -/

/-- The fence of a node after one of its causes, or of another node's, is set or removed. -/
theorem fenceMask_fenceSet (h : Hw) (n m : Nat) (c : Cause) (b : Bool) :
    (h.fenceSet n c b).fenceMask m = if m = n then setBit (h.fenceMask n) c.bit b else h.fenceMask m := by
  simp only [Hw.fenceMask, Hw.fenceSet, SMap.get_set]

/-- A node with a cause set is fenced. -/
theorem fenced_fenceSet (h : Hw) (n : Nat) (c : Cause) : (h.fenceSet n c true).fenced n = true := by
  have e : (setBit (h.fenceMask n) c.bit true).testBit c.bit = true := by
    rw [← bit_eq, bit_setBit, if_pos rfl]
  rw [Hw.fenced, fenceMask_fenceSet, if_pos rfl, bne_iff_ne]
  intro h0
  rw [h0] at e
  simp at e

end Hw

end Sys2Proof.Machine
end

