-- ==== Sys2Proof/Machine/Crossings.lean ====
section
/-!
DEFINITION. The clock domains and the points at which they meet (R50, R55-R60). A row of the table is one whole step, so no
queue here is ever seen part full: their occupancy is timing (assumption 77).
-/
namespace Sys2Proof.Machine

/-- The clock domains (R50). Those with a number are one per partition, per stack, or per user clock. -/
inductive Domain where
  | ao | xtal32 | ref | sys | dl | noc
  | tile (p : Nat)
  | mem (s : Nat)
  | eth | lnk | sns | pix
  | user (n : Nat)
  | tck
  /-- the wake detector, behind its clock multiplexer -/
  | wake
deriving DecidableEq, Repr

/-- How two domains meet (R57, R60), with the depth of a queue and what one entry holds, or the width of a counter. -/
inductive CrossKind where
  | flits (depth : Nat) | accesses (depth : Nat) | words (depth : Nat) | entries (depth : Nat) | reports (depth : Nat)
  | gray (bits : Nat)
  | heldBus | synchroniser | clockMux
  /-- one clock on both sides -/
  | none
deriving DecidableEq, Repr

/-- One crossing. `both`: it exists in each direction. -/
structure Crossing where
  src : Domain
  dst : Domain
  both : Bool
  kind : CrossKind
deriving DecidableEq, Repr

/-- Stages of a synchroniser, by whether its destination lies in the always-on domain (R55). -/
def syncStages (d : Domain) : Nat := if d = .ao then 3 else 2

/-- The crossings of R60; those of partitions, stacks and user clocks for number `i`. -/
def crossings (i : Nat) : List Crossing :=
  [⟨.tile i, .noc, true, .flits 8⟩, ⟨.tile i, .sys, false, .gray 16⟩, ⟨.sys, .tile i, true, .heldBus⟩,
   ⟨.noc, .mem i, true, .flits 32⟩, ⟨.noc, .dl, true, .flits 16⟩, ⟨.noc, .sys, true, .flits 16⟩,
   ⟨.noc, .sns, true, .flits 16⟩, ⟨.noc, .eth, true, .flits 64⟩, ⟨.noc, .ref, true, .flits 64⟩,
   ⟨.noc, .pix, true, .flits 64⟩, ⟨.noc, .lnk, true, .flits 64⟩, ⟨.noc, .user i, true, .flits 16⟩,
   ⟨.dl, .sys, true, .accesses 4⟩] ++
  [Domain.mem i, .eth, .lnk, .sns, .pix, .ref, .user i].map (fun d => ⟨.sys, d, true, .heldBus⟩) ++
  [⟨.tck, .sys, true, .words 8⟩, ⟨.tck, .sys, true, .heldBus⟩, ⟨.ao, .sys, false, .synchroniser⟩,
   ⟨.ao, .sys, false, .heldBus⟩, ⟨.sys, .ao, false, .synchroniser⟩, ⟨.sys, .ao, false, .heldBus⟩] ++
  [Domain.eth, .lnk, .sns, .mem i].map (fun d => ⟨.sys, d, false, .entries 4⟩) ++
  [⟨.ao, .sys, true, .heldBus⟩, ⟨.xtal32, .sys, true, .heldBus⟩, ⟨.sns, .wake, false, .clockMux⟩,
   ⟨.ao, .wake, false, .clockMux⟩, ⟨.tck, .mem i, false, .none⟩] ++
  [Domain.tile i, .dl, .noc, .mem i, .eth, .lnk, .sns, .pix, .ref, .user i].map (fun d => ⟨d, .sys, false, .reports 4⟩) ++
  [⟨.sns, .sys, false, .gray 32⟩, ⟨.ao, .sns, false, .synchroniser⟩, ⟨.sys, .lnk, true, .flits 16⟩,
   ⟨.sys, .ref, false, .heldBus⟩]

/-- The latest an entry written to a dual-clock queue reaches its reader, in cycles of the writer and of the reader
(R58). -/
def queueLatency : Nat × Nat := (1, 3)

/-- The latest a held-bus handshake completes, in cycles of the destination and of the source, beside the destination's own
access time (R59). -/
def heldBusLatency : Nat × Nat := (3, 3)

end Sys2Proof.Machine
end

