-- ==== Sys2Proof/Machine/Torus.lean ====
section
/-!
DEFINITION. The path of a packet through the torus: routers, links and virtual channels (R688, R689, R691, R695, R705,
R706); and the arbiter of a router output (R708-R712).
-/
namespace Sys2Proof.Machine

open Sys2Proof

/-- A router's ring ports (R688). -/
inductive RingDir where
  | east | west | north | south
deriving DecidableEq, Repr

/-- One link of a path: the router it leaves, the port, and whether the packet travels on VC1 of its class. -/
structure Hop where
  x : Nat
  y : Nat
  dir : RingDir
  vc1 : Bool
deriving DecidableEq, Repr

/-- Rising coordinates is the shorter way round a ring of `n` from `a` to `b`, or as short: east in X, north in Y on a tie
(R705). -/
def ringUp (n a b : Nat) : Bool := decide ((b + n - a) % n ≤ (a + n - b) % n)

/-- Links from `a` to `b` on a ring of `n` (R705). -/
def ringHops (n a b : Nat) : Nat := min ((b + n - a) % n) ((a + n - b) % n)

/-- The next router on the ring. -/
def ringNext (n : Nat) (up : Bool) (a : Nat) : Nat := if up then (a + 1) % n else (a + n - 1) % n

/-- The link from `a` onward is the ring's dateline, which joins n − 1 and 0 (R706). -/
def ringDateline (n : Nat) (up : Bool) (a : Nat) : Bool := if up then a + 1 == n else a == 0

/-- `k` links round a ring of `n` from `a`: each with the router it leaves and whether it is on VC1, which a packet takes
when it crosses the dateline (R706). -/
def ringPath (n : Nat) (up : Bool) : Nat → Nat → Bool → List (Nat × Bool)
  | 0, _, _ => []
  | k + 1, a, vc1 =>
    let v := vc1 || ringDateline n up a
    (a, v) :: ringPath n up k (ringNext n up a) v

/-- The path from router `s` to router `d`: X first, then Y, entering each ring on VC0 (R705, R706). -/
def route (s d : Nat × Nat) : List Hop :=
  let ux := ringUp 32 s.1 d.1
  let uy := ringUp 16 s.2 d.2
  (ringPath 32 ux (ringHops 32 s.1 d.1) s.1 false).map (fun e => ⟨e.1, s.2, if ux then .east else .west, e.2⟩) ++
    (ringPath 16 uy (ringHops 16 s.2 d.2) s.2 false).map (fun e => ⟨d.1, e.1, if uy then .north else .south, e.2⟩)

/-- The node at which a packet leaves this seat's torus: its destination, or the gateway to its seat (R695). -/
def Hw.exitNode (h : Hw) (p : Packet) : Nat := if p.dstSeat = h.seat then p.dstNode else 650 + h.gateOf p.dstSeat

/-- The node at which a packet enters it: its source, or for one from another seat the gateway it came by (R695). -/
def Hw.entryNode (h : Hw) (p : Packet) (k : Nat) : Nat := if p.srcSeat = h.seat then p.srcNode else 650 + k

/-- The path of a packet through this seat's torus; `k` is the gateway of one from another seat. -/
def Hw.path (h : Hw) (p : Packet) (k : Nat) : List Hop := route (nodeXY (h.entryNode p k)) (nodeXY (h.exitNode p))

/-- NOCCLK cycles in which an uncontested header passes from its first router to its exit port (R689). -/
def pathCycles (l : List Hop) : Nat := 3 * l.length + 2

/-! ### Arbitration at a router output (R708-R712) -/

/-- A packet at the head of an input: the class and PRIO it carries, whatever NOC_PRIOp says since (R712), and when its
header entered the router. -/
structure ArbHead where
  cls : Nat
  prio : Nat
  age : Nat
deriving DecidableEq, Repr

/-- The turn of the weighted round-robin: the class served, and the packets it may still send. -/
structure ArbTurn where
  cls : Nat
  left : Nat
deriving DecidableEq, Repr

/-- NOC_ARB's weight of a class: 2 RSP, 1 REQ, 3 BULK (R696, R731). -/
def Hw.arbWeight (h : Hw) (c : Nat) : Nat :=
  if c = 2 then h.get R.NOC_ARB_W_RSP else if c = 1 then h.get R.NOC_ARB_W_REQ else h.get R.NOC_ARB_W_BULK

/-- Of two heads of one class the one that wins: the higher PRIO, then the earlier header (R708). -/
def ArbHead.over (a b : ArbHead) : ArbHead :=
  if b.prio < a.prio ∨ (a.prio = b.prio ∧ a.age ≤ b.age) then a else b

/-- The winner of a class among the heads. -/
def arbIn (c : Nat) (l : List ArbHead) : Option ArbHead :=
  match l.filter (fun a => a.cls == c) with
  | [] => none
  | a :: as => some (as.foldl ArbHead.over a)

/-- The decision at an output that nobody holds: TRUMP first, then the classes weighted round-robin by packets. The class
served goes on while it has packets and its weight lasts; then the next class with a packet follows, in the order RSP, REQ,
BULK (DESIGN CHOICE, assumption 86). A grant lasts for the packet, and each decision takes the weights as they then stand
(R709-R711). -/
def Hw.arbGrant (h : Hw) (t : ArbTurn) (l : List ArbHead) : Option (ArbHead × ArbTurn) :=
  match arbIn 0 l with
  | some a => some (a, t)
  | none =>
    let after := if t.cls = 2 then [1, 3, 2] else if t.cls = 1 then [3, 2, 1] else [2, 1, 3]
    match (if t.left = 0 then none else arbIn t.cls l) with
    | some a => some (a, { t with left := t.left - 1 })
    | none => after.findSome? (fun c => (arbIn c l).map (fun a => (a, ⟨c, h.arbWeight c - 1⟩)))

end Sys2Proof.Machine
end

