-- ==== Sys2Proof/Tests/Slice0.lean ====
section
/-!
SUPPORT. Tests: ill-formed commands that are refused, single steps against the spec's words, and states that meet the
hypotheses of each statement.
-/
namespace Sys2Proof.Wit

open Sys2Proof Sys2Proof.Machine

/-- The reset state with its hardware changed by `f`. -/
def hw (f : Hw → Hw) : State := { State.reset with hw := f State.reset.hw }

/-- Every clock input good. -/
def up : State :=
  hw (fun h => { h with clk := { h.clk with good := [0, 1, 2, 3, 4], locked := [0, 1, 2, 3, 4, 5, 6, 7] } })

/-- The pins own the TAP, with instruction `ir`. -/
def tap (ir : Nat) : State :=
  hw (fun h => { h with tap := { h.tap with ir := ir, own := false }, cfg := { h.cfg with startPend := false } })

/-- A load waits for the TAP, which the pins own with the controller in state `c`. -/
def tapLoad (c : TapCtl) : State :=
  hw (fun h => { h with tap := { h.tap with own := false, ctl := c }, cfg := { h.cfg with startPend := false, cmd := some (0, 0) } })

/-- The pins own the TAP with instruction `ir`, and the user register port's clock runs. -/
def userPort (ir : Nat) : State :=
  hw (fun h => { h with
    tap := { h.tap with ir := ir, own := false }, cfg := { h.cfg with startPend := false },
    clk := { h.clk with locked := [0, 1, 2] ++ [8 + Config.fdbUregClk [] / 3] }, fab := { h.fab with userRun := true } })

theorem userPort_up (ir : Nat) : (userPort ir).hw.uregDown = false := by
  have e : (userPort ir).hw.uregDown =
      (false || !true || !(NSet.has ([0, 1, 2] ++ [8 + Config.fdbUregClk [] / 3]) (8 + Config.fdbUregClk [] / 3))) := rfl
  rw [e]; simp [NSet.has]

theorem userPort_sys (ir : Nat) : (userPort ir).hw.sysUp = true := rfl

/-- A pending reset. -/
def pend (q : PendRst) : State := hw (fun h => { h with rst := { h.rst with pend := some q } })

/-- The configuration engine in state `cs` with an attempt under way. -/
def stream (ir cs : Nat) (a : Attempt) : State :=
  hw (fun h => { (h.setCs cs) with tap := { h.tap with ir := ir, own := a.flash }, cfg := { h.cfg with startPend := false, attempt := a } })

/-- The engine inside the body of an image whose stored body has `4,096 × n` bytes, `buf` received and not judged. -/
def body (a : Attempt) (n : Nat) (buf : List Byte) : State :=
  hw (fun h => { (h.setCs csBODY) with tap := { h.tap with ir := irCFG_IN, own := false }, cfg := { h.cfg with
    startPend := false, attempt := a, hdr := (List.replicate 24 0 ++ leBytes 4 (4096 * n)) ++ List.replicate 484 0,
    buf := buf, pos := buf.length } })

/-- A record's bytes with its check. -/
def record (bs : List Byte) : List Byte := bs ++ leBytes 4 (crc32c bs)

/-- A register of the network block. -/
def foldErr : RegDef := (regDef? 0x4003020C).getD ⟨0, [], .noc, .vol, []⟩

/-- A command's entry in mailbox `m`, taken with handle 0 and sequence 0. -/
def entryF (op m : Nat) (pars : List Byte) (fl : Nat) : InFlight :=
  ⟨m, 0, 0, (leBytes 2 op ++ leBytes 2 fl ++ leBytes 4 0 ++ pars) ++ List.replicate (56 - pars.length) 0, false⟩

def entry (op m : Nat) (pars : List Byte) : InFlight := entryF op m pars 0

def cmdF (op m : Nat) (pars : List Byte) (fl : Nat) : State :=
  hw (fun h => { h with mbx := { h.mbx with infl := [entryF op m pars fl] }, rst := { h.rst with dealerRun := true } })

def cmd (op m : Nat) (pars : List Byte) : State := cmdF op m pars 0

def cmdWith (op m : Nat) (pars : List Byte) (f : Hw → Hw) : State :=
  hw (fun h => f { h with mbx := { h.mbx with infl := [entry op m pars] }, rst := { h.rst with dealerRun := true } })

/-- The PCIe link up, function 0 allowed memory requests and bus mastering. -/
def linkHw (h : Hw) : Hw :=
  let h := (h.put R.PCIE_STAT_DL_UP 1).put R.PCIE_STAT_L2 0
  { h with pcie := { h.pcie with cfgUp := true, perst := true, cfg := [(4, 6), (0x208, 9), (0x210, 16)] } }

def link : State := hw linkHw

def vf : State := hw (fun h => { (linkHw h) with mbx := { h.mbx with infl := [] } })

/-- A MEM_READ to the host of 16 bytes that waits for an engine. -/
def dma : State :=
  cmdWith 0x0005 16 (leBytes 8 0 ++ leBytes 4 16 ++ leBytes 4 0 ++ leBytes 8 0x1000) linkHw

/-- The host's data for command (16, 0) have arrived. -/
def got (bs : List Byte) (h : Hw) : Hw :=
  { h with pcie := { h.pcie with engines := [⟨0, 16, 0, 0, bs.length, true, bs, []⟩] } }

/-- Command (16, 0) holds an engine that writes `n` bytes to the host. -/
def engine (n : Nat) (h : Hw) : Hw :=
  { h with pcie := { h.pcie with engines := [⟨0, 16, 0, 0, n, false, [], []⟩] } }

/-- A command (16, 7) holds an engine that reads 8 bytes. -/
def dmaRead (h : Hw) : Hw :=
  { h with pcie := { h.pcie with engines := [⟨7, 16, 7, 0, 8, true, [], [⟨8, []⟩]⟩] } }

/-- A job image of 80 bytes: job 1, no tile, one empty section of kind 3. -/
def jobHead : List Byte :=
  leBytes 4 0x424A4C44 ++ leBytes 2 1 ++ leBytes 2 1 ++ leBytes 4 1 ++ leBytes 4 0 ++ leBytes 2 0 ++ leBytes 2 0 ++
  leBytes 4 0 ++ leBytes 4 0 ++ leBytes 4 80 ++ leBytes 2 0 ++ leBytes 2 64 ++ List.replicate 24 0

def jobBytes : List Byte :=
  jobHead ++ leBytes 4 (crc32c jobHead) ++ [0xFF, 0, 0, 0] ++ List.replicate 12 0

def jobImg : JobImg := ⟨1, 0, 0, 0, false, 0, [⟨0xFF, 0, 0, []⟩]⟩

def jobPars : List Byte := [15, 1] ++ List.replicate 14 0 ++ leBytes 8 0 ++ leBytes 4 80

def jobEntry : InFlight := entry 0x0105 16 jobPars

def jobLoad : State :=
  cmdWith 0x0105 16 jobPars (fun h =>
    (((got jobBytes h).put R.CFG_STAT_RELEASED 1).setPstate 15 2).put (R.NOC_ISO_SLICE_SLICE_LEN 15) 64)

/-- Partition 15 open in COMPUTE. -/
def gov : State := hw (fun h => (h.setPstate 15 2).setFoldStat 15 fOPEN)

/-- A signal image with one empty section. -/
def sigHead : List Byte := leBytes 4 0x50474953 ++ leBytes 2 1 ++ leBytes 2 1 ++ List.replicate 20 0

def sigBytes : List Byte := sigHead ++ leBytes 4 (crc32c sigHead) ++ List.replicate 16 0

/-- A display timing block of 100 × 100 at 25 MHz, 8 bits. -/
def timing : List Byte :=
  leBytes 4 25000 ++ leBytes 2 100 ++ List.replicate 6 0 ++ leBytes 2 100 ++ List.replicate 7 0 ++ [8] ++ List.replicate 10 0

/-- Partition 15 open in COMPUTE, its clock running and its tile 511 unfenced. -/
def openHw (h : Hw) : Hw :=
  let h := ((h.setPstate 15 2).setFoldStat 15 fOPEN).put (R.SYS_TCLK_CUR_STOPPED 15) 0
  { h with noc := { h.noc with fence := [(511, 0)] } }

/-- Tile `n` after reset changed by `f`, its partition open in COMPUTE. -/
def tile (n : Nat) (f : Tile → Tile) : State :=
  hw (fun h => (openHw h).setTile n (f Tile.reset))

/-- A tile in RUN with word `w` at `pc`. -/
def running (pc w : Nat) (x : Tile) : Tile :=
  { x with ctl := { x.ctl with st := .run, pc := pc }, mem := { x.mem with imem := Mem.write x.mem.imem (64 * pc) (leBytes 64 w) } }

def trapOn (x : Tile) : Tile := { x with ctl := { x.ctl with ten := true, tvec := 5 } }

/-- An SSIGNAL of 8 bytes to tile 511's own store. -/
def signal : SOp := ⟨.signal, 0, 0x10001FF00000 :: List.replicate 15 0, 0, true, 0, 0, true, 0, 0, []⟩

def signalSent : SOp := { signal with row := 1, out := [⟨4095, 0, 0, 8, 0⟩] }

def op (o : SOp) (x : Tile) : Tile := { x with str := { x.str with ops := [o] } }

def mxu : MxuOp := ⟨0, 1, 1, false, false, [1], [false], 0⟩

/-- A tile that walks the layer list in its own store. -/
def walker (x : Tile) : Tile := { x with
    str := { x.str with walking := true, next := 0x10001FF01000 },
    mem := { x.mem with ts := Mem.write x.mem.ts 0x1000 (leBytes 8 0 ++ leBytes 8 0x30000) } }

/-- A tile with a fill whose descriptor is unread. -/
def filler (x : Tile) : Tile :=
  { x with
    mem := { x.mem with ts := Mem.write x.mem.ts 0x1000 (leBytes 8 (2 ^ 54) ++ leBytes 8 (32 + 32 * 2 ^ 24)) },
    str := { x.str with ops := [⟨.fill, 0, [], 0x10001FF01000, false, 0x30000, 0, true, 0, 0, []⟩] } }

/-- A request, response or message of seat 0. -/
def pkt (op seat node addr : Nat) : Packet :=
  { op := op, addr := addr, srcSeat := 0, srcNode := 640, dstSeat := seat, dstNode := node, prio := 0, tag := 0, status := 0,
    bytes := 32, aux := 0, data := [], poison := [], crcBad := false }

def pktState (p : Packet) : State := hw (fun h => { h with noc := { h.noc with pkts := [p] } })

/-- The same with partition 15's clock running and its fence open. -/
def clocked (p : Packet) : State := hw (fun h => { (openHw h) with noc := { (openHw h).noc with pkts := [p] } })

/-- The fabric ports unfenced and user logic running. -/
def port : State := hw (fun h => { (h.put (R.NOC_ISO_SLICE_SLICE_LEN 16) 64) with fab := { h.fab with userRun := true }, noc := { h.noc with fence := [(639, 0)] } })

/-- Seat 0 watches seat 7. -/
def watch (h : Hw) : Hw :=
  (((h.put R.TBL_STAT_XSTATE xRELEASED).put R.TBL_STAT_PRESENT 0x81).put R.CFG_STAT_IDENT_OK 1)

def burst (k : BKind) : HBurst := ⟨0, k, 0, List.replicate 32 0, List.replicate 32 true, false, 640, 0, 0, 16, 0⟩

/-- Pseudo-channel 0 of a running stack with one burst queued. -/
def hbm (b : HBurst) : State :=
  hw (fun h => (h.put (R.MEM_STAT_STATE 0) msRUN).setPcs 0 { PcState.reset with q := [b] })

/-- Stack 1 in REPAIR_HOLD with a repair asked for, HARD as `v`. -/
def laneHold (v : Nat) : State :=
  hw (fun h => { (((h.put (R.MEM_STAT_STATE 1) msHOLD).put (R.MEM_REPAIR_CFG_REQ 1) 1).put (R.MEM_REPAIR_CFG_HARD 1) v) with
    rst := { h.rst with dealerRun := true }, tap := { h.tap with own := true, use := none } })

/-- Group 3 with one channel enabled. -/
def pdmGroup : State := hw (fun h => (h.wr R.SNS_CH_EN 0x80000000).put (R.SNS_GRP_CFG_AUTO 3) 1)

/-- Unit 39 armed for SOFT triggers, running or not, with POLICY `p`. -/
def soft (run p : Nat) : State :=
  hw (fun h => (((h.put (R.SNS_CAP_STAT_ARMED 39) 1).put (R.SNS_CAP_CTL_TRIG 39) 2).put (R.SNS_CAP_STAT_RUN 39) run).put
    (R.SNS_CAP_CTL_POLICY 39) p)

/-- Signal core `k` in RUN at an instruction `w`. -/
def sig (k w : Nat) (f : SigCore → SigCore) : State :=
  hw (fun h => (h.setSstate k 2).setCore k (f (SigCore.reset.putBytes 0 0 (leBytes 8 w))))

/-- Partition 15 open in GRAPHICS, memory running. -/
def gfxHw (h : Hw) : Hw :=
  let h := ((h.setPstate 15 3).setFoldStat 15 fOPEN).put (R.SYS_TCLK_CUR_STOPPED 15) 0
  let h := (h.put (R.MEM_STAT_STATE 0) msRUN).put (R.MEM_STAT_STATE 1) msRUN
  { h with noc := { h.noc with fence := [(511, 0)] } }

/-- A frame whose present entry is `op` for `len` bytes at Kitty offset 0x100000, holding `bs`. -/
def gfxEnt (op len : Nat) : List Byte :=
  leBytes 8 op ++ leBytes 8 0x110000100000 ++ leBytes 4 len ++ leBytes 4 (if op = 3 then 1 else 0) ++ List.replicate 8 0

def frameOf (op len : Nat) (p : Option GPass) : GFrame :=
  ⟨16, 0, 0x110000200000, 1, 0, gfxEnt op len, false, 0, 0, false, none, false, p⟩

def gfx (op len : Nat) (bs : List Byte) : State :=
  hw (fun h => ((gfxHw h).kittyW 0x100000 bs).setFrame (some (frameOf op len none)))

/-- A pass block of 32 × 32 pixels without targets. -/
def passBlock : List Byte :=
  List.replicate 4 0 ++ leBytes 2 32 ++ leBytes 2 32 ++ leBytes 4 65536 ++ List.replicate 244 0

/-- A shader image without instructions, for every tile. -/
def shaderHead : List Byte :=
  leBytes 4 0x44485347 ++ leBytes 2 1 ++ leBytes 2 0 ++ leBytes 8 0 ++ leBytes 4 0xFFFFFFFF ++ List.replicate 8 0

def shaderImg : List Byte := shaderHead ++ leBytes 4 (crc32c shaderHead)

def gpass (jobs run : List GJob) : GPass :=
  ⟨passBlock, true, [⟨List.replicate 256 0, []⟩], [], 0, false, 0, 0, jobs, run, false, [], 0, [], false, [], []⟩

def gfxPass (op : Nat) (f : GFrame → GFrame) : State :=
  hw (fun h => (gfxHw h).setFrame (some (f (frameOf op 0 (some (gpass [] []))))))

def gfxJob : State :=
  hw (fun h => { ((gfxHw h).setFrame (some (frameOf 1 0 (some (gpass [⟨0, 0, false, false, 0, [], 0⟩] []))))) with
    gfx := { ((gfxHw h).setFrame (some (frameOf 1 0 (some (gpass [⟨0, 0, false, false, 0, [], 0⟩] []))))).gfx with
      image := some shaderImg } })

/-- A draw descriptor of stride 12 without attributes or samplers, and a pass that stands at a DRAW of it. -/
def drawBlock : List Byte := List.replicate 16 0 ++ leBytes 2 12 ++ List.replicate 110 0

def drawFrame : GFrame := frameOf 3 0 (some (gpass [] []))

def gfxDraw : State := hw (fun h => ((gfxHw h).kittyW 0x100000 drawBlock).setFrame (some drawFrame))

def gfxRun (ws : List GWave) : State :=
  hw (fun h => (gfxHw h).setFrame (some (frameOf 1 0 (some (gpass [] [⟨0, 0, false, false, 511, ws, 0⟩])))))

/-- Port 1 in service, with a ring of 64 receive buffers of 2,048 bytes at Kitty. -/
def eth : State := hw (fun h => (h.put (R.NET_P_CFG_MODE 1) 1).put (R.NET_P_STAT_LINK 1) 1)

def frame : List Byte := List.replicate 60 0 ++ leBytes 4 (fcs32 (List.replicate 60 0))

/-- Port 1 with a frame of 60 bytes to send on queue 7. -/
def tx : State := hw (fun h =>
  (((((h.put (R.NET_P_CFG_MODE 1) 1).put (R.NET_P_STAT_LINK 1) 1).put (R.NET_P_TX_ENTRIES_ENTRIES 1 7) 64).put
    (R.NET_P_TX_TAIL_TAIL 1 7) 1).onPort 1 (fun p => { p with txRing := [(7, 0x110000100000)] })).kittyW 0x100000
      (leBytes 8 0x110000200000 ++ leBytes 2 60 ++ List.replicate 22 0))

/-- Port 1 with a received frame of queue 15 whose descriptor is unwritten. -/
def rxFlight : RxFlight := ⟨15, 0x110000100000, 64, 0, 0xFFFF, 0, 0, 0, none⟩

def rxOne : State :=
  hw (fun h => (h.put (R.NET_P_RX_ENTRIES_ENTRIES 1 15) 64).onPort 1 (fun p => { p with rx := [rxFlight] }))

/-- Port 1 sends a frame of queue 7, with a time stamp or without. -/
def txFlight (ts : Bool) : TxFlight := ⟨7, 0x110000100000, [], false, ts, 0⟩

def txOne (ts : Bool) : State := hw (fun h => h.onPort 1 (fun p => { p with tx := some (txFlight ts) }))

/-- Link 3 leads to the master, seat 7. -/
def slave : State :=
  hw (fun h => (((h.put (R.LNK_STAT_STATE 3) 3).put R.TBL_STAT_MASTER 7).put R.TBL_STAT_PRESENT 0x81).wr R.TBL_ROUTE 0xC000)

/-- Link 3 after a TIME frame with a round trip of 10 and a turnaround of 4. -/
def timed (h : Hw) : Hw :=
  (h.setLink 3 { h.link 3 with delays := ((10 - 4) / 2 :: (h.link 3).delays).take 16 }).wr (R.LNK_DELAY 3)
    (meanDelay (((10 - 4) / 2 :: (h.link 3).delays).take 16))

/-- The body's END record follows the empty body. -/
def loaded : State :=
  hw (fun h => { (h.setCs csBODY) with tap := { h.tap with ir := irCFG_IN, own := false }, cfg := { h.cfg with
    startPend := false, attempt := .pins, hdr := (List.replicate 24 0 ++ leBytes 4 8) ++ List.replicate 36 0 ++ sha384 [] ++
      List.replicate 400 0, buf := record (leBytes 4 (0xC0000000 + fabFrames)), pos := 8, idx := fabFrames } })

/-- Seats 0 and 7 hold the same image. -/
def ident : State := hw (fun h => { (h.put R.CFG_STAT_LOADED 1) with tbl := { h.tbl with
  recs := [(7, some ⟨7, iHELD, 0, 0, 0, 0, 0, 0x81, 0, List.replicate 48 0⟩)] } })

end Sys2Proof.Wit

namespace Sys2Proof.Tests

set_option Elab.async false

open Sys2Proof Sys2Proof.Machine

/-! ### Commands whose operands are ill-formed are refused by `Instr.wf`, one for each check -/

theorem test_wf_system :
    (Instr.registerWrite [⟨2 ^ 32, 0, 0, 4, false, .noPort, 0⟩]).wf = false ∧ (Instr.registerWrite [⟨0, 0, 0, 9, false, .noPort, 0⟩]).wf = false ∧
    (Instr.monitorWindow 4 0).wf = false ∧ (Instr.pllLockHeld 32).wf = false ∧ (Instr.stepComplete 16).wf = false ∧
    (Instr.resetPinAssert 3).wf = false ∧ (Instr.systemReset 8 0).wf = false ∧ (Instr.systemReset 0 4).wf = false ∧
    (Instr.sysWdtKick (2 ^ 32)).wf = false ∧ (Instr.pwrTargetRun 256).wf = false ∧ (Instr.wakeInEdge 4 true).wf = false ∧
    (Instr.fuseRead 4096).wf = false ∧ (Instr.updateIr 1024 0 []).wf = false ∧ (Instr.userRead 5 .noPort).wf = false ∧
    (Instr.thermalSample []).wf = false ∧ (Instr.railChange 10 true).wf = false := by decide

theorem test_wf_blocks :
    (Instr.mbxDbCmd 17 0).wf = false ∧ (Instr.reset 16 8).wf = false ∧ (Instr.fabricPortTx 64 ⟨0, []⟩).wf = false ∧
    (Instr.matrixWriteback 512).wf = false ∧ (Instr.foldReq 655).wf = false ∧ (Instr.foldAck 80).wf = false ∧
    (Instr.refresh 64).wf = false ∧ (Instr.rowClose 0 32).wf = false ∧ (Instr.refreshWindow 2).wf = false ∧
    (Instr.snsOutputSample 4 []).wf = false ∧ (Instr.captureBlockComplete 40 true).wf = false ∧
    (Instr.sigTrigger 16).wf = false ∧ (Instr.nop (.core 16) 0).wf = false ∧ (Instr.ethLinkUp 2).wf = false ∧
    (Instr.forgive 0 8).wf = false ∧ (Instr.linkDown 4).wf = false ∧ (Instr.functionLevelReset 17).wf = false := by decide

/-! ### No word spells a command of this block -/

theorem test_no_word_spells_a_command : decodeTableWord 0 0 = none ∧ State.reset.withFetchWord 0 0 = State.reset :=
  ⟨rfl, rfl⟩

/-! ### Single operations against the worked examples of the spec ("At the bench") -/

/-- Chapter 00: the accumulator of tile 37 on seat 1. -/
theorem test_global_address : gTile 1 37 0x40000 = 0x300002540000 ∧ addrSeat 0x300002540000 = 1 := by decide +kernel

/-- Chapter 13: the route from tile 165 to pseudo-channel E07, and its 26 cycles. -/
theorem test_route_at_the_bench :
    route (5, 5) (31, 3) = [⟨5, 5, .west, false⟩, ⟨4, 5, .west, false⟩, ⟨3, 5, .west, false⟩, ⟨2, 5, .west, false⟩,
      ⟨1, 5, .west, false⟩, ⟨0, 5, .west, true⟩, ⟨31, 5, .south, false⟩, ⟨31, 4, .south, false⟩] ∧
    pathCycles (route (5, 5) (31, 3)) = 26 := by decide +kernel

/-- Chapter 14: the decoding of offset 0x24C357A00; chapter 22: that of 0x04000D00. -/
theorem test_hbm_decoding :
    hbmChan 0x24C357A00 = 0x3D ∧ hbmLocal 0x24C357A00 = 0x0930D500 ∧ hbmRow 0x0930D500 = 0x1261 ∧
    hbmBank 0x0930D500 = 17 ∧ hbmChan 0x04000D00 = 0x0C := by decide +kernel

/-- Chapter 09: the fourth update of the pair ties to even, the fifth rounds up and leaves -3 × 2^-26. -/
theorem test_pair_update :
    groupPair 0x3F800000 0x33400000 [(.fin false 1 (-10), .fin false 1 (-16))] =
      (0x3F800000, 0x33800000, {}) ∧
    (groupPair 0x3F800000 0x33800000 [(.fin false 1 (-10), .fin false 1 (-16))]).1 = 0x3F800001 ∧
    (groupPair 0x3F800000 0x33800000 [(.fin false 1 (-10), .fin false 1 (-16))]).2.1 = 0xB3400000 := by decide +kernel

/-- Chapter 12: ADV = 1 moves POS1 from -2 to 62 and CNT1 to 1, and the second advance returns POS1 to -2. -/
theorem test_descriptor_advance :
    let d := [0x0083000010000000, 0x0000000040000040, 0x0010000000000040, 0, 0, 0, 0x44, 0x40, 0, 0x400000, 0x20010000, 0,
      0xFFFFFFFE00000000, 0, 0, 0]
    listAt 0 (dAdvance d) 12 = 0x3E00000000 ∧ dCNT (dAdvance d) 1 = 1 ∧ dAdvance (dAdvance d) = d := by decide +kernel

/-- Chapter 11: word 196 with VALID[2] also set is ILLEGAL_WORD in slot 7 with detail 2; without it, it is legal. -/
theorem test_illegal_word :
    illegal (0x0406 + 0x0000000000800040 * 2 ^ 96 + 0x0000000301010000 * 2 ^ 160) false = some (2, 7) ∧
    illegal (0x0402 + 0x0000000000800040 * 2 ^ 96 + 0x0000000301010000 * 2 ^ 160) false = none := by decide +kernel

/-- Chapter 11: the exception of word 196: TIL_CAUSE 0x00020701, and the tile with TEN = 0 is FAULTED. -/
theorem test_illegal_word_cause :
    let t := Tile.reset.except 7 ⟨1, 2, 0x406⟩
    t.ctl.cause = 0x00020701 ∧ t.ctl.eval = 0x406 ∧ t.ctl.st = .faulted := by decide +kernel

/-- Chapter 11: the bytes of word 200 hold its fields. -/
theorem test_word_fields :
    let w := ofLe [0x03, 0, 0, 0, 0x01, 0x02, 0, 0, 0xF0, 0, 0, 0, 0x34, 0x85, 0, 0, 0x00, 0x01, 0, 0]
    wOp w slC = 0x01 ∧ wOp w slS0 = 0x34 ∧ sRD (wSlot w slS0) = 5 ∧ sRA (wSlot w slS0) = 4 ∧ sIMM (wSlot w slS0) = 0x100 := by
  decide +kernel

/-- Chapter 16: the gains of samples b, b + 19 and b + 38 of the straddle. -/
theorem test_straddle_gains :
    stradGain 0x10000 0x3FB29 0 39 = 0x11314 ∧ stradGain 0x10000 0x3FB29 19 39 = 0x27D95 ∧
    stradGain 0x10000 0x3FB29 38 39 = 0x3E815 := by decide +kernel

/-- Chapter 21: the map entry of seat 0, partition 5, as its two words read. -/
theorem test_map_entry :
    let h := State.reset.hw.setMap ⟨0, 5, 1, 1, 14, 0x2800, 64, 0x7940⟩
    h.rd 0x400B0428 = 0x28000E11 ∧ h.rd 0x400B042C = 0x79400040 := by decide +kernel

/-- Chapter 22: the log entry of the error of tile 72's read. -/
theorem test_log_entry :
    logEntry ⟨7, 2, 524, 0, 524, some 0x04000D00, 0xC40E913B, 1, true, 0x0000012345678000⟩ 0 2623 =
      [0x07, 0x02, 0x06, 0x00, 0x0C, 0x02, 0x01, 0x00, 0x00, 0x0D, 0x00, 0x04, 0x00, 0x00, 0x00, 0x00,
       0x3B, 0x91, 0x0E, 0xC4, 0x3F, 0x0A, 0x00, 0x00, 0x00, 0x80, 0x67, 0x45, 0x23, 0x01, 0x00, 0x00] := by decide +kernel

/-- Chapter 20: checkpoint buffer A through VF6 BAR2, and a read at the end of a slice of 64 MiB through VF13 BAR2. -/
theorem test_bar2_windows :
    let h := ((State.reset.hw.put (R.NOC_ISO_SLICE_SLICE_BASE 5) 10240).put (R.NOC_ISO_SLICE_SLICE_LEN 5) 1024).put
      (R.NOC_ISO_SLICE_SLICE_LEN 12) 64
    h.hostAt 6 2 0x3E000000 = .global 0x2BE000000 ∧ h.hostAt 13 2 0x04000000 = .refused ∧
    h.hostAt 0 2 0x9007C0000 = .global 0x1100007C0000 := by decide +kernel

/-! ### Single steps against the worked examples of the spec -/

/-- What `f` sees after command `c` on the hardware `h`. -/
def seen {α : Type} (c : Instr) (h : Hw) (f : Hw → α) : Option α :=
  match exec c { State.reset with hw := h } with
  | .next t => some (f t.hw)
  | _ => none

/-- Chapter 02: a window that counts 122 edges of a 12.288 MHz oscillator sets MARG[3]. -/
theorem test_monitor_window_marginal :
    seen (.monitorWindow 3 122) (Wit.up.hw.put R.SYS_CLK_CFG_SNS_SRC 0)
      (fun h => h.rd R.SYS_CLK_LOSS) = some 0x0800 := by decide +kernel

/-- Chapter 02: the second such window loses the clock: SYS_CLK_LOSS reads 0x0808 and node 642 is fenced. -/
theorem test_monitor_window_lost :
    seen (.monitorWindow 3 122) ((Wit.up.hw.put R.SYS_CLK_CFG_SNS_SRC 0).monitorWindow 3 122)
      (fun h => (h.rd R.SYS_CLK_LOSS, h.fenced 642)) = some (0x0808, true) := by decide +kernel

/-- Chapter 04: after Test-Logic-Reset the TAP holds IDCODE, which captures 0x1E512B3B. -/
theorem test_tap_reset_holds_idcode :
    seen .testLogicReset (Wit.tap 0x0D).hw (fun h => h.drFixed h.tap.ir) = some 0x1E512B3B := by decide +kernel

/-- Chapter 15: a window with f = 54 above HI = 32 closes, and moves the partition down. -/
theorem test_pacing_down :
    let h := (((((State.reset.hw.setPstate 5 2).setFoldStat 5 fOPEN).put (R.PACE_BAND_LO 5) 16).put (R.PACE_BAND_HI 5) 32).put
      (R.PACE_CFG_FLOOR 5) 4).put (R.SYS_TCLK_CUR_STEP 5) 12
    let h := h.onPt 5 (fun x => { x with gov := { x.gov with run := 256, stall := 54, closed := false } })
    seen (.pacingWindow 5) h (fun h => (h.get (R.PACE_STAT_F 5), h.get (R.PACE_STAT_LAST 5), (h.pt 5).gov.closed)) =
      some (54, 2, true) := by decide +kernel

/-- Chapter 15: PART_STATUS of job 0x11 at step 9 with F 30; chapter 07: the first bytes of a completion with tag 0x103. -/
theorem test_part_status :
    let e : InFlight := ⟨16, 0, 0, leBytes 2 0x0108 ++ leBytes 2 0 ++ leBytes 4 0x103 ++ [5] ++ List.replicate 55 0, false⟩
    let h := (((State.reset.hw.setPstate 5 2).put (R.SYS_TCLK_CUR_STEP 5) 9).put (R.PACE_STAT_F 5) 30).onPt 5
      (fun x => { x with job := 0x11 })
    let h := { h with mbx := { h.mbx with infl := [e] }, rst := { h.rst with dealerRun := true },
                      ident := { h.ident with parten := 0xFFFF } }
    seen (.partStatus 16 0) h (fun h => (Mem.bytes h.mem.kitty 0x21000 8, Mem.rd h.mem.kitty 0x21008 8)) =
      some ([0x03, 0x01, 0, 0, 0, 0x80, 0, 0], 0x00000011001E0902) := by decide +kernel

/-- Chapter 21: TBL_STATUS with seat 1 present, DONE low and epoch 8. -/
theorem test_tbl_status :
    seen (.tblStatus 16 0 false) (((Wit.cmd 0x0600 16 []).hw.put R.TBL_STAT_PRESENT 2).put R.TBL_EPOCH_EPOCH 8)
      (fun h => Mem.rd h.mem.kitty 0x21008 8) = some 0x0000000800000802 := by decide +kernel

/-- Chapter 19: a tick at rate 10 with the debt of -1,700; the debt stays within the 32-bit field. -/
theorem test_shaper_tick :
    let h := ((State.reset.hw.setTokens 0 2 (-1700)).put (R.NET_P_SHP_RATE_RATE 0 2) 10).put (R.NET_P_SHP_BUCKET_BUCKET 0 2) 16384
    seen .shaperTick h (fun h => h.tokens 0 2) = some (-1690) := by decide +kernel

/-- Chapter 19: FORGIVE clears the debt of -1,080. -/
theorem test_forgive :
    seen (.forgive 0 2) (State.reset.hw.setTokens 0 2 (-1080)) (fun h => h.tokens 0 2) = some 0 := by decide +kernel

/-- Chapter 14: the third trigger's MEM_PC29_RHLAST on stack E, and node 170 throttled. -/
theorem test_row_tracker :
    let q : Requester := ⟨0, 170⟩
    let h := ((State.reset.hw.put (R.MEM_RH_CFG_EN 1) 1).put (R.MEM_RH_THRESH_THRESH 1) 1).activate 61 0x24C357A00 q
    h.rd (R.MEM_PC_RHLAST 1 29) = 0x05545261 := by decide +kernel


/-- R353, R373: a non-zero byte past NOP's empty parameters, LOG_READ's HOST off its 4-byte alignment, and an entry that
fills exactly TBL_TIME's fields. -/
theorem test_entryBad :
    (Wit.entry 0x0000 16 [0, 0, 7]).entryBad = some 2 ∧
    (Wit.entry 0x0F00 16 [0, 0, 1, 0, 0, 0, 0, 0, 2]).entryBad = some 8 ∧
    (Wit.entry 0x0603 16 [1, 0, 0, 0, 0, 0, 0, 0, 9, 9, 9, 9, 9, 9, 9, 9]).entryBad = none := by decide
/-! ### States that meet the hypotheses of each statement, clause by clause -/

theorem wit_EmptyQueueIdles :
    (∃ s : State, s.pending = [] ∧ s.hw.fabRuns = false) ∧ (∃ s : State, s.pending = [] ∧ s.hw.fabRuns = true) := by
  refine ⟨⟨State.reset, by decide +kernel⟩, ?_⟩
  exact ⟨Wit.hw (fun h => { h with
    fab := { h.fab with writeEn := true, frames := [(0, 0)] }, clk := { h.clk with locked := [0, 15] } }), by decide +kernel⟩

theorem wit_ResetValues :
    15 < 16 ∧ 511 < 512 := by decide +kernel

theorem wit_FusesKept :
    ∃ s t : State, fuseWf s.fuse = true ∧ step s = .next t := ⟨State.reset, State.reset, by decide +kernel, rfl⟩

theorem wit_AccessCodes :
    let f : FieldDef := ⟨7, 5, .rwl, 0, [(1, 3)]⟩; f.lo ≤ f.hi ∧ f.acc = .rwl ∧ f.reserved 2 = true ∧ f.reserved 4 =
      false := by decide +kernel

theorem wit_MailboxCompletion :
    let h : Hw := (Wit.cmd 0x0000 16 []).hw; 16 ≤ 16 ∧ 0 < 2 ^ 15 ∧ 0 < 2 ^ 16 ∧ 0 < 2 ^ 64 ∧ h.cmd? 16 0 = some
      (Wit.entry 0x0000 16 []) := by decide +kernel

theorem wit_TileExceptions :
    7 < 8 ∧ 255 < 256 ∧ 65535 < 65536 ∧ (∃ t : Tile, t.ctl.ten = true ∧ t.ctl.intrap = false ∧ t.ctl.step = false) ∧
      (∃ t : Tile, t.ctl.intrap = true) := ⟨by decide, by decide, by decide, ⟨Wit.trapOn Tile.reset, by decide +kernel⟩, ⟨{ Tile.reset with ctl := { Tile.reset.ctl with intrap := true } }, rfl⟩⟩

theorem wit_ScalarSlot :
    wOp (2 + 1 * 2 ^ 96) slS0 = 0x01 ∧ wOp (2 + 0x20 * 2 ^ 96) slS0 = 0x20 := by decide +kernel

theorem wit_HbmMapping :
    2 ^ 35 - 1 < 2 ^ 35 ∧ 63 < 64 ∧ 2 ^ 29 - 1 < 2 ^ 29 := by decide +kernel

theorem wit_LinkFrameRoundTrip :
    let f : LFrame := ⟨15, 4095, 4095, 7, 255, [⟨7, true, true, true, List.replicate 32 255, 2 ^ 32 - 1⟩]⟩; f.ftype
      < 16 ∧ f.seq < 4096 ∧ f.ack < 4096 ∧ f.crvc < 8 ∧ f.crcnt < 256 ∧ f.flits.length ≤ 8 ∧ (∀ x ∈ f.flits, x.vc <
      8 ∧ x.data.length = 32 ∧ x.crc < 2 ^ 32 ∧ (x.tail = false → x.crc = 0)) := by decide +kernel

theorem wit_ClockMonitors :
    (∃ (s : State) (i : Nat) (n : Nat), i < 4 ∧ s.hw.rst.por = false ∧ countOk i n = true) ∧
    (∃ (s : State) (i : Nat) (n : Nat), i < 4 ∧ s.hw.rst.por = false ∧ s.hw.asleep = false ∧ countOk i n = false ∧ (i
      = 3 → s.hw.is R.SYS_CLK_CFG_SNS_SRC = false) ∧ NMap.get s.hw.clk.run i = 0) ∧
    (∃ (s : State), s.hw.rst.por = false) ∧
    (∃ (s : State), s.hw.rst.por = false) ∧
    (∃ (s : State) (i : Nat), i < 5 ∧ s.hw.blkDown .sys R.SYS_CLK_LOSS = false) := by
  refine ⟨?_, ?_, ?_, ?_, ?_⟩
  · exact ⟨State.reset, 0, 950, by decide +kernel⟩
  · exact ⟨State.reset, 1, 0, by decide +kernel⟩
  · exact ⟨State.reset, by decide +kernel⟩
  · exact ⟨State.reset, by decide +kernel⟩
  · exact ⟨Wit.up, 4, by decide +kernel⟩

theorem wit_PllLocks :
    (∃ (s : State), s.hw.rst.por = false ∧ s.hw.asleep = false ∧ NSet.has s.hw.clk.locked 6 = true) ∧
    (∃ (s : State) (p : Nat), p < 16 ∧ s.hw.rst.por = false ∧ s.hw.asleep = false) := by
  refine ⟨?_, ?_⟩
  · exact ⟨Wit.hw (fun h => { h with clk := { h.clk with locked := [6] } }), by decide +kernel⟩
  · exact ⟨State.reset, 7, by decide +kernel⟩

theorem wit_ClockSteps :
    (∃ (s : State) (p : Nat), s.hw.sysUp = true ∧ s.hw.slewing p = true ∧ s.hw.heldSteps p = [] ∧ (s.hw.pt
      p).gov.closed = false) ∧
    (∃ (s : State) (p : Nat), s.hw.sysUp = true ∧ s.hw.slewing p = true ∧ s.hw.heldSteps p = []) ∧
    (∃ (s : State) (p : Nat) (k : Nat) (ks : List Nat), s.hw.sysUp = true ∧ s.hw.slewing p = true ∧ s.hw.heldSteps p =
      k :: ks) ∧
    (∃ (s : State), s.hw.sysUp = true) := by
  refine ⟨?_, ?_, ?_, ?_⟩
  · exact ⟨Wit.hw (fun h => h.put (R.SYS_TCLK_CUR_SLEWING 15) 1), 15, by decide +kernel⟩
  · exact ⟨Wit.hw (fun h => h.put (R.SYS_TCLK_CUR_SLEWING 0) 1), 0, by decide +kernel⟩
  · exact ⟨Wit.hw (fun h => (h.put (R.SYS_TCLK_CUR_SLEWING 3) 1).setHeld 3 [5]), 3, 5, [], by decide +kernel⟩
  · exact ⟨State.reset, by decide +kernel⟩

theorem wit_ResetPins :
    (∃ (s : State), s.hw.rst.por = true ∧ NSet.has s.hw.rst.pins 0 = false) ∧
    (∃ (s : State) (p : Nat), (p = 1 ∨ p = 2) ∧ NSet.has s.hw.rst.pins p = false ∧ s.hw.rst.por = false ∧
      s.hw.pwr'.phase = .idle) ∧
    (∃ (s : State), NSet.has s.hw.rst.pins 0 = false ∧ s.hw.rst.por = false ∧ s.hw.nvRuns = 0) ∧
    (∃ (p : Nat), p ≠ 0) ∧
    (∃ (s : State), s.hw.rst.por = true ∧ s.hw.rst.det = false) := by
  refine ⟨?_, ?_, ?_, ?_, ?_⟩
  · exact ⟨Wit.hw (fun h => { h with rst := { h.rst with por := true } }), by decide +kernel⟩
  · exact ⟨State.reset, 1, by decide +kernel⟩
  · exact ⟨State.reset, by decide +kernel⟩
  · exact ⟨2, by decide +kernel⟩
  · exact ⟨Wit.hw (fun h => { h with rst := { h.rst with por := true } }), by decide +kernel⟩

theorem wit_ResetSequences :
    (∃ (s : State) (q : PendRst), s.hw.rst.pend = some q ∧ s.hw.pendReady = true ∧ q.level ≠ .core ∧ s.hw.pinsFrozen =
      false) ∧
    (∃ (s : State) (q : PendRst), s.hw.rst.pend = some q ∧ s.hw.pendReady = true ∧ q.level = .core) := by
  refine ⟨?_, ?_⟩
  · exact ⟨Wit.pend ⟨.system, false, 0, false, false⟩, ⟨.system, false, 0, false, false⟩, by decide +kernel⟩
  · exact ⟨Wit.pend ⟨.core, false, 0, false, false⟩, ⟨.core, false, 0, false, false⟩, by decide +kernel⟩

theorem wit_ResetWaits :
    (∃ (s : State) (q : PendRst), s.hw.rst.pend = some q ∧ q.noclk = true ∧ 2 ≤ s.hw.clk.refGood) ∧
    (∃ (s : State) (q : PendRst), s.hw.rst.pend = some q ∧ q.nv ≠ 0 ∧ s.hw.nvRuns = 0 ∧ q.level ≠ .por) ∧
    (∃ (s : State) (q : PendRst), s.hw.rst.pend = some q ∧ q.nv ≠ 0 ∧ s.hw.nvRuns = 0 ∧ q.level = .por) ∧
    (∃ (s : State) (ms : Nat), s.hw.wdtCounts = true ∧ s.hw.rst.wdt + ms < s.hw.get R.SYS_WDT_CTL_TIMEOUT) ∧
    (∃ (s : State) (ms : Nat), s.hw.wdtCounts = true ∧ s.hw.get R.SYS_WDT_CTL_TIMEOUT ≤ s.hw.rst.wdt + ms ∧
      s.hw.pwr'.phase = .idle) ∧
    (∃ (s : State) (v : Nat), s.hw.blkDown .sys R.SYS_WDT_KICK = false ∧ v % 2 ^ 32 = 0x5EED) ∧
    (∃ (s : State), s.hw.blkDown .sys R.SYS_RST_REQ = false ∧ s.hw.rst.por = false ∧ s.hw.pwr'.phase = .idle) ∧
    (∃ (s : State), s.hw.blkDown .sys R.SYS_RST_REQ = false ∧ s.hw.rst.por = false ∧ s.hw.pwr'.phase = .idle) := by
  refine ⟨?_, ?_, ?_, ?_, ?_, ?_, ?_, ?_⟩
  · exact ⟨Wit.hw (fun h =>
      { h with rst := { h.rst with pend := some ⟨.system, true, 0, false, true⟩ }, clk := { h.clk with refGood := 2 } }),
      ⟨.system, true, 0, false, true⟩, by decide +kernel⟩
  · exact ⟨Wit.pend ⟨.system, false, 1, false, false⟩, ⟨.system, false, 1, false, false⟩, by decide +kernel⟩
  · exact ⟨Wit.pend ⟨.por, false, 2, false, false⟩, ⟨.por, false, 2, false, false⟩, by decide +kernel⟩
  · exact ⟨State.reset, 1999, by decide +kernel⟩
  · exact ⟨State.reset, 2000, by decide +kernel⟩
  · exact ⟨State.reset, 0x5EED, by decide +kernel⟩
  · exact ⟨State.reset, by decide +kernel⟩
  · exact ⟨State.reset, by decide +kernel⟩

theorem wit_PowerTargets :
    (∃ (s : State), s.hw.blkDown .aon R.PWR_CTL = false ∧ s.hw.is R.PWR_STATE_BUSY = false ∧ (s.hw.pwr = 1 ∨ s.hw.pwr
      = 2)) ∧
    (∃ (s : State), s.hw.blkDown .aon R.PWR_CTL = false ∧ s.hw.is R.PWR_STATE_BUSY = false ∧ s.hw.pwr = 0) ∧
    (∃ (s : State), s.hw.blkDown .aon R.PWR_CTL = false ∧ s.hw.is R.PWR_STATE_BUSY = false ∧ s.hw.pwr = 0 ∧
      s.hw.anyOpen = false ∧ s.hw.is R.PCIE_FLR_STAT_FLR = false) ∧
    (∃ (s : State), s.hw.blkDown .aon R.PWR_CTL = false ∧ s.hw.is R.PWR_STATE_BUSY = false ∧ s.hw.pwr = 0 ∧
      s.hw.presentList.length < 2 ∧ s.hw.anyOpen = false ∧ s.hw.is R.PCIE_FLR_STAT_FLR = false ∧ s.hw.wakeActive = []
      ∧ s.hw.pwr'.cmd = none) ∧
    (∃ (s : State), s.hw.blkDown .aon R.PWR_CTL = false ∧ s.hw.is R.PWR_STATE_BUSY = false ∧ s.hw.pwr = 0 ∧
      s.hw.presentList.length < 2 ∧ s.hw.anyOpen = false ∧ s.hw.is R.PCIE_FLR_STAT_FLR = false ∧ s.hw.wakeActive = []
      ∧ s.hw.pwr'.cmd = none) ∧
    (∃ (s : State), s.hw.pwr'.held = some 1 ∧ s.hw.is R.PWR_STATE_BUSY = false ∧ s.hw.pwr = 0) := by
  refine ⟨?_, ?_, ?_, ?_, ?_, ?_⟩
  · exact ⟨Wit.hw (fun h => h.put R.PWR_STATE_STATE 2), by decide +kernel⟩
  · exact ⟨State.reset, by decide +kernel⟩
  · exact ⟨State.reset, by decide +kernel⟩
  · exact ⟨State.reset, by decide +kernel⟩
  · exact ⟨State.reset, by decide +kernel⟩
  · exact ⟨Wit.hw (fun h => { h with pwr' := { h.pwr' with held := some 1 } }), by decide +kernel⟩

theorem wit_SleepAndWake :
    (∃ (s : State), s.hw.pwr'.phase = .entryWait ∧ s.hw.pwr'.pme = true) ∧
    (∃ (s : State), s.hw.pwr'.phase = .entryWait ∧ s.hw.pwr'.pme = false) ∧
    (∃ (s : State), s.hw.pwr = 3 ∧ s.hw.is R.PWR_LD_TMO_SECONDS = true ∧ s.hw.pwr'.phase = .idle ∧ s.hw.pwr'.latched =
      false ∧ s.hw.pwr'.byReset = false) ∧
    (∃ (s : State), s.hw.asleep = true ∧ s.hw.pwr'.phase = .idle ∧ (s.hw.pwr'.latched = true ∨ s.hw.pwr'.byReset =
      true)) ∧
    (∃ (s : State), s.hw.pwr'.phase = .exit ∧ 2 ≤ s.hw.clk.refGood ∧ s.hw.pwr ≠ 3 ∧ s.hw.railsGood = true) ∧
    (∃ (s : State), s.hw.pwr'.phase = .exit ∧ 2 ≤ s.hw.clk.refGood ∧ s.hw.pwr = 3) ∧
    (∃ (s : State) (n : Nat) (level : Bool), s.hw.pinsFrozen = false ∧ n < 4 ∧ NSet.has s.hw.pwr'.winLevel n ≠ level ∧
      level ≠ s.hw.bitOf R.PWR_WAKE_CFG_WIN_POL n) ∧
    (∃ (s : State) (n : Nat) (level : Bool), s.hw.pinsFrozen = false ∧ n < 4 ∧ NSet.has s.hw.pwr'.winLevel n ≠ level ∧
      level = s.hw.bitOf R.PWR_WAKE_CFG_WIN_POL n ∧ s.hw.rst.por = false ∧ s.hw.bitOf R.PWR_WAKE_CFG_WIN_EN n = true) ∧
    (∃ (s : State), s.hw.is R.PWR_WAKE_CFG_AOT_EN = true) ∧
    (∃ (s : State), s.hw.pinsFrozen = false) ∧
    (∃ (s : State), s.hw.is R.PWR_WAKE_CFG_WO_MODE = false) := by
  refine ⟨?_, ?_, ?_, ?_, ?_, ?_, ?_, ?_, ?_, ?_, ?_⟩
  · exact ⟨Wit.hw (fun h => { h with pwr' := { h.pwr' with phase := .entryWait, pme := true } }), by decide +kernel⟩
  · exact ⟨Wit.hw (fun h => { h with pwr' := { h.pwr' with phase := .entryWait } }), by decide +kernel⟩
  · exact ⟨Wit.hw (fun h => (h.put R.PWR_STATE_STATE 3).put R.PWR_LD_TMO_SECONDS 1), by decide +kernel⟩
  · exact ⟨Wit.hw (fun h => { (h.put R.PWR_STATE_STATE 4) with pwr' := { h.pwr' with latched := true } }),
      by decide +kernel⟩
  · exact ⟨Wit.hw (fun h =>
      { ((h.put R.PWR_STATE_STATE 4).put R.THM_RAIL_GOOD 511) with pwr' := { h.pwr' with phase := .exit }, clk := { h.clk with refGood := 2 } }),
      by decide +kernel⟩
  · exact ⟨Wit.hw (fun h =>
      { (h.put R.PWR_STATE_STATE 3) with pwr' := { h.pwr' with phase := .exit }, clk := { h.clk with refGood := 2 } }),
      by decide +kernel⟩
  · exact ⟨Wit.hw (fun h => { h with pwr' := { h.pwr' with winLevel := [] } }), 3, true, by decide +kernel⟩
  · exact ⟨Wit.hw (fun h => { ((h.put R.PWR_WAKE_CFG_WIN_EN 15).put R.PWR_WAKE_CFG_WIN_POL 15) with
      pwr' := { h.pwr' with winLevel := [] } }), 3, true, by decide +kernel⟩
  · exact ⟨Wit.hw (fun h => h.put R.PWR_WAKE_CFG_AOT_EN 1), by decide +kernel⟩
  · exact ⟨State.reset, by decide +kernel⟩
  · exact ⟨State.reset, by decide +kernel⟩

theorem wit_OutputPins :
    ∃ (s : State) (q : PendRst), s.hw.rst.pend = some q ∧ s.hw.pendReady = true ∧ q.level ≠ .core ∧ irFreezes
      s.hw.tap.ir = false := by
  exact ⟨Wit.pend ⟨.system, false, 0, false, false⟩, ⟨.system, false, 0, false, false⟩, by decide +kernel⟩

theorem wit_TapInstructions :
    (∃ (s : State), s.hw.tapInternal = false) ∧
    (∃ (s : State), s.hw.tapInternal = false) ∧
    (∃ (s : State), s.hw.tapInternal = false) ∧
    (∃ (s : State), s.hw.tapInternal = false) ∧
    (∃ (s : State), s.hw.tapInternal = false ∧ s.hw.tap.ir = irCFG_STAT) ∧
    (∃ (s : State), s.hw.sysUp = true ∧ s.hw.cfg.cmd.isSome = true ∧ s.hw.tapInternal = false ∧ s.hw.cfg.attempt ≠
      .pins ∧ s.hw.cfg.attempt ≠ .partPins ∧ s.hw.tap.ctl.parked = true) ∧
    (∃ (s : State), s.hw.sysUp = true ∧ s.hw.cfg.cmd.isSome = true ∧ s.hw.tapInternal = false ∧ s.hw.cfg.attempt ≠
      .pins ∧ s.hw.cfg.attempt ≠ .partPins ∧ s.hw.streaming = false ∧ s.hw.tap.ctl.parked = false) := by
  refine ⟨?_, ?_, ?_, ?_, ?_, ?_, ?_⟩
  · exact ⟨Wit.tap irUSERCODE, by decide +kernel⟩
  · exact ⟨Wit.tap irUSERCODE, by decide +kernel⟩
  · exact ⟨Wit.tap irIDCODE, by decide +kernel⟩
  · exact ⟨Wit.tap irIDCODE, by decide +kernel⟩
  · exact ⟨Wit.tap irCFG_STAT, by decide +kernel⟩
  · exact ⟨Wit.tapLoad .tlr, by decide +kernel⟩
  · exact ⟨Wit.tapLoad .shDr, by decide +kernel⟩

theorem wit_Fuses :
    (∃ (s : State) (a : Nat), s.hw.fuseSel = true ∧ s.hw.tap.pulse = none ∧ s.hw.rst.pend = none ∧ fuseLocked s.fuse
      (a % 4096 / 32) = false) ∧
    (∃ (s : State) (a : Nat), s.hw.fuseSel = true ∧ s.hw.tap.pulse = none ∧ s.hw.rst.pend = none ∧ fuseLocked s.fuse
      (a % 4096 / 32) = true) ∧
    (∃ (s : State) (b : Nat), s.hw.tap.pulse = some b ∧ s.hw.tap.use ≠ some .fuse) ∧
    (∃ (s : State) (a : Nat), s.hw.fuseSel = true ∧ s.hw.tap.pulse = none ∧ 32 ≤ a % 4096 / 32) := by
  refine ⟨?_, ?_, ?_, ?_⟩
  · exact ⟨Wit.tap irFUSE_PROG, 4095, by decide +kernel⟩
  · exact ⟨Wit.tap irFUSE_PROG, 0, by decide +kernel⟩
  · exact ⟨Wit.hw (fun h => { h with tap := { h.tap with pulse := some 4095 } }), 4095, by decide +kernel⟩
  · exact ⟨Wit.tap irFUSE_PROG, 1408, by decide +kernel⟩

theorem wit_DebugAccess :
    (∃ (s : State), s.hw.tapInternal = false ∧ 0x020 ≤ s.hw.tap.ir ∧ s.hw.tap.ir ≤ 0x023 ∧ s.hw.wrapperOpen
      (s.hw.tap.ir / 2 % 2) = true) ∧
    (∃ (s : State) (n : Nat), s.hw.userSel n = true ∧ s.hw.sysUp = true ∧ s.hw.uregDown = false) ∧
    (∃ (s : State) (n : Nat), s.hw.userSel n = true ∧ s.hw.sysUp = true ∧ s.hw.uregDown = false) ∧
    (∃ (s : State) (n : Nat), s.hw.userSel n = true ∧ s.hw.sysUp = true ∧ s.hw.uregDown = false) ∧
    (∃ (s : State) (a : Nat), s.hw.tapInternal = false ∧ s.hw.tap.ir = irDBG_ACCESS ∧ s.hw.tap.dbgWait = none ∧
      s.hw.sysUp = true ∧ s.hw.uregDown = false ∧ 0x60000000 ≤ a ∧ a < 0x61000000 ∧ a % 4 = 0) ∧
    (∃ (s : State) (a : Nat), s.hw.tapInternal = false ∧ s.hw.tap.ir = irDBG_ACCESS ∧ s.hw.tap.dbgWait = none ∧ a < 2
      ^ 32 ∧ dealerWin a = .none) ∧
    (∃ (s : State), s.hw.blkDown .dbg R.DBG_CTL = false) := by
  refine ⟨?_, ?_, ?_, ?_, ?_, ?_, ?_⟩
  · exact ⟨Wit.tap 0x023, by decide +kernel⟩
  · exact ⟨Wit.userPort (irUSER1 + 3), 4, rfl, Wit.userPort_sys _, Wit.userPort_up _⟩
  · exact ⟨Wit.userPort (irUSER1 + 3), 4, rfl, Wit.userPort_sys _, Wit.userPort_up _⟩
  · exact ⟨Wit.userPort irUSER1, 1, rfl, Wit.userPort_sys _, Wit.userPort_up _⟩
  · exact ⟨Wit.userPort irDBG_ACCESS, 0x60FFFFFC, rfl, rfl, rfl, Wit.userPort_sys _, Wit.userPort_up _, by decide +kernel⟩
  · exact ⟨Wit.tap irDBG_ACCESS, 0xF0000000, by decide +kernel⟩
  · exact ⟨State.reset, by decide +kernel⟩

theorem wit_RegisterWrites :
    ∃ (s : State) (r : RegDef) (a : Nat), regDef? a = some r ∧ r.blk = .noc ∧ a ≠ R.NOC_FOLD_REQ ∧ mdataCore a = none
      ∧ 0x40000000 ≤ a ∧ a < 0x40100000 ∧ a % 4 = 0 ∧ s.hw.blkDown r.blk a = false := by
  exact ⟨State.reset, Wit.foldErr, 0x4003020C, by decide +kernel⟩

theorem wit_ConfigStreams :
    (∃ (s : State), s.hw.sysUp = true ∧ s.hw.cfg.startPend = true ∧ (s.hw.get R.CFG_STAT_SOURCE = 1 ∨ s.hw.get
      R.CFG_STAT_SOURCE = 2)) ∧
    (∃ (s : State), s.hw.sysUp = true ∧ s.hw.cfg.startPend = true ∧ s.hw.get R.CFG_STAT_SOURCE = 0) ∧
    (∃ (s : State) (probe : Option (Nat × Bool)), s.hw.sysUp = true ∧ s.hw.cfg.startPend = true ∧ s.hw.cfg.cmd = none
      ∧ (s.hw.get R.CFG_STAT_SOURCE = 3 ∨ (s.hw.get R.CFG_STAT_SOURCE = 0 ∧ probe = none))) ∧
    (∃ (s : State), s.hw.sysUp = true ∧ s.hw.tap.ir = irCFG_IN ∧ s.hw.tapInternal = false ∧ s.hw.cstate = csWAIT ∧
      s.hw.cfg.spent = false) ∧
    (∃ (s : State), s.hw.sysUp = true ∧ s.hw.tap.ir = irCFG_IN ∧ s.hw.tapInternal = false ∧ s.hw.cstate = csBODY ∧
      s.hw.cfg.attempt = .pins ∧ 512 ≤ s.hw.cfg.hdr.length ∧ s.hw.cfg.pos < s.hw.cfg.bodyLen ∧ s.hw.cfg.encrypted =
      false) ∧
    (∃ (s : State), s.hw.sysUp = true ∧ s.hw.cfg.attempt.flash = true ∧ s.hw.tapInternal = true ∧ s.hw.pinsFrozen =
      false ∧ s.hw.cstate = csHEADER ∧ s.hw.cfg.hdr.length < 508) ∧
    (∃ (s : State), s.hw.sysUp = true ∧ s.hw.tap.ir = irCFG_PARTIAL ∧ s.hw.tapInternal = false ∧ s.hw.cstate =
      csRELEASED ∧ s.hw.cfg.spent = false) ∧
    (∃ (s : State), s.hw.sysUp = true ∧ s.hw.cstate = csHEADER ∧ s.hw.cfg.attempt = .pins ∧ s.hw.cfg.hdr.length < 512
      ∧ s.hw.cfg.wrote = false ∧ s.hw.cfg.cmd = none) ∧
    (∃ (s : State), s.hw.sysUp = true ∧ s.hw.cfg.attempt.flash = true ∧ s.hw.streaming = true) := by
  refine ⟨?_, ?_, ?_, ?_, ?_, ?_, ?_, ?_, ?_⟩
  · exact ⟨Wit.hw (fun h => h.put R.CFG_STAT_SOURCE 2), by decide +kernel⟩
  · exact ⟨State.reset, by decide +kernel⟩
  · exact ⟨State.reset, none, by decide +kernel⟩
  · exact ⟨Wit.stream irCFG_IN csWAIT .none, by decide +kernel⟩
  · exact ⟨Wit.body .pins 1 [], by decide +kernel⟩
  · exact ⟨Wit.stream irIDCODE csHEADER .primary1, by decide +kernel⟩
  · exact ⟨Wit.stream irCFG_PARTIAL csRELEASED .none, by decide +kernel⟩
  · exact ⟨Wit.stream irCFG_IN csHEADER .pins, by decide +kernel⟩
  · exact ⟨Wit.hw (fun h => { (h.setCs csBODY) with cfg := { h.cfg with attempt := .stock, wrote := true } }),
      by decide +kernel⟩

set_option maxRecDepth 100000 in

theorem wit_ConfigRecords :
    (∃ (s : State), s.hw.sysUp = true ∧ s.hw.inBody = true ∧ s.hw.cfg.kind = 0 ∧ 264 ≤ s.hw.cfg.buf.length ∧
      s.hw.cfg.past 264 = false ∧ s.hw.cfg.recReason 264 false = 0) ∧
    (∃ (s : State), s.hw.sysUp = true ∧ s.hw.inBody = true ∧ s.hw.cfg.kind = 1 ∧ 8 ≤ s.hw.cfg.buf.length ∧
      s.hw.cfg.past 8 = false ∧ s.hw.cfg.recReason 8 false = 0) ∧
    (∃ (s : State), s.hw.sysUp = true ∧ s.hw.inBody = true ∧ s.hw.cfg.kind = 3 ∧ 8 ≤ s.hw.cfg.buf.length ∧
      s.hw.cfg.past 8 = false ∧ s.hw.cfg.recReason 8 true = 0 ∧ s.hw.cfg.encrypted = false ∧ sha384 s.hw.cfg.plain =
      s.hw.cfg.hb 0x40 48 ∧ s.hw.cfg.attempt.partial' = false ∧ s.hw.cfg.cmd = none ∧ s.hw.tbl.solo = false) ∧
    (∃ (s : State), s.hw.sysUp = true ∧ s.hw.cstate = csCLEAR ∧ s.hw.cfg.restart = true) := by
  refine ⟨?_, ?_, ?_, ?_⟩
  · exact ⟨Wit.body .pins 1 (Wit.record (List.replicate 260 0)), by decide +kernel⟩
  · exact ⟨Wit.body .pins 1 (Wit.record [0, 0, 0, 0x40]), by decide +kernel⟩
  · exact ⟨Wit.loaded, by decide +kernel⟩
  · exact ⟨Wit.hw (fun h => { (h.setCs csCLEAR) with cfg := { h.cfg with restart := true } }), by decide +kernel⟩

theorem wit_StagedRelease :
    (∃ (s : State), s.hw.sysUp = true ∧ s.hw.is R.CFG_STAT_LOADED = true ∧ s.hw.is R.CFG_STAT_IDENT_OK = true ∧
      s.hw.is R.CFG_STAT_HBM_OK = true ∧ s.hw.tbl.clash = false) ∧
    (∃ (s : State), s.hw.pinsFrozen = false ∧ s.hw.sysUp = true ∧ s.hw.driveDone = false ∧ s.hw.fab.doneHigh = false ∧
      s.hw.cstate = csHELD) ∧
    (∃ (s : State), s.hw.sysUp = true ∧ s.hw.pwr'.phase ≠ .exitRun ∧ s.hw.cfg.part = .none ∧ s.hw.cstate = csRELEASING
      ∧ s.hw.fab.stage = 1) ∧
    (∃ (s : State), s.hw.sysUp = true ∧ s.hw.pwr'.phase ≠ .exitRun ∧ s.hw.cfg.part = .none ∧ s.hw.cstate = csRELEASING
      ∧ s.hw.fab.stage = 2) ∧
    (∃ (s : State), s.hw.sysUp = true ∧ s.hw.pwr'.phase ≠ .exitRun ∧ s.hw.cfg.part = .none ∧ s.hw.cstate = csRELEASING
      ∧ s.hw.fab.stage = 3) ∧
    (∃ (s : State), s.hw.pinsFrozen = false ∧ s.hw.sysUp = true ∧ s.hw.fab.doneHigh = true ∧ s.hw.cstate =
      csRELEASING) ∧
    (∃ (s : State), s.hw.pinsFrozen = false ∧ s.hw.sysUp = true ∧ s.hw.fab.doneHigh = true ∧ s.hw.cstate ≠
      csRELEASING) ∧
    (∃ (s : State), s.hw.pinsFrozen = false ∧ s.hw.sysUp = true ∧ s.hw.cfg.cmd = none) ∧
    (∃ (s : State), s.hw.blkDown .cfg R.CFG_CTL = false ∧ s.hw.cfg.cmd = none) ∧
    (∃ (s : State), s.hw.blkDown .cfg R.CFG_CTL = false) ∧
    (∃ (s : State), s.hw.sysUp = true ∧ s.hw.cfg.part = .folding ∧ ((List.range 64).filter (fun i => bit
      s.hw.cfg.regions (portRegion i))).all (fun i => s.hw.foldStat (16 + i) == fFOLDED) = true) := by
  refine ⟨?_, ?_, ?_, ?_, ?_, ?_, ?_, ?_, ?_, ?_, ?_⟩
  · exact ⟨Wit.hw (fun h => ((h.put R.CFG_STAT_LOADED 1).put R.CFG_STAT_IDENT_OK 1).put R.CFG_STAT_HBM_OK 1),
      by decide +kernel⟩
  · exact ⟨Wit.hw (fun h =>
      { (h.setCs csHELD) with fab := { h.fab with drive := false }, tbl := { h.tbl with doneLow := false } }),
      by decide +kernel⟩
  · exact ⟨Wit.hw (fun h => { (h.setCs csRELEASING) with fab := { h.fab with stage := 1 } }), by decide +kernel⟩
  · exact ⟨Wit.hw (fun h => { (h.setCs csRELEASING) with fab := { h.fab with stage := 2 } }), by decide +kernel⟩
  · exact ⟨Wit.hw (fun h => { (h.setCs csRELEASING) with fab := { h.fab with stage := 3 } }), by decide +kernel⟩
  · exact ⟨Wit.hw (fun h => { (h.setCs csRELEASING) with fab := { h.fab with doneHigh := true } }),
      by decide +kernel⟩
  · exact ⟨Wit.hw (fun h => { h with fab := { h.fab with doneHigh := true } }), by decide +kernel⟩
  · exact ⟨State.reset, by decide +kernel⟩
  · exact ⟨State.reset, by decide +kernel⟩
  · exact ⟨State.reset, by decide +kernel⟩
  · exact ⟨Wit.hw (fun h =>
      { (h.setFoldStat 36 fFOLDED) with cfg := { h.cfg with part := .folding, regions := 0 } }), by decide +kernel⟩

theorem wit_Fabric :
    (∃ (s : State), s.hw.sysUp = true ∧ s.hw.is R.ERR_SCRUB_CFG_EN = true ∧ s.hw.is R.CFG_STAT_RELEASED = true) ∧
    (∃ (s : State) (a : Nat), s.hw.sysUp = true ∧ s.hw.tapInternal = false ∧ s.hw.tap.ir = irDBG_ACCESS ∧
      s.hw.tap.dbgWait = none ∧ s.hw.uregDown = false ∧ 0x60000000 ≤ a ∧ a < 0x61000000 ∧ a % 4 = 0) ∧
    (∃ (s : State) (a : Nat) (wr : Option Nat) (l : List UWait), s.hw.sysUp = true ∧ s.hw.fab.ureg = ⟨a, wr, .tap⟩ ::
      l) ∧
    (∃ (s : State) (u : Nat), u < 8 ∧ s.hw.blkDown .fab R.FAB_PLL_LOSS = false ∧ bit s.hw.userHeld u = true) ∧
    (∃ (s : State) (i : Nat) (u : UserPkt), s.hw.coreUp = true ∧ i < 64 ∧ s.hw.fenced (576 + i) = false ∧
      s.hw.fab.userRun = true ∧ u.cls ≠ 0 ∧ (u.op = 1 ∨ u.op = 2) ∧ u.fits = true ∧ (s.hw.niCheck (576 + i) u.addr
      u.bytes (some 16)).1 = none ∧ s.hw.tagFree (576 + i) = true) ∧
    (∃ (s : State) (k : Nat) (p : Packet), s.hw.coreUp = true ∧ s.hw.pkt? k = some p ∧ p.dstSeat = s.hw.seat ∧ 576 ≤
      p.dstNode ∧ p.dstNode < 640 ∧ (p.op = 1 ∨ p.op = 2) ∧ s.hw.fenced p.dstNode = false) := by
  refine ⟨?_, ?_, ?_, ?_, ?_, ?_⟩
  · exact ⟨Wit.hw (fun h => (h.put R.ERR_SCRUB_CFG_EN 1).put R.CFG_STAT_RELEASED 1), by decide +kernel⟩
  · exact ⟨Wit.userPort irDBG_ACCESS, 0x60FFFFFC, Wit.userPort_sys _, rfl, rfl, rfl, Wit.userPort_up _, by decide +kernel⟩
  · exact ⟨Wit.hw (fun h => { h with fab := { h.fab with ureg := [⟨0x60000000, none, .tap⟩] } }), 0x60000000, none, [], by decide +kernel⟩
  · exact ⟨Wit.hw (fun h => { h with clk := { h.clk with locked := [0, 15] } }), 7, by decide +kernel⟩
  · exact ⟨Wit.port, 63, ⟨BitVec.ofNat 256 (2 ^ 80 + 2 ^ 96 + 32 * 2 ^ 128), []⟩, by decide +kernel⟩
  · exact ⟨Wit.hw (fun h => { h with noc := { h.noc with fence := [(639, 0)], pkts := [Wit.pkt 1 0 639 0] } }), 0,
      Wit.pkt 1 0 639 0, by decide +kernel⟩

theorem wit_Doorbells :
    (∃ (s : State) (m : Nat) (v : Nat), m ≤ 16 ∧ s.hw.blkDown .mbx (R.MBX_DB_CMD m) = false ∧ s.hw.flrRuns m = false ∧
      (v % 65536 + 65536 - s.hw.get (R.MBX_CMD_HEAD_HEAD m)) % 65536 ≤ 64 ∧ (s.hw.get (R.MBX_DB_CMD_TAIL m) + 65536 -
      s.hw.get (R.MBX_CMD_HEAD_HEAD m)) % 65536 ≤ (v % 65536 + 65536 - s.hw.get (R.MBX_CMD_HEAD_HEAD m)) % 65536) ∧
    (∃ (s : State) (m : Nat) (v : Nat), m ≤ 16 ∧ s.hw.blkDown .mbx (R.MBX_DB_CMD m) = false ∧ s.hw.flrRuns m = false ∧
      64 < (v % 65536 + 65536 - s.hw.get (R.MBX_CMD_HEAD_HEAD m)) % 65536) ∧
    (∃ (s : State) (m : Nat) (v : Nat), m ≤ 16 ∧ s.hw.blkDown .mbx (R.MBX_DB_CMD m) = false ∧ s.hw.flrRuns m = false ∧
      (v % 65536 + 65536 - s.hw.get (R.MBX_CMD_HEAD_HEAD m)) % 65536 ≤ 64 ∧ (v % 65536 + 65536 - s.hw.get
      (R.MBX_CMD_HEAD_HEAD m)) % 65536 < (s.hw.get (R.MBX_DB_CMD_TAIL m) + 65536 - s.hw.get (R.MBX_CMD_HEAD_HEAD m)) %
      65536) ∧
    (∃ (s : State) (m : Nat) (v : Nat), m ≤ 16 ∧ s.hw.blkDown .mbx (R.MBX_DB_CPL m) = false ∧ s.hw.flrRuns m = false ∧
      (s.hw.get (R.MBX_CPL_TAIL_TAIL m) + 65536 - v % 65536) % 65536 ≤ (s.hw.get (R.MBX_CPL_TAIL_TAIL m) + 65536 -
      s.hw.get (R.MBX_DB_CPL_HEAD m)) % 65536) ∧
    (∃ (s : State) (m : Nat) (v : Nat), m ≤ 16 ∧ s.hw.blkDown .mbx (R.MBX_DB_CPL m) = false ∧ s.hw.flrRuns m = false ∧
      (s.hw.get (R.MBX_CPL_TAIL_TAIL m) + 65536 - s.hw.get (R.MBX_DB_CPL_HEAD m)) % 65536 < (s.hw.get
      (R.MBX_CPL_TAIL_TAIL m) + 65536 - v % 65536) % 65536) ∧
    (∃ (s : State) (m : Nat), m ≤ 16 ∧ s.hw.blkDown .mbx (R.MBX_DB_CMD m) = false ∧ s.hw.flrRuns m = true) ∧
    (∃ (s : State) (m : Nat), m ≤ 16 ∧ s.hw.blkDown .mbx (R.MBX_DB_CPL m) = false ∧ s.hw.flrRuns m = true) := by
  refine ⟨?_, ?_, ?_, ?_, ?_, ?_, ?_⟩
  · exact ⟨State.reset, 16, 64, by decide +kernel⟩
  · exact ⟨State.reset, 16, 65, by decide +kernel⟩
  · exact ⟨Wit.hw (fun h => h.put (R.MBX_DB_CMD_TAIL 16) 64), 16, 0, by decide +kernel⟩
  · exact ⟨Wit.hw (fun h => h.put (R.MBX_CPL_TAIL_TAIL 16) 64), 16, 64, by decide +kernel⟩
  · exact ⟨State.reset, 16, 1, by decide +kernel⟩
  · exact ⟨Wit.hw (fun h => h.putBit R.PCIE_FLR_STAT_FLR 15 true), 15, by decide +kernel⟩
  · exact ⟨Wit.hw (fun h => h.putBit R.PCIE_FLR_STAT_FLR 15 true), 15, by decide +kernel⟩

theorem wit_MailboxFlow :
    (∃ (s : State) (m : Nat), s.hw.sysUp = true ∧ s.hw.dealerUp = true ∧ s.hw.mbxChoice = some m ∧ m ≤ 16 ∧
      s.hw.entryPoisoned m = false ∧ s.hw.checkFails
      { mb := m, hd := s.hw.freeHandle m, seq := s.hw.mbx.nextSeq, entry := Mem.bytes s.hw.mem.kitty (cmdSlot m (s.hw.get (R.MBX_CMD_HEAD_HEAD m))) 64, started := false }
      = none) ∧
    (∃ (s : State) (m : Nat) (st : Nat) (d : Nat), s.hw.sysUp = true ∧ s.hw.dealerUp = true ∧ s.hw.mbxChoice = some m
      ∧ m ≤ 16 ∧ s.hw.entryPoisoned m = false ∧ s.hw.checkFails
      { mb := m, hd := s.hw.freeHandle m, seq := s.hw.mbx.nextSeq, entry := Mem.bytes s.hw.mem.kitty (cmdSlot m (s.hw.get (R.MBX_CMD_HEAD_HEAD m))) 64, started := false }
      = some (st, d)) ∧
    (∃ (s : State) (m : Nat), s.hw.sysUp = true ∧ s.hw.dealerUp = true ∧ s.hw.mbxChoice = some m ∧ m ≤ 16 ∧
      s.hw.entryPoisoned m = true) ∧
    (∃ (s : State), s.hw.sysUp = true ∧ s.hw.mbxChoice = none) ∧
    (∃ (s : State) (m : Nat) (k : Nat), s.hw.sysUp = true ∧ s.hw.dealerUp = true ∧ m ≤ 16 ∧ k < 8) ∧
    (∃ (s : State) (m : Nat), s.hw.sysUp = true ∧ s.hw.dealerUp = true ∧ m ≤ 16 ∧ s.hw.events m = [] ∧ s.hw.slotFree m
      = true) ∧
    (∃ (s : State) (m : Nat), s.hw.sysUp = true ∧ s.hw.dealerUp = true ∧ m ≤ 16 ∧ s.hw.slotFree m = false ∧ 32 ≤
      (s.hw.events m).length) ∧
    (∃ (s : State) (m : Nat) (e : Evt) (l : List Evt), s.hw.sysUp = true ∧ s.hw.events m = e :: l ∧ s.hw.slotFree m =
      true) ∧
    (∃ (s : State) (m : Nat) (k : Nat) (f : InFlight), s.hw.sysUp = true ∧ s.hw.is (R.MBX_CMD_TMO_MS m) = true ∧
      s.hw.cmd? m k = some f ∧ s.hw.cfg.cmd = none) ∧
    (∃ (s : State) (m : Nat), s.hw.sysUp = true ∧ s.hw.is (R.MBX_CTL_COAL_US m) = true ∧ s.hw.unsig m ≠ 0 ∧ s.hw.is
      (R.MBX_CTL_IRQ_EN m) = true) ∧
    (∃ (s : State) (f : InFlight) (e : Nat) (a : Nat) (n : Nat) (rd : Bool), s.hw.sysUp = true ∧ s.hw.dmaWaiting =
      some f ∧ f.dma = some (rd, a, n) ∧ (List.range 8).find? (fun e => !(s.hw.pcie.engines.any (fun g => g.eng ==
      e))) = some e ∧ s.hw.dmaAllowed (dmaFn f.mb) = true) := by
  refine ⟨?_, ?_, ?_, ?_, ?_, ?_, ?_, ?_, ?_, ?_, ?_⟩
  · exact ⟨Wit.hw (fun h => ((h.put (R.MBX_DB_CMD_TAIL 16) 1).put R.MBX_GCTL_READY 1)), 16, by decide +kernel⟩
  · exact ⟨Wit.hw (fun h => ((h.put (R.MBX_DB_CMD_TAIL 16) 1).put R.MBX_GCTL_READY 1).kittyW (cmdSlot 16 0) [0, 0,
      4]), 16, stBAD_FLAGS, 0, by decide +kernel⟩
  · exact ⟨Wit.hw (fun h =>
      { ((h.put (R.MBX_DB_CMD_TAIL 16) 1).put R.MBX_GCTL_READY 1) with mem := { h.mem with kittyP := [0x1001] } }),
      16, by decide +kernel⟩
  · exact ⟨State.reset, by decide +kernel⟩
  · exact ⟨State.reset, 16, 7, by decide +kernel⟩
  · exact ⟨State.reset, 16, by decide +kernel⟩
  · exact ⟨Wit.hw (fun h =>
      { (h.put (R.MBX_CPL_TAIL_TAIL 16) 64) with mbx := { h.mbx with events := lmapSet h.mbx.events 16 (List.replicate 32 ⟨1, 0, stEVENT⟩) } }),
      16, by decide +kernel⟩
  · exact ⟨Wit.hw (fun h => { h with mbx := { h.mbx with events := lmapSet h.mbx.events 16 [⟨1, 0, stEVENT⟩] } }),
      16, ⟨1, 0, stEVENT⟩, [], by decide +kernel⟩
  · exact ⟨Wit.cmd 0x0000 16 [], 16, 0, Wit.entry 0x0000 16 [], by decide +kernel⟩
  · exact ⟨Wit.hw (fun h => ((h.setUnsig 16 1).put (R.MBX_CTL_COAL_US 16) 1).put (R.MBX_CTL_IRQ_EN 16) 1), 16,
      by decide +kernel⟩
  · exact ⟨Wit.dma, Wit.entry 0x0005 16 (leBytes 8 0 ++ leBytes 4 16 ++ leBytes 4 0 ++ leBytes 8 0x1000), 0, 0x1000,
      16, false, by decide +kernel⟩

theorem wit_DeviceCommands :
    (∃ (s : State) (m : Nat) (k : Nat) (f : InFlight), s.hw.dealerUp = true ∧ s.hw.cmdFor m k 0x0000 = some f) ∧
    (∃ (s : State) (m : Nat) (k : Nat) (f : InFlight) (v : Nat), s.hw.dealerUp = true ∧ s.hw.cmdFor m k 0x0001 = some
      f ∧ s.hw.infoValue (f.par 0 1) = some v ∧ s.hw.is R.SYS_FW_STAT_ROM_SVC = false ∧ s.hw.unreadable 0 +
      s.hw.unreadable 1 = 0) ∧
    (∃ (s : State) (m : Nat) (k : Nat) (f : InFlight), s.hw.dealerUp = true ∧ s.hw.cmdFor m k 0x0002 = some f ∧ f.par
      0 1 = 1 ∧ (s.hw.complete m k 0 0 0).unsig m = 0) ∧
    (∃ (s : State) (m : Nat) (k : Nat) (f : InFlight) (ans : UAns) (v : Nat) (h : Hw), s.hw.dealerUp = true ∧
      s.hw.cmdFor m k 0x0003 = some f ∧ s.hw.dmapRead (f.par 0 4) 4 ans = (.ok v, h)) ∧
    (∃ (s : State) (m : Nat) (k : Nat) (f : InFlight) (ans : UAns) (h : Hw) (v : Nat), s.hw.dealerUp = true ∧
      s.hw.cmdFor m k 0x0004 = some f ∧ s.hw.dmapWrite (f.par 0 4) (leBytes 4 (f.par 4 4)) 640 ans = (.ok v, h)) ∧
    (∃ (s : State) (m : Nat) (k : Nat) (f : InFlight) (far : Memory) (ans : List (Nat × UAns)) (bs : List Byte) (h :
      Hw), s.hw.dealerUp = true ∧ s.hw.cmdFor m k 0x0005 = some f ∧ memPar f = none ∧ f.par 16 8 = 0 ∧ f.par 8 4 ≤ 8 ∧
      Hw.readPieces far (ansAt ans) (s.hw.dealerPieces (f.par 0 8) (f.par 8 4) false) s.hw = some (0, bs, h)) ∧
    (∃ (s : State) (m : Nat) (k : Nat) (f : InFlight) (farOk : Bool) (ans : List (Nat × UAns)) (h : Hw), s.hw.dealerUp
      = true ∧ s.hw.cmdFor m k 0x0006 = some f ∧ memPar f = none ∧ f.par 16 8 = 0 ∧ f.par 8 4 ≤ 32 ∧ Hw.writePieces
      farOk (ansAt ans) (s.hw.dealerPieces (f.par 0 8) (f.par 8 4) true) ((f.entry.drop 32).take (f.par 8 4)) s.hw =
      some (0, h)) ∧
    (∃ (s : State) (m : Nat) (k : Nat) (f : InFlight), s.hw.dealerUp = true ∧ s.hw.cmdFor m k 0x0007 = some f ∧ 4 <
      f.par 0 1) ∧
    (∃ (s : State) (m : Nat) (k : Nat) (f : InFlight), s.hw.dealerUp = true ∧ s.hw.cmdFor m k 0x0007 = some f ∧ f.par
      0 1 ≤ 2 ∧ s.hw.is R.PWR_STATE_BUSY = false ∧ s.hw.pwrAllowed (f.par 0 1) = true) := by
  refine ⟨?_, ?_, ?_, ?_, ?_, ?_, ?_, ?_, ?_⟩
  · exact ⟨Wit.cmd 0x0000 16 [], 16, 0, Wit.entry 0x0000 16 [], by decide +kernel⟩
  · exact ⟨Wit.cmd 0x0001 16 [2], 16, 0, Wit.entry 0x0001 16 [2], State.reset.hw.ident.parten.toNat + 2 ^ 32 *
      State.reset.hw.ident.idcode.toNat, by decide +kernel⟩
  · exact ⟨Wit.cmdF 0x0002 16 [1] 2, 16, 0, Wit.entryF 0x0002 16 [1] 2, by decide +kernel⟩
  · exact ⟨Wit.cmd 0x0003 16 (leBytes 4 R.SYS_HWID), 16, 0, Wit.entry 0x0003 16 (leBytes 4 R.SYS_HWID), .noPort,
      0xE5121122, (Wit.cmd 0x0003 16 (leBytes 4 R.SYS_HWID)).hw, by decide +kernel⟩
  · exact ⟨Wit.cmd 0x0004 16 (leBytes 4 R.ERR_SCRUB_CFG ++ leBytes 4 0), 16, 0, Wit.entry 0x0004 16 (leBytes 4
      R.ERR_SCRUB_CFG ++ leBytes 4 0), .noPort, (((Wit.cmd 0x0004 16 (leBytes 4 R.ERR_SCRUB_CFG ++ leBytes 4
      0)).hw).dmapWrite R.ERR_SCRUB_CFG (leBytes 4 0) 640 .noPort).2, 0, by decide +kernel⟩
  · exact ⟨Wit.cmd 0x0005 16 (leBytes 8 0x110000100000 ++ leBytes 4 8), 16, 0, Wit.entry 0x0005 16 (leBytes 8
      0x110000100000 ++ leBytes 4 8), [], [], List.replicate 8 0, (Wit.cmd 0x0005 16 (leBytes 8 0x110000100000 ++
      leBytes 4 8)).hw, by decide +kernel⟩
  · have key : (match Hw.writePieces true (ansAt []) ((Wit.cmd 0x0006 16 (leBytes 8 0x110000100000 ++ leBytes 4 8 ++ leBytes 4 0 ++ leBytes 8 0 ++ [1, 2, 3, 4, 5, 6, 7, 8])).hw.dealerPieces ((Wit.entry 0x0006 16 (leBytes 8 0x110000100000 ++ leBytes 4 8 ++ leBytes 4 0 ++ leBytes 8 0 ++ [1, 2, 3, 4, 5, 6, 7, 8]) : InFlight).par 0 8) ((Wit.entry 0x0006 16 (leBytes 8 0x110000100000 ++ leBytes 4 8 ++ leBytes 4 0 ++ leBytes 8 0 ++ [1, 2, 3, 4, 5, 6, 7, 8]) : InFlight).par 8 4) true) (((Wit.entry 0x0006 16 (leBytes 8 0x110000100000 ++ leBytes 4 8 ++ leBytes 4 0 ++ leBytes 8 0 ++ [1, 2, 3, 4, 5, 6, 7, 8]) : InFlight).entry.drop 32).take ((Wit.entry 0x0006 16 (leBytes 8 0x110000100000 ++ leBytes 4 8 ++ leBytes 4 0 ++ leBytes 8 0 ++ [1, 2, 3, 4, 5, 6, 7, 8]) : InFlight).par 8 4)) (Wit.cmd 0x0006 16 (leBytes 8 0x110000100000 ++ leBytes 4 8 ++ leBytes 4 0 ++ leBytes 8 0 ++ [1, 2, 3, 4, 5, 6, 7, 8])).hw with | some (0, h) => decide (((Wit.cmd 0x0006 16 (leBytes 8 0x110000100000 ++ leBytes 4 8 ++ leBytes 4 0 ++ leBytes 8 0 ++ [1, 2, 3, 4, 5, 6, 7, 8])).hw.dealerUp = true) ∧ ((Wit.cmd 0x0006 16 (leBytes 8 0x110000100000 ++ leBytes 4 8 ++ leBytes 4 0 ++ leBytes 8 0 ++ [1, 2, 3, 4, 5, 6, 7, 8])).hw.cmdFor 16 0 0x0006 = some (Wit.entry 0x0006 16 (leBytes 8 0x110000100000 ++ leBytes 4 8 ++ leBytes 4 0 ++ leBytes 8 0 ++ [1, 2, 3, 4, 5, 6, 7, 8]) : InFlight)) ∧ (memPar (Wit.entry 0x0006 16 (leBytes 8 0x110000100000 ++ leBytes 4 8 ++ leBytes 4 0 ++ leBytes 8 0 ++ [1, 2, 3, 4, 5, 6, 7, 8]) : InFlight) = none) ∧ ((Wit.entry 0x0006 16 (leBytes 8 0x110000100000 ++ leBytes 4 8 ++ leBytes 4 0 ++ leBytes 8 0 ++ [1, 2, 3, 4, 5, 6, 7, 8]) : InFlight).par 16 8 = 0) ∧ ((Wit.entry 0x0006 16 (leBytes 8 0x110000100000 ++ leBytes 4 8 ++ leBytes 4 0 ++ leBytes 8 0 ++ [1, 2, 3, 4, 5, 6, 7, 8]) : InFlight).par 8 4 ≤ 32)) | _ => false) = true := by decide +kernel
    split at key
    · rename_i h e0
      have k := of_decide_eq_true key
      exact ⟨(Wit.cmd 0x0006 16 (leBytes 8 0x110000100000 ++ leBytes 4 8 ++ leBytes 4 0 ++ leBytes 8 0 ++ [1, 2, 3, 4, 5, 6, 7, 8])), 16, 0, (Wit.entry 0x0006 16 (leBytes 8 0x110000100000 ++ leBytes 4 8 ++ leBytes 4 0 ++ leBytes 8 0 ++ [1, 2, 3, 4, 5, 6, 7, 8]) : InFlight), true, [], h, k.1, k.2.1, k.2.2.1, k.2.2.2.1, k.2.2.2.2, e0⟩
    · cases key
  · exact ⟨Wit.cmd 0x0007 16 [5], 16, 0, Wit.entry 0x0007 16 [5], by decide +kernel⟩
  · exact ⟨Wit.cmd 0x0007 16 [1], 16, 0, Wit.entry 0x0007 16 [1], by decide +kernel⟩

theorem wit_ImageAndFlashCommands :
    (∃ (s : State) (m : Nat) (k : Nat) (f : InFlight), s.hw.dealerUp = true ∧ s.hw.cmdFor m k 0x0010 = some f ∧
      s.hw.cfg.attempt = .none ∧ (s.hw.cstate = csWAIT ∨ s.hw.cstate = csFAILED)) ∧
    (∃ (s : State) (m : Nat) (k : Nat) (f : InFlight), s.hw.dealerUp = true ∧ s.hw.cmdFor m k 0x0010 = some f ∧
      s.hw.cfg.attempt = .none ∧ s.hw.cstate ≠ csWAIT ∧ s.hw.cstate ≠ csFAILED) ∧
    (∃ (s : State) (m : Nat) (k : Nat) (f : InFlight), s.hw.dealerUp = true ∧ s.hw.cmdFor m k 0x0011 = some f ∧
      s.hw.cfg.attempt = .none) ∧
    (∃ (s : State) (m : Nat) (k : Nat) (f : InFlight) (obs : FlashObs), s.hw.dealerUp = true ∧ s.hw.cmdFor m k 0x0014
      = some f ∧ obs.code = 0 ∧ s.hw.pinsFrozen = false ∧ f.par 4 4 % 0x10000 = 0 ∧ f.par 0 4 % 0x10000 = 0 ∧ (s.hw.is
      R.CFG_FLASH_SIZE = false ∨ f.par 0 4 + f.par 4 4 ≤ s.hw.get R.CFG_FLASH_SIZE * 2 ^ 20) ∧ s.hw.flashBusy = false) ∧
    (∃ (s : State) (m : Nat) (k : Nat) (f : InFlight) (obs : FlashObs) (bs : List Byte), s.hw.dealerUp = true ∧
      s.hw.cmdFor m k 0x0013 = some f ∧ obs.code = 0 ∧ s.hw.pinsFrozen = false ∧ f.par 4 4 % 256 = 0 ∧ f.par 0 4 % 256
      = 0 ∧ (s.hw.is R.CFG_FLASH_SIZE = false ∨ f.par 0 4 + f.par 4 4 ≤ s.hw.get R.CFG_FLASH_SIZE * 2 ^ 20) ∧
      s.hw.flashBusy = false ∧ s.hw.hostIn m k (f.par 4 4) = some bs) ∧
    (∃ (s : State) (m : Nat) (k : Nat) (f : InFlight) (obs : FlashObs), s.hw.dealerUp = true ∧ s.hw.cmdFor m k 0x0012
      = some f ∧ obs.code = 0 ∧ s.hw.pinsFrozen = false ∧ f.par 4 4 % 4 = 0 ∧ (s.hw.is R.CFG_FLASH_SIZE = false ∨
      f.par 0 4 + f.par 4 4 ≤ s.hw.get R.CFG_FLASH_SIZE * 2 ^ 20) ∧ s.hw.flashBusy = false ∧ s.hw.hostOutReady m k
      (f.par 4 4) = true) := by
  refine ⟨?_, ?_, ?_, ?_, ?_, ?_⟩
  · exact ⟨Wit.cmdWith 0x0010 16 [] (fun h => h.setCs csWAIT), 16, 0, Wit.entry 0x0010 16 [], by decide +kernel⟩
  · exact ⟨Wit.cmdWith 0x0010 16 [] (fun h => h.setCs csRELEASED), 16, 0, Wit.entry 0x0010 16 [], by decide +kernel⟩
  · exact ⟨Wit.cmd 0x0011 16 [], 16, 0, Wit.entry 0x0011 16 [], by decide +kernel⟩
  · exact ⟨Wit.cmd 0x0014 16 (leBytes 4 0 ++ leBytes 4 0), 16, 0, Wit.entry 0x0014 16 (leBytes 4 0 ++ leBytes 4 0),
      ⟨0, []⟩, by decide +kernel⟩
  · exact ⟨Wit.cmdWith 0x0013 16 (leBytes 4 0 ++ leBytes 4 256 ++ leBytes 8 0) (Wit.got (List.replicate 256 0)), 16,
      0, Wit.entry 0x0013 16 (leBytes 4 0 ++ leBytes 4 256 ++ leBytes 8 0), ⟨0, []⟩, List.replicate 256 0,
      by decide +kernel⟩
  · exact ⟨Wit.cmdWith 0x0012 16 (leBytes 4 0 ++ leBytes 4 4 ++ leBytes 8 0) (Wit.engine 4), 16, 0, Wit.entry 0x0012
      16 (leBytes 4 0 ++ leBytes 4 4 ++ leBytes 8 0), ⟨0, []⟩, by decide +kernel⟩

theorem wit_PartitionCommands :
    (∃ (s : State) (m : Nat) (k : Nat) (f : InFlight), s.hw.dealerUp = true ∧ s.hw.cmdFor m k 0x0100 = some f ∧ f.part
      < 16 ∧ s.hw.is R.CFG_STAT_RELEASED = true ∧ s.hw.fused f.part = false ∧ openPar f = none ∧ s.hw.spare f.part =
      false ∧ (s.hw.pstate f.part = 0 ∨ s.hw.pstate f.part = 1) ∧ (f.par 1 1 = 0 ∨ s.hw.graphicsCount < 4)) ∧
    (∃ (s : State) (m : Nat) (k : Nat) (f : InFlight), s.hw.dealerUp = true ∧ s.hw.cmdFor m k 0x0100 = some f ∧ f.part
      < 16 ∧ s.hw.is R.CFG_STAT_RELEASED = true ∧ s.hw.fused f.part = false ∧ openPar f = none ∧ s.hw.spare f.part =
      false ∧ s.hw.pstate f.part ≠ 0 ∧ s.hw.pstate f.part ≠ 1) ∧
    (∃ (s : State) (m : Nat) (k : Nat) (f : InFlight), s.hw.dealerUp = true ∧ s.hw.cmdFor m k 0x0101 = some f ∧ f.part
      < 16 ∧ s.hw.is R.CFG_STAT_RELEASED = true ∧ s.hw.fused f.part = false ∧ 2 ≤ s.hw.pstate f.part ∧ s.hw.pstate
      f.part ≤ 4) ∧
    (∃ (s : State) (m : Nat) (k : Nat) (f : InFlight), s.hw.dealerUp = true ∧ s.hw.cmdFor m k 0x0101 = some f ∧ f.part
      < 16 ∧ s.hw.is R.CFG_STAT_RELEASED = true ∧ s.hw.fused f.part = false ∧ s.hw.pstate f.part < 2) ∧
    (∃ (s : State) (m : Nat) (k : Nat) (f : InFlight), s.hw.dealerUp = true ∧ s.hw.cmdFor m k 0x0102 = some f ∧ f.part
      < 16 ∧ s.hw.is R.CFG_STAT_RELEASED = true ∧ s.hw.fused f.part = false ∧ s.hw.pstate f.part = 1) ∧
    (∃ (s : State) (m : Nat) (k : Nat) (f : InFlight), s.hw.dealerUp = true ∧ s.hw.cmdFor m k 0x0103 = some f ∧ f.part
      < 16 ∧ s.hw.is R.CFG_STAT_RELEASED = true ∧ s.hw.fused f.part = false ∧ f.par 1 1 ≤ f.par 2 1 ∧ f.par 2 1 ≤ 28 ∧
      f.par 3 1 < f.par 4 1 ∧ f.par 5 1 % 4 = 0 ∧ 4 ≤ f.par 5 1 ∧ f.par 5 1 ≤ 64) ∧
    (∃ (s : State) (m : Nat) (k : Nat) (f : InFlight) (h : Hw), s.hw.dealerUp = true ∧ s.hw.cmdFor m k 0x0104 = some f
      ∧ f.part < 16 ∧ s.hw.is R.CFG_STAT_RELEASED = true ∧ s.hw.fused f.part = false ∧ f.par 1 1 ≤ 1 ∧ f.par 2 1 ≤ 16
      ∧ f.par 3 1 ≤ 16 ∧ f.par 4 1 ≤ 16 ∧ h = s.hw.wr (R.PACE_BW f.part) (f.par 1 1 + f.par 2 1 * 2 ^ 8 + f.par 3 1 *
      2 ^ 16 + f.par 4 1 * 2 ^ 24) ∧ h.sharesFit = true) ∧
    (∃ (s : State) (m : Nat) (k : Nat) (f : InFlight), s.hw.dealerUp = true ∧ s.hw.cmdFor m k 0x0104 = some f ∧ f.part
      < 16 ∧ s.hw.is R.CFG_STAT_RELEASED = true ∧ s.hw.fused f.part = false ∧ f.par 1 1 ≤ 1 ∧ f.par 2 1 ≤ 16 ∧ f.par 3
      1 ≤ 16 ∧ f.par 4 1 ≤ 16 ∧ (s.hw.wr (R.PACE_BW f.part) (f.par 1 1 + f.par 2 1 * 2 ^ 8 + f.par 3 1 * 2 ^ 16 +
      f.par 4 1 * 2 ^ 24)).sharesFit = false) ∧
    (∃ (s : State) (m : Nat) (k : Nat) (f : InFlight), s.hw.dealerUp = true ∧ s.hw.cmdFor m k 0x0108 = some f ∧ f.part
      < 16 ∧ s.hw.fused f.part = false) := by
  refine ⟨?_, ?_, ?_, ?_, ?_, ?_, ?_, ?_, ?_⟩
  · exact ⟨Wit.cmdWith 0x0100 15 (leBytes 8 0 ++ leBytes 4 64) (fun h => (h.put R.CFG_STAT_RELEASED 1).setPstate 15
      0), 15, 0, Wit.entry 0x0100 15 (leBytes 8 0 ++ leBytes 4 64), by decide +kernel⟩
  · exact ⟨Wit.cmdWith 0x0100 15 (leBytes 8 0 ++ leBytes 4 64) (fun h => (h.put R.CFG_STAT_RELEASED 1).setPstate 15
      2), 15, 0, Wit.entry 0x0100 15 (leBytes 8 0 ++ leBytes 4 64), by decide +kernel⟩
  · exact ⟨Wit.cmdWith 0x0101 16 [15] (fun h => (h.put R.CFG_STAT_RELEASED 1).setPstate 15 2), 16, 0, Wit.entry
      0x0101 16 [15], by decide +kernel⟩
  · exact ⟨Wit.cmdWith 0x0101 16 [15] (fun h => (h.put R.CFG_STAT_RELEASED 1).setPstate 15 1), 16, 0, Wit.entry
      0x0101 16 [15], by decide +kernel⟩
  · exact ⟨Wit.cmdWith 0x0102 16 [15] (fun h => (h.put R.CFG_STAT_RELEASED 1).setPstate 15 1), 16, 0, Wit.entry
      0x0102 16 [15], by decide +kernel⟩
  · exact ⟨Wit.cmdWith 0x0103 16 [15, 0, 28, 0, 255, 60] (fun h => h.put R.CFG_STAT_RELEASED 1), 16, 0, Wit.entry
      0x0103 16 [15, 0, 28, 0, 255, 60], by decide +kernel⟩
  · exact ⟨Wit.cmdWith 0x0104 16 [15, 1, 16, 0, 16] (fun h => h.put R.CFG_STAT_RELEASED 1), 16, 0, Wit.entry 0x0104
      16 [15, 1, 16, 0, 16], (Wit.cmdWith 0x0104 16 [15, 1, 16, 0, 16] (fun h => h.put R.CFG_STAT_RELEASED 1)).hw.wr
      (R.PACE_BW 15) 0x10001001, by decide +kernel⟩
  · exact ⟨Wit.cmdWith 0x0104 16 [15, 1, 16, 16, 16] (fun h => h.put R.CFG_STAT_RELEASED 1), 16, 0, Wit.entry 0x0104
      16 [15, 1, 16, 16, 16], by decide +kernel⟩
  · exact ⟨Wit.cmd 0x0108 16 [15], 16, 0, Wit.entry 0x0108 16 [15], by decide +kernel⟩

theorem wit_JobsAndCheckpoints :
    (∃ (s : State) (m : Nat) (k : Nat) (f : InFlight) (bs : List Byte) (img : JobImg) (h : Hw), s.hw.dealerUp = true ∧
      s.hw.cmdFor m k 0x0105 = some f ∧ f.part < 16 ∧ s.hw.is R.CFG_STAT_RELEASED = true ∧ s.hw.fused f.part = false ∧
      loadPar f = none ∧ s.hw.pstate f.part = 2 ∧ (s.hw.pt f.part).run = none ∧ 64 ≤ f.par 24 4 ∧ f.par 1 1 = 1 ∧
      s.hw.hostData m k = some bs ∧ parseJob bs (f.par 24 4) (s.hw.get (R.NOC_ISO_SLICE_SLICE_BASE f.part)) (s.hw.get
      (R.NOC_ISO_SLICE_SLICE_LEN f.part)) = some img ∧ img.secs.any (fun x => x.kind == 0 && (maskTiles f.part
      img.mask).any (fun e => x.to img.mask e.1 && (s.hw.tile e.2).running)) = false ∧ s.hw.copyHbm f.part img = some
      (0, h)) ∧
    (∃ (s : State) (m : Nat) (k : Nat) (f : InFlight), s.hw.dealerUp = true ∧ s.hw.cmdFor m k 0x0106 = some f ∧ f.part
      < 16 ∧ s.hw.is R.CFG_STAT_RELEASED = true ∧ s.hw.fused f.part = false ∧ (s.hw.pt f.part).staged = none ∧
      (s.hw.pt f.part).loaded = none) ∧
    (∃ (s : State) (m : Nat) (k : Nat) (f : InFlight) (img : JobImg), s.hw.dealerUp = true ∧ s.hw.cmdFor m k 0x0106 =
      some f ∧ f.part < 16 ∧ s.hw.is R.CFG_STAT_RELEASED = true ∧ s.hw.fused f.part = false ∧ (s.hw.pt
      f.part).run.isSome = true ∧ (s.hw.pt f.part).staged = some img ∧ img.job = f.par 4 4 ∧ s.hw.pstate f.part = 2) ∧
    (∃ (s : State) (p : Nat) (x : JobStart), s.hw.coreUp = true ∧ (s.hw.jobPrepAll p).pt p =
      { (s.hw.jobPrepAll p).pt p with start := some x, run := none } ∧ (s.hw.jobPrepAll p).pstate p = 2 ∧ (maskTiles p
      x.img.mask).all (fun e => ((s.hw.jobPrepAll p).tile e.2).str.jobErr == 0) = true ∧ (s.hw.jobPrepAll p).jobFilled
      p x = true) ∧
    (∃ (s : State) (p : Nat) (r : JobRun), s.hw.coreUp = true ∧ (s.hw.pt p).run = some r ∧ (s.hw.pt p).start = none ∧
      (s.hw.pt p).flrJob = false ∧ s.hw.pstate p = 2 ∧ (maskTiles p r.mask).all (fun e => !(s.hw.tile e.2).running &&
      (s.hw.tile e.2).jobQuiet false && (s.hw.tile e.2).ctl.why == 1) = true) ∧
    (∃ (s : State) (m : Nat) (k : Nat) (f : InFlight), s.hw.dealerUp = true ∧ s.hw.cmdFor m k 0x0107 = some f ∧ f.part
      < 16 ∧ s.hw.is R.CFG_STAT_RELEASED = true ∧ s.hw.fused f.part = false ∧ s.hw.pstate f.part ≠ 2) ∧
    (∃ (s : State) (m : Nat) (k : Nat) (f : InFlight), s.hw.dealerUp = true ∧ s.hw.cmdFor m k 0x0107 = some f ∧ f.part
      < 16 ∧ s.hw.is R.CFG_STAT_RELEASED = true ∧ s.hw.fused f.part = false ∧ s.hw.pstate f.part = 2 ∧ (s.hw.pt
      f.part).ck.phase = .none) ∧
    (∃ (s : State) (p : Nat), s.hw.coreUp = true ∧ s.hw.popen p = true ∧ s.hw.foldStat p = fOPEN ∧ (s.hw.pt
      p).ck.copying = false ∧ (s.hw.pt p).ck.phase = .arriving ∧ (tilesOf p).all (fun n => !(s.hw.tile n).ctl.ckStop
      || ((s.hw.tile n).quiet && (s.hw.tile n).mxu.isEmpty)) = true) ∧
    (∃ (s : State) (p : Nat), s.hw.coreUp = true ∧ (s.hw.pt p).ck.phase = .writing) ∧
    (∃ (s : State) (p : Nat), s.hw.sysUp = true ∧ p < 16 ∧ (s.hw.pt p).ck.copying = true ∧ s.hw.get
      R.TBL_MIRSTAT_PARTNER ≠ s.hw.seat) ∧
    (∃ (s : State) (p : Nat) (mlen : Nat), s.hw.sysUp = true ∧ p < 16 ∧ s.hw.get R.TBL_MIRSTAT_PRED ≠ s.hw.seat ∧ 32 +
      2 * mlen ≤ s.hw.get R.TBL_MIRROR_SLOT ∧ s.hw.slotMib p + s.hw.get R.TBL_MIRROR_SLOT ≤ 32768 ∧ s.hw.slotUsed p =
      false) := by
  refine ⟨?_, ?_, ?_, ?_, ?_, ?_, ?_, ?_, ?_, ?_, ?_⟩
  · exact ⟨Wit.jobLoad, 16, 0, Wit.jobEntry, Wit.jobBytes, Wit.jobImg, Wit.jobLoad.hw, by decide +kernel⟩
  · exact ⟨Wit.cmdWith 0x0106 16 [15] (fun h => h.put R.CFG_STAT_RELEASED 1), 16, 0, Wit.entry 0x0106 16 [15],
      by decide +kernel⟩
  · exact ⟨Wit.cmdWith 0x0106 16 [15, 0, 0, 0, 1] (fun h => ((h.put R.CFG_STAT_RELEASED 1).setPstate 15 2).onPt 15
      (fun x => { x with staged := some Wit.jobImg, run := some ⟨1, 1, 16⟩ })), 16, 0, Wit.entry 0x0106 16 [15, 0,
      0, 0, 1], Wit.jobImg, by decide +kernel⟩
  · exact ⟨Wit.hw (fun h => (h.setPstate 15 2).onPt 15 (fun y => { y with start := some ⟨Wit.jobImg, 16, 0, []⟩ })),
      15, ⟨Wit.jobImg, 16, 0, []⟩, by decide +kernel⟩
  · exact ⟨Wit.hw (fun h => (h.setPstate 15 2).onPt 15 (fun y => { y with run := some ⟨1, 0, 16⟩ })), 15, ⟨1, 0,
      16⟩, by decide +kernel⟩
  · exact ⟨Wit.cmdWith 0x0107 16 [15] (fun h => h.put R.CFG_STAT_RELEASED 1), 16, 0, Wit.entry 0x0107 16 [15],
      by decide +kernel⟩
  · exact ⟨Wit.cmdWith 0x0107 16 [15] (fun h => (h.put R.CFG_STAT_RELEASED 1).setPstate 15 2), 16, 0, Wit.entry
      0x0107 16 [15], by decide +kernel⟩
  · exact ⟨Wit.hw (fun h => ((h.setPstate 15 2).setFoldStat 15 fOPEN).onPt 15 (fun x =>
      { x with ck := { x.ck with phase := .arriving } })), 15, by decide +kernel⟩
  · exact ⟨Wit.hw (fun h => h.onPt 15 (fun x => { x with ck := { x.ck with phase := .writing } })), 15,
      by decide +kernel⟩
  · exact ⟨Wit.hw (fun h => (h.put R.TBL_MIRSTAT_PARTNER 1).onPt 15 (fun x =>
      { x with ck := { x.ck with copying := true } })), 15, by decide +kernel⟩
  · exact ⟨Wit.hw (fun h => (h.put R.TBL_MIRSTAT_PRED 1).put R.TBL_MIRROR_SLOT 32), 15, 0, by decide +kernel⟩

theorem wit_Pacing :
    (∃ (s : State) (p : Nat), s.hw.coreUp = true ∧ p < 16 ∧ s.hw.govOn p = true) ∧
    (∃ (s : State) (p : Nat), s.hw.coreUp = true ∧ s.hw.govOn p = false) ∧
    (∃ (s : State) (p : Nat), s.hw.coreUp = true ∧ s.hw.govOn p = true ∧ (s.hw.pt p).gov.closed = false ∧ ((s.hw.pt
      p).gov.run = 0 ∨ s.hw.ckBusy p = true)) ∧
    (∃ (s : State) (p : Nat) (fr : Nat), s.hw.coreUp = true ∧ p < 16 ∧ s.hw.govOn p = true ∧ (s.hw.pt p).gov.closed =
      false ∧ 0 < (s.hw.pt p).gov.run ∧ s.hw.ckBusy p = false ∧ fr = min 255 (256 * (s.hw.pt p).gov.stall / (s.hw.pt
      p).gov.run) ∧ ¬(s.hw.get (R.PACE_BAND_HI p) < fr ∧ s.hw.floorEff p < s.hw.get (R.SYS_TCLK_CUR_STEP p)) ∧ ¬(fr <
      s.hw.get (R.PACE_BAND_LO p) ∧ s.hw.get (R.SYS_TCLK_CUR_STEP p) < s.hw.ceilEff p)) ∧
    (∃ (s : State) (p : Nat) (fr : Nat), s.hw.coreUp = true ∧ p < 16 ∧ s.hw.govOn p = true ∧ (s.hw.pt p).gov.closed =
      false ∧ 0 < (s.hw.pt p).gov.run ∧ s.hw.ckBusy p = false ∧ fr = min 255 (256 * (s.hw.pt p).gov.stall / (s.hw.pt
      p).gov.run) ∧ s.hw.get (R.PACE_BAND_HI p) < fr ∧ s.hw.floorEff p < s.hw.get (R.SYS_TCLK_CUR_STEP p)) ∧
    (∃ (s : State) (p : Nat) (fr : Nat), s.hw.coreUp = true ∧ p < 16 ∧ s.hw.govOn p = true ∧ (s.hw.pt p).gov.closed =
      false ∧ 0 < (s.hw.pt p).gov.run ∧ s.hw.ckBusy p = false ∧ fr = min 255 (256 * (s.hw.pt p).gov.stall / (s.hw.pt
      p).gov.run) ∧ fr < s.hw.get (R.PACE_BAND_LO p) ∧ ¬(s.hw.get (R.PACE_BAND_HI p) < fr ∧ s.hw.floorEff p < s.hw.get
      (R.SYS_TCLK_CUR_STEP p)) ∧ s.hw.get (R.SYS_TCLK_CUR_STEP p) < s.hw.ceilEff p) ∧
    (∃ (s : State) (p : Nat), s.hw.coreUp = true ∧ s.hw.govOn p = true ∧ s.hw.lastStep p < s.hw.floorEff p) ∧
    (∃ (s : State) (p : Nat), s.hw.coreUp = true ∧ s.hw.govOn p = true ∧ s.hw.floorEff p ≤ s.hw.lastStep p ∧
      s.hw.ceilEff p < s.hw.lastStep p) := by
  refine ⟨?_, ?_, ?_, ?_, ?_, ?_, ?_, ?_⟩
  · exact ⟨Wit.gov, 15, by decide +kernel⟩
  · exact ⟨State.reset, 15, by decide +kernel⟩
  · exact ⟨Wit.gov, 15, by decide +kernel⟩
  · exact ⟨Wit.hw (fun _ => (Wit.gov.hw.put (R.PACE_BAND_HI 15) 255).onPt 15 (fun x =>
      { x with gov := { x.gov with run := 1, stall := 1 } })), 15, 255, by decide +kernel⟩
  · exact ⟨Wit.hw (fun _ => (((Wit.gov.hw.put (R.PACE_BAND_HI 15) 5).put (R.PACE_CFG_FLOOR 15) 0).put
      (R.SYS_TCLK_CUR_STEP 15) 1).onPt 15 (fun x => { x with gov := { x.gov with run := 1, stall := 1 } })), 15,
      255, by decide +kernel⟩
  · exact ⟨Wit.hw (fun _ => (((Wit.gov.hw.put (R.PACE_BAND_LO 15) 5).put (R.PACE_CFG_CEIL 15) 28).put
      (R.SYS_TCLK_CUR_STEP 15) 0).onPt 15 (fun x => { x with gov := { x.gov with run := 1, stall := 0 } })), 15, 0,
      by decide +kernel⟩
  · exact ⟨Wit.hw (fun _ => (Wit.gov.hw.put (R.PACE_CFG_FLOOR 15) 28).put (R.PACE_CFG_CEIL 15) 28), 15,
      by decide +kernel⟩
  · exact ⟨Wit.hw (fun _ => ((Wit.gov.hw.put (R.PACE_CFG_FLOOR 15) 0).put (R.PACE_CFG_CEIL 15) 0).put
      (R.SYS_TCLK_CUR_STEP 15) 1), 15, by decide +kernel⟩

theorem wit_SensorAndSignalCommands :
    (∃ (s : State) (m : Nat) (k : Nat) (f : InFlight) (far : Memory) (hd : List Byte) (bs : List Byte) (h : Hw) (g :
      Hw), s.hw.dealerUp = true ∧ s.hw.cmdFor m k 0x0200 = some f ∧ f.par 8 8 < 2 ^ 48 ∧ s.hw.blkDown .sns 0x40060000
      = false ∧ s.hw.nodeRead 640 (f.par 8 8) 8 far = some (0, hd, h) ∧ leAt hd 0 4 ≠ 0 ∧ leAt hd 0 4 ≤ 1024 ∧
      h.nodeRead 640 (f.par 8 8 + 8) (8 * leAt hd 0 4) far = some (0, bs, g) ∧ (blockPairs bs (leAt hd 0 4)).all (fun
      p => snsPairOk 0 0x3000 p.1) = true) ∧
    (∃ (s : State) (m : Nat) (k : Nat) (f : InFlight) (far : Memory) (hd : List Byte) (bs : List Byte) (h : Hw) (g :
      Hw), s.hw.dealerUp = true ∧ s.hw.cmdFor m k 0x0202 = some f ∧ f.par 0 8 < 2 ^ 48 ∧ s.hw.nodeRead 640 (f.par 0 8)
      8 far = some (0, hd, h) ∧ leAt hd 0 4 ≠ 0 ∧ leAt hd 0 4 ≤ 1024 ∧ h.nodeRead 640 (f.par 0 8 + 8) (8 * leAt hd 0
      4) far = some (0, bs, g) ∧ (blockPairs bs (leAt hd 0 4)).all (fun p => snsPairOk 0x3000 0x3100 p.1) = true) ∧
    (∃ (s : State) (m : Nat) (k : Nat) (f : InFlight), s.hw.dealerUp = true ∧ s.hw.cmdFor m k 0x0201 = some f ∧ f.par
      0 8 % 32 = 0 ∧ f.par 0 8 < 2 ^ 48 ∧ f.par 8 4 % 1120 = 0 ∧ f.par 12 1 < 32 ∧ s.hw.chEn (f.par 12 1) = true ∧
      f.par 13 1 < 8 ∧ f.par 14 1 < 3 ∧ s.hw.is (R.SNS_CAP_STAT_RUN (f.par 12 1)) = false) ∧
    (∃ (s : State) (m : Nat) (k : Nat) (f : InFlight) (st : Nat) (ov : Nat), s.hw.dealerUp = true ∧ s.hw.cmdFor m k
      0x0203 = some f ∧ st = (s.hw.sgrp 0).step + (s.hw.sgrp 1).step * 4 + (s.hw.sgrp 2).step * 16 + (s.hw.sgrp
      3).step * 64 ∧ (List.range 4).all (fun g => (s.hw.sgrp g).strad.isNone) = true ∧ ov = min 65535 ((List.range
      40).map (fun u => s.hw.get (R.SNS_CAP_CNT_OVR u))).sum) ∧
    (∃ (s : State) (m : Nat) (k : Nat) (f : InFlight) (far : List Byte) (bs : List Byte) (h : Hw) (e : Nat) (l : List
      (Nat × Nat × List Byte)), s.hw.dealerUp = true ∧ s.hw.cmdFor m k 0x0300 = some f ∧ f.par 8 8 < 2 ^ 48 ∧ 32 ≤
      f.par 16 4 ∧ s.hw.dealerRead (f.par 8 8) (f.par 16 4) far = some (0, bs, h) ∧ parseSig bs (f.par 16 4) = some
      (e, l) ∧ h.sigWrong (f.par 0 2) (fun x => x == sgIDLE || x == sgFAULTED) = none) ∧
    (∃ (s : State) (m : Nat) (k : Nat) (f : InFlight), s.hw.dealerUp = true ∧ s.hw.cmdFor m k 0x0301 = some f ∧
      sigTrigOk (f.par 2 1) = true ∧ f.par 2 1 ≠ 0 ∧ f.par 3 1 < 3 ∧ s.hw.sigWrong (f.par 0 2) (fun x => x == sgIDLE)
      = none) ∧
    (∃ (s : State) (m : Nat) (k : Nat) (f : InFlight), s.hw.dealerUp = true ∧ s.hw.cmdFor m k 0x0302 = some f ∧ f.par
      0 2 = 0) ∧
    (∃ (s : State) (m : Nat) (k : Nat) (f : InFlight) (q : Nat), s.hw.dealerUp = true ∧ s.hw.cmdFor m k 0x0302 = some
      f ∧ q < 16 ∧ f.par 0 2 = 2 ^ q) ∧
    (∃ (s : State) (m : Nat) (k : Nat) (f : InFlight), s.hw.dealerUp = true ∧ s.hw.cmdFor m k 0x0303 = some f ∧
      (List.range 16).all (fun q => (s.hw.core q).pend.isNone) = true) := by
  refine ⟨?_, ?_, ?_, ?_, ?_, ?_, ?_, ?_, ?_⟩
  · have key : (match (Wit.cmdWith 0x0200 16 (leBytes 8 0 ++ leBytes 8 0x110000100000) (fun h => h.kittyW 0x100000 (leBytes 8 1 ++ leBytes 4 (R.SNS_GRP_CFG 0 - 0x40060000) ++ leBytes 4 0))).hw.nodeRead 640 ((Wit.entry 0x0200 16 (leBytes 8 0 ++ leBytes 8 0x110000100000) : InFlight).par 8 8) 8 ([] : Memory) with | some (0, hd, h) => (match h.nodeRead 640 ((Wit.entry 0x0200 16 (leBytes 8 0 ++ leBytes 8 0x110000100000) : InFlight).par 8 8 + 8) (8 * leAt hd 0 4) ([] : Memory) with | some (0, bs, g) => decide (((Wit.cmdWith 0x0200 16 (leBytes 8 0 ++ leBytes 8 0x110000100000) (fun h => h.kittyW 0x100000 (leBytes 8 1 ++ leBytes 4 (R.SNS_GRP_CFG 0 - 0x40060000) ++ leBytes 4 0))).hw.dealerUp = true) ∧ ((Wit.cmdWith 0x0200 16 (leBytes 8 0 ++ leBytes 8 0x110000100000) (fun h => h.kittyW 0x100000 (leBytes 8 1 ++ leBytes 4 (R.SNS_GRP_CFG 0 - 0x40060000) ++ leBytes 4 0))).hw.cmdFor 16 0 0x0200 = some (Wit.entry 0x0200 16 (leBytes 8 0 ++ leBytes 8 0x110000100000) : InFlight)) ∧ ((Wit.entry 0x0200 16 (leBytes 8 0 ++ leBytes 8 0x110000100000) : InFlight).par 8 8 < 2 ^ 48) ∧ ((Wit.cmdWith 0x0200 16 (leBytes 8 0 ++ leBytes 8 0x110000100000) (fun h => h.kittyW 0x100000 (leBytes 8 1 ++ leBytes 4 (R.SNS_GRP_CFG 0 - 0x40060000) ++ leBytes 4 0))).hw.blkDown .sns 0x40060000 = false) ∧ (leAt hd 0 4 ≠ 0) ∧ (leAt hd 0 4 ≤ 1024) ∧ ((blockPairs bs (leAt hd 0 4)).all (fun p => snsPairOk 0 0x3000 p.1) = true)) | _ => false) | _ => false) = true := by decide +kernel
    split at key
    · rename_i hd h e0
      split at key
      · rename_i bs g e1
        have k := of_decide_eq_true key
        exact ⟨(Wit.cmdWith 0x0200 16 (leBytes 8 0 ++ leBytes 8 0x110000100000) (fun h => h.kittyW 0x100000 (leBytes 8 1 ++ leBytes 4 (R.SNS_GRP_CFG 0 - 0x40060000) ++ leBytes 4 0))), 16, 0, (Wit.entry 0x0200 16 (leBytes 8 0 ++ leBytes 8 0x110000100000) : InFlight), ([] : Memory), hd, bs, h, g, k.1, k.2.1, k.2.2.1, k.2.2.2.1, e0, k.2.2.2.2.1, k.2.2.2.2.2.1, e1, k.2.2.2.2.2.2⟩
      · cases key
    · cases key
  · have key : (match (Wit.cmdWith 0x0202 16 (leBytes 8 0x110000100000) (fun h => h.kittyW 0x100000 (leBytes 8 1 ++ leBytes 4 0x3004 ++ leBytes 4 0))).hw.nodeRead 640 ((Wit.entry 0x0202 16 (leBytes 8 0x110000100000) : InFlight).par 0 8) 8 ([] : Memory) with | some (0, hd, h) => (match h.nodeRead 640 ((Wit.entry 0x0202 16 (leBytes 8 0x110000100000) : InFlight).par 0 8 + 8) (8 * leAt hd 0 4) ([] : Memory) with | some (0, bs, g) => decide (((Wit.cmdWith 0x0202 16 (leBytes 8 0x110000100000) (fun h => h.kittyW 0x100000 (leBytes 8 1 ++ leBytes 4 0x3004 ++ leBytes 4 0))).hw.dealerUp = true) ∧ ((Wit.cmdWith 0x0202 16 (leBytes 8 0x110000100000) (fun h => h.kittyW 0x100000 (leBytes 8 1 ++ leBytes 4 0x3004 ++ leBytes 4 0))).hw.cmdFor 16 0 0x0202 = some (Wit.entry 0x0202 16 (leBytes 8 0x110000100000) : InFlight)) ∧ ((Wit.entry 0x0202 16 (leBytes 8 0x110000100000) : InFlight).par 0 8 < 2 ^ 48) ∧ (leAt hd 0 4 ≠ 0) ∧ (leAt hd 0 4 ≤ 1024) ∧ ((blockPairs bs (leAt hd 0 4)).all (fun p => snsPairOk 0x3000 0x3100 p.1) = true)) | _ => false) | _ => false) = true := by decide +kernel
    split at key
    · rename_i hd h e0
      split at key
      · rename_i bs g e1
        have k := of_decide_eq_true key
        exact ⟨(Wit.cmdWith 0x0202 16 (leBytes 8 0x110000100000) (fun h => h.kittyW 0x100000 (leBytes 8 1 ++ leBytes 4 0x3004 ++ leBytes 4 0))), 16, 0, (Wit.entry 0x0202 16 (leBytes 8 0x110000100000) : InFlight), ([] : Memory), hd, bs, h, g, k.1, k.2.1, k.2.2.1, e0, k.2.2.2.1, k.2.2.2.2.1, e1, k.2.2.2.2.2⟩
      · cases key
    · cases key
  · exact ⟨Wit.cmdWith 0x0201 16 (leBytes 8 0 ++ leBytes 4 1120 ++ [31, 7, 2]) (fun h => h.wr R.SNS_CH_EN
      0x80000000), 16, 0, Wit.entry 0x0201 16 (leBytes 8 0 ++ leBytes 4 1120 ++ [31, 7, 2]), by decide +kernel⟩
  · exact ⟨Wit.cmd 0x0203 16 [], 16, 0, Wit.entry 0x0203 16 [], 0, 0, by decide +kernel⟩
  · have key : (match (Wit.cmdWith 0x0300 16 (leBytes 8 0x8001 ++ leBytes 8 0x110000100000 ++ leBytes 4 48) (fun h => h.kittyW 0x100000 Wit.sigBytes)).hw.dealerRead ((Wit.entry 0x0300 16 (leBytes 8 0x8001 ++ leBytes 8 0x110000100000 ++ leBytes 4 48) : InFlight).par 8 8) ((Wit.entry 0x0300 16 (leBytes 8 0x8001 ++ leBytes 8 0x110000100000 ++ leBytes 4 48) : InFlight).par 16 4) ([] : List Byte) with | some (0, bs, h) => (match parseSig bs ((Wit.entry 0x0300 16 (leBytes 8 0x8001 ++ leBytes 8 0x110000100000 ++ leBytes 4 48) : InFlight).par 16 4) with | some (e, l) => decide (((Wit.cmdWith 0x0300 16 (leBytes 8 0x8001 ++ leBytes 8 0x110000100000 ++ leBytes 4 48) (fun h => h.kittyW 0x100000 Wit.sigBytes)).hw.dealerUp = true) ∧ ((Wit.cmdWith 0x0300 16 (leBytes 8 0x8001 ++ leBytes 8 0x110000100000 ++ leBytes 4 48) (fun h => h.kittyW 0x100000 Wit.sigBytes)).hw.cmdFor 16 0 0x0300 = some (Wit.entry 0x0300 16 (leBytes 8 0x8001 ++ leBytes 8 0x110000100000 ++ leBytes 4 48) : InFlight)) ∧ ((Wit.entry 0x0300 16 (leBytes 8 0x8001 ++ leBytes 8 0x110000100000 ++ leBytes 4 48) : InFlight).par 8 8 < 2 ^ 48) ∧ (32 ≤ (Wit.entry 0x0300 16 (leBytes 8 0x8001 ++ leBytes 8 0x110000100000 ++ leBytes 4 48) : InFlight).par 16 4) ∧ (h.sigWrong ((Wit.entry 0x0300 16 (leBytes 8 0x8001 ++ leBytes 8 0x110000100000 ++ leBytes 4 48) : InFlight).par 0 2) (fun x => x == sgIDLE || x == sgFAULTED) = none)) | _ => false) | _ => false) = true := by decide +kernel
    split at key
    · rename_i bs h e0
      split at key
      · rename_i e l e1
        have k := of_decide_eq_true key
        exact ⟨(Wit.cmdWith 0x0300 16 (leBytes 8 0x8001 ++ leBytes 8 0x110000100000 ++ leBytes 4 48) (fun h => h.kittyW 0x100000 Wit.sigBytes)), 16, 0, (Wit.entry 0x0300 16 (leBytes 8 0x8001 ++ leBytes 8 0x110000100000 ++ leBytes 4 48) : InFlight), ([] : List Byte), bs, h, e, l, k.1, k.2.1, k.2.2.1, k.2.2.2.1, e0, e1, k.2.2.2.2⟩
      · cases key
    · cases key
  · exact ⟨Wit.cmd 0x0301 16 [1, 0x80, 1, 2], 16, 0, Wit.entry 0x0301 16 [1, 0x80, 1, 2], by decide +kernel⟩
  · exact ⟨Wit.cmd 0x0302 16 [], 16, 0, Wit.entry 0x0302 16 [], by decide +kernel⟩
  · exact ⟨Wit.cmd 0x0302 16 [0, 0x80], 16, 0, Wit.entry 0x0302 16 [0, 0x80], 15, by decide +kernel⟩
  · exact ⟨Wit.cmd 0x0303 16 [], 16, 0, Wit.entry 0x0303 16 [], by decide +kernel⟩

theorem wit_GraphicsAndNetworkCommands :
    (∃ (s : State) (m : Nat) (k : Nat) (f : InFlight) (far : Memory) (r : GFrame × Hw), s.hw.dealerUp = true ∧
      s.hw.cmdFor m k 0x0400 = some f ∧ f.par 0 8 < 2 ^ 48 ∧ f.par 8 4 % 32 = 0 ∧ s.hw.is R.CFG_STAT_RELEASED = true ∧
      s.hw.gfxParts ≠ [] ∧ s.hw.fetchEntry ⟨m, k, f.par 0 8, f.par 8 4 / 32, 0, [], false, 0, 0, false, none, false,
      none⟩ 0 far = some r) ∧
    (∃ (s : State) (m : Nat) (k : Nat) (f : InFlight), s.hw.dealerUp = true ∧ s.hw.cmdFor m k 0x0403 = some f) ∧
    (∃ (s : State) (m : Nat) (k : Nat) (f : InFlight) (far : List Byte) (bs : List Byte) (h : Hw), s.hw.dealerUp =
      true ∧ s.hw.cmdFor m k 0x0401 = some f ∧ f.par 0 8 < 2 ^ 48 ∧ (f.par 8 1 = 1 ∨ f.par 8 1 = 2 ∨ f.par 8 1 = 4) ∧
      f.par 9 1 ≤ 3 ∧ s.hw.is R.CFG_STAT_RELEASED = true ∧ s.hw.dealerRead (f.par 0 8) 32 far = some (0, bs, h) ∧
      timingOk bs (f.par 8 1) (f.par 9 1) = true ∧ h.get R.DPY_STAT_HPD ≠ 0) ∧
    (∃ (s : State) (m : Nat) (k : Nat) (f : InFlight) (far : List Byte) (bs : List Byte) (h : Hw), s.hw.dealerUp =
      true ∧ s.hw.cmdFor m k 0x0402 = some f ∧ f.par 0 1 ≤ 1 ∧ f.par 8 8 < 2 ^ 48 ∧ s.hw.is R.CFG_STAT_RELEASED = true
      ∧ s.hw.dealerRead (f.par 8 8) 32 far = some (0, bs, h) ∧ planeOk (f.par 0 1) h.dpy.mode bs = true) ∧
    (∃ (s : State) (m : Nat) (k : Nat) (f : InFlight), s.hw.dealerUp = true ∧ s.hw.cmdFor m k 0x0500 = some f ∧ f.par
      0 1 ≤ 1 ∧ f.par 1 1 ≤ 2) ∧
    (∃ (s : State) (m : Nat) (k : Nat) (f : InFlight) (far : List Byte) (bs : List Byte) (h : Hw) (g : Hw) (gen :
      Nat), s.hw.dealerUp = true ∧ s.hw.cmdFor m k 0x0501 = some f ∧ f.par 0 2 ≤ 2047 ∧ f.par 8 8 < 2 ^ 48 ∧
      s.hw.dealerRead (f.par 8 8) 160 far = some (0, bs, h) ∧ ruleOk bs = true ∧ h.installRule (f.par 0 2) bs = some
      (gen, g)) ∧
    (∃ (s : State) (m : Nat) (k : Nat) (f : InFlight), s.hw.dealerUp = true ∧ s.hw.cmdFor m k 0x0502 = some f ∧ f.par
      0 1 ≤ 1 ∧ f.par 1 1 = 0 ∧ f.par 2 1 ≤ 15 ∧ f.par 8 8 % 32 = 0 ∧ f.par 8 8 < 2 ^ 48 ∧ ringSize (f.par 16 2) =
      true ∧ s.hw.is (R.NET_P_RX_ENTRIES_ENTRIES (f.par 0 1) (f.par 2 1)) = false) ∧
    (∃ (s : State) (m : Nat) (k : Nat) (f : InFlight), s.hw.dealerUp = true ∧ s.hw.cmdFor m k 0x0502 = some f ∧ f.par
      0 1 ≤ 1 ∧ f.par 1 1 = 1 ∧ f.par 2 1 ≤ 7 ∧ f.par 8 8 % 32 = 0 ∧ f.par 8 8 < 2 ^ 48 ∧ ringSize (f.par 16 2) = true
      ∧ s.hw.is (R.NET_P_TX_ENTRIES_ENTRIES (f.par 0 1) (f.par 2 1)) = false) ∧
    (∃ (s : State) (m : Nat) (k : Nat) (f : InFlight), s.hw.dealerUp = true ∧ s.hw.cmdFor m k 0x0503 = some f ∧ f.par
      0 1 ≤ 1 ∧ f.par 1 1 ≤ 7 ∧ f.par 3 1 ≤ 1 ∧ 1 ≤ f.par 4 2 ∧ f.par 4 2 ≤ 10000 ∧ f.par 8 4 ≤ 1048576) ∧
    (∃ (s : State) (m : Nat) (k : Nat) (f : InFlight), s.hw.dealerUp = true ∧ s.hw.cmdFor m k 0x0504 = some f ∧ f.par
      0 1 ≤ 1 ∧ f.par 1 1 ≤ 2) ∧
    (∃ (s : State) (m : Nat) (k : Nat) (f : InFlight) (n : Nat) (e : Nat), s.hw.dealerUp = true ∧ s.hw.cmdFor m k
      0x0505 = some f ∧ n = f.par 0 1 ∧ n ≤ 1 ∧ e = min 65535 (s.hw.get (R.NET_P_CNT_FCS_COUNT n) + s.hw.get
      (R.NET_P_CNT_DEEP_COUNT n) + s.hw.get (R.NET_P_CNT_LEN_COUNT n) + s.hw.get (R.NET_P_CNT_NOBUF_COUNT n))) := by
  refine ⟨?_, ?_, ?_, ?_, ?_, ?_, ?_, ?_, ?_, ?_, ?_⟩
  · have key : (match (Wit.cmdWith 0x0400 16 [] (fun h => (h.put R.CFG_STAT_RELEASED 1).setPstate 15 3)).hw.fetchEntry ⟨16, 0, (Wit.entry 0x0400 16 [] : InFlight).par 0 8, (Wit.entry 0x0400 16 [] : InFlight).par 8 4 / 32, 0, [], false, 0, 0, false, none, false, none⟩ 0 ([] : Memory) with | some r => decide (((Wit.cmdWith 0x0400 16 [] (fun h => (h.put R.CFG_STAT_RELEASED 1).setPstate 15 3)).hw.dealerUp = true) ∧ ((Wit.cmdWith 0x0400 16 [] (fun h => (h.put R.CFG_STAT_RELEASED 1).setPstate 15 3)).hw.cmdFor 16 0 0x0400 = some (Wit.entry 0x0400 16 [] : InFlight)) ∧ ((Wit.entry 0x0400 16 [] : InFlight).par 0 8 < 2 ^ 48) ∧ ((Wit.entry 0x0400 16 [] : InFlight).par 8 4 % 32 = 0) ∧ ((Wit.cmdWith 0x0400 16 [] (fun h => (h.put R.CFG_STAT_RELEASED 1).setPstate 15 3)).hw.is R.CFG_STAT_RELEASED = true) ∧ ((Wit.cmdWith 0x0400 16 [] (fun h => (h.put R.CFG_STAT_RELEASED 1).setPstate 15 3)).hw.gfxParts ≠ [])) | _ => false) = true := by decide +kernel
    split at key
    · rename_i r e0
      have k := of_decide_eq_true key
      exact ⟨(Wit.cmdWith 0x0400 16 [] (fun h => (h.put R.CFG_STAT_RELEASED 1).setPstate 15 3)), 16, 0, (Wit.entry 0x0400 16 [] : InFlight), ([] : Memory), r, k.1, k.2.1, k.2.2.1, k.2.2.2.1, k.2.2.2.2.1, k.2.2.2.2.2, e0⟩
    · cases key
  · exact ⟨Wit.cmd 0x0403 16 [], 16, 0, Wit.entry 0x0403 16 [], by decide +kernel⟩
  · have key : (match (Wit.cmdWith 0x0401 16 (leBytes 8 0x110000100000 ++ [4, 3]) (fun h => ((h.put R.CFG_STAT_RELEASED 1).put R.DPY_STAT_HPD 1).kittyW 0x100000 Wit.timing)).hw.dealerRead ((Wit.entry 0x0401 16 (leBytes 8 0x110000100000 ++ [4, 3]) : InFlight).par 0 8) 32 ([] : List Byte) with | some (0, bs, h) => decide (((Wit.cmdWith 0x0401 16 (leBytes 8 0x110000100000 ++ [4, 3]) (fun h => ((h.put R.CFG_STAT_RELEASED 1).put R.DPY_STAT_HPD 1).kittyW 0x100000 Wit.timing)).hw.dealerUp = true) ∧ ((Wit.cmdWith 0x0401 16 (leBytes 8 0x110000100000 ++ [4, 3]) (fun h => ((h.put R.CFG_STAT_RELEASED 1).put R.DPY_STAT_HPD 1).kittyW 0x100000 Wit.timing)).hw.cmdFor 16 0 0x0401 = some (Wit.entry 0x0401 16 (leBytes 8 0x110000100000 ++ [4, 3]) : InFlight)) ∧ ((Wit.entry 0x0401 16 (leBytes 8 0x110000100000 ++ [4, 3]) : InFlight).par 0 8 < 2 ^ 48) ∧ ((Wit.entry 0x0401 16 (leBytes 8 0x110000100000 ++ [4, 3]) : InFlight).par 8 1 = 1 ∨ (Wit.entry 0x0401 16 (leBytes 8 0x110000100000 ++ [4, 3]) : InFlight).par 8 1 = 2 ∨ (Wit.entry 0x0401 16 (leBytes 8 0x110000100000 ++ [4, 3]) : InFlight).par 8 1 = 4) ∧ ((Wit.entry 0x0401 16 (leBytes 8 0x110000100000 ++ [4, 3]) : InFlight).par 9 1 ≤ 3) ∧ ((Wit.cmdWith 0x0401 16 (leBytes 8 0x110000100000 ++ [4, 3]) (fun h => ((h.put R.CFG_STAT_RELEASED 1).put R.DPY_STAT_HPD 1).kittyW 0x100000 Wit.timing)).hw.is R.CFG_STAT_RELEASED = true) ∧ (timingOk bs ((Wit.entry 0x0401 16 (leBytes 8 0x110000100000 ++ [4, 3]) : InFlight).par 8 1) ((Wit.entry 0x0401 16 (leBytes 8 0x110000100000 ++ [4, 3]) : InFlight).par 9 1) = true) ∧ (h.get R.DPY_STAT_HPD ≠ 0)) | _ => false) = true := by decide +kernel
    split at key
    · rename_i bs h e0
      have k := of_decide_eq_true key
      exact ⟨(Wit.cmdWith 0x0401 16 (leBytes 8 0x110000100000 ++ [4, 3]) (fun h => ((h.put R.CFG_STAT_RELEASED 1).put R.DPY_STAT_HPD 1).kittyW 0x100000 Wit.timing)), 16, 0, (Wit.entry 0x0401 16 (leBytes 8 0x110000100000 ++ [4, 3]) : InFlight), ([] : List Byte), bs, h, k.1, k.2.1, k.2.2.1, k.2.2.2.1, k.2.2.2.2.1, k.2.2.2.2.2.1, e0, k.2.2.2.2.2.2.1, k.2.2.2.2.2.2.2⟩
    · cases key
  · have key : (match (Wit.cmdWith 0x0402 16 (leBytes 8 1 ++ leBytes 8 0x110000100000) (fun h => h.put R.CFG_STAT_RELEASED 1)).hw.dealerRead ((Wit.entry 0x0402 16 (leBytes 8 1 ++ leBytes 8 0x110000100000) : InFlight).par 8 8) 32 ([] : List Byte) with | some (0, bs, h) => decide (((Wit.cmdWith 0x0402 16 (leBytes 8 1 ++ leBytes 8 0x110000100000) (fun h => h.put R.CFG_STAT_RELEASED 1)).hw.dealerUp = true) ∧ ((Wit.cmdWith 0x0402 16 (leBytes 8 1 ++ leBytes 8 0x110000100000) (fun h => h.put R.CFG_STAT_RELEASED 1)).hw.cmdFor 16 0 0x0402 = some (Wit.entry 0x0402 16 (leBytes 8 1 ++ leBytes 8 0x110000100000) : InFlight)) ∧ ((Wit.entry 0x0402 16 (leBytes 8 1 ++ leBytes 8 0x110000100000) : InFlight).par 0 1 ≤ 1) ∧ ((Wit.entry 0x0402 16 (leBytes 8 1 ++ leBytes 8 0x110000100000) : InFlight).par 8 8 < 2 ^ 48) ∧ ((Wit.cmdWith 0x0402 16 (leBytes 8 1 ++ leBytes 8 0x110000100000) (fun h => h.put R.CFG_STAT_RELEASED 1)).hw.is R.CFG_STAT_RELEASED = true) ∧ (planeOk ((Wit.entry 0x0402 16 (leBytes 8 1 ++ leBytes 8 0x110000100000) : InFlight).par 0 1) h.dpy.mode bs = true)) | _ => false) = true := by decide +kernel
    split at key
    · rename_i bs h e0
      have k := of_decide_eq_true key
      exact ⟨(Wit.cmdWith 0x0402 16 (leBytes 8 1 ++ leBytes 8 0x110000100000) (fun h => h.put R.CFG_STAT_RELEASED 1)), 16, 0, (Wit.entry 0x0402 16 (leBytes 8 1 ++ leBytes 8 0x110000100000) : InFlight), ([] : List Byte), bs, h, k.1, k.2.1, k.2.2.1, k.2.2.2.1, k.2.2.2.2.1, e0, k.2.2.2.2.2⟩
    · cases key
  · exact ⟨Wit.cmd 0x0500 16 [1, 2], 16, 0, Wit.entry 0x0500 16 [1, 2], by decide +kernel⟩
  · have key : (match (Wit.cmd 0x0501 16 (leBytes 8 2047 ++ leBytes 8 0x110000100000)).hw.dealerRead ((Wit.entry 0x0501 16 (leBytes 8 2047 ++ leBytes 8 0x110000100000) : InFlight).par 8 8) 160 ([] : List Byte) with | some (0, bs, h) => (match h.installRule ((Wit.entry 0x0501 16 (leBytes 8 2047 ++ leBytes 8 0x110000100000) : InFlight).par 0 2) bs with | some (gen, g) => decide (((Wit.cmd 0x0501 16 (leBytes 8 2047 ++ leBytes 8 0x110000100000)).hw.dealerUp = true) ∧ ((Wit.cmd 0x0501 16 (leBytes 8 2047 ++ leBytes 8 0x110000100000)).hw.cmdFor 16 0 0x0501 = some (Wit.entry 0x0501 16 (leBytes 8 2047 ++ leBytes 8 0x110000100000) : InFlight)) ∧ ((Wit.entry 0x0501 16 (leBytes 8 2047 ++ leBytes 8 0x110000100000) : InFlight).par 0 2 ≤ 2047) ∧ ((Wit.entry 0x0501 16 (leBytes 8 2047 ++ leBytes 8 0x110000100000) : InFlight).par 8 8 < 2 ^ 48) ∧ (ruleOk bs = true)) | _ => false) | _ => false) = true := by decide +kernel
    split at key
    · rename_i bs h e0
      split at key
      · rename_i gen g e1
        have k := of_decide_eq_true key
        exact ⟨(Wit.cmd 0x0501 16 (leBytes 8 2047 ++ leBytes 8 0x110000100000)), 16, 0, (Wit.entry 0x0501 16 (leBytes 8 2047 ++ leBytes 8 0x110000100000) : InFlight), ([] : List Byte), bs, h, g, gen, k.1, k.2.1, k.2.2.1, k.2.2.2.1, e0, k.2.2.2.2, e1⟩
      · cases key
    · cases key
  · exact ⟨Wit.cmd 0x0502 16 ([1, 0, 15, 0, 0, 0, 0, 0] ++ leBytes 8 32 ++ leBytes 2 4096), 16, 0, Wit.entry 0x0502
      16 ([1, 0, 15, 0, 0, 0, 0, 0] ++ leBytes 8 32 ++ leBytes 2 4096), by decide +kernel⟩
  · exact ⟨Wit.cmd 0x0502 16 ([1, 1, 7, 0, 0, 0, 0, 0] ++ leBytes 8 32 ++ leBytes 2 64), 16, 0, Wit.entry 0x0502 16
      ([1, 1, 7, 0, 0, 0, 0, 0] ++ leBytes 8 32 ++ leBytes 2 64), by decide +kernel⟩
  · exact ⟨Wit.cmd 0x0503 16 ([1, 7, 0, 0] ++ leBytes 4 10000 ++ leBytes 4 1048576), 16, 0, Wit.entry 0x0503 16 ([1,
      7, 0, 0] ++ leBytes 4 10000 ++ leBytes 4 1048576), by decide +kernel⟩
  · exact ⟨Wit.cmd 0x0504 16 [1, 2], 16, 0, Wit.entry 0x0504 16 [1, 2], by decide +kernel⟩
  · exact ⟨Wit.cmd 0x0505 16 [1], 16, 0, Wit.entry 0x0505 16 [1], 1, 0, by decide +kernel⟩

theorem wit_TableCommands :
    (∃ (s : State) (m : Nat) (k : Nat) (f : InFlight), s.hw.dealerUp = true ∧ s.hw.cmdFor m k 0x0600 = some f ∧
      s.hw.tbl.redeal = none ∧ s.hw.xstate < 5) ∧
    (∃ (s : State) (m : Nat) (k : Nat) (f : InFlight), s.hw.dealerUp = true ∧ s.hw.cmdFor m k 0x0601 = some f ∧
      s.hw.is R.CFG_STAT_RELEASED = true ∧ s.hw.tbl.redeal = none ∧ (bitList 16 (f.par 0 2)).any s.hw.fused = false ∧
      (bitList 16 (f.par 0 2)).all (fun p => s.hw.pstate p == 0) = true ∧ (f.par 0 2 = 0 ∨ (32 ≤ s.hw.get
      R.TBL_MIRROR_SLOT ∧ s.hw.slotMib 16 ≤ 32768))) ∧
    (∃ (s : State) (m : Nat) (k : Nat) (f : InFlight), s.hw.dealerUp = true ∧ s.hw.cmdFor m k 0x0602 = some f ∧
      s.hw.is R.CFG_STAT_RELEASED = true ∧ s.hw.tbl.redeal = none ∧ s.hw.copiesRun = false) ∧
    (∃ (s : State) (m : Nat) (k : Nat) (f : InFlight), s.hw.dealerUp = true ∧ s.hw.cmdFor m k 0x0603 = some f ∧ f.par
      0 1 = 0 ∧ s.hw.is R.CFG_STAT_RELEASED = true) ∧
    (∃ (s : State) (m : Nat) (k : Nat) (f : InFlight), s.hw.dealerUp = true ∧ s.hw.cmdFor m k 0x0603 = some f ∧ f.par
      0 1 = 1 ∧ s.hw.is R.CFG_STAT_RELEASED = true ∧ s.hw.isMaster = true) ∧
    (∃ (s : State) (m : Nat) (k : Nat) (f : InFlight), s.hw.dealerUp = true ∧ s.hw.cmdFor m k 0x0603 = some f ∧ f.par
      0 1 = 1 ∧ s.hw.is R.CFG_STAT_RELEASED = true ∧ s.hw.isMaster = false) := by
  refine ⟨?_, ?_, ?_, ?_, ?_, ?_⟩
  · exact ⟨Wit.cmd 0x0600 16 [], 16, 0, Wit.entry 0x0600 16 [], by decide +kernel⟩
  · exact ⟨Wit.cmdWith 0x0601 16 [0, 0x80] (fun h => ((h.put R.CFG_STAT_RELEASED 1).setPstate 15 0).put
      R.TBL_MIRROR_SLOT 32), 16, 0, Wit.entry 0x0601 16 [0, 0x80], by decide +kernel⟩
  · exact ⟨Wit.cmdWith 0x0602 16 [] (fun h => h.put R.CFG_STAT_RELEASED 1), 16, 0, Wit.entry 0x0602 16 [],
      by decide +kernel⟩
  · exact ⟨Wit.cmdWith 0x0603 16 [] (fun h => h.put R.CFG_STAT_RELEASED 1), 16, 0, Wit.entry 0x0603 16 [],
      by decide +kernel⟩
  · exact ⟨Wit.cmdWith 0x0603 16 [1] (fun h => h.put R.CFG_STAT_RELEASED 1), 16, 0, Wit.entry 0x0603 16 [1],
      by decide +kernel⟩
  · exact ⟨Wit.cmdWith 0x0603 16 [1] (fun h => (h.put R.CFG_STAT_RELEASED 1).put R.TBL_STAT_SEAT 1), 16, 0,
      Wit.entry 0x0603 16 [1], by decide +kernel⟩

theorem wit_SettingsAndFirmware :
    (∃ (s : State) (m : Nat) (k : Nat) (f : InFlight), s.hw.dealerUp = true ∧ s.hw.cmdFor m k 0x0700 = some f ∧
      s.hw.valueOf (f.par 0 2) = none) ∧
    (∃ (s : State) (m : Nat) (k : Nat) (f : InFlight) (bs : List Byte) (r : Nat) (q : Nat) (w : List MWrite),
      s.hw.dealerUp = true ∧ s.hw.cmdFor m k 0x0701 = some f ∧ s.hw.fw.cmd = none ∧ f.par 0 2 ≠ 0 ∧ f.par 0 2 ≠ 0xFFFF
      ∧ f.par 16 4 ≤ 4064 ∧ s.hw.unreadable s.hw.runSlot = 0 ∧ s.hw.hostIn m k (f.par 16 4) = some bs ∧ r =
      s.hw.runSlot ∧ q = ((s.hw.regionWalk 0).1 ++ (s.hw.regionWalk 1).1).foldl (fun (a : Nat) x => max a x.seq) 0 ∧
      s.hw.appendWrites r (f.par 0 2) (q + 1) bs = (w, false)) ∧
    (∃ (s : State) (m : Nat) (k : Nat) (f : InFlight) (bs : List Byte), s.hw.dealerUp = true ∧ s.hw.cmdFor m k 0x0702
      = some f ∧ s.hw.fw.cmd = none ∧ f.par 0 1 ≤ 1 ∧ f.par 0 1 ≠ s.hw.runSlot ∧ f.par 4 4 % 32 = 0 ∧ f.par 16 4 % 32
      = 0 ∧ f.par 4 4 + f.par 16 4 ≤ 0xFFFE0 ∧ s.hw.hostIn m k (f.par 16 4) = some bs) ∧
    (∃ (s : State) (m : Nat) (k : Nat) (f : InFlight), s.hw.dealerUp = true ∧ s.hw.cmdFor m k 0x0703 = some f ∧
      s.hw.fw.cmd = none ∧ f.par 0 1 ≤ 1) ∧
    (∃ (s : State) (m : Nat) (k : Nat) (f : InFlight), s.hw.dealerUp = true ∧ s.hw.cmdFor m k 0x0703 = some f ∧
      s.hw.fw.cmd = none ∧ f.par 0 1 = 2) ∧
    (∃ (s : State) (m : Nat) (k : Nat) (f : InFlight) (w : List Nat), s.hw.dealerUp = true ∧ s.hw.cmdFor m k 0x0F00 =
      some f ∧ f.par 0 2 ≤ 4095 ∧ 1 ≤ f.par 2 2 ∧ f.par 2 2 ≤ 4096 ∧ s.hw.hostReady m k = true ∧ w = logSlots (f.par 0
      2) (f.par 2 2) ∧ w.any (fun e => poisonIn 32 s.hw.mem.kittyP (logBase + 32 * e) 32) = false) ∧
    (∃ (s : State) (m : Nat) (k : Nat) (f : InFlight), s.hw.dealerUp = true ∧ s.hw.cmdFor m k 0x0F01 = some f) ∧
    (∃ (s : State), s.hw.dealerUp = true ∧ s.hw.fw.boot = true ∧ s.hw.slotState 0 ≠ 5 ∧ s.hw.slotState 1 ≠ 5) ∧
    (∃ (s : State) (waited : Bool) (w : MWrite) (l : List MWrite), s.hw.sysUp = true ∧ s.hw.fw.q = w :: l ∧
      s.hw.fw.pulse = none ∧ s.hw.rst.pend = none ∧ (mramBank w.group ≠ s.hw.runSlot ∨ s.hw.fw.last ≠ some (mramBank
      w.group) ∨ waited = true) ∧ s.hw.bitOf R.SYS_MRAM_CTL_WEN (wenBit w.group) = true) ∧
    (∃ (s : State) (waited : Bool) (w : MWrite) (l : List MWrite), s.hw.sysUp = true ∧ s.hw.fw.q = w :: l ∧
      s.hw.fw.pulse = none ∧ s.hw.rst.pend = none ∧ waited = true ∧ s.hw.bitOf R.SYS_MRAM_CTL_WEN (wenBit w.group) =
      false) ∧
    (∃ (s : State) (w : MWrite), s.hw.fw.pulse = some w ∧ s.hw.fw.cmd = none ∧ s.hw.fw.shut = false ∧ s.hw.tap.dbgWait
      = none) ∧
    (∃ (s : State) (w : MWrite) (a : Nat), s.hw.fw.pulse = some w ∧ s.hw.fw.cmd = none ∧ s.hw.fw.shut = false ∧
      s.hw.tap.dbgWait = none ∧ mramBank (a / 32) = mramBank w.group) := by
  refine ⟨?_, ?_, ?_, ?_, ?_, ?_, ?_, ?_, ?_, ?_, ?_, ?_⟩
  · exact ⟨Wit.cmd 0x0700 16 [1], 16, 0, Wit.entry 0x0700 16 [1], by decide +kernel⟩
  · exact ⟨Wit.cmd 0x0701 16 [1], 16, 0, Wit.entry 0x0701 16 [1], [], 0, 0,
      ((Wit.cmd 0x0701 16 [1]).hw.appendWrites 0 1 1 []).1, by decide +kernel⟩
  · exact ⟨Wit.cmd 0x0702 16 ([1, 0, 0, 0] ++ leBytes 4 0xFFFE0), 16, 0, Wit.entry 0x0702 16 ([1, 0, 0, 0] ++
      leBytes 4 0xFFFE0), [], by decide +kernel⟩
  · exact ⟨Wit.cmd 0x0703 16 [1], 16, 0, Wit.entry 0x0703 16 [1], by decide +kernel⟩
  · exact ⟨Wit.cmd 0x0703 16 [2], 16, 0, Wit.entry 0x0703 16 [2], by decide +kernel⟩
  · exact ⟨Wit.cmdWith 0x0F00 16 (leBytes 2 4095 ++ leBytes 2 1) (Wit.engine 32), 16, 0, Wit.entry 0x0F00 16
      (leBytes 2 4095 ++ leBytes 2 1), [4095], by decide +kernel⟩
  · exact ⟨Wit.cmd 0x0F01 16 [], 16, 0, Wit.entry 0x0F01 16 [], by decide +kernel⟩
  · exact ⟨Wit.hw (fun h => { h with rst := { h.rst with dealerRun := true }, fw := { h.fw with boot := true } }),
      by decide +kernel⟩
  · exact ⟨Wit.hw (fun h => { (h.put R.SYS_MRAM_CTL_WEN 0xF) with fw := { h.fw with q := [⟨0, []⟩] } }), true, ⟨0,
      []⟩, [], by decide +kernel⟩
  · exact ⟨Wit.hw (fun h => { (h.put R.SYS_MRAM_CTL_WEN 0) with fw := { h.fw with q := [⟨0, []⟩] } }), true, ⟨0,
      []⟩, [], by decide +kernel⟩
  · exact ⟨Wit.hw (fun h => { h with fw := { h.fw with pulse := some ⟨0x1FFFF, List.replicate 32 1⟩ } }), ⟨0x1FFFF,
      List.replicate 32 1⟩, by decide +kernel⟩
  · exact ⟨Wit.hw (fun h => { h with fw := { h.fw with pulse := some ⟨0x1FFFF, List.replicate 32 1⟩ } }), ⟨0x1FFFF,
      List.replicate 32 1⟩, 32 * 0x1FFFF, by decide +kernel⟩

theorem wit_WideWords :
    (∃ (s : State) (n : Nat) (w : Nat), s.hw.coreUp = true ∧ n < 512 ∧ s.hw.tileClk (partOf n) = true ∧ (s.hw.tile
      n).running = true ∧ (s.hw.tile n).ctl.bken = false ∧ (s.hw.tile n).ctl.pc < 1024 ∧ w = (s.hw.tile n).word ∧
      illegal w (s.hw.tile n).ctl.intrap = none ∧ (s.hw.tile n).p (wPred w) ≠ wNeg w ∧ (s.hw.tile n).waits w = none ∧
      (s.hw.tile n).wFault w s.hw.seat (s.hw.sharesOf (partOf n)) = none ∧ wOp w slC ≠ 0x0A) ∧
    (∃ (s : State) (n : Nat) (w : Nat), s.hw.coreUp = true ∧ n < 512 ∧ s.hw.tileClk (partOf n) = true ∧ (s.hw.tile
      n).running = true ∧ (s.hw.tile n).ctl.bken = false ∧ (s.hw.tile n).ctl.pc < 1024 ∧ w = (s.hw.tile n).word ∧
      illegal w (s.hw.tile n).ctl.intrap = none ∧ (s.hw.tile n).p (wPred w) = wNeg w) ∧
    (∃ (s : State) (n : Nat) (w : Nat), s.hw.coreUp = true ∧ n < 512 ∧ s.hw.tileClk (partOf n) = true ∧ (s.hw.tile
      n).running = true ∧ (s.hw.tile n).ctl.bken = false ∧ (s.hw.tile n).ctl.pc < 1024 ∧ w = (s.hw.tile n).word ∧
      illegal w (s.hw.tile n).ctl.intrap = none ∧ (s.hw.tile n).p (wPred w) ≠ wNeg w ∧ (s.hw.tile n).waits w = some
      .stream) ∧
    (∃ (s : State) (n : Nat) (w : Nat) (e : Nat × Nat), s.hw.coreUp = true ∧ n < 512 ∧ s.hw.tileClk (partOf n) = true
      ∧ (s.hw.tile n).running = true ∧ (s.hw.tile n).ctl.bken = false ∧ (s.hw.tile n).ctl.pc < 1024 ∧ w = (s.hw.tile
      n).word ∧ illegal w (s.hw.tile n).ctl.intrap = some e ∧ (s.hw.tile n).ctl.ten = true ∧ (s.hw.tile n).ctl.intrap
      = false) ∧
    (∃ (s : State) (n : Nat) (w : Nat) (e : Nat × TFault), s.hw.coreUp = true ∧ n < 512 ∧ s.hw.tileClk (partOf n) =
      true ∧ (s.hw.tile n).running = true ∧ (s.hw.tile n).ctl.bken = false ∧ (s.hw.tile n).ctl.pc < 1024 ∧ w =
      (s.hw.tile n).word ∧ illegal w (s.hw.tile n).ctl.intrap = none ∧ (s.hw.tile n).p (wPred w) ≠ wNeg w ∧ (s.hw.tile
      n).waits w = none ∧ (s.hw.tile n).wFault w s.hw.seat (s.hw.sharesOf (partOf n)) = some e ∧ (s.hw.tile n).ctl.ten
      = true ∧ (s.hw.tile n).ctl.intrap = false) ∧
    (∃ (s : State) (n : Nat), s.hw.coreUp = true ∧ ((s.hw.tile n).running = false ∨ 512 ≤ n ∨ s.hw.tileClk (partOf n)
      = false)) ∧
    (∃ (s : State) (n : Nat) (o : MxuOp) (l : List MxuOp), s.hw.coreUp = true ∧ n < 512 ∧ s.hw.tileClk (partOf n) =
      true ∧ (s.hw.tile n).mxu = o :: l) := by
  refine ⟨?_, ?_, ?_, ?_, ?_, ?_, ?_⟩
  · exact ⟨Wit.tile 511 (fun x => Wit.running 1023 (0x2) x), 511, 2, by decide +kernel⟩
  · exact ⟨Wit.tile 511 (fun x => Wit.running 1023 (2 + 512) x), 511, 514, by decide +kernel⟩
  · exact ⟨Wit.tile 511 (fun x => Wit.op Wit.signal (Wit.running 1023 (1 + (0x13 * 2 ^ 32)) x)), 511, 1 + 0x13 * 2 ^
      32, by decide +kernel⟩
  · have key : (match illegal 0xFF00000000 ((Wit.tile 511 (fun x => Wit.trapOn (Wit.running 1023 (0xFF00000000) x))).hw.tile 511).ctl.intrap with | some e => decide (((Wit.tile 511 (fun x => Wit.trapOn (Wit.running 1023 (0xFF00000000) x))).hw.coreUp = true) ∧ (511 < 512) ∧ ((Wit.tile 511 (fun x => Wit.trapOn (Wit.running 1023 (0xFF00000000) x))).hw.tileClk (partOf 511) = true) ∧ (((Wit.tile 511 (fun x => Wit.trapOn (Wit.running 1023 (0xFF00000000) x))).hw.tile 511).running = true) ∧ (((Wit.tile 511 (fun x => Wit.trapOn (Wit.running 1023 (0xFF00000000) x))).hw.tile 511).ctl.bken = false) ∧ (((Wit.tile 511 (fun x => Wit.trapOn (Wit.running 1023 (0xFF00000000) x))).hw.tile 511).ctl.pc < 1024) ∧ (0xFF00000000 = ((Wit.tile 511 (fun x => Wit.trapOn (Wit.running 1023 (0xFF00000000) x))).hw.tile 511).word) ∧ (((Wit.tile 511 (fun x => Wit.trapOn (Wit.running 1023 (0xFF00000000) x))).hw.tile 511).ctl.ten = true) ∧ (((Wit.tile 511 (fun x => Wit.trapOn (Wit.running 1023 (0xFF00000000) x))).hw.tile 511).ctl.intrap = false)) | _ => false) = true := by decide +kernel
    split at key
    · rename_i e e0
      have k := of_decide_eq_true key
      exact ⟨(Wit.tile 511 (fun x => Wit.trapOn (Wit.running 1023 (0xFF00000000) x))), 511, 0xFF00000000, e, k.1, k.2.1, k.2.2.1, k.2.2.2.1, k.2.2.2.2.1, k.2.2.2.2.2.1, k.2.2.2.2.2.2.1, e0, k.2.2.2.2.2.2.2.1, k.2.2.2.2.2.2.2.2⟩
    · cases key
  · have key : (match ((Wit.tile 511 (fun x => Wit.trapOn (Wit.running 1023 (1 + 8 * 2 ^ 32) x))).hw.tile 511).wFault (1 + 8 * 2 ^ 32 : Nat) (Wit.tile 511 (fun x => Wit.trapOn (Wit.running 1023 (1 + 8 * 2 ^ 32) x))).hw.seat ((Wit.tile 511 (fun x => Wit.trapOn (Wit.running 1023 (1 + 8 * 2 ^ 32) x))).hw.sharesOf (partOf 511)) with | some e => decide (((Wit.tile 511 (fun x => Wit.trapOn (Wit.running 1023 (1 + 8 * 2 ^ 32) x))).hw.coreUp = true) ∧ (511 < 512) ∧ ((Wit.tile 511 (fun x => Wit.trapOn (Wit.running 1023 (1 + 8 * 2 ^ 32) x))).hw.tileClk (partOf 511) = true) ∧ (((Wit.tile 511 (fun x => Wit.trapOn (Wit.running 1023 (1 + 8 * 2 ^ 32) x))).hw.tile 511).running = true) ∧ (((Wit.tile 511 (fun x => Wit.trapOn (Wit.running 1023 (1 + 8 * 2 ^ 32) x))).hw.tile 511).ctl.bken = false) ∧ (((Wit.tile 511 (fun x => Wit.trapOn (Wit.running 1023 (1 + 8 * 2 ^ 32) x))).hw.tile 511).ctl.pc < 1024) ∧ ((1 + 8 * 2 ^ 32 : Nat) = ((Wit.tile 511 (fun x => Wit.trapOn (Wit.running 1023 (1 + 8 * 2 ^ 32) x))).hw.tile 511).word) ∧ (illegal (1 + 8 * 2 ^ 32 : Nat) ((Wit.tile 511 (fun x => Wit.trapOn (Wit.running 1023 (1 + 8 * 2 ^ 32) x))).hw.tile 511).ctl.intrap = none) ∧ (((Wit.tile 511 (fun x => Wit.trapOn (Wit.running 1023 (1 + 8 * 2 ^ 32) x))).hw.tile 511).p (wPred (1 + 8 * 2 ^ 32 : Nat)) ≠ wNeg (1 + 8 * 2 ^ 32 : Nat)) ∧ (((Wit.tile 511 (fun x => Wit.trapOn (Wit.running 1023 (1 + 8 * 2 ^ 32) x))).hw.tile 511).waits (1 + 8 * 2 ^ 32 : Nat) = none) ∧ (((Wit.tile 511 (fun x => Wit.trapOn (Wit.running 1023 (1 + 8 * 2 ^ 32) x))).hw.tile 511).ctl.ten = true) ∧ (((Wit.tile 511 (fun x => Wit.trapOn (Wit.running 1023 (1 + 8 * 2 ^ 32) x))).hw.tile 511).ctl.intrap = false)) | _ => false) = true := by decide +kernel
    split at key
    · rename_i e e0
      have k := of_decide_eq_true key
      exact ⟨(Wit.tile 511 (fun x => Wit.trapOn (Wit.running 1023 (1 + 8 * 2 ^ 32) x))), 511, (1 + 8 * 2 ^ 32 : Nat), e, k.1, k.2.1, k.2.2.1, k.2.2.2.1, k.2.2.2.2.1, k.2.2.2.2.2.1, k.2.2.2.2.2.2.1, k.2.2.2.2.2.2.2.1, k.2.2.2.2.2.2.2.2.1, k.2.2.2.2.2.2.2.2.2.1, e0, k.2.2.2.2.2.2.2.2.2.2.1, k.2.2.2.2.2.2.2.2.2.2.2⟩
    · cases key
  · exact ⟨State.reset, 512, by decide +kernel⟩
  · exact ⟨Wit.tile 511 (fun x => { x with mxu := [Wit.mxu] }), 511, Wit.mxu, [], by decide +kernel⟩

theorem wit_TileControl :
    (∃ (s : State) (n : Nat), s.hw.coreUp = true ∧ n < 512 ∧ s.hw.fenced n = false ∧ s.hw.tileClk (partOf n) = true ∧
      (s.hw.tile n).running = false) ∧
    (∃ (s : State) (n : Nat), s.hw.coreUp = true ∧ n < 512 ∧ s.hw.fenced n = false ∧ s.hw.tileClk (partOf n) = true ∧
      (s.hw.tile n).running = false) ∧
    (∃ (s : State) (n : Nat), s.hw.coreUp = true ∧ n < 512 ∧ s.hw.fenced n = false ∧ s.hw.tileClk (partOf n) = true ∧
      (s.hw.tile n).running = true) ∧
    (∃ (s : State) (n : Nat), s.hw.coreUp = true ∧ n < 512 ∧ s.hw.fenced n = false ∧ s.hw.tileClk (partOf n) = true ∧
      (s.hw.tile n).running = false) := by
  refine ⟨?_, ?_, ?_, ?_⟩
  · exact ⟨Wit.tile 511 (fun x => x), 511, by decide +kernel⟩
  · exact ⟨Wit.tile 511 (fun x => x), 511, by decide +kernel⟩
  · exact ⟨Wit.tile 511 (fun x => Wit.running 0 0 x), 511, by decide +kernel⟩
  · exact ⟨Wit.tile 511 (fun x => x), 511, by decide +kernel⟩

theorem wit_TileStreams :
    (∃ (s : State) (n : Nat) (o : SOp) (q : SReq) (r : Nat) (f : Nat) (h : Hw), s.hw.coreUp = true ∧ (s.hw.tile
      n).pickOp false = some o ∧ o.padded = true ∧ o.kind = .signal ∧ o.next? = some (q, r, f) ∧ s.hw.niCheck n
      q.gaddr q.len (some (partOf n)) = (none, h) ∧ h.tagFree n = true ∧ (s.hw.pt (partOf n)).start = none) ∧
    (∃ (s : State) (n : Nat) (tag : Nat) (o : SOp) (q : SReq) (a : Arrived) (h : Hw), s.hw.coreUp = true ∧ (s.hw.tile
      n).str.ops.findSome? (fun o => (o.out.find? (fun q => q.tag == tag)).map (fun q => (o, q))) = some (o, q) ∧
      s.hw.takeRsp n tag = some (a, h) ∧ (o.writesTs = false ∨ (s.hw.tile n).held q.ts q.len = false)) ∧
    (∃ (s : State) (n : Nat) (far : List Byte) (bs : List Byte) (h : Hw), s.hw.coreUp = true ∧ (s.hw.tile
      n).str.walking = true ∧ (s.hw.tile n).str.stopped = false ∧ (s.hw.tile n).fills.length < 16 ∧ s.hw.engineRead n
      (s.hw.tile n).str.next 16 far = (0, bs, false, h) ∧ leAt bs 12 2 < 2 ∧ leAt bs 14 2 = 0 ∧ leAt bs 0 8 % 128 = 0
      ∧ leAt bs 0 8 < 2 ^ 48 ∧ leAt bs 8 4 % 32 = 0 ∧ 0x30000 ≤ leAt bs 8 4 ∧ leAt bs 8 4 < 0x40000) ∧
    (∃ (s : State) (n : Nat) (far : List Byte) (bs : List Byte) (h : Hw) (o : SOp), s.hw.coreUp = true ∧ (s.hw.tile
      n).str.ops.find? (fun o => o.kind == .fill && !o.ready) = some o ∧ (s.hw.tile n).str.stopped = false ∧
      s.hw.engineRead n o.daddr 128 far = (0, bs, false, h) ∧ xCheck .spref ((List.range 16).map (fun w => leAt bs (8
      * w) 8)) o.ts 0 h.seat ⟨h.is (R.PACE_BW_MODE (partOf n)), h.get (R.PACE_BW_READ (partOf n)), h.get
      (R.PACE_BW_WRITE (partOf n)), h.get (R.PACE_BW_REMOTE (partOf n))⟩ = none) := by
  refine ⟨?_, ?_, ?_, ?_⟩
  · have key : (match Wit.signal.next? with | some (q, r, f) => (match (Wit.tile 511 (fun x => Wit.op Wit.signal x)).hw.niCheck 511 q.gaddr q.len (some (partOf 511)) with | (none, h) => decide (((Wit.tile 511 (fun x => Wit.op Wit.signal x)).hw.coreUp = true) ∧ (((Wit.tile 511 (fun x => Wit.op Wit.signal x)).hw.tile 511).pickOp false = some Wit.signal) ∧ (Wit.signal.padded = true) ∧ (Wit.signal.kind = .signal) ∧ (h.tagFree 511 = true) ∧ (((Wit.tile 511 (fun x => Wit.op Wit.signal x)).hw.pt (partOf 511)).start = none)) | _ => false) | _ => false) = true := by decide +kernel
    split at key
    · rename_i q r f e0
      split at key
      · rename_i h e1
        have k := of_decide_eq_true key
        exact ⟨(Wit.tile 511 (fun x => Wit.op Wit.signal x)), 511, Wit.signal, q, r, f, h, k.1, k.2.1, k.2.2.1, k.2.2.2.1, e0, e1, k.2.2.2.2.1, k.2.2.2.2.2⟩
      · cases key
    · cases key
  · have key : (match ((Wit.hw (fun h => { (Wit.tile 511 (fun x => Wit.op Wit.signalSent x)).hw with noc := { h.noc with inbox := [⟨511, 4095, 0, [], []⟩] } })).hw.tile 511).str.ops.findSome? (fun o => (o.out.find? (fun q => q.tag == 4095)).map (fun q => (o, q))) with | some (o, q) => (match (Wit.hw (fun h => { (Wit.tile 511 (fun x => Wit.op Wit.signalSent x)).hw with noc := { h.noc with inbox := [⟨511, 4095, 0, [], []⟩] } })).hw.takeRsp 511 4095 with | some (a, h) => decide (((Wit.hw (fun h => { (Wit.tile 511 (fun x => Wit.op Wit.signalSent x)).hw with noc := { h.noc with inbox := [⟨511, 4095, 0, [], []⟩] } })).hw.coreUp = true) ∧ (o.writesTs = false ∨ ((Wit.hw (fun h => { (Wit.tile 511 (fun x => Wit.op Wit.signalSent x)).hw with noc := { h.noc with inbox := [⟨511, 4095, 0, [], []⟩] } })).hw.tile 511).held q.ts q.len = false)) | _ => false) | _ => false) = true := by decide +kernel
    split at key
    · rename_i o q e0
      split at key
      · rename_i a h e1
        have k := of_decide_eq_true key
        exact ⟨(Wit.hw (fun h => { (Wit.tile 511 (fun x => Wit.op Wit.signalSent x)).hw with noc := { h.noc with inbox := [⟨511, 4095, 0, [], []⟩] } })), 511, 4095, o, q, a, h, k.1, e0, e1, k.2⟩
      · cases key
    · cases key
  · have key : (match (Wit.tile 511 Wit.walker).hw.engineRead 511 ((Wit.tile 511 Wit.walker).hw.tile 511).str.next 16 ([] : List Byte) with | (0, bs, false, h) => decide (((Wit.tile 511 Wit.walker).hw.coreUp = true) ∧ (((Wit.tile 511 Wit.walker).hw.tile 511).str.walking = true) ∧ (((Wit.tile 511 Wit.walker).hw.tile 511).str.stopped = false) ∧ (((Wit.tile 511 Wit.walker).hw.tile 511).fills.length < 16) ∧ (leAt bs 12 2 < 2) ∧ (leAt bs 14 2 = 0) ∧ (leAt bs 0 8 % 128 = 0) ∧ (leAt bs 0 8 < 2 ^ 48) ∧ (leAt bs 8 4 % 32 = 0) ∧ (0x30000 ≤ leAt bs 8 4) ∧ (leAt bs 8 4 < 0x40000)) | _ => false) = true := by decide +kernel
    split at key
    · rename_i bs h e0
      have k := of_decide_eq_true key
      exact ⟨(Wit.tile 511 Wit.walker), 511, ([] : List Byte), bs, h, k.1, k.2.1, k.2.2.1, k.2.2.2.1, e0, k.2.2.2.2.1, k.2.2.2.2.2.1, k.2.2.2.2.2.2.1, k.2.2.2.2.2.2.2.1, k.2.2.2.2.2.2.2.2.1, k.2.2.2.2.2.2.2.2.2.1, k.2.2.2.2.2.2.2.2.2.2⟩
    · cases key
  · have key : (match ((Wit.tile 511 Wit.filler).hw.tile 511).str.ops.find? (fun o => o.kind == .fill && !o.ready) with | some o => (match (Wit.tile 511 Wit.filler).hw.engineRead 511 o.daddr 128 ([] : List Byte) with | (0, bs, false, h) => decide (((Wit.tile 511 Wit.filler).hw.coreUp = true) ∧ (((Wit.tile 511 Wit.filler).hw.tile 511).str.stopped = false) ∧ (xCheck .spref ((List.range 16).map (fun w => leAt bs (8 * w) 8)) o.ts 0 h.seat ⟨h.is (R.PACE_BW_MODE (partOf 511)), h.get (R.PACE_BW_READ (partOf 511)), h.get (R.PACE_BW_WRITE (partOf 511)), h.get (R.PACE_BW_REMOTE (partOf 511))⟩ = none)) | _ => false) | _ => false) = true := by decide +kernel
    split at key
    · rename_i o e0
      split at key
      · rename_i bs h e1
        have k := of_decide_eq_true key
        exact ⟨(Wit.tile 511 Wit.filler), 511, ([] : List Byte), bs, h, o, k.1, e0, k.2.1, e1, k.2.2⟩
      · cases key
    · cases key

theorem wit_NetworkPackets :
    (∃ (s : State) (k : Nat) (p : Packet), s.hw.coreUp = true ∧ s.hw.pkt? k = some p ∧ p.op = 1 ∧ p.crcBad = false ∧
      p.dstSeat = s.hw.seat ∧ p.dstNode < 512 ∧ s.hw.fenced p.dstNode = false ∧ s.hw.gStatus p.addr p.bytes false = 0) ∧
    (∃ (s : State) (k : Nat) (p : Packet), s.hw.coreUp = true ∧ s.hw.pkt? k = some p ∧ p.op = 1 ∧ p.crcBad = false ∧
      p.dstSeat = s.hw.seat ∧ 512 ≤ p.dstNode ∧ p.dstNode < 576 ∧ s.hw.fenced p.dstNode = false) ∧
    (∃ (s : State) (k : Nat) (p : Packet), s.hw.coreUp = true ∧ s.hw.pkt? k = some p ∧ p.op = 2 ∧ p.crcBad = false ∧
      p.dstSeat = s.hw.seat ∧ p.dstNode < 512 ∧ s.hw.fenced p.dstNode = false ∧ s.hw.gStatus p.addr p.bytes true = 0) ∧
    (∃ (s : State) (k : Nat) (p : Packet), s.hw.coreUp = true ∧ s.hw.pkt? k = some p ∧ p.op = 0x81 ∧ p.dstSeat =
      s.hw.seat ∧ p.dstNode < 655) ∧
    (∃ (s : State) (k : Nat) (p : Packet), s.hw.coreUp = true ∧ s.hw.pkt? k = some p ∧ p.op = 0x82 ∧ p.dstSeat =
      s.hw.seat ∧ p.dstNode < 655) ∧
    (∃ (s : State) (k : Nat) (p : Packet), s.hw.coreUp = true ∧ s.hw.pkt? k = some p ∧ p.op = 0xC4 ∧ p.dstSeat =
      s.hw.seat ∧ p.crcBad = false) ∧
    (∃ (s : State) (k : Nat) (p : Packet), s.hw.coreUp = true ∧ s.hw.pkt? k = some p ∧ p.op = 0xC3 ∧ p.dstSeat =
      s.hw.seat ∧ p.dstNode = 647 ∧ p.crcBad = false ∧ s.hw.watching = true ∧ s.hw.bitOf R.TBL_STAT_PRESENT (bits
      p.aux 2 0) = true ∧ s.hw.tbl.redeal = none ∧ s.hw.tbl.sleepCmd = none ∧ s.hw.is R.CFG_STAT_IDENT_OK = true) ∧
    (∃ (s : State) (n : Nat) (tag : Nat) (o : Outst), s.hw.coreUp = true ∧ 512 ≤ n ∧ s.hw.noc.outst.find? (fun x =>
      x.node == n && x.tag == tag && x.closed == .live) = some o) := by
  refine ⟨?_, ?_, ?_, ?_, ?_, ?_, ?_, ?_⟩
  · exact ⟨Wit.clocked (Wit.pkt 1 0 511 0x10001FF00000), 0, Wit.pkt 1 0 511 0x10001FF00000, by decide +kernel⟩
  · exact ⟨Wit.pktState (Wit.pkt 1 0 575 0), 0, Wit.pkt 1 0 575 0, by decide +kernel⟩
  · exact ⟨Wit.clocked (Wit.pkt 2 0 511 0x10001FF00000), 0, Wit.pkt 2 0 511 0x10001FF00000, by decide +kernel⟩
  · exact ⟨Wit.pktState (Wit.pkt 0x81 0 654 0), 0, Wit.pkt 0x81 0 654 0, by decide +kernel⟩
  · exact ⟨Wit.pktState (Wit.pkt 0x82 0 654 0), 0, Wit.pkt 0x82 0 654 0, by decide +kernel⟩
  · exact ⟨Wit.pktState (Wit.pkt 0xC4 0 640 0), 0, Wit.pkt 0xC4 0 640 0, by decide +kernel⟩
  · exact ⟨Wit.hw (fun _ => Wit.watch ((Wit.pktState (Wit.pkt 0xC3 0 647 0)).hw)), 0, Wit.pkt 0xC3 0 647 0,
      by decide +kernel⟩
  · exact ⟨Wit.hw (fun h => { h with noc := { h.noc with outst := [⟨654, 4095, 0, 32, false, .live⟩] } }), 654,
      4095, ⟨654, 4095, 0, 32, false, .live⟩, by decide +kernel⟩

theorem wit_Folds :
    (∃ (s : State) (i : Nat), s.hw.coreUp = true ∧ i < 64 ∧ s.hw.blkDown .noc R.NOC_FOLD_REQ = false) ∧
    (∃ (s : State) (i : Nat), s.hw.coreUp = true ∧ i < 16 ∧ s.hw.blkDown .noc R.NOC_FOLD_REQ = false) ∧
    (∃ (s : State) (i : Nat), s.hw.coreUp = true ∧ 16 ≤ i ∧ i < 64 ∧ s.hw.blkDown .noc R.NOC_FOLD_REQ = false) ∧
    (∃ (s : State) (i : Nat), s.hw.coreUp = true ∧ i < 64 ∧ s.hw.blkDown .noc R.NOC_FOLD_REQ = false) ∧
    (∃ (s : State) (i : Nat), s.hw.coreUp = true ∧ i < 16 ∧ s.hw.blkDown .noc R.NOC_FOLD_REQ = false) ∧
    (∃ (s : State) (n : Nat), s.hw.coreUp = true ∧ (512 ≤ n ∨ (s.hw.pstate (partOf n) ≠ 3 ∧ s.hw.ckBusy (partOf n) =
      false))) ∧
    (∃ (s : State) (n : Nat), s.hw.coreUp = true ∧ 512 ≤ n ∧ NSet.has (s.hw.fsm (regionOf n)).waitOut n = true ∧
      s.hw.outOf n = []) ∧
    (∃ (s : State) (n : Nat), s.hw.coreUp = true ∧ NSet.has (s.hw.fsm (regionOf n)).waitIn n = true ∧
      s.hw.noc.accepted.all (fun p => p.dstNode != n) = true) ∧
    (∃ (s : State), s.hw.coreUp = true) ∧
    (∃ (s : State) (k : Nat), s.hw.coreUp = true ∧ 16 ≤ k ∧ s.hw.foldReady k = true ∧ (s.hw.fsm k).forced = false ∧
      (s.hw.fsm k).held = false ∧ (s.hw.fsm k).acks = [] ∧ s.hw.pwr'.phase ≠ .folding) ∧
    (∃ (s : State) (k : Nat), s.hw.coreUp = true ∧ 16 ≤ k ∧ s.hw.foldStat k = fFOLDING ∧ (s.hw.fsm k).forced = false) := by
  refine ⟨?_, ?_, ?_, ?_, ?_, ?_, ?_, ?_, ?_, ?_, ?_⟩
  · exact ⟨State.reset, 63, by decide +kernel⟩
  · exact ⟨State.reset, 15, by decide +kernel⟩
  · exact ⟨State.reset, 16, by decide +kernel⟩
  · exact ⟨State.reset, 63, by decide +kernel⟩
  · exact ⟨State.reset, 15, by decide +kernel⟩
  · exact ⟨State.reset, 639, by decide +kernel⟩
  · exact ⟨Wit.hw (fun h => h.setFsm (regionOf 639) { FoldSm.reset with waitOut := [639] }), 639, by decide +kernel⟩
  · exact ⟨Wit.hw (fun h => h.setFsm (regionOf 639) { FoldSm.reset with waitIn := [639] }), 639, by decide +kernel⟩
  · exact ⟨State.reset, by decide +kernel⟩
  · exact ⟨Wit.hw (fun h => h.setFoldStat 79 fFOLDING), 79, by decide +kernel⟩
  · exact ⟨Wit.hw (fun h => h.setFoldStat 79 fFOLDING), 79, by decide +kernel⟩

theorem wit_MemoryController :
    (∃ (s : State) (c : Nat), s.hw.memUp = true ∧ s.hw.pcRuns c = false) ∧
    (∃ (s : State) (c : Nat), s.hw.memUp = true ∧ (s.hw.pcs c).q = []) ∧
    (∃ (s : State) (c : Nat) (b : HBurst) (p : PcState), s.hw.memUp = true ∧ s.hw.pcRuns c = true ∧ p =
      { s.hw.calendars (s.hw.pcs c) with drain := s.hw.drainState c (s.hw.calendars (s.hw.pcs c)) } ∧ s.hw.chooseBurst
      c p = some b ∧ b.kind = .read) ∧
    (∃ (s : State) (c : Nat) (b : HBurst) (p : PcState), s.hw.memUp = true ∧ s.hw.pcRuns c = true ∧ p =
      { s.hw.calendars (s.hw.pcs c) with drain := s.hw.drainState c (s.hw.calendars (s.hw.pcs c)) } ∧ s.hw.chooseBurst
      c p = some b ∧ b.kind ≠ .read) ∧
    (∃ (s : State) (c : Nat), s.hw.memUp = true ∧ s.hw.memState (c / 32) = msRUN ∧ s.hw.is (R.MEM_REF_CFG_MODE (c /
      32)) = true) ∧
    (∃ (s : State) (c : Nat), s.hw.memUp = true ∧ s.hw.memState (c / 32) = msRUN ∧ s.hw.is (R.MEM_REF_CFG_MODE (c /
      32)) = false) ∧
    (∃ (s : State) (n : Nat), s.hw.memUp = true ∧ n < 32) ∧
    (∃ (s : State), s.hw.memUp = true) ∧
    (∃ (s : State) (c : Nat) (bank : Nat), s.hw.memUp = true ∧ NMap.get (s.hw.pcs c).used bank + 640 ≤ s.hw.clk.now) ∧
    (∃ (s : State) (st : Nat), s.hw.memUp = true ∧ s.hw.memState st = msRUN ∧ s.hw.is (R.MEM_CTL_PD_IDLE st) = true ∧
      (List.range 32).all (fun n => (s.hw.pcs (32 * st + n)).q.isEmpty) = true) := by
  refine ⟨?_, ?_, ?_, ?_, ?_, ?_, ?_, ?_, ?_, ?_⟩
  · exact ⟨State.reset, 63, by decide +kernel⟩
  · exact ⟨State.reset, 63, by decide +kernel⟩
  · have key : (match (Wit.hbm (Wit.burst .read)).hw.chooseBurst 0 ({ (Wit.hbm (Wit.burst .read)).hw.calendars ((Wit.hbm (Wit.burst .read)).hw.pcs 0) with drain := (Wit.hbm (Wit.burst .read)).hw.drainState 0 ((Wit.hbm (Wit.burst .read)).hw.calendars ((Wit.hbm (Wit.burst .read)).hw.pcs 0)) } : PcState) with | some b => decide (((Wit.hbm (Wit.burst .read)).hw.sysUp = true) ∧ ((Wit.hbm (Wit.burst .read)).hw.pcRuns 0 = true) ∧ (b.kind = .read)) | _ => false) = true := by decide +kernel
    split at key
    · rename_i b e0
      have k := of_decide_eq_true key
      exact ⟨(Wit.hbm (Wit.burst .read)), 0, b, _, k.1, k.2.1, rfl, e0, k.2.2⟩
    · cases key
  · have key : (match (Wit.hbm (Wit.burst .full)).hw.chooseBurst 0 ({ (Wit.hbm (Wit.burst .full)).hw.calendars ((Wit.hbm (Wit.burst .full)).hw.pcs 0) with drain := (Wit.hbm (Wit.burst .full)).hw.drainState 0 ((Wit.hbm (Wit.burst .full)).hw.calendars ((Wit.hbm (Wit.burst .full)).hw.pcs 0)) } : PcState) with | some b => decide (((Wit.hbm (Wit.burst .full)).hw.sysUp = true) ∧ ((Wit.hbm (Wit.burst .full)).hw.pcRuns 0 = true) ∧ (b.kind ≠ .read)) | _ => false) = true := by decide +kernel
    split at key
    · rename_i b e0
      have k := of_decide_eq_true key
      exact ⟨(Wit.hbm (Wit.burst .full)), 0, b, _, k.1, k.2.1, rfl, e0, k.2.2⟩
    · cases key
  · exact ⟨Wit.hw (fun h => (h.put (R.MEM_STAT_STATE 1) msRUN).put (R.MEM_REF_CFG_MODE 1) 1), 63, by decide +kernel⟩
  · exact ⟨Wit.hw (fun h => (h.put (R.MEM_STAT_STATE 1) msRUN).put (R.MEM_REF_CFG_MODE 1) 0), 63, by decide +kernel⟩
  · exact ⟨State.reset, 31, by decide +kernel⟩
  · exact ⟨State.reset, by decide +kernel⟩
  · exact ⟨Wit.hw (fun h => { h with clk := { h.clk with now := 640 } }), 63, 31, by decide +kernel⟩
  · exact ⟨Wit.hw (fun h => (h.put (R.MEM_STAT_STATE 1) msRUN).put (R.MEM_CTL_PD_IDLE 1) 1), 1, by decide +kernel⟩

theorem wit_MemoryStacks :
    (∃ (s : State) (v : Nat), s.hw.sysUp = true ∧ 85 * 16 < sext 16 v) ∧
    (∃ (s : State) (v : Nat), s.hw.sysUp = true ∧ sext 16 v < 83 * 16) ∧
    (∃ (s : State) (v : Nat), s.hw.sysUp = true ∧ 83 * 16 ≤ sext 16 v ∧ sext 16 v ≤ 85 * 16) ∧
    (∃ (s : State) (st : Nat), st < 2 ∧ s.hw.sysUp = true) ∧
    (∃ (s : State) (st : Nat) (g : Hw), st < 2 ∧ s.hw.asleep = false ∧ NSet.has s.hw.err.alarm (3 + st) = false ∧ g =
      (({ s.hw with err := { s.hw.err with alarm := NSet.put s.hw.err.alarm (3 + st) true } } : Hw).lastingOn eTHERMAL
      2 nodeREG).raise R.ERR_ALERT_ALERT (1 + st)) ∧
    (∃ (s : State) (st : Nat) (g : Hw), s.hw.memUp = true ∧ s.hw.memState st = msTRAINING ∧ s.hw.pwr'.phase ≠ .exitRun
      ∧ g =
      { s.hw.attempt st with hbm := { (s.hw.attempt st).hbm with fails := NMap.set (s.hw.attempt st).hbm.fails st 0, kept := NSet.del (s.hw.attempt st).hbm.kept st } }) ∧
    (∃ (s : State) (st : Nat) (g : Hw), s.hw.memUp = true ∧ s.hw.memState st = msTRAINING ∧ s.hw.pwr'.phase ≠ .exitRun
      ∧ NMap.get s.hw.hbm.fails st < 2 ∧ g =
      { s.hw.attempt st with hbm := { s.hw.hbm with fails := NMap.set s.hw.hbm.fails st (NMap.get s.hw.hbm.fails st + 1) } }) ∧
    (∃ (s : State) (st : Nat) (g : Hw), s.hw.memUp = true ∧ s.hw.memState st = msTRAINING ∧ s.hw.pwr'.phase ≠ .exitRun
      ∧ 2 ≤ NMap.get s.hw.hbm.fails st ∧ g =
      { s.hw.attempt st with hbm := { s.hw.hbm with fails := NMap.set s.hw.hbm.fails st (NMap.get s.hw.hbm.fails st + 1) } }) ∧
    (∃ (s : State) (st : Nat) (n : Nat) (lane : Nat), st < 2 ∧ n < 32 ∧ lane < 64 ∧ s.hw.memUp = true ∧ s.hw.memState
      st = msTRAINING ∧ s.hw.pwr'.phase ≠ .exitRun ∧ NMap.get s.hw.hbm.fails st < 2 ∧ NSet.has s.hw.hbm.soft
      (laneGroup st n lane) = false ∧ NSet.has s.hw.hbm.hard (laneGroup st n lane) = false) ∧
    (∃ (s : State) (st : Nat) (g : Nat), s.hw.dealerUp = true ∧ s.hw.tapInternal = true ∧ s.hw.tap.use ≠ some .repair
      ∧ s.hw.memState st = msHOLD ∧ s.hw.is (R.MEM_REPAIR_CFG_REQ st) = true ∧ s.hw.is (R.MEM_REPAIR_CFG_HARD st) =
      false ∧ g = laneGroup st (s.hw.get (R.MEM_LANE_FAIL_PC st)) (s.hw.get (R.MEM_LANE_FAIL_LANE st))) ∧
    (∃ (s : State) (st : Nat) (g : Nat), st < 2 ∧ s.hw.dealerUp = true ∧ s.hw.tapInternal = true ∧ s.hw.tap.use ≠ some
      .repair ∧ s.hw.memState st = msHOLD ∧ s.hw.is (R.MEM_REPAIR_CFG_REQ st) = true ∧ s.hw.is (R.MEM_REPAIR_CFG_HARD
      st) = true ∧ g = laneGroup st (s.hw.get (R.MEM_LANE_FAIL_PC st)) (s.hw.get (R.MEM_LANE_FAIL_LANE st))) ∧
    (∃ (s : State) (st : Nat), st < 2 ∧ s.hw.blkDown .mem (R.MEM_CTL st) = false) := by
  refine ⟨?_, ?_, ?_, ?_, ?_, ?_, ?_, ?_, ?_, ?_, ?_, ?_⟩
  · exact ⟨State.reset, 1361, by decide +kernel⟩
  · exact ⟨State.reset, 1327, by decide +kernel⟩
  · exact ⟨State.reset, 1360, by decide +kernel⟩
  · exact ⟨State.reset, by decide +kernel⟩
  · exact ⟨State.reset, 1, _, by decide +kernel, by decide +kernel, by decide +kernel, rfl⟩
  · exact ⟨State.reset, 1, _, by decide +kernel, by decide +kernel, by decide +kernel, rfl⟩
  · exact ⟨State.reset, 1, _, by decide +kernel, by decide +kernel, by decide +kernel, by decide +kernel, rfl⟩
  · exact ⟨Wit.hw (fun h => { h with hbm := { h.hbm with fails := [(1, 2)] } }), 1, _, by decide +kernel, by decide +kernel, by decide +kernel, by decide +kernel, rfl⟩
  · exact ⟨State.reset, 1, 31, 63, by decide +kernel⟩
  · exact ⟨Wit.laneHold 0, 1, _, by decide +kernel, by decide +kernel, by decide +kernel, by decide +kernel, by decide +kernel, by decide +kernel, rfl⟩
  · exact ⟨Wit.laneHold 1, 1, _, by decide +kernel, by decide +kernel, by decide +kernel, by decide +kernel, by decide +kernel, by decide +kernel, by decide +kernel, rfl⟩
  · exact ⟨State.reset, 1, by decide +kernel⟩

theorem wit_SensorFrontEnd :
    (∃ (s : State) (g : Nat), (s.hw.grpEn g = [] ∨ s.hw.snsRuns = false)) ∧
    (∃ (s : State) (g : Nat) (pdm : List Nat) (r : Nat × Hw), s.hw.grpEn g ≠ [] ∧ s.hw.snsRuns = true ∧ (s.hw.is
      (R.SNS_GRP_CFG_AUTO g) = true ∨ (s.hw.sgrp g).strad ≠ none ∨ s.hw.get (R.SNS_GRP_CFG_STEP g) = (s.hw.sgrp
      g).step) ∧ r = ((List.range (s.hw.grpEn g).length).zip (s.hw.grpEn g)).foldl (fun (a : Nat × Hw) e => (max a.1
      (a.2.chanSample g e.2 (a.2.pdmSeen (e.2 / 2) (listAt 0 pdm e.1))).1, (a.2.chanSample g e.2 (a.2.pdmSeen (e.2 /
      2) (listAt 0 pdm e.1))).2)) (0, s.hw)) ∧
    (∃ (s : State) (u : Nat), u < 40 ∧ s.hw.blkDown .sns R.SNS_TRIG_LO = false ∧ s.hw.snsRuns = true ∧ s.hw.get
      (R.SNS_CAP_CTL_TRIG u) = 2 ∧ s.hw.is (R.SNS_CAP_STAT_ARMED u) = true ∧ s.hw.is (R.SNS_CAP_STAT_RUN u) = false) ∧
    (∃ (s : State) (u : Nat), u < 40 ∧ s.hw.blkDown .sns R.SNS_TRIG_LO = false ∧ s.hw.snsRuns = true ∧ s.hw.get
      (R.SNS_CAP_CTL_TRIG u) = 2 ∧ s.hw.is (R.SNS_CAP_STAT_ARMED u) = true ∧ s.hw.is (R.SNS_CAP_STAT_RUN u) = true ∧
      s.hw.get (R.SNS_CAP_CTL_POLICY u) = 0 ∧ s.hw.is (R.SNS_CAP_STAT_PEND u) = false) ∧
    (∃ (s : State) (u : Nat), u < 40 ∧ s.hw.blkDown .sns R.SNS_TRIG_LO = false ∧ s.hw.snsRuns = true ∧ s.hw.get
      (R.SNS_CAP_CTL_TRIG u) = 2 ∧ s.hw.is (R.SNS_CAP_STAT_ARMED u) = true ∧ s.hw.is (R.SNS_CAP_STAT_RUN u) = true ∧
      s.hw.get (R.SNS_CAP_CTL_POLICY u) = 1) ∧
    (∃ (s : State) (u : Nat), u < 40 ∧ s.hw.blkDown .sns R.SNS_TRIG_LO = false ∧ s.hw.snsRuns = true ∧ s.hw.get
      (R.SNS_CAP_CTL_TRIG u) = 2 ∧ s.hw.is (R.SNS_CAP_STAT_ARMED u) = true ∧ s.hw.is (R.SNS_CAP_STAT_RUN u) = true ∧ 2
      ≤ s.hw.get (R.SNS_CAP_CTL_POLICY u)) ∧
    (∃ (s : State) (u : Nat) (farOk : Bool) (h : Hw), s.hw.sysUp = true ∧ s.hw.capComplete u farOk = (true, h)) ∧
    (∃ (s : State) (pdm : List Nat) (b : Bool) (h : Hw), s.hw.is R.SNS_WAKE_STAT_RUN = true ∧ s.hw.wakeFrame pdm = (b,
      h)) ∧
    (∃ (s : State), s.hw.is R.SNS_WAKE_STAT_RUN = false) := by
  refine ⟨?_, ?_, ?_, ?_, ?_, ?_, ?_, ?_, ?_⟩
  · exact ⟨State.reset, 3, by decide +kernel⟩
  · have key : decide (Wit.pdmGroup.hw.grpEn 3 ≠ [] ∧ Wit.pdmGroup.hw.snsRuns = true ∧
        Wit.pdmGroup.hw.is (R.SNS_GRP_CFG_AUTO 3) = true) = true := by decide +kernel
    have k := of_decide_eq_true key
    exact ⟨Wit.pdmGroup, 3, ([] : List Nat), _, k.1, k.2.1, Or.inl k.2.2, rfl⟩
  · exact ⟨Wit.soft 0 0, 39, by decide +kernel⟩
  · exact ⟨Wit.soft 1 0, 39, by decide +kernel⟩
  · exact ⟨Wit.soft 1 1, 39, by decide +kernel⟩
  · exact ⟨Wit.soft 1 3, 39, by decide +kernel⟩
  · have key : (match (Wit.hw (fun h => h.setCap 39 { CapUnit.reset with out := [⟨0x110000100000, List.replicate 1120 0, 0, true⟩] })).hw.capComplete 39 true with | (true, h) => decide (((Wit.hw (fun h => h.setCap 39 { CapUnit.reset with out := [⟨0x110000100000, List.replicate 1120 0, 0, true⟩] })).hw.sysUp = true)) | _ => false) = true := by decide +kernel
    split at key
    · rename_i h e0
      have k := of_decide_eq_true key
      exact ⟨(Wit.hw (fun h => h.setCap 39 { CapUnit.reset with out := [⟨0x110000100000, List.replicate 1120 0, 0, true⟩] })), 39, true, h, k, e0⟩
    · cases key
  · have key : (match (Wit.hw (fun h => h.put R.SNS_WAKE_STAT_RUN 1)).hw.wakeFrame ([] : List Nat) with | (b, h) => decide (((Wit.hw (fun h => h.put R.SNS_WAKE_STAT_RUN 1)).hw.is R.SNS_WAKE_STAT_RUN = true))) = true := by decide +kernel
    split at key
    · rename_i b h e0
      have k := of_decide_eq_true key
      exact ⟨(Wit.hw (fun h => h.put R.SNS_WAKE_STAT_RUN 1)), ([] : List Nat), b, h, k, e0⟩
  · exact ⟨State.reset, by decide +kernel⟩

theorem wit_SignalRuns :
    (∃ (s : State) (k : Nat) (x : SigTrig) (l : List SigTrig), s.hw.sysUp = true ∧ (s.hw.core k).inq = x :: l ∧
      s.hw.sstate k = 1) ∧
    (∃ (s : State) (k : Nat) (x : SigTrig) (l : List SigTrig), s.hw.sysUp = true ∧ k < 16 ∧ (s.hw.core k).inq = x :: l
      ∧ s.hw.sstate k = 2 ∧ s.hw.get (R.SIG_CORE_TRIG_POLICY k) = 0 ∧ (s.hw.core k).pend = none) ∧
    (∃ (s : State) (k : Nat) (x : SigTrig) (y : SigTrig) (l : List SigTrig), s.hw.sysUp = true ∧ k < 16 ∧ (s.hw.core
      k).inq = x :: l ∧ s.hw.sstate k = 2 ∧ s.hw.get (R.SIG_CORE_TRIG_POLICY k) = 0 ∧ (s.hw.core k).pend = some y) ∧
    (∃ (s : State) (k : Nat) (x : SigTrig) (l : List SigTrig), s.hw.sysUp = true ∧ (s.hw.core k).inq = x :: l ∧
      s.hw.sstate k = 2 ∧ s.hw.get (R.SIG_CORE_TRIG_POLICY k) = 1) ∧
    (∃ (k : Nat), k < 16) ∧
    (∃ (s : State) (k : Nat) (x : SigTrig) (l : List SigTrig), s.hw.sysUp = true ∧ (s.hw.core k).inq = x :: l ∧
      s.hw.sstate k = 2 ∧ 2 ≤ s.hw.get (R.SIG_CORE_TRIG_POLICY k)) ∧
    (∃ (s : State) (k : Nat), k < 16 ∧ s.hw.blkDown .sig R.SIG_SOFT = false ∧ s.hw.get (R.SIG_CORE_TRIG_TRIG k) = 1) ∧
    (∃ (s : State) (k : Nat), s.hw.sysUp = true ∧ s.hw.sstate k = 2 ∧ (s.hw.core k).halted = true ∧ (s.hw.core
      k).xfers = [] ∧ (s.hw.core k).xerr = false) ∧
    (∃ (s : State) (k : Nat), s.hw.sysUp = true ∧ s.hw.sstate k = 2 ∧ (s.hw.core k).halted = true ∧ (s.hw.core
      k).xfers = [] ∧ (s.hw.core k).xerr = true) ∧
    (∃ (s : State) (tag : Nat) (k : Nat) (x : SigXfer) (a : Arrived) (h : Hw), s.hw.sysUp = true ∧ (List.range
      16).find? (fun c => (s.hw.core c).xfers.any (fun y => y.reqs.any (fun q => q.tag == tag))) = some k ∧ (s.hw.core
      k).xfers = [x] ∧ x.kind ≠ .get ∧ s.hw.takeRsp 643 tag = some (a, h) ∧ a.status = 0 ∧ a.poison.all (fun b => !b)
      = true) ∧
    (∃ (s : State) (k : Nat), k < 16 ∧ s.hw.blkDown .sig (R.SIG_CORE_MDATA k) = false ∧ s.hw.get (R.SIG_CORE_MADDR_MEM
      k) ≠ 0 ∧ s.hw.get (R.SIG_CORE_MADDR_WORD k) < sigWords (s.hw.get (R.SIG_CORE_MADDR_MEM k))) ∧
    (∃ (s : State) (k : Nat), k < 16 ∧ s.hw.blkDown .sig (R.SIG_CORE_MDATA k) = false) := by
  refine ⟨?_, ?_, ?_, ?_, ?_, ?_, ?_, ?_, ?_, ?_, ?_, ?_⟩
  · exact ⟨Wit.hw (fun h => (h.setSstate 15 1).setCore 15 { SigCore.reset with inq := [⟨5, 6⟩] }), 15, ⟨5, 6⟩, [],
      by decide +kernel⟩
  · exact ⟨Wit.hw (fun h => (h.setSstate 15 2).setCore 15 { SigCore.reset with inq := [⟨5, 6⟩] }), 15, ⟨5, 6⟩, [],
      by decide +kernel⟩
  · exact ⟨Wit.hw (fun h => (h.setSstate 15 2).setCore 15 { SigCore.reset with inq := [⟨1, 2⟩], pend := some ⟨0, 0⟩ }), 15,
      ⟨1, 2⟩, ⟨0, 0⟩, [], by decide +kernel⟩
  · exact ⟨Wit.hw (fun h => ((h.setSstate 15 2).setCore 15 { SigCore.reset with inq := [⟨1, 2⟩] }).put
      (R.SIG_CORE_TRIG_POLICY 15) 1), 15, ⟨1, 2⟩, [], by decide +kernel⟩
  · exact ⟨15, by decide +kernel⟩
  · exact ⟨Wit.hw (fun h => ((h.setSstate 15 2).put (R.SIG_CORE_TRIG_POLICY 15) 2).setCore 15
      { SigCore.reset with inq := [⟨5, 6⟩] }), 15, ⟨5, 6⟩, [], by decide +kernel⟩
  · exact ⟨Wit.hw (fun h => h.put (R.SIG_CORE_TRIG_TRIG 15) 1), 15, by decide +kernel⟩
  · exact ⟨Wit.hw (fun h => (h.setSstate 15 2).setCore 15 { SigCore.reset with halted := true }), 15,
      by decide +kernel⟩
  · exact ⟨Wit.hw (fun h => (h.setSstate 15 2).setCore 15 { SigCore.reset with halted := true, xerr := true }), 15, by decide +kernel⟩
  · have key : (match (Wit.hw (fun h => { (h.setCore 15 { SigCore.reset with xfers := [⟨.put, 1, 0, 0, false, [⟨7, 0, 1⟩]⟩] }) with noc := { h.noc with inbox := [⟨643, 7, 0, [], []⟩] } })).hw.takeRsp 643 7 with | some (a, h) => decide (((Wit.hw (fun h => { (h.setCore 15 { SigCore.reset with xfers := [⟨.put, 1, 0, 0, false, [⟨7, 0, 1⟩]⟩] }) with noc := { h.noc with inbox := [⟨643, 7, 0, [], []⟩] } })).hw.sysUp = true) ∧ ((List.range 16).find? (fun c => ((Wit.hw (fun h => { (h.setCore 15 { SigCore.reset with xfers := [⟨.put, 1, 0, 0, false, [⟨7, 0, 1⟩]⟩] }) with noc := { h.noc with inbox := [⟨643, 7, 0, [], []⟩] } })).hw.core c).xfers.any (fun y => y.reqs.any (fun q => q.tag == 7))) = some 15) ∧ (((Wit.hw (fun h => { (h.setCore 15 { SigCore.reset with xfers := [⟨.put, 1, 0, 0, false, [⟨7, 0, 1⟩]⟩] }) with noc := { h.noc with inbox := [⟨643, 7, 0, [], []⟩] } })).hw.core 15).xfers = [(⟨.put, 1, 0, 0, false, [⟨7, 0, 1⟩]⟩ : SigXfer)]) ∧ ((⟨.put, 1, 0, 0, false, [⟨7, 0, 1⟩]⟩ : SigXfer).kind ≠ .get) ∧ (a.status = 0) ∧ (a.poison.all (fun b => !b) = true)) | _ => false) = true := by decide +kernel
    split at key
    · rename_i a h e0
      have k := of_decide_eq_true key
      exact ⟨(Wit.hw (fun h => { (h.setCore 15 { SigCore.reset with xfers := [⟨.put, 1, 0, 0, false, [⟨7, 0, 1⟩]⟩] }) with noc := { h.noc with inbox := [⟨643, 7, 0, [], []⟩] } })), 7, 15, (⟨.put, 1, 0, 0, false, [⟨7, 0, 1⟩]⟩ : SigXfer), a, h, k.1, k.2.1, k.2.2.1, k.2.2.2.1, e0, k.2.2.2.2.1, k.2.2.2.2.2⟩
    · cases key
  · exact ⟨Wit.hw (fun h => (h.put (R.SIG_CORE_MADDR_MEM 15) 1).put (R.SIG_CORE_MADDR_WORD 15) 8191), 15,
      by decide +kernel⟩
  · exact ⟨State.reset, 15, by decide +kernel⟩

theorem wit_SignalArithmetic :
    (∃ (s : State) (k : Nat) (w : Nat), s.hw.sysUp = true ∧ s.hw.sstate k = 2 ∧ (s.hw.core k).halted = false ∧
      (s.hw.core k).stops = [] ∧ (s.hw.core k).pc ≤ 2047 ∧ w = (s.hw.core k).instr ∧ iIllegal w = false ∧ iOP w = 0x01
      ∧ w < 2 ^ 24) ∧
    (∃ (s : State) (k : Nat) (w : Nat), s.hw.sysUp = true ∧ s.hw.sstate k = 2 ∧ (s.hw.core k).halted = false ∧
      (s.hw.core k).stops = [] ∧ (s.hw.core k).pc ≤ 2047 ∧ w = (s.hw.core k).instr ∧ iIllegal w = false ∧ iOP w = 0x02
      ∧ w < 2 ^ 24) ∧
    (∃ (s : State) (k : Nat) (w : Nat), s.hw.sysUp = true ∧ s.hw.sstate k = 2 ∧ (s.hw.core k).halted = false ∧
      (s.hw.core k).stops = [] ∧ (s.hw.core k).pc ≤ 2047 ∧ w = (s.hw.core k).instr ∧ iIllegal w = false ∧ iOP w = 0x03
      ∧ w < 2 ^ 24) ∧
    (∃ (s : State) (k : Nat) (w : Nat), s.hw.sysUp = true ∧ s.hw.sstate k = 2 ∧ (s.hw.core k).halted = false ∧
      (s.hw.core k).stops = [] ∧ (s.hw.core k).pc ≤ 2047 ∧ w = (s.hw.core k).instr ∧ iIllegal w = false ∧ iOP w = 0x04
      ∧ w < 2 ^ 24) ∧
    (∃ (s : State) (k : Nat) (w : Nat), s.hw.sysUp = true ∧ s.hw.sstate k = 2 ∧ (s.hw.core k).halted = false ∧
      (s.hw.core k).stops = [] ∧ (s.hw.core k).pc ≤ 2047 ∧ w = (s.hw.core k).instr ∧ iIllegal w = false ∧ iOP w = 0x05
      ∧ w < 2 ^ 24) ∧
    (∃ (s : State) (k : Nat) (w : Nat), s.hw.sysUp = true ∧ s.hw.sstate k = 2 ∧ (s.hw.core k).halted = false ∧
      (s.hw.core k).stops = [] ∧ (s.hw.core k).pc ≤ 2047 ∧ w = (s.hw.core k).instr ∧ iIllegal w = false ∧ iOP w = 0x08
      ∧ w < 2 ^ 24) ∧
    (∃ (s : State) (k : Nat) (w : Nat), s.hw.sysUp = true ∧ s.hw.sstate k = 2 ∧ (s.hw.core k).halted = false ∧
      (s.hw.core k).stops = [] ∧ (s.hw.core k).pc ≤ 2047 ∧ w = (s.hw.core k).instr ∧ iIllegal w = false ∧ iOP w = 0x09
      ∧ w < 2 ^ 24) ∧
    (∃ (s : State) (k : Nat) (w : Nat), s.hw.sysUp = true ∧ s.hw.sstate k = 2 ∧ (s.hw.core k).halted = false ∧
      (s.hw.core k).stops = [] ∧ (s.hw.core k).pc ≤ 2047 ∧ w = (s.hw.core k).instr ∧ iIllegal w = false ∧ iOP w = 0x0C
      ∧ w < 2 ^ 24) ∧
    (∃ (s : State) (k : Nat) (w : Nat), s.hw.sysUp = true ∧ s.hw.sstate k = 2 ∧ (s.hw.core k).halted = false ∧
      (s.hw.core k).stops = [] ∧ (s.hw.core k).pc ≤ 2047 ∧ w = (s.hw.core k).instr ∧ iIllegal w = false ∧ iOP w = 0x0D
      ∧ w < 2 ^ 24) ∧
    (∃ (s : State) (k : Nat) (w : Nat), s.hw.sysUp = true ∧ s.hw.sstate k = 2 ∧ (s.hw.core k).halted = false ∧
      (s.hw.core k).stops = [] ∧ (s.hw.core k).pc ≤ 2047 ∧ w = (s.hw.core k).instr ∧ iIllegal w = false ∧ iOP w = 0x0E
      ∧ w < 2 ^ 24) ∧
    (∃ (s : State) (k : Nat) (w : Nat), s.hw.sysUp = true ∧ s.hw.sstate k = 2 ∧ (s.hw.core k).halted = false ∧
      (s.hw.core k).stops = [] ∧ (s.hw.core k).pc ≤ 2047 ∧ w = (s.hw.core k).instr ∧ iIllegal w = false ∧ iOP w = 0x06
      ∧ w < 2 ^ 24) ∧
    (∃ (s : State) (k : Nat) (w : Nat), s.hw.sysUp = true ∧ s.hw.sstate k = 2 ∧ (s.hw.core k).halted = false ∧
      (s.hw.core k).stops = [] ∧ (s.hw.core k).pc ≤ 2047 ∧ w = (s.hw.core k).instr ∧ iIllegal w = false ∧ iOP w = 0x07
      ∧ w < 2 ^ 24) ∧
    (∃ (s : State) (k : Nat) (w : Nat), s.hw.sysUp = true ∧ s.hw.sstate k = 2 ∧ (s.hw.core k).halted = false ∧
      (s.hw.core k).stops = [] ∧ (s.hw.core k).pc ≤ 2047 ∧ w = (s.hw.core k).instr ∧ iIllegal w = false ∧ iOP w = 0x0B
      ∧ w < 2 ^ 24) ∧
    (∃ (s : State) (k : Nat) (w : Nat), s.hw.sysUp = true ∧ s.hw.sstate k = 2 ∧ (s.hw.core k).halted = false ∧
      (s.hw.core k).stops = [] ∧ (s.hw.core k).pc ≤ 2047 ∧ w = (s.hw.core k).instr ∧ iIllegal w = false ∧ iOP w = 0x0A
      ∧ w < 2 ^ 24) ∧
    (∃ (s : State) (k : Nat) (w : Nat), s.hw.sysUp = true ∧ s.hw.sstate k = 2 ∧ (s.hw.core k).halted = false ∧
      (s.hw.core k).stops = [] ∧ (s.hw.core k).pc ≤ 2047 ∧ w = (s.hw.core k).instr ∧ iIllegal w = false ∧ iOP w = 0x00
      ∧ w < 2 ^ 24) ∧
    (∃ (s : State) (k : Nat) (w : Nat), s.hw.sysUp = true ∧ s.hw.sstate k = 2 ∧ (s.hw.core k).halted = false ∧
      (s.hw.core k).stops = [] ∧ (s.hw.core k).pc ≤ 2047 ∧ w = (s.hw.core k).instr ∧ iIllegal w = false ∧ iOP w = 0x01
      ∧ (s.hw.core k).cRange w = false) := by
  refine ⟨?_, ?_, ?_, ?_, ?_, ?_, ?_, ?_, ?_, ?_, ?_, ?_, ?_, ?_, ?_, ?_⟩
  · exact ⟨Wit.sig 15 0x01 (fun c => c), 15, 0x01, by decide +kernel⟩
  · exact ⟨Wit.sig 15 0x02 (fun c => c), 15, 0x02, by decide +kernel⟩
  · exact ⟨Wit.sig 15 0x03 (fun c => c), 15, 0x03, by decide +kernel⟩
  · exact ⟨Wit.sig 15 0x04 (fun c => c), 15, 0x04, by decide +kernel⟩
  · exact ⟨Wit.sig 15 0x05 (fun c => c), 15, 0x05, by decide +kernel⟩
  · exact ⟨Wit.sig 15 0x08 (fun c => c), 15, 0x08, by decide +kernel⟩
  · exact ⟨Wit.sig 15 0x09 (fun c => c), 15, 0x09, by decide +kernel⟩
  · exact ⟨Wit.sig 15 0x0C (fun c => c), 15, 0x0C, by decide +kernel⟩
  · exact ⟨Wit.sig 15 0x0D (fun c => c), 15, 0x0D, by decide +kernel⟩
  · exact ⟨Wit.sig 15 0x0E (fun c => c), 15, 0x0E, by decide +kernel⟩
  · exact ⟨Wit.sig 15 0x06 (fun c => c), 15, 0x06, by decide +kernel⟩
  · exact ⟨Wit.sig 15 0x07 (fun c => c), 15, 0x07, by decide +kernel⟩
  · exact ⟨Wit.sig 15 0x0B (fun c => c), 15, 0x0B, by decide +kernel⟩
  · exact ⟨Wit.sig 15 0x0A (fun c => c), 15, 0x0A, by decide +kernel⟩
  · exact ⟨Wit.sig 15 0 (fun c => c), 15, 0, by decide +kernel⟩
  · exact ⟨Wit.sig 15 (1 + 33 * 2 ^ 24) (fun c => c), 15, 1 + 33 * 2 ^ 24, by decide +kernel⟩

theorem wit_SignalIntegersAndControl :
    (∃ (s : State) (k : Nat) (w : Nat), s.hw.sysUp = true ∧ s.hw.sstate k = 2 ∧ (s.hw.core k).halted = false ∧
      (s.hw.core k).stops = [] ∧ (s.hw.core k).pc ≤ 2047 ∧ w = (s.hw.core k).instr ∧ iIllegal w = false ∧ iOP w =
      0x20) ∧
    (∃ (s : State) (k : Nat) (w : Nat), s.hw.sysUp = true ∧ s.hw.sstate k = 2 ∧ (s.hw.core k).halted = false ∧
      (s.hw.core k).stops = [] ∧ (s.hw.core k).pc ≤ 2047 ∧ w = (s.hw.core k).instr ∧ iIllegal w = false ∧ iOP w =
      0x21) ∧
    (∃ (s : State) (k : Nat) (w : Nat), s.hw.sysUp = true ∧ s.hw.sstate k = 2 ∧ (s.hw.core k).halted = false ∧
      (s.hw.core k).stops = [] ∧ (s.hw.core k).pc ≤ 2047 ∧ w = (s.hw.core k).instr ∧ iIllegal w = false ∧ iOP w =
      0x22) ∧
    (∃ (s : State) (k : Nat) (w : Nat), s.hw.sysUp = true ∧ s.hw.sstate k = 2 ∧ (s.hw.core k).halted = false ∧
      (s.hw.core k).stops = [] ∧ (s.hw.core k).pc ≤ 2047 ∧ w = (s.hw.core k).instr ∧ iIllegal w = false ∧ iOP w =
      0x23) ∧
    (∃ (s : State) (k : Nat) (w : Nat), s.hw.sysUp = true ∧ s.hw.sstate k = 2 ∧ (s.hw.core k).halted = false ∧
      (s.hw.core k).stops = [] ∧ (s.hw.core k).pc ≤ 2047 ∧ w = (s.hw.core k).instr ∧ iIllegal w = false ∧ iOP w =
      0x24) ∧
    (∃ (s : State) (k : Nat) (w : Nat), s.hw.sysUp = true ∧ s.hw.sstate k = 2 ∧ (s.hw.core k).halted = false ∧
      (s.hw.core k).stops = [] ∧ (s.hw.core k).pc ≤ 2047 ∧ w = (s.hw.core k).instr ∧ iIllegal w = false ∧ iOP w =
      0x25) ∧
    (∃ (s : State) (k : Nat) (w : Nat), s.hw.sysUp = true ∧ s.hw.sstate k = 2 ∧ (s.hw.core k).halted = false ∧
      (s.hw.core k).stops = [] ∧ (s.hw.core k).pc ≤ 2047 ∧ w = (s.hw.core k).instr ∧ iIllegal w = false ∧ iOP w =
      0x26) ∧
    (∃ (s : State) (k : Nat) (w : Nat), s.hw.sysUp = true ∧ s.hw.sstate k = 2 ∧ (s.hw.core k).halted = false ∧
      (s.hw.core k).stops = [] ∧ (s.hw.core k).pc ≤ 2047 ∧ w = (s.hw.core k).instr ∧ iIllegal w = false ∧ iOP w =
      0x2A) ∧
    (∃ (s : State) (k : Nat) (w : Nat), s.hw.sysUp = true ∧ s.hw.sstate k = 2 ∧ (s.hw.core k).halted = false ∧
      (s.hw.core k).stops = [] ∧ (s.hw.core k).pc ≤ 2047 ∧ w = (s.hw.core k).instr ∧ iIllegal w = false ∧ iOP w =
      0x27) ∧
    (∃ (s : State) (k : Nat) (w : Nat), s.hw.sysUp = true ∧ s.hw.sstate k = 2 ∧ (s.hw.core k).halted = false ∧
      (s.hw.core k).stops = [] ∧ (s.hw.core k).pc ≤ 2047 ∧ w = (s.hw.core k).instr ∧ iIllegal w = false ∧ iOP w =
      0x28) ∧
    (∃ (s : State) (k : Nat) (w : Nat), s.hw.sysUp = true ∧ s.hw.sstate k = 2 ∧ (s.hw.core k).halted = false ∧
      (s.hw.core k).stops = [] ∧ (s.hw.core k).pc ≤ 2047 ∧ w = (s.hw.core k).instr ∧ iIllegal w = false ∧ iOP w =
      0x29) ∧
    (∃ (s : State) (k : Nat) (w : Nat) (c : SigCore), s.hw.sysUp = true ∧ s.hw.sstate k = 2 ∧ (s.hw.core k).halted =
      false ∧ (s.hw.core k).stops = [] ∧ (s.hw.core k).pc ≤ 2047 ∧ w = (s.hw.core k).instr ∧ iIllegal w = false ∧ iOP
      w = 0x40 ∧ (s.hw.core k).loop w = some c) ∧
    (∃ (s : State) (k : Nat) (w : Nat), s.hw.sysUp = true ∧ s.hw.sstate k = 2 ∧ (s.hw.core k).halted = false ∧
      (s.hw.core k).stops = [] ∧ (s.hw.core k).pc ≤ 2047 ∧ w = (s.hw.core k).instr ∧ iIllegal w = false ∧ iOP w =
      0x41) ∧
    (∃ (s : State) (k : Nat) (w : Nat), s.hw.sysUp = true ∧ s.hw.sstate k = 2 ∧ (s.hw.core k).halted = false ∧
      (s.hw.core k).stops = [] ∧ (s.hw.core k).pc ≤ 2047 ∧ w = (s.hw.core k).instr ∧ iIllegal w = false ∧ iOP w =
      0x42) ∧
    (∃ (s : State) (k : Nat) (w : Nat), s.hw.sysUp = true ∧ s.hw.sstate k = 2 ∧ (s.hw.core k).halted = false ∧
      (s.hw.core k).stops = [] ∧ (s.hw.core k).pc ≤ 2047 ∧ w = (s.hw.core k).instr ∧ iIllegal w = false ∧ iOP w = 0x43
      ∧ (s.hw.core k).stack.length < 4) ∧
    (∃ (s : State) (k : Nat) (w : Nat) (r : Nat) (l : List Nat), s.hw.sysUp = true ∧ s.hw.sstate k = 2 ∧ (s.hw.core
      k).halted = false ∧ (s.hw.core k).stops = [] ∧ (s.hw.core k).pc ≤ 2047 ∧ w = (s.hw.core k).instr ∧ iIllegal w =
      false ∧ iOP w = 0x44 ∧ (s.hw.core k).stack = r :: l) ∧
    (∃ (s : State) (k : Nat) (w : Nat), s.hw.sysUp = true ∧ s.hw.sstate k = 2 ∧ (s.hw.core k).halted = false ∧
      (s.hw.core k).stops = [] ∧ (s.hw.core k).pc ≤ 2047 ∧ w = (s.hw.core k).instr ∧ iIllegal w = false ∧ iOP w = 0x44
      ∧ (s.hw.core k).stack = []) ∧
    (∃ (s : State) (k : Nat) (w : Nat), s.hw.sysUp = true ∧ s.hw.sstate k = 2 ∧ (s.hw.core k).halted = false ∧
      (s.hw.core k).stops = [] ∧ (s.hw.core k).pc ≤ 2047 ∧ w = (s.hw.core k).instr ∧ iIllegal w = false ∧ iOP w = 0x45
      ∧ (s.hw.core k).xerr = false) ∧
    (∃ (s : State) (k : Nat) (w : Nat), s.hw.sysUp = true ∧ s.hw.sstate k = 2 ∧ (s.hw.core k).halted = false ∧
      (s.hw.core k).stops = [] ∧ (s.hw.core k).pc ≤ 2047 ∧ w = (s.hw.core k).instr ∧ iIllegal w = false ∧ iOP w = 0x46
      ∧ (s.hw.core k).xfers = [] ∧ (s.hw.core k).xerr = false) ∧
    (∃ (s : State) (k : Nat) (w : Nat) (a : Nat) (n : Nat) (m : Nat) (l : List SigReq) (h : Hw), s.hw.sysUp = true ∧
      s.hw.sstate k = 2 ∧ (s.hw.core k).halted = false ∧ (s.hw.core k).stops = [] ∧ (s.hw.core k).pc ≤ 2047 ∧ w =
      (s.hw.core k).instr ∧ iIllegal w = false ∧ iOP w = 0x60 ∧ a = ((s.hw.core k).rr (iA w)) % 2 ^ 48 ∧ a % 4 = 0 ∧
      (s.hw.core k).xfers.length < 8 ∧ n = (if bits (iIMM w) 11 0 = 0 then 4096 else bits (iIMM w) 11 0) ∧ m = bits
      (iIMM w) 13 12 ∧ (s.hw.core k).ar (iB w) + n ≤ sigWords m ∧ (s.hw.noc.outst.filter (fun o => o.node ==
      643)).length + (pieces a (4 * n)).length ≤ 4096 ∧ s.hw.sigSend k false m a ((s.hw.core k).ar (iB w)) n = (l, h)) ∧
    (∃ (s : State) (k : Nat) (w : Nat) (a : Nat) (n : Nat) (m : Nat) (l : List SigReq) (h : Hw), s.hw.sysUp = true ∧
      s.hw.sstate k = 2 ∧ (s.hw.core k).halted = false ∧ (s.hw.core k).stops = [] ∧ (s.hw.core k).pc ≤ 2047 ∧ w =
      (s.hw.core k).instr ∧ iIllegal w = false ∧ iOP w = 0x61 ∧ a = ((s.hw.core k).rr (iA w)) % 2 ^ 48 ∧ a % 4 = 0 ∧
      (s.hw.core k).xfers.length < 8 ∧ n = (if bits (iIMM w) 11 0 = 0 then 4096 else bits (iIMM w) 11 0) ∧ m = bits
      (iIMM w) 13 12 ∧ (s.hw.core k).ar (iB w) + n ≤ sigWords m ∧ (s.hw.noc.outst.filter (fun o => o.node ==
      643)).length + (pieces a (4 * n)).length ≤ 4096 ∧ s.hw.sigSend k true m a ((s.hw.core k).ar (iB w)) n = (l, h)) ∧
    (∃ (s : State) (k : Nat) (w : Nat) (a : Nat), s.hw.sysUp = true ∧ s.hw.sstate k = 2 ∧ (s.hw.core k).halted = false
      ∧ (s.hw.core k).stops = [] ∧ (s.hw.core k).pc ≤ 2047 ∧ w = (s.hw.core k).instr ∧ iIllegal w = false ∧ iOP w =
      0x62 ∧ a = ((s.hw.core k).rr (iA w)) % 2 ^ 48 ∧ a % 4 = 0 ∧ (s.hw.core k).xfers.length < 8) ∧
    (∃ (s : State) (k : Nat) (w : Nat), s.hw.sysUp = true ∧ s.hw.sstate k = 2 ∧ (s.hw.core k).halted = false ∧
      (s.hw.core k).stops = [] ∧ (s.hw.core k).pc ≤ 2047 ∧ w = (s.hw.core k).instr ∧ iIllegal w = false ∧ iOP w = 0x60
      ∧ (s.hw.core k).rr (iA w) % 2 ^ 48 % 4 ≠ 0 ∧ (s.hw.core k).xfers.length < 8) ∧
    (∃ (s : State) (k : Nat) (w : Nat), s.hw.sysUp = true ∧ s.hw.sstate k = 2 ∧ (s.hw.core k).halted = false ∧
      (s.hw.core k).stops = [] ∧ (s.hw.core k).pc ≤ 2047 ∧ w = (s.hw.core k).instr ∧ iIllegal w = false ∧ iOP w = 0x61
      ∧ (s.hw.core k).rr (iA w) % 2 ^ 48 % 4 ≠ 0 ∧ (s.hw.core k).xfers.length < 8) ∧
    (∃ (s : State) (k : Nat) (w : Nat), s.hw.sysUp = true ∧ s.hw.sstate k = 2 ∧ (s.hw.core k).halted = false ∧
      (s.hw.core k).stops = [] ∧ (s.hw.core k).pc ≤ 2047 ∧ w = (s.hw.core k).instr ∧ iIllegal w = false ∧ iOP w = 0x62
      ∧ (s.hw.core k).rr (iA w) % 2 ^ 48 % 4 ≠ 0 ∧ (s.hw.core k).xfers.length < 8) ∧
    (∃ (s : State) (k : Nat) (w : Nat), s.hw.sysUp = true ∧ s.hw.sstate k = 2 ∧ (s.hw.core k).halted = false ∧
      (s.hw.core k).stops = [] ∧ (s.hw.core k).pc ≤ 2047 ∧ w = (s.hw.core k).instr ∧ iIllegal w = false ∧ iOP w = 0x40
      ∧ (s.hw.core k).loop w = none) ∧
    (∃ (s : State) (k : Nat) (w : Nat) (n : Nat), s.hw.sysUp = true ∧ s.hw.sstate k = 2 ∧ (s.hw.core k).halted = false
      ∧ (s.hw.core k).stops = [] ∧ (s.hw.core k).pc ≤ 2047 ∧ w = (s.hw.core k).instr ∧ iIllegal w = false ∧ iOP w =
      0x40 ∧ (s.hw.core k).loops = [] ∧ n = (if bit (iIMM w) 35 = true then (s.hw.core k).rr (iA w) % 2 ^ 32 else bits
      (iIMM w) 15 0) ∧ n ≠ 0) ∧
    (∃ (s : State) (k : Nat) (w : Nat) (n : Nat), s.hw.sysUp = true ∧ s.hw.sstate k = 2 ∧ (s.hw.core k).halted = false
      ∧ (s.hw.core k).stops = [] ∧ (s.hw.core k).pc ≤ 2047 ∧ w = (s.hw.core k).instr ∧ iIllegal w = false ∧ iOP w =
      0x40 ∧ (s.hw.core k).loops = [] ∧ n = (if bit (iIMM w) 35 = true then (s.hw.core k).rr (iA w) % 2 ^ 32 else bits
      (iIMM w) 15 0) ∧ n = 0) ∧
    (∃ (s : State) (k : Nat) (w : Nat), s.hw.sysUp = true ∧ s.hw.sstate k = 2 ∧ (s.hw.core k).halted = false ∧
      (s.hw.core k).stops = [] ∧ (s.hw.core k).pc ≤ 2047 ∧ w = (s.hw.core k).instr ∧ iIllegal w = false ∧ iOP w = 0x43
      ∧ 4 ≤ (s.hw.core k).stack.length) ∧
    (∃ (s : State) (k : Nat) (w : Nat), s.hw.sysUp = true ∧ s.hw.sstate k = 2 ∧ (s.hw.core k).halted = false ∧
      (s.hw.core k).stops = [] ∧ (s.hw.core k).pc ≤ 2047 ∧ w = (s.hw.core k).instr ∧ iIllegal w = false ∧ iOP w = 0x46
      ∧ (s.hw.core k).xfers ≠ []) := by
  refine ⟨?_, ?_, ?_, ?_, ?_, ?_, ?_, ?_, ?_, ?_, ?_, ?_, ?_, ?_, ?_, ?_, ?_, ?_, ?_, ?_, ?_, ?_, ?_, ?_, ?_, ?_, ?_, ?_, ?_, ?_⟩
  · exact ⟨Wit.sig 15 0x20 (fun c => c), 15, 0x20, by decide +kernel⟩
  · exact ⟨Wit.sig 15 0x21 (fun c => c), 15, 0x21, by decide +kernel⟩
  · exact ⟨Wit.sig 15 0x22 (fun c => c), 15, 0x22, by decide +kernel⟩
  · exact ⟨Wit.sig 15 0x23 (fun c => c), 15, 0x23, by decide +kernel⟩
  · exact ⟨Wit.sig 15 0x24 (fun c => c), 15, 0x24, by decide +kernel⟩
  · exact ⟨Wit.sig 15 0x25 (fun c => c), 15, 0x25, by decide +kernel⟩
  · exact ⟨Wit.sig 15 0x26 (fun c => c), 15, 0x26, by decide +kernel⟩
  · exact ⟨Wit.sig 15 0x2A (fun c => c), 15, 0x2A, by decide +kernel⟩
  · exact ⟨Wit.sig 15 0x27 (fun c => c), 15, 0x27, by decide +kernel⟩
  · exact ⟨Wit.sig 15 (0x28 + 2 ^ 37) (fun c => c), 15, 0x28 + 2 ^ 37, by decide +kernel⟩
  · exact ⟨Wit.sig 15 0x29 (fun c => c), 15, 0x29, by decide +kernel⟩
  · have key : (match ((Wit.sig 15 (0x40 + 2 ^ 40) (fun c => c)).hw.core 15).loop (0x40 + 2 ^ 40 : Nat) with | some c => decide (((Wit.sig 15 (0x40 + 2 ^ 40) (fun c => c)).hw.sysUp = true) ∧ ((Wit.sig 15 (0x40 + 2 ^ 40) (fun c => c)).hw.sstate 15 = 2) ∧ (((Wit.sig 15 (0x40 + 2 ^ 40) (fun c => c)).hw.core 15).halted = false) ∧ (((Wit.sig 15 (0x40 + 2 ^ 40) (fun c => c)).hw.core 15).stops = []) ∧ (((Wit.sig 15 (0x40 + 2 ^ 40) (fun c => c)).hw.core 15).pc ≤ 2047) ∧ ((0x40 + 2 ^ 40 : Nat) = ((Wit.sig 15 (0x40 + 2 ^ 40) (fun c => c)).hw.core 15).instr) ∧ (iIllegal (0x40 + 2 ^ 40 : Nat) = false) ∧ (iOP (0x40 + 2 ^ 40 : Nat) = 0x40)) | _ => false) = true := by decide +kernel
    split at key
    · rename_i c e0
      have k := of_decide_eq_true key
      exact ⟨(Wit.sig 15 (0x40 + 2 ^ 40) (fun c => c)), 15, (0x40 + 2 ^ 40 : Nat), c, k.1, k.2.1, k.2.2.1, k.2.2.2.1, k.2.2.2.2.1, k.2.2.2.2.2.1, k.2.2.2.2.2.2.1, k.2.2.2.2.2.2.2, e0⟩
    · cases key
  · exact ⟨Wit.sig 15 0x41 (fun c => c), 15, 0x41, by decide +kernel⟩
  · exact ⟨Wit.sig 15 (0x42 + 2047 * 2 ^ 24) (fun c => c), 15, 0x42 + 2047 * 2 ^ 24, by decide +kernel⟩
  · exact ⟨Wit.sig 15 0x43 (fun c => { c with stack := [1, 2, 3] }), 15, 0x43, by decide +kernel⟩
  · exact ⟨Wit.sig 15 0x44 (fun c => { c with stack := [1] }), 15, 0x44, 1, [], by decide +kernel⟩
  · exact ⟨Wit.sig 15 0x44 (fun c => c), 15, 0x44, by decide +kernel⟩
  · exact ⟨Wit.sig 15 0x45 (fun c => c), 15, 0x45, by decide +kernel⟩
  · exact ⟨Wit.sig 15 0x46 (fun c => c), 15, 0x46, by decide +kernel⟩
  · exact ⟨(Wit.sig 15 (0x60 + (1 + 4096) * 2 ^ 24) (fun c => c)), 15, 0x60 + (1 + 4096) * 2 ^ 24, 0, 1, 1, _, _, by decide +kernel, by decide +kernel, by decide +kernel, by decide +kernel, by decide +kernel, by decide +kernel, by decide +kernel, by decide +kernel, by decide +kernel, by decide +kernel, by decide +kernel, by decide +kernel, by decide +kernel, by decide +kernel, by decide +kernel, (Prod.eta _).symm⟩
  · exact ⟨(Wit.sig 15 (0x61 + (1 + 4096) * 2 ^ 24) (fun c => c)), 15, 0x61 + (1 + 4096) * 2 ^ 24, 0, 1, 1, _, _, by decide +kernel, by decide +kernel, by decide +kernel, by decide +kernel, by decide +kernel, by decide +kernel, by decide +kernel, by decide +kernel, by decide +kernel, by decide +kernel, by decide +kernel, by decide +kernel, by decide +kernel, by decide +kernel, by decide +kernel, (Prod.eta _).symm⟩
  · exact ⟨Wit.sig 15 0x62 (fun c => c), 15, 0x62, 0, by decide +kernel⟩
  · exact ⟨Wit.sig 15 (0x60 + (1 + 4096) * 2 ^ 24) (fun c => { c with r := [(0, 2)] }), 15, 0x60 + (1 + 4096) * 2 ^ 24, by decide +kernel⟩
  · exact ⟨Wit.sig 15 (0x61 + (1 + 4096) * 2 ^ 24) (fun c => { c with r := [(0, 2)] }), 15, 0x61 + (1 + 4096) * 2 ^ 24, by decide +kernel⟩
  · exact ⟨Wit.sig 15 (0x62) (fun c => { c with r := [(0, 2)] }), 15, 0x62, by decide +kernel⟩
  · exact ⟨Wit.sig 15 (0x40 + 2 ^ 40) (fun c => { c with loops := [⟨0, 1, 1⟩, ⟨0, 2, 1⟩, ⟨0, 3, 1⟩] }), 15, 0x40 + 2 ^ 40, by decide +kernel⟩
  · exact ⟨Wit.sig 15 (0x40 + 2 ^ 24 + 2 ^ 40) (fun c => c), 15, 0x40 + 2 ^ 24 + 2 ^ 40, 1, by decide +kernel⟩
  · exact ⟨Wit.sig 15 (0x40 + 2 ^ 40) (fun c => c), 15, 0x40 + 2 ^ 40, 0, by decide +kernel⟩
  · exact ⟨Wit.sig 15 (0x43) (fun c => { c with stack := [1, 2, 3, 4] }), 15, 0x43, by decide +kernel⟩
  · exact ⟨Wit.sig 15 (0x46) (fun c => { c with xfers := [⟨.get, 1, 0, 0, false, [⟨0, 0, 1⟩]⟩] }), 15, 0x46, by decide +kernel⟩

theorem wit_FrameEntries :
    (∃ (s : State) (far : Memory) (f : GFrame) (bs : List Byte) (h : Hw) (g : Hw) (p : GPass), s.hw.coreUp = true ∧
      s.hw.entryFor 1 = some f ∧ f.pass = none ∧ entryOk f.ent = true ∧ s.hw.gfxRead (leAt f.ent 8 8) 256 far = some
      (0, bs, h) ∧ p = ⟨bs, true, [], [], 0, false, 0, 0, [], [], false, [], 0, [], false, h.hbmSettle.mem.hbm,
      h.hbmSettle.mem.kitty⟩ ∧ passOk p = true ∧ h.hbmSettle.nextEntry
      { f with pass := some { p with tiled := p.mode == 0 || (p.mode == 2 && (!(h.hbmSettle.is (R.GFX_AUTO_HIST_VALID p.id)) || decide (h.hbmSettle.get (R.GFX_AUTO_HIST_DEMAND p.id) ≤ p.budget))) } }
      far = some g) ∧
    (∃ (s : State) (far : Memory) (f : GFrame) (bs : List Byte) (h : Hw) (g : Hw), s.hw.coreUp = true ∧ s.hw.entryFor
      2 = some f ∧ entryOk f.ent = true ∧ 32 ≤ leAt f.ent 0x10 4 ∧ leAt f.ent 0x10 4 ≤ 32 + 65536 + 32768 ∧
      s.hw.gfxRead (leAt f.ent 8 8) (leAt f.ent 0x10 4) far = some (0, bs, h) ∧ shaderOk bs (leAt f.ent 0x10 4) = true
      ∧ h.nextEntry f far = some g) ∧
    (∃ (s : State) (f : GFrame) (p : GPass), s.hw.coreUp = true ∧ s.hw.entryFor 3 = some f ∧ f.pass = some p ∧
      f.inDraw = true) ∧
    (∃ (s : State) (f : GFrame) (p : GPass) (img : List Byte) (j : GJob) (js : List GJob) (n : Nat), s.hw.coreUp =
      true ∧ s.hw.gfx.frame = some f ∧ s.hw.gfx.image = some img ∧ f.pass = some p ∧ p.jobs = j :: js ∧ s.hw.jobTile p
      img = some n ∧ p.tgts = []) ∧
    (∃ (s : State) (n : Nat) (f : GFrame) (p : GPass) (j : GJob) (w : GWave) (d : GDraw), s.hw.coreUp = true ∧
      s.hw.gfx.frame = some f ∧ f.pass = some p ∧ p.run.find? (fun j => j.tile == n) = some j ∧ j.waves[j.sent]? =
      some w ∧ j.sent + 1 ≤ ofLe ((s.hw.tile n).tsRead 0x19410 4) + 4 ∧ s.hw.hbmWaits = false ∧ p.draws[w.draw]? =
      some d) ∧
    (∃ (s : State) (n : Nat) (f : GFrame) (p : GPass) (j : GJob), s.hw.coreUp = true ∧ s.hw.gfx.frame = some f ∧
      f.pass = some p ∧ p.run.find? (fun j => j.tile == n) = some j ∧ j.sent = j.waves.length ∧ (j.waves = [] ∨
      ((s.hw.tile n).ctl.st = .halted ∧ (s.hw.tile n).ctl.why = 1)) ∧ s.hw.hbmWaits = false) ∧
    (∃ (s : State) (far : Memory) (f : GFrame) (p : GPass) (bs : List Byte) (h : Hw), s.hw.coreUp = true ∧
      s.hw.entryFor 3 = some f ∧ f.pass = some p ∧ f.inDraw = false ∧ entryOk f.ent = true ∧ s.hw.gfxRead (leAt f.ent
      8 8) 128 far = some (0, bs, h) ∧ leAt bs 0x1B 1 = 0 ∧ drawOk p ⟨bs, []⟩ = true) := by
  refine ⟨?_, ?_, ?_, ?_, ?_, ?_, ?_⟩
  · have key : (match (Wit.gfx 1 256 (Wit.passBlock)).hw.entryFor 1 with | some f => (match (Wit.gfx 1 256 (Wit.passBlock)).hw.gfxRead (leAt f.ent 8 8) 256 ([] : Memory) with | some (0, bs, h) => (match h.hbmSettle.nextEntry { f with pass := some { (⟨bs, true, [], [], 0, false, 0, 0, [], [], false, [], 0, [], false, h.hbmSettle.mem.hbm, h.hbmSettle.mem.kitty⟩ : GPass) with tiled := (⟨bs, true, [], [], 0, false, 0, 0, [], [], false, [], 0, [], false, h.hbmSettle.mem.hbm, h.hbmSettle.mem.kitty⟩ : GPass).mode == 0 || ((⟨bs, true, [], [], 0, false, 0, 0, [], [], false, [], 0, [], false, h.hbmSettle.mem.hbm, h.hbmSettle.mem.kitty⟩ : GPass).mode == 2 && (!(h.hbmSettle.is (R.GFX_AUTO_HIST_VALID (⟨bs, true, [], [], 0, false, 0, 0, [], [], false, [], 0, [], false, h.hbmSettle.mem.hbm, h.hbmSettle.mem.kitty⟩ : GPass).id)) || decide (h.hbmSettle.get (R.GFX_AUTO_HIST_DEMAND (⟨bs, true, [], [], 0, false, 0, 0, [], [], false, [], 0, [], false, h.hbmSettle.mem.hbm, h.hbmSettle.mem.kitty⟩ : GPass).id) ≤ (⟨bs, true, [], [], 0, false, 0, 0, [], [], false, [], 0, [], false, h.hbmSettle.mem.hbm, h.hbmSettle.mem.kitty⟩ : GPass).budget))) } } ([] : Memory) with | some g => decide (((Wit.gfx 1 256 (Wit.passBlock)).hw.coreUp = true) ∧ (f.pass = none) ∧ (entryOk f.ent = true) ∧ (passOk (⟨bs, true, [], [], 0, false, 0, 0, [], [], false, [], 0, [], false, h.hbmSettle.mem.hbm, h.hbmSettle.mem.kitty⟩ : GPass) = true)) | _ => false) | _ => false) | _ => false) = true := by decide +kernel
    split at key
    · rename_i f e0
      split at key
      · rename_i bs h e1
        split at key
        · rename_i g e2
          have k := of_decide_eq_true key
          exact ⟨(Wit.gfx 1 256 (Wit.passBlock)), ([] : Memory), f, bs, h, g, _, k.1, e0, k.2.1, k.2.2.1, e1, rfl, k.2.2.2, e2⟩
        · cases key
      · cases key
    · cases key
  · have key : (match (Wit.gfx 2 32 (Wit.shaderImg)).hw.entryFor 2 with | some f => (match (Wit.gfx 2 32 (Wit.shaderImg)).hw.gfxRead (leAt f.ent 8 8) (leAt f.ent 0x10 4) ([] : Memory) with | some (0, bs, h) => (match h.nextEntry f ([] : Memory) with | some g => decide (((Wit.gfx 2 32 (Wit.shaderImg)).hw.coreUp = true) ∧ (entryOk f.ent = true) ∧ (32 ≤ leAt f.ent 0x10 4) ∧ (leAt f.ent 0x10 4 ≤ 32 + 65536 + 32768) ∧ (shaderOk bs (leAt f.ent 0x10 4) = true)) | _ => false) | _ => false) | _ => false) = true := by decide +kernel
    split at key
    · rename_i f e0
      split at key
      · rename_i bs h e1
        split at key
        · rename_i g e2
          have k := of_decide_eq_true key
          exact ⟨(Wit.gfx 2 32 (Wit.shaderImg)), ([] : Memory), f, bs, h, g, k.1, e0, k.2.1, k.2.2.1, k.2.2.2.1, e1, k.2.2.2.2, e2⟩
        · cases key
      · cases key
    · cases key
  · have key : (match (Wit.gfxPass 3 (fun f => { f with inDraw := true })).hw.entryFor 3 with | some f => (match f.pass with | some p => decide (((Wit.gfxPass 3 (fun f => { f with inDraw := true })).hw.coreUp = true) ∧ (f.inDraw = true)) | _ => false) | _ => false) = true := by decide +kernel
    split at key
    · rename_i f e0
      split at key
      · rename_i p e1
        have k := of_decide_eq_true key
        exact ⟨(Wit.gfxPass 3 (fun f => { f with inDraw := true })), f, p, k.1, e0, e1, k.2⟩
      · cases key
    · cases key
  · have key : (match (Wit.gfxJob).hw.gfx.frame with | some f => (match (Wit.gfxJob).hw.gfx.image with | some img => (match f.pass with | some p => (match p.jobs with | j :: js => (match (Wit.gfxJob).hw.jobTile p img with | some n => decide (((Wit.gfxJob).hw.coreUp = true) ∧ (p.tgts = [])) | _ => false) | _ => false) | _ => false) | _ => false) | _ => false) = true := by decide +kernel
    split at key
    · rename_i f e0
      split at key
      · rename_i img e1
        split at key
        · rename_i p e2
          split at key
          · rename_i j js e3
            split at key
            · rename_i n e4
              have k := of_decide_eq_true key
              exact ⟨(Wit.gfxJob), f, p, img, j, js, n, k.1, e0, e1, e2, e3, e4, k.2⟩
            · cases key
          · cases key
        · cases key
      · cases key
    · cases key
  · have key : (match (Wit.gfxRun [⟨0, [], []⟩]).hw.gfx.frame with | some f => (match f.pass with | some p => (match p.run.find? (fun j => j.tile == 511) with | some j => (match j.waves[j.sent]? with | some w => (match p.draws[w.draw]? with | some d => decide (((Wit.gfxRun [⟨0, [], []⟩]).hw.coreUp = true) ∧ (j.sent + 1 ≤ ofLe (((Wit.gfxRun [⟨0, [], []⟩]).hw.tile 511).tsRead 0x19410 4) + 4) ∧ ((Wit.gfxRun [⟨0, [], []⟩]).hw.hbmWaits = false)) | _ => false) | _ => false) | _ => false) | _ => false) | _ => false) = true := by decide +kernel
    split at key
    · rename_i f e0
      split at key
      · rename_i p e1
        split at key
        · rename_i j e2
          split at key
          · rename_i w e3
            split at key
            · rename_i d e4
              have k := of_decide_eq_true key
              exact ⟨(Wit.gfxRun [⟨0, [], []⟩]), 511, f, p, j, w, d, k.1, e0, e1, e2, e3, k.2.1, k.2.2, e4⟩
            · cases key
          · cases key
        · cases key
      · cases key
    · cases key
  · have key : (match (Wit.gfxRun []).hw.gfx.frame with | some f => (match f.pass with | some p => (match p.run.find? (fun j => j.tile == 511) with | some j => decide (((Wit.gfxRun []).hw.coreUp = true) ∧ (j.sent = j.waves.length) ∧ (j.waves = [] ∨ (((Wit.gfxRun []).hw.tile 511).ctl.st = .halted ∧ ((Wit.gfxRun []).hw.tile 511).ctl.why = 1)) ∧ ((Wit.gfxRun []).hw.hbmWaits = false)) | _ => false) | _ => false) | _ => false) = true := by decide +kernel
    split at key
    · rename_i f e0
      split at key
      · rename_i p e1
        split at key
        · rename_i j e2
          have k := of_decide_eq_true key
          exact ⟨(Wit.gfxRun []), 511, f, p, j, k.1, e0, e1, e2, k.2.1, k.2.2.1, k.2.2.2⟩
        · cases key
      · cases key
    · cases key
  · have key : (match Wit.gfxDraw.hw.gfxRead (leAt Wit.drawFrame.ent 8 8) 128 [] with
        | some (0, bs, _) => decide (bs = Wit.drawBlock) | _ => false) = true := by decide +kernel
    split at key
    · rename_i bs h e0
      have k := of_decide_eq_true key
      subst k
      exact ⟨Wit.gfxDraw, [], Wit.drawFrame, Wit.gpass [] [], Wit.drawBlock, h, by decide +kernel, by decide +kernel, rfl, rfl,
        by decide +kernel, e0, by decide +kernel, by decide +kernel⟩
    · cases key

theorem wit_DisplayEvents :
    (∃ (s : State) (n : Nat), n < 16 ∧ s.hw.blkDown .gfx R.GFX_AUTO_CLR = false) ∧
    (∃ (s : State) (q : Nat), s.hw.coreUp = true ∧ (∀ f p, s.hw.gfx.frame = some f → f.pass = some p → p.run.any (fun
      j => partOf j.tile == q) = false) ∧ s.hw.pstate q = 3 ∧ s.hw.foldStat q = fFOLDING) ∧
    (∃ (s : State), s.hw.sysUp = true ∧ s.hw.dpyState = dACTIVE) ∧
    (∃ (s : State), s.hw.sysUp = true ∧ s.hw.dpyState = dACTIVE) ∧
    (∃ (s : State), s.hw.sysUp = true ∧ s.hw.dpyState = dACTIVE) ∧
    (∃ (s : State), s.hw.pinsFrozen = false ∧ s.hw.sysUp = true ∧ s.hw.get R.DPY_STAT_HPD = 1) ∧
    (∃ (s : State), s.hw.pinsFrozen = false ∧ s.hw.sysUp = true ∧ s.hw.get R.DPY_STAT_HPD = 0) ∧
    (∃ (s : State) (lost : Bool), s.hw.pinsFrozen = false ∧ s.hw.sysUp = true ∧ s.hw.get R.DPY_STAT_HPD = 1 ∧ lost =
      false) ∧
    (∃ (s : State), s.hw.pinsFrozen = false ∧ s.hw.sysUp = true ∧ s.hw.get R.DPY_STAT_HPD = 1 ∧ s.hw.dpyState =
      dACTIVE) ∧
    (∃ (s : State) (v : Nat), v < 2 ^ 32 ∧ s.hw.blkDown .dpy R.DPY_AUX_CTL = false ∧ bit (s.hw.rd R.DPY_AUX_CTL) 31 =
      false) ∧
    (∃ (s : State) (reply : Nat), s.hw.sysUp = true ∧ bit (s.hw.rd R.DPY_AUX_CTL) 31 = true ∧ (reply % 4 ≠ 0 ∨ bit
      (s.hw.rd R.DPY_AUX_CTL) 26 = true)) ∧
    (∃ (s : State), s.hw.pinsFrozen = false ∧ s.hw.sysUp = true ∧ s.hw.get R.DPY_STAT_HPD = 1 ∧ s.hw.dpyState =
      dACTIVE) := by
  refine ⟨?_, ?_, ?_, ?_, ?_, ?_, ?_, ?_, ?_, ?_, ?_, ?_⟩
  · exact ⟨State.reset, 15, by decide +kernel⟩
  · exact ⟨Wit.hw (fun h => (h.setPstate 15 3).setFoldStat 15 fFOLDING), 15, by decide +kernel,
      fun f p e => (nomatch (show (none : Option GFrame) = some f from e)), by decide +kernel, by decide +kernel⟩
  · exact ⟨Wit.hw (fun h => h.put R.DPY_STAT_STATE dACTIVE), by decide +kernel⟩
  · exact ⟨Wit.hw (fun h => h.put R.DPY_STAT_STATE dACTIVE), by decide +kernel⟩
  · exact ⟨Wit.hw (fun h => h.put R.DPY_STAT_STATE dACTIVE), by decide +kernel⟩
  · exact ⟨Wit.hw (fun h => h.put R.DPY_STAT_HPD 1), by decide +kernel⟩
  · exact ⟨Wit.hw (fun h => h.put R.DPY_STAT_HPD 0), by decide +kernel⟩
  · exact ⟨Wit.hw (fun h => h.put R.DPY_STAT_HPD 1), false, by decide +kernel⟩
  · exact ⟨Wit.hw (fun h => (h.put R.DPY_STAT_HPD 1).put R.DPY_STAT_STATE dACTIVE), by decide +kernel⟩
  · exact ⟨State.reset, 0xFFFFFFFF, by decide +kernel⟩
  · exact ⟨Wit.hw (fun h => h.wr R.DPY_AUX_CTL 0x80000000), 3, by decide +kernel⟩
  · exact ⟨Wit.hw (fun h => (h.put R.DPY_STAT_HPD 1).put R.DPY_STAT_STATE dACTIVE), by decide +kernel⟩

theorem wit_EthernetFrames :
    (∃ (s : State) (n : Nat), s.hw.pinsFrozen = false ∧ s.hw.sysUp = true ∧ s.hw.portOn n = false) ∧
    (∃ (s : State) (n : Nat) (bs : List Byte), s.hw.pinsFrozen = false ∧ s.hw.sysUp = true ∧ s.hw.portOn n = true ∧
      bs.length < 64) ∧
    (∃ (s : State) (n : Nat) (bs : List Byte), s.hw.pinsFrozen = false ∧ s.hw.sysUp = true ∧ s.hw.portOn n = true ∧ 64
      ≤ bs.length ∧ s.hw.get (R.NET_P_CFG_MTU n) < bs.length) ∧
    (∃ (s : State) (n : Nat) (bs : List Byte), s.hw.pinsFrozen = false ∧ s.hw.sysUp = true ∧ s.hw.portOn n = true ∧ 64
      ≤ bs.length ∧ bs.length ≤ s.hw.get (R.NET_P_CFG_MTU n) ∧ leAt bs (bs.length - 4) 4 ≠ fcs32 (bs.take (bs.length -
      4))) ∧
    (∃ (s : State) (n : Nat) (q : Nat) (bs : List Byte) (far : Memory) (farOk : Bool) (p : Parse) (g : Hw),
      s.hw.pinsFrozen = false ∧ s.hw.sysUp = true ∧ s.hw.portOn n = true ∧ 64 ≤ bs.length ∧ bs.length ≤ s.hw.get
      (R.NET_P_CFG_MTU n) ∧ leAt bs (bs.length - 4) 4 = fcs32 (bs.take (bs.length - 4)) ∧ isPause (bs.take (bs.length
      - 4)) = false ∧ p = parseFrame (bs.take (bs.length - 4)) (if s.hw.is R.NET_HST_PORT_EN = true then some
      (s.hw.get R.NET_HST_PORT_PORT) else none) ∧ p.cls = PClass.ok ∧ (s.hw.verdict n p (bs.take (bs.length -
      4))).queue = some q ∧ s.hw.deliver n (s.hw.verdict n p (bs.take (bs.length - 4))) q (bs.take (bs.length - 4))
      far farOk = some g) ∧
    (∃ (s : State) (n : Nat) (bs : List Byte) (p : Parse), s.hw.pinsFrozen = false ∧ s.hw.sysUp = true ∧ s.hw.portOn n
      = true ∧ 64 ≤ bs.length ∧ bs.length ≤ s.hw.get (R.NET_P_CFG_MTU n) ∧ leAt bs (bs.length - 4) 4 = fcs32 (bs.take
      (bs.length - 4)) ∧ isPause (bs.take (bs.length - 4)) = false ∧ p = parseFrame (bs.take (bs.length - 4)) (if
      s.hw.is R.NET_HST_PORT_EN = true then some (s.hw.get R.NET_HST_PORT_PORT) else none) ∧ p.cls = PClass.ok ∧
      (s.hw.verdict n p (bs.take (bs.length - 4))).queue = none) ∧
    (∃ (s : State) (n : Nat) (q : Nat), s.hw.sysUp = true ∧ (s.hw.port n).rxOf q = []) ∧
    (∃ (s : State) (n : Nat) (q : Nat) (farOk : Bool) (x : RxFlight) (l : List RxFlight) (h : Hw), s.hw.sysUp = true ∧
      (s.hw.port n).rxOf q = x :: l ∧ s.hw.gStatus (x.desc + 10) 22 true ≠ 3 ∧ x.slot = none ∧ h = ((s.hw.nodeWrite
      645 (x.desc + 10) (leBytes 2 x.len ++ leBytes 2 (x.status + 1 + 8 * b2n s.hw.tsSuspect) ++ leBytes 2 x.rule ++
      leBytes 2 x.gen ++ leBytes 2 x.tag ++ leBytes 4 0 ++ leBytes 8 x.time) [] farOk).2.onPort n (fun p =>
      { p with rx := p.rx.erase x })) ∧ h.get (R.NET_P_RX_ENTRIES_ENTRIES n q) ≠ 0) ∧
    (∃ (s : State) (n : Nat), s.hw.sysUp = true ∧ (s.hw.portOn n = false ∨ (s.hw.port n).tx.isSome = true ∨
      s.hw.clk.now < (s.hw.port n).pauseTo)) ∧
    (∃ (s : State) (n : Nat) (q : Nat) (e : Nat) (far : Memory) (ds : List Byte) (bs : List Byte) (h : Hw) (g : Hw),
      s.hw.sysUp = true ∧ s.hw.portOn n = true ∧ (s.hw.port n).tx = none ∧ (s.hw.port n).pauseTo ≤ s.hw.clk.now ∧
      s.hw.txQueue n = some q ∧ s.hw.nodeRead 645 (NMap.get (s.hw.port n).txRing q + 32 * (s.hw.get
      (R.NET_P_TX_HEAD_HEAD n q) % s.hw.get (R.NET_P_TX_ENTRIES_ENTRIES n q))) 32 far = some (0, ds, h) ∧ 60 ≤ leAt ds
      8 2 ∧ leAt ds 8 2 + 4 ≤ h.get (R.NET_P_CFG_MTU n) ∧ h.nodeRead 645 (leAt ds 0 8 % 2 ^ 48) (leAt ds 8 2) far =
      some (e, bs, g)) ∧
    (∃ (s : State) (n : Nat), s.hw.sysUp = true ∧ (s.hw.port n).tx = none) ∧
    (∃ (s : State) (n : Nat) (farOk : Bool) (x : TxFlight) (g : Hw), s.hw.sysUp = true ∧ (s.hw.port n).tx = some x ∧
      s.hw.gStatus x.desc 32 true ≠ 3 ∧ x.ts = false ∧ g = (s.hw.nodeWrite 645 (x.desc + 12) (leBytes 2 (1 + 2 * b2n
      x.stomped)) [] farOk).2) ∧
    (∃ (s : State) (n : Nat) (farOk : Bool) (x : TxFlight) (g : Hw), s.hw.sysUp = true ∧ (s.hw.port n).tx = some x ∧
      s.hw.gStatus x.desc 32 true ≠ 3 ∧ x.ts = true ∧ g = (((s.hw.nodeWrite 645 (x.desc + 0x18) (leBytes 8 x.time) []
      farOk).2).nodeWrite 645 (x.desc + 12) (leBytes 2 (1 + 2 * b2n x.stomped + 8 * b2n s.hw.tsSuspect)) [] farOk).2) ∧
    (∃ (s : State) (w : RuleWait), s.hw.sysUp = true ∧ s.hw.net.ruleWait = some w) ∧
    (∃ (s : State) (n : Nat), s.hw.pinsFrozen = false ∧ s.hw.sysUp = true ∧ n < 2 ∧ s.hw.get (R.NET_P_CFG_MODE n) ≠ 0
      ∧ s.hw.is (R.NET_P_STAT_LINK n) = false) ∧
    (∃ (s : State) (n : Nat), s.hw.sysUp = true ∧ n < 2 ∧ s.hw.is (R.NET_P_STAT_LINK n) = true) := by
  refine ⟨?_, ?_, ?_, ?_, ?_, ?_, ?_, ?_, ?_, ?_, ?_, ?_, ?_, ?_, ?_, ?_⟩
  · exact ⟨State.reset, 1, by decide +kernel⟩
  · exact ⟨Wit.eth, 1, List.replicate 63 0, by decide +kernel⟩
  · exact ⟨Wit.hw (fun _ => Wit.eth.hw.put (R.NET_P_CFG_MTU 1) 64), 1, List.replicate 65 0, by decide +kernel⟩
  · exact ⟨Wit.eth, 1, List.replicate 64 0, by decide +kernel⟩
  · have key : (match ((Wit.eth).hw.verdict 1 (parseFrame (Wit.frame.take (Wit.frame.length - 4)) (if (Wit.eth).hw.is R.NET_HST_PORT_EN = true then some ((Wit.eth).hw.get R.NET_HST_PORT_PORT) else none) : Parse) (Wit.frame.take (Wit.frame.length - 4))).queue with | some q => (match (Wit.eth).hw.deliver 1 ((Wit.eth).hw.verdict 1 (parseFrame (Wit.frame.take (Wit.frame.length - 4)) (if (Wit.eth).hw.is R.NET_HST_PORT_EN = true then some ((Wit.eth).hw.get R.NET_HST_PORT_PORT) else none) : Parse) (Wit.frame.take (Wit.frame.length - 4))) q (Wit.frame.take (Wit.frame.length - 4)) ([] : Memory) true with | some g => decide (((Wit.eth).hw.sysUp = true) ∧ ((Wit.eth).hw.portOn 1 = true) ∧ (64 ≤ Wit.frame.length) ∧ (Wit.frame.length ≤ (Wit.eth).hw.get (R.NET_P_CFG_MTU 1)) ∧ (leAt Wit.frame (Wit.frame.length - 4) 4 = fcs32 (Wit.frame.take (Wit.frame.length - 4))) ∧ (isPause (Wit.frame.take (Wit.frame.length - 4)) = false) ∧ ((parseFrame (Wit.frame.take (Wit.frame.length - 4)) (if (Wit.eth).hw.is R.NET_HST_PORT_EN = true then some ((Wit.eth).hw.get R.NET_HST_PORT_PORT) else none) : Parse).cls = PClass.ok)) | _ => false) | _ => false) = true := by decide +kernel
    split at key
    · rename_i q e0
      split at key
      · rename_i g e1
        have k := of_decide_eq_true key
        exact ⟨(Wit.eth), 1, q, Wit.frame, ([] : Memory), true, _, g, by decide +kernel, k.1, k.2.1, k.2.2.1, k.2.2.2.1, k.2.2.2.2.1, k.2.2.2.2.2.1, rfl, k.2.2.2.2.2.2, e0, e1⟩
      · cases key
    · cases key
  · exact ⟨Wit.hw (fun _ => Wit.eth.hw.put (R.NET_P_DEF_DROP 1) 1), 1, Wit.frame, _, by decide +kernel, by decide +kernel, by decide +kernel, by decide +kernel, by decide +kernel, by decide +kernel, by decide +kernel, rfl, by decide +kernel, by decide +kernel⟩
  · exact ⟨State.reset, 1, 15, by decide +kernel⟩
  · exact ⟨Wit.rxOne, 1, 15, true, Wit.rxFlight, [], _, by decide +kernel, by decide +kernel, by decide +kernel, by decide +kernel, rfl, by decide +kernel⟩
  · exact ⟨State.reset, 1, by decide +kernel⟩
  · have key : (match (Wit.tx).hw.txQueue 1 with | some q => (match (Wit.tx).hw.nodeRead 645 (NMap.get ((Wit.tx).hw.port 1).txRing q + 32 * ((Wit.tx).hw.get (R.NET_P_TX_HEAD_HEAD 1 q) % (Wit.tx).hw.get (R.NET_P_TX_ENTRIES_ENTRIES 1 q))) 32 ([] : Memory) with | some (0, ds, h) => (match h.nodeRead 645 (leAt ds 0 8 % 2 ^ 48) (leAt ds 8 2) ([] : Memory) with | some (e, bs, g) => decide (((Wit.tx).hw.sysUp = true) ∧ ((Wit.tx).hw.portOn 1 = true) ∧ (((Wit.tx).hw.port 1).tx = none) ∧ (((Wit.tx).hw.port 1).pauseTo ≤ (Wit.tx).hw.clk.now) ∧ (60 ≤ leAt ds 8 2) ∧ (leAt ds 8 2 + 4 ≤ h.get (R.NET_P_CFG_MTU 1))) | _ => false) | _ => false) | _ => false) = true := by decide +kernel
    split at key
    · rename_i q e0
      split at key
      · rename_i ds h e1
        split at key
        · rename_i e bs g e2
          have k := of_decide_eq_true key
          exact ⟨(Wit.tx), 1, q, e, ([] : Memory), ds, bs, h, g, k.1, k.2.1, k.2.2.1, k.2.2.2.1, e0, e1, k.2.2.2.2.1, k.2.2.2.2.2, e2⟩
        · cases key
      · cases key
    · cases key
  · exact ⟨State.reset, 1, by decide +kernel⟩
  · exact ⟨Wit.txOne false, 1, true, Wit.txFlight false, _, by decide +kernel, by decide +kernel, by decide +kernel, by decide +kernel, rfl⟩
  · exact ⟨Wit.txOne true, 1, true, Wit.txFlight true, _, by decide +kernel, by decide +kernel, by decide +kernel, by decide +kernel, rfl⟩
  · exact ⟨Wit.hw (fun h => { h with net := { h.net with ruleWait := some ⟨16, 7, 2047, []⟩ } }), ⟨16, 7, 2047, []⟩,
      by decide +kernel⟩
  · exact ⟨Wit.hw (fun h => h.put (R.NET_P_CFG_MODE 1) 1), 1, by decide +kernel⟩
  · exact ⟨Wit.hw (fun h => h.put (R.NET_P_STAT_LINK 1) 1), 1, by decide +kernel⟩

theorem wit_Shapers :
    (∃ (s : State) (n : Nat) (q : Nat), s.hw.sysUp = true ∧ n < 2 ∧ q < 8) ∧
    (∃ (s : State) (n : Nat) (q : Nat), n < 2 ∧ q < 8 ∧ s.hw.blkDown .net R.NET_SHP_CTL = false ∧ s.hw.tokens n q < 0) ∧
    (∃ (s : State) (n : Nat) (q : Nat), n < 2 ∧ q < 8 ∧ s.hw.blkDown .net R.NET_SHP_CTL = false ∧ 0 ≤ s.hw.tokens n q) ∧
    (∃ (s : State) (n : Nat) (q : Nat) (v : Nat), n < 2 ∧ q < 8 ∧ s.hw.blkDown .net (0x40090300 + 0x1000 * n + 16 * q)
      = false ∧ 1 ≤ v ∧ v ≤ 10000) ∧
    (∃ (s : State) (n : Nat) (q : Nat) (v : Nat), n < 2 ∧ q < 8 ∧ s.hw.blkDown .net (0x40090300 + 0x1000 * n + 16 * q)
      = false ∧ (v = 0 ∨ 10000 < v) ∧ v < 2 ^ 14) ∧
    (∃ (s : State) (n : Nat) (q : Nat) (v : Nat), n < 2 ∧ q < 8 ∧ s.hw.blkDown .net (0x40090304 + 0x1000 * n + 16 * q)
      = false ∧ v ≤ 1048576 ∧ s.hw.tokens n q ≤ v) ∧
    (∃ (s : State) (n : Nat) (q : Nat) (v : Nat), n < 2 ∧ q < 8 ∧ s.hw.blkDown .net (0x40090304 + 0x1000 * n + 16 * q)
      = false ∧ v ≤ 1048576 ∧ (v : Int) < s.hw.tokens n q) := by
  refine ⟨?_, ?_, ?_, ?_, ?_, ?_, ?_⟩
  · exact ⟨State.reset, 1, 7, by decide +kernel⟩
  · exact ⟨Wit.hw (fun h => h.setTokens 1 7 (-1)), 1, 7, by decide +kernel⟩
  · exact ⟨State.reset, 1, 7, by decide +kernel⟩
  · exact ⟨State.reset, 1, 7, 10000, by decide +kernel⟩
  · exact ⟨State.reset, 1, 7, 10001, by decide +kernel⟩
  · exact ⟨State.reset, 1, 7, 1048576, by decide +kernel⟩
  · exact ⟨Wit.hw (fun h => h.setTokens 1 7 5), 1, 7, 4, by decide +kernel⟩

theorem wit_HostRequests :
    (∃ (s : State) (fn : Nat), s.hw.pinsFrozen = false ∧ s.hw.sysUp = true ∧ s.hw.pcie.cfgUp = true ∧ s.hw.is
      R.PCIE_STAT_DL_UP = true ∧ s.hw.fnExists fn = true ∧ s.hw.pwr'.phase ≠ .folding) ∧
    (∃ (s : State) (fn : Nat) (off : Nat) (v : Nat), s.hw.pinsFrozen = false ∧ s.hw.sysUp = true ∧ s.hw.pcie.cfgUp =
      true ∧ s.hw.is R.PCIE_STAT_DL_UP = true ∧ s.hw.fnExists fn = true ∧ (fn = 0 ∨ (s.hw.bitOf R.PCIE_FLR_STAT_FLR
      (fn - 1) = false ∧ (off % 4096 / 4 * 4 ≠ 0x078 ∨ bit v 15 = false)))) ∧
    (∃ (s : State) (fn : Nat) (bar : Nat) (o : Nat) (n : Nat), s.hw.pinsFrozen = false ∧ s.hw.sysUp = true ∧
      s.hw.linkUp = true ∧ n ≠ 0 ∧ s.hw.hostServes fn = true ∧ (fn = 0 ∨ s.hw.bitOf R.PCIE_FLR_STAT_FLR (fn - 1) =
      false) ∧ s.hw.hostAt fn bar o = .unassigned) ∧
    (∃ (s : State) (fn : Nat) (bar : Nat) (o : Nat) (n : Nat) (a : Nat) (v : Nat) (h : Hw), s.hw.pinsFrozen = false ∧
      s.hw.sysUp = true ∧ s.hw.linkUp = true ∧ n = 4 ∧ s.hw.hostServes fn = true ∧ (fn = 0 ∨ s.hw.bitOf
      R.PCIE_FLR_STAT_FLR (fn - 1) = false) ∧ s.hw.hostAt fn bar o = .mbxReg a ∧ a % 4 = 0 ∧ s.hw.regRead a = (.ok v,
      h)) ∧
    (∃ (s : State) (fn : Nat) (bar : Nat) (o : Nat) (n : Nat) (a : Nat), s.hw.pinsFrozen = false ∧ s.hw.sysUp = true ∧
      s.hw.linkUp = true ∧ n ≠ 0 ∧ s.hw.hostServes fn = true ∧ (fn = 0 ∨ s.hw.bitOf R.PCIE_FLR_STAT_FLR (fn - 1) =
      false) ∧ s.hw.hostAt fn bar o = .global a) ∧
    (∃ (s : State) (fn : Nat) (bar : Nat) (o : Nat) (bs : List Byte), s.hw.pinsFrozen = false ∧ s.hw.sysUp = true ∧
      s.hw.linkUp = true ∧ bs ≠ [] ∧ s.hw.hostServes fn = true ∧ (fn = 0 ∨ s.hw.bitOf R.PCIE_FLR_STAT_FLR (fn - 1) =
      false) ∧ s.hw.hostAt fn bar o = .unassigned) ∧
    (∃ (s : State) (fn : Nat) (bar : Nat) (o : Nat) (a : Nat) (v : Nat) (bs : List Byte) (h : Hw), s.hw.pinsFrozen =
      false ∧ s.hw.sysUp = true ∧ s.hw.linkUp = true ∧ bs.length = 4 ∧ s.hw.hostServes fn = true ∧ (fn = 0 ∨
      s.hw.bitOf R.PCIE_FLR_STAT_FLR (fn - 1) = false) ∧ s.hw.hostAt fn bar o = .mbxReg a ∧ a % 4 = 0 ∧ s.hw.regWrite
      a (ofLe bs) srcHost = (.ok v, h)) ∧
    (∃ (s : State) (fn : Nat) (bar : Nat) (o : Nat) (a : Nat) (bs : List Byte), s.hw.pinsFrozen = false ∧ s.hw.sysUp =
      true ∧ s.hw.linkUp = true ∧ bs ≠ [] ∧ s.hw.hostServes fn = true ∧ (fn = 0 ∨ s.hw.bitOf R.PCIE_FLR_STAT_FLR (fn -
      1) = false) ∧ s.hw.hostAt fn bar o = .global a) ∧
    (∃ (s : State) (n : Nat), s.hw.pinsFrozen = false ∧ s.hw.sysUp = true ∧ (n = 0 ∨ s.hw.fnExists n = false) ∧
      s.hw.pwr'.phase ≠ .folding) ∧
    (∃ (s : State) (n : Nat), s.hw.pinsFrozen = false ∧ s.hw.sysUp = true ∧ 1 ≤ n ∧ s.hw.fnExists n = true ∧ s.hw.is
      R.PCIE_STAT_DL_UP = true ∧ s.hw.bitOf R.PCIE_FLR_STAT_FLR (n - 1) = false ∧ s.hw.mbx.infl = [] ∧ s.hw.pstate (n
      - 1) < 2) ∧
    (∃ (s : State), s.hw.pinsFrozen = false ∧ s.hw.linkUp = true) ∧
    (∃ (s : State), s.hw.pinsFrozen = false ∧ s.hw.pcie.perst = true ∧ s.hw.asleep = false ∧ s.hw.is R.PCIE_STAT_DL_UP
      = false ∧ s.hw.heldAt true = false) ∧
    (∃ (s : State), s.hw.is R.PCIE_STAT_DL_UP = true ∧ s.hw.pcie.engines = [] ∧ (s.hw.asleep = true ∨ s.hw.is
      R.PWR_STATE_BUSY = true) ∧ s.hw.cfg.cmd = none) ∧
    (∃ (s : State), s.hw.is R.PCIE_STAT_DL_UP = true ∧ s.hw.pcie.engines = [] ∧ s.hw.asleep = false ∧ s.hw.is
      R.PWR_STATE_BUSY = false ∧ s.hw.cfg.cmd = none) ∧
    (∃ (s : State) (e : Nat) (j : Nat) (bs : List Byte) (g : DmaEng) (q : DmaEng), s.hw.sysUp = true ∧
      s.hw.pcie.engines.find? (fun g => g.eng == e && g.expects j) = some g ∧ s.hw.linkUp = true ∧ s.hw.pinsFrozen =
      false ∧ q = g.arrive j bs ∧ (q.len ≤ q.issued ∨ s.hw.dmaAllowed (dmaFn g.mb) = true)) ∧
    (∃ (s : State) (e : Nat) (j : Nat) (g : DmaEng), s.hw.sysUp = true ∧ s.hw.pcie.engines.find? (fun g => g.eng == e
      && g.expects j) = some g ∧ s.hw.linkUp = true ∧ s.hw.pinsFrozen = false) ∧
    (∃ (s : State) (e : Nat) (j : Nat) (st : Nat) (g : DmaEng), s.hw.sysUp = true ∧ s.hw.pcie.engines.find? (fun g =>
      g.eng == e && g.expects j) = some g ∧ s.hw.linkUp = true ∧ s.hw.pinsFrozen = false ∧ (st = 1 ∨ st = 2)) ∧
    (∃ (s : State) (e : Nat) (j : Nat) (g : DmaEng), s.hw.sysUp = true ∧ s.hw.pcie.engines.find? (fun g => g.eng == e
      && g.expects j) = some g) := by
  refine ⟨?_, ?_, ?_, ?_, ?_, ?_, ?_, ?_, ?_, ?_, ?_, ?_, ?_, ?_, ?_, ?_, ?_, ?_⟩
  · exact ⟨Wit.link, 0, by decide +kernel⟩
  · exact ⟨Wit.link, 0, 0, 0, by decide +kernel⟩
  · exact ⟨Wit.link, 0, 0, 0x120000, 4, by decide +kernel⟩
  · have key : (match (Wit.link).hw.hostAt 0 0 0x2000 with | .mbxReg a => (match (Wit.link).hw.regRead a with | (.ok v, h) => decide (((Wit.link).hw.sysUp = true) ∧ ((Wit.link).hw.linkUp = true) ∧ (4 = 4) ∧ ((Wit.link).hw.hostServes 0 = true) ∧ (0 = 0 ∨ (Wit.link).hw.bitOf R.PCIE_FLR_STAT_FLR (0 - 1) = false) ∧ (a % 4 = 0)) | _ => false) | _ => false) = true := by decide +kernel
    split at key
    · rename_i a e0
      split at key
      · rename_i v h e1
        have k := of_decide_eq_true key
        exact ⟨(Wit.link), 0, 0, 0x2000, 4, a, v, h, by decide +kernel, k.1, k.2.1, k.2.2.1, k.2.2.2.1, k.2.2.2.2.1, e0, k.2.2.2.2.2, e1⟩
      · cases key
    · cases key
  · have key : (match (Wit.link).hw.hostAt 0 2 0x7FFFFFFFC with | .global a => decide (((Wit.link).hw.sysUp = true) ∧ ((Wit.link).hw.linkUp = true) ∧ (4 ≠ 0) ∧ ((Wit.link).hw.hostServes 0 = true) ∧ (0 = 0 ∨ (Wit.link).hw.bitOf R.PCIE_FLR_STAT_FLR (0 - 1) = false)) | _ => false) = true := by decide +kernel
    split at key
    · rename_i a e0
      have k := of_decide_eq_true key
      exact ⟨(Wit.link), 0, 2, 0x7FFFFFFFC, 4, a, by decide +kernel, k.1, k.2.1, k.2.2.1, k.2.2.2.1, k.2.2.2.2, e0⟩
    · cases key
  · exact ⟨Wit.link, 0, 0, 0x120000, [1], by decide +kernel⟩
  · have key : (match (Wit.link).hw.hostAt 0 0 0x2000 with | .mbxReg a => (match (Wit.link).hw.regWrite a (ofLe ([1, 0, 0, 0] : List Byte)) srcHost with | (.ok v, h) => decide (((Wit.link).hw.sysUp = true) ∧ ((Wit.link).hw.linkUp = true) ∧ (([1, 0, 0, 0] : List Byte).length = 4) ∧ ((Wit.link).hw.hostServes 0 = true) ∧ (0 = 0 ∨ (Wit.link).hw.bitOf R.PCIE_FLR_STAT_FLR (0 - 1) = false) ∧ (a % 4 = 0)) | _ => false) | _ => false) = true := by decide +kernel
    split at key
    · rename_i a e0
      split at key
      · rename_i v h e1
        have k := of_decide_eq_true key
        exact ⟨(Wit.link), 0, 0, 0x2000, a, v, ([1, 0, 0, 0] : List Byte), h, by decide +kernel, k.1, k.2.1, k.2.2.1, k.2.2.2.1, k.2.2.2.2.1, e0, k.2.2.2.2.2, e1⟩
      · cases key
    · cases key
  · have key : (match (Wit.link).hw.hostAt 0 2 0x7FFFFFFFC with | .global a => decide (((Wit.link).hw.sysUp = true) ∧ ((Wit.link).hw.linkUp = true) ∧ (([1] : List Byte) ≠ []) ∧ ((Wit.link).hw.hostServes 0 = true) ∧ (0 = 0 ∨ (Wit.link).hw.bitOf R.PCIE_FLR_STAT_FLR (0 - 1) = false)) | _ => false) = true := by decide +kernel
    split at key
    · rename_i a e0
      have k := of_decide_eq_true key
      exact ⟨(Wit.link), 0, 2, 0x7FFFFFFFC, a, ([1] : List Byte), by decide +kernel, k.1, k.2.1, k.2.2.1, k.2.2.2.1, k.2.2.2.2, e0⟩
    · cases key
  · exact ⟨State.reset, 16, by decide +kernel⟩
  · exact ⟨Wit.vf, 16, by decide +kernel⟩
  · exact ⟨Wit.link, by decide +kernel⟩
  · exact ⟨State.reset, by decide +kernel⟩
  · exact ⟨Wit.hw (fun _ => Wit.link.hw.put R.PWR_STATE_BUSY 1), by decide +kernel⟩
  · exact ⟨Wit.link, by decide +kernel⟩
  · exact ⟨Wit.hw (fun _ => Wit.dmaRead Wit.link.hw), 7, 0, [1, 2], ⟨7, 16, 7, 0, 8, true, [], [⟨8, []⟩]⟩, _, by decide +kernel, by decide +kernel, by decide +kernel, by decide +kernel, rfl, by decide +kernel⟩
  · exact ⟨Wit.hw (fun _ => Wit.dmaRead Wit.link.hw), 7, 0, ⟨7, 16, 7, 0, 8, true, [], [⟨8, []⟩]⟩, by decide +kernel⟩
  · exact ⟨Wit.hw (fun _ => Wit.dmaRead Wit.link.hw), 7, 0, 2, ⟨7, 16, 7, 0, 8, true, [], [⟨8, []⟩]⟩, by decide +kernel⟩
  · exact ⟨Wit.hw (fun h => Wit.dmaRead h), 7, 0, ⟨7, 16, 7, 0, 8, true, [], [⟨8, []⟩]⟩, by decide +kernel⟩

theorem wit_LinkFrames :
    (∃ (s : State) (k : Nat) (bs : List Byte), s.hw.pinsFrozen = false ∧ s.hw.sysUp = true ∧ k < 4 ∧ s.hw.linkIsUp k =
      true ∧ parseLFrame bs = none) ∧
    (∃ (s : State) (k : Nat) (bs : List Byte) (f : LFrame), s.hw.pinsFrozen = false ∧ s.hw.sysUp = true ∧ k < 4 ∧
      s.hw.linkIsUp k = true ∧ parseLFrame bs = some f ∧ f.ftype = 0 ∧ f.seq = ((s.hw.link k).rx + 1) % 4096) ∧
    (∃ (s : State) (k : Nat) (bs : List Byte) (f : LFrame), s.hw.pinsFrozen = false ∧ s.hw.sysUp = true ∧ k < 4 ∧
      s.hw.linkIsUp k = true ∧ parseLFrame bs = some f ∧ f.ftype = 0 ∧ f.seq ≠ ((s.hw.link k).rx + 1) % 4096) ∧
    (∃ (s : State) (k : Nat) (bs : List Byte) (f : LFrame), s.hw.pinsFrozen = false ∧ s.hw.sysUp = true ∧ k < 4 ∧
      s.hw.linkIsUp k = true ∧ parseLFrame bs = some f ∧ f.ftype = 1) ∧
    (∃ (s : State) (k : Nat) (bs : List Byte) (f : LFrame), s.hw.pinsFrozen = false ∧ s.hw.sysUp = true ∧ k < 4 ∧
      s.hw.linkIsUp k = true ∧ parseLFrame bs = some f ∧ f.ftype = 2) ∧
    (∃ (s : State) (k : Nat) (sx : Nat) (lx : Nat) (bs : List Byte) (f : LFrame) (h : Hw), s.hw.pinsFrozen = false ∧
      s.hw.sysUp = true ∧ s.hw.linkAccept k 3 bs = (some f, h) ∧ h.linkIsUp k = false ∧ sx < 8 ∧ lx < 4 ∧ sx ≠ h.seat
      ∧ lx = facing k ∧ h.fab.doneHigh = true) ∧
    (∃ (s : State) (k : Nat) (bs : List Byte) (f : LFrame) (h : Hw), s.hw.pinsFrozen = false ∧ s.hw.sysUp = true ∧
      s.hw.linkAccept k 4 bs = (some f, h) ∧ h.get R.TBL_STAT_MASTER = h.seat) ∧
    (∃ (s : State) (k : Nat) (rtt : Nat) (turn : Nat) (d : Nat) (m : Nat) (bs : List Byte) (f : LFrame) (h : Hw) (g :
      Hw), s.hw.pinsFrozen = false ∧ s.hw.sysUp = true ∧ s.hw.linkAccept k 4 bs = (some f, h) ∧ d = meanDelay (((rtt -
      turn) / 2 :: (h.link k).delays).take 16) ∧ g = (h.setLink k
      { h.link k with delays := ((rtt - turn) / 2 :: (h.link k).delays).take 16 }).wr (R.LNK_DELAY k) d ∧ m = g.get
      R.TBL_STAT_MASTER ∧ m ≠ g.seat ∧ g.bitOf R.TBL_STAT_PRESENT m = true ∧ g.routeOf m = k) ∧
    (∃ (s : State) (k : Nat) (bs : List Byte) (f : LFrame) (h : Hw), s.hw.pinsFrozen = false ∧ s.hw.sysUp = true ∧
      s.hw.linkAccept k 5 bs = (some f, h)) ∧
    (∃ (s : State) (k : Nat), s.hw.sysUp = true ∧ k < 4 ∧ s.hw.linkIsUp k = true ∧ (s.hw.link k).held ≠ [] ∧
      (s.hw.link k).replays = 7 ∧ s.hw.fab.doneHigh = true) ∧
    (∃ (s : State) (k : Nat), s.hw.sysUp = true ∧ k < 4 ∧ s.hw.linkIsUp k = true ∧ (s.hw.link k).held ≠ [] ∧
      (s.hw.link k).replays < 7 ∧ s.hw.fab.doneHigh = true) ∧
    (∃ (s : State) (k : Nat) (lanes : Nat) (e : Hello) (w : Bool), s.hw.pinsFrozen = false ∧ s.hw.sysUp = true ∧
      (s.hw.link k).hello = some e ∧ laneMode lanes = some w ∧ s.hw.linkMay k = true ∧ s.hw.get (R.LNK_STAT_STATE k) =
      2 ∧ s.hw.xstate ≠ 6 ∧ e.letter = facing k ∧ e.seat ≠ s.hw.seat) ∧
    (∃ (s : State) (k : Nat), s.hw.sysUp = true ∧ k < 4 ∧ s.hw.get (R.LNK_STAT_STATE k) ≠ 0 ∧ s.hw.get
      R.TBL_STAT_PRESENT = 0 ∧ s.hw.get (R.LNK_STAT_STATE k) ≠ 3 ∧ (s.hw.link k).retrain = false ∧ (s.hw.link k).out =
      [] ∧ s.hw.watching = false ∧ s.hw.fab.doneHigh = true) ∧
    (∃ (s : State) (k : Nat) (g : Hw), s.hw.sysUp = true ∧ k < 4 ∧ s.hw.linkIsUp k = true ∧ (s.hw.link k).out = [] ∧
      s.hw.watching = false ∧ s.hw.fab.doneHigh = true ∧ g = (((s.hw.put (R.LNK_STAT_STATE k) 0).setLink k
      LinkState.reset).linkFlag k lfDOWN).postEvent 16 evLINK_CHANGE (0x20 + k)) ∧
    (∃ (s : State) (k : Nat), s.hw.sysUp = true ∧ s.hw.linkMay k = true ∧ s.hw.get (R.LNK_STAT_STATE k) = 0 ∧
      s.hw.xstate ≠ 0) := by
  refine ⟨?_, ?_, ?_, ?_, ?_, ?_, ?_, ?_, ?_, ?_, ?_, ?_, ?_, ?_, ?_⟩
  · exact ⟨Wit.hw (fun h => h.put (R.LNK_STAT_STATE 3) 3), 3, [], by decide +kernel⟩
  · have key : (match parseLFrame (LFrame.encode ⟨0, 1, 0, 0, 0, []⟩ : List Byte) with | some f => decide (((Wit.hw (fun h => h.put (R.LNK_STAT_STATE 3) 3)).hw.sysUp = true) ∧ (3 < 4) ∧ ((Wit.hw (fun h => h.put (R.LNK_STAT_STATE 3) 3)).hw.linkIsUp 3 = true) ∧ (f.ftype = 0) ∧ (f.seq = (((Wit.hw (fun h => h.put (R.LNK_STAT_STATE 3) 3)).hw.link 3).rx + 1) % 4096)) | _ => false) = true := by decide +kernel
    split at key
    · rename_i f e0
      have k := of_decide_eq_true key
      exact ⟨(Wit.hw (fun h => h.put (R.LNK_STAT_STATE 3) 3)), 3, (LFrame.encode ⟨0, 1, 0, 0, 0, []⟩ : List Byte), f, by decide +kernel, k.1, k.2.1, k.2.2.1, e0, k.2.2.2.1, k.2.2.2.2⟩
    · cases key
  · have key : (match parseLFrame (LFrame.encode ⟨0, 0, 0, 0, 0, []⟩ : List Byte) with | some f => decide (((Wit.hw (fun h => h.put (R.LNK_STAT_STATE 3) 3)).hw.sysUp = true) ∧ (3 < 4) ∧ ((Wit.hw (fun h => h.put (R.LNK_STAT_STATE 3) 3)).hw.linkIsUp 3 = true) ∧ (f.ftype = 0) ∧ (f.seq ≠ (((Wit.hw (fun h => h.put (R.LNK_STAT_STATE 3) 3)).hw.link 3).rx + 1) % 4096)) | _ => false) = true := by decide +kernel
    split at key
    · rename_i f e0
      have k := of_decide_eq_true key
      exact ⟨(Wit.hw (fun h => h.put (R.LNK_STAT_STATE 3) 3)), 3, (LFrame.encode ⟨0, 0, 0, 0, 0, []⟩ : List Byte), f, by decide +kernel, k.1, k.2.1, k.2.2.1, e0, k.2.2.2.1, k.2.2.2.2⟩
    · cases key
  · have key : (match parseLFrame (LFrame.encode ⟨1, 0, 0, 0, 0, []⟩ : List Byte) with | some f => decide (((Wit.hw (fun h => h.put (R.LNK_STAT_STATE 3) 3)).hw.sysUp = true) ∧ (3 < 4) ∧ ((Wit.hw (fun h => h.put (R.LNK_STAT_STATE 3) 3)).hw.linkIsUp 3 = true) ∧ (f.ftype = 1)) | _ => false) = true := by decide +kernel
    split at key
    · rename_i f e0
      have k := of_decide_eq_true key
      exact ⟨(Wit.hw (fun h => h.put (R.LNK_STAT_STATE 3) 3)), 3, (LFrame.encode ⟨1, 0, 0, 0, 0, []⟩ : List Byte), f, by decide +kernel, k.1, k.2.1, k.2.2.1, e0, k.2.2.2⟩
    · cases key
  · have key : (match parseLFrame (LFrame.encode ⟨2, 0, 0, 0, 0, []⟩ : List Byte) with | some f => decide (((Wit.hw (fun h => h.put (R.LNK_STAT_STATE 3) 3)).hw.sysUp = true) ∧ (3 < 4) ∧ ((Wit.hw (fun h => h.put (R.LNK_STAT_STATE 3) 3)).hw.linkIsUp 3 = true) ∧ (f.ftype = 2)) | _ => false) = true := by decide +kernel
    split at key
    · rename_i f e0
      have k := of_decide_eq_true key
      exact ⟨(Wit.hw (fun h => h.put (R.LNK_STAT_STATE 3) 3)), 3, (LFrame.encode ⟨2, 0, 0, 0, 0, []⟩ : List Byte), f, by decide +kernel, k.1, k.2.1, k.2.2.1, e0, k.2.2.2⟩
    · cases key
  · have key : (match (Wit.hw (fun h => { (h.put (R.LNK_STAT_STATE 3) 1) with fab := { h.fab with doneHigh := true } })).hw.linkAccept 3 3 (LFrame.encode ⟨3, 5, 0, 0, 0, []⟩ : List Byte) with | (some f, h) => decide (((Wit.hw (fun h => { (h.put (R.LNK_STAT_STATE 3) 1) with fab := { h.fab with doneHigh := true } })).hw.sysUp = true) ∧ (h.linkIsUp 3 = false) ∧ (7 < 8) ∧ ((facing 3 : Nat) < 4) ∧ (7 ≠ h.seat) ∧ ((facing 3 : Nat) = facing 3) ∧ ((((h.setLink 3 { h.link 3 with hello := some ⟨7, (facing 3 : Nat)⟩ }).put (R.LNK_STAT_STATE 3) 2).put (R.LNK_STAT_PEER_SEAT 3) 7).seat = h.seat) ∧ (h.fab.doneHigh = true)) | _ => false) = true := by decide +kernel
    split at key
    · rename_i f h e0
      have k := of_decide_eq_true key
      exact ⟨(Wit.hw (fun h => { (h.put (R.LNK_STAT_STATE 3) 1) with fab := { h.fab with doneHigh := true } })), 3, 7, (facing 3 : Nat), (LFrame.encode ⟨3, 5, 0, 0, 0, []⟩ : List Byte), f, h, by decide +kernel, k.1, e0, k.2.1, k.2.2.1, k.2.2.2.1, k.2.2.2.2.1, k.2.2.2.2.2.1, k.2.2.2.2.2.2.2⟩
    · cases key
  · have key : (match (Wit.hw (fun h => h.put (R.LNK_STAT_STATE 3) 3)).hw.linkAccept 3 4 (LFrame.encode ⟨4, 1, 0, 0, 0, []⟩ : List Byte) with | (some f, h) => decide (((Wit.hw (fun h => h.put (R.LNK_STAT_STATE 3) 3)).hw.sysUp = true) ∧ (h.get R.TBL_STAT_MASTER = h.seat)) | _ => false) = true := by decide +kernel
    split at key
    · rename_i f h e0
      have k := of_decide_eq_true key
      exact ⟨(Wit.hw (fun h => h.put (R.LNK_STAT_STATE 3) 3)), 3, (LFrame.encode ⟨4, 1, 0, 0, 0, []⟩ : List Byte), f, h, by decide +kernel, k.1, e0, k.2⟩
    · cases key
  · have key : (match Wit.slave.hw.linkAccept 3 4 (LFrame.encode ⟨4, 1, 0, 0, 0, []⟩) with
        | (some _, h) => decide ((Wit.timed h).get R.TBL_STAT_MASTER ≠ (Wit.timed h).seat ∧
            (Wit.timed h).bitOf R.TBL_STAT_PRESENT ((Wit.timed h).get R.TBL_STAT_MASTER) = true ∧
            (Wit.timed h).routeOf ((Wit.timed h).get R.TBL_STAT_MASTER) = 3)
        | _ => false) = true := by decide +kernel
    split at key
    · rename_i f h e0
      have k := of_decide_eq_true key
      exact ⟨Wit.slave, 3, 10, 4, _, _, LFrame.encode ⟨4, 1, 0, 0, 0, []⟩, f, h, Wit.timed h, by decide +kernel, by decide +kernel,
        e0, rfl, rfl, rfl, k.1, k.2.1, k.2.2⟩
    · cases key
  · have key : (match (Wit.hw (fun h => h.put (R.LNK_STAT_STATE 3) 3)).hw.linkAccept 3 5 (LFrame.encode ⟨5, 1, 0, 0, 0, []⟩ : List Byte) with | (some f, h) => decide (((Wit.hw (fun h => h.put (R.LNK_STAT_STATE 3) 3)).hw.sysUp = true) ∧ (f.flits = [])) | _ => false) = true := by decide +kernel
    split at key
    · rename_i f h e0
      have k := of_decide_eq_true key
      exact ⟨(Wit.hw (fun h => h.put (R.LNK_STAT_STATE 3) 3)), 3, (LFrame.encode ⟨5, 1, 0, 0, 0, []⟩ : List Byte), f, h, by decide +kernel, k.1, e0⟩
    · cases key
  · exact ⟨Wit.hw (fun h =>
      { ((h.put (R.LNK_STAT_STATE 3) 3).setLink 3 { LinkState.reset with held := [⟨0, 1, 0, 0, 0, []⟩], replays := 7 }) with
        fab := { h.fab with doneHigh := true } }), 3, by decide +kernel⟩
  · exact ⟨Wit.hw (fun h =>
      { ((h.put (R.LNK_STAT_STATE 3) 3).setLink 3 { LinkState.reset with held := [⟨0, 1, 0, 0, 0, []⟩] }) with fab := { h.fab with doneHigh := true } }),
      3, by decide +kernel⟩
  · have key : (match ((Wit.hw (fun h => (h.put (R.LNK_STAT_STATE 3) 2).setLink 3 { LinkState.reset with hello := some ⟨7, facing 3⟩ })).hw.link 3).hello with | some e => (match laneMode 0xFF with | some w => decide (((Wit.hw (fun h => (h.put (R.LNK_STAT_STATE 3) 2).setLink 3 { LinkState.reset with hello := some ⟨7, facing 3⟩ })).hw.sysUp = true) ∧ ((Wit.hw (fun h => (h.put (R.LNK_STAT_STATE 3) 2).setLink 3 { LinkState.reset with hello := some ⟨7, facing 3⟩ })).hw.linkMay 3 = true) ∧ ((Wit.hw (fun h => (h.put (R.LNK_STAT_STATE 3) 2).setLink 3 { LinkState.reset with hello := some ⟨7, facing 3⟩ })).hw.get (R.LNK_STAT_STATE 3) = 2) ∧ ((Wit.hw (fun h => (h.put (R.LNK_STAT_STATE 3) 2).setLink 3 { LinkState.reset with hello := some ⟨7, facing 3⟩ })).hw.xstate ≠ 6) ∧ (e.letter = facing 3) ∧ (e.seat ≠ (Wit.hw (fun h => (h.put (R.LNK_STAT_STATE 3) 2).setLink 3 { LinkState.reset with hello := some ⟨7, facing 3⟩ })).hw.seat)) | _ => false) | _ => false) = true := by decide +kernel
    split at key
    · rename_i e e0
      split at key
      · rename_i w e1
        have k := of_decide_eq_true key
        exact ⟨(Wit.hw (fun h => (h.put (R.LNK_STAT_STATE 3) 2).setLink 3 { LinkState.reset with hello := some ⟨7, facing 3⟩ })), 3, 0xFF, e, w, by decide +kernel, k.1, e0, e1, k.2.1, k.2.2.1, k.2.2.2.1, k.2.2.2.2.1, k.2.2.2.2.2⟩
      · cases key
    · cases key
  · exact ⟨Wit.hw (fun h =>
      { ((h.put (R.LNK_STAT_STATE 3) 1).put R.TBL_STAT_PRESENT 0) with fab := { h.fab with doneHigh := true } }), 3,
      by decide +kernel⟩
  · exact ⟨Wit.hw (fun h => { (h.put (R.LNK_STAT_STATE 3) 3) with fab := { h.fab with doneHigh := true } }), 3, _,
      by decide +kernel, by decide +kernel, by decide +kernel, by decide +kernel, by decide +kernel, by decide +kernel, rfl⟩
  · exact ⟨Wit.hw (fun h => (h.put (R.LNK_STAT_STATE 3) 0).put R.TBL_STAT_XSTATE 1), 3, by decide +kernel⟩

theorem wit_TableAgreement :
    (∃ (s : State) (k : Nat), s.hw.sysUp = true ∧ s.hw.tbl.closed = false ∧ s.hw.xstate < 5 ∧ k < 4 ∧ s.hw.linkIsUp k
      = true ∧ (s.hw.link k).held.length + s.hw.recList.length ≤ 64) ∧
    (∃ (s : State) (l : List IdRec), s.hw.sysUp = true ∧ s.hw.tbl.closed = false ∧ s.hw.xstate < 5 ∧ s.hw.is
      R.CFG_STAT_LOADED = true ∧ s.hw.tbl.clash = false ∧ s.hw.tbl.slept = false ∧ s.hw.tbl.reload = false ∧ l =
      s.hw.recList ∧ digestsDiffer l = false ∧ 2 ≤ l.length ∧ l.all (fun r => (r.st == iHELD || r.st == iSLEPT) &&
      r.known == maskOf s.hw.knownSet) = true ∧ l.foldl (fun (a : Nat) r => max a r.epoch) 0 = s.hw.ownRec.epoch) ∧
    (∃ (s : State), s.hw.sysUp = true ∧ s.hw.tbl.everUp = false ∧ s.hw.tbl.closed = false ∧ s.hw.tbl.solo = false ∧
      s.hw.xstate ≤ 1) ∧
    (∃ (s : State), s.hw.sysUp = true ∧ (s.hw.watching = true ∨ s.hw.xstate = xAGREED)) ∧
    (∃ (s : State) (q : Nat), s.hw.sysUp = true ∧ s.hw.watching = true ∧ SMap.get (fun _ => none) s.hw.tbl.hb q = none
      ∧ s.hw.allDown = false) ∧
    (∃ (s : State) (q : Nat) (g : Hw), s.hw.sysUp = true ∧ s.hw.watching = true ∧ SMap.get (fun _ => none) s.hw.tbl.hb
      q = none ∧ s.hw.allDown = false ∧ q < 8 ∧ q ≠ s.hw.seat ∧ s.hw.bitOf R.TBL_STAT_PRESENT q = true ∧ s.hw.bitOf
      R.TBL_STAT_LOST q = false ∧ s.hw.get R.TBL_MIRSTAT_PARTNER ≠ q ∧ s.hw.tbl.sleepCmd = none ∧ s.hw.tbl.redeal =
      none ∧ g = ((((s.hw.putBit R.TBL_STAT_LOST q true).dis dSEAT_LOST).errAt eTABLE 1 647).postEvent 16 evSEAT_LOST
      q).closeSeat q) ∧
    (∃ (s : State) (o : Nat), s.hw.sysUp = true ∧ s.hw.watching = true ∧ s.hw.allDown = true ∧ s.hw.presentList.length
      = 2 ∧ s.hw.presentList.find? (fun q => q != s.hw.seat) = some o) ∧
    (∃ (s : State), s.hw.sysUp = true ∧ s.hw.watching = true ∧ s.hw.allDown = true ∧ s.hw.presentList.length = 2) ∧
    (∃ (s : State), s.hw.sysUp = true ∧ s.hw.tbl.redeal = none) ∧
    (∃ (s : State) (x : Nat), s.hw.sysUp = true ∧ s.hw.tbl.redeal = some x ∧ s.hw.tbl.committed = true) ∧
    (∃ (s : State) (x : Nat), s.hw.sysUp = true ∧ s.hw.tbl.redeal = some x ∧ s.hw.tbl.committed = false ∧
      s.hw.coordinates = true) := by
  refine ⟨?_, ?_, ?_, ?_, ?_, ?_, ?_, ?_, ?_, ?_, ?_⟩
  · exact ⟨Wit.hw (fun h => h.put (R.LNK_STAT_STATE 3) 3), 3, by decide +kernel⟩
  · have key : decide (((Wit.ident).hw.sysUp = true) ∧ ((Wit.ident).hw.tbl.closed = false) ∧ ((Wit.ident).hw.xstate < 5) ∧ ((Wit.ident).hw.is R.CFG_STAT_LOADED = true) ∧ ((Wit.ident).hw.tbl.clash = false) ∧ ((Wit.ident).hw.tbl.slept = false) ∧ ((Wit.ident).hw.tbl.reload = false) ∧ (digestsDiffer ((Wit.ident).hw.recList : List IdRec) = false) ∧ (2 ≤ ((Wit.ident).hw.recList : List IdRec).length) ∧ (((Wit.ident).hw.recList : List IdRec).all (fun r => (r.st == iHELD || r.st == iSLEPT) && r.known == maskOf (Wit.ident).hw.knownSet) = true) ∧ (((Wit.ident).hw.recList : List IdRec).foldl (fun (a : Nat) r => max a r.epoch) 0 = (Wit.ident).hw.ownRec.epoch)) = true := by decide +kernel
    have k := of_decide_eq_true key
    exact ⟨(Wit.ident), _, k.1, k.2.1, k.2.2.1, k.2.2.2.1, k.2.2.2.2.1, k.2.2.2.2.2.1, k.2.2.2.2.2.2.1, rfl, k.2.2.2.2.2.2.2.1, k.2.2.2.2.2.2.2.2.1, k.2.2.2.2.2.2.2.2.2.1, k.2.2.2.2.2.2.2.2.2.2⟩
  · exact ⟨State.reset, by decide +kernel⟩
  · exact ⟨Wit.hw (fun h => Wit.watch h), by decide +kernel⟩
  · exact ⟨Wit.hw (fun h => (Wit.watch h).put (R.LNK_STAT_STATE 0) 3), 7, by decide +kernel⟩
  · exact ⟨Wit.hw (fun h => (Wit.watch h).put (R.LNK_STAT_STATE 0) 3), 7, _, by decide +kernel, by decide +kernel, by decide +kernel, by decide +kernel, by decide +kernel, by decide +kernel, by decide +kernel, by decide +kernel, by decide +kernel, by decide +kernel, by decide +kernel, rfl⟩
  · exact ⟨Wit.hw Wit.watch, 7, by decide +kernel⟩
  · exact ⟨Wit.hw (fun h => (Wit.watch h).put R.TBL_STAT_PRESENT 3), by decide +kernel⟩
  · exact ⟨State.reset, by decide +kernel⟩
  · exact ⟨Wit.hw (fun h => { h with tbl := { h.tbl with redeal := some 7, committed := true } }), 7,
      by decide +kernel⟩
  · exact ⟨Wit.hw (fun h => { (h.put R.TBL_STAT_PRESENT 1) with tbl := { h.tbl with redeal := some 7 } }), 7,
      by decide +kernel⟩

theorem wit_TableTime :
    (∃ (s : State) (k : Nat), s.hw.sysUp = true ∧ k < 4 ∧ s.hw.linkIsUp k = true ∧ (s.hw.link k).held.length < 64) ∧
    (∃ (s : State) (v : Nat), v < 2 ^ 32 ∧ s.hw.blkDown .tbl R.TBL_TIME_OFS = false ∧ s.hw.isMaster = true) ∧
    (∃ (s : State) (v : Nat), v < 2 ^ 32 ∧ s.hw.blkDown .tbl R.TBL_TIME_OFS = false ∧ s.hw.isMaster = false) ∧
    (∃ (s : State), s.hw.sysUp = true ∧ s.hw.is R.TBL_ALARM_CTL_ARM = true ∧ s.hw.rd64 R.TBL_ALARM_LO R.TBL_ALARM_HI ≤
      s.hw.clk.tt ∧ s.hw.is R.TBL_STAT_TIME_BAD = false) ∧
    (∃ (s : State), s.hw.sysUp = true ∧ (s.hw.is R.TBL_ALARM_CTL_ARM = false ∨ s.hw.clk.tt < s.hw.rd64 R.TBL_ALARM_LO
      R.TBL_ALARM_HI)) ∧
    (∃ (s : State), s.hw.sysUp = true ∧ s.hw.is R.TBL_ALARM_CTL_ARM = true ∧ s.hw.rd64 R.TBL_ALARM_LO R.TBL_ALARM_HI ≤
      s.hw.clk.tt ∧ s.hw.is R.TBL_STAT_TIME_BAD = true) ∧
    (∃ (s : State) (v : Nat), v < 2 ^ 32 ∧ s.hw.blkDown .tbl R.TBL_TIME_OFS = false ∧ s.hw.isMaster = true ∧ 16000 <
      (sext 32 v).natAbs) ∧
    (∃ (s : State) (v : Nat), v < 2 ^ 32 ∧ s.hw.blkDown .tbl R.TBL_TIME_OFS = false ∧ s.hw.isMaster = true ∧ (sext 32
      v).natAbs ≤ 16000) := by
  refine ⟨?_, ?_, ?_, ?_, ?_, ?_, ?_, ?_⟩
  · exact ⟨Wit.hw (fun h => h.put (R.LNK_STAT_STATE 3) 3), 3, by decide +kernel⟩
  · exact ⟨State.reset, 0xFFFFFFFF, by decide +kernel⟩
  · exact ⟨Wit.hw (fun h => h.put R.TBL_STAT_SEAT 7), 1, by decide +kernel⟩
  · exact ⟨Wit.hw (fun h => h.put R.TBL_ALARM_CTL_ARM 1), by decide +kernel⟩
  · exact ⟨State.reset, by decide +kernel⟩
  · exact ⟨Wit.hw (fun h => (h.put R.TBL_ALARM_CTL_ARM 1).put R.TBL_STAT_TIME_BAD 1), by decide +kernel⟩
  · exact ⟨State.reset, 16001, by decide +kernel⟩
  · exact ⟨State.reset, 2 ^ 32 - 16000, by decide +kernel⟩

theorem wit_ErrorsAndHeat :
    (∃ (s : State) (r : Report), s.hw.busDown = false ∧ nextReport s.hw.err = some r ∧ r.fatal = false) ∧
    (∃ (s : State) (r : Report), s.hw.busDown = false ∧ nextReport s.hw.err = some r ∧ r.fatal = true) ∧
    (∃ (s : State), s.hw.busDown = false ∧ nextReport s.hw.err = none) ∧
    (∃ (s : State), s.hw.thermalRuns = true ∧ (s.hw.temp R.THM_TMAX_TEMP < (s.hw.get R.THM_CAP_CFG_T_ON : Int) * 16 ∨
      s.hw.get R.THM_CAP_STAT_CAP ≤ s.hw.get R.THM_CAP_CFG_FLOOR) ∧ ((s.hw.get R.THM_CAP_CFG_T_OFF : Int) * 16 ≤
      s.hw.temp R.THM_TMAX_TEMP ∨ 28 ≤ s.hw.get R.THM_CAP_STAT_CAP)) ∧
    (∃ (s : State), s.hw.thermalRuns = true ∧ (s.hw.get R.THM_CAP_CFG_T_ON : Int) * 16 ≤ s.hw.temp R.THM_TMAX_TEMP ∧
      s.hw.get R.THM_CAP_CFG_FLOOR < s.hw.get R.THM_CAP_STAT_CAP) ∧
    (∃ (s : State), s.hw.thermalRuns = true ∧ s.hw.temp R.THM_TMAX_TEMP < (s.hw.get R.THM_CAP_CFG_T_ON : Int) * 16 ∧
      s.hw.temp R.THM_TMAX_TEMP < (s.hw.get R.THM_CAP_CFG_T_OFF : Int) * 16 ∧ s.hw.get R.THM_CAP_STAT_CAP < 28) ∧
    (∃ (s : State) (l : List Nat), (l.length ≠ 18 ∨ s.hw.thermalRuns = false)) ∧
    (∃ (s : State) (l : List Nat) (n : Nat), s.hw.thermalRuns = true ∧ l.length = 18 ∧ n < 18) ∧
    (∃ (r : Nat), r < 10) := by
  refine ⟨?_, ?_, ?_, ?_, ?_, ?_, ?_, ?_, ?_⟩
  · have key : (match nextReport (Wit.hw (fun h => h.errAt eMEMORY 5 640)).hw.err with
        | some r => decide ((Wit.hw (fun h => h.errAt eMEMORY 5 640)).hw.busDown = false ∧ r.fatal = false) | _ => false) = true := by decide +kernel
    split at key
    · rename_i r e0
      have k := of_decide_eq_true key
      exact ⟨Wit.hw (fun h => h.errAt eMEMORY 5 640), r, k.1, e0, k.2⟩
    · cases key
  · have key : (match nextReport (Wit.hw (fun h => h.errAt eMEMORY 3 640)).hw.err with
        | some r => decide ((Wit.hw (fun h => h.errAt eMEMORY 3 640)).hw.busDown = false ∧ r.fatal = true) | _ => false) = true := by decide +kernel
    split at key
    · rename_i r e0
      have k := of_decide_eq_true key
      exact ⟨Wit.hw (fun h => h.errAt eMEMORY 3 640), r, k.1, e0, k.2⟩
    · cases key
  · exact ⟨State.reset, by decide +kernel⟩
  · exact ⟨Wit.hw (fun h => (h.put R.THM_TMAX_TEMP 0).put R.THM_CAP_STAT_CAP 28), by decide +kernel⟩
  · exact ⟨Wit.hw (fun h => (h.put R.THM_TMAX_TEMP 2000).put R.THM_CAP_STAT_CAP 28), by decide +kernel⟩
  · exact ⟨Wit.hw (fun h => (h.put R.THM_TMAX_TEMP 0).put R.THM_CAP_STAT_CAP 27), by decide +kernel⟩
  · exact ⟨State.reset, [], by decide +kernel⟩
  · exact ⟨State.reset, List.replicate 18 800, 17, by decide +kernel⟩
  · exact ⟨9, by decide +kernel⟩

end Sys2Proof.Tests
end

section
/-!
SUPPORT. The statements of the scope: what a step and a command do to the queue, what reset leaves, what a register
write leaves, and the debug accesses of the test access port (chapters 0, 3 and 4).
-/
namespace Sys2Proof.Machine

open Sys2Proof

/-! ### Steps and the queue -/

/-- Settles O1: `step` matches on the queue. -/
theorem stepRunsFront : Obligations.StepRunsFront := fun _ _ _ => rfl

theorem step_of_empty {s : State} (hq : s.pending = []) : step s = .next s.idle := by
  simp only [step, hq]

theorem idle_of_stopped {s : State} (hr : s.hw.fabRuns = false) : s.idle = s := by
  simp [State.idle, hr]

theorem idle_of_running {s : State} (hr : s.hw.fabRuns = true) : s.idle = { s with hw := s.hw.fabTick s.hw.prIso } := by
  simp [State.idle, hr]

/-- A moment of user logic moves the fabric and the free-value counter alone. -/
theorem fabTick_frame (h : Hw) (iso : Nat) :
    h.fabTick iso = { h with fab := (h.fabTick iso).fab, free := (h.fabTick iso).free } := by
  unfold Hw.fabTick
  split <;> rfl

/-- Settles O2, by the two cases of `State.idle`. -/
theorem emptyQueueIdles : Obligations.EmptyQueueIdles := by
  refine ⟨fun s hq hr => ?_, fun s hq hr => ⟨s.hw.fabTick s.hw.prIso, ?_, fabTick_frame _ _⟩⟩
  · rw [step_of_empty hq, idle_of_stopped hr]
  · rw [step_of_empty hq, idle_of_running hr]

@[simp] theorem porLoad_pending (s : State) : s.porLoad.pending = s.pending := by
  unfold State.porLoad
  split <;> rfl

@[simp] theorem fuseDone_pending (s : State) (obs : Bool) : (s.fuseDone obs).pending = s.pending := by
  unfold State.fuseDone
  split <;> rfl

@[simp] theorem fuseCut_pending (s : State) : s.fuseCut.pending = s.pending := by
  unfold State.fuseCut
  split <;> rfl

/-- A command that replaces the hardware alone answers, and leaves the queue. -/
theorem answers_of_hw {s : State} {o : Host.Outcome State Fault Refusal} (h : Hw) (ho : o = .next { s with hw := h }) :
    ∃ t, o = .next t ∧ t.pending = s.pending := ⟨_, ho, rfl⟩

/-- Settles O4: every arm replaces the hardware alone but the five that load, program or cut off fuses. -/
theorem everyCommandAnswers : Obligations.EveryCommandAnswers := by
  intro c s
  cases c
  case porDetect => exact ⟨_, rfl, fuseCut_pending s⟩
  case porRelease => exact ⟨_, rfl, porLoad_pending _⟩
  case resetPinRelease p => exact ⟨_, rfl, porLoad_pending _⟩
  case resetNvDelayEnd => exact ⟨_, rfl, porLoad_pending _⟩
  case fusePulseDone obs => exact ⟨_, rfl, fuseDone_pending s obs⟩
  all_goals exact answers_of_hw _ rfl

/-! ### The reset state -/

/-- Partitions are OFF and signal cores IDLE at reset: a STATE of 0, the Reset entry (R851, R950). -/
theorem partition_and_core_states_reset : ∀ p, p < 16 → Hw.reset.pstate p = 0 ∧ Hw.reset.sstate p = 0 := by decide

/-- Settles O3: the register values by the Reset entries of the table, the tiles and memories because nothing is listed. -/
theorem resetValues : Obligations.ResetValues := by
  refine ⟨rfl, rfl, ?_, ?_, ?_, ?_, ?_, partition_and_core_states_reset, fun _ _ => rfl, fun _ => ⟨rfl, rfl⟩⟩
  all_goals decide

/-! ### Access codes (R10, R16) -/

/-- Taking the bits of `b` out of `a` by subtraction clears them. -/
theorem testBit_sub_and (a b k : Nat) : (a - (a &&& b)).testBit k = (a.testBit k && !b.testBit k) := by
  have hle : a &&& b ≤ a := Nat.and_le_left
  have hmod : (a &&& b) % 2 = 1 ↔ a % 2 = 1 ∧ b % 2 = 1 := Nat.and_mod_two_eq_one
  induction k generalizing a b with
  | zero =>
    simp only [Nat.testBit_zero, ← Bool.decide_and, ← decide_not, decide_eq_decide]
    omega
  | succ k ih =>
    have hdiv : (a &&& b) / 2 = a / 2 &&& b / 2 := Nat.and_div_two
    have hhalf : (a - (a &&& b)) / 2 = a / 2 - (a / 2 &&& b / 2) := by omega
    rw [Nat.testBit_succ, Nat.testBit_succ, Nat.testBit_succ, hhalf, ih _ _ Nat.and_le_left Nat.and_mod_two_eq_one]

/-- A value of a field's own width is written as it is. -/
theorem bits_setBits_of_lt (w : Nat) {hi lo x : Nat} (hf : lo ≤ hi) (hx : x < 2 ^ (hi + 1 - lo)) :
    bits (setBits w hi lo x) hi lo = x := by
  rw [bits_setBits _ _ _ _ (by omega), Nat.mod_eq_of_lt hx]

/-- A write of one field keeps the word, or replaces that field in it. -/
theorem fieldWrite_cases (locked : Bool) (v w : Nat) (f : FieldDef) :
    fieldWrite locked v w f = w ∨ ∃ x, fieldWrite locked v w f = setBits w f.hi f.lo x := by
  unfold fieldWrite
  cases f.acc
  case rw | rwl =>
    dsimp only
    split
    · exact .inl rfl
    · exact .inr ⟨_, rfl⟩
  case w1c | w1s => exact .inr ⟨_, rfl⟩
  case ro | wo | rc => exact .inl rfl

/-- Bits outside the field stay. -/
theorem testBit_fieldWrite_outside (locked : Bool) (v w : Nat) {f : FieldDef} (hf : f.lo ≤ f.hi) {k : Nat}
    (hk : k < f.lo ∨ f.hi < k) : (fieldWrite locked v w f).testBit k = w.testBit k := by
  obtain h | ⟨x, h⟩ := fieldWrite_cases locked v w f
  · rw [h]
  · rw [h, testBit_setBits _ _ _ _ _ (by omega), if_neg (by omega)]

section
variable (locked : Bool) (v w : Nat) {f : FieldDef}

theorem fieldWrite_kept (ha : f.acc = .ro ∨ f.acc = .wo ∨ f.acc = .rc) : fieldWrite locked v w f = w := by
  obtain h | h | h := ha <;> simp only [fieldWrite, h]

theorem bits_fieldWrite_rw (hf : f.lo ≤ f.hi) (ha : f.acc = .rw) : bits (fieldWrite locked v w f) f.hi f.lo =
    if f.reserved (bits v f.hi f.lo) = true then bits w f.hi f.lo else bits v f.hi f.lo := by
  simp only [fieldWrite, ha]
  split
  · rfl
  · exact bits_setBits_of_lt w hf (bits_lt ..)

theorem bits_fieldWrite_rwl (hf : f.lo ≤ f.hi) (ha : f.acc = .rwl) : bits (fieldWrite locked v w f) f.hi f.lo =
    if locked = true ∨ f.reserved (bits v f.hi f.lo) = true then bits w f.hi f.lo else bits v f.hi f.lo := by
  simp only [fieldWrite, ha, Bool.or_eq_true]
  split
  · rfl
  · exact bits_setBits_of_lt w hf (bits_lt ..)

theorem testBit_fieldWrite_w1c (hf : f.lo ≤ f.hi) (ha : f.acc = .w1c) (k : Nat) :
    (bits (fieldWrite locked v w f) f.hi f.lo).testBit k =
      ((bits w f.hi f.lo).testBit k && !(bits v f.hi f.lo).testBit k) := by
  simp only [fieldWrite, ha]
  rw [bits_setBits_of_lt w hf (Nat.lt_of_le_of_lt (Nat.sub_le ..) (bits_lt ..)), testBit_sub_and]

theorem testBit_fieldWrite_w1s (hf : f.lo ≤ f.hi) (ha : f.acc = .w1s) (k : Nat) :
    (bits (fieldWrite locked v w f) f.hi f.lo).testBit k =
      ((bits w f.hi f.lo).testBit k || (bits v f.hi f.lo).testBit k) := by
  simp only [fieldWrite, ha]
  rw [bits_setBits_of_lt w hf (Nat.or_lt_two_pow (bits_lt ..) (bits_lt ..)), Nat.testBit_or]

end

/-- Settles O20, one lemma per access code. -/
theorem accessCodes : Obligations.AccessCodes := fun locked v w _ hf =>
  ⟨fieldWrite_kept locked v w, bits_fieldWrite_rw locked v w hf, bits_fieldWrite_rwl locked v w hf,
    testBit_fieldWrite_w1c locked v w hf, testBit_fieldWrite_w1s locked v w hf,
    fun _ => testBit_fieldWrite_outside locked v w hf⟩

/-! ### Register writes (R10, R18, R22, R25, R1152) -/

@[simp] theorem leBytes_length (n v : Nat) : (leBytes n v).length = n := by
  induction n generalizing v with
  | zero => rfl
  | succ n ih => rw [leBytes, List.length_cons, ih]

/-- The bytes of a number spell its low bytes (R8). -/
theorem ofLe_leBytes (n v : Nat) : ofLe (leBytes n v) = v % 256 ^ n := by
  induction n generalizing v with
  | zero => simp [leBytes, ofLe, Nat.mod_one]
  | succ n ih =>
    rw [leBytes, ofLe, ih, BitVec.toNat_ofNat, pow_succ' 256 n]
    exact Nat.mod_mul.symm

theorem dealerWin_reg {a : Nat} (hlo : 0x40000000 ≤ a) (hhi : a < 0x40100000) : dealerWin a = .reg a := by
  unfold dealerWin
  rw [if_neg (by omega), if_neg (by omega), if_neg (by omega), if_pos ⟨hlo, hhi⟩]

/-- An aligned word write in the register area is a register write. -/
theorem dmapWrite_reg (h : Hw) {a : Nat} (v src : Nat) (ans : UAns) (hw : dealerWin a = .reg a) (ha : a % 4 = 0) :
    h.dmapWrite a (leBytes 4 v) src ans = h.regWrite a (v % 2 ^ 32) src := by
  simp only [Hw.dmapWrite, hw, leBytes_length, ofLe_leBytes, ha, ne_eq, not_true_eq_false, or_self, if_false]
  rfl

/-- A register whose block answers stores what is written to it, unless it is a core's MDATA. -/
theorem regWrite_of_regDef (h : Hw) {r : RegDef} {a : Nat} (v src : Nat) (hr : regDef? a = some r)
    (hd : h.blkDown r.blk a = false) (hm : mdataCore a = none) :
    h.regWrite a v src = (.ok 0, h.regStore r a (v % 2 ^ 32) src) := by
  simp only [Hw.regWrite, hr, hd, hm, Bool.false_eq_true, if_false]

/-- In the network block only NOC_FOLD_REQ acts; the other registers are written by their access codes (R731). -/
theorem regStore_noc (h : Hw) {r : RegDef} {a : Nat} (v src : Nat) (hb : r.blk = .noc) (ha : a ≠ R.NOC_FOLD_REQ) :
    h.regStore r a v src = h.wr a (h.written r a v) := by
  simp only [Hw.regStore, hb, if_neg ha, Hw.plainWrite]

/-- A write of a whole word without events in its cycle. -/
theorem registerWrite_word (h : Hw) {a : Nat} (v src : Nat) (ans : UAns) (hw : dealerWin a = .reg a) (ha : a % 4 = 0) :
    h.registerWrite ⟨a, v, src, 4, false, ans, 0⟩ = (h.regWrite a (v % 2 ^ 32) src).2 := by
  simp only [Hw.registerWrite, hw, ne_eq, not_true_eq_false, false_and, if_false, Bool.false_eq_true,
    dmapWrite_reg h v src ans hw ha]

/-- A write whose byte parity fails is reported, and that is all (R1152). -/
theorem registerWrite_parity (h : Hw) (a v src n ev : Nat) (ans : UAns) :
    h.registerWrite ⟨a, v, src, n, true, ans, ev⟩ = h.errAt eCRC 3 nodeREG := rfl

theorem registerWrites_single (h : Hw) (w : RegWr) : h.registerWrites [w] = h.registerWrite w := rfl

/-- A report raised by a block waits in its queue or is counted as dropped: the collector's state alone moves (R1240). -/
theorem raiseRep_frame (h : Hw) (r : Report) : h.raiseRep r = { h with err := (h.raiseRep r).err } := by
  unfold Hw.raiseRep
  dsimp only
  split <;> rfl

theorem errAt_frame (h : Hw) (cls code node : Nat) :
    h.errAt cls code node = { h with err := (h.errAt cls code node).err } := raiseRep_frame h _

/-- Settles O19: a write of the network block goes by its access codes, and a bad parity only raises a report. -/
theorem registerWrites : Obligations.RegisterWrites := by
  refine ⟨fun s r a v src ans hr hb hf hm hlo hhi ha hd => ?_, fun s a v src n ev ans => ?_⟩
  · have hw : dealerWin a = .reg a := dealerWin_reg hlo hhi
    rw [exec_registerWrite, execRegisterWrite, State.upd, State.next, registerWrites_single,
      registerWrite_word _ _ _ _ hw ha, regWrite_of_regDef _ _ _ hr hd hm, regStore_noc _ _ _ hb hf, Nat.mod_mod]
  · have he : s.hw.registerWrites [⟨a, v, src, n, true, ans, ev⟩] =
        { s.hw with err := (s.hw.errAt eCRC 3 nodeREG).err } := by
      rw [registerWrites_single, registerWrite_parity, ← errAt_frame]
    exact ⟨_, congrArg s.next he, rfl, rfl, rfl⟩

/-! ### Debug accesses (R194-R198, R206, R319-R321) -/

theorem hbmPort_update (h : Hw) (v : Nat) (hi : h.tapInternal = false) (hlo : 0x020 ≤ h.tap.ir)
    (hhi : h.tap.ir ≤ 0x023) (ho : h.wrapperOpen (h.tap.ir / 2 % 2) = true) : h.hbmPort (some v) =
      { h with tap := { h.tap with wrap := NMap.set h.tap.wrap (2 * (h.tap.ir / 2 % 2) + h.tap.ir % 2) v } } := by
  have hop : ¬ (h.tap.ir < 0x020 ∨ 0x023 < h.tap.ir) := by omega
  simp only [Hw.hbmPort, hi, hop, ho, decide_false, Bool.or_self, Bool.not_true, Bool.false_eq_true, if_false]

theorem dealerWin_user {a : Nat} (hlo : 0x60000000 ≤ a) (hhi : a < 0x61000000) : dealerWin a = .user a := by
  unfold dealerWin
  rw [if_neg (by omega), if_neg (by omega), if_neg (by omega), if_neg (by omega), if_neg (by omega), if_pos ⟨hlo, hhi⟩]

theorem busDown_of_sysUp {h : Hw} (hu : h.sysUp = true) : h.busDown = false := by
  simpa [Hw.sysUp] using hu

section
variable {h : Hw} {a : Nat} (ans : UAns) (hu : h.sysUp = true) (hlo : 0x60000000 ≤ a) (hhi : a < 0x61000000)
  (ha : a % 4 = 0)
include hu hlo hhi ha

/-- An aligned word read of the user register window is the user register port's answer. -/
theorem dmapRead_user : h.dmapRead a 4 ans =
    (if (h.ureg ans).1 then .err else .ok (h.ureg ans).2.1, (h.ureg ans).2.2) := by
  simp only [Hw.dmapRead, dealerWin_user hlo hhi, ha, busDown_of_sysUp hu, ne_eq, not_true_eq_false, Bool.false_eq_true,
    or_self, if_false]

/-- So is an aligned word write, but for the data. -/
theorem dmapWrite_user (v src : Nat) : h.dmapWrite a (leBytes 4 v) src ans =
    (if (h.ureg ans).1 then .err else .ok 0, (h.ureg ans).2.2) := by
  simp only [Hw.dmapWrite, dealerWin_user hlo hhi, leBytes_length, ha, busDown_of_sysUp hu, ne_eq, not_true_eq_false,
    Bool.false_eq_true, or_self, if_false]

end

theorem ureg_value {h : Hw} (w : Nat) (hd : h.uregDown = false) : h.ureg (.value w) = (false, w % 2 ^ 32, h) := by
  simp [Hw.ureg, hd]

theorem ureg_timeout {h : Hw} (hd : h.uregDown = false) :
    h.ureg .timeout = (true, 0, h.raise R.FAB_UREG_ERR_TMO 0) := by
  simp [Hw.ureg, hd]

theorem dmapRead_none (h : Hw) {a : Nat} (n : Nat) (ans : UAns) (hw : dealerWin a = .none) :
    h.dmapRead a n ans = (.err, h) := by
  simp only [Hw.dmapRead, hw]

theorem dmapWrite_none (h : Hw) {a : Nat} (bs : List Byte) (src : Nat) (ans : UAns) (hw : dealerWin a = .none) :
    h.dmapWrite a bs src ans = (.err, h) := by
  simp only [Hw.dmapWrite, hw]

/-! The access that an answer ends leaves no access waiting, as none waited before it. -/

section
variable {h g : Hw} {a : Nat} {ans : UAns} (hw : g.tap.dbgWait = none)
include hw

/-- A read that is answered leaves its address and data (R196). -/
theorem dbgAccess_read_ok {v : Nat} (hr : h.dmapRead a 4 ans = (.ok v, g)) : h.dbgAccess a none ans =
    { g with tap := { g.tap with dbgAddr := a, dbgErr := false, dbgData := v } } := by
  simp [Hw.dbgAccess, hr, ← hw]

/-- A write that is answered leaves its address (R196). -/
theorem dbgAccess_write_ok {v w : Nat} (hr : h.dmapWrite a (leBytes 4 v) srcTap ans = (.ok w, g)) :
    h.dbgAccess a (some v) ans = { g with tap := { g.tap with dbgAddr := a, dbgErr := false } } := by
  simp [Hw.dbgAccess, hr, ← hw]

theorem dbgAccess_read_err (hr : h.dmapRead a 4 ans = (.err, g)) :
    h.dbgAccess a none ans = { g with tap := { g.tap with dbgAddr := a, dbgErr := true } } := by
  simp [Hw.dbgAccess, hr, ← hw]

theorem dbgAccess_write_err {v : Nat} (hr : h.dmapWrite a (leBytes 4 v) srcTap ans = (.err, g)) :
    h.dbgAccess a (some v) ans = { g with tap := { g.tap with dbgAddr := a, dbgErr := true } } := by
  simp [Hw.dbgAccess, hr, ← hw]

end

/-- An access outside every window of the Dealer map is an error, whichever way it goes. -/
theorem dbgAccess_outside {h : Hw} {a : Nat} (wr : Option Nat) (ans : UAns) (hw : h.tap.dbgWait = none)
    (ha : dealerWin a = .none) :
    h.dbgAccess a wr ans = { h with tap := { h.tap with dbgAddr := a, dbgErr := true } } := by
  cases wr with
  | none => exact dbgAccess_read_err hw (dmapRead_none h 4 ans ha)
  | some v => exact dbgAccess_write_err hw (dmapWrite_none h _ _ ans ha)

/-- DBG_ACCESS is loaded from the pins and no access is in progress: the row makes its access. -/
theorem dbgAccessRow_eq {h : Hw} {a : Nat} (wr : Option Nat) (ans : UAns) (hi : h.tapInternal = false)
    (hir : h.tap.ir = irDBG_ACCESS) (hw : h.tap.dbgWait = none) (ha : a < 2 ^ 32) :
    h.dbgAccessRow a wr ans = h.dbgAccess a wr ans := by
  rw [Hw.dbgAccessRow, if_neg (by simp [hi, hir, hw]), Nat.mod_eq_of_lt ha]

/-- USERn is loaded: n is 1 to 4 and no access is in progress. -/
theorem userSel_bounds {h : Hw} {n : Nat} (hs : h.userSel n = true) : h.tap.dbgWait = none ∧ 1 ≤ n ∧ n ≤ 4 := by
  simp only [Hw.userSel, Bool.and_eq_true, Option.isNone_iff_eq_none, decide_eq_true_eq] at hs
  obtain ⟨⟨⟨-, hw⟩, hn⟩, -⟩ := hs
  exact ⟨hw, hn⟩

theorem userWrite_of_sel {h : Hw} {n : Nat} (v : Nat) (ans : UAns) (hs : h.userSel n = true) :
    h.userWrite n v ans = h.dbgAccess (0x60000000 + 8 * (n - 1)) (some v) ans := by
  rw [Hw.userWrite, if_pos hs]

theorem userWrite_value {h : Hw} {n : Nat} (v w : Nat) (hs : h.userSel n = true) (hu : h.sysUp = true)
    (hd : h.uregDown = false) : h.userWrite n v (.value w) =
      { h with tap := { h.tap with dbgAddr := 0x60000000 + 8 * (n - 1), dbgErr := false } } := by
  obtain ⟨hw, hn⟩ := userSel_bounds hs
  have hr := dmapWrite_user (a := 0x60000000 + 8 * (n - 1)) (.value w) hu (by omega) (by omega) (by omega) v srcTap
  rw [ureg_value w hd] at hr
  rw [userWrite_of_sel _ _ hs, dbgAccess_write_ok hw hr]

theorem userWrite_timeout {h : Hw} {n : Nat} (v : Nat) (hs : h.userSel n = true) (hu : h.sysUp = true)
    (hd : h.uregDown = false) : h.userWrite n v .timeout = { h.raise R.FAB_UREG_ERR_TMO 0 with
      tap := { h.tap with dbgAddr := 0x60000000 + 8 * (n - 1), dbgErr := true } } := by
  obtain ⟨hw, hn⟩ := userSel_bounds hs
  have hr := dmapWrite_user (a := 0x60000000 + 8 * (n - 1)) .timeout hu (by omega) (by omega) (by omega) v srcTap
  rw [ureg_timeout hd] at hr
  rw [userWrite_of_sel _ _ hs, dbgAccess_write_err ((congrArg _ (Hw.raise_tap ..)).trans hw) hr, Hw.raise_tap]

/-- A read of the user register window that is acknowledged leaves its address and data. -/
theorem dbgAccess_user_value {h : Hw} {a : Nat} (w : Nat) (hw : h.tap.dbgWait = none) (hu : h.sysUp = true)
    (hd : h.uregDown = false) (hlo : 0x60000000 ≤ a) (hhi : a < 0x61000000) (ha : a % 4 = 0) :
    h.dbgAccess a none (.value w) =
      { h with tap := { h.tap with dbgAddr := a, dbgErr := false, dbgData := w % 2 ^ 32 } } := by
  have hr := dmapRead_user (.value w) hu hlo hhi ha
  rw [ureg_value w hd] at hr
  exact dbgAccess_read_ok hw hr

theorem userRead_value {h : Hw} {n : Nat} (w : Nat) (hs : h.userSel n = true) (hu : h.sysUp = true)
    (hd : h.uregDown = false) : h.userRead n (.value w) = { h with tap := { h.tap with
      dbgAddr := 0x60000000 + 8 * (n - 1) + 4, dbgErr := false, dbgData := w % 2 ^ 32, drCap := w % 2 ^ 32 } } := by
  obtain ⟨hw, hn⟩ := userSel_bounds hs
  rw [Hw.userRead, if_pos hs, dbgAccess_user_value w hw hu hd (by omega) (by omega) (by omega)]

/-! ### The halt of the Dealer (R206) -/

/-- No block answers in LISTEN or DEEP (R25). -/
theorem asleep_of_blkDown {h : Hw} {b : Blk} {a : Nat} (hd : h.blkDown b a = false) : h.asleep = false := by
  simp only [Hw.blkDown, Hw.busDown, Bool.or_eq_false_iff] at hd
  obtain ⟨⟨⟨ha, -⟩, -⟩, -⟩ := hd
  exact ha

theorem asleep_putB_other (h : Hw) {f : Fld} (b : Bool) (hf : f.lo ≤ f.hi) (hw : f.hi < 32)
    (ha : R.PWR_STATE ≠ f.addr) : (h.putB f b).asleep = h.asleep := by
  simp only [Hw.asleep, Hw.pwr, Hw.putB_pwr', Hw.get_putB_other h f R.PWR_STATE_STATE b hf hw (.inl ha)]

theorem dbgCtl_awake (h : Hw) (v : Nat) (ha : h.asleep = false) : h.dbgCtl v =
    { h.putB R.DBG_CTL_HALT (bit v 0) with rst := { h.rst with dealerRun := !bit v 0 } } := by
  have he : (h.putB R.DBG_CTL_HALT (bit v 0)).asleep = false :=
    (asleep_putB_other h _ (by decide) (by decide) (by decide)).trans ha
  simp only [Hw.dbgCtl, he, Bool.false_eq_true, if_false, Hw.putB_rst]

theorem regStore_dbgCtl (h : Hw) {r : RegDef} (v src : Nat) (hb : r.blk = .dbg) :
    h.regStore r R.DBG_CTL v src = h.dbgCtl v := by
  simp only [Hw.regStore, hb]
  rfl

theorem regWrite_dbgCtl (h : Hw) (v src : Nat) (hd : h.blkDown .dbg R.DBG_CTL = false) :
    h.regWrite R.DBG_CTL v src = (.ok 0, h.dbgCtl (v % 2 ^ 32)) := by
  obtain ⟨r, hr, hb⟩ : ∃ r, regDef? R.DBG_CTL = some r ∧ r.blk = .dbg := ⟨_, rfl, rfl⟩
  rw [regWrite_of_regDef h v src hr (hb ▸ hd) (by decide), regStore_dbgCtl h _ src hb]

theorem bit_setBit_mod (v : Nat) (b : Bool) : bit (setBit v 0 b % 2 ^ 32) 0 = b := by
  rw [bit_eq, Nat.testBit_mod_two_pow, ← bit_eq, bit_setBit, if_pos rfl]
  simp

/-- Settles O18, a lemma per clause. -/
theorem debugAccess : Obligations.DebugAccess := by
  refine ⟨fun s v hi hlo hhi ho => ?_, fun s n v w hs hu hd => ?_, fun s n v hs hu hd => ?_, fun s n w hs hu hd => ?_,
    fun s a w hi hir hw hu hd hlo hhi ha => ?_, fun s a wr ans hi hir hw ha hwin => ?_, fun s b src hd => ?_⟩
  · exact congrArg s.next (hbmPort_update s.hw v hi hlo hhi ho)
  · exact congrArg s.next (userWrite_value v w hs hu hd)
  · exact congrArg s.next (userWrite_timeout v hs hu hd)
  · exact congrArg s.next (userRead_value w hs hu hd)
  · exact congrArg s.next
      ((dbgAccessRow_eq none _ hi hir hw (by omega)).trans (dbgAccess_user_value w hw hu hd hlo hhi ha))
  · exact congrArg s.next ((dbgAccessRow_eq wr ans hi hir hw ha).trans (dbgAccess_outside wr ans hw hwin))
  · have he : (s.hw.regWrite R.DBG_CTL (setBit (s.hw.rd R.DBG_CTL) 0 b) src).2 =
        { s.hw.putB R.DBG_CTL_HALT b with rst := { s.hw.rst with dealerRun := !b } } := by
      rw [regWrite_dbgCtl _ _ _ hd, dbgCtl_awake _ _ (asleep_of_blkDown hd), bit_setBit_mod]
    refine ⟨_, congrArg s.next he, ?_, rfl, rfl, rfl⟩
    exact Hw.is_putB_self s.hw R.DBG_CTL_HALT b rfl (by decide)

end Sys2Proof.Machine
end

section
/-!
SUPPORT. The clock monitors and their loss flags, the locks of the PLLs, and the steps of the partition clock generators
(chapter 2).
-/
namespace Sys2Proof.Machine

open Sys2Proof

/-! ### The exchange of DONE -/

/-- The fabric's own state alone takes part in it. -/
theorem doneFollow_frame (h : Hw) : h.doneFollow = { h with fab := h.doneFollow.fab } := by
  unfold Hw.doneFollow
  split <;> rfl

theorem doneFollow_regs (h : Hw) : h.doneFollow.regs = h.regs := (congrArg Hw.regs (doneFollow_frame h) :)

theorem doneFollow_clk (h : Hw) : h.doneFollow.clk = h.clk := (congrArg Hw.clk (doneFollow_frame h) :)

theorem doneFollow_mem (h : Hw) : h.doneFollow.mem = h.mem := (congrArg Hw.mem (doneFollow_frame h) :)

theorem doneFollow_tiles (h : Hw) : h.doneFollow.tiles = h.tiles := (congrArg Hw.tiles (doneFollow_frame h) :)

/-! ### Flags -/

theorem bit_mod_word (v : Nat) {k : Nat} (hk : k < 32) : bit (v % 2 ^ 32) k = bit v k := by
  rw [bit_eq, Nat.testBit_mod_two_pow, decide_eq_true hk, Bool.true_and, bit_eq]

/-- An event leaves its flag set, whether or not it was set before (R1176). -/
theorem bit_raise (h : Hw) (f : Fld) (k : Nat) (hk : f.lo + k < 32) :
    bit ((h.raise f k).rd f.addr) (f.lo + k) = true := by
  simp only [Hw.raise, Hw.raiseAt]
  split
  case isTrue hs => rw [Hw.rd_wr_self, bit_mod_word _ hk, bit_setBit, if_neg (by omega), hs]
  case isFalse => rw [Hw.rd_wr_self, bit_mod_word _ hk, bit_setBit, if_pos rfl]

theorem rd_raise_ne (h : Hw) (f : Fld) (k : Nat) {a : Nat} (ha : a ≠ f.addr) : (h.raise f k).rd a = h.rd a := by
  simp only [Hw.raise, Hw.raiseAt]
  split <;> exact Hw.rd_wr_ne h _ ha

theorem get_raise_ne (h : Hw) (f : Fld) (k : Nat) {g : Fld} (ha : g.addr ≠ f.addr) : (h.raise f k).get g = h.get g := by
  rw [Hw.get, rd_raise_ne h f k ha, Hw.get]

/-! ### The always-on counter (R139, R140) -/

theorem wr64_frame (h : Hw) (lo hi v : Nat) : h.wr64 lo hi v = { h with regs := (h.wr64 lo hi v).regs } := rfl

theorem get_wr64_ne (h : Hw) {lo hi : Nat} (v : Nat) {f : Fld} (hlo : f.addr ≠ lo) (hhi : f.addr ≠ hi) :
    (h.wr64 lo hi v).get f = h.get f := by
  rw [Hw.wr64, Hw.get_wr_ne _ _ hhi, Hw.get_wr_ne _ _ hlo]

theorem aotAdd_frame (h : Hw) (n : Nat) : h.aotAdd n = { h with regs := (h.aotAdd n).regs } := wr64_frame ..

/-- AOCLK cycles move the counter and the fraction of its divider alone. -/
theorem aotCycles_frame (h : Hw) (n : Nat) : h.aotCycles n =
    { h with regs := (h.aotCycles n).regs, clk := { h.clk with aotFrac := (h.aotCycles n).clk.aotFrac } } := by
  unfold Hw.aotCycles
  split
  · rfl
  · rw [aotAdd_frame]

theorem aotCycles_mem (h : Hw) (n : Nat) : (h.aotCycles n).mem = h.mem := (congrArg Hw.mem (aotCycles_frame h n) :)

theorem aotCycles_tiles (h : Hw) (n : Nat) : (h.aotCycles n).tiles = h.tiles :=
  (congrArg Hw.tiles (aotCycles_frame h n) :)

theorem aotCycles_good (h : Hw) (n : Nat) : (h.aotCycles n).clk.good = h.clk.good := by rw [aotCycles_frame]

theorem get_aotCycles (h : Hw) (n : Nat) {f : Fld} (hlo : f.addr ≠ R.PWR_AOT_CNT_LO)
    (hhi : f.addr ≠ R.PWR_AOT_CNT_HI) : (h.aotCycles n).get f = h.get f := by
  unfold Hw.aotCycles
  split
  · rfl
  · exact get_wr64_ne _ _ hlo hhi

theorem asleep_congr {h g : Hw} (hs : h.get R.PWR_STATE_STATE = g.get R.PWR_STATE_STATE) (hp : h.pwr' = g.pwr') :
    h.asleep = g.asleep := by
  simp only [Hw.asleep, Hw.pwr, hs, hp]

theorem asleep_aotCycles (h : Hw) (n : Nat) : (h.aotCycles n).asleep = h.asleep :=
  asleep_congr (get_aotCycles h n (by decide) (by decide)) (congrArg Hw.pwr' (aotCycles_frame h n) :)

theorem putB_frame (h : Hw) (f : Fld) (b : Bool) : h.putB f b = { h with regs := (h.putB f b).regs } := rfl

/-! ### Windows of the clock monitors (R67, R68) -/

/-- The clock state when a window of input `i` has been judged and its run of bad windows is not moved yet. -/
def Hw.recorded (h : Hw) (i : Nat) (ok : Bool) : Hw :=
  let h := { h with clk := { h.clk with
    good := NSet.put h.clk.good i ok, logged := h.clk.logged.filter (fun n => !clkNode i n) } }
  if i = 0 then { h with clk := { h.clk with refGood := if ok then h.clk.refGood + 1 else 0 } } else h

/-- The part at that moment: SYS_CLK_STAT shows a verdict on the crystal. -/
def Hw.judged (h : Hw) (i : Nat) (ok : Bool) : Hw :=
  if i = 4 then (h.recorded i ok).putB R.SYS_CLK_STAT_XTAL32_OK ok else h.recorded i ok

/-- The run of input `i` set to `n` bad windows. -/
def Hw.setRun (h : Hw) (i n : Nat) : Hw := { h with clk := { h.clk with run := NMap.set h.clk.run i n } }

theorem get_setRun (h : Hw) (i n : Nat) (f : Fld) : (h.setRun i n).get f = h.get f := Hw.get_congr rfl f

theorem run_setRun (h : Hw) (i n : Nat) : NMap.get (h.setRun i n).clk.run i = n := SMap.get_set_self ..

section
variable (h : Hw) (i : Nat) (ok : Bool)

theorem recorded_frame : h.recorded i ok = { h with
    clk := { (h.recorded i ok).clk with run := h.clk.run, good := NSet.put h.clk.good i ok } } := by
  unfold Hw.recorded
  dsimp only
  split <;> rfl

/-- A verdict changes the clock state and SYS_CLK_STAT alone. -/
theorem judged_frame : h.judged i ok = { h with
    regs := (h.judged i ok).regs, clk := (h.recorded i ok).clk } := by
  unfold Hw.judged
  split
  · rw [putB_frame, recorded_frame]
  · rw [recorded_frame]

theorem judged_mem : (h.judged i ok).mem = h.mem := (congrArg Hw.mem (judged_frame h i ok) :)

theorem judged_tiles : (h.judged i ok).tiles = h.tiles := (congrArg Hw.tiles (judged_frame h i ok) :)

theorem judged_good : NSet.has (h.judged i ok).clk.good i = ok := by
  rw [judged_frame, recorded_frame]
  exact (NSet.has_put ..).trans (if_pos rfl)

theorem asleep_judged : (h.judged i ok).asleep = h.asleep := by
  have hr : (h.recorded i ok).asleep = h.asleep := by rw [recorded_frame]; rfl
  unfold Hw.judged
  split
  · exact (asleep_putB_other _ ok (by decide) (by decide) (by decide)).trans hr
  · exact hr

theorem xtalOk_judged : (h.judged 4 ok).get R.SYS_CLK_STAT_XTAL32_OK = if ok then 1 else 0 :=
  Hw.get_putB_self _ R.SYS_CLK_STAT_XTAL32_OK ok rfl (by decide)

theorem judged_run : NMap.get (h.judged i ok).clk.run i = NMap.get h.clk.run i := by
  rw [judged_frame, recorded_frame]

/-- A window within its limits ends the run; one of REFCLK also ends the lasting error of its loss. -/
theorem window_good : h.window i true =
    if i = 0 then ((h.judged i true).setRun i 0).lastingOff eCLOCK 1 else (h.judged i true).setRun i 0 := by
  simp only [Hw.window, Bool.true_or, if_true, and_true]
  rfl

end

/-- A window outside the limits that counts: the second of a run is a loss, the first is marginal. -/
theorem window_bad {h : Hw} {i : Nat} (hc : (h.asleep && i != 4) = false) :
    h.window i false =
      let g := (h.judged i false).setRun i (min (NMap.get h.clk.run i + 1) 2)
      if NMap.get h.clk.run i = 1 then g.lost i
      else if NMap.get h.clk.run i = 0 then g.raise R.SYS_CLK_LOSS_MARG i else g := by
  have hw : h.window i false = if (h.judged i false).asleep && i != 4 then (h.judged i false).setRun i 0 else
      let n := NMap.get (h.judged i false).clk.run i + 1
      let g := (h.judged i false).setRun i (min n 2)
      if NMap.get g.clk.run i = 2 ∧ n = 2 then g.lost i else if n = 1 then g.raise R.SYS_CLK_LOSS_MARG i else g := by
    simp only [Hw.window, Bool.false_or, Bool.false_eq_true, and_false, if_false]
    rfl
  have htwo (n : Nat) : (min (n + 1) 2 = 2 ∧ n + 1 = 2) ↔ n = 1 := by omega
  have hone (n : Nat) : n + 1 = 1 ↔ n = 0 := by omega
  rw [hw, asleep_judged, hc, judged_run]
  simp only [Bool.false_eq_true, if_false, run_setRun, htwo, hone]

/-- The first window outside the limits raises MARG[i] (R68). -/
theorem window_first {h : Hw} {i : Nat} (ha : h.asleep = false) (hr : NMap.get h.clk.run i = 0) :
    h.window i false = ((h.judged i false).setRun i 1).raise R.SYS_CLK_LOSS_MARG i := by
  rw [window_bad (by rw [ha, Bool.false_and]), hr]
  rfl

/-- A window of the crystal moves its run, and may raise a flag of SYS_CLK_LOSS. -/
theorem window_xtal (h : Hw) (ok : Bool) : ∃ n, h.window 4 ok = (h.judged 4 ok).setRun 4 n ∨
    ∃ f : Fld, f.addr = R.SYS_CLK_LOSS ∧ h.window 4 ok = ((h.judged 4 ok).setRun 4 n).raise f 4 := by
  cases ok
  case true => exact ⟨0, .inl (window_good h 4)⟩
  case false =>
    rw [window_bad (Bool.and_false _)]
    refine ⟨min (NMap.get h.clk.run 4 + 1) 2, ?_⟩
    dsimp only
    split_ifs
    · exact .inr ⟨R.SYS_CLK_LOSS_LOST, rfl, rfl⟩
    · exact .inr ⟨R.SYS_CLK_LOSS_MARG, rfl, rfl⟩
    · exact .inl rfl

/-- XTAL32_OK is the verdict on the crystal, and no memory or tile changes. -/
theorem window_xtal_verdict (h : Hw) (ok : Bool) : NSet.has (h.window 4 ok).clk.good 4 = ok ∧
    (h.window 4 ok).get R.SYS_CLK_STAT_XTAL32_OK = (if ok then 1 else 0) ∧ (h.window 4 ok).mem = h.mem ∧
    (h.window 4 ok).tiles = h.tiles := by
  obtain ⟨n, hw | ⟨f, ha, hw⟩⟩ := window_xtal h ok
  · rw [hw, get_setRun]
    exact ⟨judged_good h 4 ok, xtalOk_judged h ok, judged_mem h 4 ok, judged_tiles h 4 ok⟩
  · rw [hw, Hw.raise_clk, Hw.raise_mem, Hw.raise_tiles, get_raise_ne _ f 4 (ha ▸ by decide), get_setRun]
    exact ⟨judged_good h 4 ok, xtalOk_judged h ok, judged_mem h 4 ok, judged_tiles h 4 ok⟩

/-- A window of an input within its limits marks it good and ends its run; no memory or tile changes. -/
theorem window_good_verdict (h : Hw) (i : Nat) : NSet.has (h.window i true).clk.good i = true ∧
    NMap.get (h.window i true).clk.run i = 0 ∧ (h.window i true).mem = h.mem ∧ (h.window i true).tiles = h.tiles := by
  rw [window_good]
  split_ifs <;> exact ⟨judged_good h i true, run_setRun .., judged_mem h i true, judged_tiles h i true⟩

/-- The first window outside the limits is marginal; no memory or tile changes. -/
theorem window_first_verdict {h : Hw} {i : Nat} (hi : i < 4) (ha : h.asleep = false) (hr : NMap.get h.clk.run i = 0) :
    NSet.has (h.window i false).clk.good i = false ∧ NMap.get (h.window i false).clk.run i = 1 ∧
    bit ((h.window i false).rd R.SYS_CLK_LOSS) (8 + i) = true ∧ (h.window i false).mem = h.mem ∧
    (h.window i false).tiles = h.tiles := by
  rw [window_first ha hr, Hw.raise_clk, Hw.raise_mem, Hw.raise_tiles]
  exact ⟨judged_good h i false, run_setRun .., bit_raise _ R.SYS_CLK_LOSS_MARG i (show 8 + i < 32 by omega),
    judged_mem h i false, judged_tiles h i false⟩

/-- The part when the 240 AOCLK cycles of a window of input `i` have passed: the always-on counter is counted once, with
REFCLK's window. -/
def Hw.counted (h : Hw) (i : Nat) : Hw := if i = 0 then h.aotCycles 240 else h

theorem counted_frame (h : Hw) (i : Nat) : h.counted i =
    { h with regs := (h.counted i).regs, clk := { h.clk with aotFrac := (h.counted i).clk.aotFrac } } := by
  unfold Hw.counted
  split
  · exact aotCycles_frame h 240
  · rfl

theorem counted_mem (h : Hw) (i : Nat) : (h.counted i).mem = h.mem := (congrArg Hw.mem (counted_frame h i) :)

theorem counted_tiles (h : Hw) (i : Nat) : (h.counted i).tiles = h.tiles := (congrArg Hw.tiles (counted_frame h i) :)

theorem counted_run (h : Hw) (i : Nat) : (h.counted i).clk.run = h.clk.run := by rw [counted_frame]

theorem asleep_counted (h : Hw) (i : Nat) : (h.counted i).asleep = h.asleep := by
  unfold Hw.counted
  split
  · exact asleep_aotCycles h 240
  · rfl

section
variable {h : Hw} {i n : Nat} (hi : i < 4) (hp : h.rst.por = false)
include hi hp

theorem monitorWindow_in (hc : countOk i n = true) : h.monitorWindow i n = (h.counted i).window i true := by
  simp only [Hw.monitorWindow, Nat.not_le.mpr hi, hp, Bool.false_eq_true, or_self, if_false, hc, Bool.true_or,
    Hw.counted]

/-- SNS_MCLK is judged only while it is the source. -/
theorem monitorWindow_out (hc : countOk i n = false) (hs : i = 3 → h.is R.SYS_CLK_CFG_SNS_SRC = false) :
    h.monitorWindow i n = (h.counted i).window i false := by
  have hb : (i == 3 && (h.counted i).is R.SYS_CLK_CFG_SNS_SRC) = false := by
    by_cases h3 : i = 3
    · subst h3
      exact hs rfl
    · rw [beq_false_of_ne h3, Bool.false_and]
  rw [Hw.counted] at hb
  simp only [Hw.monitorWindow, Nat.not_le.mpr hi, hp, Bool.false_eq_true, or_self, if_false, hc, Bool.false_or, hb,
    Hw.counted]

theorem monitorWindow_in_verdict (hc : countOk i n = true) : let g := (h.monitorWindow i n).doneFollow
    NSet.has g.clk.good i = true ∧ NMap.get g.clk.run i = 0 ∧ g.mem = h.mem ∧ g.tiles = h.tiles := by
  dsimp only
  rw [doneFollow_clk, doneFollow_mem, doneFollow_tiles, monitorWindow_in hi hp hc,
    ← counted_mem h i, ← counted_tiles h i]
  exact window_good_verdict (h.counted i) i

theorem monitorWindow_out_verdict (ha : h.asleep = false) (hc : countOk i n = false)
    (hs : i = 3 → h.is R.SYS_CLK_CFG_SNS_SRC = false) (hr : NMap.get h.clk.run i = 0) :
    let g := (h.monitorWindow i n).doneFollow
    NSet.has g.clk.good i = false ∧ NMap.get g.clk.run i = 1 ∧ bit (g.rd R.SYS_CLK_LOSS) (8 + i) = true ∧
    g.mem = h.mem ∧ g.tiles = h.tiles := by
  dsimp only
  rw [doneFollow_clk, doneFollow_mem, doneFollow_tiles, Hw.rd_congr (doneFollow_regs _), monitorWindow_out hi hp hc hs,
    ← counted_mem h i, ← counted_tiles h i]
  exact window_first_verdict hi ((asleep_counted h i).trans ha) (counted_run h i ▸ hr)

end

/-! ### The crystal's monitor (R67, R139) -/

section
variable {h : Hw} (hp : h.rst.por = false)
include hp

theorem xtalWindow_verdict : NSet.has h.xtalWindow.clk.good 4 = false ∧
    h.xtalWindow.get R.SYS_CLK_STAT_XTAL32_OK = 0 ∧ h.xtalWindow.mem = h.mem ∧ h.xtalWindow.tiles = h.tiles := by
  have hv := window_xtal_verdict h false
  simp only [Hw.xtalWindow, hp, Bool.false_eq_true, if_false]
  split
  · rw [aotCycles_good, get_aotCycles _ _ (by decide) (by decide), aotCycles_mem, aotCycles_tiles]
    exact hv
  · exact hv

theorem xtalEdge_verdict : NSet.has h.xtalEdge.clk.good 4 = true ∧ NMap.get h.xtalEdge.clk.run 4 = 0 ∧
    h.xtalEdge.get R.SYS_CLK_STAT_XTAL32_OK = 1 ∧ h.xtalEdge.mem = h.mem ∧ h.xtalEdge.tiles = h.tiles := by
  obtain ⟨g, he, hmem, htiles⟩ : ∃ g : Hw, h.xtalEdge = g.window 4 true ∧ g.mem = h.mem ∧ g.tiles = h.tiles := by
    simp only [Hw.xtalEdge, hp, Bool.false_eq_true, if_false]
    split
    · exact ⟨_, rfl, Hw.wr64_mem .., Hw.wr64_tiles ..⟩
    · exact ⟨h, rfl, rfl, rfl⟩
  obtain ⟨hg, hok, -, -⟩ := window_xtal_verdict g true
  obtain ⟨-, hrun, hm, ht⟩ := window_good_verdict g 4
  rw [he]
  exact ⟨hg, hrun, hok, hm.trans hmem, ht.trans htiles⟩

end

/-! ### Loss flags (R73) -/

theorem fenceAll_frame (h : Hw) (ns : List Nat) (c : Cause) (b : Bool) :
    h.fenceAll ns c b = { h with noc := (h.fenceAll ns c b).noc } := by
  induction ns generalizing h with
  | nil => rfl
  | cons n ns ih => exact ih (h.fenceSet n c b)

theorem lossOver_wr (h : Hw) (i : Nat) {a : Nat} (v : Nat) (ha : a ≠ R.SYS_CLK_CFG) :
    (h.wr a v).lossOver i = h.lossOver i := by
  simp only [Hw.lossOver, Hw.is, Hw.get_wr_ne h v (f := R.SYS_CLK_CFG_SNS_SRC) ha.symm, Hw.wr_clk]

/-- A write of 1 to LOST[i] alone clears no other flag. -/
theorem lost_bit_alone : ∀ i < 5, bitList 5 (2 ^ i) = [i] ∧ 2 ^ 32 - 1 - (2 ^ i &&& 0x1F1F1F00) = 2 ^ 32 - 1 := by
  decide

theorem clkLossClear_bit (h : Hw) {i : Nat} (hi : i < 5) :
    h.clkLossClear (2 ^ i) =
      let g := h.wr R.SYS_CLK_LOSS (h.rd R.SYS_CLK_LOSS)
      if h.lossOver i then (g.putBit R.SYS_CLK_LOSS_LOST i false).fenceAll (lossNodes i) .clock false else g := by
  obtain ⟨hl, hm⟩ := lost_bit_alone i hi
  have hrd : h.rd R.SYS_CLK_LOSS &&& (2 ^ 32 - 1) = h.rd R.SYS_CLK_LOSS := by
    rw [Nat.and_two_pow_sub_one_eq_mod, Nat.mod_eq_of_lt (Hw.rd_lt ..)]
  rw [Hw.clkLossClear, hl, hm, hrd]
  simp only [List.foldl_cons, List.foldl_nil, lossOver_wr h i _ (show R.SYS_CLK_LOSS ≠ R.SYS_CLK_CFG by decide)]

theorem regDo_clkLoss (h : Hw) (v : Nat) (hd : h.blkDown .sys R.SYS_CLK_LOSS = false) :
    h.regDo R.SYS_CLK_LOSS v = h.clkLossClear (v % 2 ^ 32) := by
  obtain ⟨r, hr, hb⟩ : ∃ r, regDef? R.SYS_CLK_LOSS = some r ∧ r.blk = .sys := ⟨_, rfl, rfl⟩
  rw [Hw.regDo, regWrite_of_regDef h v _ hr (hb ▸ hd) (by decide)]
  simp only [Hw.regStore, hb, Hw.writeSys, if_true]

theorem bit_putBit_self (h : Hw) (f : Fld) (k : Nat) (b : Bool) (hf : f.lo + k ≤ f.hi) (hw : f.hi < 32) :
    bit ((h.putBit f k b).rd f.addr) (f.lo + k) = b := by
  rw [Hw.putBit, Hw.rd_put_self h f _ (by omega) hw, bit_eq, testBit_setBits _ _ _ _ _ (by omega), if_pos (by omega),
    Nat.add_sub_cancel_left, ← bit_eq, bit_setBit, if_pos rfl]

/-- A write of 1 to LOST[i] clears it exactly when the loss is over; no memory or tile changes. -/
theorem clkLossClear_verdict (h : Hw) {i : Nat} (hi : i < 5) : let g := h.clkLossClear (2 ^ i)
    bit (g.rd R.SYS_CLK_LOSS) i = (bit (h.rd R.SYS_CLK_LOSS) i && !h.lossOver i) ∧ g.mem = h.mem ∧
    g.tiles = h.tiles := by
  dsimp only
  rw [clkLossClear_bit h hi]
  cases h.lossOver i
  · dsimp only
    rw [if_neg Bool.false_ne_true, Hw.rd_wr_self, Nat.mod_eq_of_lt (Hw.rd_lt ..), Bool.not_false, Bool.and_true]
    exact ⟨rfl, rfl, rfl⟩
  · have hb := bit_putBit_self (h.wr R.SYS_CLK_LOSS (h.rd R.SYS_CLK_LOSS)) R.SYS_CLK_LOSS_LOST i false
      (show 0 + i ≤ 4 by omega) (by decide)
    rw [show R.SYS_CLK_LOSS_LOST.lo + i = i from Nat.zero_add i] at hb
    dsimp only
    rw [if_pos rfl, fenceAll_frame, Bool.not_true, Bool.and_false]
    exact ⟨hb, rfl, rfl⟩

/-- Settles O7: a clause for each way a window ends, for the crystal's edge, and for the write of SYS_CLK_LOSS. -/
theorem clockMonitors : Obligations.ClockMonitors := by
  refine ⟨fun s i n hi hp hc => ⟨_, rfl, monitorWindow_in_verdict hi hp hc⟩,
    fun s i n hi hp ha hc hs hr => ⟨_, rfl, monitorWindow_out_verdict hi hp ha hc hs hr⟩,
    fun s hp => ⟨_, rfl, xtalWindow_verdict hp⟩, fun s hp => ⟨_, rfl, xtalEdge_verdict hp⟩, fun s i hi hd => ?_⟩
  have hlt : 2 ^ i < 2 ^ 32 := Nat.pow_lt_pow_right (by decide) (by omega)
  rw [exec_clockLossClear, execClockLossClear, State.upd, State.next, regDo_clkLoss _ _ hd, Nat.mod_eq_of_lt hlt]
  exact ⟨_, rfl, clkLossClear_verdict s.hw hi⟩

/-! ### Locks of the PLLs (R70, R73) -/

/-- The state in which PLL `p` has lost lock. -/
def Hw.unlocked (h : Hw) (p : Nat) : Hw := { h with clk := { h.clk with locked := NSet.del h.clk.locked p } }

theorem locked_unlocked (h : Hw) (p : Nat) : NSet.has (h.unlocked p).clk.locked p = false := by
  simp only [Hw.unlocked, NSet.has_del, bne_self_eq_false, Bool.false_and]

/-- The audio PLL has no reference whose run could explain its loss; the loss has a row where the PLL is the source of the
sensor clock. -/
theorem pllLoss_audio {h : Hw} (hp : h.rst.por = false) (ha : h.asleep = false) (hk : NSet.has h.clk.locked 6 = true) :
    h.pllLoss 6 = if h.is R.SYS_CLK_CFG_SNS_SRC then ((h.unlocked 6).errAt eCLOCK 9 nodeREG).fenceSet 642 .pll true
      else h.unlocked 6 := by
  simp only [Hw.pllLoss, hp, ha, hk, Bool.not_true, Bool.or_self, Bool.false_eq_true, if_false]
  rfl

/-- The state in which PLL `p` has held lock. -/
def Hw.relocked (h : Hw) (p : Nat) : Hw :=
  { h with clk := { h.clk with locked := NSet.add h.clk.locked p, lostPll := NSet.del h.clk.lostPll p } }

theorem locked_relocked (h : Hw) (p : Nat) : NSet.has (h.relocked p).clk.locked p = true := by
  simp only [Hw.relocked, NSet.has_add, beq_self_eq_true, Bool.true_or]

theorem bit_fenceMask_removed (h : Hw) (n : Nat) (c : Cause) :
    bit ((h.fenceSet n c false).fenceMask n) c.bit = false := by
  rw [Hw.fenceMask_fenceSet, if_pos rfl, bit_setBit, if_pos rfl]

section
variable {h : Hw} (hp : h.rst.por = false) (ha : h.asleep = false)
include hp ha

/-- Beside the lock, a PLL that has held lock changes the lasting errors and the fences alone. -/
theorem pllHeld_frame {p : Nat} (hlt : p < 16) :
    h.pllHeld p = { h.relocked p with err := (h.pllHeld p).err, noc := (h.pllHeld p).noc } := by
  simp only [Hw.pllHeld, hp, ha, Nat.not_le.mpr hlt, decide_false, Bool.or_self, Bool.false_eq_true, if_false]
  split_ifs <;> rfl

/-- The PCIe, audio and display PLLs each remove their own cause from the fence of their node. -/
theorem fenceMask_pllHeld : bit ((h.pllHeld 3).fenceMask 646) 1 = false ∧
    bit ((h.pllHeld 6).fenceMask 642) 1 = false ∧ bit ((h.pllHeld 7).fenceMask 649) 1 = false := by
  simp only [Hw.pllHeld, hp, ha, Bool.or_self, Bool.false_or]
  exact ⟨bit_fenceMask_removed _ 646 .pll, bit_fenceMask_removed _ 642 .pll, bit_fenceMask_removed _ 649 .pll⟩

end

/-- Settles O8, by the row of the audio PLL and by the frame and the fences of PLL_LOCK_HELD. -/
theorem pllLocks : Obligations.PllLocks := by
  refine ⟨fun s hp ha hk => ?_, fun s p hlt hp ha => ⟨{ s with hw := s.hw.pllHeld p }, rfl, ?_⟩⟩
  · rw [exec_pllLockLoss, execPllLockLoss, State.upd, State.next, doneFollow_frame, pllLoss_audio hp ha hk]
    refine ⟨_, rfl, ?_⟩
    cases hs : s.hw.is R.SYS_CLK_CFG_SNS_SRC
    · exact ⟨locked_unlocked s.hw 6, nofun, rfl, rfl⟩
    · rw [if_pos rfl, errAt_frame]
      exact ⟨locked_unlocked s.hw 6, fun _ => Hw.fenced_fenceSet _ 642 .pll, rfl, rfl⟩
  · obtain ⟨hpcie, haudio, hdisplay⟩ := fenceMask_pllHeld hp ha
    have hf := pllHeld_frame hp ha hlt
    refine ⟨?_, fun e => e ▸ hpcie, fun e => e ▸ haudio, fun e => e ▸ hdisplay, (congrArg Hw.regs hf :),
      (congrArg Hw.mem hf :)⟩
    rw [hf]
    exact locked_relocked s.hw p

/-! ### Steps of a partition clock generator, and table time (R61, R63, R66) -/

section
variable {h : Hw} {p : Nat} (hw : h.slewing p = true)
include hw

theorem stepComplete_last (hl : h.heldSteps p = []) : h.stepComplete p = h.put (R.SYS_TCLK_CUR_SLEWING p) 0 := by
  simp only [Hw.stepComplete, hw, hl, Bool.not_true, Bool.false_eq_true, if_false]

theorem stepComplete_held {k : Nat} {ks : List Nat} (hl : h.heldSteps p = k :: ks) :
    h.stepComplete p = (h.setHeld p ks).put (R.SYS_TCLK_CUR_STEP p) k := by
  simp only [Hw.stepComplete, hw, hl, Bool.not_true, Bool.false_eq_true, if_false]

end

theorem slewing_put_slewing (h : Hw) (p : Nat) : (h.put (R.SYS_TCLK_CUR_SLEWING p) 0).slewing p = false := by
  rw [Hw.slewing, Hw.is, Hw.get_put_self h _ 0 (Nat.le_refl 8) (by decide : 8 < 32)]
  rfl

/-- STEP and SLEWING are fields of one register that share no bit (R85). -/
theorem slewing_put_step (h : Hw) (p k : Nat) : (h.put (R.SYS_TCLK_CUR_STEP p) k).slewing p = h.slewing p := by
  rw [Hw.slewing, Hw.is, Hw.get_put_other h _ (R.SYS_TCLK_CUR_SLEWING p) k (by decide : 0 ≤ 4) (by decide : 4 < 32)
    (.inr (.inl (by decide : 4 < 8)))]
  rfl

theorem slewing_setHeld (h : Hw) (p : Nat) (ks : List Nat) : (h.setHeld p ks).slewing p = h.slewing p :=
  Hw.is_congr rfl _

theorem pt_congr {h g : Hw} (e : h.part = g.part) (p : Nat) : h.pt p = g.pt p := by
  simp only [Hw.pt, e]

theorem closed_govStart (h : Hw) (p : Nat) (fresh : Bool) : ((h.govStart p fresh).pt p).gov.closed = false := by
  simp only [Hw.govStart, Hw.onPt, Hw.setPt, Hw.pt, SMap.get_set_self]

/-- A step completed with none held opens the governor window that waited for it (R812), if one did. -/
theorem stepDone_last {h : Hw} {p : Nat} (hw : h.slewing p = true) (hl : h.heldSteps p = []) :
    h.stepDone p = if (h.pt p).gov.closed then (h.put (R.SYS_TCLK_CUR_SLEWING p) 0).govStart p false
      else h.put (R.SYS_TCLK_CUR_SLEWING p) 0 := by
  simp only [Hw.stepDone, stepComplete_last hw hl, slewing_put_slewing, Bool.not_false, Bool.and_true,
    pt_congr (Hw.put_part h (R.SYS_TCLK_CUR_SLEWING p) 0) p]

/-- A held step goes on slewing, so that no window opens. -/
theorem stepDone_held {h : Hw} {p k : Nat} {ks : List Nat} (hw : h.slewing p = true) (hl : h.heldSteps p = k :: ks) :
    h.stepDone p = (h.setHeld p ks).put (R.SYS_TCLK_CUR_STEP p) k := by
  simp only [Hw.stepDone, stepComplete_held hw hl, slewing_put_step, slewing_setHeld, hw, Bool.not_true, Bool.and_false,
    Bool.false_eq_true, if_false]

/-- A command of the system domain acts where the register bus runs. -/
theorem sys_of_sysUp {s : State} (f : Hw → Hw) (hu : s.hw.sysUp = true) :
    s.sys f = .next { s with hw := f s.hw } := by
  simp only [State.sys, State.upd, State.next, hu, if_true]

theorem timeForwards_one {h : Hw} (hu : h.sysUp = true) : h.timeForwards 1 = h.timeForward := by
  simp only [Hw.timeForwards, busDown_of_sysUp hu, Bool.false_eq_true, if_false]

/-- Settles O9, by whether a step is held. -/
theorem clockSteps : Obligations.ClockSteps := by
  refine ⟨fun s p hu hw hl hc => ?_, fun s p hu hw hl => ?_, fun s p k ks hu hw hl => ?_, fun s hu => ?_⟩
  · rw [exec_stepComplete, execStepComplete, sys_of_sysUp _ hu, stepDone_last hw hl, hc]
    rfl
  · rw [exec_stepComplete, execStepComplete, sys_of_sysUp _ hu, stepDone_last hw hl]
    refine ⟨_, rfl, ?_⟩
    cases hc : (s.hw.pt p).gov.closed
    · exact ⟨slewing_put_slewing _ p, hc, rfl, rfl⟩
    · exact ⟨slewing_put_slewing _ p, closed_govStart _ p false, rfl, rfl⟩
  · rw [exec_stepComplete, execStepComplete, sys_of_sysUp _ hu, stepDone_held hw hl]
  · rw [exec_tableTimeForward, execTableTimeForward, sys_of_sysUp _ hu, timeForwards_one hu]
    exact ⟨_, rfl, rfl, rfl, rfl, rfl⟩

end Sys2Proof.Machine
end

section
/-!
SUPPORT. What the messages of the mailboxes, the bursts of the stacks and the fences of the fabric ports leave of the
state: the steps of a reset or of a power transition that every sequence shares.
-/
namespace Sys2Proof.Machine

open Sys2Proof

/-! ### Folds -/

/-- A fold takes steps of a relation that may be taken none or many times. -/
theorem foldl_steps {α β : Type} {r : β → β → Prop} (refl : ∀ h, r h h) (trans : ∀ {h g k}, r h g → r g k → r h k)
    {f : β → α → β} (l : List α) (step : ∀ h, ∀ x ∈ l, r h (f h x)) (h : β) : r h (l.foldl f h) := by
  induction l generalizing h with
  | nil => exact refl h
  | cons x l ih =>
    exact trans (step h x List.mem_cons_self) (ih (fun g y hy => step g y (List.mem_cons_of_mem x hy)) (f h x))

/-- What every step of a fold leaves alone, the fold leaves alone. -/
theorem foldl_keeps {α β γ : Type} (view : β → γ) {f : β → α → β} (l : List α)
    (step : ∀ h, ∀ x ∈ l, view (f h x) = view h) (h : β) : view (l.foldl f h) = view h :=
  foldl_steps (r := fun h g => view g = view h) (fun _ => rfl) (fun e₁ e₂ => e₂.trans e₁) l step h

/-! ### Register writes -/

/-- `h` with the registers of `g`. -/
def Hw.reg (h g : Hw) : Hw := { h with regs := g.regs }

/-- `g` comes from `h` by register writes alone. -/
structure Hw.Writes (h g : Hw) : Prop where
  frame : g = h.reg g

namespace Hw.Writes

theorem refl (h : Hw) : h.Writes h := ⟨rfl⟩

theorem trans {h g k : Hw} (p : h.Writes g) (q : g.Writes k) : h.Writes k := ⟨q.frame.trans (by rw [p.frame]; rfl)⟩

theorem wr (h : Hw) (a v : Nat) : h.Writes (h.wr a v) := ⟨rfl⟩

theorem put (h : Hw) (f : Fld) (v : Nat) : h.Writes (h.put f v) := ⟨rfl⟩

theorem putB (h : Hw) (f : Fld) (b : Bool) : h.Writes (h.putB f b) := ⟨rfl⟩

theorem bump (h : Hw) (f : Fld) : h.Writes (h.bump f) := ⟨rfl⟩

theorem cause (h : Hw) (c : Nat) : h.Writes (h.cause c) := ⟨rfl⟩

theorem showPend (h : Hw) : h.Writes h.showPend := by
  unfold Hw.showPend
  exact ((putB h _ _).trans (putB ..)).trans (putB ..)

section
variable {h g : Hw} (w : h.Writes g)
include w

theorem rst : g.rst = h.rst := (congrArg Hw.rst w.frame :)
theorem pwr' : g.pwr' = h.pwr' := (congrArg Hw.pwr' w.frame :)
theorem mem : g.mem = h.mem := (congrArg Hw.mem w.frame :)
theorem tiles : g.tiles = h.tiles := (congrArg Hw.tiles w.frame :)
theorem part : g.part = h.part := (congrArg Hw.part w.frame :)
theorem pcie : g.pcie = h.pcie := (congrArg Hw.pcie w.frame :)
theorem cfg : g.cfg = h.cfg := (congrArg Hw.cfg w.frame :)
theorem tap : g.tap = h.tap := (congrArg Hw.tap w.frame :)

end

end Hw.Writes

/-! ### Messages: completions, events and their interrupts (R354-R379) -/

/-- `h` with what messages change as it stands in `g`. -/
def Hw.posted (h g : Hw) : Hw :=
  { h with regs := g.regs, mbx := g.mbx, pcie := g.pcie,
           mem := { h.mem with kitty := g.mem.kitty, kittyP := g.mem.kittyP } }

/-- `g` comes from `h` by messages: the mailboxes, PCIe's queues, Kitty and registers of the blocks that post them have
changed, but neither the system block's, the configuration engine's nor PCIE_STAT. -/
structure Hw.Posts (h g : Hw) : Prop where
  frame : g = h.posted g
  rd : ∀ a, a < 0x40020000 ∨ a = R.PCIE_STAT → g.rd a = h.rd a

namespace Hw.Posts

theorem refl (h : Hw) : h.Posts h := ⟨rfl, fun _ _ => rfl⟩

theorem trans {h g k : Hw} (p : h.Posts g) (q : g.Posts k) : h.Posts k :=
  ⟨q.frame.trans (by rw [p.frame]; rfl), fun a ha => (q.rd a ha).trans (p.rd a ha)⟩

section
variable {h g : Hw} (p : h.Posts g)
include p

theorem pwr' : g.pwr' = h.pwr' := (congrArg (fun x => x.pwr') p.frame :)
theorem noc : g.noc = h.noc := (congrArg (fun x => x.noc) p.frame :)
theorem tiles : g.tiles = h.tiles := (congrArg (fun x => x.tiles) p.frame :)
theorem mem_hbm : g.mem.hbm = h.mem.hbm := (congrArg (fun x => x.mem.hbm) p.frame :)
theorem mem_dsram : g.mem.dsram = h.mem.dsram := (congrArg (fun x => x.mem.dsram) p.frame :)
theorem mem_flash : g.mem.flash = h.mem.flash := (congrArg (fun x => x.mem.flash) p.frame :)

end

/-- A register of a block that posts. -/
def At (a : Nat) : Prop := 0x40020000 ≤ a ∧ a ≠ R.PCIE_STAT

theorem wr (h : Hw) {a : Nat} (v : Nat) (ha : At a) : h.Posts (h.wr a v) := by
  refine ⟨rfl, fun b hb => Hw.rd_wr_ne h v ?_⟩
  obtain ⟨hlo, hne⟩ := ha
  rintro rfl
  omega

theorem raise (h : Hw) (f : Fld) (k : Nat) (ha : At f.addr) : h.Posts (h.raise f k) := by
  simp only [Hw.raise, Hw.raiseAt]
  split
  · exact wr h _ ha
  · exact wr h _ ha

theorem put (h : Hw) (f : Fld) (v : Nat) (ha : At f.addr) : h.Posts (h.put f v) := wr h _ ha

theorem setUnsig (h : Hw) (m n : Nat) : h.Posts (h.setUnsig m n) := ⟨rfl, fun _ _ => rfl⟩

theorem msixFire (h : Hw) (fn v : Nat) : h.Posts (h.msixFire fn v) := by
  simp only [Hw.msixFire]
  split
  · exact raise h _ 0 (by simp only [At, R.PCIE_FLAGS_IRQ_DROP, R.PCIE_FLAGS, R.PCIE_STAT]; omega)
  · split
    · exact ⟨rfl, fun _ _ => rfl⟩
    · exact ⟨rfl, fun _ _ => rfl⟩

theorem mbxSignal (h : Hw) (m : Nat) : h.Posts (h.mbxSignal m) := by
  unfold Hw.mbxSignal
  split
  · exact (setUnsig h m 0).trans (msixFire ..)
  · exact refl h

theorem mbxCounted (h : Hw) (m : Nat) (noirq : Bool) : h.Posts (h.mbxCounted m noirq) := by
  unfold Hw.mbxCounted
  split
  · exact refl h
  · refine (setUnsig h m (h.unsig m + 1)).trans ?_
    dsimp only
    split
    · exact mbxSignal ..
    · exact refl _

theorem kittyW (h : Hw) (a : Nat) (bs : List Byte) (p : Bool) : h.Posts (h.kittyW a bs p) := ⟨rfl, fun _ _ => rfl⟩

theorem postEntry (h : Hw) (m tag status detail result : Nat) (noirq : Bool) :
    h.Posts (h.postEntry m tag status detail result noirq) :=
  ((kittyW h _ _ _).trans
    (put _ _ _ (by simp only [At, R.MBX_CPL_TAIL_TAIL, R.MBX_CPL_TAIL, R.PCIE_STAT]; omega))).trans (mbxCounted ..)

theorem postEvent (h : Hw) (m code result : Nat) : h.Posts (h.postEvent m code result) := by
  unfold Hw.postEvent Hw.postEventSt
  split
  · exact postEntry ..
  · split
    · exact raise h _ 0 (by simp only [At, R.MBX_ERR_EVT_LOST, R.MBX_ERR, R.PCIE_STAT]; omega)
    · exact ⟨rfl, fun _ _ => rfl⟩

theorem complete (h : Hw) (m k status detail result : Nat) : h.Posts (h.complete m k status detail result) := by
  unfold Hw.complete
  split
  case h_1 =>
    have hr : h.Posts (h.retire m k) := ⟨rfl, fun _ _ => rfl⟩
    exact hr.trans (postEntry ..)
  case h_2 =>
    split
    · exact raise h _ 0 (by simp only [At, R.MBX_ERR_LATE, R.MBX_ERR, R.PCIE_STAT]; omega)
    · exact refl h

/-- An Ethernet port's loss of its link is shown and posted (R1051). -/
theorem ethDown (h : Hw) (n : Nat) : h.Posts (h.ethDown n) := by
  unfold Hw.ethDown
  split
  · exact refl h
  next hn =>
    have hs : At (R.NET_P_STAT n) := by
      simp only [At, R.NET_P_STAT, R.PCIE_STAT]
      omega
    exact ((put h (R.NET_P_STAT_LINK n) _ hs).trans (put _ (R.NET_P_STAT_AN_DONE n) _ hs)).trans (postEvent ..)

/-- So is the display port's (R995). -/
theorem dpyOff (h : Hw) : h.Posts h.dpyOff := by
  have hs : At R.DPY_STAT := by
    simp only [At, R.DPY_STAT, R.PCIE_STAT]
    omega
  have hset : ∀ st lanes rate, h.Posts (h.dpySet st lanes rate) := fun st lanes rate =>
    ((put h R.DPY_STAT_STATE st hs).trans (put _ R.DPY_STAT_LANES lanes hs)).trans (put _ R.DPY_STAT_RATE rate hs)
  unfold Hw.dpyOff
  dsimp only
  split
  · exact (hset ..).trans (postEvent ..)
  · exact hset ..

end Hw.Posts

/-! ### Bursts of the stacks (R735-R745, R768-R774) -/

/-- `h` with what bursts change as it stands in `g`. -/
def Hw.burst (h g : Hw) : Hw :=
  { h with regs := g.regs, err := g.err, hbm := g.hbm, noc := { h.noc with pkts := g.noc.pkts },
           mem := { h.mem with hbm := g.mem.hbm, hbmP := g.mem.hbmP } }

/-- `g` comes from `h` by bursts: HBM, its controllers, reports, responses on the network and registers of the memory
block have changed. -/
structure Hw.Bursts (h g : Hw) : Prop where
  frame : g = h.burst g
  rd : ∀ a, a < 0x40040000 ∨ 0x40060000 ≤ a → g.rd a = h.rd a

/-- Without an error on the way a codeword reads clean, or poisoned where its line is. -/
theorem eccDecode_clean : eccDecode (syndrome []) = .clean ∧ eccDecode (syndrome poisonErr) = .poisoned := by
  decide

namespace Hw.Bursts

theorem refl (h : Hw) : h.Bursts h := ⟨rfl, fun _ _ => rfl⟩

theorem trans {h g k : Hw} (p : h.Bursts g) (q : g.Bursts k) : h.Bursts k :=
  ⟨q.frame.trans (by rw [p.frame]; rfl), fun a ha => (q.rd a ha).trans (p.rd a ha)⟩

section
variable {h g : Hw} (p : h.Bursts g)
include p

theorem pwr' : g.pwr' = h.pwr' := (congrArg (fun x => x.pwr') p.frame :)
theorem noc_fence : g.noc.fence = h.noc.fence := (congrArg (fun x => x.noc.fence) p.frame :)
theorem tap : g.tap = h.tap := (congrArg (fun x => x.tap) p.frame :)
theorem mem_mram : g.mem.mram = h.mem.mram := (congrArg (fun x => x.mem.mram) p.frame :)
theorem mem_flash : g.mem.flash = h.mem.flash := (congrArg (fun x => x.mem.flash) p.frame :)

end

/-- A register of the memory block. -/
def At (a : Nat) : Prop := 0x40040000 ≤ a ∧ a < 0x40060000

theorem wr (h : Hw) {a : Nat} (v : Nat) (ha : At a) : h.Bursts (h.wr a v) := by
  refine ⟨rfl, fun b hb => Hw.rd_wr_ne h v ?_⟩
  obtain ⟨hlo, hhi⟩ := ha
  rintro rfl
  omega

theorem raise (h : Hw) (f : Fld) (k : Nat) (ha : At f.addr) : h.Bursts (h.raise f k) := by
  simp only [Hw.raise, Hw.raiseAt]
  split
  · exact wr h _ ha
  · exact wr h _ ha

theorem put (h : Hw) (f : Fld) (v : Nat) (ha : At f.addr) : h.Bursts (h.put f v) := wr h _ ha

theorem setPcs (h : Hw) (c : Nat) (p : PcState) : h.Bursts (h.setPcs c p) := ⟨rfl, fun _ _ => rfl⟩

theorem hbmW (h : Hw) (a : Nat) (bs : List Byte) (p : Bool) : h.Bursts (h.hbmW a bs p) := ⟨rfl, fun _ _ => rfl⟩

theorem raiseRep (h : Hw) (r : Report) : h.Bursts (h.raiseRep r) := by
  rw [raiseRep_frame]
  exact ⟨rfl, fun _ _ => rfl⟩

theorem burstDone (h : Hw) (id off : Nat) (data : List Byte) (bad err : Bool) :
    h.Bursts (h.burstDone id off data bad err) := by
  unfold Hw.burstDone
  split
  · exact refl h
  · dsimp only
    split
    · split
      · exact ⟨rfl, fun _ _ => rfl⟩
      · exact ⟨rfl, fun _ _ => rfl⟩
    · exact ⟨rfl, fun _ _ => rfl⟩

section
variable {c : Nat} (hc : c < 64)
include hc

theorem throttle (h : Hw) (r : Requester) (last : Nat) : h.Bursts (h.throttle c r last) := by
  have hthr : At (R.MEM_PC_THR (c / 32) (c % 32)) := by
    simp only [At, R.MEM_PC_THR]
    omega
  have hflags : At (R.MEM_PC_FLAGS (c / 32) (c % 32)) := by
    simp only [At, R.MEM_PC_FLAGS]
    omega
  have hset : ∀ p, h.Bursts ((h.setPcs c p).thrShow c) := fun p =>
    (setPcs h c p).trans (put _ (R.MEM_PC_THR_ACTIVE (c / 32) (c % 32)) _ hthr)
  unfold Hw.throttle
  dsimp only
  split
  · exact (hset _).trans (raise _ (R.MEM_PC_FLAGS_THR_FULL (c / 32) (c % 32)) 0 hflags)
  · exact hset _

theorem activate (h : Hw) (off : Nat) (r : Requester) : h.Bursts (h.activate c off r) := by
  have hcnt : At (R.MEM_PC_RHCNT (c / 32) (c % 32)) := by
    simp only [At, R.MEM_PC_RHCNT]
    omega
  have hflags : At (R.MEM_PC_FLAGS (c / 32) (c % 32)) := by
    simp only [At, R.MEM_PC_FLAGS]
    omega
  have hlast : At (R.MEM_PC_RHLAST (c / 32) (c % 32)) := by
    simp only [At, R.MEM_PC_RHLAST]
    omega
  unfold Hw.activate
  dsimp only
  split
  · exact setPcs ..
  · split
    · exact ((((setPcs h c _).trans (throttle hc ..)).trans
        (put _ (R.MEM_PC_RHCNT_COUNT (c / 32) (c % 32)) _ hcnt)).trans
        (raise _ (R.MEM_PC_FLAGS_RH (c / 32) (c % 32)) 0 hflags)).trans ((wr _ _ hlast).trans (raiseRep ..))
    · exact setPcs ..

/-- A burst without an error on the way meets neither FREEZE nor RESPOND. -/
theorem serveBurst (h : Hw) (b : HBurst) : h.Bursts (h.serveBurst c b 0 []) := by
  have hcnt : At (R.MEM_PC_POISON (c / 32) (c % 32)) := by
    simp only [At, R.MEM_PC_POISON]
    omega
  have hbump : h.Bursts (h.bump (R.MEM_PC_POISON_COUNT (c / 32) (c % 32))) := put h _ _ hcnt
  obtain ⟨hclean, hpoison⟩ := eccDecode_clean
  simp only [Hw.serveBurst, Nat.reduceLeDiff, Nat.reduceEqDiff, if_false, List.nil_append]
  cases hk : b.kind
  case full => exact hbmW ..
  all_goals
    cases hp : NSet.has h.mem.hbmP (b.off / 32)
  case read.false =>
    simp only [Bool.false_eq_true, if_false, hclean]
    exact burstDone ..
  case read.true =>
    simp only [if_true, hpoison]
    exact hbump.trans (burstDone ..)
  case rmw.false =>
    simp only [Bool.false_eq_true, if_false, hclean]
    exact (hbmW h _ _ _).trans (burstDone ..)
  case rmw.true =>
    simp only [if_true, hpoison]
    exact (hbump.trans (hbmW _ _ _ _)).trans (burstDone ..)

theorem issueBurst (h : Hw) (b : HBurst) : h.Bursts (h.issueBurst c b 0 []) := by
  unfold Hw.issueBurst
  dsimp only
  split
  · exact (setPcs h c _).trans (serveBurst hc ..)
  · exact ((setPcs h c _).trans (activate hc ..)).trans (serveBurst hc ..)

end

section
variable {s : Nat} (hs : s < 2)
include hs

theorem drainWrites (h : Hw) : h.Bursts (h.drainWrites s) := by
  refine foldl_steps refl trans _ (fun h n hn => ?_) h
  have hc : 32 * s + n < 64 := by
    rw [List.mem_range] at hn
    omega
  dsimp only
  split
  · exact refl h
  · exact (foldl_steps refl trans _ (fun g b _ => issueBurst hc g b) h).trans (setPcs ..)

theorem selfRefresh (h : Hw) : h.Bursts (h.selfRefresh s) := by
  have hstat : At (R.MEM_STAT s) := by
    simp only [At, R.MEM_STAT]
    omega
  refine (foldl_steps refl trans _ (fun h n _ => ?_) h).trans (put _ (R.MEM_STAT_STATE s) _ hstat)
  dsimp only
  split
  · exact refl h
  · exact (foldl_steps refl trans _ (fun g b _ => hbmW g b.off b.data b.poison) h).trans (setPcs ..)

end

end Hw.Bursts

/-! ### Fences of the fabric ports (R124, R251-R260, R336) -/

/-- `h` with what gating the fabric changes as it stands in `g`. -/
def Hw.gate (h g : Hw) : Hw := { h with regs := g.regs, noc := { h.noc with fence := g.noc.fence }, fab := g.fab }

/-- `g` comes from `h` by gating or releasing the fabric: its state, fences and registers of the network and of the
fabric have changed. -/
structure Hw.Gates (h g : Hw) : Prop where
  frame : g = h.gate g
  rd : ∀ a, a < 0x40030000 ∨ (0x40040000 ≤ a ∧ a < 0x60000000) → g.rd a = h.rd a

namespace Hw.Gates

theorem refl (h : Hw) : h.Gates h := ⟨rfl, fun _ _ => rfl⟩

theorem trans {h g k : Hw} (p : h.Gates g) (q : g.Gates k) : h.Gates k :=
  ⟨q.frame.trans (by rw [p.frame]; rfl), fun a ha => (q.rd a ha).trans (p.rd a ha)⟩

section
variable {h g : Hw} (p : h.Gates g)
include p

theorem rst : g.rst = h.rst := (congrArg (fun x => x.rst) p.frame :)
theorem pwr' : g.pwr' = h.pwr' := (congrArg (fun x => x.pwr') p.frame :)
theorem tiles : g.tiles = h.tiles := (congrArg (fun x => x.tiles) p.frame :)
theorem mem : g.mem = h.mem := (congrArg (fun x => x.mem) p.frame :)

end

/-- A register of the network, or of the fabric. -/
def At (a : Nat) : Prop := (0x40030000 ≤ a ∧ a < 0x40040000) ∨ 0x60000000 ≤ a

theorem wr (h : Hw) {a : Nat} (v : Nat) (ha : At a) : h.Gates (h.wr a v) := by
  refine ⟨rfl, fun b hb => Hw.rd_wr_ne h v ?_⟩
  simp only [At] at ha
  rintro rfl
  omega

theorem onFab (h : Hw) (f : FabState → FabState) : h.Gates (h.onFab f) := ⟨rfl, fun _ _ => rfl⟩

/-- A port takes or loses a cause of its fence, and shows it. -/
theorem fencePort (h : Hw) {i : Nat} (n : Nat) (c : Cause) (b : Bool) (hi : i < 64) :
    h.Gates ((h.fenceSet n c b).portShow i) := by
  have hset : h.Gates (h.fenceSet n c b) := ⟨rfl, fun _ _ => rfl⟩
  have haddr : At (R.NOC_FOLD_FSTAT ((16 + i - 16) / 16)) := by
    simp only [At, R.NOC_FOLD_FSTAT]
    omega
  refine hset.trans ?_
  simp only [Hw.portShow, Hw.setFoldStat]
  rw [if_neg (by omega)]
  exact wr _ _ haddr

theorem parkPorts (h : Hw) (b : Bool) : h.Gates (h.parkPorts b) :=
  (onFab h _).trans (foldl_steps refl trans _ (fun _ _ hi => fencePort _ _ .park b (List.mem_range.mp hi)) _)

theorem isoPorts (h : Hw) : h.Gates h.isoPorts :=
  foldl_steps refl trans _ (fun _ _ hi => fencePort _ _ .isolated _ (List.mem_range.mp hi)) h

theorem pllFences (h : Hw) : h.Gates h.pllFences :=
  foldl_steps refl trans _ (fun _ _ hi => fencePort _ _ .userPll _ (List.mem_range.mp hi)) h

theorem portsUnreleased (h : Hw) (b : Bool) : h.Gates (h.portsUnreleased b) :=
  foldl_steps refl trans _ (fun _ _ hi => fencePort _ _ .unreleased b (List.mem_range.mp hi)) h

theorem localRelease (h : Hw) (volts : Nat) : h.Gates (h.localRelease volts) := by
  have hun : h.Gates h.unrelease := (onFab h _).trans (portsUnreleased ..)
  have hvmis : At R.FAB_IO_VMIS := .inr (by decide)
  unfold Hw.localRelease
  split
  · exact refl h
  · exact ((hun.trans (onFab ..)).trans (onFab ..)).trans (wr _ _ hvmis)

end Hw.Gates

end Sys2Proof.Machine
end

section
/-!
SUPPORT. The reset pins and POR: what a request of a reset records and leaves pending (chapter 3).
-/
namespace Sys2Proof.Machine

open Sys2Proof

/-! ### Causes and the pending reset (R153, R154) -/

theorem bit_cause_self (h : Hw) {c : Nat} (hc : c < 32) : bit ((h.cause c).rd R.SYS_RST_CAUSE) c = true := by
  rw [Hw.cause, Hw.rd_wr_self, bit_mod_word _ hc, bit_setBit, if_pos rfl]

theorem bit_cause_of_set {h : Hw} (c : Nat) {k : Nat} (hk : k < 32) (hb : bit (h.rd R.SYS_RST_CAUSE) k = true) :
    bit ((h.cause c).rd R.SYS_RST_CAUSE) k = true := by
  rw [Hw.cause, Hw.rd_wr_self, bit_mod_word _ hk, bit_setBit]
  split
  · rfl
  · exact hb

theorem rd_setPend (h : Hw) (p : Option PendRst) {a : Nat} (ha : a ≠ R.SYS_RST_STAT) : (h.setPend p).rd a = h.rd a := by
  simp only [Hw.setPend, Hw.showPend, Hw.putB]
  rw [Hw.rd_put_ne _ _ _ ha, Hw.rd_put_ne _ _ _ ha, Hw.rd_put_ne _ _ _ ha]
  rfl

theorem setPend_frame (h : Hw) (p : Option PendRst) :
    h.setPend p = { h with regs := (h.setPend p).regs, rst := { h.rst with pend := p } } := by
  rw [Hw.setPend, (Hw.Writes.showPend _).frame]
  rfl

/-! ### The stages of a request (R94-R96, R114-R118, R122) -/

/-- A core reset requested of an unreleased fabric is promoted (R116). -/
def Hw.promotes (h : Hw) (lv : Level) : Bool := lv == .core && !h.fabricReleased

/-- The level at which a request of level `lv` is filed. -/
def Hw.reqLevel (h : Hw) (lv : Level) : Level := if h.promotes lv then .system else lv

/-- The request has recorded its cause. -/
def Hw.reqNoted (h : Hw) (lv : Level) (c : Nat) : Hw :=
  if h.promotes lv then (h.cause c).cause rcPROMOTED else h.cause c

/-- It has counted the restart of a sequence that runs. -/
def Hw.reqCounted (h : Hw) : Hw :=
  if h.rst.pend.any (fun (q : PendRst) => !(q.noclk || q.nv != 0 || q.wake)) && h.rst.pins.isEmpty then
    h.bump R.SYS_RST_STAT_RESTARTS else h

/-- The reset that a request of level `lv` leaves pending in place of `old`. -/
def Hw.reqPend (h : Hw) (old : Option PendRst) (lv : Level) (noclk noKeep : Bool) : PendRst :=
  { level := ((old.map (fun (q : PendRst) => q.level)).getD Level.core).max lv,
    noclk := noclk || (!h.asleep && !h.sysclk) || old.any (fun q => q.noclk),
    nv := h.nvRuns ||| (old.map (fun q => q.nv)).getD 0,
    wake := h.asleep,
    noKeep := noKeep || old.any (fun q => q.noKeep) }

/-- It has asked a sleeping part to wake. -/
def Hw.reqWake (h : Hw) : Hw :=
  if h.asleep && !h.exiting && !h.pwr'.latched then { h with pwr' := { h.pwr' with byReset := true } } else h

/-- It has left its reset pending. -/
def Hw.reqFiled (h : Hw) (q : PendRst) : Hw := (h.setPend (some q)).reqWake

theorem reqNoted_writes (h : Hw) (lv : Level) (c : Nat) : h.Writes (h.reqNoted lv c) := by
  unfold Hw.reqNoted
  split
  · exact (Hw.Writes.cause h c).trans (Hw.Writes.cause ..)
  · exact Hw.Writes.cause h c

theorem bit_reqNoted (h : Hw) (lv : Level) {c : Nat} (hc : c < 32) :
    bit ((h.reqNoted lv c).rd R.SYS_RST_CAUSE) c = true := by
  unfold Hw.reqNoted
  split
  · exact bit_cause_of_set _ hc (bit_cause_self h hc)
  · exact bit_cause_self h hc

theorem reqCounted_writes (h : Hw) : h.Writes h.reqCounted := by
  unfold Hw.reqCounted
  split
  · exact Hw.Writes.bump ..
  · exact Hw.Writes.refl h

theorem rd_reqCounted (h : Hw) {a : Nat} (ha : a ≠ R.SYS_RST_STAT) : h.reqCounted.rd a = h.rd a := by
  unfold Hw.reqCounted
  split
  · exact Hw.rd_put_ne _ _ _ ha
  · rfl

theorem reqWake_frame (h : Hw) : h.reqWake = { h with pwr' := h.reqWake.pwr' } := by
  unfold Hw.reqWake
  split
  · rfl
  · rfl

theorem reqWake_regs (h : Hw) : h.reqWake.regs = h.regs := (congrArg Hw.regs (reqWake_frame h) :)

theorem reqFiled_frame (h : Hw) (q : PendRst) : h.reqFiled q =
    { h with regs := (h.setPend (some q)).regs, rst := { h.rst with pend := some q },
             pwr' := (h.reqFiled q).pwr' } := by
  rw [Hw.reqFiled, reqWake_frame, setPend_frame]

theorem rd_reqFiled (h : Hw) (q : PendRst) {a : Nat} (ha : a ≠ R.SYS_RST_STAT) : (h.reqFiled q).rd a = h.rd a := by
  rw [Hw.reqFiled, Hw.rd_congr (reqWake_regs _), rd_setPend h _ ha]

theorem pwrAbandon_idle {h : Hw} (hi : h.pwr'.phase = .idle) : h.pwrAbandon = h := by
  simp only [Hw.pwrAbandon, hi, beq_self_eq_true, if_true]

theorem resetReq_stages {h : Hw} (hp : h.rst.por = false) (lv : Level) (c : Nat) (noclk noKeep : Bool) :
    let g := (h.reqNoted lv c).reqCounted
    let k := if g.asleep then g else g.pwrAbandon
    h.resetReq lv c noclk noKeep = k.reqFiled (k.reqPend (h.reqNoted lv c).rst.pend (h.reqLevel lv) noclk noKeep) := by
  rw [Hw.resetReq, hp, if_neg Bool.false_ne_true]
  rfl

section
variable {h : Hw} (hp : h.rst.por = false) (hi : h.pwr'.phase = .idle) (lv : Level) (c : Nat) (noclk noKeep : Bool)
include hp hi

/-- A request that finds no transition running abandons none. -/
theorem resetReq_idle : let g := (h.reqNoted lv c).reqCounted
    h.resetReq lv c noclk noKeep = g.reqFiled (g.reqPend h.rst.pend (h.reqLevel lv) noclk noKeep) := by
  have hpwr : (h.reqNoted lv c).reqCounted.pwr' = h.pwr' :=
    ((reqNoted_writes h lv c).trans (reqCounted_writes _)).pwr'
  have hrst : (h.reqNoted lv c).rst = h.rst := (reqNoted_writes h lv c).rst
  rw [resetReq_stages hp]
  dsimp only
  rw [pwrAbandon_idle (by rw [hpwr, hi]), ite_self, hrst]

theorem resetReq_idle_frame : let g := h.resetReq lv c noclk noKeep
    g = { h with regs := g.regs, rst := { h.rst with pend := g.rst.pend }, pwr' := g.pwr' } := by
  dsimp only
  rw [resetReq_idle hp hi, reqFiled_frame, ((reqNoted_writes h lv c).trans (reqCounted_writes _)).frame]
  rfl

/-- What is pending is of the highest level asked for (R115). -/
theorem resetReq_idle_level : (h.resetReq lv c noclk noKeep).rst.pend.map (fun q => q.level) =
    some (((h.rst.pend.map (fun (q : PendRst) => q.level)).getD .core).max (h.reqLevel lv)) := by
  rw [resetReq_idle hp hi, reqFiled_frame]
  rfl

theorem bit_resetReq_idle (hc : c < 32) : bit ((h.resetReq lv c noclk noKeep).rd R.SYS_RST_CAUSE) c = true := by
  have ha : R.SYS_RST_CAUSE ≠ R.SYS_RST_STAT := by decide
  rw [resetReq_idle hp hi, rd_reqFiled _ _ ha, rd_reqCounted _ ha]
  exact bit_reqNoted h lv hc

end

/-! ### POR (R86, R102) -/

theorem porAssert_verdict (h : Hw) {c : Nat} (hc : c < 32) : let g := h.porAssert c
    g.rst.por = true ∧ g.rst.det = h.rst.det ∧ g.tiles = [] ∧ g.part = [] ∧ g.mem.hbm = [] ∧ g.mem.kitty = [] ∧
    bit (g.rd R.SYS_RST_CAUSE) c = true :=
  ⟨rfl, rfl, rfl, rfl, rfl, rfl, bit_cause_self _ hc⟩

theorem porDetect_verdict (h : Hw) : let g := h.porDetect
    g.rst.por = true ∧ g.rst.det = true ∧ g.tiles = [] ∧ g.part = [] ∧ g.mem.hbm = [] ∧ g.mem.kitty = [] ∧
    bit (g.rd R.SYS_RST_CAUSE) 2 = true :=
  porAssert_verdict { h.mramCut with rst := { h.mramCut.rst with det := true } } (show rcPOR_DET < 32 by decide)

/-- The reset that a released POR leaves pending until SYSCLK runs (R94, R102). -/
def porPend : PendRst := { level := .por, noclk := true, nv := 0, wake := false, noKeep := true }

theorem porRelease_free {h : Hw} (hp : h.rst.por = true) (hd : h.rst.det = false) (hn : NSet.has h.rst.pins 0 = false) :
    h.porRelease = { h with rst := { h.rst with por := false, pend := some porPend } } := by
  simp only [Hw.porRelease, hp, hd, hn, Bool.not_false, Bool.and_self, if_true]
  rfl

theorem porReleaseRow_free {h : Hw} (hp : h.rst.por = true) (hn : NSet.has h.rst.pins 0 = false) : h.porReleaseRow =
    { h with rst := { h.rst with det := false, por := false, pend := some porPend } } :=
  porRelease_free (h := { h with rst := { h.rst with det := false } }) hp rfl hn

/-- A POR pending for SYSCLK has loaded the fuses: the security word is that of word 52 (R38, R102). -/
theorem porLoad_pend {s : State} (hq : s.hw.rst.pend = some porPend) : s.porLoad =
    { s with hw := { s.hw with ident := { s.hw.ident with sec := BitVec.ofNat 32 (fuseRd s.fuse 52) } } } := by
  rw [State.porLoad, hq]
  rfl

/-! ### Reset pins (R98-R101) -/

theorem pinAssert_por {h : Hw} (hn : NSet.has h.rst.pins 0 = false) (hp : h.rst.por = false) (hv : h.nvRuns = 0) :
    let g := h.porAssert rcPOR_PIN
    h.pinAssert 0 = { g with rst := { g.rst with pins := NSet.add g.rst.pins 0 } } := by
  simp only [Hw.pinAssert, Hw.porPin, hn, hp, hv, Bool.false_eq_true, or_false, if_true, if_false, bne_self_eq_false]
  rfl

/-- The level that a pin asks for, and the cause it records. -/
def pinLevel (p : Nat) : Level := if p = 1 then .system else .core
def pinCause (p : Nat) : Nat := if p = 1 then rcSYS_PIN else rcCORE_PIN

theorem pinAssert_sys_core {h : Hw} {p : Nat} (hr : p = 1 ∨ p = 2) (hn : NSet.has h.rst.pins p = false) :
    let g := h.resetReq (pinLevel p) (pinCause p) false false
    h.pinAssert p = { g with rst := { g.rst with pins := NSet.add g.rst.pins p } } := by
  obtain rfl | rfl := hr
  · simp only [Hw.pinAssert, hn]
    rfl
  · simp only [Hw.pinAssert, hn]
    rfl

theorem pinAssert_sys_core_verdict {h : Hw} {p : Nat} (hr : p = 1 ∨ p = 2) (hn : NSet.has h.rst.pins p = false)
    (hp : h.rst.por = false) (hi : h.pwr'.phase = .idle) : let g := h.pinAssert p
    NSet.has g.rst.pins p = true ∧ bit (g.rd R.SYS_RST_CAUSE) (pinCause p) = true ∧
    g.rst.pend.map (fun q => q.level) =
      some (((h.rst.pend.map (fun (q : PendRst) => q.level)).getD .core).max (h.reqLevel (pinLevel p))) ∧
    g.mem = h.mem ∧ g.tiles = h.tiles := by
  have hc : pinCause p < 32 := by
    obtain rfl | rfl := hr
    · decide
    · decide
  have hf := resetReq_idle_frame hp hi (pinLevel p) (pinCause p) false false
  dsimp only
  rw [pinAssert_sys_core hr hn]
  exact ⟨by rw [NSet.has_add, beq_self_eq_true, Bool.true_or],
    bit_resetReq_idle hp hi (pinLevel p) (pinCause p) false false hc, resetReq_idle_level hp hi ..,
    (congrArg Hw.mem hf :), (congrArg Hw.tiles hf :)⟩

theorem pinRelease_por {h : Hw} (hp : h.rst.por = true) (hd : h.rst.det = false) : h.pinRelease 0 =
    { h with rst := { h.rst with pins := NSet.del h.rst.pins 0, por := false, pend := some porPend } } := by
  rw [Hw.pinRelease, if_pos rfl]
  exact porRelease_free (h := { h with rst := { h.rst with pins := NSet.del h.rst.pins 0 } }) hp hd
    (by rw [NSet.has_del, bne_self_eq_false, Bool.false_and])

theorem pinRelease_other (h : Hw) {p : Nat} (hn : p ≠ 0) :
    h.pinRelease p = { h with rst := { h.rst with pins := NSet.del h.rst.pins p } } := by
  rw [Hw.pinRelease, if_neg hn]

/-- Settles O10, a clause for each event of the detector and of the pins. -/
theorem resetPins : Obligations.ResetPins := by
  refine ⟨fun s => ⟨_, rfl, porDetect_verdict s.fuseCut.hw⟩, fun s hp hn => ?_, fun s p hr hn hp hi => ?_,
    fun s hn hp hv => ?_, fun s => rfl, fun s => rfl, fun s => rfl, fun s p hn => ?_, fun s hp hd => ?_⟩
  · rw [exec_porRelease, execPorRelease, porReleaseRow_free hp hn, porLoad_pend rfl]
    rfl
  · obtain ⟨hpin, hcause, hlevel, hmem, htiles⟩ := pinAssert_sys_core_verdict hr hn hp hi
    refine ⟨_, rfl, hpin, ?_, ?_, ?_, hmem, htiles⟩
    · obtain rfl | rfl := hr <;> exact hcause
    · rw [← Option.isSome_map (f := fun (q : PendRst) => q.level)]
      exact hlevel ▸ rfl
    · rintro rfl hnone
      rw [hnone] at hlevel
      exact hlevel
  · obtain ⟨hpor, -, htiles, -, hhbm, -, hcause⟩ := porAssert_verdict s.hw (show rcPOR_PIN < 32 by decide)
    refine ⟨_, congrArg s.next (pinAssert_por hn hp hv), hpor, ?_, hcause, htiles, hhbm⟩
    rw [NSet.has_add, beq_self_eq_true, Bool.true_or]
  · rw [exec_resetPinRelease, execResetPinRelease, pinRelease_other _ hn]
  · rw [exec_resetPinRelease, execResetPinRelease, pinRelease_por hp hd, porLoad_pend rfl]
    exact ⟨_, rfl, rfl, by rw [NSet.has_del, bne_self_eq_false, Bool.false_and], rfl, rfl⟩

end Sys2Proof.Machine
end

section
/-!
SUPPORT. Writes of PWR_CTL and the entry to the sleep states (chapter 3: R124-R135, R149).
-/
namespace Sys2Proof.Machine

open Sys2Proof

/-! ### Registers that a write leaves -/

theorem get_of_rd {h g : Hw} {f : Fld} (e : g.rd f.addr = h.rd f.addr) : g.get f = h.get f := by
  rw [Hw.get, e, Hw.get]

theorem is_of_rd {h g : Hw} {f : Fld} (e : g.rd f.addr = h.rd f.addr) : g.is f = h.is f := by
  rw [Hw.is, get_of_rd e, Hw.is]

theorem bitOf_of_rd {h g : Hw} {f : Fld} (e : g.rd f.addr = h.rd f.addr) (k : Nat) : g.bitOf f k = h.bitOf f k := by
  rw [Hw.bitOf, get_of_rd e, Hw.bitOf]

theorem foldl_fixed_mem {α β : Type} {f : β → α → β} {b : β} (l : List α) (hf : ∀ x ∈ l, f b x = b) :
    l.foldl f b = b := by
  induction l with
  | nil => rfl
  | cons x l ih =>
    rw [List.foldl_cons, hf x List.mem_cons_self]
    exact ih (fun y hy => hf y (List.mem_cons_of_mem x hy))

/-! ### The power sequencer at rest (R161) -/

theorem pwrRest_frame (h : Hw) (st : Nat) :
    h.pwrRest st = { h with regs := (h.pwrRest st).regs, pwr' := { h.pwr' with phase := .idle } } := by
  have hw : h.Writes (((h.put R.PWR_STATE_STATE st).putB R.PWR_STATE_BUSY false).put R.PWR_STATE_TARGET st) :=
    ((Hw.Writes.put h _ _).trans (Hw.Writes.putB ..)).trans (Hw.Writes.put ..)
  rw [Hw.pwrRest, hw.frame]
  rfl

theorem rd_pwrRest (h : Hw) (st : Nat) {a : Nat} (ha : a ≠ R.PWR_STATE) : (h.pwrRest st).rd a = h.rd a :=
  calc (h.pwrRest st).rd a
      = (((h.put R.PWR_STATE_STATE st).putB R.PWR_STATE_BUSY false).put R.PWR_STATE_TARGET st).rd a := rfl
    _ = ((h.put R.PWR_STATE_STATE st).putB R.PWR_STATE_BUSY false).rd a := Hw.rd_put_ne _ _ _ ha
    _ = (h.put R.PWR_STATE_STATE st).rd a := Hw.rd_put_ne _ _ _ ha
    _ = h.rd a := Hw.rd_put_ne _ _ _ ha

theorem pwr_pwrRest (h : Hw) {st : Nat} (hs : st < 8) : (h.pwrRest st).pwr = st := by
  change (((h.put R.PWR_STATE_STATE st).putB R.PWR_STATE_BUSY false).put R.PWR_STATE_TARGET st).get R.PWR_STATE_STATE =
    st
  rw [Hw.get_put_other _ _ _ _ (by decide) (by decide) (by decide), Hw.putB,
    Hw.get_put_other _ _ _ _ (by decide) (by decide) (by decide), Hw.get_put_self _ _ _ (by decide) (by decide)]
  exact Nat.mod_eq_of_lt hs

theorem busy_pwrRest (h : Hw) (st : Nat) : (h.pwrRest st).is R.PWR_STATE_BUSY = false := by
  change (((h.put R.PWR_STATE_STATE st).putB R.PWR_STATE_BUSY false).put R.PWR_STATE_TARGET st).is R.PWR_STATE_BUSY =
    false
  rw [Hw.is, Hw.get_put_other _ _ _ _ (by decide) (by decide) (by decide),
    Hw.get_putB_self _ _ _ (by decide) (by decide)]
  rfl

/-! ### A write of PWR_CTL (R16, R124, R129, R162) -/

/-- PWR_CTL has taken the timeout and the target of a write. -/
def Hw.ctlSet (h : Hw) (tmo t : Nat) : Hw :=
  (if tmo = 0 then h else h.put R.PWR_CTL_PCIE_TMO tmo).put R.PWR_CTL_TARGET t

/-- The transition to a permitted target starts. -/
def Hw.pwrStart (h : Hw) (t : Nat) : Hw :=
  if t = pwrRUN then (if h.pwr = pwrPARK then h.parkPorts false else h).pwrRest pwrRUN
  else if t = pwrIDLE then h.pwrRest pwrIDLE
  else h.pwrFold t

theorem pwrGo_eq (h : Hw) (t : Nat) : h.pwrGo t = (h.put R.PWR_CTL_TARGET t).pwrStart t := rfl

theorem ctlSet_writes (h : Hw) (tmo t : Nat) : h.Writes (h.ctlSet tmo t) := by
  unfold Hw.ctlSet
  split
  · exact Hw.Writes.put ..
  · exact (Hw.Writes.put h R.PWR_CTL_PCIE_TMO tmo).trans (Hw.Writes.put ..)

theorem rd_ctlSet (h : Hw) (tmo t : Nat) {a : Nat} (ha : a ≠ R.PWR_CTL) : (h.ctlSet tmo t).rd a = h.rd a := by
  unfold Hw.ctlSet
  rw [Hw.rd_put_ne _ _ _ ha]
  split
  · rfl
  · exact Hw.rd_put_ne _ _ _ ha

theorem regDo_pwrCtl (h : Hw) (v : Nat) (hd : h.blkDown .aon R.PWR_CTL = false) :
    h.regDo R.PWR_CTL v = h.pwrCtl (v % 2 ^ 32) := by
  obtain ⟨r, hr, hb⟩ : ∃ r, regDef? R.PWR_CTL = some r ∧ r.blk = .aon := ⟨_, rfl, rfl⟩
  rw [Hw.regDo, regWrite_of_regDef h v _ hr (hb ▸ hd) (by decide), Hw.regStore, hb]
  rfl

theorem pwrAllowed_of_rd {h g : Hw} (hp : g.rd R.PWR_STATE = h.rd R.PWR_STATE) (ht : g.rd R.TBL_STAT = h.rd R.TBL_STAT)
    (t : Nat) : g.pwrAllowed t = h.pwrAllowed t := by
  have hpwr : g.pwr = h.pwr := get_of_rd hp
  have hpresent : g.presentList = h.presentList := by rw [Hw.presentList, Hw.presentList, get_of_rd ht]
  have hsleep : g.is R.TBL_STAT_SLEEP_OK = h.is R.TBL_STAT_SLEEP_OK := is_of_rd ht
  simp only [Hw.pwrAllowed, hpwr, hpresent, hsleep]

theorem pwrTarget_allowed {h : Hw} {t : Nat} (ht : t ≤ 4) (hb : h.is R.PWR_STATE_BUSY = false)
    (ha : h.pwrAllowed t = true) : h.pwrTarget t = h.pwrGo t := by
  simp only [Hw.pwrTarget, Nat.not_lt.mpr ht, hb, ha, Bool.false_eq_true, if_false, if_true]

/-- The fields of the value that a row writes to PWR_CTL. -/
theorem ctlValue_fields (tmo : Nat) {t : Nat} (ht : t ≤ 4) : let v := (tmo % 256 * 256 + t) % 2 ^ 32
    bits v 15 8 = tmo % 256 ∧ v % 8 = t := by
  have hlt : tmo % 256 < 256 := Nat.mod_lt _ (by decide)
  simp only [bits, Nat.shiftRight_eq_div_pow]
  omega

/-- A permitted target, written while no transition runs, starts its transition. -/
theorem regDo_pwrCtl_allowed {h : Hw} (tmo : Nat) {t : Nat} (hd : h.blkDown .aon R.PWR_CTL = false)
    (hb : h.is R.PWR_STATE_BUSY = false) (ht : t ≤ 4) (ha : h.pwrAllowed t = true) :
    h.regDo R.PWR_CTL (tmo % 256 * 256 + t) = (h.ctlSet (tmo % 256) t).pwrStart t := by
  obtain ⟨htmo, htgt⟩ := ctlValue_fields tmo ht
  rw [regDo_pwrCtl h _ hd, Hw.pwrCtl, htmo, htgt]
  have hctl : ∀ {a}, a ≠ R.PWR_CTL →
      (if tmo % 256 = 0 then h else h.put R.PWR_CTL_PCIE_TMO (tmo % 256)).rd a = h.rd a := by
    intro a hne
    split
    · rfl
    · exact Hw.rd_put_ne _ _ _ hne
  have hbusy := (is_of_rd (f := R.PWR_STATE_BUSY) (hctl (by decide))).trans hb
  have hallowed := (pwrAllowed_of_rd (hctl (by decide)) (hctl (by decide)) t).trans ha
  exact (pwrTarget_allowed ht hbusy hallowed).trans (pwrGo_eq ..)


/-! ### The start of an entry (R127, R131 step 1) -/

/-- TARGET and BUSY show a transition to target `t`. -/
def Hw.pwrShown (h : Hw) (t : Nat) : Hw := (h.put R.PWR_STATE_TARGET t).putB R.PWR_STATE_BUSY true

/-- A transition to target `t` has begun. -/
def Hw.pwrBegun (h : Hw) (t : Nat) : Hw :=
  { h.pwrShown t with pwr' := { h.pwr' with phase := .folding, pme := false, latched := false } }

theorem rd_pwrBegun (h : Hw) (t : Nat) {a : Nat} (ha : a ≠ R.PWR_STATE) : (h.pwrBegun t).rd a = h.rd a :=
  calc (h.pwrBegun t).rd a
      = (h.pwrShown t).rd a := Hw.rd_congr rfl a
    _ = (h.put R.PWR_STATE_TARGET t).rd a := Hw.rd_put_ne _ _ _ ha
    _ = h.rd a := Hw.rd_put_ne _ _ _ ha

theorem target_pwrBegun (h : Hw) {t : Nat} (ht : t < 8) : (h.pwrBegun t).get R.PWR_STATE_TARGET = t := by
  rw [Hw.get_congr (h := h.pwrBegun t) (g := h.pwrShown t) rfl, Hw.pwrShown,
    Hw.get_putB_other _ _ _ _ (by decide) (by decide) (by decide), Hw.get_put_self _ _ _ (by decide) (by decide)]
  exact Nat.mod_eq_of_lt ht

theorem busy_pwrBegun (h : Hw) (t : Nat) : (h.pwrBegun t).is R.PWR_STATE_BUSY = true := by
  rw [Hw.is_congr (h := h.pwrBegun t) (g := h.pwrShown t) rfl, Hw.pwrShown,
    Hw.is_putB_self _ _ _ (by decide) (by decide)]

/-- Nothing is open, folds or is reset: an entry need not wait for a partition (R127). -/
def Hw.closed (h : Hw) : Prop := h.anyOpen = false ∧ h.is R.PCIE_FLR_STAT_FLR = false

theorem popen_of_anyOpen {h : Hw} (ho : h.anyOpen = false) {p : Nat} (hp : p < 16) : h.popen p = false := by
  rw [Hw.anyOpen, List.any_eq_false] at ho
  have := ho p (List.mem_range.mpr hp)
  rw [Bool.not_eq_true, Bool.or_eq_false_iff] at this
  exact this.1

theorem anyOpen_of_rd {h g : Hw} (hr : ∀ a, a ≠ R.PWR_CTL → a ≠ R.PWR_STATE → g.rd a = h.rd a) :
    g.anyOpen = h.anyOpen := by
  have hpopen : ∀ p, g.popen p = h.popen p := by
    intro p
    have hs : g.pstate p = h.pstate p :=
      get_of_rd (hr _ (by simp only [R.SYS_PART_STAT_STATE, R.SYS_PART_STAT, R.PWR_CTL]; omega)
      (by simp only [R.SYS_PART_STAT_STATE, R.SYS_PART_STAT, R.PWR_STATE]; omega))
    rw [Hw.popen, hs, Hw.popen]
  have hfold : ∀ p, g.foldStat p = h.foldStat p := by
    intro p
    simp only [Hw.foldStat]
    rw [hr R.NOC_FOLD_STAT (by decide) (by decide),
      hr (R.NOC_FOLD_FSTAT ((p - 16) / 16)) (by simp only [R.NOC_FOLD_FSTAT, R.PWR_CTL]; omega)
        (by simp only [R.NOC_FOLD_FSTAT, R.PWR_STATE]; omega)]
  simp only [Hw.anyOpen, hpopen, hfold]

theorem closed_of_rd {h g : Hw} (hr : ∀ a, a ≠ R.PWR_CTL → a ≠ R.PWR_STATE → g.rd a = h.rd a) (hc : h.closed) :
    g.closed :=
  ⟨(anyOpen_of_rd hr).trans hc.1, (is_of_rd (hr _ (by decide) (by decide))).trans hc.2⟩

theorem wakeActive_of_rd {h g : Hw} (hr : g.rd R.PWR_WAKE_CFG = h.rd R.PWR_WAKE_CFG)
    (hw : g.pwr'.winLevel = h.pwr'.winLevel) : g.wakeActive = h.wakeActive := by
  have hen : ∀ n, g.bitOf R.PWR_WAKE_CFG_WIN_EN n = h.bitOf R.PWR_WAKE_CFG_WIN_EN n := bitOf_of_rd hr
  have hedge : ∀ n, g.bitOf R.PWR_WAKE_CFG_WIN_EDGE n = h.bitOf R.PWR_WAKE_CFG_WIN_EDGE n := bitOf_of_rd hr
  have hpol : ∀ n, g.bitOf R.PWR_WAKE_CFG_WIN_POL n = h.bitOf R.PWR_WAKE_CFG_WIN_POL n := bitOf_of_rd hr
  simp only [Hw.wakeActive, hw, hen, hedge, hpol]

/-- With nothing to fold and no level that would wake the part at once, a transition settles as it begins. -/
theorem pwrFold_closed {h : Hw} {t : Nat} (hc : h.closed) (hw : 3 ≤ t → h.wakeActive = []) :
    h.pwrFold t = (h.pwrBegun t).pwrSettle := by
  have hrd : ∀ a, a ≠ R.PWR_CTL → a ≠ R.PWR_STATE → (h.pwrBegun t).rd a = h.rd a := fun a _ ha => rd_pwrBegun h t ha
  have hopen := (closed_of_rd hrd hc).1
  have hnone : (if 3 ≤ t then
      (h.pwrBegun t).wakeActive.foldl (fun (h : Hw) n => h.wakeEvent (4 + n)) (h.pwrBegun t) else h.pwrBegun t) =
      h.pwrBegun t := by
    split
    next ht => rw [wakeActive_of_rd (h := h) (rd_pwrBegun h t (by decide)) rfl, hw ht]; rfl
    next => rfl
  have hfold : (List.range 16).foldl (fun (h : Hw) p => if h.popen p then h.foldRequest p false [] else h)
      (h.pwrBegun t) = h.pwrBegun t :=
    foldl_fixed_mem _ (fun p hp => by rw [popen_of_anyOpen hopen (List.mem_range.mp hp), if_neg Bool.false_ne_true])
  calc h.pwrFold t
      = ((List.range 16).foldl (fun (h : Hw) p => if h.popen p then h.foldRequest p false [] else h)
          (if 3 ≤ t then (h.pwrBegun t).wakeActive.foldl (fun (h : Hw) n => h.wakeEvent (4 + n)) (h.pwrBegun t)
            else h.pwrBegun t)).pwrSettle := rfl
    _ = (h.pwrBegun t).pwrSettle := by rw [hnone, hfold]

/-- A transition that waited for folds goes on once nothing is open (R127). -/
theorem pwrSettle_closed {h : Hw} (hp : h.pwr'.phase = .folding) (hc : h.closed) : h.pwrSettle =
    if h.get R.PWR_STATE_TARGET = pwrPARK then (h.parkPorts true).pwrRest pwrPARK else h.sleepWait := by
  obtain ⟨hopen, hflr⟩ := hc
  simp only [Hw.pwrSettle, hp, hopen, hflr, bne_self_eq_false, Bool.or_self, Bool.false_eq_true, if_false]

/-! ### Fences of PARK and of the sleep states (R124, R131 step 2) -/

theorem fenced_of_fence {h g : Hw} (e : g.noc.fence = h.noc.fence) (n : Nat) : g.fenced n = h.fenced n := by
  simp only [Hw.fenced, Hw.fenceMask, e]

theorem fenced_fenceSet_mono {h : Hw} (n : Nat) (c : Cause) {m : Nat} (hm : h.fenced m = true) :
    (h.fenceSet n c true).fenced m = true := by
  by_cases hn : m = n
  · subst hn
    exact Hw.fenced_fenceSet h m c
  · rw [Hw.fenced, Hw.fenceMask_fenceSet, if_neg hn]
    exact hm

theorem portShow_fence (h : Hw) (i : Nat) : (h.portShow i).noc.fence = h.noc.fence := by
  simp only [Hw.portShow, Hw.setFoldStat]
  split <;> rfl

theorem fenced_foldl_park (l : List Nat) (h : Hw) {i : Nat} (hi : i ∈ l ∨ h.fenced (576 + i) = true) :
    (l.foldl (fun (h : Hw) i => (h.fenceSet (576 + i) .park true).portShow i) h).fenced (576 + i) = true := by
  induction l generalizing h with
  | nil => exact hi.resolve_left List.not_mem_nil
  | cons x l ih =>
    refine ih _ ?_
    rw [fenced_of_fence (portShow_fence ..), List.mem_cons] at *
    rcases hi with (rfl | hi) | hi
    · exact .inr (Hw.fenced_fenceSet ..)
    · exact .inl hi
    · exact .inr (fenced_fenceSet_mono _ _ hi)

theorem fenced_parkPorts (h : Hw) {i : Nat} (hi : i < 64) : (h.parkPorts true).fenced (576 + i) = true :=
  fenced_foldl_park _ _ (.inl (List.mem_range.mpr hi))

/-! ### Steps 2 to 6 of the entry to the sleep states (R131, R135, R148) -/

/-- Clocks, links and stacks are quiet: a stack in RUN has completed its writes and entered self-refresh. -/
def Hw.quieted (h : Hw) : Hw :=
  (List.range 2).foldl (fun (h : Hw) s => if h.memState s == msRUN then (h.drainWrites s).selfRefresh s else h)
    ((((h.parkPorts true).ethDown 0).ethDown 1).dpyOff)

/-- The entry waits for the host. -/
def Hw.entryWaits (h : Hw) : Hw := { h with pwr' := { h.pwr' with phase := .entryWait } }

/-- A POWER command that waits completes (R406). -/
def Hw.powerDone (h : Hw) : Hw :=
  match h.pwr'.cmd with
  | some (m, k) => ({ h with pwr' := { h.pwr' with cmd := none } } : Hw).ok m k (h.rd R.PWR_STATE)
  | none => h

/-- With the link down there is nothing to wait for. -/
def Hw.sleepOrWait (h : Hw) : Hw := if h.linkUp then h else h.sleepNow

theorem sleepWait_stages (h : Hw) : h.sleepWait = h.quieted.entryWaits.powerDone.sleepOrWait := by
  have hq := Hw.quieted.eq_def h
  generalize h.quieted = q at hq ⊢
  rw [Hw.sleepWait, ← hq]
  rfl

theorem powerDone_none {h : Hw} (hc : h.pwr'.cmd = none) : h.powerDone = h := by
  rw [Hw.powerDone, hc]

theorem quieted_steps (h : Hw) : ∃ e, (h.parkPorts true).Posts e ∧ e.Bursts h.quieted := by
  refine ⟨_, ((Hw.Posts.ethDown _ 0).trans (Hw.Posts.ethDown _ 1)).trans (Hw.Posts.dpyOff _),
    foldl_steps Hw.Bursts.refl Hw.Bursts.trans _ (fun h s hs => ?_) _⟩
  rw [List.mem_range] at hs
  split
  · exact (Hw.Bursts.drainWrites hs h).trans (Hw.Bursts.selfRefresh hs _)
  · exact Hw.Bursts.refl h

/-- Quieting the part leaves the power sequencer, the registers of the system block and PCIE_STAT. -/
theorem quieted_pwr' (h : Hw) : h.quieted.pwr' = h.pwr' := by
  obtain ⟨e, hpost, hburst⟩ := quieted_steps h
  rw [hburst.pwr', hpost.pwr', (Hw.Gates.parkPorts h true).pwr']

theorem rd_quieted (h : Hw) {a : Nat} (ha : a < 0x40020000 ∨ a = R.PCIE_STAT) : h.quieted.rd a = h.rd a := by
  have hpcie : R.PCIE_STAT = 0x400A0000 := rfl
  obtain ⟨e, hpost, hburst⟩ := quieted_steps h
  rw [hburst.rd a (by omega), hpost.rd a ha, (Hw.Gates.parkPorts h true).rd a (by omega)]

theorem fenced_quieted (h : Hw) {i : Nat} (hi : i < 64) : h.quieted.fenced (576 + i) = true := by
  obtain ⟨e, hpost, hburst⟩ := quieted_steps h
  rw [fenced_of_fence (h := h.parkPorts true) (by rw [hburst.noc_fence, hpost.noc]), fenced_parkPorts h hi]

theorem linkUp_of_rd {h g : Hw} (e : g.rd R.PCIE_STAT = h.rd R.PCIE_STAT) : g.linkUp = h.linkUp := by
  have hdl : g.is R.PCIE_STAT_DL_UP = h.is R.PCIE_STAT_DL_UP := is_of_rd e
  have hl2 : g.is R.PCIE_STAT_L2 = h.is R.PCIE_STAT_L2 := is_of_rd e
  rw [Hw.linkUp, hdl, hl2, Hw.linkUp]

theorem cmd_entryWaits (h : Hw) : h.entryWaits.pwr'.cmd = h.pwr'.cmd := rfl

theorem phase_entryWaits (h : Hw) : h.entryWaits.pwr'.phase = .entryWait := rfl

theorem fenced_entryWaits (h : Hw) (i : Nat) : h.entryWaits.fenced i = h.fenced i := rfl

theorem rd_entryWaits (h : Hw) (a : Nat) : h.entryWaits.rd a = h.rd a := rfl

/-- Where no POWER command waits, the entry goes on at once with the link down, and else waits for the host. -/
theorem sleepWait_eq {h : Hw} (hc : h.pwr'.cmd = none) :
    h.sleepWait = if h.linkUp then h.quieted.entryWaits else h.quieted.entryWaits.sleepNow := by
  have hcmd : h.quieted.entryWaits.pwr'.cmd = none := by rw [cmd_entryWaits, quieted_pwr', hc]
  have hlink : h.quieted.entryWaits.linkUp = h.linkUp :=
    linkUp_of_rd ((rd_entryWaits ..).trans (rd_quieted h (.inr rfl)))
  rw [sleepWait_stages, powerDone_none hcmd, Hw.sleepOrWait, hlink]

theorem tapRelease_frame (h : Hw) : h.tapRelease = { h with tap := h.tapRelease.tap } := by
  unfold Hw.tapRelease
  split
  · rfl
  · rfl

theorem wakeOutShow_frame (h : Hw) :
    h.wakeOutShow = { h with pwr' := { h.pwr' with wakeOut := h.wakeOutShow.pwr'.wakeOut } } := by
  unfold Hw.wakeOutShow
  split
  · rfl
  · rfl

/-- Beside the sequencer at rest, what step 6 of an entry to LISTEN loses. -/
theorem gateListen_rests (h : Hw) : ∃ g : Hw, h.gateListen = g.pwrRest pwrLISTEN ∧ g.tiles = [] ∧ g.mem.kitty = [] :=
  ⟨_, rfl, rfl, rfl⟩

theorem gateDeep_rests (h : Hw) : ∃ g : Hw, h.gateDeep = (g.tapRelease.pwrRest pwrDEEP).wakeOutShow ∧ g.tiles = [] ∧
    g.mem.kitty = [] ∧ g.mem.hbm = [] := ⟨_, rfl, rfl, rfl, rfl⟩

theorem gateListen_verdict (h : Hw) : let g := h.gateListen
    g.pwr = 3 ∧ g.pwr'.phase = .idle ∧ g.is R.PWR_STATE_BUSY = false ∧ g.tiles = [] ∧ g.mem.kitty = [] := by
  obtain ⟨g, he, htiles, hkitty⟩ := gateListen_rests h
  rw [he]
  exact ⟨pwr_pwrRest g (by decide), rfl, busy_pwrRest .., htiles, hkitty⟩

theorem gateDeep_verdict (h : Hw) : let g := h.gateDeep
    g.pwr = 4 ∧ g.pwr'.phase = .idle ∧ g.is R.PWR_STATE_BUSY = false ∧ g.tiles = [] ∧ g.mem.kitty = [] ∧
    g.mem.hbm = [] := by
  obtain ⟨g, he, htiles, hkitty, hhbm⟩ := gateDeep_rests h
  have hf := wakeOutShow_frame (g.tapRelease.pwrRest pwrDEEP)
  have hregs : (g.tapRelease.pwrRest pwrDEEP).wakeOutShow.regs = (g.tapRelease.pwrRest pwrDEEP).regs :=
    (congrArg Hw.regs hf :)
  have ht := tapRelease_frame g
  rw [he]
  exact ⟨(Hw.get_congr hregs _).trans (pwr_pwrRest _ (by decide)), (congrArg (fun h => h.pwr'.phase) hf :),
    (Hw.is_congr hregs _).trans (busy_pwrRest ..),
    ((congrArg Hw.tiles hf :).trans (congrArg Hw.tiles ht :)).trans htiles,
    ((congrArg (fun h => h.mem.kitty) hf :).trans (congrArg (fun h => h.mem.kitty) ht :)).trans hkitty,
    ((congrArg (fun h => h.mem.hbm) hf :).trans (congrArg (fun h => h.mem.hbm) ht :)).trans hhbm⟩

theorem sleepNow_listen {h : Hw} (ht : h.get R.PWR_STATE_TARGET = 3) :
    h.sleepNow = h.snapTime.haltDealer.wakeStart.gateListen := by
  rw [Hw.sleepNow, ht]
  rfl

theorem sleepNow_deep {h : Hw} (ht : h.get R.PWR_STATE_TARGET ≠ 3) :
    h.sleepNow = h.snapTime.haltDealer.wakeStart.gateDeep := by
  rw [Hw.sleepNow]
  exact if_neg ht

theorem sleepNow_verdict (h : Hw) : let g := h.sleepNow
    g.pwr = (if h.get R.PWR_STATE_TARGET = 3 then 3 else 4) ∧ g.pwr'.phase = .idle ∧ g.is R.PWR_STATE_BUSY = false ∧
    g.tiles = [] ∧ g.mem.kitty = [] := by
  dsimp only
  split
  next ht =>
    rw [sleepNow_listen ht]
    exact gateListen_verdict _
  next ht =>
    obtain ⟨hpwr, hphase, hbusy, htiles, hkitty, -⟩ := gateDeep_verdict h.snapTime.haltDealer.wakeStart
    rw [sleepNow_deep ht]
    exact ⟨hpwr, hphase, hbusy, htiles, hkitty⟩

theorem sleepNow_deep_hbm {h : Hw} (ht : h.get R.PWR_STATE_TARGET ≠ 3) : h.sleepNow.mem.hbm = [] := by
  obtain ⟨-, -, -, -, -, hhbm⟩ := gateDeep_verdict h.snapTime.haltDealer.wakeStart
  rw [sleepNow_deep ht]
  exact hhbm

/-! ### The targets (R124, R126, R127, R131, R135) -/

theorem mem_pwrRest (h : Hw) (v : Nat) : (h.pwrRest v).mem = h.mem := (congrArg Hw.mem (pwrRest_frame h v) :)

theorem tiles_pwrRest (h : Hw) (v : Nat) : (h.pwrRest v).tiles = h.tiles := (congrArg Hw.tiles (pwrRest_frame h v) :)

theorem fenced_pwrRest (h : Hw) (v i : Nat) : (h.pwrRest v).fenced i = h.fenced i :=
  fenced_of_fence (congrArg (fun x => x.noc.fence) (pwrRest_frame h v) :) i

theorem pwrStart_idle (h : Hw) : h.pwrStart 1 = h.pwrRest 1 := by
  rw [Hw.pwrStart]
  rfl

/-- RUN and IDLE take effect at once: no memory or tile changes. -/
theorem pwrStart_run_idle (h : Hw) {t : Nat} (ht : t ≤ 1) : let g := h.pwrStart t
    g.pwr = t ∧ g.is R.PWR_STATE_BUSY = false ∧ g.mem = h.mem ∧ g.tiles = h.tiles := by
  have hrest : ∀ {k : Hw}, h.Gates k → let g := k.pwrRest t
      g.pwr = t ∧ g.is R.PWR_STATE_BUSY = false ∧ g.mem = h.mem ∧ g.tiles = h.tiles := fun {k} hk =>
    ⟨pwr_pwrRest k (by omega), busy_pwrRest k t, (mem_pwrRest k t).trans hk.mem,
      (tiles_pwrRest k t).trans hk.tiles⟩
  dsimp only
  rw [Hw.pwrStart]
  split
  next hrun =>
    subst hrun
    split
    · exact hrest (Hw.Gates.parkPorts h false)
    · exact hrest (Hw.Gates.refl h)
  next hrun =>
    obtain rfl : t = 1 := by
      change ¬ t = 0 at hrun
      omega
    exact hrest (Hw.Gates.refl h)

/-- A target that folds finds nothing open: it settles as it begins. -/
theorem pwrStart_closed {h : Hw} {t : Nat} (ht : 2 ≤ t) (ht' : t < 8) (hc : h.closed)
    (hw : 3 ≤ t → h.wakeActive = []) : h.pwrStart t =
      if t = 2 then ((h.pwrBegun t).parkPorts true).pwrRest pwrPARK else (h.pwrBegun t).sleepWait := by
  have hclosed : (h.pwrBegun t).closed := closed_of_rd (fun a _ ha => rd_pwrBegun h t ha) hc
  have hrun : t ≠ pwrRUN := by
    change t ≠ 0
    omega
  have hidle : t ≠ pwrIDLE := by
    change t ≠ 1
    omega
  rw [Hw.pwrStart, if_neg hrun, if_neg hidle, pwrFold_closed hc hw, pwrSettle_closed rfl hclosed,
    target_pwrBegun h ht']
  rfl

theorem mem_pwrBegun (h : Hw) (t : Nat) : (h.pwrBegun t).mem = h.mem := rfl

theorem tiles_pwrBegun (h : Hw) (t : Nat) : (h.pwrBegun t).tiles = h.tiles := rfl

/-- A part that has parked its ports rests in its state with every port fenced. -/
theorem parked_verdict (h : Hw) {v : Nat} (hv : v < 8) : let g := (h.parkPorts true).pwrRest v
    g.pwr = v ∧ g.is R.PWR_STATE_BUSY = false ∧ (∀ i, i < 64 → g.fenced (576 + i) = true) ∧ g.mem = h.mem ∧
    g.tiles = h.tiles := by
  have hg := Hw.Gates.parkPorts h true
  exact ⟨pwr_pwrRest _ hv, busy_pwrRest _ v, fun i hi => (fenced_pwrRest ..).trans (fenced_parkPorts h hi),
    (mem_pwrRest ..).trans hg.mem, (tiles_pwrRest ..).trans hg.tiles⟩

theorem pwrStart_park {h : Hw} (hc : h.closed) : let g := h.pwrStart 2
    g.pwr = 2 ∧ g.is R.PWR_STATE_BUSY = false ∧ (∀ i, i < 64 → g.fenced (576 + i) = true) ∧ g.mem = h.mem ∧
    g.tiles = h.tiles := by
  dsimp only
  rw [pwrStart_closed (by decide) (by decide) hc (fun h3 => absurd h3 (by decide)), if_pos rfl,
    ← mem_pwrBegun h 2, ← tiles_pwrBegun h 2]
  exact parked_verdict (h.pwrBegun 2) (by decide)

/-- LISTEN and DEEP: with the link up the entry waits for the host; with the link down it ends at once. -/
theorem pwrStart_sleep {h : Hw} {t : Nat} (ht : t = 3 ∨ t = 4) (hc : h.closed) (hw : h.wakeActive = [])
    (hcmd : h.pwr'.cmd = none) : let g := h.pwrStart t
      (h.linkUp = true → g.pwr'.phase = .entryWait ∧ g.get R.PWR_STATE_TARGET = t ∧ g.is R.PWR_STATE_BUSY = true ∧
        ∀ i, i < 64 → g.fenced (576 + i) = true) ∧
      (h.linkUp = false → g.pwr = t ∧ g.is R.PWR_STATE_BUSY = false ∧ g.tiles = [] ∧ g.mem.kitty = [] ∧
        (t = 4 → g.mem.hbm = [])) := by
  have hb : (h.pwrBegun t).linkUp = h.linkUp := linkUp_of_rd (rd_pwrBegun h t (by decide))
  have hstate : (h.pwrBegun t).quieted.entryWaits.rd R.PWR_STATE = (h.pwrBegun t).rd R.PWR_STATE :=
    (rd_entryWaits ..).trans (rd_quieted _ (.inl (by decide)))
  have htgt : (h.pwrBegun t).quieted.entryWaits.get R.PWR_STATE_TARGET = t :=
    (get_of_rd (f := R.PWR_STATE_TARGET) hstate).trans (target_pwrBegun h (by omega))
  dsimp only
  rw [pwrStart_closed (by omega) (by omega) hc (fun _ => hw), if_neg (by omega),
    sleepWait_eq (h := h.pwrBegun t) hcmd, hb]
  refine ⟨fun hl => ?_, fun hl => ?_⟩
  · rw [if_pos hl]
    exact ⟨phase_entryWaits (h.pwrBegun t).quieted, htgt,
      (is_of_rd (f := R.PWR_STATE_BUSY) hstate).trans (busy_pwrBegun h t), fun i hi =>
        (fenced_entryWaits ..).trans (fenced_quieted _ hi)⟩
  · obtain ⟨hpwr, -, hbusy, htiles, hkitty⟩ := sleepNow_verdict (h.pwrBegun t).quieted.entryWaits
    rw [hl, if_neg Bool.false_ne_true]
    rw [htgt] at hpwr
    refine ⟨?_, hbusy, htiles, hkitty, fun h4 => sleepNow_deep_hbm (by omega)⟩
    obtain rfl | rfl := ht
    · exact hpwr
    · exact hpwr

/-! ### What is permitted (R129, R130) -/

theorem pwrAllowed_run_from {h : Hw} (hp : h.pwr = 1 ∨ h.pwr = 2) : h.pwrAllowed 0 = true := by
  obtain hp | hp := hp <;> simp [Hw.pwrAllowed, hp, pwrRUN, pwrIDLE, pwrPARK]

theorem pwrAllowed_from_run {h : Hw} {t : Nat} (hp : h.pwr = 0) (hlo : 1 ≤ t) (hhi : t ≤ 4)
    (ha : 3 ≤ t → h.presentList.length < 2) : h.pwrAllowed t = true := by
  by_cases h3 : 3 ≤ t
  · simp [Hw.pwrAllowed, hp, pwrRUN, hlo, hhi, ha h3]
  · simp [Hw.pwrAllowed, hp, pwrRUN, hlo, hhi, h3]

/-! ### The rows -/

section
variable {h : Hw} (tmo : Nat) (hd : h.blkDown .aon R.PWR_CTL = false) (hb : h.is R.PWR_STATE_BUSY = false)
include hd hb

theorem pwrRow_run_idle {t : Nat} (ht : t ≤ 1) (ha : h.pwrAllowed t = true) :
    let g := h.regDo R.PWR_CTL (tmo % 256 * 256 + t)
    g.pwr = t ∧ g.is R.PWR_STATE_BUSY = false ∧ g.mem = h.mem ∧ g.tiles = h.tiles := by
  have hw := ctlSet_writes h (tmo % 256) t
  dsimp only
  rw [regDo_pwrCtl_allowed tmo hd hb (by omega) ha, ← hw.mem, ← hw.tiles]
  exact pwrStart_run_idle _ ht

theorem pwrRow_park (ha : h.pwrAllowed 2 = true) (hc : h.closed) :
    let g := h.regDo R.PWR_CTL (tmo % 256 * 256 + 2)
    g.pwr = 2 ∧ g.is R.PWR_STATE_BUSY = false ∧ (∀ i, i < 64 → g.fenced (576 + i) = true) ∧ g.mem = h.mem ∧
    g.tiles = h.tiles := by
  have hw := ctlSet_writes h (tmo % 256) 2
  dsimp only
  rw [regDo_pwrCtl_allowed tmo hd hb (by decide) ha, ← hw.mem, ← hw.tiles]
  exact pwrStart_park (closed_of_rd (fun a ha _ => rd_ctlSet h _ 2 ha) hc)

theorem pwrRow_sleep {t : Nat} (ht : t = 3 ∨ t = 4) (ha : h.pwrAllowed t = true) (hc : h.closed)
    (hw : h.wakeActive = []) (hcmd : h.pwr'.cmd = none) : let g := h.regDo R.PWR_CTL (tmo % 256 * 256 + t)
      (h.linkUp = true → g.pwr'.phase = .entryWait ∧ g.get R.PWR_STATE_TARGET = t ∧ g.is R.PWR_STATE_BUSY = true ∧
        ∀ i, i < 64 → g.fenced (576 + i) = true) ∧
      (h.linkUp = false → g.pwr = t ∧ g.is R.PWR_STATE_BUSY = false ∧ g.tiles = [] ∧ g.mem.kitty = [] ∧
        (t = 4 → g.mem.hbm = [])) := by
  have hset := ctlSet_writes h (tmo % 256) t
  have hlink : (h.ctlSet (tmo % 256) t).linkUp = h.linkUp := linkUp_of_rd (rd_ctlSet h _ t (by decide))
  have hwake : (h.ctlSet (tmo % 256) t).wakeActive = [] :=
    (wakeActive_of_rd (rd_ctlSet h _ t (by decide)) (by rw [hset.pwr'])).trans hw
  dsimp only
  rw [regDo_pwrCtl_allowed tmo hd hb (by omega) ha, ← hlink]
  exact pwrStart_sleep ht (closed_of_rd (fun a ha _ => rd_ctlSet h _ t ha) hc) hwake (by rw [hset.pwr', hcmd])

end

/-- No target is held. -/
def Hw.unheld (h : Hw) : Hw := { h with pwr' := { h.pwr' with held := none } }

theorem pwrHeldApply_eq {h : Hw} {t : Nat} (hh : h.pwr'.held = some t) (hb : h.is R.PWR_STATE_BUSY = false) :
    h.pwrHeldApply = h.unheld.pwrTarget t := by
  simp only [Hw.pwrHeldApply, hh, hb, Bool.false_eq_true, if_false, Hw.unheld]

/-- The target held behind a transition is written when it has ended (R149). -/
theorem pwrHeldApply_idle {h : Hw} (hh : h.pwr'.held = some 1) (hb : h.is R.PWR_STATE_BUSY = false)
    (hp : h.pwr = 0) : let g := h.pwrHeldApply
      g.pwr = 1 ∧ g.pwr'.held = none ∧ g.mem = h.mem ∧ g.tiles = h.tiles := by
  have hallowed : h.unheld.pwrAllowed 1 = true :=
    pwrAllowed_from_run hp (by decide) (by decide) (fun h3 => absurd h3 (by decide))
  dsimp only
  rw [pwrHeldApply_eq hh hb, pwrTarget_allowed (h := h.unheld) (by decide) hb hallowed, pwrGo_eq, pwrStart_idle]
  exact ⟨pwr_pwrRest _ (by decide), rfl, mem_pwrRest .., tiles_pwrRest ..⟩

/-- Settles O13, a lemma per target, and one for the target held. -/
theorem powerTargets : Obligations.PowerTargets := by
  refine ⟨fun s tmo hd hb hp => ?_, fun s tmo hd hb hp => ?_, fun s tmo hd hb hp ho hf => ?_,
    fun s tmo hd hb hp hl ho hf hw hc => ?_, fun s tmo hd hb hp hl ho hf hw hc => ?_, fun s hh hb hp => ?_⟩
  · exact ⟨_, rfl, pwrRow_run_idle tmo hd hb (by decide) (pwrAllowed_run_from hp)⟩
  · exact ⟨_, rfl, pwrRow_run_idle tmo hd hb (by decide) (pwrAllowed_from_run hp (by decide) (by decide) nofun)⟩
  · exact ⟨_, rfl, pwrRow_park tmo hd hb (pwrAllowed_from_run hp (by decide) (by decide) nofun) ⟨ho, hf⟩⟩
  · obtain ⟨hup, hdown⟩ := pwrRow_sleep tmo hd hb (.inl rfl)
      (pwrAllowed_from_run hp (by decide) (by decide) fun _ => hl) ⟨ho, hf⟩ hw hc
    refine ⟨_, rfl, hup, fun hl => ?_⟩
    obtain ⟨hpwr, hbusy, htiles, hkitty, -⟩ := hdown hl
    exact ⟨hpwr, hbusy, htiles, hkitty⟩
  · obtain ⟨hup, hdown⟩ := pwrRow_sleep tmo hd hb (.inr rfl)
      (pwrAllowed_from_run hp (by decide) (by decide) fun _ => hl) ⟨ho, hf⟩ hw hc
    refine ⟨_, rfl, hup, fun hl => ?_⟩
    obtain ⟨hpwr, hbusy, htiles, hkitty, hhbm⟩ := hdown hl
    exact ⟨hpwr, hbusy, htiles, hkitty, hhbm rfl⟩
  · exact ⟨_, rfl, pwrHeldApply_idle hh hb hp⟩

end Sys2Proof.Machine
end

section
/-!
SUPPORT. The system and the core reset sequences (R103-R107): what each leaves in tiles, partitions, memories and
registers.
-/
namespace Sys2Proof.Machine

open Sys2Proof

/-! ### Straps (R12, R184, R207) -/

theorem testBit_maskOf (l : List Nat) (k : Nat) : (maskOf l).testBit k = decide (k ∈ l) := by
  have hfold : ∀ m, (l.foldl (fun a k => a ||| 2 ^ k) m).testBit k = (m.testBit k || decide (k ∈ l)) := by
    induction l with
    | nil => simp
    | cons x l ih =>
      intro m
      rw [List.foldl_cons, ih, Nat.testBit_or, Nat.testBit_two_pow]
      simp [Bool.or_assoc, eq_comm]
  rw [maskOf, hfold, Nat.zero_testBit, Bool.false_or]

/-- Where the input pins are not frozen, straps are sampled as they stand. -/
theorem strapSeen_thawed {h : Hw} (hf : h.tap.frozen = none) (v w : Nat) (pin : Nat → BPin) :
    h.strapSeen v w pin = v % 2 ^ w := by
  refine Nat.eq_of_testBit_eq fun k => ?_
  simp only [Hw.strapSeen, Hw.frozenIn, hf, Option.map_none, Option.getD_none, testBit_maskOf, Nat.testBit_mod_two_pow,
    List.mem_filter, List.mem_range, bit_eq, Bool.decide_and, Bool.decide_eq_true]

/-! ### The system reset -/

/-- What steps 1 to 4 of a system reset leave of tiles, partitions, memories, the TAP and the pending reset. -/
structure Hw.SysEmpty (h k : Hw) : Prop where
  pend : k.rst.pend = none
  tiles : k.tiles = []
  part : k.part = []
  kitty : k.mem.kitty = []
  dsram : k.mem.dsram = []
  mram : k.mem.mram = h.mem.mram
  flash : k.mem.flash = h.mem.flash
  frozen : h.tap.frozen = none → k.tap.frozen = none

/-- Registers and the blocks' states are reset. -/
def Hw.sysCleared (h : Hw) : Hw :=
  let h := h.clearRegs .system
  let c := h.clk
  let clk : ClkState := { ClkState.reset with
    locked := (c.locked.filter (fun p => p < 8)).foldl NSet.add ClkState.reset.locked, now := c.now }
  let rst : RstState := { RstState.reset with pins := h.rst.pins, dealerRun := !(h.is R.DBG_CTL_HALT) }
  let win := h.pwr'.winLevel
  Hw.blocksReset { h with clk := clk, rst := rst, pwr' := PwrState.reset win }

/-- Lasting errors are reported again and the straps sampled. -/
def Hw.sysStrapped (h : Hw) (keep : Bool) (seat boot : Nat) : Hw :=
  (h.errReset.showPend.putB R.SYS_RST_STAT_MEM_KEPT keep).straps seat boot

theorem systemSeq_stages (h : Hw) (keep : Bool) (seat boot : Nat) : h.systemSeq keep seat boot =
    (((((h.fatalCode.keepHbm keep).tapFreed).sysCleared.sysStrapped keep seat boot).trainBoth keep).tapSettle) := rfl

theorem fatalCode_writes (h : Hw) : h.Writes h.fatalCode := by
  unfold Hw.fatalCode
  split
  · exact Hw.Writes.refl h
  · split
    · exact Hw.Writes.put ..
    · split
      · exact Hw.Writes.put ..
      · exact Hw.Writes.refl h

/-- What HBM holds is all that its part of the reset changes for good. -/
theorem keepHbm_keeps (h : Hw) (keep : Bool) : (h.keepHbm keep).tap = h.tap ∧
    (h.keepHbm keep).mem.mram = h.mem.mram ∧ (h.keepHbm keep).mem.flash = h.mem.flash := by
  cases keep with
  | false => exact ⟨rfl, rfl, rfl⟩
  | true =>
    have hb : h.Bursts (h.keepHbm true) := by
      refine foldl_steps Hw.Bursts.refl Hw.Bursts.trans _ (fun h s hs => ?_) h
      rw [List.mem_range] at hs
      split
      · exact (Hw.Bursts.drainWrites hs h).trans (Hw.Bursts.selfRefresh hs _)
      · exact Hw.Bursts.refl h
    exact ⟨hb.tap, hb.mem_mram, hb.mem_flash⟩

theorem frozen_tapRelease {h : Hw} (hf : h.tap.frozen = none) : h.tapRelease.tap.frozen = none := by
  unfold Hw.tapRelease
  split
  · rfl
  · exact hf

/-- A system reset has emptied the part by the time the blocks are released. -/
theorem sysEmpty_sysCleared (h : Hw) (keep : Bool) :
    h.SysEmpty ((h.fatalCode.keepHbm keep).tapFreed).sysCleared := by
  obtain ⟨htap, hmram, hflash⟩ := keepHbm_keeps h.fatalCode keep
  have hw := fatalCode_writes h
  have ht := tapRelease_frame (h.fatalCode.keepHbm keep)
  have hcleared : ∀ k : Hw, k.SysEmpty k.sysCleared := fun k => ⟨rfl, rfl, rfl, rfl, rfl, rfl, rfl, id⟩
  have hk := hcleared (h.fatalCode.keepHbm keep).tapRelease
  refine ⟨hk.pend, hk.tiles, hk.part, hk.kitty, hk.dsram, ?_, ?_, fun hf => hk.frozen (frozen_tapRelease ?_)⟩
  · exact (hk.mram.trans (congrArg (fun x => x.mem.mram) ht :)).trans
      (hmram.trans (congrArg Mems.mram hw.mem))
  · exact (hk.flash.trans (congrArg (fun x => x.mem.flash) ht :)).trans
      (hflash.trans (congrArg Mems.flash hw.mem))
  · exact (congrArg TapState.frozen (htap.trans hw.tap)).trans hf

theorem repeatLasting_frame (h : Hw) (m : Nat) : h.repeatLasting m = { h with err := (h.repeatLasting m).err } := by
  refine foldl_steps (r := fun h g : Hw => g = { h with err := g.err }) (fun _ => rfl) (fun p q => ?_) _
    (fun g k _ => ?_) h
  · rw [q, p]
  · split
    · exact errAt_frame ..
    · rfl

theorem Hw.SysEmpty.of_eq {h k g : Hw} (he : h.SysEmpty k) (hr : g.rst = k.rst) (ht : g.tiles = k.tiles)
    (hp : g.part = k.part) (hm : g.mem = k.mem) (htap : g.tap.frozen = k.tap.frozen) : h.SysEmpty g :=
  ⟨hr ▸ he.pend, ht ▸ he.tiles, hp ▸ he.part, hm ▸ he.kitty, hm ▸ he.dsram, hm ▸ he.mram, hm ▸ he.flash,
    fun hf => htap.trans (he.frozen hf)⟩

theorem Hw.SysEmpty.of_writes {h k g : Hw} (he : h.SysEmpty k) (w : k.Writes g) : h.SysEmpty g :=
  he.of_eq w.rst w.tiles w.part w.mem (congrArg TapState.frozen w.tap)

theorem errReset_frame (h : Hw) : h.errReset = { h with err := h.errReset.err } := repeatLasting_frame _ _

/-- The registers as the straps find them. -/
def Hw.sysShown (h : Hw) (keep : Bool) : Hw := h.errReset.showPend.putB R.SYS_RST_STAT_MEM_KEPT keep

theorem sysShown_writes (h : Hw) (keep : Bool) : h.errReset.Writes (h.sysShown keep) :=
  (Hw.Writes.showPend _).trans (Hw.Writes.putB ..)

theorem straps_writes (h : Hw) (seat boot : Nat) : h.Writes (h.straps seat boot) :=
  (Hw.Writes.put ..).trans (Hw.Writes.put ..)

theorem sysEmpty_sysStrapped {h k : Hw} (he : h.SysEmpty k) (keep : Bool) (seat boot : Nat) :
    h.SysEmpty (k.sysStrapped keep seat boot) := by
  have hr := errReset_frame k
  have hw : k.errReset.Writes (k.sysStrapped keep seat boot) :=
    (sysShown_writes k keep).trans (straps_writes _ seat boot)
  have hk := he.of_eq (g := k.errReset) (congrArg Hw.rst hr :) (congrArg Hw.tiles hr :) (congrArg Hw.part hr :)
    (congrArg Hw.mem hr :) (congrArg (fun x => x.tap.frozen) hr :)
  exact hk.of_writes hw

theorem straps_shown {h : Hw} (hf : h.tap.frozen = none) (seat boot : Nat) :
    (h.straps seat boot).get R.TBL_STAT_SEAT = seat % 8 ∧ (h.straps seat boot).get R.CFG_STAT_SOURCE = boot % 4 := by
  unfold Hw.straps
  rw [strapSeen_thawed hf, strapSeen_thawed hf]
  refine ⟨?_, ?_⟩
  · rw [Hw.get_put_other _ _ _ _ (by decide) (by decide) (by decide), Hw.get_put_self _ _ _ (by decide) (by decide)]
    exact Nat.mod_mod _ _
  · rw [Hw.get_put_self _ _ _ (by decide) (by decide)]
    exact Nat.mod_mod _ _

/-! ### Training (R103 step 6, R752) -/

theorem trainStart_writes (h : Hw) (s step : Nat) : h.Writes (h.trainStart s step) :=
  ((Hw.Writes.put ..).trans (Hw.Writes.put ..)).trans (Hw.Writes.putB ..)

/-- Training changes the stack's status, and HBM_OK of CFG_STAT. -/
theorem rd_trainStart (h : Hw) (s step : Nat) {a : Nat} (ha : a ≠ R.MEM_STAT s) (hc : a ≠ R.CFG_STAT) :
    (h.trainStart s step).rd a = h.rd a :=
  calc (h.trainStart s step).rd a
    _ = ((h.put (R.MEM_STAT_STATE s) msTRAINING).put (R.MEM_STAT_STEP s) step).rd a := Hw.rd_put_ne _ _ _ hc
    _ = (h.put (R.MEM_STAT_STATE s) msTRAINING).rd a := Hw.rd_put_ne _ _ _ ha
    _ = h.rd a := Hw.rd_put_ne _ _ _ ha

theorem state_trainStart (h : Hw) {s : Nat} (hs : s < 2) (step : Nat) :
    (h.trainStart s step).get (R.MEM_STAT_STATE s) = 1 := by
  have hmem : R.MEM_STAT s ≠ R.CFG_STAT := by
    simp only [R.MEM_STAT, R.CFG_STAT]
    omega
  have hrest : (h.trainStart s step).rd (R.MEM_STAT s) =
      ((h.put (R.MEM_STAT_STATE s) msTRAINING).put (R.MEM_STAT_STEP s) step).rd (R.MEM_STAT s) :=
    Hw.rd_put_ne _ _ _ hmem
  rw [get_of_rd (f := R.MEM_STAT_STATE s) hrest]
  obtain rfl | rfl : s = 0 ∨ s = 1 := by omega
  · rw [Hw.get_put_other _ _ _ _ (by decide) (by decide) (by decide), Hw.get_put_self _ _ _ (by decide) (by decide)]
    rfl
  · rw [Hw.get_put_other _ _ _ _ (by decide) (by decide) (by decide), Hw.get_put_self _ _ _ (by decide) (by decide)]
    rfl

theorem source_trainStart (h : Hw) {s : Nat} (hs : s < 2) (step : Nat) :
    (h.trainStart s step).get R.CFG_STAT_SOURCE = h.get R.CFG_STAT_SOURCE := by
  have hmem : R.CFG_STAT ≠ R.MEM_STAT s := by
    simp only [R.MEM_STAT, R.CFG_STAT]
    omega
  refine (Hw.get_putB_other _ R.CFG_STAT_HBM_OK R.CFG_STAT_SOURCE _ (by decide) (by decide) (by decide)).trans ?_
  exact get_of_rd (f := R.CFG_STAT_SOURCE) ((Hw.rd_put_ne _ _ _ hmem).trans (Hw.rd_put_ne _ _ _ hmem))

/-- What the blocks keep when the stacks train. -/
def Hw.hbmKept (h : Hw) (kept : Bool) : Hw := { h with hbm := { h.hbm with kept := if kept then [0, 1] else [] } }

theorem trainBoth_stages (h : Hw) (kept : Bool) : h.trainBoth kept =
    ((h.hbmKept kept).trainStart 0 (if kept then 3 else 1)).trainStart 1 (if kept then 3 else 1) := rfl

theorem sysEmpty_trainBoth {h k : Hw} (he : h.SysEmpty k) (kept : Bool) : h.SysEmpty (k.trainBoth kept) := by
  rw [trainBoth_stages]
  have hk : h.SysEmpty (k.hbmKept kept) := he.of_eq rfl rfl rfl rfl rfl
  exact hk.of_writes ((trainStart_writes _ 0 _).trans (trainStart_writes _ 1 _))

/-- Both stacks train; the straps stay as they were sampled. -/
theorem trainBoth_shown (h : Hw) (kept : Bool) : let g := h.trainBoth kept
    g.get R.TBL_STAT_SEAT = h.get R.TBL_STAT_SEAT ∧ g.get R.CFG_STAT_SOURCE = h.get R.CFG_STAT_SOURCE ∧
    g.get (R.MEM_STAT_STATE 0) = 1 ∧ g.get (R.MEM_STAT_STATE 1) = 1 := by
  dsimp only
  rw [trainBoth_stages]
  generalize (if kept then 3 else 1 : Nat) = step
  refine ⟨?_, ?_, ?_, state_trainStart _ (by decide) step⟩
  · exact get_of_rd (f := R.TBL_STAT_SEAT) ((rd_trainStart _ 1 step (by decide) (by decide)).trans
      (rd_trainStart _ 0 step (by decide) (by decide)))
  · rw [source_trainStart _ (by decide), source_trainStart _ (by decide)]
    rfl
  · rw [get_of_rd (f := R.MEM_STAT_STATE 0) (rd_trainStart _ 1 step (by decide) (by decide))]
    exact state_trainStart _ (by decide) step

theorem tapSettle_frame (h : Hw) : h.tapSettle = { h with tap := { h.tap with own := h.tapSettle.tap.own } } := by
  unfold Hw.tapSettle
  split
  · rfl
  · rfl

/-- The part after a system reset: empty, its straps sampled, its stacks training. -/
theorem systemSeq_verdict {h : Hw} (hf : h.tap.frozen = none) (keep : Bool) (seat boot : Nat) :
    let g := h.systemSeq keep seat boot
    h.SysEmpty g ∧ g.get R.TBL_STAT_SEAT = seat % 8 ∧ g.get R.CFG_STAT_SOURCE = boot % 4 ∧
    g.get (R.MEM_STAT_STATE 0) = 1 ∧ g.get (R.MEM_STAT_STATE 1) = 1 := by
  dsimp only
  rw [systemSeq_stages]
  have hk := sysEmpty_sysCleared h keep
  generalize ((h.fatalCode.keepHbm keep).tapFreed).sysCleared = k at hk ⊢
  have hstrapped := sysEmpty_sysStrapped hk keep seat boot
  have hthawed : (k.sysShown keep).tap.frozen = none := by
    rw [(sysShown_writes k keep).tap]
    exact (congrArg (fun x => x.tap.frozen) (errReset_frame k) :).trans (hk.frozen hf)
  have hshown : (k.sysStrapped keep seat boot).get R.TBL_STAT_SEAT = seat % 8 ∧
      (k.sysStrapped keep seat boot).get R.CFG_STAT_SOURCE = boot % 4 := straps_shown hthawed seat boot
  generalize k.sysStrapped keep seat boot = e at hstrapped hshown ⊢
  have htrained := sysEmpty_trainBoth hstrapped keep
  obtain ⟨hseat, hsource, h0, h1⟩ := trainBoth_shown e keep
  generalize e.trainBoth keep = t at htrained hseat hsource h0 h1 ⊢
  have ht := tapSettle_frame t
  have hregs : t.tapSettle.regs = t.regs := (congrArg Hw.regs ht :)
  refine ⟨htrained.of_eq (congrArg Hw.rst ht :) (congrArg Hw.tiles ht :) (congrArg Hw.part ht :) (congrArg Hw.mem ht :)
    (congrArg (fun x => x.tap.frozen) ht :), ?_, ?_, ?_, ?_⟩
  · rw [Hw.get_congr hregs, hseat, hshown.1]
  · rw [Hw.get_congr hregs, hsource, hshown.2]
  · rw [Hw.get_congr hregs, h0]
  · rw [Hw.get_congr hregs, h1]

theorem systemReset_ready {h : Hw} {q : PendRst} (hp : h.rst.pend = some q) (hr : h.pendReady = true)
    (hl : q.level ≠ .core) (seat boot : Nat) : ∃ keep, h.systemReset seat boot = h.systemSeq keep seat boot := by
  have hsys : (q.level != .core) = true := bne_iff_ne.mpr hl
  refine ⟨q.level == .system && h.is R.SYS_RST_CFG_MEM_KEEP && !q.noKeep, ?_⟩
  simp only [Hw.systemReset, hp, hr, hsys, Bool.and_self, if_true]

/-! ### The core reset -/

/-- A register of a partition's status. -/
def partReg (a : Nat) : Prop := 0x40000800 ≤ a ∧ a < 0x40000840

/-- The steps of a core reset after the tiles are lost: tiles, Dealer SRAM, HBM, flash and the partitions'
states stay. -/
structure Hw.Restarts (h g : Hw) : Prop where
  tiles : g.tiles = h.tiles
  dsram : g.mem.dsram = h.mem.dsram
  hbm : g.mem.hbm = h.mem.hbm
  flash : g.mem.flash = h.mem.flash
  rd : ∀ a, partReg a → g.rd a = h.rd a

/-- The part waits for no command that the reset ends. -/
def Hw.coreWaitless (h : Hw) : Hw :=
  let net := h.net
  { h with
    net := { net with qWait := [], ruleWait := none,
                      ports := net.ports.map (fun (e : Nat × NetPort) => (e.1, { e.2 with change := none })) },
    tbl := { h.tbl with sleepCmd := none }, pwr' := { h.pwr' with cmd := none },
    sig := h.sig.map (fun (e : Nat × SigCore) => (e.1, { e.2 with stops := [] })),
    fab := { h.fab with ureg := h.fab.ureg.filter (fun w => match w.who with
      | .dealer _ _ => false
      | _ => true) } }

theorem coreWaits_eq (h : Hw) : h.coreWaits = if h.coreWaitless.cfg.cmd.isSome then
    (h.coreWaitless.onCfg (fun (e : CfgEng) => { e with cmd := none })).attemptFail 0x12 else h.coreWaitless := rfl

/-- The failed attempt is counted, by its kind. -/
def Hw.failCounted (h : Hw) (a : Attempt) (reason : Nat) : Hw :=
  if a = .primary1 ∨ a = .primary2 then
    (if h.is R.CFG_STAT_PRI_REASON then h else h.put R.CFG_STAT_PRI_REASON reason).bump R.CFG_FAILS_PRIMARY
  else if a = .stock then h.bump R.CFG_FAILS_STOCK else h

/-- A clear pass follows, or the next attempt. -/
def Hw.failGoesOn (h : Hw) (a : Attempt) : Hw :=
  if h.cfg.wrote || a.flash || (a.partial' && h.cfg.part != .none) then h.setCs csCLEAR
  else h.attemptNext

theorem attemptFail_eq (h : Hw) (reason : Nat) : h.attemptFail reason =
    ((h.put R.CFG_STAT_LAST_REASON reason).failCounted h.cfg.attempt reason).failGoesOn h.cfg.attempt := rfl

/-- The regions that a shut MRAM holds open are protected. -/
def Hw.mramShut (h : Hw) : Hw :=
  if h.fw.shut then ({ h with fw := { h.fw with shut := false } } : Hw).put R.SYS_MRAM_CTL_WEN 0 else h

/-- The running MRAM command completes. -/
def Hw.mramEnds (h : Hw) : Hw :=
  match h.fw.cmd with
  | none => h
  | some c =>
    if c.differs then
      (({ h with fw := { h.fw with cmd := none } } : Hw).put R.SYS_MRAM_CTL_WEN 0).complete c.mb c.hd stMEM_ERROR 1 0
    else (({ h with fw := { h.fw with cmd := none } } : Hw).put R.SYS_MRAM_CTL_WEN 0).complete c.mb c.hd c.status
      c.detail c.result

theorem mramFinish_eq (h : Hw) :
    h.mramFinish = if !h.fw.q.isEmpty || h.fw.pulse.isSome then h else h.mramShut.mramEnds := rfl

namespace Hw.Restarts

theorem refl (h : Hw) : h.Restarts h := ⟨rfl, rfl, rfl, rfl, fun _ _ => rfl⟩

theorem trans {h g k : Hw} (p : h.Restarts g) (q : g.Restarts k) : h.Restarts k :=
  ⟨q.tiles.trans p.tiles, q.dsram.trans p.dsram, q.hbm.trans p.hbm, q.flash.trans p.flash,
    fun a ha => (q.rd a ha).trans (p.rd a ha)⟩

theorem of_posts {h g : Hw} (p : h.Posts g) : h.Restarts g :=
  ⟨p.tiles, p.mem_dsram, p.mem_hbm, p.mem_flash, fun a ha => p.rd a (by
    obtain ⟨-, hhi⟩ := ha
    omega)⟩

theorem of_gates {h g : Hw} (p : h.Gates g) : h.Restarts g :=
  ⟨p.tiles, congrArg Mems.dsram p.mem, congrArg Mems.hbm p.mem, congrArg Mems.flash p.mem, fun a ha => p.rd a (by
    obtain ⟨-, hhi⟩ := ha
    omega)⟩

theorem put (h : Hw) (f : Fld) (v : Nat) (hf : f.addr < 0x40000800 ∨ 0x40000840 ≤ f.addr) : h.Restarts (h.put f v) :=
  ⟨rfl, rfl, rfl, rfl, fun a ha => Hw.rd_put_ne h f v (by
    obtain ⟨hlo, hhi⟩ := ha
    omega)⟩

theorem putB (h : Hw) (f : Fld) (b : Bool) (hf : f.addr < 0x40000800 ∨ 0x40000840 ≤ f.addr) :
    h.Restarts (h.putB f b) := put h f _ hf

theorem onCfg (h : Hw) (f : CfgEng → CfgEng) : h.Restarts (h.onCfg f) := ⟨rfl, rfl, rfl, rfl, fun _ _ => rfl⟩

theorem complete (h : Hw) (m k status detail result : Nat) : h.Restarts (h.complete m k status detail result) :=
  of_posts (.complete ..)

theorem setCs (h : Hw) (v : Nat) : h.Restarts (h.setCs v) := put h _ _ (by decide)

theorem tapRelease (h : Hw) : h.Restarts h.tapRelease := by
  unfold Hw.tapRelease
  split
  · exact ⟨rfl, rfl, rfl, rfl, fun _ _ => rfl⟩
  · exact ⟨rfl, rfl, rfl, rfl, fun _ _ => rfl⟩

/-! The configuration engine gives up its attempt (R220-R261). -/

theorem loadDone (h : Hw) (status detail : Nat) : h.Restarts (h.loadDone status detail) := by
  unfold Hw.loadDone
  split
  · exact (onCfg ..).trans (complete ..)
  · exact refl h

theorem cfgFailed (h : Hw) : h.Restarts h.cfgFailed :=
  ((((onCfg h _).trans (setCs ..)).trans (putB _ R.CFG_STAT_ERR _ (by decide))).trans (tapRelease _)).trans
    (loadDone ..)

theorem attemptStart (h : Hw) (a : Attempt) (fpos : Nat) : h.Restarts (h.attemptStart a fpos) := by
  unfold Hw.attemptStart
  dsimp only
  split
  · exact (onCfg h _).trans (setCs ..)
  · exact ((onCfg h _).trans (putB _ R.CFG_STAT_ERR _ (by decide))).trans (setCs ..)

theorem partialEnds (h : Hw) (f : CfgEng → CfgEng) (detail : Nat) :
    h.Restarts (((h.onCfg f).setCs csRELEASED).tapRelease.loadDone stCONFIG_FAIL detail) :=
  (((onCfg h f).trans (setCs ..)).trans (tapRelease _)).trans (loadDone ..)

theorem attemptNext (h : Hw) : h.Restarts h.attemptNext := by
  unfold Hw.attemptNext
  split
  case h_1 => exact (putB h R.CFG_STAT_ATTEMPT true (by decide)).trans (attemptStart ..)
  case h_2 => exact attemptStart ..
  case h_3 => exact partialEnds ..
  case h_4 => exact partialEnds ..
  case h_5 => exact cfgFailed h

theorem failCounted (h : Hw) (a : Attempt) (reason : Nat) : h.Restarts (h.failCounted a reason) := by
  unfold Hw.failCounted
  split
  · refine Hw.Restarts.trans ?_ (put _ R.CFG_FAILS_PRIMARY _ (by decide))
    split
    · exact refl h
    · exact put h R.CFG_STAT_PRI_REASON _ (by decide)
  · split
    · exact put h R.CFG_FAILS_STOCK _ (by decide)
    · exact refl h

theorem failGoesOn (h : Hw) (a : Attempt) : h.Restarts (h.failGoesOn a) := by
  unfold Hw.failGoesOn
  split
  · exact setCs ..
  · exact attemptNext h

theorem attemptFail (h : Hw) (reason : Nat) : h.Restarts (h.attemptFail reason) := by
  rw [attemptFail_eq]
  exact ((put h R.CFG_STAT_LAST_REASON reason (by decide)).trans (failCounted ..)).trans (failGoesOn ..)

/-! What the reset ends (R384, R394, R452). -/

theorem mramProtect (h : Hw) (fw : MramState) :
    h.Restarts (({ h with fw := fw } : Hw).put R.SYS_MRAM_CTL_WEN 0) := by
  have hput := put ({ h with fw := fw } : Hw) R.SYS_MRAM_CTL_WEN 0 (by decide)
  exact ⟨hput.tiles, hput.dsram, hput.hbm, hput.flash, hput.rd⟩

theorem mramShut (h : Hw) : h.Restarts h.mramShut := by
  unfold Hw.mramShut
  split
  · exact mramProtect ..
  · exact refl h

theorem mramEnds (h : Hw) : h.Restarts h.mramEnds := by
  unfold Hw.mramEnds
  split
  · exact refl h
  · split
    · exact (mramProtect ..).trans (complete ..)
    · exact (mramProtect ..).trans (complete ..)

theorem mramFinish (h : Hw) : h.Restarts h.mramFinish := by
  rw [mramFinish_eq]
  split
  · exact refl h
  · exact (mramShut h).trans (mramEnds _)

theorem coreWaits (h : Hw) : h.Restarts h.coreWaits := by
  refine Hw.Restarts.trans (g := h.coreWaitless) ⟨rfl, rfl, rfl, rfl, fun _ _ => rfl⟩ ?_
  rw [coreWaits_eq]
  split
  · exact (onCfg ..).trans (attemptFail ..)
  · exact refl _

theorem coreAbort (h : Hw) : h.Restarts h.coreAbort :=
  foldl_steps refl trans _ (fun g _ _ => complete g ..) h

theorem gfxShow (h : Hw) : h.Restarts h.gfxShow :=
  ((put h R.GFX_STAT_STATE _ (by decide)).trans (put _ R.GFX_STAT_MODE _ (by decide))).trans
    (put _ R.GFX_STAT_GTILES _ (by decide))

theorem pwrRest (h : Hw) (v : Nat) : h.Restarts (h.pwrRest v) := by
  refine Hw.Restarts.trans (g := ((h.put R.PWR_STATE_STATE v).putB R.PWR_STATE_BUSY false).put R.PWR_STATE_TARGET v) ?_
    ⟨rfl, rfl, rfl, rfl, fun _ _ => rfl⟩
  exact ((put h R.PWR_STATE_STATE v (by decide)).trans (putB _ R.PWR_STATE_BUSY false (by decide))).trans
    (put _ R.PWR_STATE_TARGET v (by decide))

end Hw.Restarts

/-- A fold establishes of each element what its own step establishes and no other step undoes. -/
theorem foldl_establishes {α β : Type} {P : α → β → Prop} {f : β → α → β} {l : List α}
    (self : ∀ h, ∀ x ∈ l, P x (f h x)) (keep : ∀ h, ∀ x ∈ l, ∀ y ∈ l, P x h → P x (f h y)) (h : β) :
    ∀ x ∈ l, P x (l.foldl f h) := by
  induction l generalizing h with
  | nil => exact fun x hx => absurd hx List.not_mem_nil
  | cons z l ih =>
    have ih' := ih (fun g y hy => self g y (List.mem_cons_of_mem z hy))
      (fun g x hx y hy => keep g x (List.mem_cons_of_mem z hx) y (List.mem_cons_of_mem z hy))
    intro x hx
    obtain rfl | hl := List.mem_cons.mp hx
    · exact foldl_steps (r := fun g k => P x g → P x k) (fun _ => id) (fun p q => q ∘ p) l
        (fun g y hy => keep g x hx y (List.mem_cons_of_mem x hy)) _ (self h x hx)
    · exact ih' _ x hl

/-! The partitions are OFF (R106). -/

/-- A function-level reset of the partition ends. -/
def Hw.flrEnded (h : Hw) (p : Nat) : Hw :=
  if (h.pt p).flr.isSome then h.putBit R.PCIE_FLR_STAT_FLR p false else h

theorem coreOff_eq (h : Hw) {p : Nat} (hp : p < 16) : h.coreOff p =
    (((h.flrEnded p).clkStop p).setPstate p pOFF).wr R.NOC_FOLD_STAT
      (setBits ((((h.flrEnded p).clkStop p).setPstate p pOFF).rd R.NOC_FOLD_STAT) (2 * p + 1) (2 * p) fFOLDED) :=
  if_pos hp

theorem flrEnded_writes (h : Hw) (p : Nat) : h.Writes (h.flrEnded p) := by
  unfold Hw.flrEnded
  split
  · exact Hw.Writes.put ..
  · exact Hw.Writes.refl h

theorem rd_flrEnded (h : Hw) (p : Nat) {a : Nat} (ha : partReg a) : (h.flrEnded p).rd a = h.rd a := by
  have hne : a ≠ R.PCIE_FLR_STAT := by
    obtain ⟨-, hhi⟩ := ha
    simp only [R.PCIE_FLR_STAT]
    omega
  unfold Hw.flrEnded
  split
  · exact Hw.rd_put_ne _ _ _ hne
  · rfl

theorem rd_clkStop (h : Hw) {p : Nat} (hp : p < 16) {a : Nat} (ha : partReg a) : (h.clkStop p).rd a = h.rd a := by
  have hne : a ≠ R.SYS_TCLK_CUR p := by
    obtain ⟨hlo, -⟩ := ha
    simp only [R.SYS_TCLK_CUR]
    omega
  exact (Hw.rd_put_ne _ _ _ hne).trans (Hw.rd_put_ne _ _ _ hne)

theorem partReg_stat {p : Nat} (hp : p < 16) : partReg (R.SYS_PART_STAT p) := by
  simp only [partReg, R.SYS_PART_STAT]
  omega

theorem rd_coreOff (h : Hw) {p : Nat} (hp : p < 16) {a : Nat} (ha : partReg a) :
    (h.coreOff p).rd a = ((h.flrEnded p).clkStop p |>.setPstate p pOFF).rd a := by
  have hne : a ≠ R.NOC_FOLD_STAT := by
    obtain ⟨-, hhi⟩ := ha
    simp only [R.NOC_FOLD_STAT]
    omega
  rw [coreOff_eq h hp, Hw.rd_wr_ne _ _ hne]

theorem pstate_coreOff (h : Hw) {p : Nat} (hp : p < 16) : (h.coreOff p).pstate p = 0 := by
  rw [Hw.pstate, get_of_rd (f := R.SYS_PART_STAT_STATE p) (rd_coreOff h hp (partReg_stat hp)), Hw.setPstate,
    Hw.get_put_self _ _ _ (by simp only [R.SYS_PART_STAT_STATE]; omega) (by simp only [R.SYS_PART_STAT_STATE]; omega)]
  rfl

theorem pstate_coreOff_ne (h : Hw) {p q : Nat} (hp : p < 16) (hq : q < 16) (hne : q ≠ p) :
    (h.coreOff p).pstate q = h.pstate q := by
  have hreg : R.SYS_PART_STAT q ≠ R.SYS_PART_STAT p := by
    simp only [R.SYS_PART_STAT]
    omega
  have hr := partReg_stat hq
  have hrd : (h.coreOff p).rd (R.SYS_PART_STAT q) = h.rd (R.SYS_PART_STAT q) := by
    rw [rd_coreOff h hp hr, Hw.setPstate, Hw.rd_put_ne _ _ _ hreg, rd_clkStop _ hp hr, rd_flrEnded h p hr]
  exact get_of_rd (f := R.SYS_PART_STAT_STATE q) hrd

theorem mem_clkStop (h : Hw) (p : Nat) : (h.clkStop p).mem = h.mem :=
  ((Hw.Writes.put (h.setHeld p []) (R.SYS_TCLK_CUR_STOPPED p) 1).trans
    (Hw.Writes.put _ (R.SYS_TCLK_CUR_SLEWING p) 0)).mem

theorem mem_setPstate (h : Hw) (p v : Nat) : (h.setPstate p v).mem = h.mem :=
  (Hw.Writes.put h (R.SYS_PART_STAT_STATE p) v).mem

theorem mem_coreOff (h : Hw) {p : Nat} (hp : p < 16) : (h.coreOff p).mem = h.mem := by
  rw [coreOff_eq h hp, (Hw.Writes.wr ..).mem, mem_setPstate, mem_clkStop, (flrEnded_writes h p).mem]

/-- Every partition is turned OFF. -/
def Hw.coresOff (h : Hw) : Hw := (List.range 16).foldl (fun (h : Hw) p => h.coreOff p) h

theorem mem_coresOff (h : Hw) : h.coresOff.mem = h.mem :=
  foldl_keeps Hw.mem _ (fun g _ hp => mem_coreOff g (List.mem_range.mp hp)) h

theorem pstate_coresOff (h : Hw) {p : Nat} (hp : p < 16) : h.coresOff.pstate p = 0 := by
  refine foldl_establishes (P := fun p h => Hw.pstate h p = 0)
    (fun g q hq => pstate_coreOff g (List.mem_range.mp hq)) (fun g q hq y hy h0 => ?_) h p (List.mem_range.mpr hp)
  obtain rfl | hne := eq_or_ne q y
  · exact pstate_coreOff g (List.mem_range.mp hq)
  · exact (pstate_coreOff_ne g (List.mem_range.mp hy) (List.mem_range.mp hq) hne).trans h0

/-- Routers are empty, and requests of endpoints outside the scope closed. -/
def Hw.coreRouted (h : Hw) : Hw :=
  let live := h.noc.outst.filter (fun o => coreOutside o.node && o.closed == .live)
  let outst := (h.noc.outst.filter (fun o => coreOutside o.node)).map
    (fun (o : Outst) => if o.closed == .live then { o with closed := .byTimeout } else o)
  let inbox := h.noc.inbox.filter (fun a => coreOutside a.node) ++ live.map (fun o => ⟨o.node, o.tag, 1, [], []⟩)
  let noc := h.noc
  { h with noc := { noc with pkts := [], outst := outst, inbox := inbox, accepted := [],
                             irq := noc.irq.filter (fun e => coreOutside e.1), folds := [], gated := [] } }

/-- The fences of the fabric ports' folds are gone. -/
def Hw.coreUnfolded (h : Hw) : Hw := (List.range 64).foldl (fun (h : Hw) i => h.fenceSet (576 + i) .fold false) h

/-- Every tile is fenced as after reset. -/
def Hw.coreFenced (h : Hw) : Hw :=
  { h with noc := { h.noc with fence := h.noc.fence.filter (fun e => decide (512 ≤ e.1)) } }

theorem coreNoc_stages (h : Hw) : h.coreNoc = h.coreRouted.coreUnfolded.coreFenced := rfl

theorem mem_coreUnfolded (h : Hw) : h.coreUnfolded.mem = h.mem := by
  unfold Hw.coreUnfolded
  exact foldl_keeps Hw.mem _ (fun g i _ => Hw.fenceSet_mem g _ _ _) h

theorem mem_coreFenced (h : Hw) : h.coreFenced.mem = h.mem := rfl

theorem mem_coreRouted (h : Hw) : h.coreRouted.mem = h.mem := rfl

theorem mem_coreNoc (h : Hw) : h.coreNoc.mem = h.mem := by
  rw [coreNoc_stages, mem_coreFenced, mem_coreUnfolded, mem_coreRouted]

/-- Tiles, partitions and Dealer SRAM are lost, and the MRAM's command (R105, R106). -/
def Hw.coreLost (h : Hw) : Hw :=
  let fw := h.fw
  { h with
    tiles := [], part := [], gfx := GfxState.reset, mem := { h.mem with dsram := [], dsramP := [] },
    fw := { fw with boot := true, cmd := none, shut := fw.shut || fw.cmd.isSome, q := fw.q.take 2 },
    rst := { h.rst with dealerRun := !(h.is R.DBG_CTL_HALT) } }

/-- Registers are reset, and READY falls. -/
def Hw.coreCleared (h : Hw) : Hw := (h.clearRegs .core).putB R.MBX_GCTL_READY false

/-- The part as its release finds it. -/
def Hw.coreEmptied (h : Hw) : Hw := h.coreCleared.coreNoc.coresOff.coreLost

/-- What follows, as far as the release of the fabric. -/
def Hw.coreEnded (h : Hw) (volts : Nat) : Hw :=
  ((h.mramFinish.coreWaits.coreAbort).gfxShow.parkPorts false).localRelease volts

theorem coreSeq_stages (h : Hw) (volts : Nat) :
    h.coreSeq volts = ((h.coreEmptied.coreEnded volts).pwrRest pwrRUN).setPend none := by
  have hk := Hw.coreEmptied.eq_1 h
  unfold Hw.coresOff Hw.coreCleared at hk
  rw [Hw.coreSeq]
  generalize List.foldl _ _ _ = k at hk ⊢
  rw [hk]
  rfl

/-- The stages after the tiles are lost. -/
theorem restarts_coreEnded (h : Hw) (volts : Nat) : h.Restarts (h.coreEnded volts) :=
  (((((Hw.Restarts.mramFinish h).trans (.coreWaits _)).trans (.coreAbort _)).trans (.gfxShow _)).trans
    (.of_gates (.parkPorts ..))).trans (.of_gates (.localRelease _ volts))

theorem coreLost_verdict (h : Hw) : h.coreLost.tiles = [] ∧ h.coreLost.mem.dsram = [] ∧
    h.coreLost.mem.hbm = h.mem.hbm ∧ h.coreLost.mem.flash = h.mem.flash ∧ ∀ a, h.coreLost.rd a = h.rd a :=
  ⟨rfl, rfl, rfl, rfl, fun _ => rfl⟩

theorem mem_coreCleared (h : Hw) : h.coreCleared.mem = h.mem := rfl

/-- Tiles, Dealer SRAM and partitions as a core reset leaves them; the memories it keeps. -/
theorem coreEmptied_verdict (h : Hw) : h.coreEmptied.tiles = [] ∧ h.coreEmptied.mem.dsram = [] ∧
    h.coreEmptied.mem.hbm = h.mem.hbm ∧ h.coreEmptied.mem.flash = h.mem.flash ∧
    ∀ p, p < 16 → h.coreEmptied.pstate p = 0 := by
  have hmem : h.coreCleared.coreNoc.coresOff.mem = h.mem := by rw [mem_coresOff, mem_coreNoc, mem_coreCleared]
  have hoff := fun (p : Nat) (hp : p < 16) => pstate_coresOff h.coreCleared.coreNoc hp
  unfold Hw.coreEmptied
  generalize h.coreCleared.coreNoc.coresOff = k at hmem hoff ⊢
  obtain ⟨htiles, hdsram, hhbm, hflash, hrd⟩ := coreLost_verdict k
  exact ⟨htiles, hdsram, hhbm.trans (congrArg Mems.hbm hmem), hflash.trans (congrArg Mems.flash hmem),
    fun p hp => (get_of_rd (f := R.SYS_PART_STAT_STATE p) (hrd _)).trans (hoff p hp)⟩

theorem get_of_is_false {h : Hw} {f : Fld} (e : h.is f = false) : h.get f = 0 := by
  rw [Hw.is] at e
  exact bne_eq_false_iff_eq.mp e

/-- The part in RUN with nothing pending. -/
theorem restPend_verdict (h : Hw) : let g := (h.pwrRest pwrRUN).setPend none
    h.Restarts g ∧ g.rst.pend = none ∧ g.get R.PWR_STATE_STATE = 0 ∧ g.get R.PWR_STATE_BUSY = 0 := by
  have hrest := Hw.Restarts.pwrRest h pwrRUN
  have hpwr : (h.pwrRest pwrRUN).get R.PWR_STATE_STATE = 0 := pwr_pwrRest h (by decide)
  have hbusy : (h.pwrRest pwrRUN).get R.PWR_STATE_BUSY = 0 := get_of_is_false (busy_pwrRest h _)
  generalize h.pwrRest pwrRUN = k at hrest hpwr hbusy ⊢
  have hf := setPend_frame k none
  have hstat : ∀ a, a ≠ R.SYS_RST_STAT → (k.setPend none).rd a = k.rd a := fun a ha => rd_setPend k none ha
  have hk : k.Restarts (k.setPend none) := ⟨(congrArg Hw.tiles hf :), (congrArg (fun x => x.mem.dsram) hf :),
    (congrArg (fun x => x.mem.hbm) hf :), (congrArg (fun x => x.mem.flash) hf :), fun a ha => hstat a (by
      obtain ⟨hlo, -⟩ := ha
      simp only [R.SYS_RST_STAT]
      omega)⟩
  exact ⟨hrest.trans hk, (congrArg (fun x => x.rst.pend) hf :),
    (get_of_rd (f := R.PWR_STATE_STATE) (hstat _ (by decide))).trans hpwr,
    (get_of_rd (f := R.PWR_STATE_BUSY) (hstat _ (by decide))).trans hbusy⟩

theorem coreSeq_verdict (h : Hw) (volts : Nat) : let g := h.coreSeq volts
    g.rst.pend = none ∧ g.tiles = [] ∧ (∀ p, p < 16 → g.pstate p = 0) ∧ g.mem.dsram = [] ∧
    g.get R.PWR_STATE_STATE = 0 ∧ g.get R.PWR_STATE_BUSY = 0 ∧ g.mem.hbm = h.mem.hbm ∧ g.mem.flash = h.mem.flash := by
  dsimp only
  rw [coreSeq_stages]
  obtain ⟨htiles, hdsram, hhbm, hflash, hoff⟩ := coreEmptied_verdict h
  generalize h.coreEmptied = e at htiles hdsram hhbm hflash hoff ⊢
  have hended := restarts_coreEnded e volts
  generalize e.coreEnded volts = k at hended ⊢
  obtain ⟨hrest, hpend, hpwr, hbusy⟩ := restPend_verdict k
  have hg := hended.trans hrest
  exact ⟨hpend, hg.tiles.trans htiles,
    fun p hp => (get_of_rd (f := R.SYS_PART_STAT_STATE p) (hg.rd _ (partReg_stat hp))).trans (hoff p hp),
    hg.dsram.trans hdsram, hpwr, hbusy, hg.hbm.trans hhbm, hg.flash.trans hflash⟩

theorem coreReset_ready {h : Hw} {q : PendRst} (hp : h.rst.pend = some q) (hr : h.pendReady = true)
    (hl : q.level = .core) (volts : Nat) : h.coreReset volts = h.coreSeq volts := by
  have hcore : (q.level == .core) = true := beq_iff_eq.mpr hl
  simp only [Hw.coreReset, hp, hr, hcore, Bool.and_self, if_true]

/-- Settles O11: the sequence of each level, stage by stage. -/
theorem resetSequences : Obligations.ResetSequences := by
  refine ⟨fun s seat boot q hp hr hl hf => ?_, fun s volts q hp hr hl => ?_⟩
  · have hthawed : s.hw.tap.frozen = none := Option.isSome_eq_false_iff.mp hf |> Option.isNone_iff_eq_none.mp
    obtain ⟨keep, hseq⟩ := systemReset_ready hp hr hl seat boot
    obtain ⟨he, hseat, hsource, h0, h1⟩ := systemSeq_verdict hthawed keep seat boot
    rw [← hseq] at he hseat hsource h0 h1
    exact ⟨_, rfl, he.pend, he.tiles, he.part, he.kitty, he.dsram, hseat, hsource, h0, h1, he.mram, he.flash⟩
  · have hv := coreSeq_verdict s.hw volts
    rw [← coreReset_ready hp hr hl volts] at hv
    exact ⟨_, rfl, hv⟩

end Sys2Proof.Machine
end

section
/-!
SUPPORT. Sleep and wake (R131-R152): what the capture units, the signal cores, the stacks and the fabric leave alone on
the way in and out, and what wakes the part.
-/
namespace Sys2Proof.Machine

open Sys2Proof

/-! ### The sensor front end and the signal cores (R138, R867, R887) -/

/-- `h` with the sensor front end and the signal cores of `g`. -/
def Hw.sense (h g : Hw) : Hw := { h with regs := g.regs, sns := g.sns, sig := g.sig }

/-- `g` comes from `h` by triggers and by enabling channels: the sensor front end, its registers and the signal cores
have changed. -/
structure Hw.Senses (h g : Hw) : Prop where
  frame : g = h.sense g
  rd : ∀ a, a < 0x40060000 → g.rd a = h.rd a

namespace Hw.Senses

theorem refl (h : Hw) : h.Senses h := ⟨rfl, fun _ _ => rfl⟩

theorem trans {h g k : Hw} (p : h.Senses g) (q : g.Senses k) : h.Senses k :=
  ⟨q.frame.trans (by rw [p.frame]; rfl), fun a ha => (q.rd a ha).trans (p.rd a ha)⟩

section
variable {h g : Hw} (p : h.Senses g)
include p

theorem rst : g.rst = h.rst := (congrArg Hw.rst p.frame :)
theorem pwr' : g.pwr' = h.pwr' := (congrArg Hw.pwr' p.frame :)
theorem tiles : g.tiles = h.tiles := (congrArg Hw.tiles p.frame :)
theorem mem : g.mem = h.mem := (congrArg Hw.mem p.frame :)

end

theorem wr (h : Hw) {a : Nat} (v : Nat) (ha : 0x40060000 ≤ a) : h.Senses (h.wr a v) :=
  ⟨rfl, fun b hb => Hw.rd_wr_ne h v (by omega)⟩

theorem put (h : Hw) (f : Fld) (v : Nat) (ha : 0x40060000 ≤ f.addr) : h.Senses (h.put f v) := wr h _ ha

theorem putB (h : Hw) (f : Fld) (b : Bool) (ha : 0x40060000 ≤ f.addr) : h.Senses (h.putB f b) := put h f _ ha

theorem raise (h : Hw) (f : Fld) (k : Nat) (ha : 0x40060000 ≤ f.addr) : h.Senses (h.raise f k) := by
  simp only [Hw.raise, Hw.raiseAt]
  split
  · exact wr h _ ha
  · exact wr h _ ha

theorem setCap (h : Hw) (s : Nat) (x : CapUnit) : h.Senses (h.setCap s x) := ⟨rfl, fun _ _ => rfl⟩

theorem setChain (h : Hw) (c : Nat) (x : Chain) : h.Senses (h.setChain c x) := ⟨rfl, fun _ _ => rfl⟩

theorem setCore (h : Hw) (k : Nat) (c : SigCore) : h.Senses (h.setCore k c) := ⟨rfl, fun _ _ => rfl⟩

theorem setSgrp (h : Hw) (g : Nat) (x : SnsGroup) : h.Senses (h.setSgrp g x) := by
  have hstat : 0x40060000 ≤ R.SNS_GRP_STAT g := by
    simp only [R.SNS_GRP_STAT]
    omega
  unfold Hw.setSgrp
  refine Hw.Senses.trans ?_ (putB _ (R.SNS_GRP_STAT_TRANS g) _ hstat)
  refine Hw.Senses.trans ?_ (put _ (R.SNS_GRP_STAT_STEP g) _ hstat)
  exact ⟨rfl, fun _ _ => rfl⟩

theorem capStart (h : Hw) (s : Nat) (restart : Bool) : h.Senses (h.capStart s restart) :=
  (setCap h s _).trans (put _ (R.SNS_CAP_STAT_RUN s) 1 (by
    simp only [R.SNS_CAP_STAT_RUN, R.SNS_CAP_STAT]
    omega))

theorem capTrig (h : Hw) (s : Nat) : h.Senses (h.capTrig s) := by
  have hcnt : ∀ g : Hw, g.Senses (g.bump (R.SNS_CAP_CNT_OVR s)) ∧ g.Senses (g.bump (R.SNS_CAP_CNT_IGN s)) := fun g =>
    have ha : 0x40060000 ≤ R.SNS_CAP_CNT s := by
      simp only [R.SNS_CAP_CNT]
      omega
    ⟨put g (R.SNS_CAP_CNT_OVR s) _ ha, put g (R.SNS_CAP_CNT_IGN s) _ ha⟩
  have hpend : h.Senses (h.put (R.SNS_CAP_STAT_PEND s) 1) := put _ _ _ (by
    simp only [R.SNS_CAP_STAT_PEND, R.SNS_CAP_STAT]
    omega)
  unfold Hw.capTrig
  split
  · exact refl h
  · split
    · exact capStart ..
    · split
      · split
        · exact (setCap h s _).trans (hcnt _).1
        · exact hpend
      · exact setCap ..
      · exact (hcnt h).2

theorem sigFire (h : Hw) (trig r1 : Nat) : h.Senses (h.sigFire trig r1) :=
  foldl_steps refl trans _ (fun g k _ => by
    split
    · exact setCore ..
    · exact refl g) h

/-- A capture trigger reaches the units armed for it (R138). -/
theorem captures (h : Hw) (n : Nat) : h.Senses
    ((List.range 40).foldl (fun (h : Hw) s => if h.get (R.SNS_CAP_CTL_TRIG s) = n then h.capTrig s else h) h) :=
  foldl_steps refl trans _ (fun g s _ => by
    split
    · exact capTrig ..
    · exact refl g) h

/-- A group's channels are enabled afresh. -/
theorem chains (h : Hw) (l : List Nat) (c : Nat → Nat) (x : Hw → Chain) :
    h.Senses (l.foldl (fun h i => h.setChain (c i) (x h)) h) :=
  foldl_steps refl trans _ (fun g i _ => setChain g (c i) (x g)) h

theorem snsEnable (h : Hw) (old new : Nat) : h.Senses (h.snsEnable old new) := by
  refine (wr h old (by decide)).trans (foldl_steps refl trans _ (fun h g _ => ?_) _)
  dsimp only
  split
  · exact (wr h _ (by decide)).trans (raise _ R.SNS_FLAGS_RATE g (by decide))
  · refine Hw.Senses.trans ?_ (chains _ _ (fun i => 8 * g + i) (fun h => { Chain.reset with skip := h.snsW g }))
    split
    · exact (wr h _ (by decide)).trans (setSgrp ..)
    · exact wr h _ (by decide)

end Hw.Senses

/-! ### Wake events (R136, R137, R141) -/

/-- The flags of PWR_WAKE_STAT. -/
def wakeFlags : Fld := ⟨R.PWR_WAKE_STAT, 7, 0⟩

/-- A wake event is honoured: pins as they are enabled, and the latch. -/
def Hw.wakeHonoured (h : Hw) : Hw :=
  let entry := h.is R.PWR_STATE_BUSY && decide (3 ≤ h.get R.PWR_STATE_TARGET)
  if h.exiting then h
  else
    { h with pwr' := { h.pwr' with
        wakeOut := h.pwr'.wakeOut || !(h.is R.PWR_WAKE_CFG_WO_MODE),
        pcieWake := h.pwr'.pcieWake || h.is R.PWR_WAKE_CFG_PCIE_DRV,
        latched := h.pwr'.latched || entry || h.asleep } }

theorem wakeEvent_stages (h : Hw) (b : Nat) : h.wakeEvent b = (h.raise wakeFlags b).wakeHonoured := rfl

theorem wakeHonoured_keeps (h : Hw) : h.wakeHonoured.regs = h.regs ∧ h.wakeHonoured.mem = h.mem ∧
    h.wakeHonoured.tiles = h.tiles ∧ h.wakeHonoured.pcie = h.pcie ∧
    h.wakeHonoured.pwr'.winLevel = h.pwr'.winLevel := by
  unfold Hw.wakeHonoured
  dsimp only
  split
  · exact ⟨rfl, rfl, rfl, rfl, rfl⟩
  · exact ⟨rfl, rfl, rfl, rfl, rfl⟩

/-- A wake event sets its flag; memories, tiles and levels stay. -/
theorem wakeEvent_verdict (h : Hw) {b : Nat} (hb : b < 32) : let g := h.wakeEvent b
    bit (g.rd R.PWR_WAKE_STAT) b = true ∧ g.mem = h.mem ∧ g.tiles = h.tiles ∧ g.pcie = h.pcie ∧
    g.pwr'.winLevel = h.pwr'.winLevel := by
  obtain ⟨hregs, hmem, htiles, hpcie, hwin⟩ := wakeHonoured_keeps (h.raise wakeFlags b)
  have hflag : bit ((h.raise wakeFlags b).rd R.PWR_WAKE_STAT) b = true := by
    have := bit_raise h wakeFlags b (by simpa [wakeFlags] using hb)
    simpa [wakeFlags] using this
  dsimp only
  rw [wakeEvent_stages, Hw.rd_congr hregs]
  exact ⟨hflag, hmem.trans (Hw.raise_mem ..), htiles.trans (Hw.raise_tiles ..), hpcie.trans (Hw.raise_pcie ..),
    hwin.trans (congrArg PwrState.winLevel (Hw.raise_pwr' ..))⟩

/-! ### The wake pins, the compare match and PERST_N (R137, R138) -/

/-- A WAKE_IN pin shows a new level. -/
def Hw.winShown (h : Hw) (n : Nat) (level : Bool) : Hw :=
  { h with pwr' := { h.pwr' with winLevel := NSet.put h.pwr'.winLevel n level } }

/-- Its active edge triggers captures and signal cores. -/
def Hw.winTriggers (h : Hw) (n : Nat) : Hw :=
  (if h.snsRuns then
    (List.range 40).foldl (fun (h : Hw) s => if h.get (R.SNS_CAP_CTL_TRIG s) = 4 + n then h.capTrig s else h) h
  else h).sigFire (64 + n) 0

theorem winTriggers_senses (h : Hw) (n : Nat) : h.Senses (h.winTriggers n) := by
  unfold Hw.winTriggers
  refine Hw.Senses.trans ?_ (.sigFire ..)
  split
  · exact .captures ..
  · exact .refl h

section
variable {h : Hw} {n : Nat} {level : Bool} (hn : n < 4) (hl : NSet.has h.pwr'.winLevel n ≠ level)
include hn hl

theorem wakeIn_inactive (hp : level ≠ h.bitOf R.PWR_WAKE_CFG_WIN_POL n) : h.wakeIn n level = h.winShown n level := by
  have hne : ¬ (4 ≤ n ∨ NSet.has h.pwr'.winLevel n = level) := not_or.mpr ⟨Nat.not_le.mpr hn, hl⟩
  rw [Hw.wakeIn, if_neg hne]
  exact if_pos (by rw [Bool.or_eq_true, bne_iff_ne]; exact .inl hp)

theorem wakeIn_active (hp : level = h.bitOf R.PWR_WAKE_CFG_WIN_POL n) (hpor : h.rst.por = false) :
    h.wakeIn n level = if ((h.winShown n level).winTriggers n).bitOf R.PWR_WAKE_CFG_WIN_EN n then
      ((h.winShown n level).winTriggers n).wakeEvent (4 + n) else (h.winShown n level).winTriggers n := by
  have hne : ¬ (4 ≤ n ∨ NSet.has h.pwr'.winLevel n = level) := not_or.mpr ⟨Nat.not_le.mpr hn, hl⟩
  have hedge : ¬ (level != (h.winShown n level).bitOf R.PWR_WAKE_CFG_WIN_POL n ||
      (h.winShown n level).rst.por) = true := by
    have hpol : (h.winShown n level).bitOf R.PWR_WAKE_CFG_WIN_POL n = level := hp.symm
    have hpor' : (h.winShown n level).rst.por = false := hpor
    rw [hpol, hpor', bne_self_eq_false]
    exact Bool.false_ne_true
  rw [Hw.wakeIn, if_neg hne]
  exact if_neg hedge

/-- The pin's active edge wakes the part where it is enabled. -/
theorem wakeIn_verdict (hp : level = h.bitOf R.PWR_WAKE_CFG_WIN_POL n) (hpor : h.rst.por = false)
    (hen : h.bitOf R.PWR_WAKE_CFG_WIN_EN n = true) : let g := h.wakeIn n level
      NSet.has g.pwr'.winLevel n = level ∧ bit (g.rd R.PWR_WAKE_STAT) (4 + n) = true ∧ g.mem = h.mem ∧
      g.tiles = h.tiles := by
  have hs := winTriggers_senses (h.winShown n level) n
  have henabled : ((h.winShown n level).winTriggers n).bitOf R.PWR_WAKE_CFG_WIN_EN n = true :=
    (bitOf_of_rd (f := R.PWR_WAKE_CFG_WIN_EN) (hs.rd _ (by decide)) n).trans hen
  have hwin : NSet.has (h.winShown n level).pwr'.winLevel n = level :=
    (NSet.has_put h.pwr'.winLevel n n level).trans (if_pos rfl)
  dsimp only
  rw [wakeIn_active hn hl hp hpor, if_pos henabled]
  generalize (h.winShown n level).winTriggers n = k at hs ⊢
  obtain ⟨hflag, hmem, htiles, -, hlevel⟩ := wakeEvent_verdict k (b := 4 + n) (by omega)
  exact ⟨by rw [hlevel, hs.pwr', hwin], hflag, hmem.trans hs.mem, htiles.trans hs.tiles⟩

end

/-- The counter reaches the compare value. -/
def Hw.aotReached (h : Hw) : Hw :=
  if h.aotCnt < h.rd64 R.PWR_AOT_CMP_LO R.PWR_AOT_CMP_HI then
    h.wr64 R.PWR_AOT_CNT_LO R.PWR_AOT_CNT_HI (h.rd64 R.PWR_AOT_CMP_LO R.PWR_AOT_CMP_HI)
  else h

theorem aotMatch_eq (h : Hw) : h.aotMatch =
    if h.aotReached.is R.PWR_WAKE_CFG_AOT_EN then h.aotReached.wakeEvent 1 else h.aotReached := rfl

theorem aotReached_keeps (h : Hw) : h.Writes h.aotReached ∧
    h.aotReached.is R.PWR_WAKE_CFG_AOT_EN = h.is R.PWR_WAKE_CFG_AOT_EN := by
  unfold Hw.aotReached
  split
  · exact ⟨(Hw.Writes.wr ..).trans (.wr ..), by
      rw [Hw.is, get_wr64_ne _ _ (by decide) (by decide), Hw.is]⟩
  · exact ⟨.refl h, rfl⟩

theorem aotMatch_verdict {h : Hw} (he : h.is R.PWR_WAKE_CFG_AOT_EN = true) : let g := h.aotMatch
    bit (g.rd R.PWR_WAKE_STAT) 1 = true ∧ g.mem = h.mem ∧ g.tiles = h.tiles := by
  obtain ⟨hw, hen⟩ := aotReached_keeps h
  obtain ⟨hflag, hmem, htiles, -, -⟩ := wakeEvent_verdict h.aotReached (b := 1) (by decide)
  dsimp only
  rw [aotMatch_eq, hen, if_pos he]
  exact ⟨hflag, hmem.trans hw.mem, htiles.trans hw.tiles⟩

/-- PERST_N has risen. -/
def Hw.perstHigh (h : Hw) : Hw := { h with pcie := { h.pcie with perst := true } }

/-- PCIE_WAKE_N is released. -/
def Hw.pcieAwake (h : Hw) : Hw := { h with pwr' := { h.pwr' with pcieWake := false } }

theorem perstRise_eq (h : Hw) : h.perstRise =
    (if h.is R.PWR_WAKE_CFG_PCIE_EN then h.perstHigh.wakeEvent 2 else h.perstHigh).pcieAwake := rfl

theorem perstRise_verdict (h : Hw) : let g := h.perstRise
    g.pcie.perst = true ∧ g.pwr'.pcieWake = false ∧
    (h.is R.PWR_WAKE_CFG_PCIE_EN = true → bit (g.rd R.PWR_WAKE_STAT) 2 = true) ∧ g.mem = h.mem ∧ g.tiles = h.tiles := by
  dsimp only
  rw [perstRise_eq]
  split
  · obtain ⟨hflag, hmem, htiles, hpcie, -⟩ := wakeEvent_verdict h.perstHigh (b := 2) (by decide)
    generalize h.perstHigh.wakeEvent 2 = k at hflag hmem htiles hpcie ⊢
    exact ⟨congrArg PcieState.perst hpcie, rfl, fun _ => hflag, hmem, htiles⟩
  next hoff => exact ⟨rfl, rfl, fun hon => absurd hon hoff, rfl, rfl⟩

/-! ### The end of an entry (R131, R132, R152) -/

theorem phase_pwrRest (h : Hw) (v : Nat) : (h.pwrRest v).pwr'.phase = .idle := rfl

theorem wakeStacks_writes (h : Hw) : h.Writes h.wakeStacks :=
  foldl_steps Hw.Writes.refl Hw.Writes.trans _ (fun g s _ => by
    split
    · exact trainStart_writes ..
    · exact .refl g) h

/-- The entry is undone and the part rests in RUN. -/
def Hw.undone (h : Hw) : Hw := h.pwrUndo.pwrRest pwrRUN

/-- No wake is latched. -/
def Hw.wakeForgotten (h : Hw) : Hw := { h with pwr' := { h.pwr' with latched := false } }

theorem wakeForgotten_keeps (h : Hw) : h.wakeForgotten.regs = h.regs ∧ h.wakeForgotten.pwr'.phase = h.pwr'.phase ∧
    h.wakeForgotten.mem = h.mem ∧ h.wakeForgotten.tiles = h.tiles := ⟨rfl, rfl, rfl, rfl⟩

theorem listenAbort_eq {h : Hw} (hp : h.pwr'.phase = .entryWait) (hm : h.pwr'.pme = false) : h.listenAbort =
    (h.undone.putB R.PWR_WAKE_STAT_ABORT true).wakeForgotten := by
  simp only [Hw.listenAbort, hp, hm, Bool.not_false, Bool.and_true, BEq.rfl, if_true]
  rfl

theorem listenAbort_verdict {h : Hw} (hp : h.pwr'.phase = .entryWait) (hm : h.pwr'.pme = false) :
    let g := h.listenAbort
    g.get R.PWR_WAKE_STAT_ABORT = 1 ∧ g.pwr = 0 ∧ g.pwr'.phase = .idle ∧ g.mem = h.mem ∧ g.tiles = h.tiles := by
  have hw := wakeStacks_writes h
  have hg := Hw.Gates.parkPorts h.wakeStacks false
  have hpwr : h.undone.get R.PWR_STATE_STATE = 0 := pwr_pwrRest h.pwrUndo (by decide)
  have hidle : h.undone.pwr'.phase = .idle := by
    rw [Hw.undone]
    exact phase_pwrRest h.pwrUndo pwrRUN
  have hmem : h.undone.mem = h.mem := (mem_pwrRest ..).trans (hg.mem.trans hw.mem)
  have htiles : h.undone.tiles = h.tiles := (tiles_pwrRest ..).trans (hg.tiles.trans hw.tiles)
  dsimp only
  rw [listenAbort_eq hp hm]
  generalize h.undone = k at hpwr hidle hmem htiles ⊢
  have hset : k.Writes (k.putB R.PWR_WAKE_STAT_ABORT true) := .putB ..
  obtain ⟨hregs, hp', hm', ht'⟩ := wakeForgotten_keeps (k.putB R.PWR_WAKE_STAT_ABORT true)
  refine ⟨(Hw.get_congr hregs _).trans ?_, (Hw.get_congr hregs _).trans ?_,
    hp'.trans ((congrArg PwrState.phase hset.pwr').trans hidle), hm'.trans (hset.mem.trans hmem),
    ht'.trans (hset.tiles.trans htiles)⟩
  · exact Hw.get_putB_self k _ true (by decide) (by decide)
  · exact (Hw.get_putB_other k _ R.PWR_STATE_STATE true (by decide) (by decide) (by decide)).trans hpwr

theorem listenDeep_eq {h : Hw} (hp : h.pwr = 3) (ht : h.is R.PWR_LD_TMO_SECONDS = true) (hi : h.pwr'.phase = .idle)
    (hl : h.pwr'.latched = false) (hr : h.pwr'.byReset = false) :
    h.listenDeep = h.linkStat0.gateDeep.put R.SNS_WAKE_STAT_RUN (h.get R.SNS_WAKE_STAT_RUN) :=
  if_pos ⟨hp, ht, beq_iff_eq.mpr hi, by rw [hl]; rfl, by rw [hr]; rfl⟩

theorem listenDeep_verdict {h : Hw} (hp : h.pwr = 3) (ht : h.is R.PWR_LD_TMO_SECONDS = true) (hi : h.pwr'.phase = .idle)
    (hl : h.pwr'.latched = false) (hr : h.pwr'.byReset = false) : h.listenDeep.pwr = 4 ∧ h.listenDeep.mem.hbm = [] := by
  obtain ⟨hpwr, -, -, -, -, hhbm⟩ := gateDeep_verdict h.linkStat0
  rw [listenDeep_eq hp ht hi hl hr]
  generalize h.linkStat0.gateDeep = k at hpwr hhbm ⊢
  exact ⟨(Hw.get_put_other k R.SNS_WAKE_STAT_RUN R.PWR_STATE_STATE _ (by decide) (by decide) (by decide)).trans hpwr,
    hhbm⟩

/-! ### The exit starts (R135, R144) -/

/-- FROM names the state left; a reset that wakes the part is shown. -/
def Hw.exitFrom (h : Hw) : Hw :=
  if h.pwr'.latched then h.put R.PWR_WAKE_STAT_FROM h.pwr
  else (h.put R.PWR_WAKE_STAT_FROM h.pwr).putB R.PWR_WAKE_STAT_RST true

/-- The sequencer leaves LISTEN or DEEP. -/
def Hw.exitBegun (h : Hw) : Hw :=
  { h with pwr' := { h.pwr' with phase := .exit, latched := false, byReset := false } }

/-- A transition to RUN is shown. -/
def Hw.exitShown (h : Hw) : Hw := (h.putB R.PWR_STATE_BUSY true).put R.PWR_STATE_TARGET pwrRUN

theorem wakeExit_eq {h : Hw} (ha : h.asleep = true) (hi : h.pwr'.phase = .idle)
    (hw : h.pwr'.latched = true ∨ h.pwr'.byReset = true) :
    h.wakeExit = h.exitFrom.wakeStop.exitBegun.exitShown.wakeOutShow := by
  have hgo : ¬ (!h.asleep || h.pwr'.phase != .idle || !(h.pwr'.latched || h.pwr'.byReset)) = true := by
    rw [ha, hi, Bool.or_eq_true _ _ |>.mpr hw]
    exact Bool.false_ne_true
  rw [Hw.wakeExit, if_neg hgo]
  rfl

theorem pwr_lt (h : Hw) : h.pwr < 8 := bits_lt _ R.PWR_STATE_STATE.hi R.PWR_STATE_STATE.lo

theorem exitFrom_verdict (h : Hw) : h.Writes h.exitFrom ∧ h.exitFrom.get R.PWR_WAKE_STAT_FROM = h.pwr := by
  have hfrom : (h.put R.PWR_WAKE_STAT_FROM h.pwr).get R.PWR_WAKE_STAT_FROM = h.pwr := by
    rw [Hw.get_put_self _ _ _ (by decide) (by decide)]
    exact Nat.mod_eq_of_lt (pwr_lt h)
  unfold Hw.exitFrom
  split
  · exact ⟨.put .., hfrom⟩
  · exact ⟨(Hw.Writes.put ..).trans (.putB ..),
      (Hw.get_putB_other _ _ _ _ (by decide) (by decide) (by decide)).trans hfrom⟩

theorem exitShown_verdict (h : Hw) : let g := h.exitShown
    h.Writes g ∧ g.is R.PWR_STATE_BUSY = true ∧ g.get R.PWR_STATE_TARGET = 0 ∧
    g.get R.PWR_WAKE_STAT_FROM = h.get R.PWR_WAKE_STAT_FROM := by
  refine ⟨(Hw.Writes.putB ..).trans (.put ..), ?_, Hw.get_put_self _ _ _ (by decide) (by decide), ?_⟩
  · rw [Hw.exitShown, Hw.is, Hw.get_put_other _ _ _ _ (by decide) (by decide) (by decide)]
    exact Hw.is_putB_self _ _ _ (by decide) (by decide)
  · exact (Hw.get_put_other _ _ _ _ (by decide) (by decide) (by decide)).trans
      (Hw.get_putB_other _ _ _ _ (by decide) (by decide) (by decide))

theorem wakeExit_verdict {h : Hw} (ha : h.asleep = true) (hi : h.pwr'.phase = .idle)
    (hw : h.pwr'.latched = true ∨ h.pwr'.byReset = true) : let g := h.wakeExit
      g.pwr'.phase = .exit ∧ g.is R.PWR_STATE_BUSY = true ∧ g.get R.PWR_STATE_TARGET = 0 ∧
      g.get R.PWR_WAKE_STAT_FROM = h.pwr ∧ g.mem = h.mem ∧ g.tiles = h.tiles := by
  obtain ⟨hfrom, hget⟩ := exitFrom_verdict h
  have hstop : h.exitFrom.Writes h.exitFrom.wakeStop := .put ..
  have hkept : h.exitFrom.wakeStop.get R.PWR_WAKE_STAT_FROM = h.pwr :=
    (Hw.get_put_other _ R.SNS_WAKE_STAT_RUN R.PWR_WAKE_STAT_FROM _ (by decide) (by decide) (by decide)).trans hget
  have hmem := (hfrom.trans hstop).mem
  have htiles := (hfrom.trans hstop).tiles
  dsimp only
  rw [wakeExit_eq ha hi hw]
  generalize h.exitFrom.wakeStop = k at hkept hmem htiles ⊢
  obtain ⟨hshown, hbusy, htarget, hfrom'⟩ := exitShown_verdict k.exitBegun
  have hphase : k.exitBegun.exitShown.pwr'.phase = .exit := congrArg PwrState.phase hshown.pwr'
  have hm : k.exitBegun.exitShown.mem = h.mem := hshown.mem.trans hmem
  have ht : k.exitBegun.exitShown.tiles = h.tiles := hshown.tiles.trans htiles
  have hf : k.exitBegun.exitShown.get R.PWR_WAKE_STAT_FROM = h.pwr := hfrom'.trans hkept
  generalize k.exitBegun.exitShown = e at hbusy htarget hphase hm ht hf ⊢
  have ho := wakeOutShow_frame e
  have hregs : e.wakeOutShow.regs = e.regs := (congrArg Hw.regs ho :)
  exact ⟨(congrArg (fun x => x.pwr'.phase) ho :).trans hphase, (Hw.is_congr hregs _).trans hbusy,
    (Hw.get_congr hregs _).trans htarget, (Hw.get_congr hregs _).trans hf, (congrArg Hw.mem ho :).trans hm,
    (congrArg Hw.tiles ho :).trans ht⟩

/-! ### The exit ends (R144-R146) -/

theorem linkStat0_writes (h : Hw) : h.Writes h.linkStat0 :=
  (((Hw.Writes.put ..).trans (.put ..)).trans (.putB ..)).trans (.putB ..)

/-- `g` leaves the reset block's state and the power sequencer's as they are in `h`. -/
structure Hw.Steady (h g : Hw) : Prop where
  rst : g.rst = h.rst
  pwr' : g.pwr' = h.pwr'

namespace Hw.Steady

theorem trans {h g k : Hw} (p : h.Steady g) (q : g.Steady k) : h.Steady k :=
  ⟨q.rst.trans p.rst, q.pwr'.trans p.pwr'⟩

theorem of_writes {h g : Hw} (w : h.Writes g) : h.Steady g := ⟨w.rst, w.pwr'⟩

theorem of_gates {h g : Hw} (p : h.Gates g) : h.Steady g := ⟨p.rst, p.pwr'⟩

theorem of_senses {h g : Hw} (p : h.Senses g) : h.Steady g := ⟨p.rst, p.pwr'⟩

theorem repeatLasting (h : Hw) (m : Nat) : h.Steady (h.repeatLasting m) :=
  have hf := repeatLasting_frame h m
  ⟨(congrArg Hw.rst hf :), (congrArg Hw.pwr' hf :)⟩

theorem ringsOut (h : Hw) : h.Steady h.ringsOut :=
  of_writes (foldl_steps Hw.Writes.refl Hw.Writes.trans _ (fun g n _ =>
    (foldl_steps Hw.Writes.refl Hw.Writes.trans _ (fun g q _ => by
      split
      · exact .put ..
      · exact .refl g) g).trans
    (foldl_steps Hw.Writes.refl Hw.Writes.trans _ (fun g q _ => by
      split
      · exact .put ..
      · exact .refl g) _)) h)

theorem linkStat0 (h : Hw) : h.Steady h.linkStat0 := of_writes (linkStat0_writes h)

theorem putB (h : Hw) (f : Fld) (b : Bool) : h.Steady (h.putB f b) := of_writes (.putB ..)

theorem setX (h : Hw) (x : Nat) : h.Steady (h.setX x) := of_writes (.put ..)

theorem onTbl (h : Hw) (f : TblState → TblState) : h.Steady (h.onTbl f) := ⟨rfl, rfl⟩

theorem tblRejoin (h : Hw) : h.Steady h.tblRejoin := by
  have halone : ∀ f, h.Steady ((h.onTbl f).putB R.TBL_STAT_SLEEP_OK false) := fun f => (onTbl h f).trans (putB ..)
  unfold Hw.tblRejoin
  split
  · dsimp only
    split
    · exact (halone _).trans (setX ..)
    · exact halone _
  · split
    · exact halone _
    · exact (onTbl h _).trans (setX ..)

end Hw.Steady

/-- The WAKE event leaves registers, the sequencer and the reset block. -/
theorem wakeNote_keeps (h : Hw) : h.wakeNote.regs = h.regs ∧ h.wakeNote.rst = h.rst ∧ h.wakeNote.pwr' = h.pwr' :=
  ⟨rfl, rfl, rfl⟩

/-- The part has left its sleep and rests in RUN. -/
def Hw.inRun (h : Hw) : Prop := h.pwr'.phase = .idle ∧ h.pwr = 0 ∧ h.is R.PWR_STATE_BUSY = false

theorem inRun_pwrRest (h : Hw) : (h.pwrRest pwrRUN).inRun :=
  ⟨phase_pwrRest h pwrRUN, pwr_pwrRest h (by decide), busy_pwrRest h pwrRUN⟩

theorem inRun_congr {h g : Hw} (hp : g.pwr'.phase = h.pwr'.phase) (hs : g.rd R.PWR_STATE = h.rd R.PWR_STATE)
    (hr : h.inRun) : g.inRun := by
  obtain ⟨hphase, hpwr, hbusy⟩ := hr
  exact ⟨hp.trans hphase, (get_of_rd (f := R.PWR_STATE_STATE) hs).trans hpwr,
    (is_of_rd (f := R.PWR_STATE_BUSY) hs).trans hbusy⟩

theorem rst_pwrRest (h : Hw) (v : Nat) : (h.pwrRest v).rst = h.rst := (congrArg Hw.rst (pwrRest_frame h v) :)

theorem exitEnd_verdict (h : Hw) : h.exitEnd.rst = h.rst ∧ h.exitEnd.inRun := by
  have hrst : (h.tblRejoin.pwrRest pwrRUN).rst = h.rst := (rst_pwrRest ..).trans (Hw.Steady.tblRejoin h).rst
  have hrun := inRun_pwrRest h.tblRejoin
  unfold Hw.exitEnd
  generalize h.tblRejoin.pwrRest pwrRUN = k at hrst hrun ⊢
  obtain ⟨hregs, hr, hp⟩ := wakeNote_keeps k
  exact ⟨hr.trans hrst, inRun_congr (congrArg PwrState.phase hp) (Hw.rd_congr hregs _) hrun⟩

/-- Step 7 waits for the stacks' training and for the local release, and is otherwise taken. -/
theorem exitSettle_verdict {h : Hw} (hp : h.pwr'.phase = .exitRun) : h.exitSettle.rst = h.rst ∧
    ((h.exitSettle.pwr'.phase = .exitRun ∧ (h.exitSettle.memTrains = true ∨ h.exitSettle.fab.localRel = true)) ∨
      h.exitSettle.inRun) := by
  have hrun : (h.pwr'.phase == .exitRun) = true := beq_iff_eq.mpr hp
  rw [Hw.exitSettle, hrun, Bool.true_and]
  cases hm : h.memTrains with
  | true =>
    rw [Bool.not_true, Bool.false_and, if_neg Bool.false_ne_true]
    exact ⟨rfl, .inl ⟨hp, .inl hm⟩⟩
  | false =>
    cases hl : h.fab.localRel with
    | true =>
      rw [Bool.not_true, Bool.and_false, if_neg Bool.false_ne_true]
      exact ⟨rfl, .inl ⟨hp, .inr hl⟩⟩
    | false =>
      rw [Bool.not_false, Bool.and_self, if_pos rfl]
      exact ⟨(exitEnd_verdict h).1, .inr (exitEnd_verdict h).2⟩

/-- A pending reset no longer waits for the exit: what the end of an exit shows stays. -/
theorem pendAwake_keeps (h : Hw) : h.pendAwake.pwr' = h.pwr' ∧ h.pendAwake.fab = h.fab ∧
    h.pendAwake.rst.wdt = h.rst.wdt ∧ h.pendAwake.rst.wdtRun = h.rst.wdtRun ∧
    ∀ a, a ≠ R.SYS_RST_STAT → h.pendAwake.rd a = h.rd a := by
  have hf := setPend_frame h (h.rst.pend.map (fun (q : PendRst) => { q with wake := false }))
  exact ⟨(congrArg Hw.pwr' hf :), (congrArg Hw.fab hf :), (congrArg (fun x => x.rst.wdt) hf :),
    (congrArg (fun x => x.rst.wdtRun) hf :), fun a ha => rd_setPend _ _ ha⟩

theorem memTrains_of_rd {h g : Hw} (hr : ∀ s, s < 2 → g.rd (R.MEM_STAT s) = h.rd (R.MEM_STAT s)) :
    g.memTrains = h.memTrains := by
  have h0 : g.memState 0 = h.memState 0 := get_of_rd (f := R.MEM_STAT_STATE 0) (hr 0 (by decide))
  have h1 : g.memState 1 = h.memState 1 := get_of_rd (f := R.MEM_STAT_STATE 1) (hr 1 (by decide))
  have hall : ∀ k : Hw, k.memTrains = ((k.memState 0 == msTRAINING) || ((k.memState 1 == msTRAINING) || false)) :=
    fun _ => rfl
  rw [hall, hall, h0, h1]

/-- The Dealer and the watchdog run, before the stacks retrain. -/
def Hw.exitResumed (h : Hw) : Hw :=
  Hw.resumeDealer (Hw.resumeTime { h with pwr' := { h.pwr' with phase := .exitRun } })

/-- The stacks retrain and the fabric ports are released. -/
def Hw.portsFreed (h : Hw) (volts : Nat) : Hw := (h.wakeStacks.parkPorts false).isoPorts.pllFences.localRelease volts

/-- Links and rings are down; the sensor front end runs. -/
def Hw.unitsBack (h : Hw) : Hw := (h.linkStat0.ringsOut).snsEnable 0 (h.rd R.SNS_CH_EN)

/-- The crystal's state is shown. -/
def Hw.xtalShown (h : Hw) : Hw := h.putB R.SYS_CLK_STAT_XTAL32_OK (NSet.has h.clk.good 4)

/-- The crystal is shown, and lasting errors are reported again. -/
def Hw.errorsBack (h : Hw) : Hw := h.xtalShown.repeatLasting (2 ^ 16 - 1)

/-- Steps 5 and 6 of the exit from LISTEN have started. -/
def Hw.exitStarted (h : Hw) (volts : Nat) : Hw := (h.portsFreed volts).unitsBack.errorsBack

theorem exitListen_stages (h : Hw) (volts : Nat) :
    h.exitListen volts = (h.exitResumed.exitStarted volts).exitSettle := rfl

theorem exitResumed_verdict (h : Hw) : h.exitResumed.rst.wdt = 0 ∧ h.exitResumed.rst.wdtRun = true ∧
    h.exitResumed.pwr'.phase = .exitRun := ⟨rfl, rfl, rfl⟩

theorem steady_exitStarted (h : Hw) (volts : Nat) : h.Steady (h.exitStarted volts) := by
  have hports : h.Steady (h.portsFreed volts) :=
    (((((Hw.Steady.of_writes (wakeStacks_writes h)).trans (.of_gates (.parkPorts ..))).trans
      (.of_gates (.isoPorts _))).trans (.of_gates (.pllFences _))).trans (.of_gates (.localRelease ..)))
  have hunits : ∀ k : Hw, k.Steady k.unitsBack := fun k =>
    ((Hw.Steady.linkStat0 k).trans (.ringsOut _)).trans (.of_senses (.snsEnable ..))
  have herrors : ∀ k : Hw, k.Steady k.errorsBack := fun k => (Hw.Steady.putB k _ _).trans (.repeatLasting ..)
  exact (hports.trans (hunits _)).trans (herrors _)

theorem exitListen_verdict (h : Hw) (volts : Nat) : let g := (h.exitListen volts).pendAwake
    g.rst.wdt = 0 ∧ g.rst.wdtRun = true ∧
    ((g.pwr'.phase = .exitRun ∧ (g.memTrains = true ∨ g.fab.localRel = true)) ∨ g.inRun) := by
  obtain ⟨hwdt, hrun, hphase⟩ := exitResumed_verdict h
  have hs := steady_exitStarted h.exitResumed volts
  dsimp only
  rw [exitListen_stages]
  generalize h.exitResumed = r at hwdt hrun hphase hs ⊢
  generalize r.exitStarted volts = k at hs ⊢
  obtain ⟨hrst, hend⟩ := exitSettle_verdict ((congrArg PwrState.phase hs.pwr').trans hphase)
  have hst := hrst.trans hs.rst
  generalize k.exitSettle = e at hst hend ⊢
  obtain ⟨hp, hfab, hw, hwr, hrd⟩ := pendAwake_keeps e
  refine ⟨hw.trans ((congrArg RstState.wdt hst).trans hwdt), hwr.trans ((congrArg RstState.wdtRun hst).trans hrun), ?_⟩
  have htrains : e.pendAwake.memTrains = e.memTrains := memTrains_of_rd fun s hs => hrd _ (by
    simp only [R.MEM_STAT, R.SYS_RST_STAT]
    omega)
  rw [hp, hfab, htrains]
  exact hend.imp_right (inRun_congr (congrArg PwrState.phase hp) (hrd _ (by decide)))

/-! ### The exit from DEEP (R145, R146) -/

/-- Time and the Dealer run, and the cause is recorded. -/
def Hw.deepResumed (h : Hw) : Hw := h.resumeTime.resumeDealer.cause rcDEEP_WAKE

/-- Stacks and sensors start. -/
def Hw.unitsStarted (h : Hw) : Hw := (h.trainBoth false).snsEnable 0 (h.rd R.SNS_CH_EN)

/-- So do they after the straps are sampled. -/
def Hw.deepStarted (h : Hw) (seat boot : Nat) : Hw := (h.straps seat boot).xtalShown.unitsStarted

/-- Lasting errors are reported again, the WAKE event is posted, and the internal master may take the TAP. -/
def Hw.deepEnded (h : Hw) : Hw := (h.repeatLasting (2 ^ 16 - 1)).wakeNote.tapSettle

theorem exitDeep_stages (h : Hw) (seat boot : Nat) :
    h.exitDeep seat boot = ((h.deepResumed.deepStarted seat boot).pwrRest pwrRUN).deepEnded := rfl

theorem cause_straps (h : Hw) (seat boot : Nat) : (h.straps seat boot).rd R.SYS_RST_CAUSE = h.rd R.SYS_RST_CAUSE :=
  (Hw.rd_put_ne _ R.CFG_STAT_SOURCE _ (by decide)).trans (Hw.rd_put_ne _ R.TBL_STAT_SEAT _ (by decide))

theorem cause_xtalShown (h : Hw) : h.xtalShown.rd R.SYS_RST_CAUSE = h.rd R.SYS_RST_CAUSE :=
  Hw.rd_put_ne h R.SYS_CLK_STAT_XTAL32_OK _ (by decide)

theorem cause_unitsStarted (h : Hw) : h.unitsStarted.rd R.SYS_RST_CAUSE = h.rd R.SYS_RST_CAUSE := by
  unfold Hw.unitsStarted
  rw [(Hw.Senses.snsEnable ..).rd _ (by decide), trainBoth_stages, rd_trainStart _ _ _ (by decide) (by decide),
    rd_trainStart _ _ _ (by decide) (by decide)]
  rfl

/-- The causes of a reset stay as they were recorded. -/
theorem cause_deepStarted (h : Hw) (seat boot : Nat) :
    (h.deepStarted seat boot).rd R.SYS_RST_CAUSE = h.rd R.SYS_RST_CAUSE := by
  rw [Hw.deepStarted, cause_unitsStarted, cause_xtalShown, cause_straps]

theorem deepEnded_keeps (h : Hw) : h.deepEnded.regs = h.regs ∧ h.deepEnded.pwr' = h.pwr' := by
  have hr := repeatLasting_frame h (2 ^ 16 - 1)
  obtain ⟨hregs, -, hpwr⟩ := wakeNote_keeps (h.repeatLasting (2 ^ 16 - 1))
  unfold Hw.deepEnded
  generalize (h.repeatLasting (2 ^ 16 - 1)).wakeNote = k at hregs hpwr ⊢
  have ht := tapSettle_frame k
  exact ⟨(congrArg Hw.regs ht :).trans (hregs.trans (congrArg Hw.regs hr :)),
    (congrArg Hw.pwr' ht :).trans (hpwr.trans (congrArg Hw.pwr' hr :))⟩

theorem exitDeep_verdict (h : Hw) (seat boot : Nat) : let g := (h.exitDeep seat boot).pendAwake
    g.inRun ∧ bit (g.rd R.SYS_RST_CAUSE) 10 = true := by
  have hcause : bit (h.deepResumed.rd R.SYS_RST_CAUSE) 10 = true := bit_cause_self _ (by decide)
  have hrun := inRun_pwrRest (h.deepResumed.deepStarted seat boot)
  have hrd : ((h.deepResumed.deepStarted seat boot).pwrRest pwrRUN).rd R.SYS_RST_CAUSE =
      h.deepResumed.rd R.SYS_RST_CAUSE := (rd_pwrRest _ _ (by decide)).trans (cause_deepStarted ..)
  dsimp only
  rw [exitDeep_stages]
  generalize (h.deepResumed.deepStarted seat boot).pwrRest pwrRUN = r at hrun hrd ⊢
  obtain ⟨hregs, hpwr⟩ := deepEnded_keeps r
  generalize r.deepEnded = e at hregs hpwr ⊢
  obtain ⟨hp, -, -, -, hstat⟩ := pendAwake_keeps e
  have hall : ∀ a, a ≠ R.SYS_RST_STAT → e.pendAwake.rd a = r.rd a := fun a ha =>
    (hstat a ha).trans (Hw.rd_congr hregs a)
  refine ⟨inRun_congr (congrArg PwrState.phase (hp.trans hpwr)) (hall _ (by decide)) hrun, ?_⟩
  rw [hall _ (by decide), hrd, hcause]

/-! ### The row of the exit (R144) -/

theorem get_aotAdd (h : Hw) (n : Nat) {f : Fld} (hlo : f.addr ≠ R.PWR_AOT_CNT_LO) (hhi : f.addr ≠ R.PWR_AOT_CNT_HI) :
    (h.aotAdd n).get f = h.get f := get_wr64_ne h _ hlo hhi

section
variable {h : Hw} (hp : h.pwr'.phase = .exit) (hr : 2 ≤ h.clk.refGood) (ticks seat boot volts : Nat)
include hp hr

theorem wakeClocks_go : h.wakeClocks ticks seat boot volts =
    if (h.aotAdd ticks).pwr = pwrLISTEN then ((h.aotAdd ticks).exitListen volts).pendAwake
    else if (h.aotAdd ticks).railsGood then ((h.aotAdd ticks).exitDeep seat boot).pendAwake
    else h.aotAdd ticks := by
  have hgo : ¬ (h.pwr'.phase != .exit || decide (h.clk.refGood < 2)) = true := by
    rw [hp, decide_eq_false (Nat.not_lt.mpr hr)]
    exact Bool.false_ne_true
  rw [Hw.wakeClocks, if_neg hgo]

theorem wakeClocks_listen (hs : h.pwr = 3) :
    h.wakeClocks ticks seat boot volts = ((h.aotAdd ticks).exitListen volts).pendAwake := by
  rw [wakeClocks_go hp hr]
  exact if_pos ((get_aotAdd h ticks (f := R.PWR_STATE_STATE) (by decide) (by decide)).trans hs)

theorem wakeClocks_deep (hs : h.pwr ≠ 3) (hg : h.railsGood = true) :
    h.wakeClocks ticks seat boot volts = ((h.aotAdd ticks).exitDeep seat boot).pendAwake := by
  have hpwr : (h.aotAdd ticks).pwr = h.pwr := get_aotAdd h ticks (by decide) (by decide)
  have hrails : (h.aotAdd ticks).railsGood = h.railsGood := by
    rw [Hw.railsGood, get_aotAdd h ticks (by decide) (by decide), Hw.railsGood]
  rw [wakeClocks_go hp hr, hpwr, hrails, if_pos hg]
  exact if_neg hs

end

/-! ### The rows -/

theorem listenL2_ready {h : Hw} (hp : h.pwr'.phase = .entryWait) (hm : h.pwr'.pme = true) : h.listenL2 = h.sleepNow :=
  if_pos (by rw [hp, hm]; rfl)

/-- An event on a pin that is not frozen reaches system logic. -/
theorem pins_thawed {s : State} (hf : s.hw.pinsFrozen = false) (f : Hw → Hw) :
    s.pins f = .next { s with hw := f s.hw } := by
  rw [State.pins, State.upd, hf]
  rfl

/-- Settles O14: the end of an entry, the wake sources and the two exits, a lemma for each row. -/
theorem sleepAndWake : Obligations.SleepAndWake := by
  refine ⟨fun s hp hm => ?_, fun s hp hm => ⟨_, rfl, listenAbort_verdict hp hm⟩,
    fun s hp ht hi hl hr => ⟨_, rfl, listenDeep_verdict hp ht hi hl hr⟩,
    fun s ha hi hw => ⟨_, rfl, wakeExit_verdict ha hi hw⟩, fun s ticks seat boot volts hp hr hs hg => ?_,
    fun s ticks seat boot volts hp hr hs => ?_, fun s n level hf hn hl hp => ?_,
    fun s n level hf hn hl hp hpor hen => ⟨_, (exec_wakeInEdge ..).trans (pins_thawed hf _),
      wakeIn_verdict hn hl hp hpor hen⟩,
    fun s he => ⟨_, rfl, aotMatch_verdict he⟩, fun s hf => ⟨_, (exec_pciePerstRise s).trans (pins_thawed hf _),
      perstRise_verdict s.hw⟩, fun s hm => ?_⟩
  · obtain ⟨hpwr, hidle, -, htiles, hkitty⟩ := sleepNow_verdict s.hw
    rw [← listenL2_ready hp hm] at hpwr hidle htiles hkitty
    exact ⟨_, rfl, hpwr, hidle, htiles, hkitty⟩
  · obtain ⟨⟨hidle, hpwr, hbusy⟩, hcause⟩ := exitDeep_verdict (s.hw.aotAdd ticks) seat boot
    rw [← wakeClocks_deep hp hr ticks seat boot volts hs hg] at hidle hpwr hbusy hcause
    exact ⟨_, rfl, hpwr, hbusy, hidle, hcause⟩
  · obtain hv := exitListen_verdict (s.hw.aotAdd ticks) volts
    rw [← wakeClocks_listen hp hr ticks seat boot volts hs] at hv
    exact ⟨_, rfl, hv⟩
  · rw [exec_wakeInEdge, execWakeInEdge, pins_thawed hf, wakeIn_inactive hn hl hp]
    rfl
  · rw [exec_wakeOutPulseEnd, execWakeOutPulseEnd, State.upd, Hw.wakeOutEnd, hm]
    rfl

end Sys2Proof.Machine
end

section
/-!
SUPPORT. The host's requests, the link and the function-level resets (R131, R1063-R1082): each row's result as an
equation.
-/
namespace Sys2Proof.Machine

open Sys2Proof

/-! ### Guards of the rows (R184) -/

section
variable {s : State} {i : Instr} {f : Hw → Hw} {g : Hw}

theorem exec_of_sysPins (hi : exec i s = s.sysPins f) (hf : s.hw.pinsFrozen = false) (hu : s.hw.sysUp = true)
    (e : f s.hw = g) : exec i s = .next { s with hw := g } := by
  rw [hi, State.sysPins, State.upd, hf, hu, e]
  rfl

theorem exec_of_pins (hi : exec i s = s.pins f) (hf : s.hw.pinsFrozen = false) (e : f s.hw = g) :
    exec i s = .next { s with hw := g } := by
  rw [hi, pins_thawed hf, e]

theorem exec_of_sys (hi : exec i s = s.sys f) (hu : s.hw.sysUp = true) (e : f s.hw = g) :
    exec i s = .next { s with hw := g } := by
  rw [hi, sys_of_sysUp f hu, e]

theorem exec_of_upd (hi : exec i s = s.upd f) (e : f s.hw = g) : exec i s = .next { s with hw := g } := by
  rw [hi, State.upd, e]
  rfl

end

/-- Where no entry folds, there is nothing for it to settle. -/
theorem pwrSettle_still {h : Hw} (hp : h.pwr'.phase ≠ .folding) : h.pwrSettle = h := by
  have hne : (h.pwr'.phase != .folding) = true := bne_iff_ne.mpr hp
  rw [Hw.pwrSettle, hne]
  rfl

/-! ### Configuration requests (R1081) -/

section
variable {h : Hw} {fn : Nat} (hc : h.pcie.cfgUp = true) (hl : h.is R.PCIE_STAT_DL_UP = true) (hx : h.fnExists fn = true)
include hc hl hx

theorem configRequest_read (off : Nat) :
    h.configRequest fn off none = h.hostCpl [⟨0, leBytes 4 (h.cfgRd fn (off % 4096 / 4 * 4)), false⟩] := by
  simp only [Hw.configRequest, hc, hl, hx, Bool.not_true, Bool.or_self, Bool.false_eq_true, if_false]

/-- A write that starts no function-level reset is answered and made. -/
theorem configRequest_write (off v : Nat) (ho : fn = 0 ∨ (h.bitOf R.PCIE_FLR_STAT_FLR (fn - 1) = false ∧
    (off % 4096 / 4 * 4 ≠ 0x078 ∨ bit v 15 = false))) : h.configRequest fn off (some v) =
      (h.hostCpl [⟨0, [], false⟩]).cfgWrite fn (off % 4096 / 4 * 4) (v % 2 ^ 32) := by
  have hbusy : ¬ (1 ≤ fn ∧ (h.hostCpl [⟨0, [], false⟩]).bitOf R.PCIE_FLR_STAT_FLR (fn - 1) = true) := by
    rintro ⟨hfn, hb⟩
    obtain rfl | ⟨hoff, -⟩ := ho
    · omega
    · exact Bool.false_ne_true (hoff.symm.trans hb)
  have hflr : ¬ (1 ≤ fn ∧ off % 4096 / 4 * 4 = 0x078 ∧ bit v 15 = true) := by
    rintro ⟨hfn, hoff, hb⟩
    obtain rfl | ⟨-, hne | hv⟩ := ho
    · omega
    · exact hne hoff
    · exact Bool.false_ne_true (hv.symm.trans hb)
  simp only [Hw.configRequest, hc, hl, hx, Bool.not_true, Bool.or_self, Bool.false_eq_true, if_false, if_neg hbusy,
    if_neg hflr]

end

/-! ### Memory requests (R1063, R1064) -/

section
variable {h : Hw} {fn : Nat} (hl : h.linkUp = true) (hs : h.hostServes fn = true)
    (hf : fn = 0 ∨ h.bitOf R.PCIE_FLR_STAT_FLR (fn - 1) = false)
include hf

/-- No function-level reset holds the function. -/
theorem notResetting : ¬ (1 ≤ fn ∧ h.bitOf R.PCIE_FLR_STAT_FLR (fn - 1) = true) := by
  rintro ⟨hfn, hb⟩
  obtain rfl | hoff := hf
  · omega
  · exact Bool.false_ne_true (hoff.symm.trans hb)

include hl hs

theorem hostMemRead_unassigned {bar o n : Nat} (hn : n ≠ 0) (ha : h.hostAt fn bar o = .unassigned) (ans : UAns) :
    h.hostMemRead fn bar o n false [] ans = h.hostCpl [⟨0, List.replicate n 0, false⟩] := by
  simp [Hw.hostMemRead, hl, hn, hs, notResetting hf, ha]

theorem hostMemRead_mbxReg {bar o a v : Nat} {g : Hw} (ha : h.hostAt fn bar o = .mbxReg a) (hw : a % 4 = 0)
    (hr : h.regRead a = (.ok v, g)) (ans : UAns) :
    h.hostMemRead fn bar o 4 false [] ans = g.hostCpl [⟨0, leBytes 4 v, false⟩] := by
  simp [Hw.hostMemRead, hl, hs, notResetting hf, ha, hw, hr]

theorem hostMemRead_global {bar o n a : Nat} (hn : n ≠ 0) (ha : h.hostAt fn bar o = .global a) (es : List SramErr)
    (ans : UAns) : h.hostMemRead fn bar o n false es ans = h.hostRead fn a n es ans := by
  simp [Hw.hostMemRead, hl, hn, hs, notResetting hf, ha]

theorem hostMemWrite_unassigned {bar o : Nat} {bs : List Byte} (hn : bs ≠ []) (ha : h.hostAt fn bar o = .unassigned)
    (ans : UAns) : h.hostMemWrite fn bar o bs false false ans = h := by
  simp [Hw.hostMemWrite, hl, hn, hs, notResetting hf, ha]

theorem hostMemWrite_mbxReg {bar o a v : Nat} {bs : List Byte} {g : Hw} (hn : bs.length = 4)
    (ha : h.hostAt fn bar o = .mbxReg a) (hw : a % 4 = 0) (hr : h.regWrite a (ofLe bs) srcHost = (.ok v, g))
    (ans : UAns) : h.hostMemWrite fn bar o bs false false ans = g := by
  have hne : bs ≠ [] := List.ne_nil_of_length_pos (by omega)
  simp [Hw.hostMemWrite, hl, hne, hs, notResetting hf, ha, hn, hw, hr]

theorem hostMemWrite_global {bar o a : Nat} {bs : List Byte} (hn : bs ≠ []) (ha : h.hostAt fn bar o = .global a)
    (ans : UAns) : h.hostMemWrite fn bar o bs false false ans = h.hostWrite fn a bs false ans := by
  simp [Hw.hostMemWrite, hl, hn, hs, notResetting hf, ha]

end

/-! ### Function-level resets (R1076) -/

theorem flr_none {h : Hw} {n : Nat} (hn : n = 0 ∨ h.fnExists n = false) : h.flr n = h := by
  refine if_pos (hn.imp_right fun hx => .inl ?_)
  rw [hx]
  exact Bool.false_ne_true

theorem fn_le_of_exists {h : Hw} {n : Nat} (hx : h.fnExists n = true) : n ≤ 16 := by
  simp only [Hw.fnExists, Bool.or_eq_true, Bool.and_eq_true, beq_iff_eq, decide_eq_true_eq] at hx
  omega

/-- The registers of VF `n`'s mailbox take their reset values. -/
def Hw.mbxRegsReset (h : Hw) (m : Nat) : Hw :=
  [R.MBX_DB_CMD m, R.MBX_DB_CPL m, R.MBX_CMD_HEAD m, R.MBX_CPL_TAIL m, R.MBX_CTL m, R.MBX_ERR m].foldl
    (fun h a => h.wr a (resetWord a).toNat) h

/-- Events and the ring of the mailbox are gone. -/
def Hw.mbxEmptied (h : Hw) (m : Nat) : Hw :=
  let h := { h with mbx := { h.mbx with events := lmapSet h.mbx.events m [] } }
  let h := h.setUnsig m 0
  { h with mem := { h.mem with kitty := Mem.zero h.mem.kitty (0x2000 * m) (0x2000 * m + 0x1400) } }

theorem rd_mbxRegsReset (h : Hw) (m : Nat) {a : Nat} (ha : a < 0x40020000) : (h.mbxRegsReset m).rd a = h.rd a := by
  refine foldl_keeps (fun h => Hw.rd h a) _ (fun g b hb => Hw.rd_wr_ne _ _ ?_) h
  simp only [List.mem_cons, List.not_mem_nil, or_false, R.MBX_DB_CMD, R.MBX_DB_CPL, R.MBX_CMD_HEAD, R.MBX_CPL_TAIL,
    R.MBX_CTL, R.MBX_ERR] at hb
  omega

theorem mbx_mbxRegsReset (h : Hw) (m : Nat) : (h.mbxRegsReset m).mbx = h.mbx :=
  foldl_keeps Hw.mbx _ (fun g b _ => Hw.wr_mbx g b _) h

theorem mbxEmptied_keeps (h : Hw) (m : Nat) : (h.mbxEmptied m).regs = h.regs ∧
    (h.mbxEmptied m).mbx.infl = h.mbx.infl := ⟨rfl, rfl⟩

/-- Without commands in flight none is lost. -/
theorem flrMailbox_quiet {h : Hw} (hi : h.mbx.infl = []) (m : Nat) :
    h.flrMailbox m = (h.mbxRegsReset m).mbxEmptied m := by
  have hnone : (h.mbxRegsReset m).inflight m = [] := by
    rw [Hw.inflight, mbx_mbxRegsReset, hi]
    rfl
  rw [Hw.flrMailbox, ← Hw.mbxRegsReset]
  generalize h.mbxRegsReset m = k at hnone ⊢
  dsimp only
  rw [hnone]
  rfl

/-- The function is cleared, and its reset is shown. -/
def Hw.flrBegun (h : Hw) (n : Nat) : Hw :=
  ((h.cfgClear n).flrMailbox (n - 1)).putBit R.PCIE_FLR_STAT_FLR (n - 1) true

section
variable {h : Hw} {n : Nat} (hi : h.mbx.infl = [])
include hi

theorem infl_flrBegun : (h.flrBegun n).mbx.infl = [] := by
  rw [Hw.flrBegun, Hw.putBit_mbx, flrMailbox_quiet (h := h.cfgClear n) hi, (mbxEmptied_keeps ..).2, mbx_mbxRegsReset]
  exact hi

theorem rd_flrBegun {a : Nat} (ha : a < 0x40020000) : (h.flrBegun n).rd a = h.rd a := by
  have hne : a ≠ R.PCIE_FLR_STAT := by
    simp only [R.PCIE_FLR_STAT]
    omega
  rw [Hw.flrBegun, Hw.putBit, Hw.rd_put_ne _ R.PCIE_FLR_STAT_FLR _ hne, flrMailbox_quiet (h := h.cfgClear n) hi,
    Hw.rd_congr (mbxEmptied_keeps ..).1, rd_mbxRegsReset _ _ ha]
  rfl

/-- An FLR of a VF without commands in flight and without an open partition ends at once. -/
theorem flr_quiet (hn : 1 ≤ n) (hx : h.fnExists n = true) (hl : h.is R.PCIE_STAT_DL_UP = true)
    (hb : h.bitOf R.PCIE_FLR_STAT_FLR (n - 1) = false) (hs : h.pstate (n - 1) < 2) : h.flr n =
      ((h.flrBegun n).onPt (n - 1) (fun x => { x with flr := some false, start := none })).flrFinish (n - 1) := by
  have hgo : ¬ (n = 0 ∨ ¬ h.fnExists n = true ∨ ¬ h.is R.PCIE_STAT_DL_UP = true ∨
      h.bitOf R.PCIE_FLR_STAT_FLR (n - 1) = true) := by
    simp [hx, hl, hb, Nat.ne_of_gt hn]
  have hp : n ≤ 16 := fn_le_of_exists hx
  have hinfl : (h.flrBegun n).mbx.infl = [] := infl_flrBegun hi
  have hstate : (h.flrBegun n).pstate (n - 1) = h.pstate (n - 1) :=
    get_of_rd (f := R.SYS_PART_STAT_STATE (n - 1)) (rd_flrBegun hi (by
      simp only [R.SYS_PART_STAT_STATE, R.SYS_PART_STAT]
      omega))
  have hopen : ((h.flrBegun n).pstate (n - 1) == pCOMPUTE || (h.flrBegun n).pstate (n - 1) == pGRAPHICS ||
      (h.flrBegun n).pstate (n - 1) == pFAULT) = false := by
    rw [hstate]
    simp only [pCOMPUTE, pGRAPHICS, pFAULT, Bool.or_eq_false_iff, beq_eq_false_iff_ne]
    omega
  rw [Hw.flr, if_neg hgo]
  dsimp only
  rw [← Hw.flrBegun, hinfl, List.filter_nil, List.foldl_nil, hopen, if_neg Bool.false_ne_true]
  rfl

end

/-! ### The link (R1079-R1082) -/

theorem pmeTurnOff_up {h : Hw} (hl : h.linkUp = true) :
    h.pmeTurnOff = { h with pwr' := { h.pwr' with pme := true } } := if_pos hl

/-- The link shows its speed and width. -/
def Hw.linkShown (h : Hw) (speed width : Nat) : Hw :=
  (((h.put R.PCIE_STAT_SPEED speed).put R.PCIE_STAT_WIDTH width).putB R.PCIE_STAT_DL_UP true).putB R.PCIE_STAT_L2 false

/-- Configuration requests are served. -/
def Hw.cfgServed (h : Hw) : Hw := { h with pcie := { h.pcie with cfgUp := true } }

theorem linkShown_verdict (h : Hw) (speed width : Nat) : let g := h.linkShown speed width
    h.Writes g ∧ g.is R.PCIE_STAT_DL_UP = true ∧ g.is R.PCIE_STAT_L2 = false ∧
    g.get R.PCIE_STAT_SPEED = speed % 2 ^ (R.PCIE_STAT_SPEED.hi + 1 - R.PCIE_STAT_SPEED.lo) := by
  refine ⟨(((Hw.Writes.put ..).trans (.put ..)).trans (.putB ..)).trans (.putB ..), ?_,
    Hw.is_putB_self _ _ _ (by decide) (by decide), ?_⟩
  · rw [Hw.linkShown, Hw.is, Hw.get_putB_other _ _ _ _ (by decide) (by decide) (by decide)]
    exact Hw.is_putB_self _ _ _ (by decide) (by decide)
  · rw [Hw.linkShown, Hw.get_putB_other _ _ _ _ (by decide) (by decide) (by decide),
      Hw.get_putB_other _ _ _ _ (by decide) (by decide) (by decide),
      Hw.get_put_other _ _ _ _ (by decide) (by decide) (by decide)]
    exact Hw.get_put_self _ _ _ (by decide) (by decide)

theorem cfgServed_keeps (h : Hw) : h.cfgServed.regs = h.regs ∧ h.cfgServed.pcie.cfgUp = true ∧
    h.cfgServed.mem = h.mem ∧ h.cfgServed.tiles = h.tiles := ⟨rfl, rfl, rfl, rfl⟩

section
variable {h : Hw} (hp : h.pcie.perst = true) (ha : h.asleep = false) (hl : h.is R.PCIE_STAT_DL_UP = false)
    (hh : h.heldAt true = false)
include hp ha hl hh

theorem pcieUp_eq (speed width : Nat) : h.pcieUp speed width = (h.linkShown speed width).cfgServed := by
  have hgo : ¬ (!h.pcie.perst || h.asleep || h.is R.PCIE_STAT_DL_UP || h.heldAt true) = true := by
    rw [hp, ha, hl, hh]
    exact Bool.false_ne_true
  rw [Hw.pcieUp, if_neg hgo]
  rfl

theorem pcieUp_verdict (speed width : Nat) : let g := h.pcieUp speed width
    g.is R.PCIE_STAT_DL_UP = true ∧ g.is R.PCIE_STAT_L2 = false ∧
    g.get R.PCIE_STAT_SPEED = speed % 2 ^ (R.PCIE_STAT_SPEED.hi + 1 - R.PCIE_STAT_SPEED.lo) ∧ g.pcie.cfgUp = true ∧
    g.mem = h.mem ∧ g.tiles = h.tiles := by
  obtain ⟨hw, hup, hl2, hspeed⟩ := linkShown_verdict h speed width
  dsimp only
  rw [pcieUp_eq hp ha hl hh]
  generalize h.linkShown speed width = k at hw hup hl2 hspeed ⊢
  obtain ⟨hregs, hcfg, hmem, htiles⟩ := cfgServed_keeps k
  exact ⟨(Hw.is_congr hregs _).trans hup, (Hw.is_congr hregs _).trans hl2, (Hw.get_congr hregs _).trans hspeed, hcfg,
    hmem.trans hw.mem, htiles.trans hw.tiles⟩

end

/-- The link has gone down, and LINK_DOWN is set. -/
def Hw.linkFell (h : Hw) : Hw := h.linkStat0.raise R.PCIE_FLAGS_LINK_DOWN 0

theorem rd_linkStat0 (h : Hw) {a : Nat} (ha : a ≠ R.PCIE_STAT) : h.linkStat0.rd a = h.rd a := by
  simp only [Hw.linkStat0, Hw.putB]
  rw [Hw.rd_put_ne _ _ _ ha, Hw.rd_put_ne _ _ _ ha, Hw.rd_put_ne _ _ _ ha, Hw.rd_put_ne _ _ _ ha]

theorem rd_linkFell (h : Hw) {a : Nat} (ha : a ≠ R.PCIE_STAT) (hf : a ≠ R.PCIE_FLAGS) : h.linkFell.rd a = h.rd a := by
  rw [Hw.linkFell, rd_raise_ne _ R.PCIE_FLAGS_LINK_DOWN 0 hf, rd_linkStat0 h ha]

theorem pwr'_linkFell (h : Hw) : h.linkFell.pwr' = h.pwr' := by
  rw [Hw.linkFell, Hw.raise_pwr', (linkStat0_writes h).pwr']

theorem pcie_linkFell (h : Hw) : h.linkFell.pcie = h.pcie := by
  rw [Hw.linkFell, Hw.raise_pcie, (linkStat0_writes h).pcie]

theorem cfg_linkFell (h : Hw) : h.linkFell.cfg = h.cfg := by
  rw [Hw.linkFell, Hw.raise_cfg, (linkStat0_writes h).cfg]

theorem cfg_cfgClearAll (h : Hw) : h.cfgClearAll.cfg = h.cfg := by
  rw [Hw.cfgClearAll, Hw.putB_cfg]

theorem pcieDownRow_false (h : Hw) : h.pcieDownRow false = h.pcieDown.loadLost := rfl

theorem loadLost_none {h : Hw} (hc : h.cfg.cmd = none) : h.loadLost = h := by
  rw [Hw.loadLost, hc]

section
variable {h : Hw} (hl : h.is R.PCIE_STAT_DL_UP = true) (he : h.pcie.engines = [])
include hl he

/-- Without DMA engines at work, a link that goes down clears the configuration space of a part awake. -/
theorem pcieDown_eq :
    h.pcieDown = if h.asleep || h.is R.PWR_STATE_BUSY then h.linkFell else h.linkFell.cfgClearAll := by
  have hup : ¬ (!h.is R.PCIE_STAT_DL_UP && !h.is R.PCIE_STAT_L2) = true := by
    rw [hl]
    exact Bool.false_ne_true
  have hstate : h.linkFell.rd R.PWR_STATE = h.rd R.PWR_STATE := rd_linkFell h (by decide) (by decide)
  have hasleep : h.linkFell.asleep = h.asleep :=
    asleep_congr (get_of_rd (f := R.PWR_STATE_STATE) hstate) (pwr'_linkFell h)
  have hbusy : h.linkFell.is R.PWR_STATE_BUSY = h.is R.PWR_STATE_BUSY := is_of_rd (f := R.PWR_STATE_BUSY) hstate
  have hnone : h.linkFell.pcie.engines = [] := (congrArg PcieState.engines (pcie_linkFell h)).trans he
  rw [Hw.pcieDown, if_neg hup]
  dsimp only
  rw [← Hw.linkFell, hnone, List.filter_nil, List.foldl_nil, hasleep, hbusy]

section
variable (hc : h.cfg.cmd = none)
include hc

theorem pcieDownRow_asleep (hs : h.asleep = true ∨ h.is R.PWR_STATE_BUSY = true) :
    h.pcieDownRow false = h.linkFell := by
  have hrest : (h.asleep || h.is R.PWR_STATE_BUSY) = true := Bool.or_eq_true _ _ |>.mpr hs
  have hcmd : h.linkFell.cfg.cmd = none := by rw [cfg_linkFell, hc]
  rw [pcieDownRow_false, pcieDown_eq hl he, if_pos hrest, loadLost_none hcmd]

theorem pcieDownRow_awake (ha : h.asleep = false) (hb : h.is R.PWR_STATE_BUSY = false) :
    h.pcieDownRow false = h.linkFell.cfgClearAll := by
  have hrest : ¬ (h.asleep || h.is R.PWR_STATE_BUSY) = true := by
    rw [ha, hb]
    exact Bool.false_ne_true
  have hcmd : h.linkFell.cfgClearAll.cfg.cmd = none := by rw [cfg_cfgClearAll, cfg_linkFell, hc]
  rw [pcieDownRow_false, pcieDown_eq hl he, if_neg hrest, loadLost_none hcmd]

end

end

/-! ### DMA completions (R1073) -/

/-- The engines after the read's bytes have joined. -/
def Hw.dmaJoined (h : Hw) (e : Nat) (q : DmaEng) : Hw :=
  { h with pcie := { h.pcie with engines := h.pcie.engines.map (fun x => if x.eng == e then h.dmaIssue q else x) } }

theorem dmaAllowed_dmaJoined (h : Hw) (e : Nat) (q : DmaEng) (fn : Nat) :
    (h.dmaJoined e q).dmaAllowed fn = h.dmaAllowed fn := rfl

section
variable {h : Hw} {e j : Nat} {g : DmaEng}
    (hg : h.pcie.engines.find? (fun g => g.eng == e && g.expects j) = some g)
include hg

theorem dmaCompletion_timeout (bs : List Byte) (ep : Bool) : h.dmaCompletion e j 3 bs ep =
    ((h.aer (dmaFn g.mb) 14 4).raise R.PCIE_FLAGS_CPL_TMO 0).dmaFail g 3 := by
  simp [Hw.dmaCompletion, hg]

variable (hl : h.linkUp = true) (hf : h.pinsFrozen = false)
include hl hf

theorem dmaCompletion_poisoned (bs : List Byte) :
    h.dmaCompletion e j 0 bs true = (h.poisonRx (dmaFn g.mb)).dmaFail g 4 := by
  simp [Hw.dmaCompletion, hg, hl, hf]

theorem dmaCompletion_refused {st : Nat} (hst : st = 1 ∨ st = 2) (bs : List Byte) (ep : Bool) :
    h.dmaCompletion e j st bs ep = h.dmaFail g st := by
  obtain rfl | rfl := hst
  · simp [Hw.dmaCompletion, hg, hl, hf]
  · simp [Hw.dmaCompletion, hg, hl, hf]

theorem dmaCompletion_good (bs : List Byte)
    (ha : (g.arrive j bs).len ≤ (g.arrive j bs).issued ∨ h.dmaAllowed (dmaFn g.mb) = true) :
    h.dmaCompletion e j 0 bs false = h.dmaJoined e (g.arrive j bs) := by
  have hgo : ¬ ((g.arrive j bs).issued < (g.arrive j bs).len ∧
      ¬ (h.dmaJoined e (g.arrive j bs)).dmaAllowed (dmaFn g.mb) = true) := by
    rw [dmaAllowed_dmaJoined]
    rintro ⟨hlt, hno⟩
    obtain hle | hyes := ha
    · omega
    · exact hno hyes
  have hlive : ¬ (0 ≠ 3 ∧ (¬ h.linkUp = true ∨ h.pinsFrozen = true)) := by simp [hl, hf]
  simp only [Hw.dmaCompletion, hg, if_neg hlive]
  exact if_neg hgo

end

/-- Settles O55, a lemma per row. -/
theorem hostRequests : Obligations.HostRequests := by
  refine ⟨fun s fn off hf hu hc hl hx hp => ?_, fun s fn off v hf hu hc hl hx ho => ?_,
    fun s fn bar o n ans hf hu hl hn hs hr ha => ?_, fun s fn bar o n a v ans h hf hu hl hn hs hr ha hw hv => ?_,
    fun s fn bar o n a es ans hf hu hl hn hs hr ha => ?_, fun s fn bar o bs ans hf hu hl hn hs hr ha => ?_,
    fun s fn bar o a v bs ans h hf hu hl hn hs hr ha hw hv => ?_,
    fun s fn bar o a bs ans hf hu hl hn hs hr ha => ?_, fun s n hf hu hn hp => ?_,
    fun s n hf hu hn hx hl hb hi hs => ?_, fun s hf hl => exec_of_pins (exec_pmeTurnOff s) hf (pmeTurnOff_up hl),
    fun s v w hf hp ha hl hh => ⟨_, exec_of_pins (exec_pcieLinkUp v w s) hf rfl, pcieUp_verdict hp ha hl hh v w⟩,
    fun s hl he hs hc => exec_of_upd (exec_pcieLinkDown false s) (pcieDownRow_asleep hl he hc hs),
    fun s hl he ha hb hc => exec_of_upd (exec_pcieLinkDown false s) (pcieDownRow_awake hl he hc ha hb),
    fun s e j bs g q hu hg hl hf hq ha => ?_,
    fun s e j bs g hu hg hl hf => exec_of_sys (exec_dmaCompletion ..) hu (dmaCompletion_poisoned hg hl hf bs),
    fun s e j st bs ep g hu hg hl hf hst =>
      exec_of_sys (exec_dmaCompletion ..) hu (dmaCompletion_refused hg hl hf hst bs ep),
    fun s e j bs ep g hu hg => exec_of_sys (exec_dmaCompletion ..) hu (dmaCompletion_timeout hg bs ep)⟩
  · refine exec_of_sysPins (exec_configRequest fn off none s) hf hu ?_
    rw [configRequest_read hc hl hx]
    exact pwrSettle_still hp
  · refine exec_of_sysPins (exec_configRequest fn off (some v) s) hf hu ?_
    rw [configRequest_write hc hl hx off v ho]
    rfl
  · exact exec_of_sysPins (exec_hostMemRead ..) hf hu (hostMemRead_unassigned hl hs hr hn ha ans)
  · subst hn
    exact exec_of_sysPins (exec_hostMemRead ..) hf hu (hostMemRead_mbxReg hl hs hr ha hw hv ans)
  · exact exec_of_sysPins (exec_hostMemRead ..) hf hu (hostMemRead_global hl hs hr hn ha es ans)
  · exact exec_of_sysPins (exec_hostMemWrite ..) hf hu (hostMemWrite_unassigned hl hs hr hn ha ans)
  · exact exec_of_sysPins (exec_hostMemWrite ..) hf hu (hostMemWrite_mbxReg hl hs hr hn ha hw hv ans)
  · exact exec_of_sysPins (exec_hostMemWrite ..) hf hu (hostMemWrite_global hl hs hr hn ha ans)
  · refine exec_of_sysPins (exec_functionLevelReset n s) hf hu ?_
    rw [flr_none hn]
    exact pwrSettle_still hp
  · refine ⟨_, exec_of_sysPins (exec_functionLevelReset n s) hf hu rfl, s.hw.flrBegun n, rfl, ?_⟩
    dsimp only
    rw [flr_quiet hi hn hx hl hb hs]
  · subst hq
    exact exec_of_sys (exec_dmaCompletion ..) hu (dmaCompletion_good hg hl hf bs ha)

end Sys2Proof.Machine
end

section
/-!
SUPPORT. The test access port: what the end of a load leaves of the state, the instruction register, the take of the TAP
by the internal master, and fuse programming (chapter 4: R172-R179, R199-R202; R228, R229).
-/
namespace Sys2Proof.Machine

open Sys2Proof

/-! ### The end of a load (R220-R247) -/

/-- `h` with what the end of a load changes as it stands in `g`. -/
def Hw.loadEnded (h g : Hw) : Hw := { h.posted g with cfg := g.cfg, tap := g.tap }

/-- `g` comes from `h` by an attempt's failure or the start of the next: the configuration engine, the TAP, registers
and what messages change have changed. -/
structure Hw.LoadEnds (h g : Hw) : Prop where
  frame : g = h.loadEnded g

namespace Hw.LoadEnds

theorem refl (h : Hw) : h.LoadEnds h := ⟨rfl⟩

theorem trans {h g k : Hw} (p : h.LoadEnds g) (q : g.LoadEnds k) : h.LoadEnds k :=
  ⟨q.frame.trans (by rw [p.frame]; rfl)⟩

theorem ite {h g k : Hw} {c : Prop} [Decidable c] (p : h.LoadEnds g) (q : h.LoadEnds k) :
    h.LoadEnds (if c then g else k) := by
  split
  · exact p
  · exact q

theorem ident {h g : Hw} (p : h.LoadEnds g) : g.ident = h.ident := (congrArg Hw.ident p.frame :)

theorem of_writes {h g : Hw} (w : h.Writes g) : h.LoadEnds g := ⟨w.frame.trans (by rw [w.frame]; rfl)⟩

theorem of_posts {h g : Hw} (p : h.Posts g) : h.LoadEnds g := ⟨p.frame.trans (by rw [p.frame]; rfl)⟩

theorem onCfg (h : Hw) (f : CfgEng → CfgEng) : h.LoadEnds (h.onCfg f) := ⟨rfl⟩

theorem setCs (h : Hw) (v : Nat) : h.LoadEnds (h.setCs v) := of_writes (.put ..)

theorem putB (h : Hw) (f : Fld) (b : Bool) : h.LoadEnds (h.putB f b) := of_writes (.putB ..)

theorem tapRelease (h : Hw) : h.LoadEnds h.tapRelease := by
  rw [tapRelease_frame]
  exact ⟨rfl⟩

theorem loadDone (h : Hw) (status detail : Nat) : h.LoadEnds (h.loadDone status detail) := by
  unfold Hw.loadDone
  split
  · exact (onCfg ..).trans (of_posts (.complete ..))
  · exact refl h

theorem cfgFailed (h : Hw) : h.LoadEnds h.cfgFailed :=
  ((((onCfg h _).trans (setCs ..)).trans (putB ..)).trans (tapRelease _)).trans (loadDone ..)

theorem attemptStart (h : Hw) (a : Attempt) (fpos : Nat) : h.LoadEnds (h.attemptStart a fpos) :=
  (onCfg h _).trans (ite (setCs ..) ((putB ..).trans (setCs ..)))

theorem partialEnds (h : Hw) (f : CfgEng → CfgEng) (detail : Nat) :
    h.LoadEnds (((h.onCfg f).setCs csRELEASED).tapRelease.loadDone stCONFIG_FAIL detail) :=
  (((onCfg h f).trans (setCs ..)).trans (tapRelease _)).trans (loadDone ..)

theorem attemptNext (h : Hw) : h.LoadEnds h.attemptNext := by
  unfold Hw.attemptNext
  split
  case h_1 => exact (putB h R.CFG_STAT_ATTEMPT true).trans (attemptStart ..)
  case h_2 => exact attemptStart ..
  case h_3 => exact partialEnds ..
  case h_4 => exact partialEnds ..
  case h_5 => exact cfgFailed h

theorem failCounted (h : Hw) (a : Attempt) (reason : Nat) : h.LoadEnds (h.failCounted a reason) :=
  ite ((ite (refl h) (of_writes (.put ..))).trans (of_writes (.bump ..))) (ite (of_writes (.bump ..)) (refl h))

theorem failGoesOn (h : Hw) (a : Attempt) : h.LoadEnds (h.failGoesOn a) := ite (setCs ..) (attemptNext h)

theorem attemptFail (h : Hw) (reason : Nat) : h.LoadEnds (h.attemptFail reason) := by
  rw [attemptFail_eq]
  exact ((of_writes (.put ..)).trans (failCounted ..)).trans (failGoesOn ..)

end Hw.LoadEnds

/-- A stream of the pins that ends is no longer discarded; the master's leaves that as it is. -/
def Hw.streamFreed (h : Hw) : Hw := h.onCfg (fun e => { e with spent := h.tapInternal && e.spent })

theorem streamFreed_eq (h : Hw) :
    (if h.tapInternal then h else h.onCfg (fun e => { e with spent := false })) = h.streamFreed := by
  unfold Hw.streamFreed
  cases h.tapInternal with
  | false => rfl
  | true => rfl

/-- The end of a stream fails its attempt, or leaves it. -/
theorem streamEnd_loadEnds (h : Hw) : h.LoadEnds h.streamEnd := by
  unfold Hw.streamEnd
  rw [streamFreed_eq]
  exact (Hw.LoadEnds.onCfg h _).trans (.ite (.refl _) (.ite ((Hw.LoadEnds.attemptFail ..).trans (.onCfg ..))
    (.ite (.attemptFail ..) (.refl _))))

theorem streamEnd_idle {h : Hw} (hs : h.streaming = false) : h.streamEnd = h.streamFreed := by
  have hfreed : h.streamFreed.streaming = false := hs
  unfold Hw.streamEnd
  rw [streamFreed_eq]
  dsimp only
  rw [hfreed, Bool.not_false, Bool.true_or, if_pos rfl]

/-! ### The instruction register (R176-R179) -/

theorem irLeave_loadEnds (h : Hw) : h.LoadEnds h.irLeave := .ite (streamEnd_loadEnds h) (.refl h)

/-- An instruction that leaves with no stream running leaves the TAP as it was. -/
theorem tap_irLeave_idle {h : Hw} (hs : h.streaming = false) : h.irLeave.tap = h.tap := by
  unfold Hw.irLeave
  split
  · rw [streamEnd_idle hs]
    rfl
  · rfl

/-- Entry to Test-Logic-Reset loads IDCODE, whose data register then shows the part's code, and freezes no input. -/
theorem tapReset_verdict (h : Hw) : let g := h.tapReset
    g.tap.ir = irIDCODE ∧ g.tap.ctl = .tlr ∧ g.tap.frozen = none ∧ g.tap.drCap = h.ident.idcode.toNat := by
  have hf := tapSettle_frame (h.irLeave.irLoad .tlr irIDCODE 0)
  have hident : (h.irLeave.irLoad .tlr irIDCODE 0).tap.drCap = h.ident.idcode.toNat :=
    congrArg (fun i => i.idcode.toNat) (irLeave_loadEnds h).ident
  exact ⟨(congrArg (fun g => g.tap.ir) hf :), (congrArg (fun g => g.tap.ctl) hf :),
    (congrArg (fun g => g.tap.frozen) hf :), (congrArg (fun g => g.tap.drCap) hf).trans hident⟩

theorem tap_porDetect (h : Hw) : h.porDetect.tap = TapState.reset := rfl

section
variable {h : Hw} (hi : h.tapInternal = false)
include hi

theorem tlr_pins : h.tlr = h.tapReset := if_neg (hi ▸ Bool.false_ne_true)

theorem trst_pins : h.trst = h.tapReset := if_neg (hi ▸ Bool.false_ne_true)

theorem captureIr_pins (done : Bool) : h.captureIr done = { h with tap := { h.tap with
    ctl := .capIr, irCap := 1 + 4 * b2n (done && !h.driveDone) + 8 * h.get R.CFG_STAT_ERR + 16 * h.get R.CFG_STAT_LOCK +
      32 * b2n h.tap.hbmBad } } := if_neg (hi ▸ Bool.false_ne_true)

/-- Update-IR takes the opcode, or BYPASS for one not listed, and holds the input cells under an instruction that
freezes them. -/
theorem updateIr_pins (op cells : Nat) (scans : List DrScan) : let g := h.updateIr op cells scans
    g.tap.ir = (if irListed (op % 1024) = true then op % 1024 else irBYPASS) ∧
    g.tap.frozen = (if irFreezes g.tap.ir = true then some cells else none) := by
  unfold Hw.updateIr
  rw [hi, if_neg Bool.false_ne_true]
  exact ⟨rfl, rfl⟩

theorem captureCfgStat_pins (hir : h.tap.ir = irCFG_STAT) :
    h.captureCfgStat = { h with tap := { h.tap with drCap := h.rd R.CFG_STAT } } := by
  unfold Hw.captureCfgStat
  rw [hi, hir]
  rfl

end

/-! ### The internal master takes the TAP (R81, R172, R175) -/

theorem tapSettle_unparked {h : Hw} (hp : h.tap.ctl.parked = false) : h.tapSettle = h := by
  rw [Hw.tapSettle, hp, Bool.and_false, if_neg Bool.false_ne_true]

/-- The master that has been asked for takes the TAP of a parked controller. -/
theorem tapSettle_parked {h : Hw} (hu : h.tap.use.isSome = true) (hp : h.tap.ctl.parked = true) :
    h.tapSettle = { h with tap := { h.tap with own := true } } := by
  rw [Hw.tapSettle, Hw.tapWant, hu, hp]
  rfl

theorem tapSettle_own {h : Hw} (ho : h.tapInternal = true) : h.tapSettle = h := by
  unfold Hw.tapSettle
  split
  · rw [← ho]
    rfl
  · rfl

/-- The pins clock a TAP that the internal master owns no further (R173). -/
theorem tapWalk_own {h : Hw} (ho : h.tapInternal = true) (tms : List Bool) : h.tapWalk tms = h := by
  cases tms with
  | nil => rfl
  | cons b bs =>
    unfold Hw.tapWalk
    rw [tapSettle_own ho]
    exact if_pos ho

/-- The TAP with its controller in state `c`. -/
def Hw.ctlAt (h : Hw) (c : TapCtl) : Hw := { h with tap := { h.tap with ctl := c } }

section
variable {h : Hw} (ho : h.tapInternal = false) (hp : h.tap.ctl.parked = false)
include ho hp

theorem tapWalk_reset {b : Bool} (hc : h.tap.ctl.clock b = .tlr) (bs : List Bool) :
    h.tapWalk (b :: bs) = h.tapReset.tapWalk bs := by
  rw [Hw.tapWalk, tapSettle_unparked hp, ho, hc]
  rfl

theorem tapWalk_unparked {b : Bool} (hc : (h.tap.ctl.clock b).parked = false) (bs : List Bool) :
    h.tapWalk (b :: bs) = (h.ctlAt (h.tap.ctl.clock b)).tapWalk bs := by
  have hne : ¬ (h.tap.ctl.clock b == .tlr) = true := by
    simp only [TapCtl.parked, Bool.or_eq_false_iff] at hc
    obtain ⟨hne, -⟩ := hc
    exact Bool.not_eq_true _ |>.mpr hne
  rw [Hw.tapWalk]
  dsimp only
  rw [tapSettle_unparked hp, ho, if_neg Bool.false_ne_true, if_neg hne]
  exact congrArg (fun g => Hw.tapWalk g bs) (tapSettle_unparked (h := h.ctlAt _) hc)

end

/-- A waiting master owns the TAP from the Test-Logic-Reset that the pins enter. -/
theorem tapReset_taken {h : Hw} (hu : h.tap.use.isSome = true) (hs : h.streaming = false) :
    h.tapReset.tapInternal = true := by
  have huse : (h.irLeave.irLoad .tlr irIDCODE 0).tap.use.isSome = true :=
    (congrArg (fun t => t.use.isSome) (tap_irLeave_idle hs)).trans hu
  rw [Hw.tapReset, tapSettle_parked huse rfl]
  rfl

/-- A one on TMS never leads to Run-Test/Idle. -/
theorem parked_clock_one (c : TapCtl) (hc : c.clock true ≠ .tlr) : (c.clock true).parked = false := by
  cases c
  case tlr | selIr => exact absurd rfl hc
  all_goals rfl

/-- Five ones on TMS lead to Test-Logic-Reset from every state of the controller. -/
theorem clock_five_ones (c : TapCtl) : (fun c => TapCtl.clock c true)^[5] c = .tlr := by
  cases c <;> rfl

/-- A waiting master takes the TAP within the ones on TMS that lead to Test-Logic-Reset. -/
theorem tapWalk_ones (n : Nat) {h : Hw} (ho : h.tapInternal = false) (hp : h.tap.ctl.parked = false)
    (hu : h.tap.use.isSome = true) (hs : h.streaming = false)
    (hn : (fun c => TapCtl.clock c true)^[n] h.tap.ctl = .tlr) : let g := h.tapWalk (List.replicate n true)
    g.tap.own = true ∧ g.tap.ctl = .tlr ∧ g.tap.ir = irIDCODE := by
  induction n generalizing h with
  | zero =>
    rw [Function.iterate_zero, id] at hn
    rw [hn] at hp
    exact absurd hp (by decide)
  | succ n ih =>
    rw [List.replicate_succ]
    by_cases hc : h.tap.ctl.clock true = .tlr
    · have hown := tapReset_taken hu hs
      obtain ⟨hir, hctl, -, -⟩ := tapReset_verdict h
      rw [tapWalk_reset ho hp hc, tapWalk_own hown]
      exact ⟨hown, hctl, hir⟩
    · have hnext := parked_clock_one _ hc
      rw [tapWalk_unparked ho hp hnext]
      exact ih (h := h.ctlAt _) ho hnext hu hs hn

/-- The TAP is asked for by a load. -/
def Hw.loadAsks (h : Hw) : Hw := { h with tap := { h.tap with use := some .load } }

section
variable {h : Hw} (hc : h.cfg.cmd.isSome = true) (hi : h.tapInternal = false) (hp : h.cfg.attempt ≠ .pins)
  (hpp : h.cfg.attempt ≠ .partPins)
include hc hi hp hpp

theorem tapTake_load (tms : List Bool) : h.tapTake .load tms = h.loadAsks.tapSettle.tapWalk tms := by
  have hmay : (h.cfg.cmd.isSome && h.cfg.attempt != .pins && h.cfg.attempt != .partPins) = true := by
    rw [hc, bne_iff_ne.mpr hp, bne_iff_ne.mpr hpp]
    rfl
  unfold Hw.tapTake
  dsimp only
  rw [hi, hmay]
  rfl

theorem tapTake_load_parked (hk : h.tap.ctl.parked = true) (tms : List Bool) :
    h.tapTake .load tms = { h with tap := { h.tap with use := some .load, own := true } } := by
  have hsettle : h.loadAsks.tapSettle = { h with tap := { h.tap with use := some .load, own := true } } :=
    tapSettle_parked (h := h.loadAsks) rfl hk
  rw [tapTake_load hc hi hp hpp, hsettle, tapWalk_own rfl]

theorem tapTake_load_five_ones (hs : h.streaming = false) (hk : h.tap.ctl.parked = false) :
    let g := h.tapTake .load [true, true, true, true, true]
    g.tap.own = true ∧ g.tap.ctl = .tlr ∧ g.tap.ir = irIDCODE := by
  rw [tapTake_load hc hi hp hpp, tapSettle_unparked (h := h.loadAsks) hk]
  exact tapWalk_ones 5 (h := h.loadAsks) hi hk rfl hs (clock_five_ones _)

end

/-- Settles O16, a lemma per clause. -/
theorem tapInstructions : Obligations.TapInstructions := by
  refine ⟨fun s hi => ⟨_, exec_of_upd (exec_testLogicReset s) (tlr_pins hi), tapReset_verdict s.hw⟩,
    fun s hi => ⟨_, exec_of_upd (exec_trstNAssert s) (trst_pins hi), tapReset_verdict s.hw⟩,
    fun s => ⟨_, exec_porDetect s, ?_, ?_⟩,
    fun s done hi => exec_of_upd (exec_captureIr done s) (captureIr_pins hi done),
    fun s op cells scans hi => ⟨_, exec_updateIr op cells scans s, updateIr_pins hi op cells scans⟩,
    fun s hi hir => exec_of_upd (exec_cfgStat s) (captureCfgStat_pins hi hir),
    fun s tms hu hc hi hp hpp hk =>
      exec_of_sys (exec_tapMasterTake .load tms s) hu (tapTake_load_parked hc hi hp hpp hk tms),
    fun s hu hc hi hp hpp hs hk =>
      ⟨_, exec_of_sys (exec_tapMasterTake ..) hu rfl, tapTake_load_five_ones hc hi hp hpp hs hk⟩⟩
  · exact congrArg TapState.ir (tap_porDetect s.fuseCut.hw)
  · exact congrArg TapState.frozen (tap_porDetect s.fuseCut.hw)

/-! ### Fuses (R199, R202, R228, R229) -/

/-- A fuse bit after bit `b` is programmed: `b` reads 1, every other bit as before. -/
theorem bit_fuseRd_fuseSet (fz : SMap Word) (b w : Nat) {k : Nat} (hk : k < 32) : bit (fuseRd (fuseSet fz b) w) k =
    (decide (w = b / 32 ∧ k = b % 32) || bit (fuseRd fz w) k) := by
  by_cases hw : w = b / 32
  · subst hw
    rw [fuseSet, fuseRd, SMap.get_set_self, BitVec.toNat_ofNat, bit_eq, Nat.testBit_mod_two_pow, Nat.testBit_or,
      Nat.testBit_two_pow, ← bit_eq, decide_eq_true hk, Bool.true_and, Bool.or_comm]
    simp [eq_comm]
  · rw [fuseSet, fuseRd, SMap.get_set_ne _ _ _ hw, ← fuseRd]
    simp [hw]

/-- A pulse of the pins that reads back 1 ends with its bit programmed and no failure. -/
theorem fuseDone_good {s : State} {b : Nat} (hb : s.hw.tap.pulse = some b) (hu : s.hw.tap.use ≠ some .fuse) :
    s.fuseDone true = { s with
      fuse := fuseSet s.fuse b, hw := { s.hw with tap := { s.hw.tap with pulse := none, verifyFail := false } } } := by
  have hdone : s.hw.fuseDone true = { s.hw with tap := { s.hw.tap with pulse := none, verifyFail := false } } :=
    if_neg hu
  rw [State.fuseDone, hb]
  dsimp only
  rw [Bool.true_or, hdone, if_pos rfl]

section
variable {h : Hw} (hs : h.fuseSel = true) (hp : h.tap.pulse = none) (fz : SMap Word) (a : Nat)
include hs hp

theorem fuseReadRow_words (hw : 32 ≤ a % 4096 / 32) : h.fuseReadRow fz a = { h with tap := { h.tap with
    fuseWord := if 44 ≤ a % 4096 / 32 ∧ a % 4096 / 32 ≤ 51 then 0 else fuseRd fz (a % 4096 / 32) } } := by
  unfold Hw.fuseReadRow
  dsimp only
  rw [hs, hp, if_neg (show ¬ a % 4096 / 32 < 32 by omega)]
  rfl

variable (hr : h.rst.pend = none)
include hr

/-- FUSE_PROG is selected, no pulse runs and no reset waits: the lock of the word decides. -/
theorem fuseProgram_free : h.fuseProgram fz a =
    if fuseLocked fz (a % 4096 / 32) then { h with tap := { h.tap with locked := true } }
    else { h with tap := { h.tap with locked := false, pulse := some (a % 4096) } } := by
  unfold Hw.fuseProgram
  dsimp only
  rw [hs, hp, hr]
  rfl

end

/-- Settles O17: a program command by the lock of its word, the pulse's end and the read by a lemma each. -/
theorem fuses : Obligations.Fuses := by
  refine ⟨fun s a hs hp hr hl => exec_of_upd (exec_fuseProgram a s) ?_,
    fun s a hs hp hr hl => exec_of_upd (exec_fuseProgram a s) ?_,
    fun s b hb hu => ⟨_, congrArg Host.Outcome.next (fuseDone_good hb hu), rfl, ?_, fun w k hk hne => ?_⟩,
    fun s a hs hp hw => exec_of_upd (exec_fuseRead a s) (fuseReadRow_words hs hp s.fuse a hw)⟩
  · rw [fuseProgram_free hs hp s.fuse a hr, hl, if_neg Bool.false_ne_true]
  · rw [fuseProgram_free hs hp s.fuse a hr, hl, if_pos rfl]
  · rw [bit_fuseRd_fuseSet _ _ _ (Nat.mod_lt b (by decide))]
    simp
  · have hother : ¬ (w = b / 32 ∧ k = b % 32) := by omega
    rw [bit_fuseRd_fuseSet _ _ _ hk, decide_eq_false hother, Bool.false_or]

end Sys2Proof.Machine
end

section
/-!
SUPPORT. The fuses over every step: their canonical form, and that a programmed bit stays programmed (R228, R229).
-/
namespace Sys2Proof.Machine

open Sys2Proof

/-- The fuses `g` are the fuses `f`, or these with one bit programmed. -/
def FuseStep (f g : SMap Word) : Prop := g = f ∨ ∃ b, g = fuseSet f b

theorem fuseStep_ite (f : SMap Word) (b : Nat) (c : Bool) : FuseStep f (if c then fuseSet f b else f) := by
  cases c
  · exact .inl rfl
  · exact .inr ⟨b, rfl⟩

theorem fuseWf_fuseSet {f : SMap Word} (b : Nat) (hf : fuseWf f = true) : fuseWf (fuseSet f b) = true :=
  SMap.wf_set _ _ hf

/-- A fuse word has 32 bits. -/
theorem bit_fuseRd_high (f : SMap Word) (w : Nat) {k : Nat} (hk : 32 ≤ k) : bit (fuseRd f w) k = false := by
  have hlt : fuseRd f w < 2 ^ k := Nat.lt_of_lt_of_le (BitVec.isLt _) (Nat.pow_le_pow_right (by decide) hk)
  rw [bit_eq, Nat.testBit_lt_two_pow hlt]

theorem bit_fuseRd_fuseSet_mono (f : SMap Word) (b w k : Nat) (h : bit (fuseRd f w) k = true) :
    bit (fuseRd (fuseSet f b) w) k = true := by
  by_cases hk : k < 32
  · rw [bit_fuseRd_fuseSet f b w hk, h, Bool.or_true]
  · rw [bit_fuseRd_high f w (Nat.le_of_not_lt hk)] at h
    exact absurd h Bool.false_ne_true

/-- Programming one bit or none keeps the canonical form and every programmed bit. -/
theorem fuseStep_keeps {s t : State} (hf : FuseStep s.fuse t.fuse) (hw : fuseWf s.fuse = true) :
    fuseWf t.fuse = true ∧ FuseKept s t := by
  rcases hf with he | ⟨b, he⟩
  · exact ⟨he ▸ hw, fun w k hk => he ▸ hk⟩
  · exact ⟨he ▸ fuseWf_fuseSet b hw, fun w k hk => he ▸ bit_fuseRd_fuseSet_mono s.fuse b w k hk⟩

theorem porLoad_fuse (s : State) : s.porLoad.fuse = s.fuse := by
  unfold State.porLoad
  split <;> rfl

/-- The end of a pulse programs its bit, or none (R199). -/
theorem fuseStep_fuseDone (s : State) (obs : Bool) : FuseStep s.fuse (s.fuseDone obs).fuse := by
  unfold State.fuseDone
  split
  · exact .inl rfl
  · exact fuseStep_ite ..

/-- A pulse that is cut off has programmed its bit, or none (R121). -/
theorem fuseStep_fuseCut (s : State) : FuseStep s.fuse s.fuseCut.fuse := by
  unfold State.fuseCut
  split
  · exact .inl rfl
  · exact fuseStep_ite ..

/-- A command programs one fuse bit or none: the two that end a pulse may program it, every other leaves the fuses. -/
theorem fuseStep_exec (c : Instr) (s : State) : ∃ t, exec c s = .next t ∧ FuseStep s.fuse t.fuse := by
  cases c
  case porDetect => exact ⟨_, rfl, fuseStep_fuseCut s⟩
  case fusePulseDone obs => exact ⟨_, rfl, fuseStep_fuseDone s obs⟩
  case porRelease => exact ⟨_, rfl, .inl (porLoad_fuse _)⟩
  case resetPinRelease p => exact ⟨_, rfl, .inl (porLoad_fuse _)⟩
  case resetNvDelayEnd => exact ⟨_, rfl, .inl (porLoad_fuse _)⟩
  all_goals exact ⟨_, rfl, .inl rfl⟩

theorem idle_fuse (s : State) : s.idle.fuse = s.fuse := by
  unfold State.idle
  split <;> rfl

theorem fuseStep_step {s t : State} (ht : step s = .next t) : FuseStep s.fuse t.fuse := by
  unfold step at ht
  split at ht
  case h_1 =>
    rw [← Host.Outcome.next.inj ht]
    exact .inl (idle_fuse s)
  case h_2 c cs _ =>
    obtain ⟨u, hu, hf⟩ := fuseStep_exec c { s with pending := cs }
    rw [← Host.Outcome.next.inj (hu.symm.trans ht)]
    exact hf

/-- Settles O5: a step programs one fuse bit or none. -/
theorem fusesKept : Obligations.FusesKept := fun _ _ hw ht => fuseStep_keeps (fuseStep_step ht) hw

/-- Settles O6: at reset no fuse is programmed and no memory lists a byte. -/
theorem resetInvariant : Obligations.ResetInvariant := ⟨rfl, rfl⟩

end Sys2Proof.Machine
end

section
/-!
SUPPORT. The commands that load images from the host, and those of the flash (R175, R244, R381, R406, R408).
-/
namespace Sys2Proof.Machine

open Sys2Proof

theorem exec_of_dealer {s : State} {i : Instr} {f : Hw → Hw} {g : Hw} (hi : exec i s = s.dealer f)
    (hd : s.hw.dealerUp = true) (e : f s.hw = g) : exec i s = .next { s with hw := g } := by
  rw [hi, State.dealer, State.upd, hd, e]
  rfl

theorem onCmd_found {h : Hw} {m k op : Nat} {f : InFlight} (hf : h.cmdFor m k op = some f) (act : InFlight → Hw) :
    h.onCmd m k op act = act f := by
  rw [Hw.onCmd, hf]

/-! ### Loads -/

section
variable {h : Hw} {m k : Nat} {f : InFlight} (ha : h.cfg.attempt = .none)
include ha

theorem imageLoad_begins (hf : h.cmdFor m k 0x0010 = some f) (hs : h.cstate = csWAIT ∨ h.cstate = csFAILED) :
    h.imageLoad m k = { (h.begun m k) with cfg := { h.cfg with cmd := some (m, k), taken := 0 } } := by
  have hmay : (h.cstate != csWAIT && h.cstate != csFAILED) = false := by
    rcases hs with hs | hs <;> rw [hs] <;> rfl
  rw [Hw.imageLoad, onCmd_found hf, ha, hmay]
  rfl

theorem imageLoad_wrongState (hf : h.cmdFor m k 0x0010 = some f) (hw : h.cstate ≠ csWAIT) (hn : h.cstate ≠ csFAILED) :
    h.imageLoad m k = h.complete m k 0x15 h.cstate 0 := by
  rw [Hw.imageLoad, onCmd_found hf, ha, bne_iff_ne.mpr hw, bne_iff_ne.mpr hn]
  rfl

theorem partialLoad_begins (hf : h.cmdFor m k 0x0011 = some f) :
    h.partialLoad m k = { (h.begun m k) with cfg := { h.cfg with cmd := some (m, k), taken := 0 } } := by
  rw [Hw.partialLoad, onCmd_found hf, ha]
  rfl

end

/-! ### The flash -/

/-- Parameters that are aligned and within the flash pass, where the engine does not hold the flash. -/
theorem flashBad_none {h : Hw} {f : InFlight} {fa la : Nat} (ho : f.par 0 4 % fa = 0) (hn : f.par 4 4 % la = 0)
    (hend : h.is R.CFG_FLASH_SIZE = false ∨ f.par 0 4 + f.par 4 4 ≤ h.get R.CFG_FLASH_SIZE * 2 ^ 20)
    (hb : h.flashBusy = false) : h.flashBad f fa la = none := by
  have hfits : (h.is R.CFG_FLASH_SIZE && decide (h.get R.CFG_FLASH_SIZE * 2 ^ 20 < f.par 0 4 + f.par 4 4)) = false := by
    rcases hend with he | he
    · rw [he, Bool.false_and]
    · rw [decide_eq_false (Nat.not_lt.mpr he), Bool.and_false]
  simp only [Hw.flashBad, ho, hn, hfits, hb]
  rfl

/-- A flash command that passes its checks acts. -/
theorem flashCmd_acts {h : Hw} {m k op fa la : Nat} {f : InFlight} (obs : FlashObs) (act : InFlight → Nat → Nat → Hw)
    (hf : h.cmdFor m k op = some f) (hp : h.pinsFrozen = false) (hb : h.flashBad f fa la = none) :
    h.flashCmd m k op fa la obs act = act f (f.par 0 4) (f.par 4 4) := by
  rw [Hw.flashCmd, onCmd_found hf, hb, hp]
  rfl

section
variable {h : Hw} {m k : Nat} {f : InFlight} {obs : FlashObs} (hc : obs.code = 0) (hp : h.pinsFrozen = false)
include hc hp

theorem flashErase_carried (hf : h.cmdFor m k 0x0014 = some f) (hb : h.flashBad f 0x10000 0x10000 = none) :
    h.flashErase m k obs = (h.flashW (f.par 0 4) (List.replicate (f.par 4 4) 0xFF)).complete m k 0 0 0 := by
  rw [Hw.flashErase, flashCmd_acts obs _ hf hp hb, if_neg (not_not_intro hc)]
  rfl

theorem flashWrite_carried {bs : List Byte} (hf : h.cmdFor m k 0x0013 = some f)
    (hb : h.flashBad f 256 256 = none) (hin : h.hostIn m k (f.par 4 4) = some bs) :
    h.flashWrite m k obs = (h.flashW (f.par 0 4) bs).complete m k 0 0 0 := by
  rw [Hw.flashWrite, flashCmd_acts obs _ hf hp hb, hin]
  exact if_neg (not_not_intro hc)

theorem flashRead_carried (hf : h.cmdFor m k 0x0012 = some f) (hb : h.flashBad f 1 4 = none)
    (hr : h.hostOutReady m k (f.par 4 4) = true) : h.flashRead m k obs =
      (h.hostOut m k (Mem.bytes h.mem.flash (f.par 0 4) (f.par 4 4))).complete m k 0 0 0 := by
  rw [Hw.flashRead, flashCmd_acts obs _ hf hp hb, if_neg (not_not_intro hc), if_pos hr]
  rfl

end

/-- Settles O29, a lemma per command. -/
theorem imageAndFlashCommands : Obligations.ImageAndFlashCommands :=
  ⟨fun s m k _ hd hf ha hs => exec_of_dealer (exec_imageLoad m k s) hd (imageLoad_begins ha hf hs),
    fun s m k _ hd hf ha hw hn => exec_of_dealer (exec_imageLoad m k s) hd (imageLoad_wrongState ha hf hw hn),
    fun s m k _ hd hf ha => exec_of_dealer (exec_partialLoad m k s) hd (partialLoad_begins ha hf),
    fun s m k _ obs hd hf hc hp hn ho hend hb => exec_of_dealer (exec_flashErase m k obs s) hd
      (flashErase_carried hc hp hf (flashBad_none ho hn hend hb)),
    fun s m k _ obs _ hd hf hc hp hn ho hend hb hin => exec_of_dealer (exec_flashWrite m k obs s) hd
      (flashWrite_carried hc hp hf (flashBad_none ho hn hend hb) hin),
    fun s m k _ obs hd hf hc hp hn hend hb hr => exec_of_dealer (exec_flashRead m k obs s) hd
      (flashRead_carried hc hp hf (flashBad_none (Nat.mod_one _) hn hend hb) hr)⟩

end Sys2Proof.Machine
end

section
/-!
SUPPORT. The steps of the configuration engine: what they leave of the state, and what CFG_STAT reads after each
(chapter 5: R207-R247, R271).
-/
namespace Sys2Proof.Machine

open Sys2Proof

/-! ### Registers beside the engine, the fabric and the TAP -/

@[simp] theorem get_onCfg (h : Hw) (f : CfgEng → CfgEng) (x : Fld) : (h.onCfg f).get x = h.get x := rfl

@[simp] theorem get_onFab (h : Hw) (f : FabState → FabState) (x : Fld) : (h.onFab f).get x = h.get x := rfl

@[simp] theorem onCfg_cfg (h : Hw) (f : CfgEng → CfgEng) : (h.onCfg f).cfg = f h.cfg := (rfl)

@[simp] theorem onCfg_fab (h : Hw) (f : CfgEng → CfgEng) : (h.onCfg f).fab = h.fab := (rfl)

@[simp] theorem onCfg_mem (h : Hw) (f : CfgEng → CfgEng) : (h.onCfg f).mem = h.mem := (rfl)

@[simp] theorem onCfg_tiles (h : Hw) (f : CfgEng → CfgEng) : (h.onCfg f).tiles = h.tiles := (rfl)

@[simp] theorem onCfg_tbl (h : Hw) (f : CfgEng → CfgEng) : (h.onCfg f).tbl = h.tbl := (rfl)

@[simp] theorem onFab_cfg (h : Hw) (f : FabState → FabState) : (h.onFab f).cfg = h.cfg := (rfl)

@[simp] theorem onFab_fab (h : Hw) (f : FabState → FabState) : (h.onFab f).fab = f h.fab := (rfl)

@[simp] theorem onFab_mem (h : Hw) (f : FabState → FabState) : (h.onFab f).mem = h.mem := (rfl)

@[simp] theorem onFab_tiles (h : Hw) (f : FabState → FabState) : (h.onFab f).tiles = h.tiles := (rfl)

@[simp] theorem onFab_tbl (h : Hw) (f : FabState → FabState) : (h.onFab f).tbl = h.tbl := (rfl)

@[simp] theorem tapRelease_regs (h : Hw) : h.tapRelease.regs = h.regs := (congrArg Hw.regs (tapRelease_frame h) :)

@[simp] theorem tapRelease_cfg (h : Hw) : h.tapRelease.cfg = h.cfg := (congrArg Hw.cfg (tapRelease_frame h) :)

@[simp] theorem tapRelease_fab (h : Hw) : h.tapRelease.fab = h.fab := (congrArg Hw.fab (tapRelease_frame h) :)

@[simp] theorem tapRelease_mem (h : Hw) : h.tapRelease.mem = h.mem := (congrArg Hw.mem (tapRelease_frame h) :)

@[simp] theorem tapRelease_tbl (h : Hw) : h.tapRelease.tbl = h.tbl := (congrArg Hw.tbl (tapRelease_frame h) :)

@[simp] theorem get_tapRelease (h : Hw) (x : Fld) : h.tapRelease.get x = h.get x := Hw.get_congr (tapRelease_regs h) x

/-- CFG_STAT.STATE has four bits. -/
theorem cstate_setCs (h : Hw) {v : Nat} (hv : v < 16) : (h.setCs v).cstate = v := by
  rw [Hw.setCs, Hw.cstate, Hw.get_put_self h _ _ (by decide) (by decide)]
  exact Nat.mod_eq_of_lt hv

/-- Another field than STATE reads as before the state changes. -/
theorem get_setCs (h : Hw) (v : Nat) {x : Fld}
    (hx : x.addr ≠ R.CFG_STAT_STATE.addr ∨ R.CFG_STAT_STATE.hi < x.lo ∨ x.hi < R.CFG_STAT_STATE.lo) :
    (h.setCs v).get x = h.get x := Hw.get_put_other h _ x v (by decide) (by decide) hx

/-! ### Loads that send no message -/

/-- `h` with what a load changes as it stands in `g`. -/
def Hw.loading (h g : Hw) : Hw := { h with regs := g.regs, cfg := g.cfg, tap := g.tap }

/-- `g` comes from `h` by steps of a load that end no command: the engine, the TAP and registers have changed. -/
structure Hw.Loads (h g : Hw) : Prop where
  frame : g = h.loading g

namespace Hw.Loads

theorem refl (h : Hw) : h.Loads h := ⟨rfl⟩

theorem trans {h g k : Hw} (p : h.Loads g) (q : g.Loads k) : h.Loads k := ⟨q.frame.trans (by rw [p.frame]; rfl)⟩

theorem ite {h g k : Hw} {c : Prop} [Decidable c] (p : h.Loads g) (q : h.Loads k) : h.Loads (if c then g else k) := by
  split
  · exact p
  · exact q

theorem mem {h g : Hw} (p : h.Loads g) : g.mem = h.mem := (congrArg Hw.mem p.frame :)

theorem fab {h g : Hw} (p : h.Loads g) : g.fab = h.fab := (congrArg Hw.fab p.frame :)

theorem of_writes {h g : Hw} (w : h.Writes g) : h.Loads g := ⟨w.frame.trans (by rw [w.frame]; rfl)⟩

theorem onCfg (h : Hw) (f : CfgEng → CfgEng) : h.Loads (h.onCfg f) := ⟨rfl⟩

theorem put (h : Hw) (f : Fld) (v : Nat) : h.Loads (h.put f v) := ⟨rfl⟩

theorem putB (h : Hw) (f : Fld) (b : Bool) : h.Loads (h.putB f b) := ⟨rfl⟩

theorem bump (h : Hw) (f : Fld) : h.Loads (h.bump f) := ⟨rfl⟩

theorem setCs (h : Hw) (v : Nat) : h.Loads (h.setCs v) := put ..

theorem tapRelease (h : Hw) : h.Loads h.tapRelease := by
  rw [tapRelease_frame]
  exact ⟨rfl⟩

theorem attemptStart (h : Hw) (a : Attempt) (fpos : Nat) : h.Loads (h.attemptStart a fpos) :=
  (onCfg h _).trans (ite (setCs ..) ((putB ..).trans (setCs ..)))

theorem cfgBegin (h : Hw) : h.Loads h.cfgBegin := ((onCfg h _).trans (put ..)).trans (putB ..)

theorem failCounted (h : Hw) (a : Attempt) (reason : Nat) : h.Loads (h.failCounted a reason) :=
  ite ((ite (refl h) (put ..)).trans (bump ..)) (ite (bump ..) (refl h))

end Hw.Loads

theorem loadDone_none {h : Hw} (hc : h.cfg.cmd = none) (status detail : Nat) : h.loadDone status detail = h := by
  rw [Hw.loadDone, hc]

/-- The engine without its attempt; what is left of a pin stream is discarded. -/
def CfgEng.stopped (e : CfgEng) : CfgEng := { e with attempt := .none, spent := e.spent || e.attempt == .pins }

theorem cfgFailed_alone {h : Hw} (hc : h.cfg.cmd = none) :
    h.cfgFailed = (((h.onCfg CfgEng.stopped).setCs csFAILED).putB R.CFG_STAT_ERR true).tapRelease := by
  have hcmd : (((h.onCfg CfgEng.stopped).setCs csFAILED).putB R.CFG_STAT_ERR true).tapRelease.cfg.cmd = none := by
    rw [tapRelease_cfg, Hw.putB_cfg, Hw.setCs, Hw.put_cfg]
    exact hc
  exact loadDone_none hcmd ..

/-- The engine stops in FAILED with ERR set; the reason stands. -/
theorem cfgFailed_verdict {h : Hw} (hc : h.cfg.cmd = none) : let g := h.cfgFailed
    h.Loads g ∧ g.cstate = csFAILED ∧ g.get R.CFG_STAT_LAST_REASON = h.get R.CFG_STAT_LAST_REASON ∧
    g.get R.CFG_STAT_ERR = 1 := by
  rw [cfgFailed_alone hc]
  refine ⟨(((Hw.Loads.onCfg h _).trans (.setCs ..)).trans (.putB ..)).trans (.tapRelease _), ?_, ?_, ?_⟩
  · rw [Hw.cstate, get_tapRelease, Hw.get_putB_other _ _ _ _ (by decide) (by decide) (by decide), ← Hw.cstate,
      cstate_setCs _ (by decide)]
  · simp (disch := decide) only [get_tapRelease, Hw.get_putB_other, get_setCs, get_onCfg]
  · rw [get_tapRelease, Hw.get_putB_self _ _ _ (by decide) (by decide), if_pos rfl]

/-- An attempt begins: the state that shows it, and an empty header. -/
theorem attemptStart_base (h : Hw) {a : Attempt} (ha : a.partial' = false) (fpos : Nat) : h.attemptStart a fpos =
    ((h.onCfg (fun e => e.begin a fpos)).putB R.CFG_STAT_ERR false).setCs csHEADER := by
  rw [Hw.attemptStart, ha]
  rfl

theorem attemptStart_partial (h : Hw) {a : Attempt} (ha : a.partial' = true) (fpos : Nat) :
    h.attemptStart a fpos = (h.onCfg (fun e => e.begin a fpos)).setCs csPARTIAL := by
  rw [Hw.attemptStart, ha]
  rfl

theorem attemptStart_verdict (h : Hw) (a : Attempt) (fpos : Nat) : let g := h.attemptStart a fpos
    h.Loads g ∧ g.cfg = h.cfg.begin a fpos ∧ g.cstate = if a.partial' then csPARTIAL else csHEADER := by
  refine ⟨.attemptStart .., ?_⟩
  cases ha : a.partial'
  · rw [attemptStart_base h ha]
    exact ⟨rfl, cstate_setCs _ (by decide)⟩
  · rw [attemptStart_partial h ha]
    exact ⟨rfl, cstate_setCs _ (by decide)⟩

/-! ### The start of the engine (R207, R236-R239) -/

/-- A boot begins: no start waits, and its record of attempts is empty. -/
theorem source_cfgBegin (h : Hw) : h.cfgBegin.get R.CFG_STAT_SOURCE = h.get R.CFG_STAT_SOURCE := by
  rw [Hw.cfgBegin, Hw.get_putB_other _ _ _ _ (by decide) (by decide) (by decide),
    Hw.get_put_other _ _ _ _ (by decide) (by decide) (by decide), get_onCfg]

/-- The registers of a flash found: what SFDP declares, the boot table, the address of the primary image. -/
def Hw.flashShown (h : Hw) (size : Nat) (octal ok : Bool) (pri rate : Nat) : Hw :=
  ((((h.put R.CFG_FLASH_SIZE size).putB R.CFG_FLASH_OCTAL octal).putB R.CFG_FLASH_TBL_OK ok).put
    R.CFG_PRI_ADDR_ADDR pri).put R.CFG_FLASH_RATE rate

section
variable {h : Hw} (hu : h.sysUp = true) (hp : h.cfg.startPend = true)
include hu hp

theorem cfgStart_waits (hs : h.get R.CFG_STAT_SOURCE = 1 ∨ h.get R.CFG_STAT_SOURCE = 2) (probe : Option (Nat × Bool)) :
    h.cfgStart probe = h.cfgBegin.setCs csWAIT := by
  rw [Hw.cfgStart, hp, busDown_of_sysUp hu, if_neg (by decide)]
  dsimp only
  rw [source_cfgBegin]
  rcases hs with hs | hs
  · rw [hs]
    rfl
  · rw [hs]
    rfl

/-- BOOT_SRC 11, or a flash that gives no signature, stops the engine with its reason. -/
theorem cfgStart_fails {probe : Option (Nat × Bool)}
    (hs : h.get R.CFG_STAT_SOURCE = 3 ∨ (h.get R.CFG_STAT_SOURCE = 0 ∧ probe = none)) : h.cfgStart probe =
      (h.cfgBegin.put R.CFG_STAT_LAST_REASON (if h.get R.CFG_STAT_SOURCE = 3 then 0x18 else 0x15)).cfgFailed := by
  rw [Hw.cfgStart, hp, busDown_of_sysUp hu, if_neg (by decide)]
  dsimp only
  rw [source_cfgBegin]
  rcases hs with hs | ⟨hs, hn⟩
  · rw [hs]
    rfl
  · rw [hs, hn]
    rfl

/-- An attempt of the flash found begins, once its registers show it. -/
theorem cfgStart_flash (hs : h.get R.CFG_STAT_SOURCE = 0) (size : Nat) (octal : Bool) :
    ∃ ok pri rate fpos, h.cfgStart (some (size, octal)) =
        (h.cfgBegin.flashShown size octal ok pri rate).attemptStart .stock fpos ∨
      h.cfgStart (some (size, octal)) =
        (h.cfgBegin.flashShown size octal ok pri rate).attemptStart .primary1 fpos := by
  rw [Hw.cfgStart, hp, busDown_of_sysUp hu, if_neg (by decide)]
  dsimp only
  simp only [source_cfgBegin, hs]
  unfold Hw.flashShown
  generalize h.cfgBegin = g
  split
  · exact ⟨_, _, _, _, .inl rfl⟩
  · exact ⟨_, _, _, _, .inr rfl⟩

end

theorem size_flashShown (h : Hw) (size : Nat) (octal ok : Bool) (pri rate : Nat) :
    (h.flashShown size octal ok pri rate).get R.CFG_FLASH_SIZE = size % 2 ^ 16 := by
  rw [Hw.flashShown]
  simp (disch := decide) only [Hw.get_put_other, Hw.get_putB_other, Hw.get_put_self]
  rfl

theorem flashShown_loads (h : Hw) (size : Nat) (octal ok : Bool) (pri rate : Nat) :
    h.Loads (h.flashShown size octal ok pri rate) :=
  ((((Hw.Loads.put h _ _).trans (.putB ..)).trans (.putB ..)).trans (.put ..)).trans (.put ..)

theorem cfg_flashShown (h : Hw) (size : Nat) (octal ok : Bool) (pri rate : Nat) :
    (h.flashShown size octal ok pri rate).cfg = h.cfg := by
  simp only [Hw.flashShown, Hw.put_cfg, Hw.putB_cfg]

theorem startPend_cfgBegin (h : Hw) : h.cfgBegin.cfg.startPend = false := by
  rw [Hw.cfgBegin, Hw.putB_cfg, Hw.put_cfg]
  rfl

theorem cmd_cfgBegin (h : Hw) : h.cfgBegin.cfg.cmd = h.cfg.cmd := by
  rw [Hw.cfgBegin, Hw.putB_cfg, Hw.put_cfg]
  rfl

/-- An attempt that begins leaves the fields of another register. -/
theorem get_attemptStart (h : Hw) (a : Attempt) (fpos : Nat) {x : Fld} (hx : x.addr ≠ R.CFG_STAT) :
    (h.attemptStart a fpos).get x = h.get x := by
  cases ha : a.partial'
  · rw [attemptStart_base h ha, get_setCs _ _ (.inl hx), Hw.get_putB_other _ _ _ _ (by decide) (by decide) (.inl hx),
      get_onCfg]
  · rw [attemptStart_partial h ha, get_setCs _ _ (.inl hx), get_onCfg]

/-- The attempt that a flash found begins with. -/
theorem flashAttempt_verdict (h : Hw) (size : Nat) (octal ok : Bool) (pri rate : Nat) {a : Attempt}
    (ha : a.partial' = false) (fpos : Nat) : let g := (h.cfgBegin.flashShown size octal ok pri rate).attemptStart a fpos
    g.cstate = csHEADER ∧ g.cfg.hdr = [] ∧ g.cfg.startPend = false ∧ g.get R.CFG_FLASH_SIZE = size % 2 ^ 16 ∧
    g.mem = h.mem ∧ g.fab = h.fab := by
  have hl := ((Hw.Loads.cfgBegin h).trans (flashShown_loads _ size octal ok pri rate)).trans (.attemptStart _ a fpos)
  obtain ⟨-, hcfg, hstate⟩ := attemptStart_verdict (h.cfgBegin.flashShown size octal ok pri rate) a fpos
  rw [ha, if_neg Bool.false_ne_true] at hstate
  dsimp only
  rw [get_attemptStart _ _ _ (by decide), size_flashShown, hcfg, cfg_flashShown]
  exact ⟨hstate, rfl, startPend_cfgBegin h, rfl, hl.mem, hl.fab⟩

section
variable {h : Hw} (hu : h.sysUp = true) (hp : h.cfg.startPend = true)
include hu hp

theorem cfgStart_waits_verdict (hs : h.get R.CFG_STAT_SOURCE = 1 ∨ h.get R.CFG_STAT_SOURCE = 2)
    (probe : Option (Nat × Bool)) : let g := h.cfgStart probe
    g.cstate = csWAIT ∧ g.cfg.startPend = false ∧ g.mem = h.mem ∧ g.fab = h.fab := by
  have hl : h.Loads (h.cfgBegin.setCs csWAIT) := (Hw.Loads.cfgBegin h).trans (.setCs ..)
  rw [cfgStart_waits hu hp hs]
  exact ⟨cstate_setCs _ (by decide), startPend_cfgBegin h, hl.mem, hl.fab⟩

theorem cfgStart_flash_verdict (hs : h.get R.CFG_STAT_SOURCE = 0) (size : Nat) (octal : Bool) :
    let g := h.cfgStart (some (size, octal))
    g.cstate = csHEADER ∧ g.cfg.hdr = [] ∧ g.cfg.startPend = false ∧ g.get R.CFG_FLASH_SIZE = size % 2 ^ 16 ∧
    g.mem = h.mem ∧ g.fab = h.fab := by
  obtain ⟨ok, pri, rate, fpos, he | he⟩ := cfgStart_flash hu hp hs size octal
  · rw [he]
    exact flashAttempt_verdict h size octal ok pri rate rfl fpos
  · rw [he]
    exact flashAttempt_verdict h size octal ok pri rate rfl fpos

theorem cfgStart_fails_verdict (hc : h.cfg.cmd = none) {probe : Option (Nat × Bool)}
    (hs : h.get R.CFG_STAT_SOURCE = 3 ∨ (h.get R.CFG_STAT_SOURCE = 0 ∧ probe = none)) : let g := h.cfgStart probe
    g.cstate = csFAILED ∧ g.get R.CFG_STAT_LAST_REASON = (if h.get R.CFG_STAT_SOURCE = 3 then 0x18 else 0x15) ∧
    g.get R.CFG_STAT_ERR = 1 ∧ g.mem = h.mem ∧ g.fab = h.fab := by
  obtain ⟨hl, hstate, hreason, herr⟩ := cfgFailed_verdict (h := h.cfgBegin.put R.CFG_STAT_LAST_REASON
    (if h.get R.CFG_STAT_SOURCE = 3 then 0x18 else 0x15))
    ((congrArg CfgEng.cmd (Hw.put_cfg ..)).trans ((cmd_cfgBegin h).trans hc))
  have hl' := ((Hw.Loads.cfgBegin h).trans (.put ..)).trans hl
  rw [Hw.get_put_self _ _ _ (by decide) (by decide)] at hreason
  rw [cfgStart_fails hu hp hs]
  refine ⟨hstate, hreason.trans ?_, herr, hl'.mem, hl'.fab⟩
  split <;> rfl

end

/-! ### Stream words (R208, R222, R244, R256) -/

/-- The words of a header that the fourth byte of `bs` does not complete. -/
theorem cfgWord_header {h : Hw} (fz : SMap Word) (bs : List Byte) (hl : h.cfg.hdr.length < 508) :
    h.cfgWord' fz bs = h.onCfg (fun e => { e with hdr := e.hdr ++ bs }) := by
  rw [Hw.cfgWord', if_pos (show h.cfg.hdr.length < 512 by omega)]
  exact if_neg (show ¬ h.cfg.hdr.length + 4 = 512 by omega)

theorem cfgWord_body {h : Hw} (fz : SMap Word) (bs : List Byte) (hl : 512 ≤ h.cfg.hdr.length)
    (hp : h.cfg.pos < h.cfg.bodyLen) (he : h.cfg.encrypted = false) : h.cfgWord' fz bs =
      h.onCfg (fun e => { e with pos := e.pos + 4, buf := e.buf ++ bs, plain := e.plain ++ bs }) := by
  rw [Hw.cfgWord', if_neg (show ¬ h.cfg.hdr.length < 512 by omega), if_neg (Nat.not_le.mpr hp), Hw.onCfg, Hw.onCfg]
  simp only [he, if_neg Bool.false_ne_true]

theorem streaming_header {h : Hw} (hs : h.cstate = csHEADER) : h.streaming = true := by
  rw [Hw.streaming, hs]
  rfl

theorem streaming_body {h : Hw} (hs : h.cstate = csBODY) : h.streaming = true := by
  rw [Hw.streaming, hs]
  rfl

/-- The first word of a stream begins an attempt and its header. -/
theorem streamWord_first {h : Hw} (fz : SMap Word) (a : Attempt) (w : Word) (hs : h.streaming = false) :
    let g := h.streamWord fz a true (leBytes 4 w.toNat)
    g.cfg.hdr = leBytes 4 w.toNat ∧ g.cfg.attempt = a ∧ g.cstate = (if a.partial' then csPARTIAL else csHEADER) ∧
    g.mem = h.mem ∧ g.fab = h.fab := by
  have hbegin : h.Loads (if h.cfg.startPend then h.cfgBegin else h) := .ite (.cfgBegin h) (.refl h)
  obtain ⟨hl, hcfg, hstate⟩ := attemptStart_verdict (if h.cfg.startPend then h.cfgBegin else h) a 0
  have hempty : ((if h.cfg.startPend then h.cfgBegin else h).attemptStart a 0).cfg.hdr.length < 508 := by
    rw [hcfg]
    exact (by decide : ([] : List Byte).length < 508)
  have hl' := (hbegin.trans hl).trans (.onCfg _ (fun e => { e with hdr := e.hdr ++ leBytes 4 w.toNat }))
  rw [Hw.streamWord, hs, Bool.false_and, if_neg Bool.false_ne_true, if_pos rfl, cfgWord_header _ _ hempty]
  refine ⟨?_, ?_, hstate, hl'.mem, hl'.fab⟩
  · rw [Hw.onCfg, hcfg]
    rfl
  · rw [Hw.onCfg, hcfg]
    rfl

theorem streamWord_running {h : Hw} (fz : SMap Word) {a : Attempt} (start : Bool) (bs : List Byte)
    (hs : h.streaming = true) (ha : h.cfg.attempt = a) : h.streamWord fz a start bs = h.cfgWord' fz bs := by
  rw [Hw.streamWord, hs, ha, beq_self_eq_true]
  rfl

section
variable {h : Hw} (hi : h.tapInternal = false)
include hi

theorem cfgIn_pins (hir : h.tap.ir = irCFG_IN) (fz : SMap Word) (w : Word) : h.cfgIn fz (.pins w) =
    h.streamWord fz .pins ((h.cstate == csWAIT || h.cstate == csFAILED) && !h.cfg.spent) (leBytes 4 w.toNat) := by
  have hacts : ¬ (h.tap.ir ≠ irCFG_IN ∨ h.tapInternal = true) := by
    rw [hi, hir]
    decide
  exact if_neg hacts

theorem cfgIn_first (hir : h.tap.ir = irCFG_IN) (hs : h.cstate = csWAIT) (hsp : h.cfg.spent = false) (fz : SMap Word)
    (w : Word) : h.cfgIn fz (.pins w) = h.streamWord fz .pins true (leBytes 4 w.toNat) := by
  rw [cfgIn_pins hi hir, hs, hsp]
  rfl

theorem cfgIn_body (hir : h.tap.ir = irCFG_IN) (hs : h.cstate = csBODY) (ha : h.cfg.attempt = .pins) (fz : SMap Word)
    (w : Word) : h.cfgIn fz (.pins w) = h.cfgWord' fz (leBytes 4 w.toNat) := by
  rw [cfgIn_pins hi hir, streamWord_running fz _ _ (streaming_body hs) ha]

theorem cfgPartial_first (hir : h.tap.ir = irCFG_PARTIAL) (hs : h.cstate = csRELEASED) (hsp : h.cfg.spent = false)
    (fz : SMap Word) (w : Word) :
    h.cfgPartial fz (.pins w) = h.streamWord fz .partPins true (leBytes 4 w.toNat) := by
  have hacts : ¬ (h.tap.ir ≠ irCFG_PARTIAL ∨ h.tapInternal = true ∨ h.cfg.spent = true) := by
    rw [hi, hir, hsp]
    decide
  rw [Hw.cfgPartial, hs]
  dsimp only
  rw [if_neg hacts, beq_self_eq_true, Bool.or_true, if_pos rfl]

end

/-- A word of the flash moves through the TAP's master to the header (R172, R208). -/
theorem cfgIn_flash {h : Hw} (ha : h.cfg.attempt.flash = true) (hi : h.tapInternal = true) (hf : h.pinsFrozen = false)
    (hs : h.cstate = csHEADER) (hl : h.cfg.hdr.length < 508) (fz : SMap Word) : h.cfgIn fz .flash = { h with
      tap := { h.tap with ir := irCFG_IN },
      cfg := { h.cfg with
        fpos := h.cfg.fpos + 4, hdr := h.cfg.hdr ++ Mem.bytes h.mem.flash h.cfg.fpos 4 } } := by
  rw [Hw.cfgIn]
  dsimp only
  rw [ha, hi, hf, streaming_header hs]
  exact cfgWord_header (h := (h.onCfg _).tapDrive irCFG_IN) _ _ hl

/-! ### The end of an attempt (R223, R225, R240, R247) -/

theorem failCounted_pins (h : Hw) (reason : Nat) : h.failCounted .pins reason = h := rfl

/-- A failed attempt whose counters stand leaves its reason and its attempt. -/
theorem failCounted_verdict (h : Hw) (a : Attempt) (reason : Nat) : let g := h.failCounted a reason
    h.Loads g ∧ g.get R.CFG_STAT_LAST_REASON = h.get R.CFG_STAT_LAST_REASON := by
  refine ⟨.failCounted .., ?_⟩
  unfold Hw.failCounted Hw.bump Hw.bumpBy
  split
  · rw [Hw.get_put_other _ _ _ _ (by decide) (by decide) (by decide)]
    split
    · rfl
    · rw [Hw.get_put_other _ _ _ _ (by decide) (by decide) (by decide)]
  · split
    · rw [Hw.get_put_other _ _ _ _ (by decide) (by decide) (by decide)]
    · rfl

theorem flashTimeout_verdict {h : Hw} (ha : h.cfg.attempt.flash = true) (hs : h.streaming = true) :
    let g := h.flashTimeout
    g.cstate = csCLEAR ∧ g.get R.CFG_STAT_LAST_REASON = 0x15 ∧ g.mem = h.mem ∧ g.fab = h.fab := by
  obtain ⟨hl, hreason⟩ := failCounted_verdict (h.put R.CFG_STAT_LAST_REASON 0x15) h.cfg.attempt 0x15
  have hclear : h.flashTimeout =
      ((h.put R.CFG_STAT_LAST_REASON 0x15).failCounted h.cfg.attempt 0x15).setCs csCLEAR := by
    rw [Hw.flashTimeout, ha, hs, Bool.and_self, if_pos rfl, attemptFail_eq, Hw.failGoesOn, ha, Bool.or_true,
      Bool.true_or, if_pos rfl]
  have hl' := ((Hw.Loads.put h R.CFG_STAT_LAST_REASON 0x15).trans hl).trans (.setCs _ csCLEAR)
  rw [hclear]
  refine ⟨cstate_setCs _ (by decide), ?_, hl'.mem, hl'.fab⟩
  rw [get_setCs _ _ (by decide), hreason, Hw.get_put_self _ _ _ (by decide) (by decide)]
  rfl

/-- A stream of the pins that has written no frame stops the engine when it fails. -/
theorem attemptFail_pins {h : Hw} (ha : h.cfg.attempt = .pins) (hw : h.cfg.wrote = false) (reason : Nat) :
    h.attemptFail reason = (h.put R.CFG_STAT_LAST_REASON reason).cfgFailed := by
  have hcfg : (h.put R.CFG_STAT_LAST_REASON reason).cfg = h.cfg := Hw.put_cfg ..
  rw [attemptFail_eq, ha, failCounted_pins, Hw.failGoesOn, hcfg, hw, Hw.attemptNext, hcfg, ha]
  rfl

theorem streamEnd_pins {h : Hw} (hs : h.cstate = csHEADER) (ha : h.cfg.attempt = .pins)
    (hl : h.cfg.hdr.length < 512) :
    h.streamEnd = (h.streamFreed.attemptFail 0x12).onCfg (fun e => { e with spent := false }) := by
  have hshort : decide (h.streamFreed.cfg.hdr.length < 512 ∨ h.streamFreed.cfg.pos < h.streamFreed.cfg.bodyLen) =
      true := decide_eq_true (.inl hl)
  have hfreed : h.streamFreed.streaming = true := streaming_header hs
  unfold Hw.streamEnd
  rw [streamFreed_eq]
  dsimp only
  rw [hfreed, hshort, if_neg (by decide)]
  exact if_pos (.inl ha)

theorem streamEnd_verdict {h : Hw} (hs : h.cstate = csHEADER) (ha : h.cfg.attempt = .pins)
    (hl : h.cfg.hdr.length < 512) (hw : h.cfg.wrote = false) (hc : h.cfg.cmd = none) : let g := h.streamEnd
    g.cstate = csFAILED ∧ g.get R.CFG_STAT_LAST_REASON = 0x12 ∧ g.get R.CFG_STAT_ERR = 1 ∧ g.mem = h.mem ∧
    g.fab = h.fab := by
  obtain ⟨hload, hstate, hreason, herr⟩ :=
    cfgFailed_verdict (h := h.streamFreed.put R.CFG_STAT_LAST_REASON 0x12)
      ((congrArg CfgEng.cmd (Hw.put_cfg ..)).trans hc)
  have hl' := ((Hw.Loads.onCfg h _).trans (.put ..)).trans hload
  rw [Hw.get_put_self _ _ _ (by decide) (by decide)] at hreason
  rw [streamEnd_pins hs ha hl, attemptFail_pins (h := h.streamFreed) ha hw]
  exact ⟨hstate, hreason, herr, hl'.mem, hl'.fab⟩

/-- Settles O21, a lemma per clause. -/
theorem configStreams : Obligations.ConfigStreams := by
  refine ⟨fun s probe hu hp hs =>
      ⟨_, exec_of_sys (exec_configStart probe s) hu rfl, cfgStart_waits_verdict hu hp hs probe⟩,
    fun s size octal hu hp hs =>
      ⟨_, exec_of_sys (exec_configStart _ s) hu rfl, cfgStart_flash_verdict hu hp hs size octal⟩,
    fun s probe hu hp hc hs => ⟨_, exec_of_sys (exec_configStart probe s) hu rfl, cfgStart_fails_verdict hu hp hc hs⟩,
    fun s w hu hir hi hs hsp => ⟨_, exec_of_sys (exec_cfgIn (.pins w) s) hu (cfgIn_first hi hir hs hsp s.fuse w),
      streamWord_first s.fuse .pins w ?_⟩,
    fun s w hu hir hi hs ha hl hp he => exec_of_sys (exec_cfgIn (.pins w) s) hu
      ((cfgIn_body hi hir hs ha s.fuse w).trans (cfgWord_body s.fuse _ hl hp he)),
    fun s hu ha hi hf hs hl => exec_of_sys (exec_cfgIn .flash s) hu (cfgIn_flash ha hi hf hs hl s.fuse),
    fun s w hu hir hi hs hsp =>
      ⟨_, exec_of_sys (exec_cfgPartial (.pins w) s) hu (cfgPartial_first hi hir hs hsp s.fuse w),
        streamWord_first s.fuse .partPins w ?_⟩,
    fun s hu hs ha hl hw hc => ⟨_, exec_of_sys (exec_cfgStreamEnd s) hu rfl, streamEnd_verdict hs ha hl hw hc⟩,
    fun s hu ha hs => ⟨_, exec_of_sys (exec_flashReadTimeout s) hu rfl, flashTimeout_verdict ha hs⟩⟩
  · rw [Hw.streaming, hs]
    rfl
  · rw [Hw.streaming, hs]
    rfl

end Sys2Proof.Machine
end

section
/-!
SUPPORT. The records of a configuration body, the image that they load, and the clear pass (R215-R226, R239, R268).
-/
namespace Sys2Proof.Machine

open Sys2Proof

/-! ### Frame records (R215, R216, R223, R224) -/

/-- The frame that the record at the head of the body names. -/
def CfgEng.frameOf (e : CfgEng) : Nat := bits (leAt e.buf 0 4) 16 0

/-- The data of a DATA record at the head of the body. -/
def CfgEng.dataOf (e : CfgEng) : BitVec 2048 := BitVec.ofNat 2048 (ofLe ((e.buf.drop 4).take 256))

/-- The engine after a frame record of `n` bytes with content `v`. -/
def CfgEng.recorded (e : CfgEng) (n : Nat) (v : BitVec 2048) : CfgEng :=
  { e with buf := e.buf.drop n, lastData := v, idx := e.idx + 1, wrote := true }

theorem frameRecord_data {h : Hw} (hl : 264 ≤ h.cfg.buf.length) (hp : h.cfg.past 264 = false)
    (hr : h.cfg.recReason 264 false = 0) : h.frameRecord true =
      (h.onFab (fun s => s.writeFrame h.cfg.frameOf h.cfg.dataOf)).onCfg (fun e => e.recorded 264 h.cfg.dataOf) := by
  have hw : h.cfg.whole 264 = true := decide_eq_true hl
  rw [Hw.frameRecord]
  simp only [if_true, hp, hw, hr]
  rfl

theorem frameRecord_repeat {h : Hw} (hl : 8 ≤ h.cfg.buf.length) (hp : h.cfg.past 8 = false)
    (hr : h.cfg.recReason 8 false = 0) : h.frameRecord false =
      (h.onFab (fun s => s.writeFrame h.cfg.frameOf h.cfg.lastData)).onCfg (fun e => e.recorded 8 h.cfg.lastData) := by
  have hw : h.cfg.whole 8 = true := decide_eq_true hl
  rw [Hw.frameRecord]
  simp only [Bool.false_eq_true, if_false, hp, hw, hr]
  rfl

section
variable {h : Hw} (hb : h.inBody = true)
include hb

theorem dataRecord_judged (hk : h.cfg.kind = 0) (hl : 4 ≤ h.cfg.buf.length) : h.dataRecord = h.frameRecord true := by
  rw [Hw.dataRecord, hb, hk, decide_eq_true hl]
  rfl

theorem repeatRecord_judged (hk : h.cfg.kind = 1) (hl : 4 ≤ h.cfg.buf.length) :
    h.repeatRecord = h.frameRecord false := by
  rw [Hw.repeatRecord, hb, hk, decide_eq_true hl]
  rfl

/-! ### The END record (R223, R226) -/

/-- A body whose END record passes, unencrypted and of the digest that its header gives, is LOADED. -/
theorem endRecord_loads (hk : h.cfg.kind = 3) (hl : 8 ≤ h.cfg.buf.length) (hp : h.cfg.past 8 = false)
    (hr : h.cfg.recReason 8 true = 0) (he : h.cfg.encrypted = false) (hd : sha384 h.cfg.plain = h.cfg.hb 0x40 48)
    (ha : h.cfg.attempt.partial' = false) : h.endRecord = h.loaded := by
  have hw : h.cfg.whole 8 = true := decide_eq_true hl
  have hshort : decide (h.cfg.buf.length < 4) = false := decide_eq_false (by omega)
  rw [Hw.endRecord]
  simp only [hb, hk, hshort, hp, hw, hr, he, hd, ha, bne_self_eq_false]
  rfl

end

/-- The registers that show a loaded image. -/
def Hw.imageShown (h : Hw) : Hw :=
  let g := (h.putB R.CFG_STAT_LOADED true).put R.CFG_STAT_IMAGE h.cfg.type
  ((List.range 12).foldl (fun (g : Hw) i => g.wr (R.CFG_DIGEST i) (h.cfg.hf (0x40 + 4 * i) 4)) g).put
    R.CFG_REL_GAP_GAP (if h.cfg.hf 0x1C 1 = 0 then 16 else h.cfg.hf 0x1C 1)

/-- The engine `x` once it holds the image of `e`, its attempt over. -/
def CfgEng.holding (e x : CfgEng) : CfgEng :=
  { x with attempt := .none, baseMask := e.hf 0x14 2, spent := x.spent || e.attempt == .pins }

/-- The image is held: the engine, and the fabric that it will start. -/
def Hw.imageHeld (h : Hw) : Hw :=
  (((h.imageShown.onCfg h.cfg.holding).onFab (fun s => { s with ffInit := true })).setCs csHELD).tapRelease

theorem loaded_eq (h : Hw) : h.loaded = (h.imageHeld.loadDone stOK 0).soloAgree := rfl

theorem imageShown_writes (h : Hw) : h.Writes h.imageShown :=
  (((Hw.Writes.putB h _ _).trans (.put ..)).trans
    (foldl_steps .refl .trans _ (fun g _ _ => Hw.Writes.wr g ..) _)).trans (.put ..)

/-- The digest's registers are others than CFG_STAT. -/
theorem get_imageShown (h : Hw) {x : Fld} (hx : x.addr = R.CFG_STAT) :
    h.imageShown.get x = ((h.putB R.CFG_STAT_LOADED true).put R.CFG_STAT_IMAGE h.cfg.type).get x := by
  have hdigest : ∀ (i : Nat), R.CFG_STAT ≠ R.CFG_DIGEST i := fun i => by
    simp only [R.CFG_STAT, R.CFG_DIGEST]
    omega
  rw [Hw.imageShown, Hw.get_put_other _ _ _ _ (by decide) (by decide) (.inl (hx ▸ by decide))]
  exact get_of_rd (foldl_keeps (fun g : Hw => g.rd x.addr) _ (fun g i _ => Hw.rd_wr_ne g _ (hx ▸ hdigest i)) _)

theorem soloAgree_many {h : Hw} (hs : h.tbl.solo = false) : h.soloAgree = h := by
  rw [Hw.soloAgree, hs]
  rfl

/-- Without a command to end and a table of one seat, a LOADED image is held and shown. -/
theorem loaded_alone {h : Hw} (hc : h.cfg.cmd = none) (hs : h.tbl.solo = false) : h.loaded = h.imageHeld := by
  have hcmd : h.imageHeld.cfg.cmd = none := by
    simp only [Hw.imageHeld, Hw.setCs, tapRelease_cfg, Hw.put_cfg, onFab_cfg, onCfg_cfg]
    exact (congrArg CfgEng.cmd (imageShown_writes h).cfg).trans hc
  have hsolo : h.imageHeld.tbl.solo = false := by
    simp only [Hw.imageHeld, Hw.setCs, tapRelease_tbl, Hw.put_tbl, onFab_tbl, onCfg_tbl]
    exact (congrArg (fun g : Hw => g.tbl.solo) (imageShown_writes h).frame).trans hs
  rw [loaded_eq, loadDone_none hcmd, soloAgree_many hsolo]

theorem imageHeld_verdict (h : Hw) : let g := h.imageHeld
    g.get R.CFG_STAT_LOADED = 1 ∧ g.get R.CFG_STAT_IMAGE = h.cfg.type % 4 ∧ g.cstate = csHELD ∧
    g.cfg.attempt = .none ∧ g.fab.frames = h.fab.frames ∧ g.mem = h.mem := by
  have hw := imageShown_writes h
  unfold Hw.imageHeld
  refine ⟨?_, ?_, ?_, ?_, ?_, ?_⟩
  · rw [get_tapRelease, get_setCs _ _ (by decide), get_onFab, get_onCfg, get_imageShown h rfl,
      Hw.get_put_other _ _ _ _ (by decide) (by decide) (by decide), Hw.get_putB_self _ _ _ (by decide) (by decide),
      if_pos rfl]
  · rw [get_tapRelease, get_setCs _ _ (by decide), get_onFab, get_onCfg, get_imageShown h rfl,
      Hw.get_put_self _ _ _ (by decide) (by decide)]
    rfl
  · rw [Hw.cstate, get_tapRelease]
    exact cstate_setCs _ (by decide)
  · rw [tapRelease_cfg, Hw.setCs, Hw.put_cfg, onFab_cfg, onCfg_cfg]
    rfl
  · rw [tapRelease_fab, Hw.setCs, Hw.put_fab, onFab_fab, onCfg_fab]
    exact (congrArg (fun g : Hw => g.fab.frames) hw.frame :)
  · rw [tapRelease_mem, Hw.setCs, Hw.put_mem, onFab_mem, onCfg_mem]
    exact hw.mem

/-! ### The clear pass of a restart (R225, R268) -/

theorem clearDone_restart {h : Hw} (hs : h.cstate = csCLEAR) (hr : h.cfg.restart = true) : h.clearDone =
    ((h.onFab (fun s => { s with frames := [], crcs := [], pool := [] })).onCfg
      (fun e => { (e.begin .none 0) with restart := false, startPend := true })).setCs csWAIT := by
  rw [Hw.clearDone, hs, hr]
  rfl

/-- Settles O22, by the two lengths of a frame record, by the image held and by the clear pass. -/
theorem configRecords : Obligations.ConfigRecords := by
  refine ⟨fun s hu hb hk hl hp hr => ⟨_, exec_of_sys (exec_dataRecord s) hu
      ((dataRecord_judged hb hk (by omega)).trans (frameRecord_data hl hp hr)), rfl, rfl, rfl, rfl, rfl⟩,
    fun s hu hb hk hl hp hr => ⟨_, exec_of_sys (exec_repeatRecord s) hu
      ((repeatRecord_judged hb hk (by omega)).trans (frameRecord_repeat hl hp hr)), rfl, rfl, rfl, rfl, rfl⟩,
    fun s hu hb hk hl hp hr he hd ha hc hs => ⟨_, exec_of_sys (exec_endRecord s) hu
      ((endRecord_loads hb hk hl hp hr he hd ha).trans (loaded_alone hc hs)), imageHeld_verdict s.hw⟩,
    fun s hu hs hr => ⟨_, exec_of_sys (exec_clearPassDone s) hu (clearDone_restart hs hr),
      cstate_setCs _ (by decide), ?_, ?_, ?_, ?_⟩⟩
  · rw [Hw.setCs, Hw.put_cfg, onCfg_cfg]
  · rw [Hw.setCs, Hw.put_fab, onCfg_fab, onFab_fab]
  · rw [Hw.setCs, Hw.put_fab, onCfg_fab, onFab_fab]
  · rw [Hw.setCs, Hw.put_mem, onCfg_mem, onFab_mem]

end Sys2Proof.Machine
end

section
/-!
SUPPORT. DONE, the staged release, the restart of the configuration and the fold of a partial load
(R250-R268, R1105, R1243).
-/
namespace Sys2Proof.Machine

open Sys2Proof

/-! ### Fabric ports open and close (R251, R252, R260, R728) -/

/-- `h` with what opening and closing ports changes as it stands in `g`. -/
def Hw.ported (h g : Hw) : Hw := { h with regs := g.regs, noc := g.noc }

/-- `g` comes from `h` by opening or closing fabric ports: the network and its registers have changed. -/
structure Hw.Ports (h g : Hw) : Prop where
  frame : g = h.ported g
  rd : ∀ a, a < 0x40030000 ∨ 0x40040000 ≤ a → g.rd a = h.rd a

namespace Hw.Ports

theorem refl (h : Hw) : h.Ports h := ⟨rfl, fun _ _ => rfl⟩

theorem trans {h g k : Hw} (p : h.Ports g) (q : g.Ports k) : h.Ports k :=
  ⟨q.frame.trans (by rw [p.frame]; rfl), fun a ha => (q.rd a ha).trans (p.rd a ha)⟩

section
variable {h g : Hw} (p : h.Ports g)
include p

theorem cfg : g.cfg = h.cfg := (congrArg Hw.cfg p.frame :)
theorem fab : g.fab = h.fab := (congrArg Hw.fab p.frame :)
theorem mem : g.mem = h.mem := (congrArg Hw.mem p.frame :)
theorem tiles : g.tiles = h.tiles := (congrArg Hw.tiles p.frame :)
theorem pwr' : g.pwr' = h.pwr' := (congrArg Hw.pwr' p.frame :)

end

theorem fenceSet (h : Hw) (n : Nat) (c : Cause) (b : Bool) : h.Ports (h.fenceSet n c b) := ⟨rfl, fun _ _ => rfl⟩

theorem setFsm (h : Hw) (k : Nat) (f : FoldSm) : h.Ports (h.setFsm k f) := ⟨rfl, fun _ _ => rfl⟩

/-- The state that a port shows stands in a register of the network. -/
theorem portShow (h : Hw) {i : Nat} (hi : i < 64) : h.Ports (h.portShow i) := by
  unfold Hw.portShow Hw.setFoldStat
  rw [if_neg (by omega)]
  refine ⟨rfl, fun a ha => Hw.rd_wr_ne h _ ?_⟩
  simp only [R.NOC_FOLD_FSTAT]
  omega

/-- A step of every port of a list. -/
theorem foldl {f : Hw → Nat → Hw} {l : List Nat} (hl : ∀ i ∈ l, i < 64) (step : ∀ (h : Hw) i, i < 64 → h.Ports (f h i))
    (h : Hw) : h.Ports (l.foldl f h) :=
  foldl_steps refl trans l (fun g i hi => step g i (hl i hi)) h

theorem portsUnreleased (h : Hw) (b : Bool) : h.Ports (h.portsUnreleased b) :=
  foldl (fun _ => List.mem_range.mp) (fun h _ hi => (fenceSet h _ _ b).trans (portShow _ hi)) h

theorem isoPorts (h : Hw) : h.Ports h.isoPorts :=
  foldl (fun _ => List.mem_range.mp) (fun h _ hi => (fenceSet h _ _ _).trans (portShow _ hi)) h

theorem portFoldsOut (h : Hw) (m : Nat) : h.Ports (h.portFoldsOut m) :=
  foldl (fun _ hi => List.mem_range.mp (List.mem_filter.mp hi).1)
    (fun h _ hi => ((setFsm h _ _).trans (fenceSet _ _ _ _)).trans (portShow _ hi)) h

end Hw.Ports

/-- One cause of one node's fence is set or removed. -/
theorem bit_fenceMask_fenceSet (h : Hw) (n m : Nat) (c : Cause) (b : Bool) (k : Nat) :
    bit ((h.fenceSet n c b).fenceMask m) k = if m = n ∧ k = c.bit then b else bit (h.fenceMask m) k := by
  rw [Hw.fenceMask_fenceSet]
  by_cases hm : m = n
  · rw [if_pos hm, bit_setBit, hm]
    simp only [true_and]
  · rw [if_neg hm, if_neg (fun hk => hm hk.1)]

theorem fenceMask_of_fence {h g : Hw} (e : g.noc.fence = h.noc.fence) (n : Nat) : g.fenceMask n = h.fenceMask n := by
  rw [Hw.fenceMask, e, Hw.fenceMask]

theorem fenceMask_portShow (h : Hw) (i n : Nat) : (h.portShow i).fenceMask n = h.fenceMask n :=
  fenceMask_of_fence (portShow_fence h i) n

/-- The staged release lifts its fence of every port. -/
theorem portsUnreleased_false (h : Hw) :
    ∀ i, i < 64 → bit ((h.portsUnreleased false).fenceMask (576 + i)) 3 = false := by
  have hall := foldl_establishes (P := fun i (g : Hw) => bit (g.fenceMask (576 + i)) 3 = false) (l := List.range 64)
    (f := fun (g : Hw) i => (g.fenceSet (576 + i) .unreleased false).portShow i)
    (fun g i _ => by
      rw [fenceMask_portShow, bit_fenceMask_fenceSet, if_pos ⟨rfl, rfl⟩])
    (fun g i _ j _ hi => by
      rw [fenceMask_portShow, bit_fenceMask_fenceSet, hi, ite_self]) h
  exact fun i hi => hall i (List.mem_range.mpr hi)

/-- Abandoned folds leave the other causes of a fence. -/
theorem bit_fenceMask_portFoldsOut (h : Hw) (m n : Nat) {k : Nat} (hk : k ≠ 2) :
    bit ((h.portFoldsOut m).fenceMask n) k = bit (h.fenceMask n) k :=
  foldl_keeps (fun g : Hw => bit (g.fenceMask n) k) _ (fun g i _ => by
    rw [fenceMask_portShow, bit_fenceMask_fenceSet, if_neg (fun hc => hk hc.2)]
    rfl) h

/-! ### DONE (R250, R252, R263) -/

theorem doneRelease_ready {h : Hw} (hl : h.is R.CFG_STAT_LOADED = true) (hi : h.is R.CFG_STAT_IDENT_OK = true)
    (hm : h.is R.CFG_STAT_HBM_OK = true) (hc : h.tbl.clash = false) :
    h.doneRelease = { h with fab := { h.fab with drive := false } } := by
  rw [Hw.doneRelease, hl, hi, hm, hc]
  rfl

/-- `h` with what the exchange of the table changes as it stands in `g`. -/
def Hw.exchanged (h g : Hw) : Hw := { h with regs := g.regs, tbl := g.tbl }

/-- DONE seen high closes the exchange: the table's state and TBL_STAT. -/
theorem tblDoneHigh_frame (h : Hw) : h.tblDoneHigh = h.exchanged h.tblDoneHigh ∧
    ∀ a, a ≠ R.TBL_STAT → h.tblDoneHigh.rd a = h.rd a := by
  unfold Hw.tblDoneHigh
  split
  · dsimp only
    split
    · exact ⟨rfl, fun a ha => Hw.rd_put_ne _ _ _ ha⟩
    · exact ⟨rfl, fun a _ => rfl⟩
  · exact ⟨rfl, fun a _ => rfl⟩

/-- Step 1 of a staged release: the user outputs, and the voltages of the banks. -/
def FabState.started (s : FabState) (volts : Nat) : FabState :=
  { s with doneHigh := true, stage := 1, outEn := true, volts := volts % 2 ^ 26 }

/-- The banks of which a cell does not match the sensed voltage. -/
def FabState.banksHeld (s : FabState) : List Nat :=
  (List.range 13).filter (fun n => (List.range 32).any (fun m => s.ioHeld n m))

theorem senseBanks_eq (h : Hw) (volts : Nat) : h.senseBanks volts =
    (h.onFab (fun s => { s with volts := volts % 2 ^ 26 })).put R.FAB_IO_VMIS_BANK
      (maskOf (h.onFab (fun s => { s with volts := volts % 2 ^ 26 })).fab.banksHeld) := rfl

theorem maskOf_lt {l : List Nat} {w : Nat} (hl : ∀ k ∈ l, k < w) : maskOf l < 2 ^ w := by
  refine Nat.lt_pow_two_of_testBit _ fun k hk => ?_
  rw [testBit_maskOf, decide_eq_false]
  exact fun hm => absurd (hl k hm) (Nat.not_lt.mpr hk)

theorem doneSeenHigh_held {h : Hw} (hd : h.driveDone = false) (hh : h.fab.doneHigh = false) (hs : h.cstate = csHELD)
    (volts : Nat) : h.doneSeenHigh volts =
      ((((h.onFab (fun s => { s with doneHigh := true })).tblDoneHigh.onFab
        (fun s => { s with stage := 1, outEn := true })).senseBanks volts).setCs csRELEASING) := by
  obtain ⟨-, hrd⟩ := tblDoneHigh_frame (h.onFab (fun s => { s with doneHigh := true }))
  have hheld : (h.onFab (fun s => { s with doneHigh := true })).tblDoneHigh.cstate = csHELD :=
    (get_of_rd (hrd _ (by decide))).trans hs
  rw [Hw.doneSeenHigh, hd, hh]
  dsimp only
  rw [hheld]
  rfl

theorem doneSeenHigh_verdict {h : Hw} (hd : h.driveDone = false) (hh : h.fab.doneHigh = false) (hs : h.cstate = csHELD)
    (volts : Nat) : let g := h.doneSeenHigh volts
    g.fab = h.fab.started volts ∧ g.cstate = csRELEASING ∧ g.get R.FAB_IO_VMIS_BANK = maskOf g.fab.banksHeld ∧
    g.mem = h.mem ∧ g.tiles = h.tiles := by
  obtain ⟨hf, -⟩ := tblDoneHigh_frame (h.onFab (fun s => { s with doneHigh := true }))
  have hfab : (h.onFab (fun s => { s with doneHigh := true })).tblDoneHigh.fab = { h.fab with doneHigh := true } :=
    (congrArg Hw.fab hf :)
  rw [doneSeenHigh_held hd hh hs, senseBanks_eq]
  dsimp only
  rw [get_setCs _ _ (by decide), Hw.get_put_self _ _ _ (by decide) (by decide)]
  simp only [Hw.setCs, Hw.put_fab, Hw.put_mem, Hw.put_tiles, onFab_fab, onFab_mem, onFab_tiles, hfab]
  refine ⟨rfl, cstate_setCs _ (by decide), ?_, (congrArg Hw.mem hf :), (congrArg Hw.tiles hf :)⟩
  exact Nat.mod_eq_of_lt (maskOf_lt (fun k hk => List.mem_range.mp (List.mem_filter.mp hk).1))

/-- Back to the unreleased state. -/
theorem unrelease_ports (h : Hw) : (h.onFab (fun s => { s with
    stage := 0, localRel := false, outEn := false, writeEn := false, userRun := false, ffInit := true, weOff := 0,
    rstOn := 0, regs := FabRegs.reset })).Ports h.unrelease := .portsUnreleased _ true

theorem doneSeenLow_recorded {h : Hw} (hh : h.fab.doneHigh = true) (hs : h.cstate ≠ csRELEASING) :
    h.doneSeenLow = { h with fab := { h.fab with doneHigh := false } } := by
  rw [Hw.doneSeenLow, hh]
  exact if_neg (fun hc => hs (beq_iff_eq.mp hc))

theorem doneSeenLow_releasing {h : Hw} (hh : h.fab.doneHigh = true) (hs : h.cstate = csRELEASING) :
    h.doneSeenLow = (h.onFab (fun s => { s with doneHigh := false })).unrelease.setCs csHELD := by
  rw [Hw.doneSeenLow, hh]
  exact if_pos (beq_iff_eq.mpr hs)

theorem doneSeenLow_verdict {h : Hw} (hh : h.fab.doneHigh = true) (hs : h.cstate = csRELEASING) :
    let g := h.doneSeenLow
    g.fab.doneHigh = false ∧ g.fab.stage = 0 ∧ g.fab.outEn = false ∧ g.cstate = csHELD ∧ g.mem = h.mem ∧
    g.tiles = h.tiles := by
  have hp := unrelease_ports (h.onFab (fun s => { s with doneHigh := false }))
  rw [doneSeenLow_releasing hh hs]
  simp only [cstate_setCs _ (show csHELD < 16 by decide)]
  simp only [Hw.setCs, Hw.put_fab, Hw.put_mem, Hw.put_tiles, hp.fab, hp.mem, hp.tiles, onFab_fab, onFab_mem,
    onFab_tiles, and_self]

/-! ### The stages (R252, R254) -/

/-- With no exit from a sleep state under way there is nothing for a stage to settle. -/
theorem exitSettle_still {h : Hw} (hp : h.pwr'.phase ≠ .exitRun) : h.exitSettle = h := by
  have hb : (h.pwr'.phase == .exitRun) = false := beq_eq_false_iff_ne.mpr hp
  rw [Hw.exitSettle, hb]
  rfl

section
variable {h : Hw} (hp : h.cfg.part = .none) (hs : h.cstate = csRELEASING) (volts : Nat)
include hp hs

theorem releaseStage_first (h1 : h.fab.stage = 1) : h.releaseStage volts = h.stageAct 2 := by
  rw [Hw.releaseStage, hp]
  dsimp only
  rw [hs, beq_self_eq_true, if_pos rfl, h1, if_pos (.inl rfl)]

theorem releaseStage_second (h2 : h.fab.stage = 2) : h.releaseStage volts = h.stageAct 3 := by
  rw [Hw.releaseStage, hp]
  dsimp only
  rw [hs, beq_self_eq_true, if_pos rfl, h2, if_pos (.inr rfl)]

theorem releaseStage_last (h3 : h.fab.stage = 3) : h.releaseStage volts =
    ((h.onFab (fun f => { f with stage := 4 })).putB R.CFG_STAT_RELEASED true).cfgLock.setCs csRELEASED := by
  rw [Hw.releaseStage, hp, hs, h3]
  rfl

end

/-- Stage 2 turns the write enables on. -/
theorem stageAct_two (h : Hw) : h.stageAct 2 = { h with fab := { h.fab with stage := 2, writeEn := true } } := rfl

/-- Stage 3 loads the initial values and opens the ports. -/
theorem stageAct_three_ports (h : Hw) : (h.onFab (fun s => { s.loadInit (fun _ => true) with
    stage := 3, userRun := true, ffInit := false })).Ports (h.stageAct 3) :=
  (Hw.Ports.portsUnreleased _ false).trans (.portFoldsOut ..)

theorem stageAct_three_verdict (h : Hw) : let g := h.stageAct 3
    g.fab = { h.fab.loadInit (fun _ => true) with stage := 3, userRun := true, ffInit := false } ∧
    (∀ i, i < 64 → bit (g.fenceMask (576 + i)) 3 = false) ∧ g.cfg = h.cfg ∧ g.mem = h.mem ∧ g.tiles = h.tiles := by
  have hp := stageAct_three_ports h
  exact ⟨hp.fab, fun i hi => (bit_fenceMask_portFoldsOut _ _ _ (by decide)).trans (portsUnreleased_false _ i hi),
    hp.cfg, hp.mem, hp.tiles⟩

/-- The last stage shows the release and locks the configuration. -/
theorem released_verdict (h : Hw) :
    let g := ((h.onFab (fun f => { f with stage := 4 })).putB R.CFG_STAT_RELEASED true).cfgLock.setCs csRELEASED
    g.fab = { h.fab with stage := 4 } ∧ g.is R.CFG_STAT_RELEASED = true ∧ g.is R.CFG_STAT_LOCK = true ∧
    g.cstate = csRELEASED ∧ g.mem = h.mem ∧ g.tiles = h.tiles := by
  refine ⟨?_, ?_, ?_, cstate_setCs _ (by decide), ?_, ?_⟩
  · simp only [Hw.setCs, Hw.cfgLock, Hw.put_fab, Hw.putB_fab, onFab_fab]
  · rw [Hw.is, get_setCs _ _ (by decide), Hw.cfgLock, Hw.get_putB_other _ _ _ _ (by decide) (by decide) (by decide),
      ← Hw.is, Hw.is_putB_self _ _ _ (by decide) (by decide)]
  · rw [Hw.is, get_setCs _ _ (by decide), ← Hw.is, Hw.cfgLock, Hw.is_putB_self _ _ _ (by decide) (by decide)]
  · simp only [Hw.setCs, Hw.cfgLock, Hw.put_mem, Hw.putB_mem, onFab_mem]
  · simp only [Hw.setCs, Hw.cfgLock, Hw.put_tiles, Hw.putB_tiles, onFab_tiles]

/-! ### The restart of the configuration (R266-R268, R1243) -/

/-- The engine, the fabric, the memories and the tiles stand. -/
structure Hw.Stands (h g : Hw) : Prop where
  cfg : g.cfg = h.cfg
  fab : g.fab = h.fab
  mem : g.mem = h.mem
  tiles : g.tiles = h.tiles

namespace Hw.Stands

theorem trans {h g k : Hw} (p : h.Stands g) (q : g.Stands k) : h.Stands k :=
  ⟨q.cfg.trans p.cfg, q.fab.trans p.fab, q.mem.trans p.mem, q.tiles.trans p.tiles⟩

theorem of_ports {h g : Hw} (p : h.Ports g) : h.Stands g := ⟨p.cfg, p.fab, p.mem, p.tiles⟩

theorem of_writes {h g : Hw} (w : h.Writes g) : h.Stands g :=
  ⟨w.cfg, (congrArg Hw.fab w.frame :), w.mem, w.tiles⟩

end Hw.Stands

/-- The engine of a restart: no attempt, and a clear pass ahead. -/
def CfgEng.restarted (e : CfgEng) : CfgEng := { (e.begin .none 0) with restart := true, startPend := false }

/-- Loads and releases end, and the ports close. -/
def Hw.loadsAbandoned (h : Hw) : Hw := ((h.onCfg CfgEng.restarted).tapRelease.unrelease).portFoldsOut (2 ^ 64 - 1)

/-- The registers of the image read 0. -/
def Hw.imageGone (h : Hw) : Hw :=
  (List.range 12).foldl (fun (g : Hw) i => g.wr (R.CFG_DIGEST i) 0)
    (((h.putB R.CFG_STAT_LOADED false).putB R.CFG_STAT_RELEASED false).put R.CFG_STAT_IMAGE 0)

/-- DONE is driven low, and no image is shown. -/
def Hw.doneDriven (h : Hw) : Hw := (h.loadsAbandoned.onFab (fun s => { s with drive := true })).imageGone

theorem cfgRestart_alone {h : Hw} (hb : h.busDown = false) (hc : h.cfg.cmd = none) :
    h.cfgRestart = (((h.doneDriven.setPrIso 0).isoPorts.setCs csCLEAR).tblRestart).tapSettle := by
  rw [Hw.cfgRestart, if_neg (ne_true_of_eq_false hb), hc]
  unfold Hw.doneDriven Hw.imageGone Hw.loadsAbandoned
  rfl

theorem imageGone_writes (h : Hw) : h.Writes h.imageGone :=
  (((Hw.Writes.putB h _ _).trans (.putB ..)).trans (.put ..)).trans
    (foldl_steps .refl .trans _ (fun g _ _ => Hw.Writes.wr g ..) _)

theorem doneDriven_verdict (h : Hw) : let g := h.doneDriven
    g.cfg = h.cfg.restarted ∧ g.fab.drive = true ∧ g.fab.stage = 0 ∧ g.mem = h.mem ∧ g.tiles = h.tiles := by
  have hports := (unrelease_ports (h.onCfg CfgEng.restarted).tapRelease).trans (.portFoldsOut _ (2 ^ 64 - 1))
  have htiles : (h.onCfg CfgEng.restarted).tapRelease.tiles = h.tiles :=
    (congrArg Hw.tiles (tapRelease_frame (h.onCfg CfgEng.restarted)) :)
  have hw := Hw.Stands.of_writes (imageGone_writes (h.loadsAbandoned.onFab (fun s => { s with drive := true })))
  unfold Hw.doneDriven
  dsimp only
  rw [hw.cfg, hw.fab, hw.mem, hw.tiles]
  simp only [onFab_cfg, onFab_fab, onFab_mem, onFab_tiles, Hw.loadsAbandoned]
  rw [hports.cfg, hports.fab, hports.mem, hports.tiles]
  simp only [onFab_cfg, onFab_fab, onFab_mem, onFab_tiles, tapRelease_cfg, tapRelease_mem, onCfg_cfg, onCfg_mem, htiles,
    and_self]

/-- The table forgets this seat's identity, and what the engine shows stays. -/
theorem tblRestart_verdict (h : Hw) : let g := h.tblRestart
    h.Stands g ∧ g.cstate = h.cstate ∧ g.get R.CFG_STAT_IDENT_OK = 0 := by
  have hw : h.Stands (h.putB R.CFG_STAT_IDENT_OK false) := .of_writes (.putB ..)
  have hstate : (h.putB R.CFG_STAT_IDENT_OK false).cstate = h.cstate :=
    Hw.get_putB_other _ _ _ _ (by decide) (by decide) (by decide)
  have hident : (h.putB R.CFG_STAT_IDENT_OK false).get R.CFG_STAT_IDENT_OK = 0 :=
    Hw.get_putB_self _ _ _ (by decide) (by decide)
  unfold Hw.tblRestart
  dsimp only
  split
  · exact ⟨hw, hstate, hident⟩
  · have hx : ∀ (g : Hw) (f : TblState → TblState) (x : Fld), x.addr ≠ R.TBL_STAT →
        ((g.onTbl f).setX xEXCHANGE).get x = g.get x := fun g f x hx =>
      Hw.get_put_other _ _ _ _ (by decide) (by decide) (.inl hx)
    exact ⟨hw.trans ⟨rfl, rfl, rfl, rfl⟩, (hx _ _ _ (by decide)).trans hstate, (hx _ _ _ (by decide)).trans hident⟩

theorem tapSettle_stands (h : Hw) : h.Stands h.tapSettle :=
  have hf := tapSettle_frame h
  ⟨(congrArg Hw.cfg hf :), (congrArg Hw.fab hf :), (congrArg Hw.mem hf :), (congrArg Hw.tiles hf :)⟩

theorem get_tapSettle (h : Hw) (x : Fld) : h.tapSettle.get x = h.get x :=
  Hw.get_congr (congrArg Hw.regs (tapSettle_frame h) :) x

theorem cfgRestart_verdict {h : Hw} (hb : h.busDown = false) (hc : h.cfg.cmd = none) : let g := h.cfgRestart
    g.cstate = csCLEAR ∧ g.cfg.restart = true ∧ g.driveDone = true ∧ g.fab.stage = 0 ∧
    g.is R.CFG_STAT_IDENT_OK = false ∧ g.mem = h.mem ∧ g.tiles = h.tiles := by
  obtain ⟨hcfg, hdrive, hstage, hmem, htiles⟩ := doneDriven_verdict h
  obtain ⟨htbl, hstate, hident⟩ := tblRestart_verdict ((h.doneDriven.setPrIso 0).isoPorts.setCs csCLEAR)
  have hiso : h.doneDriven.Stands ((h.doneDriven.setPrIso 0).isoPorts.setCs csCLEAR) :=
    ((Hw.Stands.of_writes ((Hw.Writes.wr ..).trans (.wr ..))).trans (.of_ports (.isoPorts _))).trans
      (.of_writes (.put ..))
  have hs := (hiso.trans htbl).trans (tapSettle_stands _)
  rw [cfgRestart_alone hb hc]
  refine ⟨?_, ?_, ?_, ?_, ?_, hs.mem.trans hmem, hs.tiles.trans htiles⟩
  · exact ((get_tapSettle ..).trans hstate).trans (cstate_setCs _ (by decide))
  · rw [hs.cfg, hcfg]
    rfl
  · rw [Hw.driveDone, hs.fab, hdrive]
    rfl
  · rw [hs.fab, hstage]
  · rw [Hw.is, get_tapSettle, hident]
    rfl

/-! ### CFG_CTL (R253, R272) -/

theorem busDown_of_blkDown {h : Hw} {b : Blk} {a : Nat} (hd : h.blkDown b a = false) : h.busDown = false := by
  simp only [Hw.blkDown, Bool.or_eq_false_iff] at hd
  obtain ⟨hb, -⟩ := hd
  exact hb

theorem regDo_cfgCtl {h : Hw} (v : Nat) (hd : h.blkDown .cfg R.CFG_CTL = false) :
    h.regDo R.CFG_CTL v = h.cfgCtl (v % 2 ^ 32) := by
  obtain ⟨r, hr, hb⟩ : ∃ r, regDef? R.CFG_CTL = some r ∧ r.blk = .cfg := ⟨_, rfl, rfl⟩
  rw [Hw.regDo, regWrite_of_regDef h v _ hr (hb ▸ hd) (by decide), Hw.regStore, hb]
  rfl

/-- The keyed write restarts, and the write of LOCK alone locks. -/
theorem cfgCtl_restart (h : Hw) : h.cfgCtl (0xC502 % 2 ^ 32) = h.cfgRestart := by
  unfold Hw.cfgCtl
  rw [if_pos (by decide), if_neg (by decide)]

theorem cfgCtl_lock (h : Hw) : h.cfgCtl (1 % 2 ^ 32) = h.putB R.CFG_STAT_LOCK true := rfl

/-! ### The fold of a partial load is done (R260) -/

theorem prIso_setPrIso (h : Hw) (v : Nat) : (h.setPrIso v).prIso = v % 2 ^ 64 := by
  have hlo : (h.setPrIso v).rd R.CFG_PR_ISO_LO = v % 2 ^ 32 :=
    (Hw.rd_wr_ne _ _ (by decide)).trans (Hw.rd_wr_self ..)
  have hhi : (h.setPrIso v).rd R.CFG_PR_ISO_HI = v / 2 ^ 32 % 2 ^ 32 := Hw.rd_wr_self ..
  rw [Hw.prIso, Hw.rd64, hlo, hhi]
  omega

/-- The regions of the load are isolated. -/
def Hw.loadIsolated (h : Hw) : Hw := (h.holdRegions h.cfg.regions h.prIso).setPrIso (h.prIso ||| h.cfg.regions)

theorem prIso_loadIsolated (h : Hw) : h.loadIsolated.prIso = (h.prIso ||| h.cfg.regions) % 2 ^ 64 := prIso_setPrIso ..

theorem prIso_of_ports {h g : Hw} (p : h.Ports g) : g.prIso = h.prIso := by
  rw [Hw.prIso, Hw.prIso, Hw.rd64, Hw.rd64, p.rd _ (.inl (by decide)), p.rd _ (.inl (by decide))]

/-- Beside CFG_PR_ISO, isolation holds the levels that leave the regions. -/
theorem loadIsolated_keeps (h : Hw) : let g := h.loadIsolated
    g.cfg = h.cfg ∧ g.fab = { h.fab with regs := g.fab.regs } ∧ g.mem = h.mem ∧ g.tiles = h.tiles := by
  have hs : (h.holdRegions h.cfg.regions h.prIso).Stands h.loadIsolated :=
    .of_writes ((Hw.Writes.wr ..).trans (.wr ..))
  exact ⟨hs.cfg, hs.fab.trans (by rw [hs.fab]; rfl), hs.mem, hs.tiles⟩

theorem partFoldDone_folded {h : Hw} (hp : h.cfg.part = .folding)
    (hf : ((List.range 64).filter (fun i => bit h.cfg.regions (portRegion i))).all
      (fun i => h.foldStat (16 + i) == fFOLDED) = true) : h.partFoldDone =
    (h.loadIsolated.isoPorts.onFab (fun s => { s with
      weOff := s.weOff ||| h.cfg.regions, rstOn := s.rstOn ||| h.cfg.regions })).onCfg
      (fun e => { e with part := .writing }) := by
  rw [Hw.partFoldDone, hp]
  dsimp only
  rw [hf]
  rfl

theorem partFoldDone_verdict {h : Hw} (hp : h.cfg.part = .folding)
    (hf : ((List.range 64).filter (fun i => bit h.cfg.regions (portRegion i))).all
      (fun i => h.foldStat (16 + i) == fFOLDED) = true) : let g := h.partFoldDone
    g.cfg = { h.cfg with part := .writing } ∧ (∀ r, r < 54 → bit h.cfg.regions r = true → bit g.prIso r = true) ∧
    g.fab.weOff = h.fab.weOff ||| h.cfg.regions ∧ g.fab.rstOn = h.fab.rstOn ||| h.cfg.regions ∧
    g.fab.frames = h.fab.frames ∧ g.mem = h.mem ∧ g.tiles = h.tiles := by
  have hports := Hw.Ports.isoPorts h.loadIsolated
  obtain ⟨hcfg, hfab, hmem, htiles⟩ := loadIsolated_keeps h
  have hshown : ∀ (g : Hw) (f : FabState → FabState) (e : CfgEng → CfgEng), ((g.onFab f).onCfg e).prIso = g.prIso :=
    fun _ _ _ => rfl
  rw [partFoldDone_folded hp hf]
  simp only [onCfg_cfg, onCfg_fab, onCfg_mem, onCfg_tiles, onFab_cfg, onFab_fab, onFab_mem, onFab_tiles, hports.cfg,
    hports.fab, hports.mem, hports.tiles, hshown]
  rw [hcfg, hfab, hmem, htiles]
  refine ⟨rfl, fun r hr hbit => ?_, rfl, rfl, rfl, rfl, rfl⟩
  rw [bit_eq] at hbit
  rw [prIso_of_ports hports, prIso_loadIsolated, bit_eq, Nat.testBit_mod_two_pow, Nat.testBit_or, hbit,
    decide_eq_true (show r < 64 by omega), Bool.or_true]
  rfl

/-- Settles O23, a lemma per clause. -/
theorem stagedRelease : Obligations.StagedRelease := by
  refine ⟨fun s hu hl hi hm hc => exec_of_sys (exec_doneRelease s) hu (doneRelease_ready hl hi hm hc),
    fun s volts hf hu hd hh hs => ⟨_, exec_of_sysPins (exec_doneSeenHigh volts s) hf hu rfl,
      doneSeenHigh_verdict hd hh hs volts⟩,
    fun s volts hu hx hp hs h1 => exec_of_sys (exec_releaseStage volts s) hu ?_,
    fun s volts hu hx hp hs h2 => ⟨_, exec_of_sys (exec_releaseStage volts s) hu ?_, stageAct_three_verdict s.hw⟩,
    fun s volts hu hx hp hs h3 => ⟨_, exec_of_sys (exec_releaseStage volts s) hu ?_, released_verdict s.hw⟩,
    fun s hf hu hh hs => ⟨_, exec_of_sysPins (exec_doneSeenLow s) hf hu rfl, doneSeenLow_verdict hh hs⟩,
    fun s hf hu hh hs => exec_of_sysPins (exec_doneSeenLow s) hf hu (doneSeenLow_recorded hh hs),
    fun s hf hu hc => ⟨_, exec_of_sysPins (exec_progN s) hf hu rfl, cfgRestart_verdict (busDown_of_sysUp hu) hc⟩,
    fun s hd hc => ⟨_, exec_of_upd (exec_cfgCtlRestart s) ((regDo_cfgCtl _ hd).trans (cfgCtl_restart s.hw)),
      cfgRestart_verdict (busDown_of_blkDown hd) hc⟩,
    fun s hd => exec_of_upd (exec_cfgCtlLock s) ((regDo_cfgCtl _ hd).trans (cfgCtl_lock s.hw)),
    fun s hu hp hf => ⟨_, exec_of_sys (exec_partialFoldDone s) hu rfl, partFoldDone_verdict hp hf⟩⟩
  · rw [releaseStage_first hp hs volts h1, stageAct_two]
    exact exitSettle_still hx
  · rw [releaseStage_second hp hs volts h2]
    refine exitSettle_still ?_
    rw [(stageAct_three_ports s.hw).pwr']
    exact hx
  · rw [releaseStage_last hp hs volts h3]
    exact exitSettle_still hx

end Sys2Proof.Machine
end

section
/-!
SUPPORT. The scrub, the user register window, the user PLLs and the ports of the fabric
(R313-R321, R336, R340, R1171-R1173).
-/
namespace Sys2Proof.Machine

open Sys2Proof

theorem exec_of_core {s : State} {i : Instr} {f : Hw → Hw} {g : Hw} (hi : exec i s = s.core f)
    (hc : s.hw.coreUp = true) (e : f s.hw = g) : exec i s = .next { s with hw := g } := by
  rw [hi, State.core, State.upd, hc, e]
  rfl

/-! ### The scrub (R1171-R1173) -/

/-- Frame `f` is read: its cells as they have become. -/
def Hw.scrubRead (h : Hw) (f : Nat) (upset : BitVec 2048) : Hw :=
  if decide (f < fabPeriphery ∧ 7 ≤ f % 9) then h
  else h.onFab (fun s => { s with frames := SMap.set (fun _ => 0) s.frames f (s.frame f ^^^ upset) })

/-- A frame whose CRC is bad is reported. -/
def Hw.scrubJudged (h : Hw) (f : Nat) (bad : Bool) : Hw :=
  if bad then (h.errFull eCONFIG 1 nodeREG none f 1 false).put R.ERR_SCRUB_STAT_FRAME f else h

/-- The scrub goes on after frame `f`, and counts its pass. -/
def Hw.scrubOn (h : Hw) (f : Nat) : Hw :=
  let h := { h with err := { h.err with scrubNext := if f + 1 = fabFrames then 0 else f + 1 } }
  if f + 1 = fabFrames then h.bump R.ERR_SCRUB_PASS_COUNT else h

theorem scrubFrame_runs {h : Hw} (he : h.is R.ERR_SCRUB_CFG_EN = true) (hr : h.is R.CFG_STAT_RELEASED = true)
    (upset : BitVec 2048) : ∃ bad, h.scrubFrame upset =
      ((h.scrubRead h.err.scrubNext upset).scrubJudged h.err.scrubNext bad).scrubOn h.err.scrubNext := by
  rw [Hw.scrubFrame, he, hr]
  exact ⟨_, rfl⟩

/-- The scrub leaves memories and tiles. -/
theorem scrubJudged_keeps (h : Hw) (f : Nat) (upset : BitVec 2048) (bad : Bool) :
    ((h.scrubRead f upset).scrubJudged f bad).mem = h.mem ∧
    ((h.scrubRead f upset).scrubJudged f bad).tiles = h.tiles := by
  have hread : (h.scrubRead f upset).mem = h.mem ∧ (h.scrubRead f upset).tiles = h.tiles := by
    unfold Hw.scrubRead
    split
    · exact ⟨rfl, rfl⟩
    · exact ⟨rfl, rfl⟩
  cases bad
  · exact hread
  · rw [Hw.scrubJudged, if_pos rfl, Hw.errFull, raiseRep_frame]
    exact hread

theorem scrubOn_verdict (h : Hw) (f : Nat) : let g := h.scrubOn f
    g.err.scrubNext = (if f + 1 = fabFrames then 0 else f + 1) ∧ g.mem = h.mem ∧ g.tiles = h.tiles := by
  unfold Hw.scrubOn
  dsimp only
  split
  · simp only [Hw.bump_err, Hw.bump_mem, Hw.bump_tiles, and_self]
  · exact ⟨rfl, rfl, rfl⟩

theorem scrubFrame_verdict {h : Hw} (he : h.is R.ERR_SCRUB_CFG_EN = true) (hr : h.is R.CFG_STAT_RELEASED = true)
    (upset : BitVec 2048) : let g := h.scrubFrame upset
    g.err.scrubNext = (if h.err.scrubNext + 1 = fabFrames then 0 else h.err.scrubNext + 1) ∧ g.mem = h.mem ∧
    g.tiles = h.tiles := by
  obtain ⟨bad, hs⟩ := scrubFrame_runs he hr upset
  obtain ⟨hmem, htiles⟩ := scrubJudged_keeps h h.err.scrubNext upset bad
  obtain ⟨hnext, hmem', htiles'⟩ :=
    scrubOn_verdict ((h.scrubRead h.err.scrubNext upset).scrubJudged h.err.scrubNext bad) h.err.scrubNext
  rw [hs]
  exact ⟨hnext, hmem'.trans hmem, htiles'.trans htiles⟩

/-! ### The user register window (R319, R321) -/

/-- An access of the test port that finds no other waiting is taken, and waits for the running port. -/
theorem uregAccess_tap_waits {h : Hw} (hu : h.sysUp = true) (hi : h.tapInternal = false)
    (hir : h.tap.ir = irDBG_ACCESS) (hw : h.tap.dbgWait = none) (hd : h.uregDown = false) {a : Nat}
    (hlo : 0x60000000 ≤ a) (hhi : a < 0x61000000) (ha : a % 4 = 0) (wr : Option Nat) : h.uregAccess .tap a wr none =
      { h with
        tap := { h.tap with dbgWait := some (a, wr) },
        fab := { h.fab with ureg := h.fab.ureg ++ [⟨a, wr, .tap⟩] } } := by
  have hin : ¬ (h.busDown = true ∨ a < 0x60000000 ∨ 0x61000000 ≤ a ∨ a % 4 ≠ 0) := by
    rw [busDown_of_sysUp hu]
    simp only [Bool.false_eq_true, false_or]
    omega
  have htake : h.uregTake .tap a wr =
      some (⟨a, wr, .tap⟩, { h with tap := { h.tap with dbgWait := some (a, wr) } }) := by
    rw [Hw.uregTake, hi, hir, hw]
    rfl
  rw [Hw.uregAccess, if_neg hin, htake]
  exact if_neg (ne_true_of_eq_false hd)

/-- The access of the test port that has waited longest ends with an error. -/
theorem uregTimeout_tap {h : Hw} {a : Nat} {wr : Option Nat} {l : List UWait} (hl : h.fab.ureg = ⟨a, wr, .tap⟩ :: l) :
    h.uregTimeout = { (({ h with fab := { h.fab with ureg := l } } : Hw).raise R.FAB_UREG_ERR_TMO 0) with
      tap := { h.tap with dbgWait := none, dbgAddr := a, dbgErr := true } } := by
  rw [Hw.uregTimeout, hl]
  simp only [UWait.answer, Hw.raise_tap, Bool.true_or, if_true]

theorem uregTimeout_verdict {h : Hw} {a : Nat} {wr : Option Nat} {l : List UWait}
    (hl : h.fab.ureg = ⟨a, wr, .tap⟩ :: l) : let g := h.uregTimeout
    g.tap = { h.tap with dbgWait := none, dbgAddr := a, dbgErr := true } ∧ g.fab = { h.fab with ureg := l } ∧
    bit (g.rd R.FAB_UREG_ERR) 0 = true ∧ g.mem = h.mem ∧ g.tiles = h.tiles := by
  have hflag := bit_raise ({ h with fab := { h.fab with ureg := l } } : Hw) R.FAB_UREG_ERR_TMO 0 (by decide)
  rw [uregTimeout_tap hl]
  exact ⟨rfl, Hw.raise_fab .., hflag, Hw.raise_mem .., Hw.raise_tiles ..⟩

/-! ### The user PLLs (R336) -/

/-- PLL `u`'s loss is cleared, and the ports it fenced are recorded no longer. -/
def Hw.pllFreed (h : Hw) (u : Nat) : Hw :=
  if h.bitOf R.FAB_PLL_LOSS_LOSS u && bit h.userHeld u then
    ({ h with fab := { h.fab with pllPorts := NMap.set h.fab.pllPorts u 0 } } : Hw).putBit R.FAB_PLL_LOSS_LOSS u false
  else h

theorem bitList_single : ∀ u < 8, bitList 8 (2 ^ u % 2 ^ 32) = [u] := by decide

theorem regDo_pllLoss {h : Hw} (v : Nat) (hd : h.blkDown .fab R.FAB_PLL_LOSS = false) :
    h.regDo R.FAB_PLL_LOSS v = h.pllLossClear (v % 2 ^ 32) h.userHeld := by
  obtain ⟨r, hr, hb⟩ : ∃ r, regDef? R.FAB_PLL_LOSS = some r ∧ r.blk = .fab := ⟨_, rfl, rfl⟩
  rw [Hw.regDo, regWrite_of_regDef h v _ hr (hb ▸ hd) (by decide), Hw.regStore, hb]
  rfl

theorem pllLossClear_single (h : Hw) {u : Nat} (hu : u < 8) : ∃ ovf,
    h.pllLossClear (2 ^ u % 2 ^ 32) h.userHeld = ((h.pllFreed u).put R.FAB_PLL_LOSS_OVF ovf).pllFences := by
  rw [Hw.pllLossClear, bitList_single u hu]
  exact ⟨_, rfl⟩

theorem bitOf_putBit_self (h : Hw) (f : Fld) {k : Nat} (b : Bool) (hf : f.lo + k ≤ f.hi) (hw : f.hi < 32) :
    (h.putBit f k b).bitOf f k = b := by
  have hk : k < f.hi + 1 - f.lo := by omega
  rw [Hw.bitOf, Hw.get, bit_eq, testBit_bits, ← bit_eq, bit_putBit_self h f k b hf hw, decide_eq_true hk,
    Bool.true_and]

/-- The write of a held PLL's flag leaves the flag clear. -/
theorem pllFreed_verdict {h : Hw} {u : Nat} (hu : u < 8) (hk : bit h.userHeld u = true) : let g := h.pllFreed u
    g.bitOf R.FAB_PLL_LOSS_LOSS u = false ∧ g.mem = h.mem ∧ g.tiles = h.tiles := by
  unfold Hw.pllFreed
  rw [hk, Bool.and_true]
  cases hl : h.bitOf R.FAB_PLL_LOSS_LOSS u
  · exact ⟨hl, rfl, rfl⟩
  · rw [if_pos rfl]
    exact ⟨bitOf_putBit_self _ _ _ (show 0 + u ≤ 7 by omega) (by decide), Hw.putBit_mem .., Hw.putBit_tiles ..⟩

theorem pllFences_ports (h : Hw) : h.Ports h.pllFences :=
  .foldl (fun _ => List.mem_range.mp) (fun h _ hi => (Hw.Ports.fenceSet h _ _ _).trans (.portShow _ hi)) h

theorem pllLossClear_verdict {h : Hw} {u : Nat} (hu : u < 8) (hk : bit h.userHeld u = true) :
    let g := h.pllLossClear (2 ^ u % 2 ^ 32) h.userHeld
    g.bitOf R.FAB_PLL_LOSS_LOSS u = false ∧ g.mem = h.mem ∧ g.tiles = h.tiles := by
  obtain ⟨ovf, hclear⟩ := pllLossClear_single h hu
  obtain ⟨hloss, hmem, htiles⟩ := pllFreed_verdict hu hk
  have hp := pllFences_ports ((h.pllFreed u).put R.FAB_PLL_LOSS_OVF ovf)
  rw [hclear]
  refine ⟨?_, ?_, ?_⟩
  · rw [bitOf_of_rd (hp.rd _ (.inr (by decide))), Hw.bitOf,
      Hw.get_put_other _ _ _ _ (by decide) (by decide) (by decide), ← Hw.bitOf, hloss]
  · rw [hp.mem, Hw.put_mem, hmem]
  · rw [hp.tiles, Hw.put_tiles, htiles]

/-! ### The ports (R313-R317, R340) -/

/-- A request that the NI sends leaves the state as it was. -/
theorem niCheck_sends {h : Hw} {node a n : Nat} {set : Option Nat} (hn : (h.niCheck node a n set).1 = none) :
    h.niCheck node a n set = (none, h) := by
  unfold Hw.niCheck at hn ⊢
  split_ifs at hn ⊢ with hf hr hx ho
  cases set with
  | none => rfl
  | some s =>
    dsimp only at hn ⊢
    split_ifs at hn ⊢ with hp
    rfl

theorem niSend_verdict (h : Hw) (n op a len prio : Nat) (data : List Byte) (poison : List Bool) :
    let g := (h.niSend n op a len prio data poison).2
    (∃ p, g.noc.pkts = h.noc.pkts ++ [p] ∧ p.op = op ∧ p.addr = a ∧ p.srcSeat = h.seat ∧ p.srcNode = n ∧
      p.bytes = len ∧ p.data = data) ∧
    g.noc.outst.length = h.noc.outst.length + 1 ∧ g.regs = h.regs ∧ g.mem = h.mem ∧ g.fab = h.fab :=
  ⟨⟨_, rfl, rfl, rfl, rfl, rfl, rfl, rfl⟩, List.length_append, rfl, rfl, rfl⟩

section
variable {h : Hw} {i : Nat} {u : UserPkt}

theorem portTx_sends (hi : i < 64) (hf : h.fenced (576 + i) = false) (hr : h.fab.userRun = true) (hc : u.cls ≠ 0)
    (ho : u.op = 1 ∨ u.op = 2) (hfit : u.fits = true) (hn : (h.niCheck (576 + i) u.addr u.bytes (some 16)).1 = none)
    (ht : h.tagFree (576 + i) = true) :
    h.portTx i u = (h.niSend (576 + i) u.op u.addr u.bytes u.prio u.data u.poison).2 := by
  have hopen : ¬ (64 ≤ i ∨ h.fenced (576 + i) = true ∨ (!h.fab.userRun) = true) := by
    rw [hf, hr]
    simp only [Bool.false_eq_true, Bool.not_true, or_false]
    omega
  have hop : (u.op == 1 || u.op == 2 || u.op == 0x81 || u.op == 0x82) = true := by
    rcases ho with ho | ho
    · rw [ho]
      rfl
    · rw [ho]
      rfl
  have hgood : ¬ (u.cls = 0 ∨ (!(u.op == 1 || u.op == 2 || u.op == 0x81 || u.op == 0x82)) = true ∨
      (!u.fits) = true) := by
    rw [hop, hfit]
    simp only [Bool.not_true, Bool.false_eq_true, or_false]
    exact hc
  rw [Hw.portTx]
  dsimp only
  rw [if_neg hopen, if_neg hgood, if_pos ho, niCheck_sends hn]
  exact if_pos ht

end

section
variable {h : Hw} {k : Nat} {p : Packet}

theorem portRx_request (hk : h.pkt? k = some p) (hs : p.dstSeat = h.seat) (hlo : 576 ≤ p.dstNode)
    (hhi : p.dstNode < 640) (ho : p.op = 1 ∨ p.op = 2) (crc : Bool) :
    h.portRx k crc = (h.dropPkt k).portRequest p.dstNode p crc := by
  have hhere : (p.dstSeat != h.seat || decide (p.dstNode < 576) || decide (640 ≤ p.dstNode)) = false := by
    rw [hs, bne_self_eq_false, decide_eq_false (Nat.not_lt.mpr hlo), decide_eq_false (Nat.not_le.mpr hhi)]
    rfl
  rw [Hw.portRx, hk]
  dsimp only
  rw [hhere]
  exact if_pos ho

/-- What user logic is handed: the packet, and whether it is poisoned; the report of a failed CRC stands beside it. -/
theorem portGive_frame (h : Hw) (n : Nat) (p : Packet) (crc : Bool) : h.portGive n p crc = { h with
    err := (h.portGive n p crc).err,
    fab := { h.fab with rx := h.fab.rx ++ [(n, p, crc || p.crcBad || p.poison.any (fun b => b))] } } := by
  unfold Hw.portGive
  dsimp only
  split
  · rw [Hw.errAddr, Hw.errFull, raiseRep_frame]
  · rfl

theorem portRequest_verdict {n : Nat} (hf : h.fenced n = false) (crc : Bool) : let g := h.portRequest n p crc
    g.noc = { h.noc with accepted := h.noc.accepted ++ [p] } ∧
    g.fab.rx = h.fab.rx ++ [(n, p, crc || p.crcBad || p.poison.any (fun b => b))] ∧ g.regs = h.regs ∧
    g.mem = h.mem := by
  rw [Hw.portRequest, if_neg (ne_true_of_eq_false hf), portGive_frame]
  exact ⟨rfl, rfl, rfl, rfl⟩

theorem portRx_verdict (hk : h.pkt? k = some p) (hs : p.dstSeat = h.seat) (hlo : 576 ≤ p.dstNode)
    (hhi : p.dstNode < 640) (ho : p.op = 1 ∨ p.op = 2) (hf : h.fenced p.dstNode = false) (crc : Bool) :
    let g := h.portRx k crc
    g.noc.accepted = h.noc.accepted ++ [p] ∧
    g.fab.rx = h.fab.rx ++ [(p.dstNode, p, crc || p.crcBad || p.poison.any (fun b => b))] ∧
    g.noc.pkts = h.noc.pkts.eraseIdx k ∧ g.regs = h.regs ∧ g.mem = h.mem := by
  obtain ⟨hnoc, hrx, hregs, hmem⟩ := portRequest_verdict (h := h.dropPkt k) (p := p) (n := p.dstNode) hf crc
  rw [portRx_request hk hs hlo hhi ho]
  exact ⟨congrArg NocState.accepted hnoc, hrx, congrArg NocState.pkts hnoc, hregs, hmem⟩

end

/-- Settles O24, a lemma per clause. -/
theorem fabric : Obligations.Fabric :=
  ⟨fun s upset hu he hr => ⟨_, exec_of_sys (exec_scrubFrame upset s) hu rfl, scrubFrame_verdict he hr upset⟩,
    fun s a wr hu hi hir hw hd hlo hhi ha => exec_of_sys (exec_fabUregAccess .tap a wr none s) hu
      (uregAccess_tap_waits hu hi hir hw hd hlo hhi ha wr),
    fun s _ _ _ hu hl => ⟨_, exec_of_sys (exec_fabUregTimeout s) hu rfl, uregTimeout_verdict hl⟩,
    fun s u hu hd hk => ⟨_, exec_of_upd (exec_fabPllLossClear (2 ^ u) s) (regDo_pllLoss _ hd),
      pllLossClear_verdict hu hk⟩,
    fun s i u hc hi hf hr hcls ho hfit hn ht => ⟨_, exec_of_core (exec_fabricPortTx i u s) hc
      (portTx_sends hi hf hr hcls ho hfit hn ht), niSend_verdict ..⟩,
    fun s k crc _ hc hk hs hlo hhi ho hf => ⟨_, exec_of_core (exec_fabricPortRx k crc s) hc rfl,
      portRx_verdict hk hs hlo hhi ho hf crc⟩⟩

end Sys2Proof.Machine
end

section
/-!
SUPPORT. The output pins under the system's control, by phase, and what a system reset leaves of the state they show
(R243, R250, R860, R1218).
-/
namespace Sys2Proof.Machine

open Sys2Proof

/-! ### Pins and phases -/

/-- Without an instruction that takes the pins, the system drives them. -/
theorem pinOut_system {h : Hw} (hi : irFreezes h.tap.ir = false) (p : OutPin) : h.pinOut p = h.sysOut p := by
  unfold Hw.pinOut
  split
  · simp only [Hw.scanDrives, hi, Bool.false_eq_true, if_false]
  · rfl

theorem pinPhase_por {h : Hw} (hp : h.rst.por = true) : h.pinPhase = .por := by
  simp only [Hw.pinPhase, hp, if_true]

theorem heldAt_free {h : Hw} (hp : h.rst.por = false) (hq : h.rst.pend = none) (system : Bool) :
    h.heldAt system = false := by
  simp only [Hw.heldAt, hp, hq, Bool.or_self]

theorem pinPhase_run {h : Hw} (hp : h.rst.por = false) (hq : h.rst.pend = none) (hw : h.pwr = 0) :
    h.pinPhase = .run := by
  have hlisten : (h.pwr == pwrLISTEN) = false := by rw [hw]; rfl
  have hdeep : (h.pwr == pwrDEEP) = false := by rw [hw]; rfl
  simp only [Hw.pinPhase, hp, heldAt_free hp hq, hlisten, hdeep, Bool.false_eq_true, if_false]

/-- The column POR of R1218. -/
theorem pinOut_por {h : Hw} (hi : irFreezes h.tap.ir = false) (hp : h.rst.por = true) :
    (∀ n m, h.pinOut (.io n m) = .highZ) ∧ h.pinOut .alertN = .highZ ∧ h.pinOut .pcieClkreqN = .highZ ∧
    h.pinOut .done = .low ∧ h.pinOut .cfgErrN = .low ∧ h.pinOut .errN = .low ∧ h.pinOut .wakeOut = .low ∧
    ∀ g, h.pinOut (.snsClk g) = .low ∧ h.pinOut (.snsRng g) = .low := by
  simp [pinOut_system hi, Hw.sysOut, pinPhase_por hp]

/-- With no channel enabled in the sensor block's register, no group's clock runs. -/
theorem snsClkRuns_disabled {h : Hw} (hc : h.get R.SNS_CH_EN_EN = 0) (g : Nat) : h.snsClkRuns g = false := by
  have hen : h.grpEn g = [] := by
    simp [Hw.grpEn, Hw.chEn, Hw.bitOf, hc, bit]
  simp only [Hw.snsClkRuns, hen, List.isEmpty_nil, Bool.not_true, Bool.false_and]

/-! ### What the pins show after a system reset -/

/-- The part runs, unconfigured: no reset and no sleep, user outputs off, DONE and CFG_ERR_N driven, no channel enabled,
the TAP leaves the pins to the system. -/
structure Hw.PinsIdle (h : Hw) : Prop where
  por : h.rst.por = false
  pend : h.rst.pend = none
  pwr : h.pwr = 0
  outEn : h.fab.outEn = false
  drive : h.fab.drive = true
  err : h.get R.CFG_STAT_ERR = 1
  wakeOut : h.pwr'.wakeOut = false
  channels : h.get R.SNS_CH_EN_EN = 0
  ir : irFreezes h.tap.ir = false

theorem pinOut_idle {h : Hw} (hi : h.PinsIdle) :
    (∀ n m, h.pinOut (.io n m) = .highZ) ∧ h.pinOut .done = .low ∧ h.pinOut .cfgErrN = .low ∧
    h.pinOut .spiResetN = .high ∧ h.pinOut .wakeOut = .low ∧ ∀ g, h.pinOut (.snsClk g) = .low := by
  have hphase := pinPhase_run hi.por hi.pend hi.pwr
  simp [pinOut_system hi.ir, Hw.sysOut, hphase, hi.outEn, hi.wakeOut, snsClkRuns_disabled hi.channels, Hw.driveDone,
    hi.drive, Hw.is, hi.err, Drive.drain, Drive.level]

/-- The step from `h` to `g` leaves alone all that `Hw.PinsIdle` speaks of. -/
structure Hw.SamePins (h g : Hw) : Prop where
  rst : g.rst = h.rst
  fab : g.fab = h.fab
  pwr' : g.pwr' = h.pwr'
  ir : g.tap.ir = h.tap.ir
  pwr : g.pwr = h.pwr
  err : g.get R.CFG_STAT_ERR = h.get R.CFG_STAT_ERR
  channels : g.get R.SNS_CH_EN_EN = h.get R.SNS_CH_EN_EN

theorem Hw.SamePins.trans {h g k : Hw} (p : h.SamePins g) (q : g.SamePins k) : h.SamePins k :=
  ⟨q.rst.trans p.rst, q.fab.trans p.fab, q.pwr'.trans p.pwr', q.ir.trans p.ir, q.pwr.trans p.pwr, q.err.trans p.err,
    q.channels.trans p.channels⟩

theorem Hw.PinsIdle.of_samePins {h g : Hw} (hi : h.PinsIdle) (hs : h.SamePins g) : g.PinsIdle where
  por := (congrArg RstState.por hs.rst).trans hi.por
  pend := (congrArg RstState.pend hs.rst).trans hi.pend
  pwr := hs.pwr.trans hi.pwr
  outEn := (congrArg FabState.outEn hs.fab).trans hi.outEn
  drive := (congrArg FabState.drive hs.fab).trans hi.drive
  err := hs.err.trans hi.err
  wakeOut := (congrArg PwrState.wakeOut hs.pwr').trans hi.wakeOut
  channels := hs.channels.trans hi.channels
  ir := (congrArg irFreezes hs.ir).trans hi.ir

/-- The field shares no bit with the register fields that `Hw.PinsIdle` speaks of. -/
abbrev Fld.PinsSpare (f : Fld) : Prop :=
  (f.lo ≤ f.hi ∧ f.hi < 32) ∧ f.addr ≠ R.PWR_STATE ∧ f.addr ≠ R.SNS_CH_EN ∧ (f.addr ≠ R.CFG_STAT ∨ 0 < f.lo)

theorem samePins_put (h : Hw) {f : Fld} (hf : f.PinsSpare) (v : Nat) : h.SamePins (h.put f v) := by
  obtain ⟨⟨hlo, hhi⟩, hpwr, hch, hcfg⟩ := hf
  exact ⟨rfl, rfl, rfl, rfl, Hw.get_put_other h f R.PWR_STATE_STATE v hlo hhi (.inl (Ne.symm hpwr)),
    Hw.get_put_other h f R.CFG_STAT_ERR v hlo hhi (hcfg.imp Ne.symm .inr),
    Hw.get_put_other h f R.SNS_CH_EN_EN v hlo hhi (.inl (Ne.symm hch))⟩

theorem samePins_putB (h : Hw) {f : Fld} (hf : f.PinsSpare) (b : Bool) : h.SamePins (h.putB f b) := samePins_put h hf _

theorem samePins_errReset (h : Hw) : h.SamePins h.errReset := by
  rw [errReset_frame]
  exact ⟨rfl, rfl, rfl, rfl, rfl, rfl, rfl⟩

theorem samePins_hbmKept (h : Hw) (kept : Bool) : h.SamePins (h.hbmKept kept) := ⟨rfl, rfl, rfl, rfl, rfl, rfl, rfl⟩

theorem samePins_tapSettle (h : Hw) : h.SamePins h.tapSettle := by
  rw [tapSettle_frame]
  exact ⟨rfl, rfl, rfl, rfl, rfl, rfl, rfl⟩

theorem samePins_showPend (h : Hw) : h.SamePins h.showPend :=
  ((samePins_putB h (by decide) _).trans (samePins_putB _ (by decide) _)).trans (samePins_putB _ (by decide) _)

theorem samePins_straps (h : Hw) (seat boot : Nat) : h.SamePins (h.straps seat boot) :=
  (samePins_put h (by decide) _).trans (samePins_put _ (by decide) _)

theorem samePins_sysStrapped (h : Hw) (keep : Bool) (seat boot : Nat) : h.SamePins (h.sysStrapped keep seat boot) :=
  (((samePins_errReset h).trans (samePins_showPend _)).trans (samePins_putB _ (by decide) keep)).trans
    (samePins_straps _ seat boot)

theorem samePins_trainStart (h : Hw) {s : Nat} (hs : s < 2) (step : Nat) : h.SamePins (h.trainStart s step) := by
  have hstat : (R.MEM_STAT_STATE s).PinsSpare ∧ (R.MEM_STAT_STEP s).PinsSpare := by
    obtain rfl | rfl : s = 0 ∨ s = 1 := by omega
    · decide
    · decide
  obtain ⟨hstate, hstep⟩ := hstat
  exact ((samePins_put h hstate _).trans (samePins_put _ hstep _)).trans (samePins_putB _ (by decide) _)

theorem samePins_trainBoth (h : Hw) (kept : Bool) : h.SamePins (h.trainBoth kept) := by
  rw [trainBoth_stages]
  exact ((samePins_hbmKept h kept).trans (samePins_trainStart _ (by decide) _)).trans
    (samePins_trainStart _ (by decide) _)

/-! ### The reset sequence -/

/-- A register that no system reset keeps reads its reset value after one. -/
theorem rd_sysCleared (h : Hw) {a : Nat} (ha : keptReg .system a = false) :
    h.sysCleared.rd a = (resetWord a).toNat := by
  have hregs : h.sysCleared.regs = h.regs.filter (fun e => keptReg .system e.1) := rfl
  rw [Hw.rd, hregs, SMap.get_filter, ha]
  rfl

theorem pinsIdle_sysCleared {h : Hw} (hi : irFreezes h.tap.ir = false) : h.sysCleared.PinsIdle where
  por := rfl
  pend := rfl
  pwr := by
    rw [Hw.pwr, Hw.get, rd_sysCleared h (by decide)]
    decide
  outEn := rfl
  drive := rfl
  err := by
    rw [Hw.get, rd_sysCleared h (by decide)]
    decide
  wakeOut := rfl
  channels := by
    rw [Hw.get, rd_sysCleared h (by decide)]
    decide
  ir := hi

/-- The TAP's release keeps its instruction or loads IDCODE. -/
theorem irFreezes_tapRelease {h : Hw} (hi : irFreezes h.tap.ir = false) : irFreezes h.tapRelease.tap.ir = false := by
  unfold Hw.tapRelease
  split
  · rfl
  · exact hi

theorem pinsIdle_systemSeq {h : Hw} (hi : irFreezes h.tap.ir = false) (keep : Bool) (seat boot : Nat) :
    (h.systemSeq keep seat boot).PinsIdle := by
  have hkept : irFreezes (h.fatalCode.keepHbm keep).tap.ir = false := by
    rw [(keepHbm_keeps h.fatalCode keep).1, (fatalCode_writes h).tap, hi]
  have hcleared := pinsIdle_sysCleared (irFreezes_tapRelease hkept)
  rw [systemSeq_stages]
  exact hcleared.of_samePins (((samePins_sysStrapped _ keep seat boot).trans (samePins_trainBoth _ keep)).trans
    (samePins_tapSettle _))

/-- Settles O15: the column POR of R1218, and the state that a system reset's sequence leaves. -/
theorem outputPins : Obligations.OutputPins := by
  refine ⟨fun s => ⟨_, exec_porDetect s, ?_⟩, fun s seat boot q hq hr hl hi => ?_⟩
  · refine pinOut_por ?_ (porDetect_verdict s.hw).1
    exact congrArg (fun t : TapState => irFreezes t.ir) (tap_porDetect s.hw)
  · obtain ⟨keep, hseq⟩ := systemReset_ready hq hr hl seat boot
    obtain ⟨hio, hdone, herr, hspi, hwake, hclk⟩ := pinOut_idle (pinsIdle_systemSeq hi keep seat boot)
    exact ⟨_, exec_of_upd (exec_systemReset seat boot s) hseq, hio, hdone, herr, hspi, hwake, fun g _ => hclk g⟩

end Sys2Proof.Machine
end

section
/-!
SUPPORT. Completion entries and the doorbells (R354-R361, R371): what posting an entry leaves of the state, and what a
doorbell write takes or refuses.
-/
namespace Sys2Proof.Machine

open Sys2Proof

/-! ### Bytes in Kitty (R346, R347) -/

/-- What was written over a range reads back as one list. -/
theorem Mem.bytes_write (m : Memory) (a : Nat) (bs : List Byte) : Mem.bytes (Mem.write m a bs) a bs.length = bs := by
  induction bs generalizing m a with
  | nil => rfl
  | cons b bs ih =>
    rw [List.length_cons, Mem.bytes, Mem.write, ih, Mem.get_write_out _ _ _ _ (.inl (Nat.lt_succ_self a)), Mem.get_set,
      if_pos rfl]

/-- Outside the holes of the ring area a write to Kitty is a plain one. -/
theorem kittyWrite_of_noHole (m : Memory) (a : Nat) (bs : List Byte) (hh : ∀ i < bs.length, kittyHole (a + i) = false) :
    kittyWrite m a bs = Mem.write m a bs := by
  induction bs generalizing m a with
  | nil => rfl
  | cons b bs ih =>
    have hfirst : kittyHole a = false := hh 0 (Nat.succ_pos _)
    have hrest : ∀ i < bs.length, kittyHole (a + 1 + i) = false := fun i hi => by
      rw [Nat.add_assoc, Nat.add_comm 1 i]
      exact hh (i + 1) (Nat.succ_lt_succ hi)
    rw [kittyWrite, hfirst, ih _ _ hrest]
    rfl

/-- The completion slots of a ring end where its hole begins. -/
theorem kittyHole_cplSlot (m i : Nat) {j : Nat} (hj : j < 16) : kittyHole (cplSlot m i + j) = false := by
  have hlow : ¬ 0x1400 ≤ (cplSlot m i + j) % 0x2000 := by
    simp only [cplSlot]
    omega
  rw [kittyHole, decide_eq_false hlow, Bool.and_false]

/-! ### Signals (R374-R377) -/

theorem raise_writes (h : Hw) (f : Fld) (k : Nat) : h.Writes (h.raise f k) := by
  simp only [Hw.raise, Hw.raiseAt]
  split
  · exact .wr ..
  · exact .wr ..

/-- `h` with what signalling a vector changes as it stands in `g`. -/
def Hw.signalled (h g : Hw) : Hw :=
  { h with regs := g.regs, mbx := { h.mbx with unsig := g.mbx.unsig }, pcie := g.pcie }

/-- `g` comes from `h` by signalling vectors: the counts of unsignalled completions, PCIe's queues and PCIE_FLAGS have
changed. -/
structure Hw.Signals (h g : Hw) : Prop where
  frame : g = h.signalled g
  rd : ∀ a, a ≠ R.PCIE_FLAGS → g.rd a = h.rd a

namespace Hw.Signals

theorem refl (h : Hw) : h.Signals h := ⟨rfl, fun _ _ => rfl⟩

theorem trans {h g k : Hw} (p : h.Signals g) (q : g.Signals k) : h.Signals k :=
  ⟨q.frame.trans (by rw [p.frame]; rfl), fun a ha => (q.rd a ha).trans (p.rd a ha)⟩

section
variable {h g : Hw} (p : h.Signals g)
include p

theorem mem : g.mem = h.mem := (congrArg Hw.mem p.frame :)
theorem tiles : g.tiles = h.tiles := (congrArg Hw.tiles p.frame :)
theorem mbx_infl : g.mbx.infl = h.mbx.infl := (congrArg (fun x => x.mbx.infl) p.frame :)

end

theorem of_writes {h g : Hw} (w : h.Writes g) (hr : ∀ a, a ≠ R.PCIE_FLAGS → g.rd a = h.rd a) : h.Signals g :=
  ⟨by rw [w.frame]; rfl, hr⟩

theorem setUnsig (h : Hw) (m n : Nat) : h.Signals (h.setUnsig m n) := ⟨rfl, fun _ _ => rfl⟩

theorem msixFire (h : Hw) (fn v : Nat) : h.Signals (h.msixFire fn v) := by
  simp only [Hw.msixFire]
  split
  · exact of_writes (raise_writes ..) fun a ha => rd_raise_ne h R.PCIE_FLAGS_IRQ_DROP 0 ha
  · split
    · exact ⟨rfl, fun _ _ => rfl⟩
    · exact ⟨rfl, fun _ _ => rfl⟩

theorem mbxSignal (h : Hw) (m : Nat) : h.Signals (h.mbxSignal m) := by
  unfold Hw.mbxSignal
  split
  · exact (setUnsig h m 0).trans (msixFire ..)
  · exact refl h

theorem mbxCounted (h : Hw) (m : Nat) (noirq : Bool) : h.Signals (h.mbxCounted m noirq) := by
  unfold Hw.mbxCounted
  split
  · exact refl h
  · refine (setUnsig h m (h.unsig m + 1)).trans ?_
    dsimp only
    split
    · exact mbxSignal ..
    · exact refl _

end Hw.Signals

/-! ### A completion of a command in flight (R354, R355, R371) -/

theorem cmd?_congr {h g : Hw} (e : g.mbx.infl = h.mbx.infl) (m k : Nat) : g.cmd? m k = h.cmd? m k := by
  rw [Hw.cmd?, e, Hw.cmd?]

/-- A command that leaves the table is no longer in flight. -/
theorem cmd?_retire (h : Hw) (m k : Nat) : (h.retire m k).cmd? m k = none := by
  rw [Hw.cmd?, List.find?_eq_none]
  intro f hf
  obtain ⟨-, hkept⟩ := List.mem_filter.mp hf
  simpa [imp_iff_not_or] using hkept

/-- The 16 bytes of a completion entry that takes index `i` (R354, R355). -/
def cplEntry (i tag status detail result : Nat) : List Byte :=
  leBytes 4 tag ++ leBytes 2 (status + 32768 * phaseOf i) ++ leBytes 2 detail ++ leBytes 8 result

theorem cplEntry_length (i tag status detail result : Nat) : (cplEntry i tag status detail result).length = 16 := by
  simp [cplEntry]

/-- An entry stands in its slot and MBX_CPL_TAIL has advanced. -/
def Hw.entryStands (h : Hw) (m : Nat) (e : List Byte) : Hw :=
  let i := h.get (R.MBX_CPL_TAIL_TAIL m)
  (h.kittyW (cplSlot m i) e).put (R.MBX_CPL_TAIL_TAIL m) ((i + 1) % 65536)

theorem postEntry_stages (h : Hw) (m tag : Nat) {status : Nat} (hst : status < 2 ^ 15) (detail result : Nat)
    (noirq : Bool) : h.postEntry m tag status detail result noirq =
      (h.entryStands m (cplEntry (h.get (R.MBX_CPL_TAIL_TAIL m)) tag status detail result)).mbxCounted m noirq := by
  have hmod : status % 32768 = status := Nat.mod_eq_of_lt hst
  simp only [Hw.postEntry, hmod]
  rfl

theorem complete_inFlight {h : Hw} {m k : Nat} {f : InFlight} (hf : h.cmd? m k = some f) (status detail result : Nat) :
    h.complete m k status detail result = (h.retire m k).postEntry m f.tag status detail result f.noirq := by
  rw [Hw.complete, hf]

section
variable (h : Hw) (m : Nat) {e : List Byte} (he : e.length = 16)

theorem get_tail_entryStands (e : List Byte) : (h.entryStands m e).get (R.MBX_CPL_TAIL_TAIL m) =
    (h.get (R.MBX_CPL_TAIL_TAIL m) + 1) % 65536 := by
  rw [Hw.entryStands, Hw.get_put_self _ _ _ (by simp [R.MBX_CPL_TAIL_TAIL]) (by simp [R.MBX_CPL_TAIL_TAIL])]
  exact Nat.mod_mod _ _

include he

theorem kitty_entryStands : (h.entryStands m e).mem.kitty =
    Mem.write h.mem.kitty (cplSlot m (h.get (R.MBX_CPL_TAIL_TAIL m))) e :=
  kittyWrite_of_noHole _ _ _ fun _ hj => kittyHole_cplSlot _ _ (he ▸ hj)

end

/-- Settles O25: the entry is written, then signalled, which touches neither Kitty nor the ring's indices. -/
theorem mailboxCompletion : Obligations.MailboxCompletion := by
  intro h m k st d r f hm hst _ _ hf
  have hlen := cplEntry_length (h.get (R.MBX_CPL_TAIL_TAIL m)) f.tag st d r
  have hpost := (complete_inFlight hf st d r).trans (postEntry_stages (h.retire m k) m f.tag hst d r f.noirq)
  have hsig := Hw.Signals.mbxCounted
    ((h.retire m k).entryStands m (cplEntry (h.get (R.MBX_CPL_TAIL_TAIL m)) f.tag st d r)) m f.noirq
  have hkitty : (h.complete m k st d r).mem.kitty = Mem.write h.mem.kitty
      (cplSlot m (h.get (R.MBX_CPL_TAIL_TAIL m))) (cplEntry (h.get (R.MBX_CPL_TAIL_TAIL m)) f.tag st d r) := by
    rw [hpost]
    exact (congrArg Mems.kitty hsig.mem).trans (kitty_entryStands (h.retire m k) m hlen)
  have hne : (R.MBX_CPL_TAIL_TAIL m).addr ≠ R.PCIE_FLAGS := by
    simp only [R.MBX_CPL_TAIL_TAIL, R.MBX_CPL_TAIL, R.PCIE_FLAGS]
    omega
  refine ⟨?_, ?_, ?_, fun a ha => ?_, ?_, ?_⟩
  · rw [hpost]
    exact (cmd?_congr hsig.mbx_infl m k).trans (cmd?_retire h m k)
  · rw [hpost]
    exact (get_of_rd (hsig.rd _ hne)).trans (get_tail_entryStands (h.retire m k) m _)
  · rw [hkitty, ← hlen]
    exact Mem.bytes_write ..
  · rw [hkitty]
    exact Mem.get_write_out _ _ _ _ (hlen.symm ▸ ha)
  · rw [hpost]
    exact hsig.mem.trans (congrArg (fun x : Mems => { h.mem with kitty := x.kitty, kittyP := x.kittyP }) hsig.mem.symm)
  · rw [hpost]
    exact hsig.tiles

/-! ### Doorbells (R356, R357, R384) -/

/-- The registers of the two doorbells of each of the 17 mailboxes belong to the mailbox block. -/
theorem doorbells_mbx : ∀ m < 17, (regDef? (R.MBX_DB_CMD m)).map RegDef.blk = some .mbx ∧
    (regDef? (R.MBX_DB_CPL m)).map RegDef.blk = some .mbx := by
  decide

theorem mdataCore_none {a : Nat} (ha : a < 0x40070000) : mdataCore a = none :=
  if_neg (by omega)

/-- A write of a register of the mailbox block that answers. -/
theorem regDo_mbx {h : Hw} {a : Nat} (v : Nat) (hb : (regDef? a).map RegDef.blk = some .mbx) (ha : a < 0x40070000)
    (hd : h.blkDown .mbx a = false) : ∃ r, h.regDo a v = h.writeMbx r a (v % 2 ^ 32) 640 := by
  obtain ⟨r, hr, hblk⟩ := Option.map_eq_some_iff.mp hb
  refine ⟨r, ?_⟩
  rw [Hw.regDo, regWrite_of_regDef h v _ hr (hblk ▸ hd) (mdataCore_none ha), Hw.regStore, hblk]

section
variable {h : Hw} {m : Nat} (v : Nat) (hm : m ≤ 16)
include hm

theorem regDo_dbCmd (hd : h.blkDown .mbx (R.MBX_DB_CMD m) = false) :
    h.regDo (R.MBX_DB_CMD m) v = h.dbCmd m (v % 2 ^ 32) := by
  obtain ⟨hblk, -⟩ := doorbells_mbx m (by omega)
  obtain ⟨r, e⟩ := regDo_mbx v hblk (by simp only [R.MBX_DB_CMD]; omega) hd
  have hpage : R.MBX_DB_CMD m < 0x40022000 := by simp only [R.MBX_DB_CMD]; omega
  have hofs : R.MBX_DB_CMD m % 0x100 = 0 := by simp only [R.MBX_DB_CMD]; omega
  have hmb : (R.MBX_DB_CMD m - 0x40020000) / 0x100 = m := by simp only [R.MBX_DB_CMD]; omega
  rw [e, Hw.writeMbx, if_pos hpage]
  simp only [hofs, hmb]

theorem regDo_dbCpl (hd : h.blkDown .mbx (R.MBX_DB_CPL m) = false) :
    h.regDo (R.MBX_DB_CPL m) v = h.dbCpl m (v % 2 ^ 32) := by
  obtain ⟨-, hblk⟩ := doorbells_mbx m (by omega)
  obtain ⟨r, e⟩ := regDo_mbx v hblk (by simp only [R.MBX_DB_CPL]; omega) hd
  have hpage : R.MBX_DB_CPL m < 0x40022000 := by simp only [R.MBX_DB_CPL]; omega
  have hofs : R.MBX_DB_CPL m % 0x100 = 4 := by simp only [R.MBX_DB_CPL]; omega
  have hmb : (R.MBX_DB_CPL m - 0x40020000) / 0x100 = m := by simp only [R.MBX_DB_CPL]; omega
  rw [e, Hw.writeMbx, if_pos hpage]
  simp only [hofs, hmb]

end

/-- The wake of a doorbell moves PWR_STATE alone of the registers (R124). -/
theorem rd_doorbellWakes (h : Hw) {a : Nat} (ha : a ≠ R.PWR_STATE) : h.doorbellWakes.rd a = h.rd a := by
  unfold Hw.doorbellWakes
  split
  · exact rd_pwrRest h _ ha
  · rfl

/-- So the ring's indices read through it as before. -/
theorem get_doorbellWakes (h : Hw) {f : Fld} (hf : 0x40020000 ≤ f.addr) : h.doorbellWakes.get f = h.get f :=
  get_of_rd (rd_doorbellWakes h (by simp only [R.PWR_STATE]; omega))

/-- An event leaves its one-bit flag set. -/
theorem is_raise (h : Hw) (f : Fld) (hf : f.hi = f.lo) (hlo : f.lo < 32) : (h.raise f 0).is f = true := by
  have hbit : bit ((h.raise f 0).rd f.addr) f.lo = true := bit_raise h f 0 hlo
  have hone : bits ((h.raise f 0).rd f.addr) f.hi f.lo = 1 := by
    rw [bits, hf, Nat.add_sub_cancel_left]
    exact beq_iff_eq.mp hbit
  rw [Hw.is, Hw.get, hone]
  rfl

/-- The distance between two free-running indices of 16 bits. -/
theorem subMod_index (a b : Nat) (hb : b < 65536) : subMod 16 a b = (a % 65536 + 65536 - b) % 65536 := by
  rw [subMod]
  omega

theorem mod_word_index (v : Nat) : v % 2 ^ 32 % 65536 = v % 65536 := Nat.mod_mod_of_dvd v (by decide)

/-- The distance of index `v` of mailbox `m` from its MBX_CMD_HEAD. -/
def Hw.fromHead (h : Hw) (m v : Nat) : Nat := (v + 65536 - h.get (R.MBX_CMD_HEAD_HEAD m)) % 65536

/-- The distance of MBX_CPL_TAIL of mailbox `m` from index `v`. -/
def Hw.toTail (h : Hw) (m v : Nat) : Nat := (h.get (R.MBX_CPL_TAIL_TAIL m) + 65536 - v) % 65536

section
variable {h : Hw} {m : Nat} (v : Nat)

theorem dbCmd_inReset (hr : h.flrRuns m = true) : h.dbCmd m v = h := if_pos (.inr hr)

theorem dbCpl_inReset (hr : h.flrRuns m = true) : h.dbCpl m v = h := if_pos (.inr hr)

variable (hm : m ≤ 16) (hr : h.flrRuns m = false)
include hm hr

/-- A write of the command doorbell is out of range, steps back or is taken (R356). -/
theorem dbCmd_cases : h.dbCmd m (v % 2 ^ 32) =
    if 64 < h.fromHead m (v % 65536) then h.doorbellWakes.raise (R.MBX_ERR_DB_RANGE m) 0
    else if h.fromHead m (v % 65536) < h.fromHead m (h.get (R.MBX_DB_CMD_TAIL m)) then
      h.doorbellWakes.raise (R.MBX_ERR_DB_BACK m) 0
    else h.doorbellWakes.put (R.MBX_DB_CMD_TAIL m) (v % 65536) := by
  have hhead : h.doorbellWakes.get (R.MBX_CMD_HEAD_HEAD m) = h.get (R.MBX_CMD_HEAD_HEAD m) :=
    get_doorbellWakes h (by simp only [R.MBX_CMD_HEAD_HEAD, R.MBX_CMD_HEAD]; omega)
  have htail : h.doorbellWakes.get (R.MBX_DB_CMD_TAIL m) = h.get (R.MBX_DB_CMD_TAIL m) :=
    get_doorbellWakes h (by simp only [R.MBX_DB_CMD_TAIL, R.MBX_DB_CMD]; omega)
  have hlt : h.get (R.MBX_CMD_HEAD_HEAD m) < 65536 := bits_lt _ 15 0
  have htl : h.get (R.MBX_DB_CMD_TAIL m) < 65536 := bits_lt _ 15 0
  have hguard : ¬ (17 ≤ m ∨ h.flrRuns m = true) := by
    rw [hr]
    simp only [Bool.false_eq_true, or_false]
    omega
  rw [Hw.dbCmd, if_neg hguard]
  simp only [hhead, htail, subMod_index _ _ hlt, mod_word_index, Nat.mod_mod, Nat.mod_eq_of_lt htl, Hw.fromHead]
  rfl

/-- A write of the completion doorbell is taken or out of range (R357). -/
theorem dbCpl_cases : h.dbCpl m (v % 2 ^ 32) =
    if h.toTail m (v % 65536) ≤ h.toTail m (h.get (R.MBX_DB_CPL_HEAD m)) then
      h.doorbellWakes.put (R.MBX_DB_CPL_HEAD m) (v % 65536)
    else h.doorbellWakes.raise (R.MBX_ERR_DB_RANGE m) 0 := by
  have htail : h.doorbellWakes.get (R.MBX_CPL_TAIL_TAIL m) = h.get (R.MBX_CPL_TAIL_TAIL m) :=
    get_doorbellWakes h (by simp only [R.MBX_CPL_TAIL_TAIL, R.MBX_CPL_TAIL]; omega)
  have hhead : h.doorbellWakes.get (R.MBX_DB_CPL_HEAD m) = h.get (R.MBX_DB_CPL_HEAD m) :=
    get_doorbellWakes h (by simp only [R.MBX_DB_CPL_HEAD, R.MBX_DB_CPL]; omega)
  have htl : h.get (R.MBX_CPL_TAIL_TAIL m) < 65536 := bits_lt _ 15 0
  have hlt : h.get (R.MBX_DB_CPL_HEAD m) < 65536 := bits_lt _ 15 0
  have hguard : ¬ (17 ≤ m ∨ h.flrRuns m = true) := by
    rw [hr]
    simp only [Bool.false_eq_true, or_false]
    omega
  have hidx : subMod 16 (h.get (R.MBX_CPL_TAIL_TAIL m)) (v % 2 ^ 32) = h.toTail m (v % 65536) := by
    rw [Hw.toTail, subMod]
    omega
  have hpos : subMod 16 (h.get (R.MBX_CPL_TAIL_TAIL m)) (h.get (R.MBX_DB_CPL_HEAD m)) =
      h.toTail m (h.get (R.MBX_DB_CPL_HEAD m)) := by
    rw [Hw.toTail, subMod_index _ _ hlt, Nat.mod_eq_of_lt htl]
  rw [Hw.dbCpl, if_neg hguard]
  simp only [htail, hhead, hidx, hpos, mod_word_index]

end

/-- A taken index reads back. -/
theorem get_index_put (h : Hw) (a v : Nat) : (h.put ⟨a, 15, 0⟩ (v % 65536)).get ⟨a, 15, 0⟩ = v % 65536 := by
  rw [Hw.get_put_self _ _ _ (Nat.zero_le 15) (by norm_num)]
  exact Nat.mod_mod v 65536

/-- A refused doorbell write leaves the index as it was. -/
theorem get_index_refused (h : Hw) {f g : Fld} (hf : 0x40020000 ≤ f.addr) (hg : f.addr ≠ g.addr) :
    (h.doorbellWakes.raise g 0).get f = h.get f :=
  (get_raise_ne _ g 0 hg).trans (get_doorbellWakes h hf)

section
variable (h : Hw) (m : Nat)

theorem get_cmdTail_refused {g : Fld} (hg : g.addr = R.MBX_ERR m) :
    (h.doorbellWakes.raise g 0).get (R.MBX_DB_CMD_TAIL m) = h.get (R.MBX_DB_CMD_TAIL m) := by
  refine get_index_refused h ?_ (hg ▸ ?_)
  all_goals
    simp only [R.MBX_DB_CMD_TAIL, R.MBX_DB_CMD, R.MBX_ERR]
    omega

theorem get_cplHead_refused {g : Fld} (hg : g.addr = R.MBX_ERR m) :
    (h.doorbellWakes.raise g 0).get (R.MBX_DB_CPL_HEAD m) = h.get (R.MBX_DB_CPL_HEAD m) := by
  refine get_index_refused h ?_ (hg ▸ ?_)
  all_goals
    simp only [R.MBX_DB_CPL_HEAD, R.MBX_DB_CPL, R.MBX_ERR]
    omega

theorem is_dbRange_raise : (h.raise (R.MBX_ERR_DB_RANGE m) 0).is (R.MBX_ERR_DB_RANGE m) = true :=
  is_raise h _ rfl (Nat.zero_lt_succ _)

theorem is_dbBack_raise : (h.raise (R.MBX_ERR_DB_BACK m) 0).is (R.MBX_ERR_DB_BACK m) = true :=
  is_raise h _ rfl (Nat.succ_lt_succ (Nat.zero_lt_succ _))

end

/-- A doorbell row writes its register. -/
theorem exec_doorbell {s : State} {i : Instr} {m a v : Nat} {g : Hw} (hm : m ≤ 16)
    (hi : exec i s = s.upd (fun h => if m ≤ 16 then h.regDo a v else h)) (e : s.hw.regDo a v = g) :
    exec i s = .next { s with hw := g } :=
  exec_of_upd hi ((if_pos hm).trans e)

/-- Settles O26: each doorbell's write by its cases, the index and the flag it leaves. -/
theorem doorbells : Obligations.Doorbells := by
  refine ⟨fun s m v hm hd hr hin hfwd => ⟨_, exec_doorbell hm (exec_mbxDbCmd m v s) (regDo_dbCmd v hm hd), ?_⟩,
    fun s m v hm hd hr hout => ⟨_, exec_doorbell hm (exec_mbxDbCmd m v s) (regDo_dbCmd v hm hd), ?_⟩,
    fun s m v hm hd hr hin hstep => ⟨_, exec_doorbell hm (exec_mbxDbCmd m v s) (regDo_dbCmd v hm hd), ?_⟩,
    fun s m v hm hd hr hin => ⟨_, exec_doorbell hm (exec_mbxDbCpl m v s) (regDo_dbCpl v hm hd), ?_⟩,
    fun s m v hm hd hr hout => ⟨_, exec_doorbell hm (exec_mbxDbCpl m v s) (regDo_dbCpl v hm hd), ?_⟩,
    fun s m v hm hd hr => exec_doorbell hm (exec_mbxDbCmd m v s) ((regDo_dbCmd v hm hd).trans (dbCmd_inReset _ hr)),
    fun s m v hm hd hr => exec_doorbell hm (exec_mbxDbCpl m v s) ((regDo_dbCpl v hm hd).trans (dbCpl_inReset _ hr))⟩
  · have e := (dbCmd_cases v hm hr).trans ((if_neg (Nat.not_lt.mpr hin)).trans (if_neg (Nat.not_lt.mpr hfwd)))
    exact ⟨e, e ▸ get_index_put ..⟩
  · have e := (dbCmd_cases v hm hr).trans (if_pos hout)
    exact ⟨e, e ▸ get_cmdTail_refused _ m rfl, e ▸ is_dbRange_raise ..⟩
  · have e := (dbCmd_cases v hm hr).trans ((if_neg (Nat.not_lt.mpr hin)).trans (if_pos hstep))
    exact ⟨e, e ▸ get_cmdTail_refused _ m rfl, e ▸ is_dbBack_raise ..⟩
  · have e := (dbCpl_cases v hm hr).trans (if_pos hin)
    exact ⟨e, e ▸ get_index_put ..⟩
  · have e := (dbCpl_cases v hm hr).trans (if_neg (Nat.not_le.mpr hout))
    exact ⟨e, e ▸ get_cplHead_refused _ m rfl, e ▸ is_dbRange_raise ..⟩

end Sys2Proof.Machine
end

section
/-!
SUPPORT. The rows of the mailbox block: takes, completions and events that the Dealer posts, timeouts, and the
assignment of a DMA engine (R359-R382, R401, R1157).
-/
namespace Sys2Proof.Machine

open Sys2Proof

/-! ### The arbiter's choice (R362, R363) -/

/-- Mailbox 16 is chosen where it is eligible, else what the turn of the partition mailboxes gives. -/
theorem eligible_of_turn {h : Hw} {turn : Option Nat} {b : Bool} {m : Nat}
    (ht : ∀ k, turn = some k → h.eligible k = true)
    (hc : (if h.eligible 16 && b then some 16 else turn) = some m) : h.eligible m = true := by
  split at hc
  case isTrue hmgmt =>
    obtain ⟨h16, -⟩ := Bool.and_eq_true_iff.mp hmgmt
    exact Option.some.inj hc ▸ h16
  case isFalse => exact ht m hc

/-- The arbiter serves an eligible mailbox. -/
theorem eligible_of_mbxChoice {h : Hw} {m : Nat} (hc : h.mbxChoice = some m) : h.eligible m = true := by
  refine eligible_of_turn (fun k hk => ?_) hc
  have hmem : k ∈ (List.range 16).filter h.eligible := by
    split at hk
    case h_1 hfind => exact Option.some.inj hk ▸ List.mem_of_find?_eq_some hfind
    case h_2 => exact List.mem_of_mem_head? hk
  exact (List.mem_filter.mp hmem).2

/-- It has fewer than 8 commands in flight. -/
theorem inflight_lt_of_eligible {h : Hw} {m : Nat} (he : h.eligible m = true) : (h.inflight m).length < 8 := by
  simp only [Hw.eligible, Bool.and_eq_true, decide_eq_true_eq] at he
  obtain ⟨⟨⟨-, hlt⟩, -⟩, -⟩ := he
  exact hlt

/-- A handle under which a command is in flight is the handle of one of the mailbox's commands. -/
theorem mem_handles_of_cmd? {h : Hw} {m k : Nat} (hk : (h.cmd? m k).isNone = false) :
    k ∈ (h.inflight m).map InFlight.hd := by
  obtain ⟨f, hf⟩ := Option.isSome_iff_exists.mp (Option.isNone_eq_false_iff.mp hk)
  have hfor := List.find?_some hf
  obtain ⟨hmb, hhd⟩ := Bool.and_eq_true_iff.mp hfor
  exact List.mem_map.mpr ⟨f, List.mem_filter.mpr ⟨List.mem_of_find?_eq_some hf, hmb⟩, beq_iff_eq.mp hhd⟩

/-- With fewer than 8 commands in flight the handle that a take is given is free: 8 handles do not fit among them. -/
theorem cmd?_freeHandle {h : Hw} {m : Nat} (hlt : (h.inflight m).length < 8) : h.cmd? m (h.freeHandle m) = none := by
  cases hfind : (List.range 8).find? (fun k => (h.cmd? m k).isNone) with
  | some k =>
    rw [Hw.freeHandle, hfind]
    have hfree := List.find?_some hfind
    exact Option.isNone_iff_eq_none.mp hfree
  | none =>
    have hsub : List.range 8 ⊆ (h.inflight m).map InFlight.hd := fun k hk =>
      mem_handles_of_cmd? (Bool.eq_false_iff.mpr (List.find?_eq_none.mp hfind k hk))
    have hle := (List.subperm_of_subset List.nodup_range hsub).length_le
    rw [List.length_range, List.length_map] at hle
    omega

/-! ### Takes (R359, R382, R1157) -/

/-- The command that a take of mailbox `m` puts in flight. -/
def Hw.takenCmd (h : Hw) (m : Nat) : InFlight :=
  { mb := m, hd := h.freeHandle m, seq := h.mbx.nextSeq,
    entry := Mem.bytes h.mem.kitty (cmdSlot m (h.get (R.MBX_CMD_HEAD_HEAD m))) 64, started := false }

theorem infl_take (h : Hw) (m : Nat) : (h.take m).mbx.infl = h.mbx.infl ++ [h.takenCmd m] := rfl

theorem cmd?_take {h : Hw} {m : Nat} (hfree : h.cmd? m (h.freeHandle m) = none) :
    (h.take m).cmd? m (h.freeHandle m) = some (h.takenCmd m) := by
  have hself : ((h.takenCmd m).mb == m && (h.takenCmd m).hd == h.freeHandle m) = true := by
    simp [Hw.takenCmd]
  rw [Hw.cmd?] at hfree
  rw [Hw.cmd?, infl_take, List.find?_append, hfree, Option.none_or]
  exact List.find?_cons_of_pos hself

theorem get_head_take (h : Hw) (m : Nat) : (h.take m).get (R.MBX_CMD_HEAD_HEAD m) =
    (h.get (R.MBX_CMD_HEAD_HEAD m) + 1) % 65536 :=
  (Hw.get_put_self _ (R.MBX_CMD_HEAD_HEAD m) _ (Nat.zero_le 15) (by simp [R.MBX_CMD_HEAD_HEAD])).trans (Nat.mod_mod _ _)

/-- Of the registers a take moves the index of its ring alone. -/
theorem rd_take (h : Hw) (m : Nat) {a : Nat} (ha : a ≠ R.MBX_CMD_HEAD m) : (h.take m).rd a = h.rd a :=
  Hw.rd_put_ne _ (R.MBX_CMD_HEAD_HEAD m) _ ha

/-- The checks of an entry read registers outside the mailbox block alone. -/
theorem checkFails_of_rd {h g : Hw} (e : ∀ a, a < 0x40020000 ∨ 0x40030000 ≤ a → g.rd a = h.rd a) (f : InFlight) :
    g.checkFails f = h.checkFails f := by
  have hrom : g.is R.SYS_FW_STAT_ROM_SVC = h.is R.SYS_FW_STAT_ROM_SVC := is_of_rd (e _ (.inl (by decide)))
  have hseat : g.seat = h.seat := get_of_rd (e _ (.inr (by decide)))
  have hspare : ∀ p, g.spare p = h.spare p := bitOf_of_rd (e _ (.inr (by decide)))
  have hbase : ∀ p, g.get (R.NOC_ISO_SLICE_SLICE_BASE p) = h.get (R.NOC_ISO_SLICE_SLICE_BASE p) := fun p =>
    get_of_rd (e _ (.inr (by simp only [R.NOC_ISO_SLICE_SLICE_BASE, R.NOC_ISO_SLICE]; omega)))
  have hlen : ∀ p, g.get (R.NOC_ISO_SLICE_SLICE_LEN p) = h.get (R.NOC_ISO_SLICE_SLICE_LEN p) := fun p =>
    get_of_rd (e _ (.inr (by simp only [R.NOC_ISO_SLICE_SLICE_LEN, R.NOC_ISO_SLICE]; omega)))
  simp only [Hw.checkFails, Hw.permitted, Hw.partReach, Hw.partBarred, Hw.inSlice, hrom, hseat, hspare, hbase, hlen]
  rfl

theorem checkFails_take (h : Hw) {m : Nat} (hm : m ≤ 16) (f : InFlight) :
    (h.take m).checkFails f = h.checkFails f :=
  checkFails_of_rd (fun a ha => rd_take h m (by simp only [R.MBX_CMD_HEAD]; omega)) f

/-- How the next entry of mailbox `m` ends as it is taken: poisoned, or by the first check that fails. -/
def Hw.takeVerdict (h : Hw) (m : Nat) : Option (Nat × Nat) :=
  if h.entryPoisoned m then some (stMEM_ERROR, 2) else h.checkFails (h.takenCmd m)

section
variable {h : Hw} {m : Nat} (hc : h.mbxChoice = some m) (hm : m ≤ 16)
include hc hm

theorem mbxNext_taken (hv : h.takeVerdict m = none) : h.mbxNext = h.take m := by
  have hcmd := cmd?_take (cmd?_freeHandle (inflight_lt_of_eligible (eligible_of_mbxChoice hc)))
  rw [Hw.takeVerdict] at hv
  simp only [Hw.mbxNext, hc, hcmd, checkFails_take h hm, hv]

theorem mbxNext_refused {st d : Nat} (hv : h.takeVerdict m = some (st, d)) :
    h.mbxNext = (h.take m).complete m (h.freeHandle m) st d 0 := by
  have hcmd := cmd?_take (cmd?_freeHandle (inflight_lt_of_eligible (eligible_of_mbxChoice hc)))
  rw [Hw.takeVerdict] at hv
  simp only [Hw.mbxNext, hc, hcmd, checkFails_take h hm, hv]

end

theorem takeVerdict_clean {h : Hw} {m : Nat} (hp : h.entryPoisoned m = false) :
    h.takeVerdict m = h.checkFails (h.takenCmd m) := by
  rw [Hw.takeVerdict, hp]
  rfl

theorem takeVerdict_poisoned {h : Hw} {m : Nat} (hp : h.entryPoisoned m = true) :
    h.takeVerdict m = some (0x19, 2) := if_pos hp

theorem mbxNext_idle {h : Hw} (hc : h.mbxChoice = none) : h.mbxNext = h := by
  rw [Hw.mbxNext, hc]

theorem mbxNextRow_idle {h : Hw} (hc : h.mbxChoice = none) : h.mbxNextRow = h := by
  rw [Hw.mbxNextRow, mbxNext_idle hc, ite_self]

theorem mbxNextRow_up {h : Hw} (hd : h.dealerUp = true) : h.mbxNextRow = h.mbxNext := if_pos hd

/-! ### What the Dealer posts (R379, R401) -/

section
variable {h : Hw} {m : Nat} (hd : h.dealerUp = true) (hm : m ≤ 16)
include hd hm

/-- A post for a handle completes it. -/
theorem postGoRow_completes {k : Nat} (hk : k < 8) : h.postGoRow m k = h.complete m k (h.get R.MBX_POST_SD_STATUS)
    (h.get R.MBX_POST_SD_DETAIL) (h.rd64 R.MBX_POST_RES_LO R.MBX_POST_RES_HI) := by
  have hmb : bits (m % 32 * 2 ^ 16 + k % 8 * 2 ^ 8) 20 16 = m := by
    simp only [bits, Nat.shiftRight_eq_div_pow]
    omega
  have hhd : bits (m % 32 * 2 ^ 16 + k % 8 * 2 ^ 8) 10 8 = k := by
    simp only [bits, Nat.shiftRight_eq_div_pow]
    omega
  have hev : bit (m % 32 * 2 ^ 16 + k % 8 * 2 ^ 8) 31 = false := by
    simp only [bit, Nat.shiftRight_eq_div_pow, beq_eq_false_iff_ne]
    omega
  simp only [Hw.postGoRow, hd, Hw.postGo, hmb, hhd, hev, Nat.not_lt.mpr hm, if_true, if_false, Bool.false_eq_true]

/-- A post with EVENT set posts an event. -/
theorem postEventRow_posts : h.postEventRow m = h.postEventSt m (h.get R.MBX_POST_SD_STATUS)
    (h.get R.MBX_POST_SD_DETAIL) (h.rd64 R.MBX_POST_RES_LO R.MBX_POST_RES_HI) := by
  have hmb : bits (2 ^ 31 + m % 32 * 2 ^ 16) 20 16 = m := by
    simp only [bits, Nat.shiftRight_eq_div_pow]
    omega
  have hev : bit (2 ^ 31 + m % 32 * 2 ^ 16) 31 = true := by
    simp only [bit, Nat.shiftRight_eq_div_pow, beq_iff_eq]
    omega
  simp only [Hw.postEventRow, hd, Hw.postGo, hmb, hev, Nat.not_lt.mpr hm, if_true, if_false]

end

section
variable {h : Hw} {m : Nat} (status code result : Nat)

theorem postEventSt_posted (he : h.events m = []) (hf : h.slotFree m = true) :
    h.postEventSt m status code result = h.postEntry m 0xFFFFFFFF status code result false := by
  rw [Hw.postEventSt, he, hf]
  rfl

theorem postEventSt_lost (hf : h.slotFree m = false) (hl : 32 ≤ (h.events m).length) :
    h.postEventSt m status code result = h.raise (R.MBX_ERR_EVT_LOST m) 0 := by
  rw [Hw.postEventSt, hf, Bool.and_false, if_neg Bool.false_ne_true, if_pos hl]

end

theorem dequeueEvent_posted {h : Hw} {m : Nat} {e : Evt} {l : List Evt} (he : h.events m = e :: l)
    (hf : h.slotFree m = true) : h.dequeueEvent m =
      ({ h with mbx := { h.mbx with events := lmapSet h.mbx.events m l } } : Hw).postEntry m 0xFFFFFFFF e.status e.code
        e.result false := by
  rw [Hw.dequeueEvent, he]
  exact if_pos hf

/-! ### Timeouts (R370, R371, R375) -/

theorem cfg_complete (h : Hw) (m k status detail result : Nat) :
    (h.complete m k status detail result).cfg = h.cfg :=
  (congrArg Hw.cfg (Hw.Posts.complete h m k status detail result).frame :)

/-- No load loses its data by a timeout where none waits for it. -/
theorem cmdTimeout_completes {h : Hw} {m k : Nat} {f : InFlight} (ht : h.is (R.MBX_CMD_TMO_MS m) = true)
    (hf : h.cmd? m k = some f) (hload : h.cfg.cmd = none) :
    h.cmdTimeout m k = ((h.orphan m k 8).complete m k 0x1A 0 0).raise (R.MBX_ERR_TMO m) 0 := by
  have hguard : (!h.is (R.MBX_CMD_TMO_MS m) || (h.cmd? m k).isNone) = false := by
    rw [ht, hf]
    rfl
  have hcfg : (((h.orphan m k 8).complete m k stTIMEOUT 0 0).raise (R.MBX_ERR_TMO m) 0).cfg.cmd = none := by
    rw [Hw.raise_cfg, cfg_complete]
    exact congrArg (Option.map (orphanRef m k 8)) hload
  rw [Hw.cmdTimeout, hguard, if_neg Bool.false_ne_true, loadLost_none hcfg]
  rfl

theorem coalTimeout_signals {h : Hw} {m : Nat} (hc : h.is (R.MBX_CTL_COAL_US m) = true) (hu : h.unsig m ≠ 0)
    (he : h.is (R.MBX_CTL_IRQ_EN m) = true) : h.coalTimeout m =
      (h.setUnsig m 0).msixFire (h.mbxVector m).1 (h.mbxVector m).2 := by
  rw [Hw.coalTimeout, hc, bne_iff_ne.mpr hu, Hw.mbxSignal, he]
  rfl

/-! ### DMA engines (R372, R1072) -/

theorem dmaAssign_assigns {h : Hw} {f : InFlight} {e a n : Nat} {rd : Bool} (hw : h.dmaWaiting = some f)
    (hdma : f.dma = some (rd, a, n))
    (he : (List.range 8).find? (fun e => !(h.pcie.engines.any (fun g => g.eng == e))) = some e)
    (ha : h.dmaAllowed (dmaFn f.mb) = true) : h.dmaAssign = { h with pcie := { h.pcie with
      engines := h.pcie.engines ++ [h.dmaIssue ⟨e, f.mb, f.hd, a, n, rd, [], []⟩] } } := by
  simp only [Hw.dmaAssign, hw, he, ha, hdma, Bool.not_true, if_false, Bool.false_eq_true]

/-- Settles O27, a lemma per row. -/
theorem mailboxFlow : Obligations.MailboxFlow :=
  ⟨fun s m hu hd hc hm hp hv => ⟨_, exec_of_sys (exec_mbxNext s) hu
      ((mbxNextRow_up hd).trans (mbxNext_taken hc hm ((takeVerdict_clean hp).trans hv))),
      get_head_take s.hw m, infl_take s.hw m, rfl, rfl⟩,
    fun s _ _ _ hu hd hc hm hp hv => exec_of_sys (exec_mbxNext s) hu
      ((mbxNextRow_up hd).trans (mbxNext_refused hc hm ((takeVerdict_clean hp).trans hv))),
    fun s _ hu hd hc hm hp => exec_of_sys (exec_mbxNext s) hu
      ((mbxNextRow_up hd).trans (mbxNext_refused hc hm (takeVerdict_poisoned hp))),
    fun s hu hc => exec_of_sys (exec_mbxNext s) hu (mbxNextRow_idle hc),
    fun s m k hu hd hm hk => exec_of_sys (exec_mbxPostGo m k s) hu (postGoRow_completes hd hm hk),
    fun s m hu hd hm he hf => exec_of_sys (exec_mbxPostEvent m s) hu
      ((postEventRow_posts hd hm).trans (postEventSt_posted _ _ _ he hf)),
    fun s m hu hd hm hf hl => exec_of_sys (exec_mbxPostEvent m s) hu
      ((postEventRow_posts hd hm).trans (postEventSt_lost _ _ _ hf hl)),
    fun s m _ _ hu he hf => exec_of_sys (exec_mbxEventDequeue m s) hu (dequeueEvent_posted he hf),
    fun s m k _ hu ht hf hload => exec_of_sys (exec_mbxCmdTimeout m k s) hu (cmdTimeout_completes ht hf hload),
    fun s m hu hc hn he => exec_of_sys (exec_mbxCoalTimeout m s) hu (coalTimeout_signals hc hn he),
    fun s _ _ _ _ _ hu hw hdma he ha => exec_of_sys (exec_dmaEngineAssign s) hu (dmaAssign_assigns hw hdma he ha)⟩

end Sys2Proof.Machine
end

section
/-!
SUPPORT. The device commands: NOP, INFO, RESET, register and memory access, POWER (R393, R405-R407, R426, R439).
-/
namespace Sys2Proof.Machine

open Sys2Proof

section
variable {h : Hw} {m k : Nat} {f : InFlight}

theorem nopCmd_ok (hf : h.cmdFor m k 0x0000 = some f) : h.nopCmd m k = h.complete m k 0 0 0 := onCmd_found hf _

theorem exec_nop_mailbox {s : State} (cyc : Nat) (hd : s.hw.dealerUp = true) (hf : s.hw.cmdFor m k 0x0000 = some f) :
    exec (.nop (.mailbox m k) cyc) s = .next { s with hw := s.hw.complete m k 0 0 0 } :=
  exec_of_upd (exec_nop (.mailbox m k) cyc s) ((if_pos hd).trans (nopCmd_ok hf))

/-- Firmware that reads every settings record answers OK (R426, R439). -/
theorem info_ok {v : Nat} (hf : h.cmdFor m k 0x0001 = some f) (hv : h.infoValue (f.par 0 1) = some v)
    (hrom : h.is R.SYS_FW_STAT_ROM_SVC = false) (hn : h.unreadable 0 + h.unreadable 1 = 0) :
    h.info m k = h.complete m k 0 0 v := by
  rw [Hw.info, onCmd_found hf, hv, hrom, hn]
  rfl

theorem rstReqWrite_core (h : Hw) : h.rstReqWrite (0x5A00 + 1) = h.resetReq .core rcCORE_CMD false false := by
  rw [Hw.rstReqWrite, if_neg (by decide)]
  rfl

/-- With no completion left to signal, a RESET of level 1 goes on to its request. -/
theorem resetCmd_core (hf : h.cmdFor m k 0x0002 = some f) (hl : f.par 0 1 = 1)
    (hu : (h.complete m k 0 0 0).unsig m = 0) :
    h.resetCmd m k = (h.complete m k 0 0 0).resetReq .core rcCORE_CMD false false := by
  have hsent : (if (h.ok m k 0).unsig m = 0 then h.ok m k 0 else (h.ok m k 0).mbxSignal m) = h.complete m k 0 0 0 :=
    if_pos hu
  have hrange : ¬ (f.par 0 1 = 0 ∨ 2 < f.par 0 1) := by omega
  rw [Hw.resetCmd, onCmd_found hf]
  dsimp only
  rw [if_neg hrange, hsent, hl, rstReqWrite_core]

theorem regReadCmd_ok {ans : UAns} {v : Nat} {g : Hw} (hf : h.cmdFor m k 0x0003 = some f)
    (hr : h.dmapRead (f.par 0 4) 4 ans = (.ok v, g)) : h.regReadCmd m k ans = g.complete m k 0 0 v := by
  rw [Hw.regReadCmd, onCmd_found hf, hr]
  rfl

theorem regWriteCmd_ok {ans : UAns} {v : Nat} {g : Hw} (hf : h.cmdFor m k 0x0004 = some f)
    (hr : h.dmapWrite (f.par 0 4) (leBytes 4 (f.par 4 4)) 640 ans = (.ok v, g)) :
    h.regWriteCmd m k ans = g.complete m k 0 0 0 := by
  rw [Hw.regWriteCmd, onCmd_found hf, hr]
  rfl

/-- A read of up to 8 bytes without a host buffer answers in RESULT. -/
theorem memRead_inline {far : Memory} {ans : List (Nat × UAns)} {bs : List Byte} {g : Hw}
    (hf : h.cmdFor m k 0x0005 = some f) (hp : memPar f = none) (hh : f.par 16 8 = 0) (hn : f.par 8 4 ≤ 8)
    (hr : Hw.readPieces far (ansAt ans) (h.dealerPieces (f.par 0 8) (f.par 8 4) false) h = some (0, bs, g)) :
    h.memRead m k far ans = g.complete m k 0 0 (ofLe bs) := by
  have hinl : (f.par 16 8 == 0 && decide (f.par 8 4 ≤ 8)) = true := by
    rw [hh, decide_eq_true hn]
    rfl
  rw [Hw.memRead, onCmd_found hf, hp]
  dsimp only
  rw [hinl, hr]
  rfl

/-- A write of up to 32 bytes without a host buffer takes them from the entry (R405). -/
theorem memWrite_inline {farOk : Bool} {ans : List (Nat × UAns)} {g : Hw}
    (hf : h.cmdFor m k 0x0006 = some f) (hp : memPar f = none) (hh : f.par 16 8 = 0) (hn : f.par 8 4 ≤ 32)
    (hw : Hw.writePieces farOk (ansAt ans) (h.dealerPieces (f.par 0 8) (f.par 8 4) true)
      ((f.entry.drop 32).take (f.par 8 4)) h = some (0, g)) :
    h.memWrite m k farOk ans = g.complete m k 0 0 0 := by
  have hinl : (f.par 16 8 == 0 && decide (f.par 8 4 ≤ 32)) = true := by
    rw [hh, decide_eq_true hn]
    rfl
  rw [Hw.memWrite, onCmd_found hf, hp]
  dsimp only
  rw [hinl, if_pos rfl]
  dsimp only
  rw [hw]
  rfl

theorem powerCmd_badTarget (hf : h.cmdFor m k 0x0007 = some f) (ht : 4 < f.par 0 1) :
    h.powerCmd m k = h.complete m k 0x12 0 0 := by
  rw [Hw.powerCmd, onCmd_found hf]
  exact if_pos ht

/-- A permitted target short of the sleep states takes effect before the answer (R406). -/
theorem powerCmd_goes (hf : h.cmdFor m k 0x0007 = some f) (ht : f.par 0 1 ≤ 2)
    (hb : h.is R.PWR_STATE_BUSY = false) (ha : h.pwrAllowed (f.par 0 1) = true) :
    h.powerCmd m k = (h.pwrGo (f.par 0 1)).complete m k 0 0 ((h.pwrGo (f.par 0 1)).rd R.PWR_STATE) := by
  have hlisted : ¬ 4 < f.par 0 1 := by omega
  have hawake : ¬ 3 ≤ f.par 0 1 := by omega
  have hjudged : (!h.is R.PWR_STATE_BUSY && !h.pwrAllowed (f.par 0 1)) = false := by
    rw [hb, ha]
    rfl
  rw [Hw.powerCmd, onCmd_found hf]
  dsimp only
  rw [if_neg hlisted, hjudged, if_neg Bool.false_ne_true, if_neg hawake, pwrTarget_allowed (by omega) hb ha]
  rfl

end

/-- Settles O28, a lemma per command. -/
theorem deviceCommands : Obligations.DeviceCommands :=
  ⟨fun _ _ _ _ cyc hd hf => exec_nop_mailbox cyc hd hf,
    fun s m k _ _ hd hf hv hrom hn => exec_of_dealer (exec_info m k s) hd (info_ok hf hv hrom hn),
    fun s m k _ hd hf hl hu => exec_of_dealer (exec_reset m k s) hd (resetCmd_core hf hl hu),
    fun s m k _ ans _ _ hd hf hr => exec_of_dealer (exec_regRead m k ans s) hd (regReadCmd_ok hf hr),
    fun s m k _ ans _ _ hd hf hr => exec_of_dealer (exec_regWrite m k ans s) hd (regWriteCmd_ok hf hr),
    fun s m k _ far ans _ _ hd hf hp hh hn hr =>
      exec_of_dealer (exec_memRead m k far ans s) hd (memRead_inline hf hp hh hn hr),
    fun s m k _ farOk ans _ hd hf hp hh hn hw =>
      exec_of_dealer (exec_memWrite m k farOk ans s) hd (memWrite_inline hf hp hh hn hw),
    fun s m k _ hd hf ht => exec_of_dealer (exec_power m k s) hd (powerCmd_badTarget hf ht),
    fun s m k _ hd hf ht hb ha => exec_of_dealer (exec_power m k s) hd (powerCmd_goes hf ht hb ha)⟩

end Sys2Proof.Machine
end

section
/-!
SUPPORT. The partition commands on a released seat, each by the checks they share (R381, R403, R409, R675, R798-R846).
-/
namespace Sys2Proof.Machine

open Sys2Proof

/-- A command on a partition that is not fused off acts, its parameters in range and the fabric released. -/
theorem partCmd_acts {h : Hw} {m k op : Nat} {f : InFlight} {par : InFlight → Option Nat} {fusedOk : Bool}
    (act : InFlight → Nat → Hw) (hf : h.cmdFor m k op = some f) (hp : f.part < 16) (hpar : par f = none)
    (hr : h.is R.CFG_STAT_RELEASED = true) (hu : h.fused f.part = false) :
    h.partCmd m k op par fusedOk act = act f f.part := by
  rw [Hw.partCmd, onCmd_found hf]
  dsimp only
  rw [if_neg (Nat.not_le.mpr hp), hpar]
  dsimp only
  rw [Hw.whenReleased, if_pos hr, hu, if_neg Bool.false_ne_true]

section
variable {h : Hw} {m k : Nat} {f : InFlight} (hp : f.part < 16) (hr : h.is R.CFG_STAT_RELEASED = true)
  (hu : h.fused f.part = false)
include hp hr hu

/-- PART_OPEN of a partition that is no spare is judged by the partition's state. -/
theorem partOpen_judged (hf : h.cmdFor m k 0x0100 = some f) (hpar : openPar f = none) (hs : h.spare f.part = false) :
    h.partOpen m k =
      if h.pstate f.part != pOFF && h.pstate f.part != pFOLDED then h.wrongState m k (h.pstate f.part)
      else if f.par 1 1 = 1 ∧ 4 ≤ h.graphicsCount then h.complete m k stNO_RESOURCE 2 0
      else (h.openPart f.part (f.par 1 1) (f.par 4 4) (f.par 8 4)).ok m k
        ((h.openPart f.part (f.par 1 1) (f.par 4 4) (f.par 8 4)).pstate f.part) := by
  rw [Hw.partOpen, onCmd_found hf]
  dsimp only
  rw [hs, Bool.and_false, if_neg Bool.false_ne_true, partCmd_acts _ hf hp hpar hr hu]

theorem partOpen_opens (hf : h.cmdFor m k 0x0100 = some f) (hpar : openPar f = none) (hs : h.spare f.part = false)
    (hst : h.pstate f.part = 0 ∨ h.pstate f.part = 1) (hg : f.par 1 1 = 0 ∨ h.graphicsCount < 4) :
    h.partOpen m k = (h.openPart f.part (f.par 1 1) (f.par 4 4) (f.par 8 4)).complete m k 0 0
      ((h.openPart f.part (f.par 1 1) (f.par 4 4) (f.par 8 4)).pstate f.part) := by
  have hclosed : (h.pstate f.part != pOFF && h.pstate f.part != pFOLDED) = false := by
    rcases hst with e | e <;> rw [e] <;> rfl
  rw [partOpen_judged hp hr hu hf hpar hs, hclosed, if_neg Bool.false_ne_true, if_neg (by omega)]
  rfl

theorem partOpen_wrongState (hf : h.cmdFor m k 0x0100 = some f) (hpar : openPar f = none) (hs : h.spare f.part = false)
    (hoff : h.pstate f.part ≠ 0) (hfolded : h.pstate f.part ≠ 1) :
    h.partOpen m k = h.complete m k 0x15 (h.pstate f.part) 0 := by
  have hopen : (h.pstate f.part != pOFF && h.pstate f.part != pFOLDED) = true :=
    Bool.and_eq_true_iff.mpr ⟨bne_iff_ne.mpr hoff, bne_iff_ne.mpr hfolded⟩
  rw [partOpen_judged hp hr hu hf hpar hs, hopen, if_pos rfl]
  rfl

theorem partFold_requests (hf : h.cmdFor m k 0x0101 = some f) (hlo : 2 ≤ h.pstate f.part) (hhi : h.pstate f.part ≤ 4) :
    h.partFold m k = (h.begun m k).foldRequest f.part false [32 * m + k] := by
  have hst : h.pstate f.part = 2 ∨ h.pstate f.part = 3 ∨ h.pstate f.part = 4 := by omega
  have hfolds : (!h.popen f.part && h.pstate f.part != pFAULT) = false := by
    rw [Hw.popen]
    rcases hst with e | e | e <;> rw [e] <;> rfl
  rw [Hw.partFold, partCmd_acts _ hf hp rfl hr hu, hfolds, if_neg Bool.false_ne_true]

theorem partFold_wrongState (hf : h.cmdFor m k 0x0101 = some f) (hlt : h.pstate f.part < 2) :
    h.partFold m k = h.complete m k 0x15 (h.pstate f.part) 0 := by
  have hst : h.pstate f.part = 0 ∨ h.pstate f.part = 1 := by omega
  have hclosed : (!h.popen f.part && h.pstate f.part != pFAULT) = true := by
    rw [Hw.popen]
    rcases hst with e | e <;> rw [e] <;> rfl
  rw [Hw.partFold, partCmd_acts _ hf hp rfl hr hu, hclosed, if_pos rfl]
  rfl

theorem partOff_gates (hf : h.cmdFor m k 0x0102 = some f) (hst : h.pstate f.part = 1) :
    h.partOff m k = ((({ h with noc := { h.noc with gated := NSet.add h.noc.gated f.part } } : Hw).clearPart
      f.part).put (R.SYS_PART_STAT_STATE f.part) 0).complete m k 0 0 0 := by
  rw [Hw.partOff, partCmd_acts _ hf hp rfl hr hu, hst]
  rfl

theorem partPace_writes (hf : h.cmdFor m k 0x0103 = some f) (hfl : f.par 1 1 ≤ f.par 2 1) (hce : f.par 2 1 ≤ 28)
    (hband : f.par 3 1 < f.par 4 1) (h4 : f.par 5 1 % 4 = 0) (hlo : 4 ≤ f.par 5 1) (hhi : f.par 5 1 ≤ 64) :
    h.partPace m k = ((((((h.put (R.PACE_CFG_FLOOR f.part) (f.par 1 1)).put (R.PACE_CFG_CEIL f.part)
      (f.par 2 1)).put (R.PACE_CFG_WIN_US f.part) (f.par 5 1)).put (R.PACE_BAND_LO f.part) (f.par 3 1)).put
      (R.PACE_BAND_HI f.part) (f.par 4 1)).govStart f.part false).complete m k 0 0 0 := by
  have hwin : (f.par 5 1 % 4 != 0 || decide (f.par 5 1 < 4) || decide (64 < f.par 5 1)) = false := by
    rw [h4, decide_eq_false (by omega), decide_eq_false (by omega)]
    rfl
  have hpar : pacePar f = none := by
    rw [pacePar, if_neg (by omega), if_neg (by omega), if_neg (by omega), hwin, if_neg Bool.false_ne_true]
  rw [Hw.partPace, partCmd_acts _ hf hp hpar hr hu]
  rfl

/-- PART_BW with parameters in range writes its shares where their sums fit. -/
theorem partBw_judged (hf : h.cmdFor m k 0x0104 = some f) (hmode : f.par 1 1 ≤ 1) (hrd : f.par 2 1 ≤ 16)
    (hwr : f.par 3 1 ≤ 16) (hrem : f.par 4 1 ≤ 16) {g : Hw}
    (hg : g = h.wr (R.PACE_BW f.part) (f.par 1 1 + f.par 2 1 * 0x100 + f.par 3 1 * 0x10000 + f.par 4 1 * 0x1000000)) :
    h.partBw m k = if g.sharesFit then g.complete m k 0 0 0 else h.complete m k 0x17 3 0 := by
  have hpar : bwPar f = none := by
    rw [bwPar, if_neg (by omega), if_neg (by omega), if_neg (by omega), if_neg (by omega)]
  rw [Hw.partBw, partCmd_acts _ hf hp hpar hr hu, Hw.setBw]
  simp only [Nat.reducePow, ← hg]
  cases g.sharesFit with
  | true => rfl
  | false => rfl

end

theorem partStatus_ok {h : Hw} {m k : Nat} {f : InFlight} (hf : h.cmdFor m k 0x0108 = some f) (hp : f.part < 16)
    (hu : h.fused f.part = false) : h.partStatus m k = h.complete m k 0 0 (h.pstate f.part +
      h.get (R.SYS_TCLK_CUR_STEP f.part) * 2 ^ 8 + h.get (R.PACE_STAT_F f.part) * 2 ^ 16 +
      (h.pt f.part).job * 2 ^ 32) := by
  rw [Hw.partStatus, onCmd_found hf]
  dsimp only
  rw [if_neg (Nat.not_le.mpr hp), hu, if_neg Bool.false_ne_true]
  rfl

/-- Settles O30, a lemma per command and outcome. -/
theorem partitionCommands : Obligations.PartitionCommands :=
  ⟨fun s m k _ hd hf hp hr hu hpar hs hst hg =>
      exec_of_dealer (exec_partOpen m k s) hd (partOpen_opens hp hr hu hf hpar hs hst hg),
    fun s m k _ hd hf hp hr hu hpar hs hoff hfolded =>
      exec_of_dealer (exec_partOpen m k s) hd (partOpen_wrongState hp hr hu hf hpar hs hoff hfolded),
    fun s m k _ hd hf hp hr hu hlo hhi =>
      exec_of_dealer (exec_partFold m k s) hd (partFold_requests hp hr hu hf hlo hhi),
    fun s m k _ hd hf hp hr hu hlt => exec_of_dealer (exec_partFold m k s) hd (partFold_wrongState hp hr hu hf hlt),
    fun s m k _ hd hf hp hr hu hst => exec_of_dealer (exec_partOff m k s) hd (partOff_gates hp hr hu hf hst),
    fun s m k _ hd hf hp hr hu hfl hce hband h4 hlo hhi =>
      exec_of_dealer (exec_partPace m k s) hd (partPace_writes hp hr hu hf hfl hce hband h4 hlo hhi),
    fun s m k _ _ hd hf hp hr hu hmode hrd hwr hrem hg hfit => exec_of_dealer (exec_partBw m k s) hd
      ((partBw_judged hp hr hu hf hmode hrd hwr hrem hg).trans (if_pos hfit)),
    fun s m k _ hd hf hp hr hu hmode hrd hwr hrem hfit => exec_of_dealer (exec_partBw m k s) hd
      ((partBw_judged hp hr hu hf hmode hrd hwr hrem rfl).trans (if_neg (Bool.eq_false_iff.mp hfit))),
    fun s m k _ hd hf hp hu => exec_of_dealer (exec_partStatus m k s) hd (partStatus_ok hf hp hu)⟩

end Sys2Proof.Machine
end

section
/-!
SUPPORT. Settings, firmware, the error log and the self-test as commands, the boot ROM's choice of a slot, and the write
pulses of the MRAM (R411-R470, R1170).
-/
namespace Sys2Proof.Machine

open Sys2Proof

/-! ### Settings (R436, R440, R443, R469, R470) -/

theorem setRead_absent {h : Hw} {m k : Nat} {f : InFlight} (hf : h.cmdFor m k 0x0700 = some f)
    (hv : h.valueOf (f.par 0 2) = none) : h.setRead m k = h.logWalk.complete m k 0 0 0xFFFF := by
  rw [Hw.setRead, onCmd_found hf]
  dsimp only
  rw [hv]
  rfl

theorem runSlot_lt (h : Hw) : h.runSlot < 2 := bits_lt _ R.SYS_FW_STAT_SLOT.hi R.SYS_FW_STAT_SLOT.lo

/-- A write in range passes its checks where the running slot's region has no record that cannot be read. -/
theorem setBad_none {h : Hw} {f : InFlight} (h0 : f.par 0 2 ≠ 0) (hF : f.par 0 2 ≠ 0xFFFF) (hl : f.par 16 4 ≤ 4064)
    (hu : h.unreadable h.runSlot = 0) : h.setBad f = none := by
  have hroom : (h.unreadable 0 != 0 && h.unreadable 1 != 0) = false := by
    have hslot : h.runSlot = 0 ∨ h.runSlot = 1 :=
      Nat.le_one_iff_eq_zero_or_eq_one.mp (Nat.lt_succ_iff.mp (runSlot_lt h))
    rcases hslot with e | e
    · rw [e] at hu
      rw [hu]
      rfl
    · rw [e] at hu
      rw [hu]
      exact Bool.and_false _
  rw [Hw.setBad, if_neg (by omega), if_neg (Nat.not_lt.mpr hl), hroom, if_neg Bool.false_ne_true]

/-- With no earlier MRAM command under way, a row of a command that writes the MRAM acts (R461). -/
theorem mramRow_acts {h : Hw} {m k op : Nat} {f : InFlight} (act : InFlight → Hw) (hc : h.fw.cmd = none)
    (hf : h.cmdFor m k op = some f) : h.mramRow m k op act = act f := by
  rw [Hw.mramRow, hc]
  exact onCmd_found hf act

section
variable {h : Hw} {m k : Nat} {f : InFlight} (hc : h.fw.cmd = none)
include hc

theorem setWrite_queues {bs : List Byte} {w : List MWrite} {q : Nat} (hf : h.cmdFor m k 0x0701 = some f)
    (hb : h.setBad f = none) (hu : h.unreadable h.runSlot = 0) (hin : h.hostIn m k (f.par 16 4) = some bs)
    (hq : q = ((h.regionWalk 0).1 ++ (h.regionWalk 1).1).foldl (fun (a : Nat) x => max a x.seq) 0)
    (hw : h.appendWrites h.runSlot (f.par 0 2) (q + 1) bs = (w, false)) :
    h.setWrite m k = h.logWalk.mramCmd m k w 0 0 (q + 1) := by
  rw [Hw.setWrite, mramRow_acts _ hc hf, hb]
  dsimp only
  rw [hin]
  dsimp only
  rw [if_pos hu, ← hq, hw]
  exact if_neg Bool.false_ne_true

/-! ### Updates (R428, R452-R457) -/

theorem fwWrite_queues {bs : List Byte} (hf : h.cmdFor m k 0x0702 = some f) (hb : h.fwBad f = none)
    (hin : h.hostIn m k (f.par 16 4) = some bs) : h.fwWrite m k = h.mramCmd m k
      (if f.par 4 4 = 0 ∧ 0 < f.par 16 4 then
        groupWrites (slotBase (f.par 0 1) + f.par 4 4) bs ++ [ctlWriteOf (f.par 0 1) ⟨0, 0, false⟩]
      else groupWrites (slotBase (f.par 0 1) + f.par 4 4) bs) 0 0 0 := by
  rw [Hw.fwWrite, mramRow_acts _ hc hf, hb]
  dsimp only
  rw [hin]
  rfl

theorem fwSelect_judged (hf : h.cmdFor m k 0x0703 = some f) (hs : f.par 0 1 ≤ 1) : h.fwSelect m k =
    if h.slotState (f.par 0 1) = 5 then
      h.mramCmd m k [ctlWriteOf (f.par 0 1) ⟨(h.slotCtl (1 - f.par 0 1)).pref + 1, 0, false⟩] 0 0
        ((h.slotCtl (1 - f.par 0 1)).pref + 1)
    else h.complete m k 0x15 (h.slotState (f.par 0 1)) 0 := by
  rw [Hw.fwSelect, mramRow_acts _ hc hf]
  dsimp only
  rw [if_neg (by omega), if_neg (by omega), ite_not]
  rfl

theorem fwConfirm_queues (hf : h.cmdFor m k 0x0703 = some f) (hs : f.par 0 1 = 2) : h.fwConfirm m k =
    h.mramCmd m k [ctlWriteOf h.runSlot { h.slotCtl h.runSlot with tries := 0, conf := true }] 0 0 0 := by
  rw [Hw.fwConfirm, mramRow_acts _ hc hf]
  exact if_neg (not_not_intro hs)

end

theorem fwBad_none {h : Hw} {f : InFlight} (hs : f.par 0 1 ≤ 1) (hrun : f.par 0 1 ≠ h.runSlot)
    (ho : f.par 4 4 % 32 = 0) (hl : f.par 16 4 % 32 = 0) (hend : f.par 4 4 + f.par 16 4 ≤ 0xFFFE0) :
    h.fwBad f = none := by
  have hlen : (f.par 16 4 % 32 != 0 || decide (0xFFFE0 < f.par 4 4 + f.par 16 4)) = false := by
    rw [hl, decide_eq_false (Nat.not_lt.mpr hend)]
    rfl
  have hidle : ¬ (f.par 0 1 = h.runSlot ∧ (!h.is R.SYS_FW_STAT_ROM_SVC) = true) := fun hboth => hrun hboth.1
  rw [Hw.fwBad, if_neg (Nat.not_lt.mpr hs), ho, if_neg (by decide), hlen, if_neg Bool.false_ne_true, if_neg hidle]

/-! ### Diagnostics (R411, R1170) -/

theorem logRead_copies {h : Hw} {m k : Nat} {f : InFlight} (hf : h.cmdFor m k 0x0F00 = some f)
    (hfirst : f.par 0 2 ≤ 4095) (hlo : 1 ≤ f.par 2 2) (hhi : f.par 2 2 ≤ 4096) (hr : h.hostReady m k = true)
    (hclean : (logSlots (f.par 0 2) (f.par 2 2)).any
      (fun e => poisonIn 32 h.mem.kittyP (logBase + 32 * e) 32) = false) :
    h.logRead m k = (h.hostOut m k ((logSlots (f.par 0 2) (f.par 2 2)).map
      (fun e => Mem.bytes h.mem.kitty (logBase + 32 * e) 32)).flatten).complete m k 0 0
        ((f.par 0 2 + f.par 2 2) % 4096 + 2 ^ 32 * h.get R.ERR_LOG_WIDX_WIDX) := by
  have hpar : logPar f = none := by
    rw [logPar, if_neg (by omega), if_neg (by omega)]
  have hready : (!h.hostOutReady m k (32 * f.par 2 2)) = false := by
    rw [Hw.hostOutReady, hr, Bool.or_true]
    rfl
  rw [Hw.logRead, onCmd_found hf]
  dsimp only
  rw [hpar]
  dsimp only
  rw [hready, if_neg Bool.false_ne_true, hclean, if_neg Bool.false_ne_true]
  rfl

theorem selfTest_free {h : Hw} {m k : Nat} {f : InFlight} (hf : h.cmdFor m k 0x0F01 = some f) :
    h.selfTest m k = (h.takeFree 32).2.complete m k 0 0 ((h.takeFree 32).1 &&& f.par 0 4) :=
  onCmd_found hf _

/-! ### The boot ROM's choice (R413, R421-R428) -/

/-- `g` comes from `h` by error reports: the collector and the registers have changed. -/
structure Hw.Reports (h g : Hw) : Prop where
  frame : g = { h with regs := g.regs, err := g.err }

namespace Hw.Reports

theorem refl (h : Hw) : h.Reports h := ⟨rfl⟩

theorem trans {h g k : Hw} (p : h.Reports g) (q : g.Reports k) : h.Reports k :=
  ⟨q.frame.trans (by rw [p.frame])⟩

section
variable {h g : Hw} (p : h.Reports g)
include p

theorem mem : g.mem = h.mem := (congrArg Hw.mem p.frame :)
theorem tiles : g.tiles = h.tiles := (congrArg Hw.tiles p.frame :)
theorem fw : g.fw = h.fw := (congrArg Hw.fw p.frame :)
theorem tap : g.tap = h.tap := (congrArg Hw.tap p.frame :)
theorem ident : g.ident = h.ident := (congrArg Hw.ident p.frame :)

end

theorem of_writes {h g : Hw} (w : h.Writes g) : h.Reports g := ⟨by rw [w.frame]; rfl⟩

theorem errAt (h : Hw) (cls code node : Nat) : h.Reports (h.errAt cls code node) := by
  rw [errAt_frame]
  exact ⟨rfl⟩

/-- Uncorrectable groups that a read meets are reported, each with the flag UE. -/
theorem mramUE (h : Hw) (a n : Nat) : h.Reports (h.mramUE a n) :=
  foldl_steps refl trans _ (fun g _ _ => (of_writes (raise_writes g R.SYS_MRAM_ERR_UE 0)).trans (errAt ..)) h

end Hw.Reports

/-- Reports leave a slot's state, which is read from the MRAM. -/
theorem slotState_reports {h g : Hw} (p : h.Reports g) (s : Nat) : g.slotState s = h.slotState s := by
  rw [p.frame]
  rfl

theorem slotState_boot (h : Hw) (b : Bool) (s : Nat) :
    ({ h with fw := { h.fw with boot := b } } : Hw).slotState s = h.slotState s := rfl

/-- The boot ROM has met the two slots: what reads uncorrectable in them is reported. -/
def Hw.bootChecked (h : Hw) : Hw :=
  [0, 1].foldl (fun (h : Hw) s => h.mramUE (slotBase s) 0x100000) { h with fw := { h.fw with boot := false } }

theorem bootChecked_reports (h : Hw) :
    ({ h with fw := { h.fw with boot := false } } : Hw).Reports h.bootChecked :=
  foldl_steps Hw.Reports.refl Hw.Reports.trans _ (fun g _ _ => .mramUE g ..) _

theorem slotState_bootChecked (h : Hw) (s : Nat) : h.bootChecked.slotState s = h.slotState s :=
  (slotState_reports (bootChecked_reports h) s).trans (slotState_boot h false s)

/-- CFG_SHELL takes the shell range of the firmware, unless it is locked. -/
def Hw.shellShown (h : Hw) (lo hi : Nat) : Hw :=
  if h.is R.CFG_STAT_LOCK then h else h.wr R.CFG_SHELL (lo + hi * 2 ^ 16)

theorem shellShown_writes (h : Hw) (lo hi : Nat) : h.Writes (h.shellShown lo hi) := by
  unfold Hw.shellShown
  split
  · exact .refl h
  · exact .wr ..

theorem rd_shellShown (h : Hw) (lo hi : Nat) {a : Nat} (ha : a ≠ R.CFG_SHELL) : (h.shellShown lo hi).rd a = h.rd a := by
  unfold Hw.shellShown
  split
  · rfl
  · exact Hw.rd_wr_ne h _ ha

/-- What the boot ROM leaves in ROM service mode beside the registers that it writes. -/
theorem romService_reports (h : Hw) (v : Nat) :
    ({ h with fw := { h.fw with boot := false } } : Hw).Reports ((h.bootChecked.wr R.SYS_FW_STAT v).shellShown 1 0) :=
  (bootChecked_reports h).trans ((Hw.Reports.of_writes (.wr ..)).trans (.of_writes (shellShown_writes ..)))

/-- SYS_FW_STAT in ROM service mode, the slots in states `a` and `b`. -/
def romStat (a b : Nat) : Nat :=
  0 + 2 * b2n true + 4 * b2n false + 8 * b2n false + 2 ^ 8 * a + 2 ^ 12 * b + 2 ^ 16 * 0x14 + 2 ^ 24 * 0

/-- Its bit ROM_SVC stands below the fields that the slots fill. -/
theorem romSvc_romStat (h : Hw) (a b : Nat) :
    (h.wr R.SYS_FW_STAT (romStat a b)).is R.SYS_FW_STAT_ROM_SVC = true := by
  have hbit : bits (romStat a b % 2 ^ 32) 1 1 = 1 := by
    simp only [bits, romStat, b2n, Nat.shiftRight_eq_div_pow, if_true, Bool.false_eq_true, if_false]
    omega
  have hget : (h.wr R.SYS_FW_STAT (romStat a b)).get R.SYS_FW_STAT_ROM_SVC = 1 :=
    (Hw.get_wr_self h R.SYS_FW_STAT_ROM_SVC _).trans hbit
  rw [Hw.is, hget]
  rfl

/-- Of two slots that do not qualify, none is chosen from. -/
theorem qualified_none {a b : Nat} (ha : a ≠ 5) (hb : b ≠ 5) :
    (List.range 2).filter (fun s => listAt 0 [a, b] s == 5) = [] := by
  rw [List.filter_eq_nil_iff]
  intro s hs
  have hslot : s = 0 ∨ s = 1 := Nat.le_one_iff_eq_zero_or_eq_one.mp (Nat.lt_succ_iff.mp (List.mem_range.mp hs))
  rcases hslot with rfl | rfl
  · exact fun e => ha (beq_iff_eq.mp e)
  · exact fun e => hb (beq_iff_eq.mp e)

/-- Without a qualified slot the part stays in ROM service mode (R423, R426). -/
theorem bootSelect_romService {h : Hw} (hb : h.fw.boot = true) (hd : h.dealerUp = true) (h0 : h.slotState 0 ≠ 5)
    (h1 : h.slotState 1 ≠ 5) : h.bootSelect = (h.bootChecked.wr R.SYS_FW_STAT
      (romStat (h.bootChecked.slotState 0) (h.bootChecked.slotState 1))).shellShown 1 0 := by
  have hnone := qualified_none (slotState_bootChecked h 0 ▸ h0) (slotState_bootChecked h 1 ▸ h1)
  have hguard : (!h.fw.boot || !h.dealerUp) = false := by
    rw [hb, hd]
    rfl
  rw [Hw.bootSelect, hguard, if_neg Bool.false_ne_true]
  dsimp only
  split
  case h_1 => rfl
  case h_2 hsome => exact absurd (hnone.symm.trans hsome) (List.cons_ne_nil _ _).symm

/-! ### Write pulses of the MRAM (R414-R416, R446-R448) -/

section
variable {h : Hw} {w : MWrite} {l : List MWrite} {waited : Bool} (hq : h.fw.q = w :: l) (hp : h.fw.pulse = none)
  (hr : h.rst.pend = none)
  (hw : mramBank w.group ≠ h.runSlot ∨ h.fw.last ≠ some (mramBank w.group) ∨ waited = true)
include hq hp hr hw

/-- The pulse of the first write in the queue starts where its region is open, and is dropped elsewhere. -/
theorem mramStart_judged : h.mramStart waited =
    if !(h.bitOf R.SYS_MRAM_CTL_WEN (wenBit w.group)) then
      ({ h with fw := { h.fw with q := l } } : Hw).raise R.SYS_MRAM_ERR_WP 0
    else { h with fw := { h.fw with q := l, pulse := some w } } := by
  have hspaced : ¬ (mramBank w.group = h.runSlot ∧ h.fw.last = some (mramBank w.group) ∧ (!waited) = true) := by
    rintro ⟨hbank, hlast, hno⟩
    rcases hw with e | e | e
    · exact e hbank
    · exact e hlast
    · rw [e] at hno
      exact Bool.false_ne_true hno
  rw [Hw.mramStart, hq, hp]
  dsimp only
  rw [hr, Option.isSome_none, if_neg Bool.false_ne_true, if_neg hspaced]

end

/-- The group of a pulse holds what was written, and no pulse runs. -/
def Hw.pulseEnded (h : Hw) (w : MWrite) : Hw :=
  { h with mem := { h.mem with mram := Mem.write h.mem.mram (32 * w.group) w.data },
           fw := { h.fw with pulse := none, last := if mramBank w.group = h.runSlot then some h.runSlot else h.fw.last,
                             bad := NSet.del h.fw.bad w.group } }

theorem mramFinish_idle {h : Hw} (hc : h.fw.cmd = none) (hs : h.fw.shut = false) : h.mramFinish = h := by
  rw [Hw.mramFinish, hs, if_neg Bool.false_ne_true]
  dsimp only
  rw [hc]
  exact ite_self h

theorem dbgResume_none {h : Hw} (hd : h.tap.dbgWait = none) : h.dbgResume = h := by
  rw [Hw.dbgResume, hd]

theorem mramFetch_reports (h : Hw) (bank a n : Nat) : h.Reports (h.mramFetch bank a n) := by
  have hput : h.Reports (h.put R.SYS_MRAM_STALL_COUNT (min 0xFFFFFFFF (h.get R.SYS_MRAM_STALL_COUNT + min 240 n))) :=
    .of_writes (.put ..)
  unfold Hw.mramFetch
  dsimp only
  split
  · exact .refl h
  · split
    · exact (hput.trans (.of_writes (raise_writes ..))).trans (.errAt ..)
    · exact hput

/-- A fetch in the pulse's bank adds the cycles that it waited, at most 240 (R447, R448). -/
theorem stall_mramFetch (h : Hw) {bank a : Nat} (n : Nat) (hb : mramBank (a / 32) = bank) :
    (h.mramFetch bank a n).get R.SYS_MRAM_STALL_COUNT =
      min 0xFFFFFFFF (h.get R.SYS_MRAM_STALL_COUNT + min 240 n) := by
  have hput : (h.put R.SYS_MRAM_STALL_COUNT (min 0xFFFFFFFF (h.get R.SYS_MRAM_STALL_COUNT + min 240 n))).get
      R.SYS_MRAM_STALL_COUNT = min 0xFFFFFFFF (h.get R.SYS_MRAM_STALL_COUNT + min 240 n) := by
    rw [Hw.get_put_self _ _ _ (by decide) (by decide)]
    exact Nat.mod_eq_of_lt (Nat.lt_of_le_of_lt (Nat.min_le_left ..) (by decide))
  unfold Hw.mramFetch
  dsimp only
  rw [if_neg (not_not_intro hb)]
  split
  · have hregs := congrArg Hw.regs (errAt_frame ((h.put R.SYS_MRAM_STALL_COUNT
      (min 0xFFFFFFFF (h.get R.SYS_MRAM_STALL_COUNT + min 240 n))).raise R.SYS_MRAM_ERR_UE 0) eMRAM 3 nodeREG)
    rw [errAt_frame]
    exact (get_raise_ne _ R.SYS_MRAM_ERR_UE 0 (g := R.SYS_MRAM_STALL_COUNT) (by decide)).trans hput
  · exact hput

section
variable {h : Hw} {w : MWrite} (hp : h.fw.pulse = some w) (hc : h.fw.cmd = none) (hs : h.fw.shut = false)
  (hd : h.tap.dbgWait = none)
include hp hc hs hd

/-- A pulse that programs what was asked for, no command waiting for it. -/
theorem mramDone_ends : (h.mramDone none none).dbgResume = h.pulseEnded w := by
  have hdone : h.mramDone none none = (h.pulseEnded w).mramFinish := by
    simp only [Hw.mramDone, Hw.pulseEnded, hp, hc]
  rw [hdone, mramFinish_idle (h := h.pulseEnded w) hc hs]
  exact dbgResume_none hd

theorem mramDone_fetched (a n : Nat) : (h.mramDone none (some (a, n))).dbgResume =
    (h.pulseEnded w).mramFetch (mramBank w.group) a n := by
  have hfetch := mramFetch_reports (h.pulseEnded w) (mramBank w.group) a n
  have hdone : h.mramDone none (some (a, n)) = ((h.pulseEnded w).mramFetch (mramBank w.group) a n).mramFinish := by
    simp only [Hw.mramDone, Hw.pulseEnded, hp, hc]
  rw [hdone, mramFinish_idle ((congrArg MramState.cmd hfetch.fw).trans hc)
    ((congrArg MramState.shut hfetch.fw).trans hs)]
  exact dbgResume_none ((congrArg TapState.dbgWait hfetch.tap).trans hd)

end

/-- Settles O36, a lemma per command and pulse. -/
theorem settingsAndFirmware : Obligations.SettingsAndFirmware := by
  refine ⟨fun s m k _ hd hf hv => exec_of_dealer (exec_setRead m k s) hd (setRead_absent hf hv),
    fun s m k _ _ _ _ _ hd hf hc h0 hF hl hu hin hr hq hw => exec_of_dealer (exec_setWrite m k s) hd
      (setWrite_queues hc hf (setBad_none h0 hF hl hu) hu hin hq (hr ▸ hw)),
    fun s m k _ _ hd hf hc hs hrun ho hl hend hin => exec_of_dealer (exec_fwWrite m k s) hd
      (fwWrite_queues hc hf (fwBad_none hs hrun ho hl hend) hin),
    fun s m k _ hd hf hc hs => exec_of_dealer (exec_fwSelect m k s) hd (fwSelect_judged hc hf hs),
    fun s m k _ hd hf hc hs => exec_of_dealer (exec_fwConfirm m k s) hd (fwConfirm_queues hc hf hs),
    fun s m k _ _ hd hf hfirst hlo hhi hr hw hclean => ?_,
    fun s m k _ hd hf => exec_of_dealer (exec_selfTest m k s) hd (selfTest_free hf),
    fun s hd hb h0 h1 => ⟨_, exec_of_dealer (exec_bootSlotSelect s) hd (bootSelect_romService hb hd h0 h1), ?_⟩,
    fun s waited _ _ hu hq hp hr hw hopen => exec_of_sys (exec_mramPulseStart waited s) hu
      ((mramStart_judged hq hp hr hw).trans (if_neg (by rw [hopen]; exact Bool.false_ne_true))),
    fun s waited _ _ hu hq hp hr hw hshut => exec_of_sys (exec_mramPulseStart waited s) hu
      ((mramStart_judged hq hp hr (.inr (.inr hw))).trans (if_pos (by rw [hshut]; rfl))),
    fun s w hp hc hs hd => ⟨_, exec_of_upd (exec_mramPulseDone none none s) (mramDone_ends hp hc hs hd),
      rfl, rfl, rfl, rfl⟩,
    fun s w a n hp hc hs hd hb => ⟨_, exec_of_upd (exec_mramPulseDone none (some (a, n)) s)
      (mramDone_fetched hp hc hs hd a n), ?_⟩⟩
  · subst hw
    exact exec_of_dealer (exec_logRead m k s) hd (logRead_copies hf hfirst hlo hhi hr hclean)
  · have hrom := romService_reports s.hw
      (romStat (s.hw.bootChecked.slotState 0) (s.hw.bootChecked.slotState 1))
    exact ⟨(is_of_rd (rd_shellShown _ 1 0 (by decide))).trans (romSvc_romStat ..), congrArg MramState.boot hrom.fw,
      hrom.mem, hrom.tiles⟩
  · have hfetch := mramFetch_reports (s.hw.pulseEnded w) (mramBank w.group) a n
    exact ⟨hfetch.mem, stall_mramFetch _ n hb, hfetch.tiles⟩

end Sys2Proof.Machine
end

section
/-!
SUPPORT. Writes of TIL_CTL and TIL_SEED through a tile's control window (R563, R571-R573, R578).
-/
namespace Sys2Proof.Machine

open Sys2Proof

/-! ### What a write of TIL_CTL asks for (R578) -/

/-- TEN and BKEN stand above the byte of the request bits. -/
theorem bit_ctlValue (ten bken : Bool) {c : Nat} (hc : c < 2 ^ 8) (k : Nat) :
    bit (256 * b2n ten + 512 * b2n bken + c) k = if k < 8 then bit c k else bit (b2n ten + 2 * b2n bken) (k - 8) := by
  have hsplit : 256 * b2n ten + 512 * b2n bken + c = 2 ^ 8 * (b2n ten + 2 * b2n bken) + c := by omega
  rw [hsplit, bit_eq, bit_eq, bit_eq, Nat.testBit_two_pow_mul_add _ hc]

theorem bit_enables (ten bken : Bool) :
    bit (b2n ten + 2 * b2n bken) 0 = ten ∧ bit (b2n ten + 2 * b2n bken) 1 = bken := by
  revert ten bken
  decide

/-- A write that leaves TEN and BKEN as they stand does what its low byte asks for and nothing else. -/
theorem ctlWrite_enablesKept (t : Tile) {c : Nat} (hc : c < 2 ^ 8) :
    t.ctlWrite (256 * b2n t.ctl.ten + 512 * b2n t.ctl.bken + c) =
      if t.running then (if bit c 1 then t.ctlHalt else t)
      else if bit c 2 then t.ctlStep
      else if bit c 0 then t.ctlRun
      else t := by
  obtain ⟨hten, hbken⟩ := bit_enables t.ctl.ten t.ctl.bken
  have h8 : bit (256 * b2n t.ctl.ten + 512 * b2n t.ctl.bken + c) 8 = t.ctl.ten := (bit_ctlValue _ _ hc 8).trans hten
  have h9 : bit (256 * b2n t.ctl.ten + 512 * b2n t.ctl.bken + c) 9 = t.ctl.bken := (bit_ctlValue _ _ hc 9).trans hbken
  have hlow (k : Nat) (hk : k < 8) : bit (256 * b2n t.ctl.ten + 512 * b2n t.ctl.bken + c) k = bit c k :=
    (bit_ctlValue _ _ hc k).trans (if_pos hk)
  rw [Tile.ctlWrite, h8, h9, hlow 1 (by decide), hlow 2 (by decide), hlow 0 (by decide)]

theorem ctlRun_stopped {t : Tile} (hr : t.running = false) : t.ctlRun = { t with ctl := { t.ctl with
    st := .run, why := 0, fresh := true, step := false, ckStop := false, arrived := none } } := by
  rw [Tile.ctlRun, hr]
  rfl

theorem ctlStep_stopped {t : Tile} (hr : t.running = false) : t.ctlStep = { t with ctl := { t.ctl with
    st := .run, why := 0, fresh := true, step := true, ckStop := false, arrived := none } } := by
  rw [Tile.ctlStep, ctlRun_stopped hr, hr]
  rfl

theorem ctlHalt_running {t : Tile} (hr : t.running = true) : t.ctlHalt = { t with ctl := { t.ctl with
    st := .halted, why := 2, step := false, fresh := false, arrived := none } } := by
  rw [Tile.ctlHalt, hr]
  rfl

/-- RUN on a tile not in RUN. -/
theorem ctlWrite_run {t : Tile} (hr : t.running = false) :
    t.ctlWrite (256 * b2n t.ctl.ten + 512 * b2n t.ctl.bken + 1) = { t with ctl := { t.ctl with
      st := .run, why := 0, fresh := true, step := false, ckStop := false, arrived := none } } :=
  (ctlWrite_enablesKept t (by decide)).trans ((if_neg (hr ▸ Bool.false_ne_true)).trans (ctlRun_stopped hr))

/-- STEP on a tile not in RUN. -/
theorem ctlWrite_step {t : Tile} (hr : t.running = false) :
    t.ctlWrite (256 * b2n t.ctl.ten + 512 * b2n t.ctl.bken + 4) = { t with ctl := { t.ctl with
      st := .run, why := 0, fresh := true, step := true, ckStop := false, arrived := none } } :=
  (ctlWrite_enablesKept t (by decide)).trans ((if_neg (hr ▸ Bool.false_ne_true)).trans (ctlStep_stopped hr))

/-- HALT on a tile in RUN (R563). -/
theorem ctlWrite_halt {t : Tile} (hr : t.running = true) :
    t.ctlWrite (256 * b2n t.ctl.ten + 512 * b2n t.ctl.bken + 2) = { t with ctl := { t.ctl with
      st := .halted, why := 2, step := false, fresh := false, arrived := none } } :=
  (ctlWrite_enablesKept t (by decide)).trans ((if_pos hr).trans (ctlHalt_running hr))

/-! ### The window (R571-R573) -/

theorem onTile_congr {h : Hw} {n : Nat} {f g : Tile → Tile} (e : f (h.tile n) = g (h.tile n)) :
    h.onTile n f = h.onTile n g := congrArg (h.setTile n) e

section
variable {h : Hw} {n : Nat} (hn : n < 512) (hf : h.fenced n = false) (hk : h.tileClk (partOf n) = true)
include hn hf

/-- A write of a word that is no half of a pair takes effect at once. -/
theorem tilWrite_answers {o v : Nat} (ha : h.winRefused n o 4 true = false) (hp : winPair o = none) :
    h.tilWrite n o v = h.onTile n (fun x => x.winWr o v) := by
  have hanswers : ¬ (512 ≤ n ∨ h.fenced n ∨ h.winRefused n o 4 true) := by
    simp [hf, ha, Nat.not_le.mpr hn]
  rw [Hw.tilWrite, if_neg hanswers, Hw.winWrite, hp]

include hk

/-- TIL_CTL takes a write while its tile runs and while it does not. -/
theorem tilWrite_ctl {v : Nat} {f : Tile → Tile} (e : (h.tile n).ctlWrite v = f (h.tile n)) :
    h.tilWrite n 0x004 v = h.onTile n f := by
  have ha : h.winRefused n 0x004 4 true = false := by simp [Hw.winRefused, hk]
  exact (tilWrite_answers hn hf ha (by decide)).trans (onTile_congr e)

/-- TIL_SEED takes a write while its tile is not in RUN (R571). -/
theorem tilWrite_seed (v : Nat) (hr : (h.tile n).running = false) :
    h.tilWrite n 0x024 v = h.onTile n (fun x => x.loadSeed v) := by
  have ha : h.winRefused n 0x024 4 true = false := by simp [Hw.winRefused, hk, hr]
  exact tilWrite_answers hn hf ha (by decide)

end

/-- Settles O40, a lemma per request of TIL_CTL and one for TIL_SEED. -/
theorem tileControl : Obligations.TileControl :=
  ⟨fun s n hc hn hf hk hr => exec_of_core (exec_tilCtlRun n s) hc (tilWrite_ctl hn hf hk (ctlWrite_run hr)),
    fun s n hc hn hf hk hr => exec_of_core (exec_tilCtlStep n s) hc (tilWrite_ctl hn hf hk (ctlWrite_step hr)),
    fun s n hc hn hf hk hr => exec_of_core (exec_tilCtlHalt n s) hc (tilWrite_ctl hn hf hk (ctlWrite_halt hr)),
    fun s n v hc hn hf hk hr => exec_of_core (exec_tilSeed n v s) hc (tilWrite_seed hn hf hk v hr)⟩

end Sys2Proof.Machine
end

section
/-!
SUPPORT. The scalar slots of a wide word: writes of g and p, and what the operations write (R528, R530, R600, R601).
-/
namespace Sys2Proof.Machine

open Sys2Proof

/-! ### Writes of g and p (R530) -/

theorem tile_g_lt (t : Tile) (n : Nat) : t.g n < 2 ^ 64 := by
  unfold Tile.g
  split
  · decide
  · exact BitVec.isLt _

/-- A write of g[n] changes that register alone, and none where n = 0. -/
theorem setG_writes (t : Tile) (n : Nat) {v : Nat} (hv : v < 2 ^ 64) :
    (n ≠ 0 → (t.setG n v).g n = v) ∧ (n = 0 → t.setG n v = t) ∧ (∀ r, r ≠ n → (t.setG n v).g r = t.g r) ∧
      (∀ r, (t.setG n v).p r = t.p r) ∧ (t.setG n v).ctl = t.ctl ∧ (t.setG n v).mem = t.mem ∧
      (t.setG n v).str = t.str ∧ (t.setG n v).mxu = t.mxu := by
  by_cases hn : n = 0
  · simp [Tile.setG, hn]
  · rw [Tile.setG, if_neg hn]
    refine ⟨fun _ => ?_, fun h => absurd h hn, fun r hr => ?_, fun _ => rfl, rfl, rfl, rfl, rfl⟩
    · simp only [Tile.g, if_neg hn, SMap.get_set_self, BitVec.toNat_ofNat, Nat.mod_eq_of_lt hv]
    · simp only [Tile.g, SMap.get_set_ne _ _ _ hr]

/-- A write of p[n] changes that register alone, and none where n = 0. -/
theorem setP_writes (t : Tile) (n : Nat) (b : Bool) :
    (n ≠ 0 → (t.setP n b).p n = b) ∧ (n = 0 → t.setP n b = t) ∧ (∀ r, r ≠ n → (t.setP n b).p r = t.p r) ∧
      (∀ r, (t.setP n b).g r = t.g r) ∧ (t.setP n b).ctl = t.ctl ∧ (t.setP n b).mem = t.mem ∧
      (t.setP n b).str = t.str ∧ (t.setP n b).mxu = t.mxu := by
  by_cases hn : n = 0
  · simp [Tile.setP, hn]
  · rw [Tile.setP, if_neg hn]
    refine ⟨fun _ => ?_, fun h => absurd h hn, fun r hr => ?_, fun _ => rfl, rfl, rfl, rfl, rfl⟩
    · simp [Tile.p, NSet.has_put, hn]
    · simp [Tile.p, NSet.has_put, hr]

/-! ### The scalar slots (R528, R600, R601) -/

theorem wrapI_lt (w : Nat) (i : Int) : wrapI w i < 2 ^ w := by
  have hpos : (0 : Int) < ((2 ^ w : Nat) : Int) := by positivity
  have hlt := Int.emod_lt_of_pos i hpos
  have hnonneg := Int.emod_nonneg i hpos.ne'
  rw [wrapI]
  omega

/-- op2 is a literal, a sign-extended immediate or a register, of 64 bits each. -/
theorem op2_lt (t : Tile) (w s : Nat) : t.op2 w s < 2 ^ 64 := by
  unfold Tile.op2
  dsimp only
  split
  · split
    · exact bits_lt w 223 160
    · exact wrapI_lt 64 _
  · exact tile_g_lt t _

/-- The sums, products and selections of O39, with the results that it states. -/
def scalarSums : List (Nat × (Nat → Nat → Nat)) :=
  [(0x01, fun a b => (a + b) % 2 ^ 64), (0x02, fun a b => (a + 2 ^ 64 - b) % 2 ^ 64), (0x03, fun a b => a &&& b),
    (0x04, fun a b => a ||| b), (0x05, fun a b => a ^^^ b), (0x06, fun a b => a &&& (2 ^ 64 - 1 - b)),
    (0x0C, fun a b => a * b % 2 ^ 64), (0x0E, fun a b => a * b / 2 ^ 64), (0x12, fun a b => min a b),
    (0x13, fun a b => max a b), (0x18, fun _ b => b)]

/-- The compares of O39. -/
def scalarCompares : List (Nat × (Nat → Nat → Bool)) :=
  [(0x20, fun a b => a == b), (0x21, fun a b => a != b), (0x23, fun a b => decide (a < b)),
    (0x25, fun a b => decide (b ≤ a))]

theorem subMod_of_lt {n a b : Nat} (ha : a < 2 ^ n) (hb : b < 2 ^ n) : subMod n a b = (a + 2 ^ n - b) % 2 ^ n := by
  rw [subMod, Nat.mod_eq_of_lt ha, Nat.mod_eq_of_lt hb]

theorem sAlu_sub {a b x : Nat} (h : subMod 64 a b = x) : sAlu 0x02 a b = x := by
  unfold sAlu
  rw [h]
  rfl

/-- The stated result is the ALU's, on 64 bits. -/
theorem sAlu_of_scalarSums {op : Nat} {f : Nat → Nat → Nat} (h : (op, f) ∈ scalarSums) {a b : Nat} (ha : a < 2 ^ 64)
    (hb : b < 2 ^ 64) : sAlu op a b = f a b ∧ f a b < 2 ^ 64 := by
  have hmul : a * b / 2 ^ 64 < 2 ^ 64 := Nat.div_lt_of_lt_mul (Nat.mul_lt_mul'' ha hb)
  have hmod (x : Nat) : x % 2 ^ 64 < 2 ^ 64 := Nat.mod_lt x (by decide)
  simp only [scalarSums, List.mem_cons, List.not_mem_nil, or_false, Prod.mk.injEq] at h
  obtain ⟨rfl, rfl⟩ | ⟨rfl, rfl⟩ | ⟨rfl, rfl⟩ | ⟨rfl, rfl⟩ | ⟨rfl, rfl⟩ | ⟨rfl, rfl⟩ | ⟨rfl, rfl⟩ | ⟨rfl, rfl⟩ |
    ⟨rfl, rfl⟩ | ⟨rfl, rfl⟩ | ⟨rfl, rfl⟩ := h
  · exact ⟨rfl, hmod _⟩
  · exact ⟨sAlu_sub (subMod_of_lt ha hb), hmod _⟩
  · exact ⟨rfl, Nat.lt_of_le_of_lt Nat.and_le_left ha⟩
  · exact ⟨rfl, Nat.or_lt_two_pow ha hb⟩
  · exact ⟨rfl, Nat.xor_lt_two_pow ha hb⟩
  · exact ⟨rfl, Nat.lt_of_le_of_lt Nat.and_le_left ha⟩
  · exact ⟨rfl, hmod _⟩
  · exact ⟨rfl, hmul⟩
  · exact ⟨rfl, Nat.lt_of_le_of_lt (Nat.min_le_left a b) ha⟩
  · exact ⟨rfl, Nat.max_lt.mpr ⟨ha, hb⟩⟩
  · exact ⟨rfl, hb⟩

theorem sCmp_of_scalarCompares {op : Nat} {f : Nat → Nat → Bool} (h : (op, f) ∈ scalarCompares) (a b : Nat) :
    sCmp op a b = f a b := by
  simp only [scalarCompares, List.mem_cons, List.not_mem_nil, or_false, Prod.mk.injEq] at h
  obtain ⟨rfl, rfl⟩ | ⟨rfl, rfl⟩ | ⟨rfl, rfl⟩ | ⟨rfl, rfl⟩ := h <;> rfl

theorem opcode_of_scalarSums {op : Nat} {f : Nat → Nat → Nat} (h : (op, f) ∈ scalarSums) : 1 ≤ op ∧ op ≤ 0x18 := by
  have hall : ∀ e ∈ scalarSums.map Prod.fst, 1 ≤ e ∧ e ≤ 0x18 := by decide
  exact hall op (List.mem_map_of_mem (f := Prod.fst) h)

theorem opcode_of_scalarCompares {op : Nat} {f : Nat → Nat → Bool} (h : (op, f) ∈ scalarCompares) :
    0x20 ≤ op ∧ op ≤ 0x25 := by
  have hall : ∀ e ∈ scalarCompares.map Prod.fst, 0x20 ≤ e ∧ e ≤ 0x25 := by decide
  exact hall op (List.mem_map_of_mem (f := Prod.fst) h)

theorem sIsStore_of_lt {op : Nat} (h : op < 0x30) : sIsStore op = false := decide_eq_false (by omega)
theorem sIsLoad_of_lt {op : Nat} (h : op < 0x30) : sIsLoad op = false := decide_eq_false (by omega)

/-- A slot with an ALU opcode writes its result to g[RD]. -/
theorem sApply_alu (o t : Tile) {w s : Nat} (hlo : 1 ≤ wOp w s) (hhi : wOp w s ≤ 0x18) : sApply o t w s =
    t.setG (sRD (wSlot w s)) (sAlu (wOp w s) (o.g (sRA (wSlot w s))) (o.op2 w s)) := by
  have hlt : wOp w s < 0x30 := by omega
  simp only [sApply, sIsStore_of_lt hlt, sIsLoad_of_lt hlt, Bool.false_eq_true, if_false]
  iterate 8 rw [if_neg (by omega)]

/-- A slot with a compare writes its outcome to p[RD]. -/
theorem sApply_compare (o t : Tile) {w s : Nat} (hlo : 0x20 ≤ wOp w s) (hhi : wOp w s ≤ 0x25) : sApply o t w s =
    t.setP (sRD (wSlot w s)) (sCmp (wOp w s) (o.g (sRA (wSlot w s))) (o.op2 w s)) := by
  have hlt : wOp w s < 0x30 := by omega
  simp only [sApply, sIsStore_of_lt hlt, sIsLoad_of_lt hlt, Bool.false_eq_true, if_false]
  rw [if_neg (by omega), if_pos ⟨hlo, hhi⟩]

/-- Settles O39: a slot of either list is a write of one register, and the stated result is the model's. -/
theorem scalarSlot : Obligations.ScalarSlot := by
  refine fun o t w s => ⟨fun op f hop hf => ?_, fun op f hop hf => ?_⟩
  · obtain ⟨hlo, hhi⟩ := opcode_of_scalarSums hf
    obtain ⟨hres, hlt⟩ := sAlu_of_scalarSums hf (tile_g_lt o (sRA (wSlot w s))) (op2_lt o w s)
    rw [sApply_alu o t (hop ▸ hlo) (hop ▸ hhi), hop, hres]
    exact setG_writes t _ hlt
  · obtain ⟨hlo, hhi⟩ := opcode_of_scalarCompares hf
    rw [sApply_compare o t (hop ▸ hlo) (hop ▸ hhi), hop, sCmp_of_scalarCompares hf]
    exact setP_writes t _ _

end Sys2Proof.Machine
end

section
/-!
SUPPORT. Exceptions of a tile: the write-backs before one, the trap registers, and where the tile continues (R525,
R555-R561).
-/
namespace Sys2Proof.Machine

open Sys2Proof

/-! ### What operations leave of the control state -/

/-- Entries written into ACC leave every other part of the tile. -/
theorem setAccs_frame (t : Tile) (e : Nat) (l : List (Nat × Bool)) : t.setAccs e l =
    { t with mem := { t.mem with acc := (t.setAccs e l).mem.acc, accP := (t.setAccs e l).mem.accP } } := by
  induction l generalizing t e with
  | nil => rfl
  | cons x xs ih => exact ih (t.setAcc e x.1 x.2) (e + 1)

/-- The run, trap and debug state of a tile beside its event flags (R525). -/
def Tile.unflagged (t : Tile) : TileCtl := { t.ctl with flags := 0 }

theorem unflagged_of_ctl {t u : Tile} (h : u.ctl = t.ctl) : u.unflagged = t.unflagged := by rw [Tile.unflagged, h]; rfl

@[simp] theorem flag_unflagged (t : Tile) (m : Nat) : (t.flag m).unflagged = t.unflagged := (rfl)

@[simp] theorem setG_ctl (t : Tile) (n v : Nat) : (t.setG n v).ctl = t.ctl := by unfold Tile.setG; split <;> rfl
@[simp] theorem setP_ctl (t : Tile) (n : Nat) (b : Bool) : (t.setP n b).ctl = t.ctl := by
  unfold Tile.setP; split <;> rfl
@[simp] theorem setM_ctl (t : Tile) (n v : Nat) : (t.setM n v).ctl = t.ctl := (rfl)
@[simp] theorem setV_ctl (t : Tile) (n v : Nat) : (t.setV n v).ctl = t.ctl := (rfl)
@[simp] theorem setDw_ctl (t : Tile) (n w v : Nat) : (t.setDw n w v).ctl = t.ctl := (rfl)
@[simp] theorem setDesc_ctl (t : Tile) (n : Nat) (ws : List Nat) : (t.setDesc n ws).ctl = t.ctl :=
  foldl_keeps Tile.ctl (f := fun t w => t.setDw n w (listAt 0 ws w)) _ (fun u w _ => setDw_ctl u n w _) t
@[simp] theorem setOps_ctl (t : Tile) (l : List SOp) : (t.setOps l).ctl = t.ctl := (rfl)
@[simp] theorem setAccs_ctl (t : Tile) (e : Nat) (l : List (Nat × Bool)) : (t.setAccs e l).ctl = t.ctl := by
  rw [setAccs_frame]
@[simp] theorem tsWrite_ctl (t : Tile) (a : Nat) (bs : List Byte) (p : Bool) : (t.tsWrite a bs p).ctl = t.ctl := by
  refine (foldl_keeps Tile.ctl _ (fun u l _ => ?_) (t.tsPut a bs)).trans rfl
  split_ifs <;> rfl

@[simp] theorem setG_unflagged (t : Tile) (n v : Nat) : (t.setG n v).unflagged = t.unflagged :=
  unflagged_of_ctl (setG_ctl ..)
@[simp] theorem setV_unflagged (t : Tile) (n v : Nat) : (t.setV n v).unflagged = t.unflagged := (rfl)
@[simp] theorem setAccs_unflagged (t : Tile) (e : Nat) (l : List (Nat × Bool)) :
    (t.setAccs e l).unflagged = t.unflagged := unflagged_of_ctl (setAccs_ctl ..)
@[simp] theorem tsWrite_unflagged (t : Tile) (a : Nat) (bs : List Byte) (p : Bool) :
    (t.tsWrite a bs p).unflagged = t.unflagged := unflagged_of_ctl (tsWrite_ctl ..)

/-! ### Exceptions (R559-R561) -/

/-- What a write-back leaves: the operations behind the oldest, and all of a tile but ACC and the event flags. -/
structure Tile.WroteBack (t u : Tile) : Prop where
  mxu : u.mxu = t.mxu.tail
  unflagged : u.unflagged = t.unflagged
  regs : u.regs = t.regs
  str : u.str = t.str
  ts : u.mem.ts = t.mem.ts
  imem : u.mem.imem = t.mem.imem

theorem writeback_frame (t : Tile) : t.WroteBack t.writeback := by
  unfold Tile.writeback
  split
  next h => exact ⟨by rw [h]; rfl, rfl, rfl, rfl, rfl, rfl⟩
  next o os h =>
    rw [setAccs_frame]
    exact ⟨by rw [h]; rfl, rfl, rfl, rfl, rfl, rfl⟩

theorem mxu_foldl_writeback {α : Type} (l : List α) (t : Tile) :
    (l.foldl (fun t _ => t.writeback) t).mxu = t.mxu.drop l.length := by
  induction l generalizing t with
  | nil => rfl
  | cons x xs ih => rw [List.foldl_cons, ih, (writeback_frame t).mxu, List.drop_tail, List.length_cons]

@[simp] theorem drain_mxu (t : Tile) : t.drain.mxu = [] := by simp [Tile.drain, mxu_foldl_writeback]

/-- What every write-back leaves alone, the drain leaves alone. -/
theorem drain_keeps {α : Type} (view : Tile → α) (h : ∀ t : Tile, view t.writeback = view t) (t : Tile) :
    view t.drain = view t := foldl_keeps view (f := fun t _ => t.writeback) _ (fun u _ _ => h u) t

@[simp] theorem drain_unflagged (t : Tile) : t.drain.unflagged = t.unflagged :=
  drain_keeps Tile.unflagged (fun u => (writeback_frame u).unflagged) t

@[simp] theorem drain_st (t : Tile) : t.drain.ctl.st = t.ctl.st := (congrArg TileCtl.st (drain_unflagged t) :)
@[simp] theorem drain_pc (t : Tile) : t.drain.ctl.pc = t.ctl.pc := (congrArg TileCtl.pc (drain_unflagged t) :)
@[simp] theorem drain_ten (t : Tile) : t.drain.ctl.ten = t.ctl.ten := (congrArg TileCtl.ten (drain_unflagged t) :)
@[simp] theorem drain_intrap (t : Tile) : t.drain.ctl.intrap = t.ctl.intrap :=
  (congrArg TileCtl.intrap (drain_unflagged t) :)
@[simp] theorem drain_tvec (t : Tile) : t.drain.ctl.tvec = t.ctl.tvec := (congrArg TileCtl.tvec (drain_unflagged t) :)
@[simp] theorem drain_step (t : Tile) : t.drain.ctl.step = t.ctl.step := (congrArg TileCtl.step (drain_unflagged t) :)

/-- An exception drains the matrix unit and otherwise changes the control state alone, where it writes the trap
registers. -/
theorem except_frame (t : Tile) (sl : Nat) (f : TFault) : ∃ c : TileCtl, t.except sl f = { t.drain with ctl := c } ∧
    c.epc = t.ctl.pc % 1024 ∧ c.cause = BitVec.ofNat 32 (f.code + sl * 256 + f.detail % 65536 * 65536) ∧
    c.eval = BitVec.ofNat 64 f.eval := by
  unfold Tile.except
  dsimp only
  split
  · refine ⟨_, rfl, ?_⟩
    split <;> simp
  · exact ⟨_, rfl, congrArg (· % 1024) (drain_pc t), rfl, rfl⟩

/-- An exception that the program handles. -/
theorem except_handled {t : Tile} (hten : t.ctl.ten = true) (hin : t.ctl.intrap = false) (sl : Nat) (f : TFault) :
    (t.except sl f).ctl.intrap = true ∧ (t.except sl f).ctl.pc = t.ctl.tvec ∧
    (t.except sl f).ctl.st = if t.ctl.step then .halted else t.ctl.st := by
  unfold Tile.except
  dsimp only
  rw [if_pos (by simp [hten, hin])]
  cases hstep : t.ctl.step <;> simp [hstep]

/-- An exception that faults the tile: TEN = 0, or inside a handler. -/
theorem except_unhandled {t : Tile} (h : t.ctl.ten = false ∨ t.ctl.intrap = true) (sl : Nat) (f : TFault) :
    (t.except sl f).ctl.st = .faulted ∧ (t.except sl f).ctl.pc = t.ctl.pc ∧
    (t.except sl f).ctl.intrap = t.ctl.intrap ∧ (t.ctl.intrap = true → (t.except sl f).ctl.why = 7) := by
  have hc : ¬ (t.drain.ctl.ten ∧ ¬ t.drain.ctl.intrap) := by
    rw [drain_ten, drain_intrap]
    rintro ⟨hten, hin⟩
    exact h.elim (fun h => by simp [h] at hten) hin
  unfold Tile.except
  dsimp only
  rw [if_neg hc]
  exact ⟨rfl, drain_pc t, drain_intrap t, fun hin => if_pos ((drain_intrap t).trans hin)⟩

/-- Settles O38: the trap registers by `except_frame`, the two continuations by a lemma each, and the rest by what the
write-backs of the drain leave alone. -/
theorem tileExceptions : Obligations.TileExceptions := by
  intro t sl code detail ev hsl hcode hdetail
  have hcause : (BitVec.ofNat 32 (code + sl * 256 + detail % 65536 * 65536)).toNat =
      code + 256 * sl + 65536 * detail := by
    rw [BitVec.toNat_ofNat]
    omega
  obtain ⟨c, he, hepc, hcs, heval⟩ := except_frame t sl ⟨code, detail, ev⟩
  have hhandled (hten : t.ctl.ten = true) (hin : t.ctl.intrap = false) (hstep : t.ctl.step = false) :=
    have ⟨h1, h2, h3⟩ := except_handled hten hin sl ⟨code, detail, ev⟩
    And.intro h1 (And.intro h2 (h3.trans (if_neg (by simp [hstep]))))
  have hunhandled (h : t.ctl.ten = false ∨ t.ctl.intrap = true) := except_unhandled h sl ⟨code, detail, ev⟩
  rw [he] at hhandled hunhandled ⊢
  exact ⟨hepc, (congrArg BitVec.toNat hcs).trans hcause, heval, drain_mxu t, hhandled, hunhandled,
    drain_keeps Tile.regs (fun u => (writeback_frame u).regs) t, drain_keeps Tile.str (fun u => (writeback_frame u).str) t,
    drain_keeps (fun u => u.mem.ts) (fun u => (writeback_frame u).ts) t,
    drain_keeps (fun u => u.mem.imem) (fun u => (writeback_frame u).imem) t⟩

end Sys2Proof.Machine
end

section
/-!
SUPPORT. A wide word at the head of a running tile: how it ends, and what its slots leave of the control state
(R535-R564, R593).
-/
namespace Sys2Proof.Machine

open Sys2Proof

/-! ### What the slots leave of the control state -/

/-- A scalar slot leaves the control state. -/
@[simp] theorem sApply_ctl (o t : Tile) (w s : Nat) : (sApply o t w s).ctl = t.ctl := by
  unfold sApply
  dsimp only
  split_ifs <;> simp

/-- A vector slot sets event flags and leaves the rest of the control state. -/
@[simp] theorem vApply_unflagged (o t : Tile) (w : Nat) : (vApply o t w).unflagged = t.unflagged := by
  have hlfsr (l : List (Nat × Nat)) (u : Tile) : (l.foldl (fun t e => t.setLfsr e.1 e.2) u).unflagged = u.unflagged :=
    foldl_keeps Tile.unflagged (f := fun t e => t.setLfsr e.1 e.2) l (fun _ _ _ => rfl) u
  unfold vApply
  dsimp only
  split
  case h_5 => rw [hlfsr, tsWrite_unflagged, flag_unflagged, setV_unflagged]
  all_goals simp

/-- A matrix slot leaves the control state. -/
@[simp] theorem mApply_ctl (o t : Tile) (w : Nat) : (mApply o t w).ctl = t.ctl := by
  unfold mApply
  split <;> rfl

/-- A stream slot leaves the control state. -/
@[simp] theorem xApply_ctl (o t : Tile) (w : Nat) : (xApply o t w).ctl = t.ctl := by
  unfold xApply
  dsimp only
  split_ifs <;> simp

/-- A control slot without HALT leaves the tile in its state. -/
theorem cApply_st (o t : Tile) {w : Nat} (hw : wOp w slC ≠ 0x0A) : (cApply o t w).ctl.st = t.ctl.st := by
  unfold cApply
  dsimp only
  split
  case h_7 h => exact absurd h hw
  all_goals simp [Tile.swap]

/-! ### Commit -/

/-- A word that ends a single step halts its tile with HALT_WHY 3, never 1. -/
theorem stepDone_notHalt {t : Tile} (hr : t.ctl.st = .run) :
    ¬ (t.stepDone.ctl.st = .halted ∧ t.stepDone.ctl.why = 1) := by
  unfold Tile.stepDone
  split <;> simp [Tile.halt, hr]

theorem skip_notHalt {t : Tile} (hr : t.running = true) : ¬ (t.skip.ctl.st = .halted ∧ t.skip.ctl.why = 1) :=
  stepDone_notHalt (eq_of_beq hr)

theorem commit_notHalt {t : Tile} (hr : t.running = true) {w : Nat} (hw : wOp w slC ≠ 0x0A) :
    ¬ ((t.commit w).ctl.st = .halted ∧ (t.commit w).ctl.why = 1) := by
  refine stepDone_notHalt ((cApply_st t _ hw).trans ?_)
  have hslots : (xApply t (mApply t (vApply t (sApply t (sApply t t w slS0) w slS1) w) w) w).unflagged = t.unflagged := by
    rw [unflagged_of_ctl (xApply_ctl ..), unflagged_of_ctl (mApply_ctl ..), vApply_unflagged,
      unflagged_of_ctl (sApply_ctl ..), unflagged_of_ctl (sApply_ctl ..)]
  exact (congrArg TileCtl.st hslots).trans (eq_of_beq hr)

/-! ### The word at the head of a running tile (R535, R558) -/

section
variable {t : Tile} {w own : Nat} {sh : Shares} (hb : t.ctl.bken = false) (hpc : t.ctl.pc < 1024) (hw : w = t.word)
include hb hpc hw

/-- The breach of an illegal word is judged before its predicate. -/
theorem execWord_illegal {e : Nat × Nat} (hi : illegal w t.ctl.intrap = some e) :
    t.execWord false own sh = (t.except e.2 ⟨1, e.1, w % 2 ^ 64⟩, .fault) := by
  subst w
  simp only [Tile.execWord, hb, hi, Nat.not_le.mpr hpc, Bool.false_eq_true, false_and, or_false, if_false]
  rfl

variable (hi : illegal w t.ctl.intrap = none)
include hi

theorem execWord_skips (hp : t.p (wPred w) = wNeg w) : t.execWord false own sh = (t.skip, .done) := by
  subst w
  simp [Tile.execWord, hb, hi, Nat.not_le.mpr hpc, hp]

variable (hp : t.p (wPred w) ≠ wNeg w)
include hp

theorem execWord_waits {k : Wait} (hk : t.waits w = some k) : t.execWord false own sh = (t, .wait k) := by
  subst w
  simp [Tile.execWord, hb, hi, Nat.not_le.mpr hpc, hp, hk]

variable (hk : t.waits w = none)
include hk

theorem execWord_faults {e : Nat × TFault} (hf : t.wFault w own sh = some e) :
    t.execWord false own sh = (t.except e.1 e.2, .fault) := by
  subst w
  simp [Tile.execWord, hb, hi, Nat.not_le.mpr hpc, hp, hk, hf]

theorem execWord_commits (hf : t.wFault w own sh = none) : t.execWord false own sh = (t.commit w, .done) := by
  subst w
  simp [Tile.execWord, hb, hi, Nat.not_le.mpr hpc, hp, hk, hf]

end

/-! ### WIDE_WORD and MATRIX_WRITEBACK (R535, R548, R576) -/

/-- A tile that does not run, or that no clock reaches, does nothing. -/
theorem wideWord_idle {h : Hw} {n : Nat} (c : Nat) (es : List SramErr)
    (hi : (h.tile n).running = false ∨ 512 ≤ n ∨ h.tileClk (partOf n) = false) : h.wideWord n c es = h := by
  refine if_pos ?_
  obtain hr | hn | hk := hi
  · exact .inr (.inr (by simp [hr]))
  · exact .inl hn
  · exact .inr (.inl (by simp [hk]))

section
variable {h : Hw} {n : Nat} (hn : n < 512) (hk : h.tileClk (partOf n) = true) (hr : (h.tile n).running = true)
  {u : Tile}
include hn hk hr

/-- A running tile's word ends as `execWord` says, and concerns no more than its tile where it neither ends the tile's
part of a job nor leaves it FAULTED. -/
theorem wideWord_running (c : Nat) {e : WordEnd} (he : (h.tile n).execWord false h.seat (h.sharesOf (partOf n)) = (u, e))
    (hhalt : e = .done → ¬ (u.ctl.st = .halted ∧ u.ctl.why = 1)) (hfault : e = .fault → u.ctl.st ≠ .faulted) :
    h.wideWord n c [] = h.setTile n ((u.cycles c e).atCkpt e) := by
  have hruns : ¬ (512 ≤ n ∨ ¬ h.tileClk (partOf n) ∨ ¬ (h.tile n).running) := by simp [hk, hr, Nat.not_le.mpr hn]
  have hfetch (pc : Nat) : fetchBad pc [] = false := rfl
  simp only [Hw.wideWord, if_neg hruns, hfetch, Hw.tileSram, List.foldl_nil, he]
  cases e with
  | wait k => rfl
  | fault => exact if_neg (hfault rfl)
  | done => exact if_neg (hhalt rfl)
  | brk => rfl

/-- A fault that the program handles leaves the tile in RUN, or halted where it was stepped. -/
theorem wideWord_handled (c : Nat) {sl : Nat} {f : TFault} (hten : (h.tile n).ctl.ten = true)
    (hin : (h.tile n).ctl.intrap = false)
    (he : (h.tile n).execWord false h.seat (h.sharesOf (partOf n)) = ((h.tile n).except sl f, .fault)) :
    h.wideWord n c [] = h.setTile n (((h.tile n).except sl f).cycles c .fault) := by
  refine wideWord_running hn hk hr c he nofun (fun _ => ?_)
  obtain ⟨-, -, hst⟩ := except_handled hten hin sl f
  rw [hst, eq_of_beq hr]
  split <;> decide

end

theorem matrixWriteback_oldest {h : Hw} {n : Nat} {o : MxuOp} {l : List MxuOp} (hn : n < 512)
    (hk : h.tileClk (partOf n) = true) (hm : (h.tile n).mxu = o :: l) : h.matrixWriteback n =
      h.setTile n ((({ h.tile n with mxu := l } : Tile).setAccs o.dst ((o.res.map BitVec.toNat).zip o.poison)).flag
        o.flags) := by
  have hruns : ¬ (512 ≤ n ∨ ¬ h.tileClk (partOf n)) := by simp [hk, Nat.not_le.mpr hn]
  rw [Hw.matrixWriteback, if_neg hruns, Hw.onTile, Tile.writeback, hm]

/-- Settles O37, a lemma per way in which a word ends. -/
theorem wideWords : Obligations.WideWords :=
  ⟨fun s n c _ hc hn hk hr hb hpc hw hi hp hwt hf hop => exec_of_core (exec_wideWord n c [] s) hc
      (wideWord_running hn hk hr c (execWord_commits hb hpc hw hi hp hwt hf) (fun _ => commit_notHalt hr hop) nofun),
    fun s n c _ hc hn hk hr hb hpc hw hi hp => exec_of_core (exec_wideWord n c [] s) hc
      (wideWord_running hn hk hr c (execWord_skips hb hpc hw hi hp) (fun _ => skip_notHalt hr) nofun),
    fun s n c _ hc hn hk hr hb hpc hw hi hp hwt => exec_of_core (exec_wideWord n c [] s) hc
      (wideWord_running hn hk hr c (execWord_waits hb hpc hw hi hp hwt) nofun nofun),
    fun s n c _ _ hc hn hk hr hb hpc hw hi hten hin => exec_of_core (exec_wideWord n c [] s) hc
      (wideWord_handled hn hk hr c hten hin (execWord_illegal hb hpc hw hi)),
    fun s n c _ _ hc hn hk hr hb hpc hw hi hp hwt hf hten hin => exec_of_core (exec_wideWord n c [] s) hc
      (wideWord_handled hn hk hr c hten hin (execWord_faults hb hpc hw hi hp hwt hf)),
    fun s n c es hc hi => exec_of_core (exec_wideWord n c es s) hc (wideWord_idle c es hi),
    fun s n _ _ hc hn hk hm => exec_of_core (exec_matrixWriteback n s) hc (matrixWriteback_oldest hn hk hm)⟩

end Sys2Proof.Machine
end

section
/-!
SUPPORT. The stream engine of a tile: a signal's request, a response, a layer-list entry and a fill's descriptor
(R616, R634-R638, R654, R658-R661).
-/
namespace Sys2Proof.Machine

open Sys2Proof

@[simp] theorem tile_setTile (h : Hw) (n : Nat) (t : Tile) : (h.setTile n t).tile n = t := SMap.get_set_self ..

/-- The engine of a tile has served channel `c` last (R636). -/
def Tile.served (t : Tile) (c : Nat) : Tile := { t with str := { t.str with last := c } }

/-- The tag under which a request leaves is the free one (R704). -/
theorem niSend_tag (h : Hw) (n op a len prio : Nat) (data : List Byte) (poison : List Bool) :
    (h.niSend n op a len prio data poison).1 = h.freeTag n := by
  rw [Hw.niSend]

/-- A padded SSIGNAL's request that its NI permits is a write that leaves under a new tag (R616, R635, R704). -/
theorem streamRequest_signal {h g : Hw} {n r f : Nat} {o : SOp} {q : SReq} (ho : (h.tile n).pickOp false = some o)
    (hp : o.padded = true) (hk : o.kind = .signal) (hq : o.next? = some (q, r, f))
    (hn : h.niCheck n q.gaddr q.len (some (partOf n)) = (none, g)) (ht : g.tagFree n = true) :
    h.streamRequest n false =
      (g.niSend n 2 q.gaddr q.len (g.prioOf n) (((h.tile n).served o.chan).storeData o q).1
        (((h.tile n).served o.chan).storeData o q).2).2.setTile n (((h.tile n).served o.chan).putOp o
          { o with row := r, off := f, out := o.out ++ [{ q with tag := g.freeTag n }] }) := by
  have hwr : (o.kind == .store || o.kind == .signal) = true := by rw [hk]; rfl
  simp only [Hw.streamRequest, ho, hp, hq, hn, ht, hwr, niSend_tag, Bool.not_true, Bool.false_eq_true, if_false,
    if_true, Tile.served]

/-- A delivered response that no issued SSTORE holds is taken (R634, R638, R654). -/
theorem streamResponse_taken {h g : Hw} {n tag : Nat} {o : SOp} {q : SReq} {a : Arrived}
    (ho : (h.tile n).str.ops.findSome? (fun o => (o.out.find? (fun q => q.tag == tag)).map (fun q => (o, q))) =
      some (o, q))
    (ht : h.takeRsp n tag = some (a, g)) (hw : o.writesTs = false ∨ (h.tile n).held q.ts q.len = false) :
    h.streamResponse n tag = g.setTile n ((h.tile n).streamRsp o q a.status a.data a.poison).retireOps := by
  have hfree : (o.writesTs && (h.tile n).held q.ts q.len) = false := Bool.and_eq_false_iff.mpr hw
  simp only [Hw.streamResponse, ho, ht, hfree, Bool.false_eq_true, if_false]

/-- The engine of a tile has read the list entry at the walk's address, whose flags are `fl` (R660, R661). -/
def Tile.walked (t : Tile) (fl : Nat) : Tile :=
  { t with str := { t.str with next := (t.str.next + 16) % 2 ^ 48, walking := !bit fl 0 && !bit fl 1,
                               ended := t.str.ended || bit fl 1 } }

/-- An entry whose flags are below 2 has no END bit (R660). -/
theorem bit_one_of_lt_two {fl : Nat} (hf : fl < 2) : bit fl 1 = false := by
  rw [bit_eq]
  exact Nat.testBit_lt_two_pow hf

/-- Past an entry without END, LAST alone ends the walk (R660). -/
theorem walked_walking (t : Tile) {fl : Nat} (hf : fl < 2) : (t.walked fl).str.walking = !bit fl 0 := by
  simp [Tile.walked, bit_one_of_lt_two hf]

section
variable {bs : List Byte} (hf : leAt bs 12 2 < 2) (hz : leAt bs 14 2 = 0) (hda : leAt bs 0 8 % 128 = 0)
  (hd : leAt bs 0 8 < 2 ^ 48) (hta : leAt bs 8 4 % 32 = 0) (htl : 0x30000 ≤ leAt bs 8 4) (hth : leAt bs 8 4 < 0x40000)
include hf hz hda hd hta htl hth

/-- An entry of the right form passes every check of the engine (R660). -/
theorem listEntry_noBreach : (decide (4 ≤ leAt bs 12 2) || leAt bs 14 2 != 0 || leAt bs 0 8 % 128 != 0 ||
    decide (2 ^ 48 ≤ leAt bs 0 8) || leAt bs 8 4 % 32 != 0 ||
    decide (leAt bs 8 4 < 0x30000 ∨ 0x40000 ≤ leAt bs 8 4)) = false := by
  simp only [Bool.or_eq_false_iff, decide_eq_false_iff_not, bne_eq_false_iff_eq]
  omega

/-- A valid entry, read while the prefetch queue has space, enqueues its fill (R658, R660, R661). -/
theorem layerListRead_enqueues {h g : Hw} {n : Nat} {far : List Byte} (hw : (h.tile n).str.walking = true)
    (hs : (h.tile n).str.stopped = false) (hq : (h.tile n).fills.length < 16)
    (hr : h.engineRead n (h.tile n).str.next 16 far = (0, bs, false, g)) :
    h.layerListRead n far = g.setTile n (((h.tile n).walked (leAt bs 12 2)).setOps
      ((h.tile n).str.ops ++ [listFill (leAt bs 0 8) (leAt bs 8 4)])) := by
  have hreads : (!(h.tile n).str.walking || (h.tile n).str.stopped || decide (16 ≤ (h.tile n).fills.length)) = false := by
    simp [hw, hs, hq]
  have hend : ¬ (bit (leAt bs 12 2) 1 = true ∧ leAt bs 0 8 = 0) := by simp [bit_one_of_lt_two hf]
  simp only [Hw.layerListRead, hreads, hr, hend, listEntry_noBreach hf hz hda hd hta htl hth, Bool.false_eq_true,
    if_false, Tile.walked]

end

/-- A valid descriptor makes the oldest unread fill of the list ready (R659). -/
theorem prefetchFill_ready {h g : Hw} {n : Nat} {far bs : List Byte} {o : SOp}
    (ho : (h.tile n).str.ops.find? (fun o => o.kind == .fill && !o.ready) = some o)
    (hs : (h.tile n).str.stopped = false) (hr : h.engineRead n o.daddr 128 far = (0, bs, false, g))
    (hx : xCheck .spref ((List.range 16).map (fun w => leAt bs (8 * w) 8)) o.ts 0 g.seat
      ⟨g.is (R.PACE_BW_MODE (partOf n)), g.get (R.PACE_BW_READ (partOf n)), g.get (R.PACE_BW_WRITE (partOf n)),
        g.get (R.PACE_BW_REMOTE (partOf n))⟩ = none) :
    h.prefetchFill n far = g.setTile n
      ((h.tile n).putOp o { o with desc := (List.range 16).map (fun w => leAt bs (8 * w) 8), ready := true }) := by
  simp only [Hw.prefetchFill, ho, hs, hr, hx, Bool.false_eq_true, if_false]

/-- Settles O41, a lemma per row of the stream engine. -/
theorem tileStreams : Obligations.TileStreams := by
  refine ⟨fun s n _ _ _ _ _ hc ho hp hk hq hn ht _ => ⟨_, exec_of_core (exec_streamRequest n false s) hc rfl,
      congrArg (·.jobPrep (partOf n) (relOf n)) (streamRequest_signal ho hp hk hq hn ht)⟩,
    fun s n tag _ _ _ _ hc ho ht hw => exec_of_core (exec_streamResponse n tag s) hc (streamResponse_taken ho ht hw),
    fun s n far _ _ hc hw hs hq hr hf hz hda hd hta htl hth => ⟨_, exec_of_core (exec_layerListRead n far s) hc
      (layerListRead_enqueues hf hz hda hd hta htl hth hw hs hq hr), ?_⟩,
    fun s n far _ _ _ hc ho hs hr hx => exec_of_core (exec_prefetchFill n far s) hc (prefetchFill_ready ho hs hr hx)⟩
  dsimp only
  rw [tile_setTile]
  exact ⟨rfl, rfl, walked_walking (s.hw.tile n) hf⟩

end Sys2Proof.Machine
end

section
/-!
SUPPORT. Jobs and checkpoints: the commands that load, start and stop, and the events by which they go on and end
(R667-R670, R816-R827, R831-R839, R1120).
-/
namespace Sys2Proof.Machine

open Sys2Proof

/-! ### What changes of tiles and partitions leave -/

@[simp] theorem pt_onPt (h : Hw) (p : Nat) (f : PartState → PartState) : (h.onPt p f).pt p = f (h.pt p) :=
  SMap.get_set_self ..

@[simp] theorem regs_onPt (h : Hw) (p : Nat) (f : PartState → PartState) : (h.onPt p f).regs = h.regs := rfl

@[simp] theorem mem_onPt (h : Hw) (p : Nat) (f : PartState → PartState) : (h.onPt p f).mem = h.mem := rfl

@[simp] theorem regs_onTiles (h : Hw) (p : Nat) (f : Tile → Tile) : (h.onTiles p f).regs = h.regs := by
  refine foldl_keeps Hw.regs _ (fun g n _ => ?_) h
  rfl

@[simp] theorem mem_onTiles (h : Hw) (p : Nat) (f : Tile → Tile) : (h.onTiles p f).mem = h.mem := by
  refine foldl_keeps Hw.mem _ (fun g n _ => ?_) h
  rfl

theorem part_onTiles (h : Hw) (p : Nat) (f : Tile → Tile) : (h.onTiles p f).part = h.part := by
  refine foldl_keeps Hw.part _ (fun g n _ => ?_) h
  rfl

theorem clk_jobPrep (h : Hw) (p r : Nat) : (h.jobPrep p r).clk = h.clk := by
  rw [Hw.jobPrep]
  cases (h.pt p).start with
  | none => rfl
  | some s => exact (apply_ite Hw.clk ..).trans (ite_self _)

theorem clk_jobPrepAll (h : Hw) (p : Nat) : (h.jobPrepAll p).clk = h.clk := by
  rw [Hw.jobPrepAll]
  exact foldl_keeps Hw.clk _ (fun g r _ => clk_jobPrep g p r) h

/-! ### PROGRAM_LOAD, JOB_START and CHECKPOINT as commands (R818, R821, R834 step 1) -/

/-- A tile in RUN stops at a word boundary for CHECKPOINT; another stays as it is (R834 step 1). -/
def Tile.ckptHalt (t : Tile) : Tile :=
  if t.running then { t.halt 2 with ctl := { (t.halt 2).ctl with arrived := none, ckStop := true } } else t

section
variable {h : Hw} {m k : Nat} {f : InFlight} (hp : f.part < 16) (hr : h.is R.CFG_STAT_RELEASED = true)
  (hu : h.fused f.part = false)

/-- A valid image, no job running, is copied whole and recorded as loaded (R817, R818, R821). -/
theorem loadImage_loads {bs : List Byte} {img : JobImg} {g : Hw} {p : Nat} (hrun : (h.pt p).run = none)
    (hi : parseJob bs (f.par 24 4) (h.get (R.NOC_ISO_SLICE_SLICE_BASE p)) (h.get (R.NOC_ISO_SLICE_SLICE_LEN p)) =
      some img)
    (hfree : img.secs.any (fun x => x.kind == 0 && (maskTiles p img.mask).any (fun e =>
      x.to img.mask e.1 && (h.tile e.2).running)) = false)
    (hc : h.copyHbm p img = some (0, g)) :
    h.loadImage m k p f bs = ((g.copySecs p img (fun _ => true)).onPt p
      (fun x => { x with loaded := some img, staged := none })).complete m k 0 0 0 := by
  simp only [Hw.loadImage, hrun, Option.isSome_none, Bool.false_and, Bool.false_eq_true, if_false, hi, hfree, hc]
  rfl

include hp hr hu

/-- PROGRAM_LOAD of a host image that is at hand goes by the image (R821). -/
theorem programLoad_judged (far : List Byte) {bs : List Byte} (hf : h.cmdFor m k 0x0105 = some f)
    (hpar : loadPar f = none) (hst : h.pstate f.part = 2) (hrun : (h.pt f.part).run = none) (hhost : f.par 1 1 = 1)
    (hd : h.hostData m k = some bs) : h.programLoad m k far = h.loadImage m k f.part f bs := by
  have hown (b : Bool) : (decide (m < 16) && 1 == 0 && b) = false := by simp
  have hbar : h.loadBarred f f.part = false := by simp [Hw.loadBarred, hst, hrun, pCOMPUTE]
  rw [Hw.programLoad, onCmd_found hf]
  simp only [hhost, hown, Bool.false_eq_true, if_false, partCmd_acts _ hf hp hpar hr hu, hbar, if_true, hd]

/-- JOB_START with no image staged and none loaded finds nothing to start (R821). -/
theorem jobStart_nothing (hf : h.cmdFor m k 0x0106 = some f) (hs : (h.pt f.part).staged = none)
    (hl : (h.pt f.part).loaded = none) : h.jobStart m k = h.complete m k 0x15 (h.pstate f.part) 0 := by
  rw [Hw.jobStart, partCmd_acts _ hf hp rfl hr hu]
  simp only [hs, hl, Option.orElse_none, ite_self]
  rfl

/-- JOB_START behind a running job queues the staged image (R821, R823). -/
theorem jobStart_queues {img : JobImg} (hf : h.cmdFor m k 0x0106 = some f) (hrun : (h.pt f.part).run.isSome = true)
    (hs : (h.pt f.part).staged = some img) (hj : img.job = f.par 4 4) (hst : h.pstate f.part = 2) :
    h.jobStart m k = ((h.begun m k).onPt f.part (fun x => { x with start := some ⟨img, m, k, []⟩ })).jobPrepAll
      f.part := by
  have hcompute : (h.pstate f.part != pCOMPUTE) = false := by rw [hst]; rfl
  rw [Hw.jobStart, partCmd_acts _ hf hp rfl hr hu]
  simp only [hrun, hs, hj, bne_self_eq_false, hcompute, Option.isNone_some, Bool.false_eq_true, if_false, if_true]

theorem checkpoint_wrongState (hf : h.cmdFor m k 0x0107 = some f) (hst : h.pstate f.part ≠ 2) :
    h.checkpoint m k = h.complete m k 0x15 (h.pstate f.part) 0 := by
  rw [Hw.checkpoint, partCmd_acts _ hf hp rfl hr hu]
  exact if_pos (bne_iff_ne.mpr hst)

/-- CHECKPOINT stops the tiles in RUN and waits for them (R834 step 1, R837). -/
theorem checkpoint_begins (hf : h.cmdFor m k 0x0107 = some f) (hst : h.pstate f.part = 2)
    (hck : (h.pt f.part).ck.phase = .none) :
    h.checkpoint m k = ((h.begun m k).onTiles f.part Tile.ckptHalt).onPt f.part
      (fun x => { x with ck := { x.ck with phase := .arriving, tag := 0xFFFF, cmd := some (m, k) } }) := by
  have hcompute : (h.pstate f.part != pCOMPUTE) = false := by rw [hst]; rfl
  rw [Hw.checkpoint, partCmd_acts _ hf hp rfl hr hu]
  simp only [hcompute, hck, bne_self_eq_false, Bool.false_eq_true, if_false]
  rfl

end

/-! ### The job is released and ends (R667, R668, R670, R825, R826) -/

/-- The queued job `x` of partition `p` is released on its tiles and becomes the running job (R667 steps 3 to 5). -/
def Hw.jobRuns (h : Hw) (p : Nat) (x : JobStart) : Hw :=
  ((maskTiles p x.img.mask).foldl (fun (h : Hw) e => h.onTile e.2 (fun t => t.release x.img)) h).onPt p (fun y =>
    { y with start := none, run := some ⟨x.img.job, x.img.mask, x.mb⟩, job := x.img.job, loaded := some x.img,
             staged := none })

theorem clk_jobRuns (h : Hw) (p : Nat) (x : JobStart) : (h.jobRuns p x).clk = h.clk := by
  refine foldl_keeps Hw.clk _ (fun g e _ => ?_) h
  rfl

/-- A queued job whose fills are done and failed nowhere is released, and JOB_START completes with table time (R667,
R670). -/
theorem jobRelease_releases {h g : Hw} {p : Nat} {x : JobStart} (hg : h.jobPrepAll p = g)
    (hs : (g.pt p).start = some x) (hr : (g.pt p).run = none) (hst : g.pstate p = 2)
    (herr : (maskTiles p x.img.mask).all (fun e => (g.tile e.2).str.jobErr == 0) = true)
    (hfill : g.jobFilled p x = true) :
    h.jobRelease p = (g.jobRuns p x).complete x.mb x.hd 0 0 h.clk.tt := by
  have hnone : (maskTiles p x.img.mask).foldl (fun a e => if a = 0 then (g.tile e.2).str.jobErr else a) 0 = 0 :=
    foldl_fixed_mem _ (fun e he => (if_pos rfl).trans (eq_of_beq (List.all_eq_true.mp herr e he)))
  have hcompute : (g.pstate p != pCOMPUTE) = false := by rw [hst]; rfl
  have htt : h.clk.tt = (g.jobRuns p x).clk.tt := by rw [clk_jobRuns, ← hg, clk_jobPrepAll]
  unfold Hw.jobRelease
  simp only [hg, hs, hr, hcompute, hnone, hfill, htt, bne_self_eq_false, Bool.not_true, Bool.false_eq_true, if_false,
    Hw.ok, stOK, Hw.jobRuns]

/-- A job whose tiles have all halted by HALT, their streams quiet, ends with status 0 (R670, R825, R826). -/
theorem jobEnd_success {h : Hw} {p : Nat} {r : JobRun} (hr : (h.pt p).run = some r) (hs : (h.pt p).start = none)
    (hflr : (h.pt p).flrJob = false) (hst : h.pstate p = 2)
    (hts : (maskTiles p r.mask).all (fun e => !(h.tile e.2).running && (h.tile e.2).jobQuiet false &&
      (h.tile e.2).ctl.why == 1) = true) : h.jobEnd p = h.endJob p 0 := by
  have htile (e) (he : e ∈ maskTiles p r.mask) : (h.tile e.2).running = false ∧ (h.tile e.2).jobQuiet false = true ∧
      (h.tile e.2).ctl.why = 1 := by
    simpa [and_assoc] using List.all_eq_true.mp hts e he
  have hquiet : (maskTiles p r.mask).any (fun e => (h.tile e.2).running || !(h.tile e.2).jobQuiet false) = false :=
    List.any_eq_false.mpr (fun e he => by simp [htile e he])
  have hwhy : (maskTiles p r.mask).all (fun e => (h.tile e.2).ctl.why == 1) = true :=
    List.all_eq_true.mpr (fun e he => beq_iff_eq.mpr (htile e he).2.2)
  have hended : (maskTiles p r.mask).all (fun e => [1, 5, 6, 7].contains (h.tile e.2).ctl.why) = true :=
    List.all_eq_true.mpr (fun e he => by rw [(htile e he).2.2]; rfl)
  have hfault : (h.pstate p == pFAULT) = false := by rw [hst]; rfl
  have hfirst (i : Nat) : NSet.has [] i = false := rfl
  simp only [Hw.jobEnd, hr, hs, hfirst, hquiet, hflr, hfault, hended, hwhy, Bool.false_eq_true, if_false, if_true]

/-! ### The checkpoint goes on (R834, R837-R839) -/

/-- The tiles that CHECKPOINT stopped being quiet, their records start to be written (R834, R836, R838). -/
theorem ckWrite_begins {h : Hw} {p : Nat} (ho : h.popen p = true) (hfold : h.foldStat p = fOPEN)
    (hc : (h.pt p).ck.copying = false) (hph : (h.pt p).ck.phase = .arriving)
    (hq : (tilesOf p).all (fun n => !(h.tile n).ctl.ckStop || ((h.tile n).quiet && (h.tile n).mxu.isEmpty)) = true) :
    h.ckWrite p = h.onPt p (fun x => { x with ck := { x.ck with phase := .writing } }) := by
  simp only [Hw.ckWrite, ho, hfold, hc, hph, hq, Bool.not_true, bne_self_eq_false, Bool.or_self, Bool.false_eq_true,
    if_false, if_true]

section
variable {h : Hw} {p : Nat} (hph : (h.pt p).ck.phase = .writing)
include hph

theorem ckCommit_waits (hw : h.ckWriteAll p = none) : h.ckCommit p = h := by
  rw [Hw.ckCommit, hph, hw]
  rfl

theorem ckCommit_activates {g : Hw} (hw : h.ckWriteAll p = some (0, g)) :
    h.ckCommit p = g.ckActive p (h.get (R.SYS_PART_STAT_CKPT_ACT p)) ((h.get (R.SYS_PART_SEQ_SEQ p) + 1) % 2 ^ 32)
      (h.pt p).ck := by
  rw [Hw.ckCommit, hph, hw]
  rfl

/-- A failed write abandons the checkpoint (R839). -/
theorem ckCommit_abandons {d : Nat} {g : Hw} (hw : h.ckWriteAll p = some (d + 1, g)) :
    h.ckCommit p = g.ckAbandon p (d + 1) true := by
  rw [Hw.ckCommit, hph, hw]
  rfl

end

/-! ### The dummy copy is acknowledged (R1120) -/

theorem copyAck_sender {h : Hw} {p : Nat} (mlen : Nat) (hp : p < 16) (hc : (h.pt p).ck.copying = true)
    (hs : h.get R.TBL_MIRSTAT_PARTNER ≠ h.seat) : h.copyAck p false mlen false = h.copyDone p false := by
  simp [Hw.copyAck, Nat.not_le.mpr hp, hc, hs]

theorem copyAck_partner {h : Hw} {p mlen : Nat} (hp : p < 16) (hs : h.get R.TBL_MIRSTAT_PRED ≠ h.seat)
    (hfit : 32 + 2 * mlen ≤ h.get R.TBL_MIRROR_SLOT) (hend : h.slotMib p + h.get R.TBL_MIRROR_SLOT ≤ 32768)
    (hfree : h.slotUsed p = false) : h.copyAck p true mlen false = h.putBit R.TBL_MIRSTAT_VALID p true := by
  simp [Hw.copyAck, Nat.not_le.mpr hp, hs, Nat.not_lt.mpr hfit, Nat.not_lt.mpr hend, hfree]

/-- Settles O31, a lemma per command and event. -/
theorem jobsAndCheckpoints : Obligations.JobsAndCheckpoints := by
  refine ⟨fun s m k _ far _ _ _ hd hf hp hr hu hpar hst hrun _ hhost hdata hi hfree hc =>
      exec_of_dealer (exec_programLoad m k far s) hd
        ((programLoad_judged hp hr hu far hf hpar hst hrun hhost hdata).trans (loadImage_loads hrun hi hfree hc)),
    fun s m k _ hd hf hp hr hu hs hl => exec_of_dealer (exec_jobStart m k s) hd (jobStart_nothing hp hr hu hf hs hl),
    fun s m k _ _ hd hf hp hr hu hrun hs hj hst =>
      exec_of_dealer (exec_jobStart m k s) hd (jobStart_queues hp hr hu hf hrun hs hj hst),
    fun s p _ hc hx hst herr hfill => exec_of_core (exec_jobRelease p s) hc
      (jobRelease_releases rfl (congrArg PartState.start hx) (congrArg PartState.run hx) hst herr hfill),
    fun s p _ hc hr hs hflr hst hts => exec_of_core (exec_jobEnd p s) hc (jobEnd_success hr hs hflr hst hts),
    fun s m k _ hd hf hp hr hu hst =>
      exec_of_dealer (exec_checkpoint m k s) hd (checkpoint_wrongState hp hr hu hf hst),
    fun s m k f hd hf hp hr hu hst hck => ⟨_, exec_of_dealer (exec_checkpoint m k s) hd
      (checkpoint_begins hp hr hu hf hst hck), ?_⟩,
    fun s p hc ho hfold hcopy hph hq =>
      exec_of_core (exec_checkpointWrite p s) hc (ckWrite_begins ho hfold hcopy hph hq),
    fun s p hc hph => exec_of_core (exec_checkpointCommit p s) hc ?_,
    fun s p mlen hs hp hc hself =>
      exec_of_sys (exec_dummyCopyAck p false mlen false s) hs (copyAck_sender mlen hp hc hself),
    fun s p mlen hs hp hself hfit hend hfree =>
      exec_of_sys (exec_dummyCopyAck p true mlen false s) hs (copyAck_partner hp hself hfit hend hfree)⟩
  · dsimp only
    rw [pt_onPt, pt_congr (part_onTiles ..), regs_onPt, regs_onTiles, mem_onPt, mem_onTiles]
    exact ⟨rfl, rfl, rfl⟩
  · match hw : s.hw.ckWriteAll p with
    | none => exact ckCommit_waits hph hw
    | some (0, g) => exact ckCommit_activates hph hw
    | some (d + 1, g) => exact ckCommit_abandons hph hw

end Sys2Proof.Machine
end

section
/-!
SUPPORT. Packets at their sinks, and requests without a response (R698-R704, R724, R739, R1110).
-/
namespace Sys2Proof.Machine

open Sys2Proof

/-! ### Requests at a sink of this seat (R698, R702, R739) -/

section
variable {h : Hw} {k : Nat} {p : Packet} (hk : h.pkt? k = some p)
include hk

section
variable {op : Nat} (ho : p.op = op) (hc : p.crcBad = false) (hs : p.dstSeat = h.seat) (hf : h.fenced p.dstNode = false)
include ho hc hs hf

/-- A tile that can serve a request takes it out of the network and answers it (R698). -/
theorem reqRow_tile (parity : Bool) (ans : UAns) (hn : p.dstNode < 512)
    (hst : h.gStatus p.addr p.bytes (op == 2) = 0) :
    h.reqRow op k false [] parity ans = (h.dropPkt k).storeServe p false := by
  have hport : ¬ (576 ≤ p.dstNode ∧ p.dstNode < 640) := by omega
  have hhbm : ¬ (512 ≤ p.dstNode ∧ p.dstNode < 576) := by omega
  have hclean : ((h.dropPkt k).crcLog p false).sramFound p.dstNode [] = h.dropPkt k := if_pos hn
  simp [Hw.reqRow, hk, ho, hc, hs, hf, hport, hhbm, hst, hclean]

/-- A request at an HBM port is handed to its controller (R739). -/
theorem reqRow_hbm (es : List SramErr) (parity : Bool) (ans : UAns) (hlo : 512 ≤ p.dstNode) (hhi : p.dstNode < 576) :
    h.reqRow op k false es parity ans = h.hbmServe k p false := by
  have hport : ¬ (576 ≤ p.dstNode ∧ p.dstNode < 640) := by omega
  simp [Hw.reqRow, hk, ho, hc, hs, hf, hport, hlo, hhi]

end

/-! ### Responses and messages at their node (R703, R698, R1110) -/

/-- A response for a node of this seat leaves the network and arrives at its NI (R703). -/
theorem rspRow_arrives {op : Nat} (crc : Bool) (ho : p.op = op) (hs : p.dstSeat = h.seat) (hn : p.dstNode < 655) :
    h.rspRow op k crc = (h.dropPkt k).rspArrive { p with crcBad := p.crcBad || crc } := by
  have hseat : (p.dstSeat != (h.dropPkt k).seat) = false := bne_eq_false_iff_eq.mpr hs
  simp only [Hw.rspRow, hk, ho, bne_self_eq_false, hseat, Nat.not_le.mpr hn, Bool.false_eq_true, if_false]

/-- An interrupt packet gives its node its vector (R698). -/
theorem interrupt_delivered (ho : p.op = 0xC4) (hs : p.dstSeat = h.seat) (hc : p.crcBad = false) :
    h.interrupt k false = { h.dropPkt k with noc := { (h.dropPkt k).noc with
      irq := (h.dropPkt k).noc.irq ++ [(p.dstNode, bits p.aux 10 0)] } } := by
  simp only [Hw.interrupt, hk, ho, hs, hc, bne_self_eq_false, Bool.or_self, Bool.false_eq_true, if_false]

/-- What a heartbeat says of its seat (R1110). -/
def Packet.hbNote (p : Packet) : HbNote := ⟨bit p.aux 3, bit p.aux 4, bit p.aux 5, bits p.aux 47 16⟩

/-- A heartbeat that reports no loss, with neither a re-deal nor TBL_SLEEP under way, is noted for its seat and no more
(R1110). -/
theorem heartbeat_noted (ho : p.op = 0xC3) (hs : p.dstSeat = h.seat) (hn : p.dstNode = 647) (hc : p.crcBad = false)
    (hw : h.watching = true) (hp : h.bitOf R.TBL_STAT_PRESENT (bits p.aux 2 0) = true) (hr : h.tbl.redeal = none)
    (hsl : h.tbl.sleepCmd = none) : h.heartbeat k false none =
      (h.dropPkt k).onTbl (fun t => { t with hb := SMap.set (fun _ => none) t.hb (bits p.aux 2 0) (some p.hbNote) }) := by
  have hwatch : (h.dropPkt k).watching = true := hw
  have hpresent : (h.dropPkt k).bitOf R.TBL_STAT_PRESENT (bits p.aux 2 0) = true := hp
  have hredeal : (h.dropPkt k).tbl.redeal = none := hr
  have hsleep : (h.dropPkt k).tbl.sleepCmd = none := hsl
  simp [Hw.heartbeat, hk, ho, hs, hn, hc, hwatch, hpresent, Hw.onTbl, hredeal, hsleep, Packet.hbNote]

end

/-- With the identity exchange complete, DONE stays as it is (R1105). -/
theorem doneFollow_identOk {h : Hw} (hi : h.is R.CFG_STAT_IDENT_OK = true) : h.doneFollow = h := by
  rw [Hw.doneFollow, hi]
  rfl

/-! ### A request without its response (R724) -/

/-- The request `o` of node `n` is closed for want of a response, and its NI's inbox takes an ERROR in its place. -/
def Hw.timedOut (h : Hw) (n tag : Nat) (o : Outst) : Hw :=
  { h with noc := { h.noc with outst := h.noc.outst.map (fun x => if x = o then { x with closed := .byTimeout } else x),
                               inbox := h.noc.inbox ++ [⟨n, tag, 1, [], []⟩] } }

/-- Off the tiles a timeout is reported and is no fault of a partition (R724, R828). -/
theorem rspTimeout_reported {h : Hw} {n tag : Nat} {o : Outst} (hn : 512 ≤ n)
    (ho : h.noc.outst.find? (fun x => x.node == n && x.tag == tag && x.closed == .live) = some o) :
    h.rspTimeout n tag = (h.timedOut n tag o).errAddr eTIMEOUT 1 n o.addr := by
  simp only [Hw.rspTimeout, ho, Nat.not_lt.mpr hn, if_false, Hw.timedOut]

/-- Settles O42, a lemma per kind of packet. -/
theorem networkPackets : Obligations.NetworkPackets := by
  refine ⟨fun s k ans p hu hk ho hc hs hn hf hst => exec_of_core (exec_rd k false [] ans s) hu
      (reqRow_tile hk ho hc hs hf false ans hn hst),
    fun s k ans p hu hk ho hc hs hlo hhi hf => exec_of_core (exec_rd k false [] ans s) hu
      (reqRow_hbm hk ho hc hs hf [] false ans hlo hhi),
    fun s k ans p parity hu hk ho hc hs hn hf hst => exec_of_core (exec_wr k false [] parity ans s) hu
      (reqRow_tile hk ho hc hs hf parity ans hn hst),
    fun s k crc p hu hk ho hs hn => exec_of_core (exec_rdRsp k crc s) hu (rspRow_arrives hk crc ho hs hn),
    fun s k crc p hu hk ho hs hn => exec_of_core (exec_wrRsp k crc s) hu (rspRow_arrives hk crc ho hs hn),
    fun s k p hu hk ho hs hc => exec_of_core (exec_interrupt k false s) hu (interrupt_delivered hk ho hs hc),
    fun s k p hu hk ho hs hn hc hw hp hr hsl hi => exec_of_core (exec_heartbeat k false none s) hu ?_,
    fun s n tag o hu hn ho => exec_of_core (exec_rspTimeout n tag s) hu (rspTimeout_reported hn ho)⟩
  rw [heartbeat_noted hk ho hs hn hc hw hp hr hsl]
  exact doneFollow_identOk hi

end Sys2Proof.Machine
end

section
/-!
SUPPORT. The Fold handshake, from NOC_FOLD_REQ to FOLD_ACK (R715-R720, R725, R731).
-/
namespace Sys2Proof.Machine

open Sys2Proof

/-! ### NOC_FOLD_REQ (R715, R720, R725, R731) -/

theorem regDo_foldReq {h : Hw} (v : Nat) (hd : h.blkDown .noc R.NOC_FOLD_REQ = false) :
    h.regDo R.NOC_FOLD_REQ v = h.foldReqWrite (v % 2 ^ 32) := by
  obtain ⟨r, hr, hb⟩ : ∃ r, regDef? R.NOC_FOLD_REQ = some r ∧ r.blk = .noc := ⟨_, rfl, rfl⟩
  rw [Hw.regDo, regWrite_of_regDef h v _ hr (hb ▸ hd) (by decide), Hw.regStore, hb]
  rfl

/-- NOC_FOLD_REQ with INDEX `i`, KIND `port`, PGATE `pgate` and OP `op` (R731). -/
def foldWord (i : Nat) (port pgate op : Bool) : Nat := 2 ^ 6 * (4 * b2n port + 256 * b2n pgate + 512 * b2n op) + i

theorem foldWord_fields {i : Nat} (hi : i < 64) (port pgate op : Bool) : let v := foldWord i port pgate op
    v % 64 = i ∧ bit v 8 = port ∧ bit v 14 = pgate ∧ bit v 15 = op := by
  have habove (q k : Nat) (hk : 6 ≤ k) : bit (2 ^ 6 * q + i) k = bit q (k - 6) := by
    rw [bit_eq, bit_eq, Nat.testBit_two_pow_mul_add _ hi, if_neg (Nat.not_lt.mpr hk)]
  have hflags : ∀ a b c : Bool, let q := 4 * b2n a + 256 * b2n b + 512 * b2n c
      bit q 2 = a ∧ bit q 8 = b ∧ bit q 9 = c := by decide
  obtain ⟨h2, h8, h9⟩ := hflags port pgate op
  exact ⟨by simp only [foldWord]; omega, (habove _ 8 (by decide)).trans h2, (habove _ 14 (by decide)).trans h8,
    (habove _ 15 (by decide)).trans h9⟩

theorem foldReqWrite_mod (h : Hw) (v : Nat) : h.foldReqWrite (v % 2 ^ 32) = h.foldReqWrite v := by
  have hi : v % 2 ^ 32 % 64 = v % 64 := Nat.mod_mod_of_dvd v (by decide)
  simp only [Hw.foldReqWrite, hi, bit_mod_word v (show 8 < 32 by decide), bit_mod_word v (show 14 < 32 by decide),
    bit_mod_word v (show 15 < 32 by decide)]

section
variable {h : Hw} {i v : Nat} {pgate op : Bool} (hd : h.blkDown .noc R.NOC_FOLD_REQ = false)
include hd

/-- KIND 1 names fabric port `i`, which is region 16 + i and has no power to gate (R731). -/
theorem regDo_foldReq_port (hi : i < 64) (hv : v = foldWord i true pgate op) :
    h.regDo R.NOC_FOLD_REQ v = if op then h.unfoldReq (16 + i) else h.foldRequest (16 + i) false [] := by
  obtain ⟨hidx, hkind, -, hop⟩ := foldWord_fields hi true pgate op
  rw [regDo_foldReq v hd, foldReqWrite_mod, hv]
  simp [Hw.foldReqWrite, hidx, hkind, hop]

/-- KIND 0 names partition `i` (R731). -/
theorem regDo_foldReq_part (hi : i < 16) (hv : v = foldWord i false pgate op) :
    h.regDo R.NOC_FOLD_REQ v = if op then h.unfoldReq i else h.foldRequest i pgate [] := by
  obtain ⟨hidx, hkind, hpg, hop⟩ := foldWord_fields (by omega : i < 64) false pgate op
  rw [regDo_foldReq v hd, foldReqWrite_mod, hv]
  simp [Hw.foldReqWrite, hidx, hkind, hpg, hop, hi, Nat.not_le.mpr hi]

/-- There is no partition above 15 (R731). -/
theorem regDo_foldReq_none (hlo : 16 ≤ i) (hi : i < 64) (hv : v = foldWord i false pgate op) :
    h.regDo R.NOC_FOLD_REQ v = h := by
  obtain ⟨hidx, hkind, -, -⟩ := foldWord_fields hi false pgate op
  rw [regDo_foldReq v hd, foldReqWrite_mod, hv]
  simp [Hw.foldReqWrite, hidx, hkind, hlo]

end

/-- The words that the rows NOC_FOLD and NOC_UNFOLD write. -/
theorem foldWord_fold {i : Nat} (hi : i < 64) (port pgate : Bool) :
    i % 64 + 256 * b2n port + 16384 * b2n pgate = foldWord i port pgate false := by
  simp only [foldWord, show b2n false = 0 from rfl]
  omega

theorem foldWord_unfold {i : Nat} (hi : i < 64) (port : Bool) :
    i % 64 + 256 * b2n port + 32768 = foldWord i port false true := by
  simp only [foldWord, show b2n false = 0 from rfl, show b2n true = 1 from rfl]
  omega

/-! ### The handshake, step by step (R715, R717) -/

/-- A tile stops unless a bin job may run there or a checkpoint is being written; other endpoints always do (R717,
R847, R985). -/
theorem foldReqRow_stops {h : Hw} {n : Nat}
    (hn : 512 ≤ n ∨ (h.pstate (partOf n) ≠ 3 ∧ h.ckBusy (partOf n) = false)) : h.foldReqRow n = h.foldReqAt n := by
  refine if_neg ?_
  rintro ⟨hlt, hbusy⟩
  obtain hge | ⟨hst, hck⟩ := hn
  · omega
  · obtain ⟨hg, -⟩ | hb := hbusy
    · exact hst hg
    · exact ne_true_of_eq_false hck hb

/-- OUT = 0 at a node without a tile fences its port (R715 steps 3 and 4). -/
theorem outDrained_fences {h : Hw} {n : Nat} (hn : 512 ≤ n) (hw : NSet.has (h.fsm (regionOf n)).waitOut n = true)
    (ho : h.outOf n = []) : h.outDrained n = (h.setFsm (regionOf n) { h.fsm (regionOf n) with
      waitOut := NSet.del (h.fsm (regionOf n)).waitOut n,
      waitIn := NSet.add (h.fsm (regionOf n)).waitIn n }).fenceSet n .fold true := by
  simp only [Hw.outDrained, hw, ho, decide_eq_true hn, Bool.true_or, List.isEmpty_nil, Bool.and_self, if_true]

/-- IN = 0 sends FENCE_DONE on its way (R715 steps 5 and 6). -/
theorem inDrained_moves {h : Hw} {n : Nat} (hw : NSet.has (h.fsm (regionOf n)).waitIn n = true)
    (ha : h.noc.accepted.all (fun p => p.dstNode != n) = true) : h.inDrained n = h.setFsm (regionOf n)
      { h.fsm (regionOf n) with waitIn := NSet.del (h.fsm (regionOf n)).waitIn n,
                                waitDone := NSet.add (h.fsm (regionOf n)).waitDone n } := by
  have hany : h.noc.accepted.any (fun p => p.dstNode == n) = false :=
    List.any_eq_false.mpr (fun p hp => bne_iff_ne.mp (List.all_eq_true.mp ha p hp) ∘ beq_iff_eq.mp)
  simp only [Hw.inDrained, hw, hany, Bool.not_false, Bool.and_self, if_true]

/-- The Fold handshake of a port whose nodes are done ends in FOLDED (R715 steps 7 and 8). -/
theorem foldAck_port {h : Hw} {k : Nat} (hk : 16 ≤ k) (hr : h.foldReady k = true) (hf : (h.fsm k).forced = false)
    (hh : (h.fsm k).held = false) (ha : (h.fsm k).acks = []) :
    h.foldAck k = (h.setFsm k FoldSm.reset).setFoldStat k fFOLDED := by
  simp [Hw.foldAck, hr, hf, hh, ha, Nat.not_lt.mpr hk]

theorem pwr_setFoldStat (h : Hw) (k v : Nat) : (h.setFoldStat k v).pwr' = h.pwr' :=
  (apply_ite Hw.pwr' ..).trans (ite_self _)

/-- A fabric port has no checkpoint and no raster work to give up: its fold is forced (R718). -/
theorem foldTimeout_port {h : Hw} {k : Nat} (hk : 16 ≤ k) (hst : h.foldStat k = fFOLDING)
    (hf : (h.fsm k).forced = false) : h.foldTimeout k = h.foldForce k := by
  simp [Hw.foldTimeout, hst, hf, Nat.not_lt.mpr hk]

/-- Settles O43, a lemma per row of the handshake. -/
theorem folds : Obligations.Folds := by
  refine ⟨fun s i pgate hc hi hd => exec_of_core (exec_nocFold true i pgate s) hc
      (regDo_foldReq_port hd hi (foldWord_fold hi true pgate)),
    fun s i pgate hc hi hd => exec_of_core (exec_nocFold false i pgate s) hc
      (regDo_foldReq_part hd hi (foldWord_fold (by omega) false pgate)),
    fun s i pgate hc hlo hi hd => exec_of_core (exec_nocFold false i pgate s) hc
      (regDo_foldReq_none hd hlo hi (foldWord_fold hi false pgate)),
    fun s i hc hi hd => exec_of_core (exec_nocUnfold true i s) hc
      (regDo_foldReq_port hd hi (foldWord_unfold hi true)),
    fun s i hc hi hd => exec_of_core (exec_nocUnfold false i s) hc
      (regDo_foldReq_part hd hi (foldWord_unfold (by omega) false)),
    fun s n hc hn => exec_of_core (exec_foldReq n s) hc (foldReqRow_stops hn),
    fun s n hc hn hw ho => exec_of_core (exec_foldOutDrained n s) hc (outDrained_fences hn hw ho),
    fun s n hc hw ha => exec_of_core (exec_foldInDrained n s) hc (inDrained_moves hw ha),
    fun s n hc => exec_of_core (exec_fenceDone n s) hc rfl,
    fun s k hc hk hr hf hh ha hp => exec_of_core (exec_foldAck k s) hc ?_,
    fun s k hc hk hst hf => exec_of_core (exec_foldTimeout k s) hc
      (congrArg Hw.pwrSettle (foldTimeout_port hk hst hf))⟩
  rw [foldAck_port hk hr hf hh ha]
  exact pwrSettle_still (by rw [pwr_setFoldStat]; exact hp)

end Sys2Proof.Machine
end

section
/-!
SUPPORT. The HBM hash (R740, R741): an offset is its upper part, its hashed field and its low byte, and the hash replaces the
hashed field by its xor with a value of the upper part alone.
-/
namespace Sys2Proof.Machine

open Sys2Proof

/-! ### An offset by its three parts -/

/-- The offset of upper part `u`, hashed field `x` and low byte `b`. -/
def hbmParts (u x b : Nat) : Nat := u * 2 ^ 14 + x * 2 ^ 8 + b

theorem hbmParts_of (o : Nat) : hbmParts (o / 2 ^ 14) (bits o 13 8) (o % 2 ^ 8) = o := by
  rw [hbmParts, bits, Nat.shiftRight_eq_div_pow]
  omega

/-- The xor of the hash's fields above the hashed one, of the offset's upper part (R741). -/
def upperHash (u : Nat) : Nat := bits u 5 0 ^^^ bits u 11 6 ^^^ bits u 17 12 ^^^ bits u 20 18

theorem upperHash_lt (u : Nat) : upperHash u < 2 ^ 6 :=
  Nat.xor_lt_two_pow (Nat.xor_lt_two_pow (Nat.xor_lt_two_pow (bits_lt u 5 0) (bits_lt u 11 6)) (bits_lt u 17 12))
    (Nat.lt_trans (bits_lt u 20 18) (by decide))

/-- A field of a shifted number is the field that much higher. -/
theorem bits_div_two_pow (v k hi lo : Nat) : bits (v / 2 ^ k) hi lo = bits v (hi + k) (lo + k) := by
  rw [bits, bits, ← Nat.shiftRight_eq_div_pow, ← Nat.shiftRight_add, Nat.add_comm k lo]
  congr 2
  omega

theorem upperHash_div (o : Nat) :
    upperHash (o / 2 ^ 14) = bits o 19 14 ^^^ bits o 25 20 ^^^ bits o 31 26 ^^^ bits o 34 32 := by
  simp only [upperHash, bits_div_two_pow]

section
variable {u x b : Nat} (hx : x < 2 ^ 6) (hb : b < 2 ^ 8)
include hx hb

theorem hbmParts_upper : hbmParts u x b / 2 ^ 14 = u := by rw [hbmParts]; omega

theorem hbmParts_hashed : bits (hbmParts u x b) 13 8 = x := by
  rw [bits, hbmParts, Nat.shiftRight_eq_div_pow]
  omega

theorem hbmChan_parts : hbmChan (hbmParts u x b) = x ^^^ upperHash u := by
  have hu := upperHash_div (hbmParts u x b)
  rw [hbmParts_upper hx hb] at hu
  rw [hbmChan, hbmParts_hashed hx hb, hu]
  simp only [Nat.xor_assoc]

theorem hbmLocal_parts (hu : u < 2 ^ 21) : hbmLocal (hbmParts u x b) = u * 2 ^ 8 + b := by
  rw [hbmLocal, hbmParts, bits, Nat.shiftRight_eq_div_pow]
  omega

end

/-- The inverse takes the channel's xor with the upper part's hash as the hashed field (R741). -/
theorem hbmOffset_eq (c l : Nat) :
    hbmOffset c l = hbmParts (l / 2 ^ 8) (c ^^^ upperHash (l / 2 ^ 8)) (l % 2 ^ 8) := by
  have hb : l % 2 ^ 8 < 2 ^ 8 := Nat.mod_lt _ (by decide)
  have hu := upperHash_div (hbmParts (l / 2 ^ 8) 0 (l % 2 ^ 8))
  rw [hbmParts_upper (by decide) hb, hbmParts, Nat.zero_mul, Nat.add_zero] at hu
  rw [hbmParts, hu]
  simp only [hbmOffset, Nat.xor_assoc, Nat.reducePow]
  omega

/-! ### The hash loses nothing (R741) -/

theorem hbmMap_of_parts {u x b : Nat} (hu : u < 2 ^ 21) (hx : x < 2 ^ 6) (hb : b < 2 ^ 8) :
    hbmChan (hbmParts u x b) < 64 ∧ hbmLocal (hbmParts u x b) < 2 ^ 29 ∧
      hbmOffset (hbmChan (hbmParts u x b)) (hbmLocal (hbmParts u x b)) = hbmParts u x b := by
  have hq : (u * 2 ^ 8 + b) / 2 ^ 8 = u := by omega
  have hr : (u * 2 ^ 8 + b) % 2 ^ 8 = b := by omega
  rw [hbmChan_parts hx hb, hbmLocal_parts hx hb hu, hbmOffset_eq, hq, hr, Nat.xor_xor_cancel_right]
  exact ⟨Nat.xor_lt_two_pow hx (upperHash_lt u), by omega, rfl⟩

theorem hbmOffset_inverse {c l : Nat} (hc : c < 2 ^ 6) (hl : l < 2 ^ 29) :
    hbmOffset c l < 2 ^ 35 ∧ hbmChan (hbmOffset c l) = c ∧ hbmLocal (hbmOffset c l) = l := by
  have hx : c ^^^ upperHash (l / 2 ^ 8) < 2 ^ 6 := Nat.xor_lt_two_pow hc (upperHash_lt _)
  have hb : l % 2 ^ 8 < 2 ^ 8 := Nat.mod_lt _ (by decide)
  rw [hbmOffset_eq, hbmChan_parts hx hb, hbmLocal_parts hx hb (by omega), Nat.xor_xor_cancel_right, hbmParts]
  exact ⟨by omega, rfl, by omega⟩

/-- Settles O44: the hash and its inverse on an offset's parts. -/
theorem hbmMapping : Obligations.HbmMapping := by
  refine ⟨fun o ho => ⟨?_, rfl, ?_⟩, fun c l hc hl => hbmOffset_inverse hc hl⟩
  · rw [hbmLocal, bits, Nat.shiftRight_eq_div_pow]
    omega
  · have hmap := hbmMap_of_parts (u := o / 2 ^ 14) (by omega) (bits_lt o 13 8) (Nat.mod_lt o (by decide : 0 < 2 ^ 8))
    rwa [hbmParts_of o] at hmap

end Sys2Proof.Machine
end

section
/-!
SUPPORT. The memory controllers (R743-R749, R769, R772): the controllers' states, BURST_ISSUE, refresh, throttles, rows and
power-down.
-/
namespace Sys2Proof.Machine

open Sys2Proof

theorem exec_of_mem {s : State} {i : Instr} {f : Hw → Hw} {g : Hw} (hi : exec i s = s.mem f)
    (hu : s.hw.memUp = true) (e : f s.hw = g) : exec i s = .next { s with hw := g } := by
  rw [hi, State.mem, State.upd, hu, e]
  rfl

@[simp] theorem pcs_setPcs (h : Hw) (c : Nat) (p : PcState) : (h.setPcs c p).pcs c = p := SMap.get_set_self ..

theorem pcs_setPcs_ne (h : Hw) {c d : Nat} (p : PcState) (hd : d ≠ c) : (h.setPcs c p).pcs d = h.pcs d :=
  SMap.get_set_ne _ _ _ hd

/-! ### BURST_ISSUE (R672, R743) -/

theorem calendars_q (h : Hw) (p : PcState) : (h.calendars p).q = p.q := by
  unfold Hw.calendars
  dsimp only
  split <;> split <;> rfl

/-- An empty queue offers nothing to choose. -/
theorem chooseBurst_empty (h : Hw) (c : Nat) {p : PcState} (hq : p.q = []) : h.chooseBurst c p = none := by
  have hr : h.ready c p = [] := by simp [Hw.ready, hq]
  have hs : slotFilter p [] = [] := rfl
  simp [Hw.chooseBurst, hr, hs, prefer]

section
variable {h : Hw} {c : Nat} (par : Nat) (err : List (Nat × Nat))

theorem burstIssue_stopped (hr : h.pcRuns c = false) : h.burstIssue c par err = h := by
  simp [Hw.burstIssue, hr]

theorem burstIssue_empty (hq : (h.pcs c).q = []) : h.burstIssue c par err = h := by
  by_cases hr : h.pcRuns c = true
  · have hq' : (h.calendars (h.pcs c)).q = [] := (calendars_q h _).trans hq
    simp [Hw.burstIssue, hr, chooseBurst_empty, hq']
  · exact burstIssue_stopped par err (Bool.eq_false_iff.mpr hr)

theorem burstIssue_chosen {b : HBurst} {p : PcState} (hr : h.pcRuns c = true)
    (hp : p = { h.calendars (h.pcs c) with drain := h.drainState c (h.calendars (h.pcs c)) })
    (hb : h.chooseBurst c p = some b) : h.burstIssue c par err =
      (h.setPcs c (if b.kind = .read then { p with slotR := (p.slotR + 1) % 16 }
        else { p with slotW := (p.slotW + 1) % 16 })).issueBurst c b par err := by
  subst hp
  simp [Hw.burstIssue, hr, hb]

end

/-! ### Refresh (R749, R769, R773) -/

section
variable {h : Hw} {c : Nat} (hst : h.memState (c / 32) = msRUN)
include hst

theorem refresh_allBank (hm : h.is (R.MEM_REF_CFG_MODE (c / 32)) = true) :
    h.refresh c = h.setPcs c { h.pcs c with rows := [], due := [] } := by
  simp [Hw.refresh, hst, hm]

theorem refresh_perBank (hm : h.is (R.MEM_REF_CFG_MODE (c / 32)) = false) : ∃ rows due,
    h.refresh c = h.setPcs c { h.pcs c with rot := ((h.pcs c).rot + 1) % 32, rows := rows, due := due } := by
  simp only [Hw.refresh, hst, hm, bne_self_eq_false, Bool.false_eq_true, if_false]
  exact ⟨_, _, rfl⟩

end

/-- A controller at the start of a refresh window. -/
def PcState.windowed (p : PcState) : PcState :=
  { p with trk := [], thr := p.thr.map (fun t =>
      { t with level := if t.trig then t.level else t.level - 1, trig := false }) }

/-- One controller of stack `st` at the start of the window. -/
def Hw.windowPc (st : Nat) (h : Hw) (n : Nat) : Hw := h.setPcs (32 * st + n) (h.pcs (32 * st + n)).windowed

theorem refreshWindow_eq (h : Hw) (st : Nat) : h.refreshWindow st = (List.range 32).foldl (Hw.windowPc st) h := rfl

theorem refreshWindow_keeps (h : Hw) (st : Nat) :
    (h.refreshWindow st).regs = h.regs ∧ (h.refreshWindow st).mem = h.mem :=
  ⟨foldl_keeps Hw.regs (f := Hw.windowPc st) _ (fun _ _ _ => rfl) h,
    foldl_keeps Hw.mem (f := Hw.windowPc st) _ (fun _ _ _ => rfl) h⟩

theorem pcs_windowPc (h : Hw) (st m n : Nat) : (h.windowPc st m).pcs (32 * st + n) =
    if n = m then (h.pcs (32 * st + n)).windowed else h.pcs (32 * st + n) := by
  split
  next e => rw [e, Hw.windowPc, pcs_setPcs]
  next e => exact pcs_setPcs_ne _ _ (by omega)

/-- Controllers that are each visited once are windowed once, and others not at all. -/
theorem pcs_foldl_windowPc (st n : Nat) (l : List Nat) (hl : l.Nodup) (h : Hw) :
    (l.foldl (Hw.windowPc st) h).pcs (32 * st + n) =
      if n ∈ l then (h.pcs (32 * st + n)).windowed else h.pcs (32 * st + n) := by
  induction l generalizing h with
  | nil => rfl
  | cons m l ih =>
    obtain ⟨hm, hl'⟩ := List.nodup_cons.mp hl
    rw [List.foldl_cons, ih hl', pcs_windowPc]
    by_cases e : n = m
    · subst e
      simp [hm]
    · simp [e]

theorem pcs_refreshWindow (h : Hw) (st : Nat) {n : Nat} (hn : n < 32) :
    ((h.refreshWindow st).pcs (32 * st + n)) = (h.pcs (32 * st + n)).windowed := by
  rw [refreshWindow_eq, pcs_foldl_windowPc st n _ List.nodup_range, if_pos (List.mem_range.mpr hn)]

/-! ### Rows and power-down (R746) -/

theorem rowClose_unused {h : Hw} {c bank : Nat} (hu : NMap.get (h.pcs c).used bank + 640 ≤ h.clk.now) :
    h.rowClose c bank = h.setPcs c { h.pcs c with rows := NMap.set (h.pcs c).rows bank 0 } := if_pos hu

theorem powerDown_idle {h : Hw} {st : Nat} (hst : h.memState st = msRUN) (hpd : h.is (R.MEM_CTL_PD_IDLE st) = true)
    (hq : (List.range 32).all (fun n => (h.pcs (32 * st + n)).q.isEmpty) = true) :
    h.powerDown st = { h with hbm := { h.hbm with pdown := NSet.add h.hbm.pdown st } } := by
  simp only [Hw.powerDown, hst, hpd, hq, BEq.rfl, Bool.and_self, if_true]

/-- Settles O45, a lemma per row. -/
theorem memoryController : Obligations.MemoryController := by
  refine ⟨fun s c par err hu hr => exec_of_mem (exec_burstIssue c par err s) hu (burstIssue_stopped par err hr),
    fun s c par err hu hq => exec_of_mem (exec_burstIssue c par err s) hu (burstIssue_empty par err hq),
    fun s c par err b p hu hr hp hb hk => exec_of_mem (exec_burstIssue c par err s) hu
      ((burstIssue_chosen par err hr hp hb).trans (by rw [if_pos hk])),
    fun s c par err b p hu hr hp hb hk => exec_of_mem (exec_burstIssue c par err s) hu
      ((burstIssue_chosen par err hr hp hb).trans (by rw [if_neg hk])),
    fun s c hu hst hm => exec_of_mem (exec_refresh c s) hu (refresh_allBank hst hm),
    fun s c hu hst hm => ?perBank,
    fun s st n hu hn => ⟨_, exec_of_mem (exec_refreshWindow st s) hu rfl,
      congrArg PcState.trk (pcs_refreshWindow s.hw st hn), congrArg PcState.thr (pcs_refreshWindow s.hw st hn),
      refreshWindow_keeps s.hw st⟩,
    fun s c hu => exec_of_mem (exec_throttleEnd c s) hu rfl,
    fun s c bank hu hused => exec_of_mem (exec_rowClose c bank s) hu (rowClose_unused hused),
    fun s st hu hst hpd hq => exec_of_mem (exec_powerDown st s) hu (powerDown_idle hst hpd hq)⟩
  obtain ⟨rows, due, e⟩ := refresh_perBank hst hm
  exact ⟨_, exec_of_mem (exec_refresh c s) hu e, by simp, by simp, rfl, rfl⟩

end Sys2Proof.Machine
end

section
/-!
SUPPORT. Temperature, training, lane repair and retraining of the stacks (R748, R750-R755, R791).
-/
namespace Sys2Proof.Machine

open Sys2Proof

/-! ### Temperature (R748, R750, R751) -/

/-- MEM_TEMP of stack `st` is written, which ends its staleness (R750). -/
def Hw.tempShown (h : Hw) (st v : Nat) : Hw := (h.put (R.MEM_TEMP_TEMP st) v).putB (R.MEM_STAT_TEMP_STALE st) false

section
variable {h : Hw} {st v : Nat}

theorem memTemp_hot (ht : 85 * 16 < sext 16 v) :
    h.memTemp st v = (h.tempShown st v).putB (R.MEM_STAT_DERATED st) true := if_pos ht

theorem memTemp_cool (ht : sext 16 v < 83 * 16) :
    h.memTemp st v = (h.tempShown st v).putB (R.MEM_STAT_DERATED st) false :=
  (if_neg (by omega)).trans (if_pos ht)

theorem memTemp_between (hlo : 83 * 16 ≤ sext 16 v) (hhi : sext 16 v ≤ 85 * 16) :
    h.memTemp st v = h.tempShown st v := (if_neg (by omega)).trans (if_neg (by omega))

/-- A stack whose temperature is stale refreshes at the derated intervals (R747, R750). -/
theorem refreshTimes_tempStale (h : Hw) (st : Nat) : (h.tempStale st).refreshTimes st = (1950, 16000000, 61) := by
  have hs : (h.tempStale st).is (R.MEM_STAT_TEMP_STALE st) = true :=
    Hw.is_putB_self h (R.MEM_STAT_TEMP_STALE st) true rfl (show 5 < 32 by decide)
  simp [Hw.refreshTimes, Hw.derated, hs]

theorem hbmHot_rises {g : Hw} (hst : st < 2) (ha : h.asleep = false) (hw : NSet.has h.err.alarm (3 + st) = false)
    (hg : g = (({ h with err := { h.err with alarm := NSet.put h.err.alarm (3 + st) true } } : Hw).lastingOn eTHERMAL 2
      nodeREG).raise R.ERR_ALERT_ALERT (1 + st)) :
    h.hbmHot st true = if g.memState st = msRUN then g.selfRefresh st else g := by
  have hlt : decide (2 ≤ st) = false := decide_eq_false (by omega)
  subst hg
  simp [Hw.hbmHot, ha, hw, hlt]

end

/-! ### Training (R752, R754, R755) -/

/-- An attempt of stack `st` is counted as failed (R755). -/
def Hw.failNoted (h : Hw) (st : Nat) : Hw :=
  { h with hbm := { h.hbm with fails := NMap.set h.hbm.fails st (NMap.get h.hbm.fails st + 1) } }

theorem get_failNoted (h : Hw) (st : Nat) (f : Fld) : (h.failNoted st).get f = h.get f := Hw.get_congr rfl f

theorem tryFailed_eq (h : Hw) (st : Nat) :
    h.tryFailed st = (decide (3 ≤ NMap.get h.hbm.fails st + 1), h.failNoted st) := rfl

theorem trainFailed_pwr (h : Hw) (st : Nat) : (h.trainFailed st).pwr' = h.pwr' := by
  unfold Hw.trainFailed
  dsimp only
  split <;> rfl

section
variable {h : Hw} {st : Nat} (ht : h.memState st = msTRAINING)
include ht

theorem trainingDone_ok : h.trainingDone st none =
    ((((({ h.attempt st with hbm := { (h.attempt st).hbm with
      fails := NMap.set (h.attempt st).hbm.fails st 0, kept := NSet.del (h.attempt st).hbm.kept st } } : Hw).put
        (R.MEM_STAT_STATE st) msRUN).put (R.MEM_STAT_STEP st) 8).putB (R.MEM_STAT_TRAINED st) true).hbmOk) := by
  simp [Hw.trainingDone, ht]

theorem trainingDone_again (hn : NMap.get h.hbm.fails st < 2) :
    h.trainingDone st (some none) = ((h.attempt st).failNoted st).trainStart st 1 := by
  have hd : decide (3 ≤ NMap.get (h.attempt st).hbm.fails st + 1) = false := decide_eq_false
    (show ¬ 3 ≤ NMap.get h.hbm.fails st + 1 by omega)
  simp only [Hw.trainingDone, ht, bne_self_eq_false, Bool.false_eq_true, if_false, tryFailed_eq, hd]

theorem trainingDone_failed (hn : 2 ≤ NMap.get h.hbm.fails st) :
    h.trainingDone st (some none) = ((h.attempt st).failNoted st).trainFailed st := by
  have hd : decide (3 ≤ NMap.get (h.attempt st).hbm.fails st + 1) = true := decide_eq_true
    (show 3 ≤ NMap.get h.hbm.fails st + 1 by omega)
  simp only [Hw.trainingDone, ht, bne_self_eq_false, Bool.false_eq_true, if_false, tryFailed_eq, hd, if_true]

end

/-- The lane that failed step 7 is recorded (R754). -/
def Hw.laneNoted (h : Hw) (st n lane : Nat) : Hw := h.wr (R.MEM_LANE_FAIL st) (n % 32 + lane % 64 * 32 + 2048)

/-- Stack `st` is held for a repair, which REPAIR_CFG.AUTO asks for at once (R754). -/
def Hw.repairHeld (h : Hw) (st : Nat) : Hw :=
  let h := h.put (R.MEM_STAT_STATE st) msHOLD
  if h.is (R.MEM_REPAIR_CFG_AUTO st) then h.putB (R.MEM_REPAIR_CFG_REQ st) true else h

theorem trainingDone_lane {h : Hw} {st n lane : Nat} (ht : h.memState st = msTRAINING)
    (hn : NMap.get h.hbm.fails st < 2) (hs : NSet.has h.hbm.soft (laneGroup st n lane) = false)
    (hh : NSet.has h.hbm.hard (laneGroup st n lane) = false) :
    h.trainingDone st (some (some (n, lane))) =
      (((h.attempt st).laneNoted st n lane).failNoted st).repairHeld st := by
  have hd : decide (3 ≤ NMap.get ((h.attempt st).laneNoted st n lane).hbm.fails st + 1) = false :=
    decide_eq_false (show ¬ 3 ≤ NMap.get h.hbm.fails st + 1 by omega)
  have hs' : NSet.has (((h.attempt st).laneNoted st n lane).failNoted st).hbm.soft (laneGroup st n lane) = false := hs
  have hh' : NSet.has (((h.attempt st).laneNoted st n lane).failNoted st).hbm.hard (laneGroup st n lane) = false := hh
  simp only [← Hw.laneNoted.eq_1, Hw.trainingDone, ht, bne_self_eq_false, Bool.false_eq_true, if_false, tryFailed_eq,
    hd, hs', hh', or_self, Hw.repairHeld]

theorem repairHeld_verdict (h : Hw) (st : Nat) : let g := h.repairHeld st
    h.Writes g ∧ g.memState st = msHOLD ∧ g.rd (R.MEM_LANE_FAIL st) = h.rd (R.MEM_LANE_FAIL st) := by
  have hstat : R.MEM_STAT st ≠ R.MEM_REPAIR_CFG st := by
    simp only [R.MEM_STAT, R.MEM_REPAIR_CFG]
    omega
  have hlane : R.MEM_LANE_FAIL st ≠ R.MEM_REPAIR_CFG st ∧ R.MEM_LANE_FAIL st ≠ R.MEM_STAT st := by
    simp only [R.MEM_STAT, R.MEM_REPAIR_CFG, R.MEM_LANE_FAIL]
    omega
  have hset : (h.put (R.MEM_STAT_STATE st) msHOLD).memState st = msHOLD :=
    Hw.get_put_self h (R.MEM_STAT_STATE st) msHOLD (show 0 ≤ 2 by decide) (show 2 < 32 by decide)
  have hkeep : (h.put (R.MEM_STAT_STATE st) msHOLD).rd (R.MEM_LANE_FAIL st) = h.rd (R.MEM_LANE_FAIL st) :=
    Hw.rd_put_ne _ (R.MEM_STAT_STATE st) _ hlane.2
  unfold Hw.repairHeld
  dsimp only
  split
  · exact ⟨(Hw.Writes.put ..).trans (Hw.Writes.putB ..),
      (get_of_rd (f := R.MEM_STAT_STATE st) (Hw.rd_put_ne _ (R.MEM_REPAIR_CFG_REQ st) _ hstat)).trans hset,
      (Hw.rd_put_ne _ (R.MEM_REPAIR_CFG_REQ st) _ hlane.1).trans hkeep⟩
  · exact ⟨Hw.Writes.put .., hset, hkeep⟩

/-- The recorded lane reads back (R754). -/
theorem laneNoted_reads (h : Hw) (st : Nat) {n lane : Nat} (hn : n < 32) (hl : lane < 64) : let g := h.laneNoted st n lane
    g.get (R.MEM_LANE_FAIL_PC st) = n ∧ g.get (R.MEM_LANE_FAIL_LANE st) = lane := by
  refine ⟨(Hw.get_wr_self h (R.MEM_LANE_FAIL_PC st) _).trans ?_, (Hw.get_wr_self h (R.MEM_LANE_FAIL_LANE st) _).trans ?_⟩
  · simp only [R.MEM_LANE_FAIL_PC, bits, Nat.shiftRight_eq_div_pow]
    omega
  · simp only [R.MEM_LANE_FAIL_LANE, bits, Nat.shiftRight_eq_div_pow]
    omega

/-! ### Lane repair (R172, R754) -/

theorem laneRepair_tap (h : Hw) (st : Nat) : (h.laneRepair st).tap = h.tap := by
  unfold Hw.laneRepair
  dsimp only
  split
  · refine (trainStart_writes ..).tap.trans ((Hw.Writes.putB ..).tap.trans ?_)
    split <;> rfl
  · rfl

/-- The repair through a TAP master taken for another use leaves the master with it. -/
theorem laneRepairTap_held {h : Hw} (st : Nat) (hi : h.tapInternal = true) (ht : h.tap.use ≠ some .repair) :
    h.laneRepairTap st = h.laneRepair st := by
  simp only [Hw.laneRepairTap, hi, Bool.not_true, Bool.false_eq_true, if_false, laneRepair_tap, if_neg ht]

section
variable {h : Hw} {st g : Nat} (hst : h.memState st = msHOLD) (hr : h.is (R.MEM_REPAIR_CFG_REQ st) = true)
  (hg : g = laneGroup st (h.get (R.MEM_LANE_FAIL_PC st)) (h.get (R.MEM_LANE_FAIL_LANE st)))
include hst hr hg

/-- A soft repair lasts until the stack's next power-up (R754). -/
theorem laneRepair_soft (hh : h.is (R.MEM_REPAIR_CFG_HARD st) = false) : h.laneRepair st =
    (({ h with hbm := { h.hbm with soft := NSet.add h.hbm.soft g } } : Hw).putB
      (R.MEM_REPAIR_CFG_REQ st) false).trainStart st 1 := by
  rw [Hw.laneRepair, hst, hr, hg]
  exact congrArg (fun g : Hw => (g.putB (R.MEM_REPAIR_CFG_REQ st) false).trainStart st 1) (if_neg (ne_true_of_eq_false hh))

theorem laneRepair_hard (hh : h.is (R.MEM_REPAIR_CFG_HARD st) = true) : h.laneRepair st =
    (({ h with hbm := { h.hbm with soft := NSet.add h.hbm.soft g, hard := NSet.add h.hbm.hard g } } : Hw).putB
      (R.MEM_REPAIR_CFG_REQ st) false).trainStart st 1 := by
  rw [Hw.laneRepair, hst, hr, hg]
  exact congrArg (fun g : Hw => (g.putB (R.MEM_REPAIR_CFG_REQ st) false).trainStart st 1) (if_pos hh)

end

/-! ### RETRAIN (R791) -/

theorem writeMem_retrain (h : Hw) (r : RegDef) {st v : Nat} (hst : st < 2) (hv : bit v 0 = true) :
    h.writeMem r (R.MEM_CTL st) v = (h.plainWrite r (R.MEM_CTL st) v).retrain st := by
  obtain rfl | rfl : st = 0 ∨ st = 1 := by omega
  · exact if_pos hv
  · exact if_pos hv

theorem regDo_retrain {h : Hw} {st : Nat} (hst : st < 2) (hd : h.blkDown .mem (R.MEM_CTL st) = false) :
    ∃ r, regDef? (R.MEM_CTL st) = some r ∧ h.regDo (R.MEM_CTL st) (setBit (h.rd (R.MEM_CTL st)) 0 true) =
      (h.plainWrite r (R.MEM_CTL st) (setBit (h.rd (R.MEM_CTL st)) 0 true)).retrain st := by
  obtain ⟨r, hr, hb, hm⟩ : ∃ r, regDef? (R.MEM_CTL st) = some r ∧ r.blk = .mem ∧ mdataCore (R.MEM_CTL st) = none := by
    obtain rfl | rfl : st = 0 ∨ st = 1 := by omega
    · exact ⟨_, rfl, rfl, rfl⟩
    · exact ⟨_, rfl, rfl, rfl⟩
  have hlt : setBit (h.rd (R.MEM_CTL st)) 0 true < 2 ^ 32 :=
    setBits_lt _ _ _ _ _ (by decide) (by decide) (Hw.rd_lt ..)
  refine ⟨r, hr, ?_⟩
  rw [Hw.regDo, regWrite_of_regDef h _ _ hr (hb ▸ hd) hm, Nat.mod_eq_of_lt hlt, Hw.regStore, hb]
  exact writeMem_retrain h r hst (by rw [bit_setBit, if_pos rfl])

/-- Settles O46, a lemma per row and outcome. -/
theorem memoryStacks : Obligations.MemoryStacks := by
  refine ⟨fun s st v hu ht => exec_of_sys (exec_memTempUpdate st v s) hu (memTemp_hot ht),
    fun s st v hu ht => exec_of_sys (exec_memTempUpdate st v s) hu (memTemp_cool ht),
    fun s st v hu hlo hhi => exec_of_sys (exec_memTempUpdate st v s) hu (memTemp_between hlo hhi),
    fun s st _ hu => ⟨_, exec_of_sys (exec_tempStale st s) hu rfl, rfl, refreshTimes_tempStale s.hw st⟩,
    fun s st g hst ha hw hg => exec_of_upd (exec_hbmCatastrophicTemp st true s) (hbmHot_rises hst ha hw hg),
    fun s st g hu ht hp hg => exec_of_mem (exec_trainingDone st none s) hu ?ok,
    fun s st g hu ht hp hn hg => exec_of_mem (exec_trainingDone st (some none) s) hu ?again,
    fun s st g hu ht hp hn hg => exec_of_mem (exec_trainingDone st (some none) s) hu ?failed,
    fun s st n lane hst hln hl hu ht hp hn hs hh => ?lane,
    fun s st g hd hi hu hst hr hh hg => exec_of_dealer (exec_laneRepair st s) hd
      ((laneRepairTap_held st hi hu).trans (laneRepair_soft hst hr hg hh)),
    fun s st g _ hd hi hu hst hr hh hg => exec_of_dealer (exec_laneRepair st s) hd
      ((laneRepairTap_held st hi hu).trans (laneRepair_hard hst hr hg hh)),
    fun s st hst hd => ?retrain⟩
  case ok =>
    subst hg
    refine (congrArg Hw.exitSettle (trainingDone_ok ht)).trans (exitSettle_still ?_)
    simpa only [Hw.hbmOk, Hw.attempt, Hw.putB_pwr', Hw.put_pwr'] using hp
  case again =>
    subst hg
    refine (congrArg Hw.exitSettle (trainingDone_again ht hn)).trans (exitSettle_still ?_)
    rw [(trainStart_writes ..).pwr']
    exact hp
  case failed =>
    subst hg
    refine (congrArg Hw.exitSettle (trainingDone_failed ht hn)).trans (exitSettle_still ?_)
    rw [trainFailed_pwr]
    exact hp
  case lane =>
    obtain ⟨hwr, hstate, hrd⟩ := repairHeld_verdict (((s.hw.attempt st).laneNoted st n lane).failNoted st) st
    obtain ⟨hpc, hlane⟩ := laneNoted_reads (s.hw.attempt st) st hln hl
    have hphase : ((((s.hw.attempt st).laneNoted st n lane).failNoted st).repairHeld st).pwr'.phase ≠ .exitRun := by
      rw [hwr.pwr']
      exact hp
    have hdone := (congrArg Hw.exitSettle (trainingDone_lane ht hn hs hh)).trans (exitSettle_still hphase)
    refine ⟨_, exec_of_mem (exec_trainingDone st (some (some (n, lane))) s) hu hdone, ?_, ?_, ?_⟩ <;> dsimp only
    · exact hstate
    · exact (get_of_rd (f := R.MEM_LANE_FAIL_PC st) hrd).trans ((get_failNoted ..).trans hpc)
    · exact (get_of_rd (f := R.MEM_LANE_FAIL_LANE st) hrd).trans ((get_failNoted ..).trans hlane)
  case retrain =>
    obtain ⟨r, hr, e⟩ := regDo_retrain hst hd
    exact ⟨_, exec_of_upd (exec_retrain st s) ((if_pos hst).trans e), r, hr, rfl⟩

end Sys2Proof.Machine
end

section
/-!
SUPPORT. The pacing governor: its samples, its windows and the correction of the clock (R809-R815, R855).
-/
namespace Sys2Proof.Machine

open Sys2Proof

/-! ### Samples (R809) -/

/-- A running tile's cycles since the last sample join the sums. -/
def Gov.sampled (h : Hw) (g : Gov) (e : Nat × Nat) : Gov :=
  let t := h.tile e.2
  if !t.running then g
  else
    let a := NMap.get g.last e.1
    let c := t.counts
    { g with run := g.run + subMod 16 c a, stall := g.stall + subMod 16 (c / 65536) (a / 65536),
             last := NMap.set g.last e.1 c }

theorem sampled_closed (h : Hw) (g : Gov) (e : Nat × Nat) : (g.sampled h e).closed = g.closed := by
  unfold Gov.sampled
  dsimp only
  split <;> rfl

section
variable {h : Hw} {p : Nat}

theorem govSample_off (ho : h.govOn p = false) : h.govSample p = h := by simp [Hw.govSample, ho]

theorem govSample_on (ho : h.govOn p = true) : h.govSample p = h.onPt p (fun x =>
    { x with gov := ((List.range 32).zip (tilesOf p)).foldl (Gov.sampled h) (h.pt p).gov }) := by
  simp only [Hw.govSample, ho, Bool.not_true, Bool.false_eq_true, if_false]
  rfl

theorem govSample_verdict (ho : h.govOn p = true) : let g := h.govSample p
    g = h.onPt p (fun x => { x with gov := (g.pt p).gov }) ∧ (g.pt p).gov.closed = (h.pt p).gov.closed := by
  rw [govSample_on ho]
  refine ⟨?_, ?_⟩
  · simp only [pt_onPt]
  · simp only [pt_onPt]
    exact foldl_keeps Gov.closed _ (fun g e _ => sampled_closed h g e) _

/-! ### Windows (R811-R815) -/

/-- The stall fraction is shown, and a new window begins (R811). -/
def Hw.windowShown (h : Hw) (p f : Nat) : Hw := (h.put (R.PACE_STAT_F p) f).govStart p false

/-- No window closes until the requested step has completed (R812). -/
def Hw.windowWaits (h : Hw) (p : Nat) : Hw := h.onPt p (fun x => { x with gov := { x.gov with closed := true } })

theorem rd_windowShown (f : Nat) {a : Nat} (ha : a ≠ R.PACE_STAT p) : (h.windowShown p f).rd a = h.rd a := by
  have hregs : (h.windowShown p f).regs = (h.put (R.PACE_STAT_F p) f).regs := regs_onPt ..
  rw [Hw.rd_congr hregs, Hw.rd_put_ne h (R.PACE_STAT_F p) f ha]

theorem gradeCeil_windowShown (f : Nat) : (h.windowShown p f).gradeCeil = h.gradeCeil := by
  have hident : (h.windowShown p f).ident = h.ident := by
    simp only [Hw.windowShown, Hw.govStart, Hw.onPt, Hw.setPt, Hw.put_ident]
  rw [Hw.gradeCeil, Hw.gradeCeil, hident]

/-- What the window shows moves neither the band nor the effective range. -/
theorem windowShown_limits (f : Nat) (hp : p < 16) : let g := h.windowShown p f
    g.get (R.PACE_BAND_HI p) = h.get (R.PACE_BAND_HI p) ∧ g.get (R.PACE_BAND_LO p) = h.get (R.PACE_BAND_LO p) ∧
      g.ceilEff p = h.ceilEff p ∧ g.floorEff p = h.floorEff p := by
  have hband : (h.windowShown p f).rd (R.PACE_BAND p) = h.rd (R.PACE_BAND p) :=
    rd_windowShown f (by simp only [R.PACE_BAND, R.PACE_STAT]; omega)
  have hcfg : (h.windowShown p f).rd (R.PACE_CFG p) = h.rd (R.PACE_CFG p) :=
    rd_windowShown f (by simp only [R.PACE_CFG, R.PACE_STAT]; omega)
  have hcap : (h.windowShown p f).rd R.THM_CAP_STAT = h.rd R.THM_CAP_STAT :=
    rd_windowShown f (by simp only [R.THM_CAP_STAT, R.PACE_STAT]; omega)
  have hceil : (h.windowShown p f).ceilEff p = h.ceilEff p := by
    rw [Hw.ceilEff, Hw.ceilEff, get_of_rd (f := R.PACE_CFG_CEIL p) hcfg, get_of_rd (f := R.THM_CAP_STAT_CAP) hcap,
      gradeCeil_windowShown]
  exact ⟨get_of_rd (f := R.PACE_BAND_HI p) hband, get_of_rd (f := R.PACE_BAND_LO p) hband, hceil, by
    rw [Hw.floorEff, Hw.floorEff, hceil, get_of_rd (f := R.PACE_CFG_FLOOR p) hcfg]⟩

section
variable (ho : h.govOn p = true) (hc : (h.pt p).gov.closed = false)
include ho hc

/-- A window without run cycles, or during a checkpoint, holds (R814, R815). -/
theorem govWindow_holds (hr : (h.pt p).gov.run = 0 ∨ h.ckBusy p = true) :
    h.govWindow p = (h.put (R.PACE_STAT_LAST p) 3).govStart p false := by
  simp only [Hw.govWindow, ho, hc, Bool.not_true, Bool.or_self, Bool.false_eq_true, if_false, if_pos hr]

section
variable {f : Nat} (hp : p < 16) (hr : 0 < (h.pt p).gov.run) (hb : h.ckBusy p = false)
  (hf : f = min 255 (256 * (h.pt p).gov.stall / (h.pt p).gov.run))
include hp hr hb hf

/-- A window with run cycles is judged by its stall fraction (R811). -/
theorem govWindow_judged : h.govWindow p =
    if h.get (R.PACE_BAND_HI p) < f ∧ h.floorEff p < h.get (R.SYS_TCLK_CUR_STEP p) then
      (((h.windowShown p f).put (R.PACE_STAT_LAST p) 2).govStep p false).windowWaits p
    else if f < h.get (R.PACE_BAND_LO p) ∧ h.get (R.SYS_TCLK_CUR_STEP p) < h.ceilEff p then
      (((h.windowShown p f).put (R.PACE_STAT_LAST p) 1).govStep p true).windowWaits p
    else (h.windowShown p f).put (R.PACE_STAT_LAST p) 0 := by
  obtain ⟨hhi, hlo, hceil, hfloor⟩ := windowShown_limits (h := h) f hp
  have hw : ¬ ((h.pt p).gov.run = 0 ∨ h.ckBusy p = true) := by
    rw [hb]
    simp only [Bool.false_eq_true, or_false]
    omega
  rw [← hhi, ← hlo, ← hceil, ← hfloor]
  simp only [Hw.govWindow, ho, hc, Bool.not_true, Bool.or_self, Bool.false_eq_true, if_false, if_neg hw, ← hf]
  rfl

theorem govWindow_inBand (hd : ¬ (h.get (R.PACE_BAND_HI p) < f ∧ h.floorEff p < h.get (R.SYS_TCLK_CUR_STEP p)))
    (hu : ¬ (f < h.get (R.PACE_BAND_LO p) ∧ h.get (R.SYS_TCLK_CUR_STEP p) < h.ceilEff p)) :
    h.govWindow p = (h.windowShown p f).put (R.PACE_STAT_LAST p) 0 := by
  rw [govWindow_judged ho hc hp hr hb hf, if_neg hd, if_neg hu]

theorem govWindow_down (hhi : h.get (R.PACE_BAND_HI p) < f) (hfl : h.floorEff p < h.get (R.SYS_TCLK_CUR_STEP p)) :
    h.govWindow p = (((h.windowShown p f).put (R.PACE_STAT_LAST p) 2).govStep p false).windowWaits p := by
  rw [govWindow_judged ho hc hp hr hb hf, if_pos ⟨hhi, hfl⟩]

theorem govWindow_up (hd : ¬ (h.get (R.PACE_BAND_HI p) < f ∧ h.floorEff p < h.get (R.SYS_TCLK_CUR_STEP p)))
    (hlo : f < h.get (R.PACE_BAND_LO p)) (hce : h.get (R.SYS_TCLK_CUR_STEP p) < h.ceilEff p) :
    h.govWindow p = (((h.windowShown p f).put (R.PACE_STAT_LAST p) 1).govStep p true).windowWaits p := by
  rw [govWindow_judged ho hc hp hr hb hf, if_neg hd, if_pos ⟨hlo, hce⟩]

end

end

/-! ### Correction (R813) -/

section
variable (ho : h.govOn p = true)
include ho

theorem govCorrect_up (hl : h.lastStep p < h.floorEff p) : h.govCorrect p = h.govStep p true := by
  simp only [Hw.govCorrect, ho, Bool.not_true, Bool.false_eq_true, if_false, if_pos hl]

theorem govCorrect_down (hfl : h.floorEff p ≤ h.lastStep p) (hce : h.ceilEff p < h.lastStep p) :
    h.govCorrect p = h.govStep p false := by
  simp only [Hw.govCorrect, ho, Bool.not_true, Bool.false_eq_true, if_false, if_neg (Nat.not_lt.mpr hfl), if_pos hce]

end

end

/-- Settles O32, a lemma per outcome of a sample, a window and a correction. -/
theorem pacing : Obligations.Pacing :=
  ⟨fun s p hc _ ho => ⟨_, exec_of_core (exec_pacingSample p s) hc rfl, govSample_verdict ho⟩,
    fun s p hc ho => exec_of_core (exec_pacingSample p s) hc (govSample_off ho),
    fun s p hc ho hcl hr => exec_of_core (exec_pacingWindow p s) hc (govWindow_holds ho hcl hr),
    fun s p _ hc hp ho hcl hr hb hf hd hu => exec_of_core (exec_pacingWindow p s) hc
      (govWindow_inBand ho hcl hp hr hb hf hd hu),
    fun s p _ hc hp ho hcl hr hb hf hhi hfl => exec_of_core (exec_pacingWindow p s) hc
      (govWindow_down ho hcl hp hr hb hf hhi hfl),
    fun s p _ hc hp ho hcl hr hb hf hlo hd hce => exec_of_core (exec_pacingWindow p s) hc
      (govWindow_up ho hcl hp hr hb hf hd hlo hce),
    fun s p hc ho hl => exec_of_core (exec_pacingCorrect p s) hc (govCorrect_up ho hl),
    fun s p hc ho hfl hce => exec_of_core (exec_pacingCorrect p s) hc (govCorrect_down ho hfl hce)⟩

end Sys2Proof.Machine
end

section
/-!
SUPPORT. The commands of the sensor front end and of the signal cores (R899, R902, R907-R910, R933-R935, R940, R952).
-/
namespace Sys2Proof.Machine

open Sys2Proof

/-! ### Register blocks (R899, R907, R908) -/

/-- A block that reads whole and names only registers of its range is written. -/
theorem snsBlock_good {h g g' : Hw} {m k a lo hi d : Nat} {far : Memory} {hd bs : List Byte}
    (go : Hw → List (Nat × Nat) → Hw) (hh : h.nodeRead 640 a 8 far = some (0, hd, g)) (hn : leAt hd 0 4 ≠ 0)
    (hmax : leAt hd 0 4 ≤ 1024) (hb : g.nodeRead 640 (a + 8) (8 * leAt hd 0 4) far = some (0, bs, g'))
    (hok : (blockPairs bs (leAt hd 0 4)).all (fun p => snsPairOk lo hi p.1) = true) :
    h.snsBlock m k a lo hi d far go = go g' (blockPairs bs (leAt hd 0 4)) := by
  have hlen : ¬ (leAt hd 0 4 = 0 ∨ 1024 < leAt hd 0 4) := by omega
  simp only [Hw.snsBlock, hh, if_neg hlen, hb, hok, if_true]

section
variable {h : Hw} {m k : Nat} {f : InFlight}

theorem snsConfig_writes {far : Memory} {hd bs : List Byte} {g g' : Hw} (hf : h.cmdFor m k 0x0200 = some f)
    (ha : f.par 8 8 < 2 ^ 48) (hdn : h.blkDown .sns 0x40060000 = false)
    (hh : h.nodeRead 640 (f.par 8 8) 8 far = some (0, hd, g)) (hn : leAt hd 0 4 ≠ 0) (hmax : leAt hd 0 4 ≤ 1024)
    (hb : g.nodeRead 640 (f.par 8 8 + 8) (8 * leAt hd 0 4) far = some (0, bs, g'))
    (hok : (blockPairs bs (leAt hd 0 4)).all (fun p => snsPairOk 0 0x3000 p.1) = true) :
    h.snsConfig m k far = ((((((List.range 40).foldl (fun (h : Hw) u => h.capDisarm u) g').wr R.SNS_CH_EN 0).writePairs
      (blockPairs bs (leAt hd 0 4))).snsEnable 0 (f.par 0 4)).complete m k 0 0 0) := by
  rw [Hw.snsConfig, onCmd_found hf]
  dsimp only
  rw [if_neg (Nat.not_le.mpr ha), hdn, snsBlock_good _ hh hn hmax hb hok]
  rfl

theorem snsWake_writes {far : Memory} {hd bs : List Byte} {g g' : Hw} (hf : h.cmdFor m k 0x0202 = some f)
    (ha : f.par 0 8 < 2 ^ 48) (hh : h.nodeRead 640 (f.par 0 8) 8 far = some (0, hd, g)) (hn : leAt hd 0 4 ≠ 0)
    (hmax : leAt hd 0 4 ≤ 1024) (hb : g.nodeRead 640 (f.par 0 8 + 8) (8 * leAt hd 0 4) far = some (0, bs, g'))
    (hok : (blockPairs bs (leAt hd 0 4)).all (fun p => snsPairOk 0x3000 0x3100 p.1) = true) :
    h.snsWake m k far = (g'.writePairs (blockPairs bs (leAt hd 0 4))).complete m k 0 0 0 := by
  rw [Hw.snsWake, onCmd_found hf]
  dsimp only
  rw [if_neg (Nat.not_le.mpr ha), snsBlock_good _ hh hn hmax hb hok]
  rfl

/-! ### SNS_CAPTURE and SNS_STATUS (R902, R909, R910) -/

/-- A capture unit of an enabled channel that does not run is armed (R902). -/
theorem snsCapture_arms (hf : h.cmdFor m k 0x0201 = some f) (hr : f.par 0 8 % 32 = 0) (ha : f.par 0 8 < 2 ^ 48)
    (hz : f.par 8 4 % 1120 = 0) (hs : f.par 12 1 < 32) (hen : h.chEn (f.par 12 1) = true) (ht : f.par 13 1 < 8)
    (hp : f.par 14 1 < 3) (hrun : h.is (R.SNS_CAP_STAT_RUN (f.par 12 1)) = false) :
    h.snsCapture m k =
      (h.capArm (f.par 12 1) (f.par 0 8) (f.par 8 4) (f.par 13 1) (f.par 14 1)).complete m k 0 0 0 := by
  have hring : (f.par 0 8 % 32 != 0 || decide (2 ^ 48 ≤ f.par 0 8)) = false := by
    rw [hr, decide_eq_false (Nat.not_le.mpr ha)]
    rfl
  rw [Hw.snsCapture, onCmd_found hf]
  simp only [hring, hz, if_pos hs, hen, if_neg (Nat.not_le.mpr ht), if_neg (Nat.not_le.mpr hp), hrun, bne_self_eq_false,
    Bool.not_true, Bool.false_and, Bool.false_eq_true, if_false]
  rfl

/-- Adding up from the left is the sum. -/
theorem foldl_add_eq_sum {α : Type} (f : α → Nat) (l : List α) (a : Nat) :
    l.foldl (fun a x => a + f x) a = a + (l.map f).sum := by
  induction l generalizing a with
  | nil => rfl
  | cons x l ih => rw [List.foldl_cons, ih, List.map_cons, List.sum_cons, Nat.add_assoc]

theorem snsStatus_shows {st ov : Nat} (hf : h.cmdFor m k 0x0203 = some f)
    (hst : st = (h.sgrp 0).step + (h.sgrp 1).step * 4 + (h.sgrp 2).step * 16 + (h.sgrp 3).step * 64)
    (htr : (List.range 4).all (fun g => (h.sgrp g).strad.isNone) = true)
    (hov : ov = min 65535 ((List.range 40).map (fun u => h.get (R.SNS_CAP_CNT_OVR u))).sum) :
    h.snsStatus m k = h.complete m k 0 0
      (st + h.get R.SNS_FLAGS_CLIP * 2 ^ 8 + ov * 2 ^ 16 + h.rd R.SNS_CH_EN * 2 ^ 32) := by
  have hsteps : (List.range 4).foldl (fun a g => a + (h.sgrp g).step * 4 ^ g) 0 = st := by
    rw [foldl_add_eq_sum, hst]
    simp only [List.range, List.range.loop, List.map_cons, List.map_nil, List.sum_cons, List.sum_nil]
    omega
  have htrans : (List.range 4).filter (fun g => (h.sgrp g).strad.isSome) = [] :=
    List.filter_eq_nil_iff.mpr (fun g hg => by
      rw [Option.isNone_iff_eq_none.mp (List.all_eq_true.mp htr g hg)]
      exact Bool.false_ne_true)
  rw [Hw.snsStatus, onCmd_found hf]
  simp only [hsteps, htrans, foldl_add_eq_sum, Nat.zero_add, ← hov]
  rfl

/-! ### SIG_LOAD (R933, R934) -/

/-- One core takes a signal image: its sections, and its ENTRY; it is IDLE (R934). -/
def Hw.sigLoaded (e : Nat) (l : List (Nat × Nat × List Byte)) (h : Hw) (q : Nat) : Hw :=
  ((h.upCore q { l.foldl (fun x y => x.putBytes y.1 y.2.1 y.2.2) (h.core q) with xerr := false }).put
    (R.SIG_CORE_ENTRY_ENTRY q) e).setSstate q sgIDLE

theorem sigLoad_loads {far bs : List Byte} {g : Hw} {e : Nat} {l : List (Nat × Nat × List Byte)}
    (hf : h.cmdFor m k 0x0300 = some f) (ha : f.par 8 8 < 2 ^ 48) (hn : 32 ≤ f.par 16 4)
    (hr : h.dealerRead (f.par 8 8) (f.par 16 4) far = some (0, bs, g)) (hp : parseSig bs (f.par 16 4) = some (e, l))
    (hw : g.sigWrong (f.par 0 2) (fun x => x == sgIDLE || x == sgFAULTED) = none) :
    h.sigLoad m k far = ((bitList 16 (f.par 0 2)).foldl (Hw.sigLoaded e l) g).complete m k 0 0 0 := by
  have hsrc : ¬ (2 ^ 48 ≤ f.par 8 8 ∨ f.par 16 4 < 32) := by omega
  rw [Hw.sigLoad, onCmd_found hf]
  simp only [if_neg hsrc, hr, hp, hw]
  rfl

/-! ### SIG_RUN (R935) -/

/-- One core is armed for the trigger `trig` (R935). -/
def Hw.sigArmed (trig pol : Nat) (h : Hw) (q : Nat) : Hw :=
  let g := (h.put (R.SIG_CORE_TRIG_TRIG q) trig).put (R.SIG_CORE_TRIG_POLICY q) pol
  (g.upCore q { g.core q with inq := [], pend := none, drops := 0 }).setSstate q sgARMED

theorem sigRun_arms (hf : h.cmdFor m k 0x0301 = some f) (ht : sigTrigOk (f.par 2 1) = true) (hne : f.par 2 1 ≠ 0)
    (hp : f.par 3 1 < 3) (hw : h.sigWrong (f.par 0 2) (fun x => x == sgIDLE) = none) : h.sigRun m k =
      ((bitList 16 (f.par 0 2)).foldl (Hw.sigArmed (f.par 2 1) (f.par 3 1)) h).complete m k 0 0 0 := by
  rw [Hw.sigRun, onCmd_found hf]
  simp only [ht, Bool.not_true, Bool.false_eq_true, if_false, if_neg (Nat.not_le.mpr hp), hw, if_neg hne]
  rfl

/-! ### SIG_STOP (R940) -/

theorem sigStop_none (hf : h.cmdFor m k 0x0302 = some f) (hz : f.par 0 2 = 0) :
    h.sigStop m k = h.complete m k 0 0 0 := by
  rw [Hw.sigStop, onCmd_found hf, hz]
  rfl

theorem bitList_core : ∀ q < 16, bitList 16 (2 ^ q) = [q] := by decide

theorem sigStop_one {q : Nat} (hf : h.cmdFor m k 0x0302 = some f) (hq : q < 16) (hc : f.par 0 2 = 2 ^ q) :
    h.sigStop m k = ((h.begun m k).upCore q { h.core q with
      inq := [], pend := none, stops := (h.core q).stops ++ [32 * m + k] }).sigRetire q := by
  have hcore : (h.begun m k).core q = h.core q := by simp only [Hw.core, Hw.begun]
  rw [Hw.sigStop, onCmd_found hf, hc, bitList_core q hq]
  simp only [List.isEmpty_cons, Bool.false_eq_true, if_false, List.foldl_cons, List.foldl_nil, hcore]

/-! ### SIG_STATUS (R952) -/

theorem sigStatus_shows (hf : h.cmdFor m k 0x0303 = some f)
    (hp : (List.range 16).all (fun q => (h.core q).pend.isNone) = true) :
    h.sigStatus m k = h.complete m k 0 0 ((List.range 16).foldl (fun a q => a + h.sstate q * 8 ^ q) 0) := by
  have hpend : (List.range 16).filter (fun q => (h.core q).pend.isSome) = [] :=
    List.filter_eq_nil_iff.mpr (fun q hq => by
      rw [Option.isNone_iff_eq_none.mp (List.all_eq_true.mp hp q hq)]
      exact Bool.false_ne_true)
  rw [Hw.sigStatus, onCmd_found hf]
  dsimp only
  rw [hpend, show maskOf [] = 0 from rfl, Nat.zero_mul, Nat.add_zero, Hw.ok, show stOK = 0 from rfl]

end

/-- Settles O33, a lemma per command. -/
theorem sensorAndSignalCommands : Obligations.SensorAndSignalCommands :=
  ⟨fun s m k _ far _ _ _ _ hd hf ha hdn hh hn hmax hb hok => exec_of_dealer (exec_snsConfig m k far s) hd
      (snsConfig_writes hf ha hdn hh hn hmax hb hok),
    fun s m k _ far _ _ _ _ hd hf ha hh hn hmax hb hok => exec_of_dealer (exec_snsWake m k far s) hd
      (snsWake_writes hf ha hh hn hmax hb hok),
    fun s m k _ hd hf hr ha hz hs hen ht hp hrun => exec_of_dealer (exec_snsCapture m k s) hd
      (snsCapture_arms hf hr ha hz hs hen ht hp hrun),
    fun s m k _ _ _ hd hf hst htr hov => exec_of_dealer (exec_snsStatus m k s) hd (snsStatus_shows hf hst htr hov),
    fun s m k _ far _ _ _ _ hd hf ha hn hr hp hw => exec_of_dealer (exec_sigLoad m k far s) hd
      (sigLoad_loads hf ha hn hr hp hw),
    fun s m k _ hd hf ht hne hp hw => exec_of_dealer (exec_sigRun m k s) hd (sigRun_arms hf ht hne hp hw),
    fun s m k _ hd hf hz => exec_of_dealer (exec_sigStop m k s) hd (sigStop_none hf hz),
    fun s m k _ _ hd hf hq hc => exec_of_dealer (exec_sigStop m k s) hd (sigStop_one hf hq hc),
    fun s m k _ hd hf hp => exec_of_dealer (exec_sigStatus m k s) hd (sigStatus_shows hf hp)⟩

end Sys2Proof.Machine
end

section
/-!
SUPPORT. The sensor front end: output samples, SOFT triggers, capture blocks and the wake detector (R863-R897, R906).
-/
namespace Sys2Proof.Machine

open Sys2Proof

/-! ### Output samples (R863, R868) -/

section
variable {h : Hw} {g : Nat} (pdm : List Nat)

theorem snsSample_still (hs : h.grpEn g = [] ∨ h.snsRuns = false) : h.snsSample g pdm = h := by
  have hc : ((h.grpEn g).isEmpty || !h.snsRuns) = true := by
    obtain he | hr := hs
    · rw [he]; rfl
    · rw [hr, Bool.not_false, Bool.or_true]
  simp only [Hw.snsSample, hc, if_true]

/-- The sample of one channel, with the largest magnitude so far. -/
def Hw.sampleStep (g : Nat) (pdm : List Nat) (a : Nat × Hw) (e : Nat × Nat) : Nat × Hw :=
  let x := a.2.chanSample g e.2 (a.2.pdmSeen (e.2 / 2) (listAt 0 pdm e.1))
  (max a.1 x.1, x.2)

/-- A group whose step does not change runs its channels, then the beams, then ranging (R863, R868). -/
theorem snsSample_runs {r : Nat × Hw} (hen : h.grpEn g ≠ []) (hr : h.snsRuns = true)
    (hst : h.is (R.SNS_GRP_CFG_AUTO g) = true ∨ (h.sgrp g).strad ≠ none ∨
      h.get (R.SNS_GRP_CFG_STEP g) = (h.sgrp g).step)
    (he : r = ((List.range (h.grpEn g).length).zip (h.grpEn g)).foldl (Hw.sampleStep g pdm) (0, h)) :
    h.snsSample g pdm = ((List.range 8).foldl (fun (h : Hw) u => h.beamStep g u) r.2).ranging g r.1 := by
  have hc : ((h.grpEn g).isEmpty || !h.snsRuns) = false := by
    rw [List.isEmpty_eq_false_iff.mpr hen, hr]
    rfl
  have hstep : (!h.is (R.SNS_GRP_CFG_AUTO g) && (h.sgrp g).strad.isNone &&
      h.get (R.SNS_GRP_CFG_STEP g) != (h.sgrp g).step) = false := by
    obtain ha | hs | hs := hst
    · rw [ha]; rfl
    · rw [Option.isNone_eq_false_iff.mpr (Option.isSome_iff_ne_none.mpr hs), Bool.and_false, Bool.false_and]
    · rw [hs, bne_self_eq_false, Bool.and_false]
  simp only [Hw.snsSample, hc, hstep, Bool.false_eq_true, if_false, he]
  rfl

end

/-! ### A held low word (R20) -/

theorem erase_ins {α : Type} (m : SMap α) (k : Nat) (v : α) : SMap.erase (SMap.ins m k v) k = SMap.erase m k := by
  induction m with
  | nil => simp [SMap.ins, SMap.erase]
  | cons e m ih =>
    obtain ⟨j, w⟩ := e
    by_cases hj : j = k
    · simp [SMap.ins, SMap.erase, hj]
    · by_cases hk : k < j <;> simp [SMap.ins, SMap.erase, hj, hk, ih]

section
variable (h : Hw) (k : Nat) (v : Option Word)

theorem heldLow_holdLow : (h.holdLow k v).heldLow k = v := SMap.get_set_self ..

/-- A low word that was held and is dropped leaves nothing. -/
theorem holdLow_dropped (w : Word) : (h.holdLow k (some w)).holdLow k none = h.holdLow k none := by
  simp only [Hw.holdLow, SMap.set, reduceCtorEq, if_false, if_true, erase_ins]

theorem put_holdLow (f : Fld) (x : Nat) : (h.holdLow k v).put f x = (h.put f x).holdLow k v := rfl

theorem setCap_holdLow (u : Nat) (x : CapUnit) : (h.holdLow k v).setCap u x = (h.setCap u x).holdLow k v := rfl

theorem capStart_holdLow (u : Nat) (b : Bool) : (h.holdLow k v).capStart u b = (h.capStart u b).holdLow k v := rfl

theorem get_holdLow (f : Fld) : (h.holdLow k v).get f = h.get f := Hw.get_congr rfl f

theorem is_holdLow (f : Fld) : (h.holdLow k v).is f = h.is f := Hw.is_congr rfl f

end

/-! ### SOFT triggers (R885-R887, R906) -/

/-- A write of the SNS_TRIG pair, as the two registers take it. -/
theorem regDo_snsTrig {h : Hw} {v : Nat} (hv : v < 2 ^ 40) (hd : h.blkDown .sns R.SNS_TRIG_LO = false) :
    (h.regDo R.SNS_TRIG_LO (v % 2 ^ 32)).regDo R.SNS_TRIG_HI (v / 2 ^ 32 % 2 ^ 32) =
      ((h.holdLow R.SNS_TRIG_LO (some (BitVec.ofNat 32 v))).snsTrig v).holdLow R.SNS_TRIG_LO none := by
  obtain ⟨r, hr, hb⟩ : ∃ r, regDef? R.SNS_TRIG_LO = some r ∧ r.blk = .sns := ⟨_, rfl, rfl⟩
  obtain ⟨r', hr', hb'⟩ : ∃ r, regDef? R.SNS_TRIG_HI = some r ∧ r.blk = .sns := ⟨_, rfl, rfl⟩
  have hlow : h.regDo R.SNS_TRIG_LO (v % 2 ^ 32) = h.holdLow R.SNS_TRIG_LO (some (BitVec.ofNat 32 v)) := by
    rw [Hw.regDo, regWrite_of_regDef h _ _ hr (hb ▸ hd) (by decide), Hw.regStore, hb]
    exact congrArg (fun w => h.holdLow R.SNS_TRIG_LO (some w)) (BitVec.eq_of_toNat_eq (by simp))
  have hd' : (h.holdLow R.SNS_TRIG_LO (some (BitVec.ofNat 32 v))).blkDown .sns R.SNS_TRIG_HI = false := hd
  have hval : (BitVec.ofNat 32 v).toNat + v / 2 ^ 32 % 2 ^ 32 % 2 ^ 32 % 256 * 2 ^ 32 = v := by
    rw [BitVec.toNat_ofNat]
    omega
  rw [hlow, Hw.regDo, regWrite_of_regDef _ _ _ hr' (hb' ▸ hd') (by decide), Hw.regStore, hb']
  have hwr : ∀ g : Hw, ∀ x, g.writeSns r' R.SNS_TRIG_HI x =
      (g.snsTrig (((g.heldLow R.SNS_TRIG_LO).map BitVec.toNat).getD (g.rd R.SNS_TRIG_LO) + x % 256 * 2 ^ 32)).holdLow
        R.SNS_TRIG_LO none := fun _ _ => rfl
  rw [hwr, heldLow_holdLow, Option.map_some, Option.getD_some, hval]

theorem bitList_unit : ∀ u < 40, bitList 40 (2 ^ u) = [u] := by decide

section
variable {h : Hw} {u : Nat}

/-- A SOFT trigger reaches a unit with TRIG 2 (R885). -/
theorem snsTrig_one (hu : u < 40) (hr : h.snsRuns = true) (ht : h.get (R.SNS_CAP_CTL_TRIG u) = 2) :
    h.snsTrig (2 ^ u) = h.capTrig u := by
  simp only [Hw.snsTrig, hr, if_true, bitList_unit u hu, List.foldl_cons, List.foldl_nil, if_pos ht]

section
variable (ha : h.is (R.SNS_CAP_STAT_ARMED u) = true)
include ha

theorem capTrig_starts (hr : h.is (R.SNS_CAP_STAT_RUN u) = false) : h.capTrig u = h.capStart u false := by
  simp only [Hw.capTrig, ha, hr, Bool.not_true, Bool.not_false, Bool.false_eq_true, if_false, if_true]

variable (hr : h.is (R.SNS_CAP_STAT_RUN u) = true)
include hr

theorem capTrig_pends (hp : h.get (R.SNS_CAP_CTL_POLICY u) = 0) (hn : h.is (R.SNS_CAP_STAT_PEND u) = false) :
    h.capTrig u = h.put (R.SNS_CAP_STAT_PEND u) 1 := by
  simp only [Hw.capTrig, ha, hr, hp, hn, Bool.not_true, Bool.false_eq_true, if_false]

theorem capTrig_restarts (hp : h.get (R.SNS_CAP_CTL_POLICY u) = 1) :
    h.capTrig u = h.setCap u { h.cap u with again := true } := by
  simp only [Hw.capTrig, ha, hr, hp, Bool.not_true, Bool.false_eq_true, if_false]

theorem capTrig_ignored (hp : 2 ≤ h.get (R.SNS_CAP_CTL_POLICY u)) : h.capTrig u = h.bump (R.SNS_CAP_CNT_IGN u) := by
  obtain ⟨n, hn⟩ : ∃ n, h.get (R.SNS_CAP_CTL_POLICY u) = n + 2 := ⟨_, (Nat.sub_add_cancel hp).symm⟩
  simp only [Hw.capTrig, ha, hr, hn, Bool.not_true, Bool.false_eq_true, if_false]

end

end

/-- What a SOFT trigger does to a unit, the held low word apart. -/
theorem exec_snsTrig_one {s : State} {u : Nat} {g : Hw} (hu : u < 40) (hd : s.hw.blkDown .sns R.SNS_TRIG_LO = false)
    (hr : s.hw.snsRuns = true) (ht : s.hw.get (R.SNS_CAP_CTL_TRIG u) = 2)
    (hg : ∀ w, (s.hw.holdLow R.SNS_TRIG_LO (some w)).capTrig u = g.holdLow R.SNS_TRIG_LO (some w)) :
    exec (.snsTrig (2 ^ u)) s = .next { s with hw := g.holdLow R.SNS_TRIG_LO none } := by
  have hlt : 2 ^ u < 2 ^ 40 := Nat.pow_lt_pow_right (by decide) hu
  have hrun : ∀ w, (s.hw.holdLow R.SNS_TRIG_LO (some w)).snsRuns = true := fun _ => hr
  refine exec_of_upd (exec_snsTrig (2 ^ u) s) ?_
  rw [regDo_snsTrig hlt hd, snsTrig_one hu (hrun _) ((get_holdLow ..).trans ht), hg, holdLow_dropped]

/-! ### Capture blocks and the wake detector (R883, R895-R897) -/

theorem capBlockDone_triggers {h g : Hw} {u : Nat} {farOk : Bool} (hc : h.capComplete u farOk = (true, g)) :
    h.capBlockDone u farOk = g.sigFire (8 + u) (g.get (R.SNS_CAP_WIDX_WIDX u) - 1) := by
  simp only [Hw.capBlockDone, hc, if_true]

theorem wakeFrameRow_judged {h g : Hw} {pdm : List Nat} {b : Bool} (hw : h.wakeFrame pdm = (b, g)) :
    h.wakeFrameRow pdm = if (b && g.is R.PWR_WAKE_CFG_AW_EN) = true then g.wakeEvent 0 else g := by
  simp only [Hw.wakeFrameRow, hw]

theorem wakeFrameRow_stopped {h : Hw} (pdm : List Nat) (hr : h.is R.SNS_WAKE_STAT_RUN = false) :
    h.wakeFrameRow pdm = h := by
  have hw : h.wakeFrame pdm = (false, h) := by simp only [Hw.wakeFrame, hr, Bool.not_false, if_true]
  rw [wakeFrameRow_judged hw]
  rfl

/-- Settles O47, a lemma per row and outcome. -/
theorem sensorFrontEnd : Obligations.SensorFrontEnd :=
  ⟨fun s g pdm hs => exec_of_upd (exec_snsOutputSample g pdm s) (snsSample_still pdm hs),
    fun s g pdm _ hen hr hst he => exec_of_upd (exec_snsOutputSample g pdm s) (snsSample_runs pdm hen hr hst he),
    fun _ _ hu hd hr ht ha hrun => exec_snsTrig_one hu hd hr ht (fun _ =>
      (capTrig_starts ((is_holdLow ..).trans ha) ((is_holdLow ..).trans hrun)).trans (capStart_holdLow ..)),
    fun _ _ hu hd hr ht ha hrun hp hn => exec_snsTrig_one hu hd hr ht (fun _ =>
      (capTrig_pends ((is_holdLow ..).trans ha) ((is_holdLow ..).trans hrun) ((get_holdLow ..).trans hp)
        ((is_holdLow ..).trans hn)).trans (put_holdLow ..)),
    fun _ _ hu hd hr ht ha hrun hp => exec_snsTrig_one hu hd hr ht (fun _ =>
      (capTrig_restarts ((is_holdLow ..).trans ha) ((is_holdLow ..).trans hrun)
        ((get_holdLow ..).trans hp)).trans (setCap_holdLow ..)),
    fun _ _ hu hd hr ht ha hrun hp => exec_snsTrig_one hu hd hr ht (fun _ =>
      (capTrig_ignored ((is_holdLow ..).trans ha) ((is_holdLow ..).trans hrun)
        (hp.trans_eq (get_holdLow ..).symm)).trans (put_holdLow ..)),
    fun s u farOk _ hu hc => exec_of_sys (exec_captureBlockComplete u farOk s) hu (capBlockDone_triggers hc),
    fun s pdm _ _ _ hw => exec_of_upd (exec_wakeFrame pdm s) (wakeFrameRow_judged hw),
    fun s pdm hr => exec_of_upd (exec_wakeFrame pdm s) (wakeFrameRow_stopped pdm hr)⟩

end Sys2Proof.Machine
end

section
/-!
SUPPORT. Instructions of the signal cores (R914-R932, R941-R943): what a core that stands at a legal word does, by the
classes of opcodes.
-/
namespace Sys2Proof.Machine

open Sys2Proof

/-! ### A core at a legal word (R916, R932, R935) -/

/-- Core `k` runs and stands at the legal word `w`. -/
structure Hw.SigAt (h : Hw) (k w : Nat) : Prop where
  run : h.sstate k = 2
  going : (h.core k).halted = false
  unstopped : (h.core k).stops = []
  inside : (h.core k).pc ≤ 2047
  word : w = (h.core k).instr
  legal : iIllegal w = false

section
variable {h : Hw} {k w op : Nat} (hat : h.SigAt k w) (hop : iOP w = op)
include hat hop

theorem sigInstr_at (cyc : Nat) : h.sigInstr k op cyc =
    if (h.core k).cRange w then h.sigFault k 3 cyc
    else if op < 0x20 then h.sigOp k w
    else if op < 0x40 then h.upCore k ((h.core k).intOp w).fall
    else if op = 0x45 ∨ op = 0x46 then h.sigWait k w cyc
    else if op < 0x60 then
      match (h.core k).ctlOp w with
      | .ok c => h.upCore k c
      | .error e => h.sigFault k e cyc
    else h.sigXfer k w cyc := by
  obtain ⟨hrun, hgo, hstop, hpc, hw, hleg⟩ := hat
  have hruns : (h.sstate k != sgRUN || (h.core k).halted || !(h.core k).stops.isEmpty) = false := by
    rw [hrun, hgo, hstop]
    rfl
  simp only [Hw.sigInstr, hruns, Bool.false_eq_true, if_false, if_neg (Nat.not_lt.mpr hpc), ← hw, hleg, hop,
    bne_self_eq_false] <;> rfl

theorem sigInstr_float (cyc : Nat) (hlt : op < 0x20) (hc : (h.core k).cRange w = false) :
    h.sigInstr k op cyc = h.sigOp k w := by
  rw [sigInstr_at hat hop, hc, if_neg Bool.false_ne_true, if_pos hlt]

omit hat in
/-- Only floating-point instructions move over the C bus (R914). -/
theorem cRange_noMoves (c : SigCore) (hge : 0x20 ≤ op) : c.cRange w = false := by
  have hm : hasMoves (iOP w) = false := decide_eq_false (by omega)
  rw [SigCore.cRange, hm, Bool.false_and, Bool.false_and]

theorem sigInstr_int (cyc : Nat) (hlo : 0x20 ≤ op) (hhi : op < 0x40) :
    h.sigInstr k op cyc = h.upCore k ((h.core k).intOp w).fall := by
  rw [sigInstr_at hat hop, cRange_noMoves hop _ hlo, if_neg Bool.false_ne_true, if_neg (by omega), if_pos hhi]

theorem sigInstr_wait (cyc : Nat) (hw : op = 0x45 ∨ op = 0x46) : h.sigInstr k op cyc = h.sigWait k w cyc := by
  rw [sigInstr_at hat hop, cRange_noMoves hop _ (by omega), if_neg Bool.false_ne_true, if_neg (by omega),
    if_neg (by omega), if_pos hw]

theorem sigInstr_ctl (cyc : Nat) (hlo : 0x40 ≤ op) (hhi : op < 0x45) : h.sigInstr k op cyc =
    match (h.core k).ctlOp w with
    | .ok c => h.upCore k c
    | .error e => h.sigFault k e cyc := by
  rw [sigInstr_at hat hop, cRange_noMoves hop _ (by omega), if_neg Bool.false_ne_true, if_neg (by omega),
    if_neg (by omega), if_neg (by omega), if_pos (by omega)]

theorem sigInstr_xfer (cyc : Nat) (hlo : 0x60 ≤ op) : h.sigInstr k op cyc = h.sigXfer k w cyc := by
  rw [sigInstr_at hat hop, cRange_noMoves hop _ (by omega), if_neg Bool.false_ne_true, if_neg (by omega),
    if_neg (by omega), if_neg (by omega), if_neg (by omega)]

end

/-! ### Floating point without moves (R914, R917-R923) -/

/-- A word below 2^24 has no moves (R917). -/
theorem iMov_zero {w b : Nat} (hw : w < 2 ^ 24) : iMov w b = 0 := by
  have hlt : w < 2 ^ (24 + 12 * b) := Nat.lt_of_lt_of_le hw (Nat.pow_le_pow_right (by decide) (by omega))
  rw [iMov, bits, Nat.shiftRight_eq_div_pow, Nat.div_eq_of_lt hlt, Nat.zero_mod]

theorem cRange_plain {w : Nat} (c : SigCore) (hw : w < 2 ^ 24) : c.cRange w = false := by
  rw [SigCore.cRange, iMov_zero hw, show (mvKIND 0 != 0) = false from rfl, Bool.and_false, Bool.false_and]

section
variable {h : Hw} {k w : Nat} (hw : w < 2 ^ 24)
include hw

theorem sigMovesRead_plain : h.sigMovesRead k w = ([], h) := by
  have hk : mvKIND 0 ≠ 1 := by decide
  simp only [Hw.sigMovesRead, iMov_zero hw, if_neg hk, List.foldl_fixed]

theorem sigOp_alu {v : Nat × Flg} (hne : iOP w ≠ 0x0A)
    (hv : sgAlu (iOP w) ((h.core k).fr (iA w)) ((h.core k).fr (iB w)) ((h.core k).fr (iC w)) = some v) :
    h.sigOp k w = (h.upCore k ((h.core k).setF (iD w) v.1).fall).sigFlags k v.2.mask := by
  have hk : mvKIND 0 ≠ 2 := by decide
  have hz : (mvKIND 0 != 0 && mvPOST 0) = false := by decide
  simp only [Hw.sigOp, sigMovesRead_plain hw, hv, if_neg hne, iMov_zero hw, if_neg hk, hz, Bool.false_eq_true, if_false,
    List.foldl_nil, List.foldl_fixed]

theorem sigOp_nop (ho : iOP w = 0x00) : h.sigOp k w = (h.upCore k (h.core k).fall).sigFlags k 0 := by
  have hk : mvKIND 0 ≠ 2 := by decide
  have hz : (mvKIND 0 != 0 && mvPOST 0) = false := by decide
  have hne : ¬ (0 = 0x0A) := by decide
  simp only [Hw.sigOp, sigMovesRead_plain hw, ho, sgAlu, if_neg hne, iMov_zero hw, if_neg hk, hz, Bool.false_eq_true,
    if_false, List.foldl_nil, List.foldl_fixed]

theorem sigOp_fcmp (ho : iOP w = 0x0A) : let x := ofFP32 ((h.core k).fr (iA w)); let y := ofFP32 ((h.core k).fr (iB w))
    h.sigOp k w = (h.upCore k (SigCore.fall { h.core k with
      un := x.1.isNan || y.1.isNan, lt := x.1.lt y.1, eq := x.1.eq y.1 })).sigFlags k (x.2.or y.2).mask := by
  have hk : mvKIND 0 ≠ 2 := by decide
  have hz : (mvKIND 0 != 0 && mvPOST 0) = false := by decide
  simp only [Hw.sigOp, sigMovesRead_plain hw, ho, sgAlu, if_true, iMov_zero hw, if_neg hk, hz, Bool.false_eq_true,
    if_false, List.foldl_nil, List.foldl_fixed]

end

section
variable {s : State} {i : Instr} {k cyc w op : Nat} (he : exec i s = s.sys (fun h => h.sigInstr k op cyc))
include he

/-- An instruction of a core at a legal word, from what it does. -/
theorem exec_sigInstr {g : Hw} (hd : s.hw.SigAt k w → iOP w = op → s.hw.sigInstr k op cyc = g) (hu : s.hw.sysUp = true)
    (hst : s.hw.sstate k = 2) (hh : (s.hw.core k).halted = false) (hs : (s.hw.core k).stops = [])
    (hpc : (s.hw.core k).pc ≤ 2047) (hw : w = (s.hw.core k).instr) (hi : iIllegal w = false) (hop : iOP w = op) :
    exec i s = .next { s with hw := g } :=
  exec_of_sys he hu (hd ⟨hst, hh, hs, hpc, hw, hi⟩ hop)

/-- An arithmetic instruction without moves writes f[D] and its flags (R914, R918). -/
theorem exec_sgAlu {v : Nat × Flg} (hlt : op < 0x20) (hne : op ≠ 0x0A)
    (hv : sgAlu op ((s.hw.core k).fr (iA w)) ((s.hw.core k).fr (iB w)) ((s.hw.core k).fr (iC w)) = some v)
    (hu : s.hw.sysUp = true) (hst : s.hw.sstate k = 2) (hh : (s.hw.core k).halted = false)
    (hs : (s.hw.core k).stops = []) (hpc : (s.hw.core k).pc ≤ 2047) (hw : w = (s.hw.core k).instr)
    (hi : iIllegal w = false) (hop : iOP w = op) (hp : w < 2 ^ 24) : exec i s = .next
      { s with hw := (s.hw.upCore k ((s.hw.core k).setF (iD w) v.1).fall).sigFlags k v.2.mask } :=
  exec_sigInstr he (fun hat hop => (sigInstr_float hat hop cyc hlt (cRange_plain _ hp)).trans
    (sigOp_alu hp (hop ▸ hne) (hop ▸ hv))) hu hst hh hs hpc hw hi hop

end

/-- Settles O49: each operation by its result (`sgAlu`), FCMP and NOP by a lemma each. -/
theorem signalArithmetic : Obligations.SignalArithmetic :=
  ⟨fun s k cyc _ => exec_sgAlu (exec_fmac k cyc s) (by decide) (by decide) rfl,
    fun s k cyc _ => exec_sgAlu (exec_fmsc k cyc s) (by decide) (by decide) rfl,
    fun s k cyc _ => exec_sgAlu (exec_fmul k cyc s) (by decide) (by decide) rfl,
    fun s k cyc _ => exec_sgAlu (exec_fadd k cyc s) (by decide) (by decide) rfl,
    fun s k cyc _ => exec_sgAlu (exec_fsub k cyc s) (by decide) (by decide) rfl,
    fun s k cyc _ => exec_sgAlu (exec_fmin k cyc s) (by decide) (by decide) rfl,
    fun s k cyc _ => exec_sgAlu (exec_fmax k cyc s) (by decide) (by decide) rfl,
    fun s k cyc _ => exec_sgAlu (exec_fcvtf k cyc s) (by decide) (by decide) rfl,
    fun s k cyc _ => exec_sgAlu (exec_frcp k cyc s) (by decide) (by decide) rfl,
    fun s k cyc _ => exec_sgAlu (exec_frsqrt k cyc s) (by decide) (by decide) rfl,
    fun s k cyc _ => exec_sgAlu (v := (_, Flg.none)) (exec_fabs k cyc s) (by decide) (by decide) rfl,
    fun s k cyc _ => exec_sgAlu (v := (_, Flg.none)) (exec_fneg k cyc s) (by decide) (by decide) rfl,
    fun s k cyc _ => exec_sgAlu (v := (_, Flg.none)) (exec_fcvtq k cyc s) (by decide) (by decide) rfl,
    fun s k cyc _ hu hst hh hs hpc hw hi hop hp => exec_sigInstr (exec_fcmp k cyc s) (fun hat hop =>
      (sigInstr_float hat hop cyc (by decide) (cRange_plain _ hp)).trans (sigOp_fcmp hp hop)) hu hst hh hs hpc hw hi hop,
    fun s k cyc _ hu hst hh hs hpc hw hi hop hp => exec_sigInstr (exec_nop (.core k) cyc s) (fun hat hop =>
      (sigInstr_float hat hop cyc (by decide) (cRange_plain _ hp)).trans (sigOp_nop hp hop)) hu hst hh hs hpc hw hi hop,
    fun s k cyc _ hu hst hh hs hpc hw hi hop hr => exec_sigInstr (exec_fmac k cyc s) (fun hat hop =>
      sigInstr_float hat hop cyc (by decide) hr) hu hst hh hs hpc hw hi hop⟩

end Sys2Proof.Machine
end

section
/-!
SUPPORT. Integer, address, control and transfer instructions of the signal cores (R918-R920, R924, R927-R931, R935,
R941-R943).
-/
namespace Sys2Proof.Machine

open Sys2Proof

/-! ### Integer and address instructions (R918, R924) -/

/-- r registers hold 64 bits: a value is written modulo 2^64. -/
theorem setR_mod (c : SigCore) (n v : Nat) : c.setR n (v % 2 ^ 64) = c.setR n v := by
  have h : BitVec.ofNat 64 (v % 2 ^ 64) = BitVec.ofNat 64 v := BitVec.eq_of_toNat_eq (by simp)
  rw [SigCore.setR, SigCore.setR, h]

theorem rr_lt (c : SigCore) (n : Nat) : c.rr n < 2 ^ 64 := BitVec.isLt _

section
variable (c : SigCore) {w : Nat}

theorem intOp_iadd (hop : iOP w = 0x20) : c.intOp w = c.setR (iD w) ((c.rr (iA w) + c.rr (iB w)) % 2 ^ 64) := by
  simp only [setR_mod, SigCore.intOp, hop]

theorem intOp_isub (hop : iOP w = 0x21) :
    c.intOp w = c.setR (iD w) ((c.rr (iA w) + 2 ^ 64 - c.rr (iB w)) % 2 ^ 64) := by
  simp only [← subMod_of_lt (rr_lt c _) (rr_lt c _), SigCore.intOp, hop]

theorem intOp_ishl (hop : iOP w = 0x24) :
    c.intOp w = c.setR (iD w) (c.rr (iA w) * 2 ^ (c.rr (iB w) % 64) % 2 ^ 64) := by
  simp only [setR_mod, SigCore.intOp, hop]

end

section
variable {s : State} {i : Instr} {k cyc w op : Nat} (he : exec i s = s.sys (fun h => h.sigInstr k op cyc))
include he

theorem exec_sigInt {c : SigCore} (hlo : 0x20 ≤ op) (hhi : op < 0x40)
    (hc : iOP w = op → (s.hw.core k).intOp w = c) (hu : s.hw.sysUp = true) (hst : s.hw.sstate k = 2)
    (hh : (s.hw.core k).halted = false) (hs : (s.hw.core k).stops = []) (hpc : (s.hw.core k).pc ≤ 2047)
    (hw : w = (s.hw.core k).instr) (hi : iIllegal w = false) (hop : iOP w = op) :
    exec i s = .next { s with hw := s.hw.upCore k c.fall } :=
  exec_sigInstr he (fun hat hop => hc hop ▸ sigInstr_int hat hop cyc hlo hhi) hu hst hh hs hpc hw hi hop

/-! ### Control (R919, R920, R927-R931) -/

/-- A control instruction that succeeds leaves the core as it says. -/
theorem exec_sigCtl {c : SigCore} (hlo : 0x40 ≤ op) (hhi : op < 0x45)
    (hc : iOP w = op → (s.hw.core k).ctlOp w = .ok c) (hu : s.hw.sysUp = true) (hst : s.hw.sstate k = 2)
    (hh : (s.hw.core k).halted = false) (hs : (s.hw.core k).stops = []) (hpc : (s.hw.core k).pc ≤ 2047)
    (hw : w = (s.hw.core k).instr) (hi : iIllegal w = false) (hop : iOP w = op) :
    exec i s = .next { s with hw := s.hw.upCore k c } :=
  exec_sigInstr he (fun hat hop => (sigInstr_ctl hat hop cyc hlo hhi).trans (by rw [hc hop])) hu hst hh hs hpc hw hi hop

/-- One that fails faults the core with its code. -/
theorem exec_sigCtl_fault {e : Nat} (hlo : 0x40 ≤ op) (hhi : op < 0x45)
    (hc : iOP w = op → (s.hw.core k).ctlOp w = .error e) (hu : s.hw.sysUp = true) (hst : s.hw.sstate k = 2)
    (hh : (s.hw.core k).halted = false) (hs : (s.hw.core k).stops = []) (hpc : (s.hw.core k).pc ≤ 2047)
    (hw : w = (s.hw.core k).instr) (hi : iIllegal w = false) (hop : iOP w = op) :
    exec i s = .next { s with hw := s.hw.sigFault k e cyc } :=
  exec_sigInstr he (fun hat hop => (sigInstr_ctl hat hop cyc hlo hhi).trans (by rw [hc hop])) hu hst hh hs hpc hw hi hop

end

section
variable {c : SigCore} {w : Nat}

theorem ctlOp_loop {c' : SigCore} (hop : iOP w = 0x40) (hl : c.loop w = some c') : c.ctlOp w = .ok c' := by
  simp only [SigCore.ctlOp, hop, hl]

theorem ctlOp_loop_depth (hop : iOP w = 0x40) (hl : c.loop w = none) : c.ctlOp w = .error 4 := by
  simp only [SigCore.ctlOp, hop, hl]

theorem ctlOp_call (hop : iOP w = 0x43) (hn : c.stack.length < 4) :
    c.ctlOp w = .ok { c.jump (bits (iIMM w) 10 0) with stack := (c.pc + 1) :: c.stack } := by
  simp only [SigCore.ctlOp, hop, if_neg (Nat.not_le.mpr hn)]
  rfl

theorem ctlOp_call_full (hop : iOP w = 0x43) (hn : 4 ≤ c.stack.length) : c.ctlOp w = .error 5 := by
  simp only [SigCore.ctlOp, hop, if_pos hn]

theorem ctlOp_ret {r : Nat} {l : List Nat} (hop : iOP w = 0x44) (hs : c.stack = r :: l) :
    c.ctlOp w = .ok { c with stack := l, pc := r } := by
  simp only [SigCore.ctlOp, hop, hs]

theorem ctlOp_ret_empty (hop : iOP w = 0x44) (hs : c.stack = []) : c.ctlOp w = .error 5 := by
  simp only [SigCore.ctlOp, hop, hs]

section
variable (hl : c.loops = []) {n : Nat}
  (hc : n = if bit (iIMM w) 35 = true then c.rr (iA w) % 2 ^ 32 else bits (iIMM w) 15 0)
include hl hc

theorem loop_outermost (hn : n ≠ 0) : c.loop w = some { c with
    loops := [⟨c.pc + 1, c.pc + bits (iIMM w) 26 16, n⟩], pc := c.pc + 1 } := by
  have hd : ¬ 3 ≤ ([] : List SLoop).length := by decide
  simp only [SigCore.loop, hl, if_neg hd, ← hc, if_neg hn]

/-- A count of 0 goes on after the body (R930). -/
theorem loop_zero (hn : n = 0) : c.loop w = some { c with pc := c.pc + bits (iIMM w) 26 16 + 1 } := by
  have hd : ¬ 3 ≤ ([] : List SLoop).length := by decide
  simp only [SigCore.loop, hl, if_neg hd, ← hc, hn, if_true, SigCore.fall, loopNext]

end

end

/-! ### What the requests of a transfer leave alone -/

/-- Reports and counts of a refused request leave the cores. -/
theorem niCheck_sig (h : Hw) (node a n : Nat) : (h.niCheck node a n none).2.sig = h.sig := by
  simp only [Hw.niCheck, Hw.errAddr, Hw.errFull]
  split
  · rfl
  · split
    · rw [raiseRep_frame]
    · split
      · rw [raiseRep_frame]
      · split <;> rfl

theorem xfers_sigRefused (h : Hw) (k : Nat) : ((h.sigRefused k).core k).xfers = (h.core k).xfers := by
  rw [Hw.sigRefused, Hw.core, Hw.setCore, SMap.get_set_self]

theorem xfers_of_sig {g h : Hw} (k : Nat) (he : g.sig = h.sig) : (g.core k).xfers = (h.core k).xfers := by
  rw [Hw.core, he, ← Hw.core.eq_1]

/-- Sending the requests of a transfer leaves the transfers the core has. -/
theorem xfers_sigSend (h : Hw) (k : Nat) (put : Bool) (m a w n : Nat) :
    ((h.sigSend k put m a w n).2.core k).xfers = (h.core k).xfers := by
  refine foldl_keeps (fun s : List SigReq × Hw => (s.2.core k).xfers) _ (fun s p _ => ?_) ([], h)
  have hc := niCheck_sig s.2 643 (p.1 % 2 ^ 48) p.2
  dsimp only
  generalize s.2.niCheck 643 (p.1 % 2 ^ 48) p.2 none = r at hc
  obtain ⟨_ | _, g⟩ := r
  · exact xfers_of_sig k hc
  · exact (xfers_sigRefused g k).trans (xfers_of_sig k hc)

/-! ### HALT, WAITT and transfers (R918, R932, R935, R941-R943) -/

section
variable {h : Hw} {k w : Nat} (cyc : Nat)

theorem sigWait_halts (hop : iOP w = 0x45) (hx : (h.core k).xerr = false) :
    h.sigWait k w cyc = h.upCore k { h.core k with halted := true } := by
  have hne : ¬ (0x45 = 0x46) := by decide
  simp only [Hw.sigWait, hop, if_neg hne, hx, Bool.false_eq_true, if_false]

theorem sigWait_goesOn (hop : iOP w = 0x46) (hq : (h.core k).xfers = []) (hx : (h.core k).xerr = false) :
    h.sigWait k w cyc = h.upCore k (h.core k).fall := by
  simp only [Hw.sigWait, hop, if_true, hq, hx, List.isEmpty_nil, Bool.not_true, Bool.false_eq_true, if_false]

theorem sigWait_stays (hop : iOP w = 0x46) (hq : (h.core k).xfers ≠ []) : h.sigWait k w cyc = h := by
  simp only [Hw.sigWait, hop, if_true, List.isEmpty_eq_false_iff.mpr hq, Bool.not_false]

section
variable (hlen : (h.core k).xfers.length < 8)
include hlen

/-- Transfers name words, whose addresses are multiples of 4 (R941). -/
theorem sigXfer_unaligned (ha : (h.core k).rr (iA w) % 2 ^ 48 % 4 ≠ 0) : h.sigXfer k w cyc = h.sigFault k 1 cyc := by
  have hb : ((h.core k).rr (iA w) % 2 ^ 48 % 4 != 0) = true := bne_iff_ne.mpr ha
  simp only [Hw.sigXfer, if_neg (Nat.not_le.mpr hlen), hb, if_true, ite_self]

section
variable {a : Nat} (ha : a = (h.core k).rr (iA w) % 2 ^ 48) (hal : a % 4 = 0)
include ha hal

theorem sigXfer_signal (hop : iOP w = 0x62) : h.sigXfer k w cyc =
    (h.upCore k (SigCore.fall { h.core k with
      xfers := (h.core k).xfers ++ [⟨.signal, 0, a, (h.core k).rr (iB w), true, []⟩] })).sigRetire k := by
  simp only [Hw.sigXfer, if_neg (Nat.not_le.mpr hlen), hop, if_true, ← ha, hal, bne_self_eq_false, Bool.false_eq_true,
    if_false]

/-- A transfer whose words lie in its memory, and whose requests the NI has room for, is sent (R941, R942). -/
theorem sigXfer_sends {n m : Nat} {l : List SigReq} {g : Hw} {put : Bool} (hop : iOP w = if put then 0x61 else 0x60)
    (hn : n = if bits (iIMM w) 11 0 = 0 then 4096 else bits (iIMM w) 11 0) (hm : m = bits (iIMM w) 13 12)
    (hr : (h.core k).ar (iB w) + n ≤ sigWords m)
    (hroom : (h.noc.outst.filter (fun o => o.node == 643)).length + (pieces a (4 * n)).length ≤ 4096)
    (hs : h.sigSend k put m a ((h.core k).ar (iB w)) n = (l, g)) : h.sigXfer k w cyc =
      (g.upCore k (SigCore.fall { g.core k with
        xfers := (h.core k).xfers ++ [⟨if put then .put else .get, m, a, 0, false, l⟩] })).sigRetire k := by
  have hsig : iOP w ≠ 0x62 := by
    rw [hop]
    cases put <;> decide
  have hput : (iOP w == 0x61) = put := by
    rw [hop]
    cases put <;> rfl
  have hx : (g.core k).xfers = (h.core k).xfers := by
    have := xfers_sigSend h k put m a ((h.core k).ar (iB w)) n
    rwa [hs] at this
  simp only [Hw.sigXfer, if_neg (Nat.not_le.mpr hlen), if_neg hsig, ← ha, hal, bne_self_eq_false, Bool.false_eq_true,
    if_false, ← hn, ← hm, if_neg (Nat.not_lt.mpr hr), if_neg (Nat.not_lt.mpr hroom), hput, hs, hx]

end

end

end

section
variable {s : State} {i : Instr} {k cyc w op : Nat} (he : exec i s = s.sys (fun h => h.sigInstr k op cyc))
include he

theorem exec_sigXfer_unaligned (hlo : 0x60 ≤ op) (hu : s.hw.sysUp = true) (hst : s.hw.sstate k = 2)
    (hh : (s.hw.core k).halted = false) (hs : (s.hw.core k).stops = []) (hpc : (s.hw.core k).pc ≤ 2047)
    (hw : w = (s.hw.core k).instr) (hi : iIllegal w = false) (hop : iOP w = op)
    (ha : (s.hw.core k).rr (iA w) % 2 ^ 48 % 4 ≠ 0) (hlen : (s.hw.core k).xfers.length < 8) :
    exec i s = .next { s with hw := s.hw.sigFault k 1 cyc } :=
  exec_sigInstr he (fun hat hop => (sigInstr_xfer hat hop cyc hlo).trans (sigXfer_unaligned cyc hlen ha)) hu hst hh hs
    hpc hw hi hop

end

/-- Settles O50, by the classes of opcodes and a lemma per instruction whose core is stated. -/
theorem signalIntegersAndControl : Obligations.SignalIntegersAndControl :=
  ⟨fun s k cyc _ => exec_sigInt (exec_iadd k cyc s) (by decide) (by decide) (intOp_iadd _),
    fun s k cyc _ => exec_sigInt (exec_isub k cyc s) (by decide) (by decide) (intOp_isub _),
    fun s k cyc _ => exec_sigInt (exec_iand k cyc s) (by decide) (by decide) (fun hop => by simp only [SigCore.intOp, hop]),
    fun s k cyc _ => exec_sigInt (exec_ior k cyc s) (by decide) (by decide) (fun hop => by simp only [SigCore.intOp, hop]),
    fun s k cyc _ => exec_sigInt (exec_ishl k cyc s) (by decide) (by decide) (intOp_ishl _),
    fun s k cyc _ => exec_sigInt (exec_ishr k cyc s) (by decide) (by decide) (fun hop => by simp only [SigCore.intOp, hop]),
    fun s k cyc _ => exec_sigInt (exec_imov k cyc s) (by decide) (by decide) (fun hop => by simp only [SigCore.intOp, hop]),
    fun s k cyc _ => exec_sigInt (exec_movr k cyc s) (by decide) (by decide) (fun hop => by simp only [SigCore.intOp, hop]),
    fun s k cyc _ => exec_sigInt (exec_icmp k cyc s) (by decide) (by decide) (fun hop => by simp only [SigCore.intOp, hop]),
    fun s k cyc _ => exec_sigInt (exec_seta k cyc s) (by decide) (by decide) (fun hop => by simp only [SigCore.intOp, hop]),
    fun s k cyc _ => exec_sigInt (exec_mova k cyc s) (by decide) (by decide) (fun hop => by simp only [SigCore.intOp, hop]),
    fun s k cyc _ _ hu hst hh hs hpc hw hi hop hl => exec_sigCtl (exec_loop k cyc s) (by decide) (by decide)
      (fun hop => ctlOp_loop hop hl) hu hst hh hs hpc hw hi hop,
    fun s k cyc _ => exec_sigCtl (exec_sigBr k cyc s) (by decide) (by decide)
      (fun hop => by simp only [SigCore.ctlOp, hop]),
    fun s k cyc _ => exec_sigCtl (exec_sigJmp k cyc s) (by decide) (by decide)
      (fun hop => by simp only [SigCore.ctlOp, hop]),
    fun s k cyc _ hu hst hh hs hpc hw hi hop hn => exec_sigCtl (exec_sigCall k cyc s) (by decide) (by decide)
      (fun hop => ctlOp_call hop hn) hu hst hh hs hpc hw hi hop,
    fun s k cyc _ _ _ hu hst hh hs hpc hw hi hop hn => exec_sigCtl (exec_ret k cyc s) (by decide) (by decide)
      (fun hop => ctlOp_ret hop hn) hu hst hh hs hpc hw hi hop,
    fun s k cyc _ hu hst hh hs hpc hw hi hop hn => exec_sigCtl_fault (exec_ret k cyc s) (by decide) (by decide)
      (fun hop => ctlOp_ret_empty hop hn) hu hst hh hs hpc hw hi hop,
    fun s k cyc _ hu hst hh hs hpc hw hi hop hx => exec_sigInstr (exec_sigHalt k cyc s)
      (fun hat hop => (sigInstr_wait hat hop cyc (.inl rfl)).trans (sigWait_halts cyc hop hx)) hu hst hh hs hpc hw hi
      hop,
    fun s k cyc _ hu hst hh hs hpc hw hi hop hq hx => exec_sigInstr (exec_waitt k cyc s)
      (fun hat hop => (sigInstr_wait hat hop cyc (.inr rfl)).trans (sigWait_goesOn cyc hop hq hx)) hu hst hh hs hpc hw
      hi hop,
    fun s k cyc _ _ _ _ _ _ hu hst hh hs hpc hw hi hop ha hal hlen hn hm hr hroom hg => exec_sigInstr
      (exec_get k cyc s) (fun hat hop => (sigInstr_xfer hat hop cyc (by decide)).trans
        (sigXfer_sends (put := false) cyc hlen ha hal hop hn hm hr hroom hg)) hu hst hh hs hpc hw hi hop,
    fun s k cyc _ _ _ _ _ _ hu hst hh hs hpc hw hi hop ha hal hlen hn hm hr hroom hg => exec_sigInstr
      (exec_put k cyc s) (fun hat hop => (sigInstr_xfer hat hop cyc (by decide)).trans
        (sigXfer_sends (put := true) cyc hlen ha hal hop hn hm hr hroom hg)) hu hst hh hs hpc hw hi hop,
    fun s k cyc _ _ hu hst hh hs hpc hw hi hop ha hal hlen => exec_sigInstr (exec_signal k cyc s)
      (fun hat hop => (sigInstr_xfer hat hop cyc (by decide)).trans (sigXfer_signal cyc hlen ha hal hop)) hu hst hh hs
      hpc hw hi hop,
    fun s k cyc _ hu hst hh hs hpc hw hi hop ha hlen => exec_sigXfer_unaligned (exec_get k cyc s) (by decide) hu hst hh
      hs hpc hw hi hop ha hlen,
    fun s k cyc _ hu hst hh hs hpc hw hi hop ha hlen => exec_sigXfer_unaligned (exec_put k cyc s) (by decide) hu hst hh
      hs hpc hw hi hop ha hlen,
    fun s k cyc _ hu hst hh hs hpc hw hi hop ha hlen => exec_sigXfer_unaligned (exec_signal k cyc s) (by decide) hu hst
      hh hs hpc hw hi hop ha hlen,
    fun s k cyc _ hu hst hh hs hpc hw hi hop hl => exec_sigCtl_fault (exec_loop k cyc s) (by decide) (by decide)
      (fun hop => ctlOp_loop_depth hop hl) hu hst hh hs hpc hw hi hop,
    fun s k cyc _ _ hu hst hh hs hpc hw hi hop hl hn hnz => exec_sigCtl (exec_loop k cyc s) (by decide) (by decide)
      (fun hop => ctlOp_loop hop (loop_outermost hl hn hnz)) hu hst hh hs hpc hw hi hop,
    fun s k cyc _ _ hu hst hh hs hpc hw hi hop hl hn hnz => exec_sigCtl (exec_loop k cyc s) (by decide) (by decide)
      (fun hop => ctlOp_loop hop (loop_zero hl hn hnz)) hu hst hh hs hpc hw hi hop,
    fun s k cyc _ hu hst hh hs hpc hw hi hop hn => exec_sigCtl_fault (exec_sigCall k cyc s) (by decide) (by decide)
      (fun hop => ctlOp_call_full hop hn) hu hst hh hs hpc hw hi hop,
    fun s k cyc _ hu hst hh hs hpc hw hi hop hq => exec_sigInstr (exec_waitt k cyc s)
      (fun hat hop => (sigInstr_wait hat hop cyc (.inr rfl)).trans (sigWait_stays cyc hop hq)) hu hst hh hs hpc hw hi
      hop⟩

end Sys2Proof.Machine
end

section
/-!
SUPPORT. Frames of the Moazel links as blocks (R1093, R1094): reading the blocks of a frame gives the frame back.
-/
namespace Sys2Proof.Machine

open Sys2Proof

/-! ### Bytes of a number (R8) -/

theorem drop_leBytes (n k v : Nat) : (leBytes (k + n) v).drop k = leBytes n (v / 256 ^ k) := by
  induction k generalizing v with
  | zero => simp
  | succ k ih => rw [Nat.succ_add, leBytes, List.drop_succ_cons, ih, Nat.div_div_eq_div_mul, pow_succ']

theorem take_leBytes (n k v : Nat) : (leBytes (k + n) v).take k = leBytes k v := by
  induction k generalizing v with
  | zero => rfl
  | succ k ih => rw [Nat.succ_add, leBytes, List.take_succ_cons, ih, leBytes]

/-- A field of whole bytes of a number at the front of a byte list. -/
theorem leAt_leBytes (k m r v : Nat) (bs : List Byte) :
    leAt (leBytes (k + (m + r)) v ++ bs) k m = v / 256 ^ k % 256 ^ m := by
  have hlen : m ≤ (leBytes (m + r) (v / 256 ^ k)).length := by
    rw [leBytes_length]
    exact Nat.le_add_right m r
  rw [leAt, List.drop_append_of_le_length (by rw [leBytes_length]; omega), drop_leBytes,
    List.take_append_of_le_length hlen, take_leBytes, ofLe_leBytes]

/-! ### The CRC (R701) -/

theorem crcByte_lt (b : Byte) {c : Nat} (hc : c < 2 ^ 32) : crcByte c b < 2 ^ 32 := by
  have hstep : ∀ c : Nat, ∀ x ∈ List.range 8, c < 2 ^ 32 →
      (if c % 2 = 1 then c / 2 ^^^ 0x82F63B78 else c / 2) < 2 ^ 32 := fun c _ _ hc => by
    split
    · exact Nat.xor_lt_two_pow (by omega) (by decide)
    · omega
  exact foldl_steps (r := fun c d => c < 2 ^ 32 → d < 2 ^ 32) (fun _ h => h) (fun p q h => q (p h)) (List.range 8)
    hstep _ (Nat.xor_lt_two_pow hc (Nat.lt_trans b.isLt (by decide)))

theorem crc32c_lt (bs : List Byte) : crc32c bs < 2 ^ 32 :=
  Nat.xor_lt_two_pow (foldl_steps (r := fun c d => c < 2 ^ 32 → d < 2 ^ 32) (fun _ h => h) (fun p q h => q (p h)) bs
    (fun _ b _ => crcByte_lt b) 0xFFFFFFFF (by decide)) (by decide)

/-! ### Flits (R1093) -/

/-- The sideband byte of a flit. -/
def Flit.side (x : Flit) : Byte :=
  BitVec.ofNat 8 (x.vc % 8 + 8 * b2n x.head + 16 * b2n x.tail + 32 * b2n x.poison)

/-- The blocks of a flit: its 32 bytes, and on a tail its CRC in a block of its own. -/
def Flit.blocks (x : Flit) : List Byte :=
  x.data ++ (if x.tail then leBytes 4 x.crc ++ List.replicate 4 0 else [])

/-- A flit that its blocks carry whole. -/
def Flit.Sound (x : Flit) : Prop :=
  x.vc < 8 ∧ x.data.length = 32 ∧ x.crc < 2 ^ 32 ∧ (x.tail = false → x.crc = 0)

/-- Each field of the sideband byte is read back. -/
theorem side_fields (x : Flit) (hv : x.vc < 8) : bits x.side.toNat 2 0 = x.vc ∧ bit x.side.toNat 3 = x.head ∧
    bit x.side.toNat 4 = x.tail ∧ bit x.side.toNat 5 = x.poison := by
  have key : ∀ vc < 8, ∀ head tail poison : Bool,
      let v := (BitVec.ofNat 8 (vc % 8 + 8 * b2n head + 16 * b2n tail + 32 * b2n poison)).toNat
      bits v 2 0 = vc ∧ bit v 3 = head ∧ bit v 4 = tail ∧ bit v 5 = poison := by decide
  exact key x.vc hv x.head x.tail x.poison

/-- The blocks of sound flits, read by their sidebands, give the flits, and leave what follows. -/
theorem parseFlits_blocks (fs : List Flit) (hf : ∀ x ∈ fs, x.Sound) (e : List Byte) :
    parseFlits (fs.map Flit.side) ((fs.map Flit.blocks).flatten ++ e) = some (fs, e) := by
  induction fs with
  | nil => rfl
  | cons x fs ih =>
    obtain ⟨hv, hd, hc, ht⟩ := hf x List.mem_cons_self
    have hrest := ih (fun y hy => hf y (List.mem_cons_of_mem x hy))
    obtain ⟨hvc, hhead, htail, hpoison⟩ := side_fields x hv
    rw [List.map_cons, List.map_cons, List.flatten_cons, List.append_assoc]
    generalize (fs.map Flit.blocks).flatten ++ e = r at hrest
    have hlen : ¬ (x.blocks ++ r).length < 32 := by
      rw [Flit.blocks, List.length_append, List.length_append, hd]
      omega
    have htake : (x.blocks ++ r).take 32 = x.data := by rw [Flit.blocks, List.append_assoc, List.take_left' hd]
    have hdrop : (x.blocks ++ r).drop 32 = (if x.tail then leBytes 4 x.crc ++ List.replicate 4 0 else []) ++ r := by
      rw [Flit.blocks, List.append_assoc, List.drop_left' hd]
    rw [parseFlits, if_neg hlen]
    simp only [hvc, hhead, htail, hpoison, htake, hdrop]
    cases htl : x.tail with
    | false =>
      simp only [Bool.false_eq_true, if_false, Bool.false_and, List.nil_append, hrest, ← ht htl]
      rw [← htl]
    | true =>
      have hcrc : leAt (leBytes 4 x.crc ++ List.replicate 4 0 ++ r) 0 4 = x.crc := by
        rw [List.append_assoc, leAt_leBytes 0 4 0, pow_zero, Nat.div_one]
        exact Nat.mod_eq_of_lt hc
      have hskip : (leBytes 4 x.crc ++ List.replicate 4 0 ++ r).drop 8 = r := List.drop_left' (by simp)
      have hroom : ¬ (leBytes 4 x.crc ++ List.replicate 4 0 ++ r).length < 8 := by
        simp only [List.length_append, leBytes_length, List.length_replicate]
        omega
      simp only [if_true, Bool.true_and, decide_eq_true_eq, if_neg hroom, hskip, hcrc, hrest]
      rw [← htl]

/-! ### Frames (R1093, R1094) -/

/-- The word of a frame's block S. -/
def LFrame.word (f : LFrame) : Nat :=
  0xA5 + f.ftype * 2 ^ 8 + f.seq % 4096 * 2 ^ 12 + f.ack % 4096 * 2 ^ 24 + f.flits.length * 2 ^ 36 +
    f.crvc % 8 * 2 ^ 40 + f.crcnt % 256 * 2 ^ 43

/-- What stands between the blocks S and E: block B and the flits, where there are any. -/
def LFrame.middle (f : LFrame) : List Byte :=
  if f.flits.isEmpty then [] else
    (f.flits.map Flit.side ++ List.replicate (8 - (f.flits.map Flit.side).length) 0) ++
      (f.flits.map Flit.blocks).flatten

/-- The word of block E. -/
def LFrame.last (f : LFrame) : Nat := 0x5A + crc32c f.body * 2 ^ 8

theorem body_eq (f : LFrame) : f.body = leBytes 8 f.word ++ f.middle := rfl

theorem encode_eq (f : LFrame) : f.encode = f.body ++ leBytes 8 f.last := rfl

/-- A frame whose fields fit in block S. -/
structure LFrame.Fits (f : LFrame) : Prop where
  ftype : f.ftype < 16
  seq : f.seq < 4096
  ack : f.ack < 4096
  crvc : f.crvc < 8
  crcnt : f.crcnt < 256
  flits : f.flits.length ≤ 8

section
variable {f : LFrame} (hf : f.Fits)
include hf

/-- Each field of block S is read back. -/
theorem word_fields : f.word < 2 ^ 64 ∧ bits f.word 7 0 = 0xA5 ∧ bits f.word 11 8 = f.ftype ∧
    bits f.word 23 12 = f.seq ∧ bits f.word 35 24 = f.ack ∧ bits f.word 39 36 = f.flits.length ∧
    bits f.word 42 40 = f.crvc ∧ bits f.word 50 43 = f.crcnt := by
  obtain ⟨ht, hs, ha, hv, hc, hn⟩ := hf
  simp only [LFrame.word, bits, Nat.shiftRight_eq_div_pow]
  generalize f.flits.length = n at hn
  refine ⟨?_, ?_, ?_, ?_, ?_, ?_, ?_, ?_⟩ <;> omega

theorem leAt_encode_word : leAt f.encode 0 8 = f.word := by
  rw [encode_eq, body_eq, List.append_assoc, leAt_leBytes 0 8 0, pow_zero, Nat.div_one]
  exact Nat.mod_eq_of_lt (word_fields hf).1

/-- The flits between the blocks S and E are read back, and block E is left. -/
theorem parse_middle (hs : ∀ x ∈ f.flits, x.Sound) (e : List Byte) :
    (if f.flits.length = 0 then some ([], f.middle ++ e)
      else parseFlits ((f.middle ++ e).take f.flits.length) ((f.middle ++ e).drop 8)) = some (f.flits, e) := by
  rcases hfl : f.flits with _ | ⟨x, fs⟩
  · simp [LFrame.middle, hfl]
  · have hne : f.flits.isEmpty = false := by rw [hfl]; rfl
    have hlen : (f.flits.map Flit.side).length = f.flits.length := List.length_map ..
    have hblk : (f.flits.map Flit.side ++ List.replicate (8 - (f.flits.map Flit.side).length) (0 : Byte)).length = 8 := by
      have := hf.flits
      rw [List.length_append, List.length_replicate, hlen]
      omega
    rw [← hfl, if_neg (by rw [hfl]; exact Nat.succ_ne_zero _), LFrame.middle, hne, if_neg Bool.false_ne_true,
      List.append_assoc, List.drop_left' hblk, List.append_assoc, List.take_left' hlen, parseFlits_blocks _ hs]

end

/-- Block E closes the frame with its letter and the LCRC of all before it. -/
theorem last_fields (f : LFrame) : leAt (leBytes 8 f.last) 0 1 = 0x5A ∧ leAt (leBytes 8 f.last) 1 4 = crc32c f.body := by
  have hc := crc32c_lt f.body
  have h0 := leAt_leBytes 0 1 7 f.last []
  have h1 := leAt_leBytes 1 4 3 f.last []
  rw [List.append_nil] at h0 h1
  refine ⟨h0.trans ?_, h1.trans ?_⟩ <;> rw [LFrame.last] <;> omega

/-- A frame of sound flits whose fields fit is read back from its blocks. -/
theorem parseLFrame_encode {f : LFrame} (hf : f.Fits) (hs : ∀ x ∈ f.flits, x.Sound) :
    parseLFrame f.encode = some f := by
  obtain ⟨-, hS, ht, hseq, hack, hn, hv, hc⟩ := word_fields hf
  obtain ⟨hE, hcrc⟩ := last_fields f
  have hdrop : f.encode.drop 8 = f.middle ++ leBytes 8 f.last := by
    rw [encode_eq, body_eq, List.append_assoc, List.drop_left' (leBytes_length 8 f.word)]
  have hbody : f.encode.take (f.encode.length - 8) = f.body := by
    rw [encode_eq, List.length_append, leBytes_length, Nat.add_sub_cancel, List.take_left]
  have hlong : ¬ f.encode.length < 16 := by
    rw [encode_eq, body_eq, List.length_append, List.length_append, leBytes_length, leBytes_length]
    omega
  have hopen : ¬ (f.encode.length < 16 ∨ (0xA5 : Nat) ≠ 0xA5 ∨ 8 < f.flits.length) := by
    have := hf.flits
    omega
  have hclose : ¬ ((leBytes 8 f.last).length ≠ 8 ∨ (0x5A : Nat) ≠ 0x5A ∨ crc32c f.body ≠ crc32c f.body) := by simp
  simp only [parseLFrame, leAt_encode_word hf, hS, ht, hseq, hack, hn, hv, hc, if_neg hopen, hdrop, parse_middle hf hs,
    hE, hcrc, hbody, if_neg hclose]

/-- Settles O57: block S gives the fields, the sidebands of block B cut the flits, and block E closes the frame. -/
theorem linkFrameRoundTrip : Obligations.LinkFrameRoundTrip :=
  fun _ ht hs ha hv hc hn hx => parseLFrame_encode ⟨ht, hs, ha, hv, hc, hn⟩ hx

end Sys2Proof.Machine
end

section
/-!
SUPPORT. The transmit shapers (R1031-R1036): the tick, FORGIVE, and writes of RATE and BUCKET.
-/
namespace Sys2Proof.Machine

open Sys2Proof

/-! ### Counts (R1031) -/

/-- A count that fits in 32 signed bits is read back. -/
theorem sext_wrapI {v : Int} (hlo : -2 ^ 31 ≤ v) (hhi : v < 2 ^ 31) : sext 32 (wrapI 32 v) = v := by
  simp only [sext, wrapI]
  omega

theorem sext_ge (v : Nat) : -2 ^ 31 ≤ sext 32 v := by
  simp only [sext]
  omega

section
variable (h : Hw) (n q : Nat)

theorem tokens_setTokens {v : Int} (hlo : -2 ^ 31 ≤ v) (hhi : v < 2 ^ 31) : (h.setTokens n q v).tokens n q = v := by
  have hg := Hw.get_put_self h (R.NET_P_SHP_CNT_CNT n q) (wrapI 32 v) (Nat.zero_le 31) (Nat.lt_succ_self 31)
  rw [Hw.tokens, Hw.setTokens, hg.trans (Nat.mod_eq_of_lt (wrapI_lt 32 v)), sext_wrapI hlo hhi]

theorem tokens_of_rd {g : Hw} (e : g.rd (R.NET_P_SHP_CNT n q) = h.rd (R.NET_P_SHP_CNT n q)) :
    g.tokens n q = h.tokens n q := by
  rw [Hw.tokens, get_of_rd (f := R.NET_P_SHP_CNT_CNT n q) e, Hw.tokens]

/-! ### The tick (R1031) -/

/-- The tick of one queue. -/
def Hw.shaped : Hw := h.setTokens n q
  (min (h.get (R.NET_P_SHP_BUCKET_BUCKET n q) : Int) (h.tokens n q + h.get (R.NET_P_SHP_RATE_RATE n q)))

theorem shaperTick_eq : h.shaperTick = (List.range 16).foldl (fun h i => h.shaped (i / 8) (i % 8)) h := rfl

/-- A queue's count after its tick: RATE is added and BUCKET clamps, within 32 bits. -/
theorem tokens_shaped : (h.shaped n q).tokens n q =
    min (h.get (R.NET_P_SHP_BUCKET_BUCKET n q) : Int) (h.tokens n q + h.get (R.NET_P_SHP_RATE_RATE n q)) := by
  have hb : h.get (R.NET_P_SHP_BUCKET_BUCKET n q) < 2 ^ 21 := bits_lt ..
  have ht : -2 ^ 31 ≤ h.tokens n q := sext_ge _
  exact tokens_setTokens h n q (by omega) (by omega)

/-- What a queue's tick reads and writes: BUCKET, RATE and the count. -/
def Hw.shaper : Nat × Nat × Int :=
  (h.get (R.NET_P_SHP_BUCKET_BUCKET n q), h.get (R.NET_P_SHP_RATE_RATE n q), h.tokens n q)

/-- A queue's tick leaves BUCKET and RATE of every queue, and the count of another. -/
theorem rd_shaped_ne {m p a : Nat} (ha : a ≠ R.NET_P_SHP_CNT m p) : (h.shaped m p).rd a = h.rd a :=
  Hw.rd_put_ne _ (R.NET_P_SHP_CNT_CNT m p) _ ha

theorem limits_shaped (m p : Nat) :
    (h.shaped m p).get (R.NET_P_SHP_BUCKET_BUCKET n q) = h.get (R.NET_P_SHP_BUCKET_BUCKET n q) ∧
    (h.shaped m p).get (R.NET_P_SHP_RATE_RATE n q) = h.get (R.NET_P_SHP_RATE_RATE n q) := by
  have hb : R.NET_P_SHP_BUCKET n q ≠ R.NET_P_SHP_CNT m p := by
    simp only [R.NET_P_SHP_BUCKET, R.NET_P_SHP_CNT]
    omega
  have hr : R.NET_P_SHP_RATE n q ≠ R.NET_P_SHP_CNT m p := by
    simp only [R.NET_P_SHP_RATE, R.NET_P_SHP_CNT]
    omega
  exact ⟨get_of_rd (f := R.NET_P_SHP_BUCKET_BUCKET n q) (rd_shaped_ne h hb),
    get_of_rd (f := R.NET_P_SHP_RATE_RATE n q) (rd_shaped_ne h hr)⟩

/-- A tick of a shaper. -/
def shaperTicked (x : Nat × Nat × Int) : Nat × Nat × Int := (x.1, x.2.1, min (x.1 : Int) (x.2.2 + x.2.1))

theorem shaper_shaped_self : (h.shaped n q).shaper n q = shaperTicked (h.shaper n q) := by
  obtain ⟨hb, hr⟩ := limits_shaped h n q n q
  rw [Hw.shaper, hb, hr, tokens_shaped]
  rfl

/-- Another queue's tick leaves a queue's shaper. -/
theorem shaper_shaped_other {m p : Nat} (hq : q < 8) (hp : p < 8) (hne : ¬ (m = n ∧ p = q)) :
    (h.shaped m p).shaper n q = h.shaper n q := by
  have hc : R.NET_P_SHP_CNT n q ≠ R.NET_P_SHP_CNT m p := by
    simp only [R.NET_P_SHP_CNT]
    omega
  obtain ⟨hb, hr⟩ := limits_shaped h n q m p
  rw [Hw.shaper, hb, hr, tokens_of_rd h n q (rd_shaped_ne h hc), Hw.shaper]

end

/-- What a fold over different elements does to a view that one element's step alone changes. -/
theorem foldl_at {α β γ : Type} (view : β → γ) {v : γ} {f : β → α → β} {l : List α} {x : α} (hx : x ∈ l) (hnd : l.Nodup)
    (h : β) (self : ∀ g, view g = view h → view (f g x) = v)
    (other : ∀ g, ∀ y ∈ l, y ≠ x → view (f g y) = view g) : view (l.foldl f h) = v := by
  obtain ⟨l₁, l₂, rfl⟩ := List.append_of_mem hx
  have hout : x ∉ l₁ ++ l₂ := (List.nodup_middle.mp hnd).notMem
  have hbefore := foldl_keeps view l₁ (fun g y hy => other g y (by simp [hy])
    (fun e => hout (List.mem_append_left _ (e ▸ hy)))) h
  have hafter := foldl_keeps view l₂ (fun g y hy => other g y (by simp [hy])
    (fun e => hout (List.mem_append_right _ (e ▸ hy)))) (f (l₁.foldl f h) x)
  rw [List.foldl_append, List.foldl_cons, hafter, self _ hbefore]

theorem shaper_shaperTick (h : Hw) {n q : Nat} (hn : n < 2) (hq : q < 8) :
    h.shaperTick.shaper n q = shaperTicked (h.shaper n q) := by
  have hdiv : (8 * n + q) / 8 = n := by omega
  have hmod : (8 * n + q) % 8 = q := by omega
  refine foldl_at (fun g : Hw => g.shaper n q) (f := fun h i => h.shaped (i / 8) (i % 8)) (x := 8 * n + q)
    (List.mem_range.mpr (by omega)) List.nodup_range h (fun g hg => ?_) (fun g i _ hi => ?_)
  · rw [hdiv, hmod, shaper_shaped_self, hg]
  · exact shaper_shaped_other g n q hq (Nat.mod_lt _ (by decide)) (by omega)

/-- A queue's count after the tick of all queues. -/
theorem tokens_shaperTick (h : Hw) {n q : Nat} (hn : n < 2) (hq : q < 8) : h.shaperTick.tokens n q =
    min (h.get (R.NET_P_SHP_BUCKET_BUCKET n q) : Int) (h.tokens n q + h.get (R.NET_P_SHP_RATE_RATE n q)) := by
  have hs := shaper_shaperTick h hn hq
  simp only [Hw.shaper, shaperTicked, Prod.mk.injEq] at hs
  exact hs.2.2

theorem Hw.Writes.shaperTick (h : Hw) : h.Writes h.shaperTick :=
  foldl_steps Writes.refl Writes.trans _ (fun h _ _ => Writes.put h _ _) h

theorem Hw.Writes.net {h g : Hw} (w : h.Writes g) : g.net = h.net := by
  rw [w.frame]
  rfl

/-! ### Register writes (R1033-R1035) -/

/-- A write of a register of the Ethernet block is made by its own rule (R25). -/
theorem regDo_net {h : Hw} {a v : Nat} {r : RegDef} (hr : regDef? a = some r) (hb : r.blk = .net)
    (hd : h.blkDown .net a = false) (hm : mdataCore a = none) : h.regDo a v = h.writeNet r a (v % 2 ^ 32) := by
  rw [Hw.regDo, regWrite_of_regDef h v 640 hr (hb ▸ hd) hm, Hw.regStore, hb]

/-- The registers of a shaper belong to the Ethernet block. -/
theorem regDef?_shaper : ∀ n < 2, ∀ q < 8, ∀ o ∈ [0x40090300, 0x40090304],
    (regDef? (o + 0x1000 * n + 16 * q)).map (fun r => r.blk) = some .net := by decide

/-- The port and the offset of a shaper's register. -/
theorem shaper_address {a n q o : Nat} (hn : n < 2) (hq : q < 8) (ho : o < 0x380) (ho4 : 0x300 ≤ o)
    (ha : a = 0x40090000 + o + 0x1000 * n + 16 * q) : mdataCore a = none ∧ a ≠ R.NET_SHP_CTL ∧
      (a - 0x40090000) / 0x1000 = n ∧ a % 0x1000 = o + 16 * q := by
  rw [R.NET_SHP_CTL]
  exact ⟨if_neg (by omega), by omega, by omega, by omega⟩

section
variable {h : Hw} {n q : Nat} (hn : n < 2) (hq : q < 8)
include hn hq

theorem regDo_shpCtl (hd : h.blkDown .net R.NET_SHP_CTL = false) :
    h.regDo R.NET_SHP_CTL (1 + 256 * (n % 2) + 16 * (q % 8)) = h.forgive n q := by
  obtain ⟨r, hr, hb⟩ : ∃ r, regDef? R.NET_SHP_CTL = some r ∧ r.blk = .net := ⟨_, rfl, rfl⟩
  have key : ∀ n < 2, ∀ q < 8, let v := (1 + 256 * (n % 2) + 16 * (q % 8)) % 2 ^ 32
      bit v 0 = true ∧ b2n (bit v 8) = n ∧ bits v 6 4 = q := by decide
  obtain ⟨h0, hport, hqueue⟩ := key n hn q hq
  rw [regDo_net hr hb hd (by decide), Hw.writeNet, if_pos rfl, h0, if_pos rfl, hport, hqueue]

/-- A write of RATE reaches its queue. -/
theorem regDo_shpRate (v : Nat) (hd : h.blkDown .net (0x40090300 + 0x1000 * n + 16 * q) = false) :
    h.regDo (0x40090300 + 0x1000 * (n % 2) + 16 * (q % 8)) v = h.setRate n q (v % 2 ^ 32) := by
  have hqueue : (0x300 + 16 * q - 0x300) / 16 = q := by omega
  have hrow : n < 2 ∧ 0x300 ≤ 0x300 + 16 * q ∧ 0x300 + 16 * q < 0x380 ∧ (0x300 + 16 * q) % 16 = 0 := by omega
  obtain ⟨hm, hctl, hport, hofs⟩ := shaper_address (a := 0x40090300 + 0x1000 * n + 16 * q) (o := 0x300) hn hq
    (by decide) (by decide) rfl
  obtain ⟨r, hr, hb⟩ := Option.map_eq_some_iff.mp (regDef?_shaper n hn q hq 0x40090300 (by simp))
  rw [Nat.mod_eq_of_lt hn, Nat.mod_eq_of_lt hq, regDo_net hr hb hd hm]
  simp only [Hw.writeNet, if_neg hctl, hport, hofs, hqueue, if_pos hrow]

/-- A write of BUCKET reaches its queue. -/
theorem regDo_shpBucket (v : Nat) (hd : h.blkDown .net (0x40090304 + 0x1000 * n + 16 * q) = false) :
    h.regDo (0x40090304 + 0x1000 * (n % 2) + 16 * (q % 8)) v = h.setBucket n q (v % 2 ^ 32) := by
  have hqueue : (0x304 + 16 * q - 0x300) / 16 = q := by omega
  have hnot : ¬ (n < 2 ∧ 0x300 ≤ 0x304 + 16 * q ∧ 0x304 + 16 * q < 0x380 ∧ (0x304 + 16 * q) % 16 = 0) := by omega
  have hrow : n < 2 ∧ 0x300 ≤ 0x304 + 16 * q ∧ 0x304 + 16 * q < 0x380 ∧ (0x304 + 16 * q) % 16 = 4 := by omega
  obtain ⟨hm, hctl, hport, hofs⟩ := shaper_address (a := 0x40090304 + 0x1000 * n + 16 * q) (o := 0x304) hn hq
    (by decide) (by decide) rfl
  obtain ⟨r, hr, hb⟩ := Option.map_eq_some_iff.mp (regDef?_shaper n hn q hq 0x40090304 (by simp))
  rw [Nat.mod_eq_of_lt hn, Nat.mod_eq_of_lt hq, regDo_net hr hb hd hm]
  simp only [Hw.writeNet, if_neg hctl, hport, hofs, hqueue, if_neg hnot, if_pos hrow]

end

section
variable (h : Hw) (n q : Nat) {v : Nat}

theorem setRate_valid (hlo : 1 ≤ v) (hhi : v ≤ 10000) :
    h.setRate n q (v % 2 ^ 32) = h.put (R.NET_P_SHP_RATE_RATE n q) v := by
  have hv : v % 2 ^ 32 % 2 ^ 14 = v := by omega
  simp only [Hw.setRate, hv, if_pos (And.intro hlo hhi)]

theorem setRate_reserved (hr : v = 0 ∨ 10000 < v) (hv : v < 2 ^ 14) : h.setRate n q (v % 2 ^ 32) = h := by
  have hv : v % 2 ^ 32 % 2 ^ 14 = v := by omega
  have hno : ¬ (1 ≤ v ∧ v ≤ 10000) := by omega
  simp only [Hw.setRate, hv, if_neg hno]

/-- A write of BUCKET clamps a count above it (R1035). -/
theorem setBucket_valid (hv : v ≤ 1048576) : h.setBucket n q (v % 2 ^ 32) =
    if (v : Int) < h.tokens n q then (h.put (R.NET_P_SHP_BUCKET_BUCKET n q) v).setTokens n q v
    else h.put (R.NET_P_SHP_BUCKET_BUCKET n q) v := by
  have hmod : v % 2 ^ 32 % 2 ^ 21 = v := by omega
  have hne : R.NET_P_SHP_CNT n q ≠ R.NET_P_SHP_BUCKET n q := by
    simp only [R.NET_P_SHP_CNT, R.NET_P_SHP_BUCKET]
    omega
  have ht : (h.put (R.NET_P_SHP_BUCKET_BUCKET n q) v).tokens n q = h.tokens n q :=
    tokens_of_rd _ n q (Hw.rd_put_ne h (R.NET_P_SHP_BUCKET_BUCKET n q) v hne)
  simp only [Hw.setBucket, hmod, if_neg (Nat.not_lt.mpr hv), ht]

end

/-- Settles O54: each queue's tick leaves the other queues' shapers, and each register write is its own rule. -/
theorem shapers : Obligations.Shapers := by
  refine ⟨fun s n q hu hn hq => ?_,
    fun s n q hn hq hd ht => exec_of_upd (exec_forgive n q s) ((regDo_shpCtl hn hq hd).trans (if_pos ht)),
    fun s n q hn hq hd ht => exec_of_upd (exec_forgive n q s)
      ((regDo_shpCtl hn hq hd).trans (if_neg (Int.not_lt.mpr ht))),
    fun s n q v hn hq hd hlo hhi => exec_of_upd (exec_netPnShpqRate n q v s)
      ((regDo_shpRate hn hq v hd).trans (setRate_valid _ n q hlo hhi)),
    fun s n q v hn hq hd hr hv => exec_of_upd (exec_netPnShpqRate n q v s)
      ((regDo_shpRate hn hq v hd).trans (setRate_reserved _ n q hr hv)),
    fun s n q v hn hq hd hv ht => exec_of_upd (exec_netPnShpqBucket n q v s)
      ((regDo_shpBucket hn hq v hd).trans ((setBucket_valid _ n q hv).trans (if_neg (Int.not_lt.mpr ht)))),
    fun s n q v hn hq hd hv ht => exec_of_upd (exec_netPnShpqBucket n q v s)
      ((regDo_shpBucket hn hq v hd).trans ((setBucket_valid _ n q hv).trans (if_pos ht)))⟩
  have hw := Hw.Writes.shaperTick s.hw
  refine ⟨_, exec_of_sys (exec_shaperTick s) hu rfl, tokens_shaperTick s.hw hn hq, hw.mem, hw.tiles, hw.net⟩

end Sys2Proof.Machine
end

section
/-!
SUPPORT. The display port, releases of graphics partitions and AUX transactions (R964, R985, R993-R995, R1002).
-/
namespace Sys2Proof.Machine

open Sys2Proof

/-! ### Graphics (R964, R985) -/

/-- A write of a register of the graphics and display blocks is made by its own rule (R25). -/
theorem regDo_gfx {h : Hw} {a v : Nat} {r : RegDef} (hr : regDef? a = some r) (hb : r.blk = .gfx ∨ r.blk = .dpy)
    (hd : h.blkDown r.blk a = false) (hm : mdataCore a = none) : h.regDo a v = h.writeGfx r a (v % 2 ^ 32) := by
  rw [Hw.regDo, regWrite_of_regDef h v 640 hr hd hm, Hw.regStore]
  rcases hb with hb | hb <;> rw [hb]

theorem regDo_gfxAutoClr {h : Hw} (v : Nat) (hd : h.blkDown .gfx R.GFX_AUTO_CLR = false) :
    h.regDo R.GFX_AUTO_CLR v = h.gfxAutoClr (v % 2 ^ 32) := by
  obtain ⟨r, hr, hb⟩ : ∃ r, regDef? R.GFX_AUTO_CLR = some r ∧ r.blk = .gfx := ⟨_, rfl, rfl⟩
  rw [regDo_gfx hr (.inl hb) (hb ▸ hd) (by decide), Hw.writeGfx, if_pos rfl]

theorem bitList_sixteen : ∀ n < 16, bitList 16 (2 ^ n % 2 ^ 32) = [n] := by decide

/-- A write of one bit clears VALID of that history. -/
theorem gfxAutoClr_one {n : Nat} (h : Hw) (hn : n < 16) :
    h.gfxAutoClr (2 ^ n % 2 ^ 32) = h.putB (R.GFX_AUTO_HIST_VALID n) false := by
  rw [Hw.gfxAutoClr, bitList_sixteen n hn, List.foldl_cons, List.foldl_nil]

/-- A bin job of the pass being drawn runs on partition `q`. -/
def Hw.gfxBusy (h : Hw) (q : Nat) : Bool :=
  match h.gfx.frame with
  | some f => (match f.pass with | some p => p.run.any (fun j => partOf j.tile == q) | none => false)
  | none => false

theorem gfxRelease_eq (h : Hw) (q : Nat) : h.gfxRelease q =
    if h.gfxBusy q || h.pstate q != pGRAPHICS || h.foldStat q != fFOLDING then h
    else { h with gfx := { h.gfx with released := NSet.add h.gfx.released q } } := rfl

theorem gfxBusy_eq_false {h : Hw} {q : Nat} (hj : ∀ f p, h.gfx.frame = some f → f.pass = some p →
    p.run.any (fun j => partOf j.tile == q) = false) : h.gfxBusy q = false := by
  rw [Hw.gfxBusy]
  split
  · next f hfr =>
    split
    · next p hp => exact hj f p hfr hp
    · rfl
  · rfl

/-- A folding graphics partition without a bin job is released (R985). -/
theorem gfxRelease_free {h : Hw} {q : Nat} (hj : h.gfxBusy q = false) (hs : h.pstate q = 3)
    (hf : h.foldStat q = fFOLDING) :
    h.gfxRelease q = { h with gfx := { h.gfx with released := NSet.add h.gfx.released q } } := by
  have hguard : (h.gfxBusy q || h.pstate q != pGRAPHICS || h.foldStat q != fFOLDING) = false := by
    rw [hj, hs, hf]
    rfl
  rw [gfxRelease_eq, hguard, if_neg Bool.false_ne_true]

/-! ### The display (R993-R995) -/

section
variable {h : Hw}

section
variable (ha : h.dpyState = dACTIVE)
include ha

theorem active_runs : (h.dpyState != dACTIVE) = false := bne_eq_false_iff_eq.mpr ha

theorem vblank_active : h.vblank = { h with dpy := { h.dpy with
    planes := h.dpy.next.foldl (fun m e => SMap.set (fun _ => DPlane.off) m e.1 e.2) h.dpy.planes, next := [] } } :=
  if_neg (by rw [active_runs ha]; exact Bool.false_ne_true)

theorem scanUnderflow_active (poisoned : Bool) : h.scanUnderflow poisoned =
    if poisoned then (h.raise R.DPY_FLAGS_UNDERFLOW 0).errAt eGRAPHICS 2 649 else h.raise R.DPY_FLAGS_UNDERFLOW 0 :=
  if_neg (by rw [active_runs ha]; exact Bool.false_ne_true)

end

section
variable (hp : h.get R.DPY_STAT_HPD = 1)
include hp

theorem hpdUnplug_plugged :
    h.hpdUnplug = ((h.put R.DPY_STAT_HPD 0).dpySet dNO_SINK 0 (h.get R.DPY_STAT_RATE)).dpyChange false :=
  if_neg (by rw [hp]; exact Nat.one_ne_zero)

theorem irqHpd_kept (trained : Bool) : h.irqHpd false trained = h.raiseAt R.DPY_FLAGS_HPD_IRQ 0 16 :=
  if_neg (by rw [hp]; exact Nat.one_ne_zero)

/-- A lost link trains again, to ACTIVE or to TRAIN_FAIL (R995). -/
theorem irqHpd_lost (ha : h.dpyState = dACTIVE) (trained : Bool) : h.irqHpd true trained =
    if trained then (h.raiseAt R.DPY_FLAGS_HPD_IRQ 0 16).dpySet dACTIVE h.dpy.lanes h.dpy.rate
    else (h.raiseAt R.DPY_FLAGS_HPD_IRQ 0 16).dpySet dTRAIN_FAIL 0 h.dpy.rate := by
  have hstat : (h.raiseAt R.DPY_FLAGS_HPD_IRQ 0 16).rd R.DPY_STAT = h.rd R.DPY_STAT := by
    rw [Hw.raiseAt]
    split
    · exact Hw.rd_wr_ne h _ (by decide)
    · exact Hw.rd_wr_ne h _ (by decide)
  have hact : (h.raiseAt R.DPY_FLAGS_HPD_IRQ 0 16).dpyState = dACTIVE :=
    (get_of_rd (f := R.DPY_STAT_STATE) hstat).trans ha
  simp only [Hw.irqHpd, hp, if_neg Nat.one_ne_zero, hact, Bool.not_true, bne_self_eq_false, Bool.or_self,
    Bool.false_eq_true, if_false, Hw.raiseAt_dpy]

end

theorem hpdPlug_unplugged (hp : h.get R.DPY_STAT_HPD = 0) :
    h.hpdPlug = ((h.put R.DPY_STAT_HPD 1).put R.DPY_STAT_STATE dOFF).dpyChange true :=
  if_neg (by rw [hp]; exact Nat.zero_ne_one)

/-! ### AUX transactions (R1002) -/

theorem setBit_high_mod (v : Nat) : setBit v 31 true % 2 ^ 27 = v % 2 ^ 27 := by
  simp only [setBit, setBits, bits, Nat.shiftRight_eq_div_pow, Nat.shiftLeft_eq, if_true]
  omega

/-- A write with GO set starts a transaction where none runs. -/
theorem regDo_dpyAux {v : Nat} (hv : v < 2 ^ 32) (hd : h.blkDown .dpy R.DPY_AUX_CTL = false)
    (hgo : bit (h.rd R.DPY_AUX_CTL) 31 = false) :
    h.regDo R.DPY_AUX_CTL (setBit v 31 true) = h.wr R.DPY_AUX_CTL (v % 2 ^ 27 + 2 ^ 31) := by
  obtain ⟨r, hr, hb⟩ : ∃ r, regDef? R.DPY_AUX_CTL = some r ∧ r.blk = .dpy := ⟨_, rfl, rfl⟩
  have hlt : setBit v 31 true % 2 ^ 32 = setBit v 31 true :=
    Nat.mod_eq_of_lt (setBits_lt _ _ _ _ 32 (by decide) (by decide) hv)
  have hset : bit (setBit v 31 true) 31 = true := by rw [bit_setBit, if_pos rfl]
  have hnot : R.DPY_AUX_CTL ≠ R.GFX_AUTO_CLR ∧ ¬ (R.DPY_AUX_CTL = R.GFX_BINMEM_BASE_LO ∨
    R.DPY_AUX_CTL = R.GFX_BINMEM_BASE_HI) := by decide
  rw [regDo_gfx hr (.inr hb) (hb ▸ hd) (by decide), hlt, Hw.writeGfx, if_neg hnot.1, if_neg hnot.2,
    if_pos ⟨rfl, hset⟩, Hw.auxGo, hgo, hset, setBit_high_mod]
  rfl

/-- A transaction that brings no data ends with its reply. -/
theorem auxDone_reply {reply : Nat} (data : List Byte) (hgo : bit (h.rd R.DPY_AUX_CTL) 31 = true)
    (hn : reply % 4 ≠ 0 ∨ bit (h.rd R.DPY_AUX_CTL) 26 = true) : h.auxDone reply data =
      (h.wr R.DPY_AUX_CTL (h.rd R.DPY_AUX_CTL % 2 ^ 31)).put R.DPY_AUX_STAT_REPLY (reply % 4) := by
  have hno : ¬ (reply % 4 = 0 ∧ ¬ bit (h.rd R.DPY_AUX_CTL) 26 = true) := fun ⟨h0, hw⟩ => hn.elim (· h0) hw
  simp only [Hw.auxDone, hgo, Bool.not_true, Bool.false_eq_true, if_false, if_neg hno]

end

/-- Settles O52, a lemma per row and outcome. -/
theorem displayEvents : Obligations.DisplayEvents :=
  ⟨fun s n hn hd => exec_of_upd (exec_gfxAutoClr (2 ^ n) s) ((regDo_gfxAutoClr _ hd).trans (gfxAutoClr_one _ hn)),
    fun s q hu hj hs hf => exec_of_core (exec_gfxRelease q s) hu (gfxRelease_free (gfxBusy_eq_false hj) hs hf),
    fun s hu ha => exec_of_sys (exec_vblank s) hu (vblank_active ha),
    fun s hu ha => exec_of_sys (exec_scanoutUnderflow false s) hu (scanUnderflow_active ha false),
    fun s hu ha => exec_of_sys (exec_scanoutUnderflow true s) hu (scanUnderflow_active ha true),
    fun s hz hu hp => exec_of_sysPins (exec_hpdUnplug s) hz hu (hpdUnplug_plugged hp),
    fun s hz hu hp => exec_of_sysPins (exec_hpdPlug s) hz hu (hpdPlug_unplugged hp),
    fun s lost trained hz hu hp hl => exec_of_sysPins (exec_irqHpd lost trained s) hz hu (hl ▸ irqHpd_kept hp trained),
    fun s hz hu hp ha => exec_of_sysPins (exec_irqHpd true false s) hz hu (irqHpd_lost hp ha false),
    fun s v hv hd hgo => exec_of_upd (exec_dpyAuxGo v s) (regDo_dpyAux hv hd hgo),
    fun s reply data hu hgo hn => exec_of_sys (exec_dpyAuxDone reply data s) hu (auxDone_reply data hgo hn),
    fun s hz hu hp ha => exec_of_sysPins (exec_irqHpd true true s) hz hu (irqHpd_lost hp ha true)⟩

end Sys2Proof.Machine
end

section
/-!
SUPPORT. The error collector's choice, the thermal cap, the sensors' readings and the rails (R1159, R1202, R1222-R1227).
-/
namespace Sys2Proof.Machine

open Sys2Proof

/-! ### Reports (R1159, R1240) -/

section
variable {h : Hw} (hu : h.busDown = false)
include hu

theorem errorReport_none (hn : nextReport h.err = none) : h.errorReport = h.drainLog := by
  simp only [Hw.errorReport, hu, Bool.false_eq_true, if_false, hn]

theorem errorReport_some {r : Report} (hn : nextReport h.err = some r) : h.errorReport =
    if r.fatal then ((h.takeReport r).collectFatal r).fatalAct r else (h.takeReport r).collectNonFatal r := by
  simp only [Hw.errorReport, hu, Bool.false_eq_true, if_false, hn]

end

/-! ### The thermal cap (R1224) -/

section
variable {h : Hw} (hr : h.thermalRuns = true)
include hr

theorem capInterval_eq : h.capInterval =
    if (h.get R.THM_CAP_CFG_T_ON : Int) * 16 ≤ h.temp R.THM_TMAX_TEMP ∧
        h.get R.THM_CAP_CFG_FLOOR < h.get R.THM_CAP_STAT_CAP then h.setCap' (h.get R.THM_CAP_STAT_CAP - 1)
    else if h.temp R.THM_TMAX_TEMP < (h.get R.THM_CAP_CFG_T_OFF : Int) * 16 ∧ h.get R.THM_CAP_STAT_CAP < 28 then
      h.setCap' (h.get R.THM_CAP_STAT_CAP + 1)
    else h := by
  simp only [Hw.capInterval, hr, Bool.not_true, Bool.false_eq_true, if_false]

theorem capInterval_stays
    (hon : h.temp R.THM_TMAX_TEMP < (h.get R.THM_CAP_CFG_T_ON : Int) * 16 ∨
      h.get R.THM_CAP_STAT_CAP ≤ h.get R.THM_CAP_CFG_FLOOR)
    (hoff : (h.get R.THM_CAP_CFG_T_OFF : Int) * 16 ≤ h.temp R.THM_TMAX_TEMP ∨ 28 ≤ h.get R.THM_CAP_STAT_CAP) :
    h.capInterval = h := by
  rw [capInterval_eq hr, if_neg (by omega), if_neg (by omega)]

theorem capInterval_falls (hon : (h.get R.THM_CAP_CFG_T_ON : Int) * 16 ≤ h.temp R.THM_TMAX_TEMP)
    (hfl : h.get R.THM_CAP_CFG_FLOOR < h.get R.THM_CAP_STAT_CAP) :
    h.capInterval = h.setCap' (h.get R.THM_CAP_STAT_CAP - 1) := by
  rw [capInterval_eq hr, if_pos ⟨hon, hfl⟩]

theorem capInterval_rises (hon : h.temp R.THM_TMAX_TEMP < (h.get R.THM_CAP_CFG_T_ON : Int) * 16)
    (hoff : h.temp R.THM_TMAX_TEMP < (h.get R.THM_CAP_CFG_T_OFF : Int) * 16) (hcap : h.get R.THM_CAP_STAT_CAP < 28) :
    h.capInterval = h.setCap' (h.get R.THM_CAP_STAT_CAP + 1) := by
  rw [capInterval_eq hr, if_neg (by omega), if_pos ⟨hoff, hcap⟩]

end

/-! ### Events of mailbox 16 -/

/-- An event of mailbox 16 writes registers of the mailboxes and PCIE_FLAGS alone. -/
theorem rd_postEvent (h : Hw) (code result : Nat) {a : Nat} (ha : 0x400B0000 ≤ a) :
    (h.postEvent 16 code result).rd a = h.rd a := by
  have htail : a ≠ R.MBX_CPL_TAIL 16 := by
    rw [R.MBX_CPL_TAIL]
    omega
  have herr : a ≠ R.MBX_ERR 16 := by
    rw [R.MBX_ERR]
    omega
  have hflags : a ≠ R.PCIE_FLAGS := by
    rw [R.PCIE_FLAGS]
    omega
  simp only [Hw.postEvent, Hw.postEventSt]
  split
  · rw [postEntry_stages _ _ _ (by decide), (Hw.Signals.mbxCounted _ _ _).rd a hflags, Hw.entryStands,
      Hw.rd_put_ne _ (R.MBX_CPL_TAIL_TAIL 16) _ htail]
    exact Hw.rd_congr (Hw.kittyW_regs ..) a
  · split
    · exact rd_raise_ne h (R.MBX_ERR_EVT_LOST 16) 0 herr
    · rfl

/-! ### What a sample's warnings leave (R1225-R1227) -/

/-- A register that shows a sensor's reading. -/
abbrev IsReading (a : Nat) : Prop := 0x400D0800 ≤ a ∧ a < 0x400D0848

/-- `g` comes from `h` by warnings: reports, flags, events and the cap. The tiles, the HBM and the readings stand. -/
structure Hw.Warns (h g : Hw) : Prop where
  tiles : g.tiles = h.tiles
  hbm : g.mem.hbm = h.mem.hbm
  rd : ∀ a, IsReading a → g.rd a = h.rd a

namespace Hw.Warns

theorem refl (h : Hw) : h.Warns h := ⟨rfl, rfl, fun _ _ => rfl⟩

theorem trans {h g k : Hw} (p : h.Warns g) (q : g.Warns k) : h.Warns k :=
  ⟨q.tiles.trans p.tiles, q.hbm.trans p.hbm, fun a ha => (q.rd a ha).trans (p.rd a ha)⟩

theorem put (h : Hw) (f : Fld) (v : Nat) (hf : ¬ IsReading f.addr) : h.Warns (h.put f v) :=
  ⟨rfl, rfl, fun _ ha => Hw.rd_put_ne h f v (fun e => hf (e ▸ ha))⟩

theorem raise (h : Hw) (f : Fld) (k : Nat) (hf : ¬ IsReading f.addr) : h.Warns (h.raise f k) :=
  ⟨Hw.raise_tiles .., congrArg Mems.hbm (Hw.raise_mem ..), fun _ ha => rd_raise_ne h f k (fun e => hf (e ▸ ha))⟩

/-- What changes the collector's state alone. -/
theorem err (h : Hw) (e : ErrState) : h.Warns { h with err := e } := ⟨rfl, rfl, fun _ _ => rfl⟩

theorem errAt (h : Hw) (cls code node : Nat) : h.Warns (h.errAt cls code node) :=
  errAt_frame h cls code node ▸ err h _

theorem setCap' (h : Hw) (c : Nat) : h.Warns (h.setCap' c) :=
  (put h R.THM_CAP_STAT_CAP c (by decide)).trans (put _ R.THM_CAP_STAT_ACTIVE _ (by decide))

theorem postEvent (h : Hw) (code result : Nat) : h.Warns (h.postEvent 16 code result) :=
  have hp := Hw.Posts.postEvent h 16 code result
  ⟨hp.tiles, hp.mem_hbm, fun _ ⟨hlo, _⟩ => rd_postEvent h code result (Nat.le_trans (by decide) hlo)⟩

theorem critical (h : Hw) (t : Int) : h.Warns (h.critical t) := by
  simp only [Hw.critical]
  split
  · split
    · exact refl h
    · exact ((errAt h _ _ _).trans (err _ _)).trans (setCap' _ 0)
  · exact err h _

theorem alarm (h : Hw) (b : Nat) (t : Int) (lim : Nat) : h.Warns (h.alarm b t lim) := by
  simp only [Hw.alarm]
  generalize (decide ((lim : Int) * 16 ≤ t) || NSet.has h.err.alarm b && decide ((lim : Int) * 16 - 32 ≤ t)) = on
  have hon := err h { h.err with alarm := NSet.put h.err.alarm b on }
  split
  · exact hon
  · have hset := hon.trans (raise _ R.ERR_ALERT_ALERT b (by decide))
    split
    · exact hset
    · exact (hset.trans (errAt ..)).trans (postEvent ..)

end Hw.Warns

/-! ### The readings (R1223) -/

/-- The 18 readings are shown. -/
def Hw.readingsShown (h : Hw) (rs : List Nat) : Hw :=
  ((List.range 18).zip rs).foldl (fun (h : Hw) e => h.put (R.THM_TEMP_TEMP e.1) e.2) h

/-- What a sample does once its readings are shown. -/
def Hw.sampleJudged (h : Hw) (rs : List Nat) : Hw :=
  let h := match thmMax rs with
    | some (v, s) => (h.put R.THM_TMAX_TEMP v).put R.THM_TMAX_SENSOR s
    | none => h
  let t := h.temp R.THM_TMAX_TEMP
  let h := (h.critical t).alarm 0 t (h.get R.THM_ALARM_DIE)
  [0, 1].foldl (fun (h : Hw) s => h.alarm (1 + s) (h.temp (R.MEM_TEMP_TEMP s)) (h.get R.THM_ALARM_HBM)) h

theorem thermalSample_eq (h : Hw) (l : List Nat) : h.thermalSample l =
    if !h.thermalRuns || l.length != 18 then h
    else (h.readingsShown (l.map thmReading)).sampleJudged (l.map thmReading) := rfl

theorem sampleJudged_warns (h : Hw) (rs : List Nat) : h.Warns (h.sampleJudged rs) := by
  have hmax : h.Warns (match thmMax rs with
      | some (v, s) => (h.put R.THM_TMAX_TEMP v).put R.THM_TMAX_SENSOR s
      | none => h) := by
    split
    · exact (Hw.Warns.put h R.THM_TMAX_TEMP _ (by decide)).trans (.put _ R.THM_TMAX_SENSOR _ (by decide))
    · exact .refl h
  exact ((hmax.trans (.critical ..)).trans (.alarm ..)).trans
    (foldl_steps Hw.Warns.refl Hw.Warns.trans _ (fun h _ _ => .alarm h _ _ _) _)

theorem Hw.Writes.readingsShown (h : Hw) (rs : List Nat) : h.Writes (h.readingsShown rs) :=
  foldl_steps Writes.refl Writes.trans _ (fun h _ _ => Writes.put h _ _) h

theorem listAt_eq_getD {α : Type} (d : α) (l : List α) (n : Nat) : listAt d l n = l.getD n d := by
  induction l generalizing n with
  | nil => rfl
  | cons x l ih =>
    cases n with
    | zero => rfl
    | succ n => rw [listAt, ih, List.getD_cons_succ]

/-- A number of a list with its place is the number at that place. -/
theorem listAt_of_mem_zip {rs : List Nat} {e : Nat × Nat} (he : e ∈ (List.range 18).zip rs) : listAt 0 rs e.1 = e.2 := by
  obtain ⟨i, hi⟩ := List.mem_iff_getElem?.mp he
  obtain ⟨hn, hv⟩ := List.getElem?_zip_eq_some.mp hi
  have hplace : e.1 = i := (List.getElem?_eq_some_iff.mp hn).2.symm.trans (List.getElem_range ..)
  rw [listAt_eq_getD, hplace, List.getD_eq_getElem?_getD, hv, Option.getD_some]

/-- Each place of a list of 18 is among the numbers with their places. -/
theorem mem_zip_listAt {rs : List Nat} {n : Nat} (hl : rs.length = 18) (hn : n < 18) :
    (n, listAt 0 rs n) ∈ (List.range 18).zip rs := by
  refine List.mem_iff_getElem?.mpr ⟨n, List.getElem?_zip_eq_some.mpr ⟨List.getElem?_range hn, ?_⟩⟩
  rw [listAt_eq_getD, List.getD_eq_getElem?_getD, List.getElem?_eq_getElem (hl ▸ hn), Option.getD_some]

theorem get_readingsShown (h : Hw) {rs : List Nat} {n : Nat} (hl : rs.length = 18) (hn : n < 18) :
    (h.readingsShown rs).get (R.THM_TEMP_TEMP n) = listAt 0 rs n % 2 ^ 16 := by
  have hself : ∀ (g : Hw) (n v : Nat), (g.put (R.THM_TEMP_TEMP n) v).get (R.THM_TEMP_TEMP n) = v % 2 ^ 16 := fun g n v =>
    Hw.get_put_self g (R.THM_TEMP_TEMP n) v (Nat.zero_le 15) (show 15 < 32 by decide)
  refine foldl_establishes (P := fun (e : Nat × Nat) (g : Hw) => g.get (R.THM_TEMP_TEMP e.1) = e.2 % 2 ^ 16)
    (fun g e _ => hself g e.1 e.2) (fun g x hx y hy hP => ?_) h (n, listAt 0 rs n) (mem_zip_listAt hl hn)
  by_cases hxy : x.1 = y.1
  · have hval : x.2 = y.2 := by rw [← listAt_of_mem_zip hx, ← listAt_of_mem_zip hy, hxy]
    rw [hxy, hval]
    exact hself g y.1 y.2
  · have haddr : R.THM_TEMP x.1 ≠ R.THM_TEMP y.1 := by
      simp only [R.THM_TEMP]
      omega
    exact (get_of_rd (f := R.THM_TEMP_TEMP x.1) (Hw.rd_put_ne g (R.THM_TEMP_TEMP y.1) y.2 haddr)).trans hP

theorem thmReading_lt (v : Nat) : thmReading v < 2 ^ 16 := by
  rw [thmReading]
  split <;> omega

/-- What a whole sample shows and leaves. -/
theorem thermalSample_shows {h : Hw} {l : List Nat} {n : Nat} (hr : h.thermalRuns = true) (hl : l.length = 18)
    (hn : n < 18) : (h.thermalSample l).get (R.THM_TEMP_TEMP n) = thmReading (listAt 0 l n) ∧
      (h.thermalSample l).tiles = h.tiles ∧ (h.thermalSample l).mem.hbm = h.mem.hbm := by
  have hrun : (!h.thermalRuns || l.length != 18) = false := by
    rw [hr, hl]
    rfl
  have hlen : (l.map thmReading).length = 18 := (List.length_map ..).trans hl
  have hplace : listAt 0 (l.map thmReading) n = thmReading (listAt 0 l n) := by
    have hln : n < l.length := hl ▸ hn
    simp only [listAt_eq_getD, List.getD_eq_getElem?_getD, List.getElem?_map, List.getElem?_eq_getElem hln,
      Option.map_some, Option.getD_some]
  have hshow := Hw.Writes.readingsShown h (l.map thmReading)
  have hjudge := sampleJudged_warns (h.readingsShown (l.map thmReading)) (l.map thmReading)
  have haddr : IsReading (R.THM_TEMP n) := by
    simp only [IsReading, R.THM_TEMP]
    omega
  rw [thermalSample_eq, hrun, if_neg Bool.false_ne_true]
  refine ⟨(get_of_rd (f := R.THM_TEMP_TEMP n) (hjudge.rd _ haddr)).trans ?_, hjudge.tiles.trans hshow.tiles,
    hjudge.hbm.trans (congrArg Mems.hbm hshow.mem)⟩
  rw [get_readingsShown h hlen hn, hplace, Nat.mod_eq_of_lt (thmReading_lt _)]

theorem thermalSample_still {h : Hw} {l : List Nat} (hs : l.length ≠ 18 ∨ h.thermalRuns = false) :
    h.thermalSample l = h := by
  refine if_pos ?_
  rcases hs with hl | hr
  · rw [bne_iff_ne.mpr hl, Bool.or_true]
  · rw [hr]
    rfl

/-- Settles O60, a lemma per outcome; a sample's warnings leave the readings it has shown. -/
theorem errorsAndHeat : Obligations.ErrorsAndHeat :=
  ⟨fun s r hu hn hf => exec_of_upd (exec_errorReport s) ((errorReport_some hu hn).trans (by rw [hf]; rfl)),
    fun s r hu hn hf => exec_of_upd (exec_errorReport s) ((errorReport_some hu hn).trans (if_pos hf)),
    fun s hu hn => exec_of_upd (exec_errorReport s) (errorReport_none hu hn),
    fun s hr hon hoff => exec_of_upd (exec_thermalCapInterval s) (capInterval_stays hr hon hoff),
    fun s hr hon hfl => exec_of_upd (exec_thermalCapInterval s) (capInterval_falls hr hon hfl),
    fun s hr hon hoff hcap => exec_of_upd (exec_thermalCapInterval s) (capInterval_rises hr hon hoff hcap),
    fun s l hs => exec_of_upd (exec_thermalSample l s) (thermalSample_still hs),
    fun s l _ hr hl hn => ⟨_, exec_of_upd (exec_thermalSample l s) rfl, thermalSample_shows hr hl hn⟩,
    fun s r good hr => exec_of_upd (exec_railChange r good s) (if_pos hr)⟩

end Sys2Proof.Machine
end

section
/-!
SUPPORT. Table time (R1115-R1118): the exchange of TIME frames, offset samples and the alarm.
-/
namespace Sys2Proof.Machine

open Sys2Proof

/-! ### TIME frames (R1115) -/

/-- A TIME frame goes out on link `k`, where it is up and has room. -/
def Hw.timeSent (h : Hw) (k : Nat) : Hw :=
  if h.linkIsUp k && decide ((h.link k).held.length < 64) then h.setLink k ((h.link k).push ftTIME []) else h

theorem timeExchange_eq (h : Hw) : h.timeExchange = (List.range 4).foldl Hw.timeSent h := rfl

theorem link_setLink_self (h : Hw) (k : Nat) (l : LinkState) : (h.setLink k l).link k = l := SMap.get_set_self ..

theorem link_setLink_ne (h : Hw) {k j : Nat} (l : LinkState) (hj : j ≠ k) : (h.setLink k l).link j = h.link j :=
  SMap.get_set_ne _ _ _ hj

theorem regs_timeSent (h : Hw) (k : Nat) : (h.timeSent k).regs = h.regs := by
  rw [Hw.timeSent]
  split <;> rfl

theorem link_timeSent_ne (h : Hw) {k j : Nat} (hj : j ≠ k) : (h.timeSent k).link j = h.link j := by
  rw [Hw.timeSent]
  split
  · exact link_setLink_ne h _ hj
  · rfl

/-- Each up link with room sends one TIME frame: the other links' frames leave the registers and its port. -/
theorem link_timeExchange {h : Hw} {k : Nat} (hk : k < 4) (hu : h.linkIsUp k = true) (hr : (h.link k).held.length < 64) :
    h.timeExchange.link k = (h.link k).push ftTIME [] := by
  have hview : (h.timeExchange.regs, h.timeExchange.link k) = (h.regs, (h.link k).push ftTIME []) := by
    refine foldl_at (fun g : Hw => (g.regs, g.link k)) (f := Hw.timeSent) (List.mem_range.mpr hk) List.nodup_range h
      (fun g hg => ?_) (fun g j _ hj => ?_)
    · obtain ⟨hregs, hlink⟩ := Prod.mk.inj hg
      have hgu : g.linkIsUp k = true := by rw [Hw.linkIsUp, Hw.get_congr hregs, ← Hw.linkIsUp, hu]
      rw [regs_timeSent, hregs, Hw.timeSent, hgu, hlink, decide_eq_true hr, Bool.and_self, if_pos rfl, link_setLink_self]
    · rw [regs_timeSent, link_timeSent_ne g hj.symm]
  exact (Prod.mk.inj hview).2

/-- The exchange changes the links' ports alone. -/
theorem timeExchange_frame (h : Hw) : h.timeExchange.regs = h.regs ∧ h.timeExchange.mem = h.mem ∧
    h.timeExchange.tiles = h.tiles := by
  have hview := foldl_keeps (fun g : Hw => (g.regs, g.mem, g.tiles)) (f := Hw.timeSent) (List.range 4) (fun g k _ => by
    rw [Hw.timeSent]
    split <;> rfl) h
  obtain ⟨hregs, hrest⟩ := Prod.mk.inj hview
  exact ⟨hregs, Prod.mk.inj hrest⟩

/-! ### Offset samples (R1115, R1116, R1118) -/

/-- A write of TBL_TIME_OFS reaches the servo's input. -/
theorem regDo_timeOfs {h : Hw} {v : Nat} (hv : v < 2 ^ 32) (hd : h.blkDown .tbl R.TBL_TIME_OFS = false) :
    h.regDo R.TBL_TIME_OFS v = h.timeOfs v := by
  obtain ⟨r, hr, hb⟩ : ∃ r, regDef? R.TBL_TIME_OFS = some r ∧ r.blk = .tbl := ⟨_, rfl, rfl⟩
  rw [Hw.regDo, regWrite_of_regDef h v 640 hr (hb ▸ hd) (by decide), Hw.regStore, hb]
  simp only [Hw.writeTbl, if_true, Nat.mod_eq_of_lt hv]

theorem timeOfs_master {h : Hw} (hm : h.isMaster = true) (v : Nat) : h.timeOfs v = h.servo (sext 32 v) := if_pos hm

theorem timeOfs_other {h : Hw} (hm : h.isMaster = false) (v : Nat) : h.timeOfs v = h :=
  if_neg (by rw [hm]; exact Bool.false_ne_true)

/-- The registers that show an offset sample. -/
def Hw.offsetShown (h : Hw) (off : Int) : Hw :=
  let h := h.wr R.TBL_TIME_ERR (wrapI 32 off)
  let tol := 16 * h.get R.TBL_TIME_TOL_NS
  if tol < off.natAbs then
    (if h.is R.TBL_STAT_TIME_BAD then h else h.putB R.TBL_STAT_TIME_BAD true).dis dTIME_TOL
  else if 2 * off.natAbs < tol then h.putB R.TBL_STAT_TIME_BAD false else h

theorem servo_eq (h : Hw) (off : Int) : h.servo off =
    let g := h.offsetShown off
    if 16000 < off.natAbs then g.timeStep (-off)
    else g.onTbl (fun t => { t with
      servoI := clampPpm (g.tbl.servoI - off), rate := clampPpm (clampPpm (g.tbl.servoI - off) - 16 * off) }) := rfl

/-- Showing a sample writes registers alone. -/
theorem Hw.Writes.offsetShown (h : Hw) (off : Int) : h.Writes (h.offsetShown off) := by
  have herr := Writes.wr h R.TBL_TIME_ERR (wrapI 32 off)
  simp only [Hw.offsetShown, Hw.dis]
  split
  · refine herr.trans (Writes.trans ?_ (raise_writes ..))
    split
    · exact .refl _
    · exact .putB ..
  · split
    · exact herr.trans (.putB ..)
    · exact herr

theorem offsetShown_frame (h : Hw) (off : Int) : (h.offsetShown off).clk = h.clk ∧ (h.offsetShown off).tbl = h.tbl := by
  have hw := Hw.Writes.offsetShown h off
  exact ⟨(congrArg Hw.clk hw.frame :), (congrArg Hw.tbl hw.frame :)⟩

/-- A sample beyond 1 µs steps table time back. -/
theorem servo_steps (h : Hw) {off : Int} (hoff : 16000 < off.natAbs) :
    (h.servo off).clk.tt = wrapI 64 ((h.clk.tt : Int) - off) ∧ (h.servo off).clk.fwd = (h.servo off).clk.tt ∧
      (h.servo off).tbl = h.tbl := by
  obtain ⟨hclk, htbl⟩ := offsetShown_frame h off
  rw [servo_eq]
  simp only [if_pos hoff, Hw.timeStep, hclk, htbl, and_self, and_true]
  rw [Int.sub_eq_add_neg]

/-- A smaller sample moves the rate. -/
theorem servo_rates (h : Hw) {off : Int} (hoff : off.natAbs ≤ 16000) : (h.servo off).clk.tt = h.clk.tt ∧
    (h.servo off).tbl.servoI = clampPpm (h.tbl.servoI - off) ∧
      (h.servo off).tbl.rate = clampPpm (clampPpm (h.tbl.servoI - off) - 16 * off) := by
  obtain ⟨hclk, htbl⟩ := offsetShown_frame h off
  rw [servo_eq]
  simp only [if_neg (Nat.not_lt.mpr hoff), Hw.onTbl, hclk, htbl, and_self]

/-! ### The alarm (R1117) -/

/-- Captures that take a trigger leave the registers above the sensor block. -/
theorem rd_capTrig (h : Hw) {s a : Nat} (hs : s < 40) (ha : 0x40070000 ≤ a) : (h.capTrig s).rd a = h.rd a := by
  have hstat : a ≠ R.SNS_CAP_STAT s := by
    rw [R.SNS_CAP_STAT]
    omega
  have hcnt : a ≠ R.SNS_CAP_CNT s := by
    rw [R.SNS_CAP_CNT]
    omega
  unfold Hw.capTrig
  split
  · rfl
  · split
    · exact Hw.rd_put_ne _ (R.SNS_CAP_STAT_RUN s) _ hstat
    · split
      · split
        · exact Hw.rd_put_ne _ (R.SNS_CAP_CNT_OVR s) _ hcnt
        · exact Hw.rd_put_ne _ (R.SNS_CAP_STAT_PEND s) _ hstat
      · rfl
      · exact Hw.rd_put_ne _ (R.SNS_CAP_CNT_IGN s) _ hcnt

theorem rd_snsTrig (h : Hw) (mask : Nat) {a : Nat} (ha : 0x40070000 ≤ a) : (h.snsTrig mask).rd a = h.rd a := by
  rw [Hw.snsTrig]
  split
  · refine foldl_keeps (fun g : Hw => g.rd a) _ (fun g s hs => ?_) h
    have hlt : s < 40 := List.mem_range.mp (List.mem_filter.mp hs).1
    split
    · exact rd_capTrig g hlt ha
    · rfl
  · rfl

section
variable {h : Hw}

theorem tblAlarm_waits
    (hw : h.is R.TBL_ALARM_CTL_ARM = false ∨ h.clk.tt < h.rd64 R.TBL_ALARM_LO R.TBL_ALARM_HI) : h.tblAlarm = h := by
  refine if_pos ?_
  rcases hw with ha | ht
  · rw [ha]
    rfl
  · rw [decide_eq_true ht, Bool.or_true]

variable (ha : h.is R.TBL_ALARM_CTL_ARM = true) (ht : h.rd64 R.TBL_ALARM_LO R.TBL_ALARM_HI ≤ h.clk.tt)
include ha ht

/-- An armed alarm whose time has come is disarmed; while time is bad it is skipped, else it triggers. -/
theorem tblAlarm_comes : h.tblAlarm =
    let g := h.putB R.TBL_ALARM_CTL_ARM false
    let g' := g.snsTrig (g.rd R.TBL_ALARM_SNS + g.get R.TBL_ALARM_CTL_SRC_HI * 2 ^ 32)
    if h.is R.TBL_STAT_TIME_BAD then g.dis dALARM_SKIP else g'.sigSoft (g'.get R.TBL_ALARM_CTL_CORES) := by
  have hguard : (!h.is R.TBL_ALARM_CTL_ARM || decide (h.clk.tt < h.rd64 R.TBL_ALARM_LO R.TBL_ALARM_HI)) = false := by
    rw [ha, decide_eq_false (Nat.not_lt.mpr ht)]
    rfl
  have hbad : (h.putB R.TBL_ALARM_CTL_ARM false).is R.TBL_STAT_TIME_BAD = h.is R.TBL_STAT_TIME_BAD :=
    is_of_rd (f := R.TBL_STAT_TIME_BAD) (Hw.rd_put_ne h R.TBL_ALARM_CTL_ARM _ (by decide))
  have hcores : ∀ (g : Hw) (mask : Nat), (g.snsTrig mask).get R.TBL_ALARM_CTL_CORES = g.get R.TBL_ALARM_CTL_CORES :=
    fun g mask => get_of_rd (f := R.TBL_ALARM_CTL_CORES) (rd_snsTrig g mask (by decide))
  simp only [Hw.tblAlarm, hguard, Bool.false_eq_true, if_false, hbad, hcores]

end

/-- Settles O59: a lemma per row, the exchange by its step on one link. -/
theorem tableTime : Obligations.TableTime :=
  ⟨fun s _ hu hk hup hr => ⟨_, exec_of_sys (exec_timeExchange s) hu rfl, link_timeExchange hk hup hr,
      timeExchange_frame s.hw⟩,
    fun s v hv hd hm => exec_of_upd (exec_tblTimeOfs v s) ((regDo_timeOfs hv hd).trans (timeOfs_master hm v)),
    fun s v hv hd hm => exec_of_upd (exec_tblTimeOfs v s) ((regDo_timeOfs hv hd).trans (timeOfs_other hm v)),
    fun s hu ha ht hb => ⟨_, exec_of_sys (exec_tblAlarm s) hu rfl, _, rfl, (tblAlarm_comes ha ht).trans
      (if_neg (by rw [hb]; exact Bool.false_ne_true))⟩,
    fun s hu hw => exec_of_sys (exec_tblAlarm s) hu (tblAlarm_waits hw),
    fun s hu ha ht hb => exec_of_sys (exec_tblAlarm s) hu ((tblAlarm_comes ha ht).trans (if_pos hb)),
    fun s v hv hd hm ho => ⟨_, exec_of_upd (exec_tblTimeOfs v s) ((regDo_timeOfs hv hd).trans (timeOfs_master hm v)),
      servo_steps s.hw ho⟩,
    fun s v hv hd hm ho => ⟨_, exec_of_upd (exec_tblTimeOfs v s) ((regDo_timeOfs hv hd).trans (timeOfs_master hm v)),
      servo_rates s.hw ho⟩⟩

end Sys2Proof.Machine
end

section
/-!
SUPPORT. Commands of the table unit (R1129, R1143-R1145): status, spares, sleep and table time.
-/
namespace Sys2Proof.Machine

open Sys2Proof

section
variable {h : Hw} {m k : Nat} {f : InFlight}

theorem whenReleased_released (hr : h.is R.CFG_STAT_RELEASED = true) (x : Hw) : h.whenReleased m k x = x := if_pos hr

/-- TBL_STATUS without a re-deal, a cut, a late seat or an isolated one (R1143). -/
theorem tblStatus_plain (hf : h.cmdFor m k 0x0600 = some f) (high : Bool) (hd : h.tbl.redeal = none)
    (hx : h.xstate < 5) : h.tblStatus m k high = h.complete m k 0 0 (h.get R.TBL_STAT_PRESENT +
      2 ^ 9 * h.get R.TBL_STAT_QUEUED + 2 ^ 10 * h.get R.TBL_STAT_TIME_BAD + 2 ^ 11 * b2n (!high) +
      2 ^ 32 * h.get R.TBL_EPOCH_EPOCH) := by
  have hcut : (h.xstate == xCUT) = false := beq_eq_false_iff_ne.mpr (by rw [xCUT]; omega)
  have hlate : (h.xstate == xLATE) = false := beq_eq_false_iff_ne.mpr (by rw [xLATE]; omega)
  have hiso : (h.xstate == xISOLATED) = false := beq_eq_false_iff_ne.mpr (by rw [xISOLATED]; omega)
  rw [Hw.tblStatus, onCmd_found hf, hd, hcut, hlate, hiso]
  rfl

section
variable (hr : h.is R.CFG_STAT_RELEASED = true)
include hr

/-- TBL_SPARE of partitions that are all OFF, where the dummy slots fit (R1140, R1144). -/
theorem tblSpare_off (hf : h.cmdFor m k 0x0601 = some f) (hd : h.tbl.redeal = none)
    (hfuse : (bitList 16 (f.par 0 2)).any h.fused = false)
    (hoff : (bitList 16 (f.par 0 2)).all (fun p => h.pstate p == 0) = true)
    (hfit : f.par 0 2 = 0 ∨ (32 ≤ h.get R.TBL_MIRROR_SLOT ∧ h.slotMib 16 ≤ 32768)) :
    h.tblSpare m k = (h.put R.TBL_SPARE_MASK (f.par 0 2)).complete m k 0 0 0 := by
  have hfind : (bitList 16 (f.par 0 2)).find? (fun p => h.pstate p != pOFF) = none :=
    List.find?_eq_none.mpr (fun p hp => by
      have hz := List.all_eq_true.mp hoff p hp
      rw [bne, show (h.pstate p == pOFF) = true from hz]
      exact Bool.false_ne_true)
  have hroom : ¬ (f.par 0 2 ≠ 0 ∧ (h.get R.TBL_MIRROR_SLOT < 32 ∨ 32768 < h.slotMib 16)) := by omega
  rw [Hw.tblSpare, onCmd_found hf]
  dsimp only
  rw [whenReleased_released hr, hd, Option.isSome_none, if_neg Bool.false_ne_true, hfuse, if_neg Bool.false_ne_true,
    hfind]
  exact if_neg hroom

/-- TBL_SLEEP with no re-deal and no copy under way begins the announcement (R1129). -/
theorem tblSleep_begins (hf : h.cmdFor m k 0x0602 = some f) (hd : h.tbl.redeal = none) (hc : h.copiesRun = false) :
    h.tblSleep m k = Hw.sleepCheck { h.begun m k with
      tbl := { h.tbl with sleep := true, sleepCmd := some (m, k), sleepAns := [] } } := by
  have hno : ¬ (h.tbl.redeal.isSome || h.copiesRun) = true := by
    rw [hd, hc]
    exact Bool.false_ne_true
  rw [Hw.tblSleep, onCmd_found hf, whenReleased_released hr, if_neg hno]
  exact congrArg Hw.sleepCheck rfl

theorem timeRead_now (hf : h.cmdFor m k 0x0603 = some f) (hop : f.par 0 1 = 0) :
    h.timeRead m k = h.complete m k 0 0 h.clk.tt := by
  rw [Hw.timeRead, onCmd_found hf, if_pos hop, whenReleased_released hr]
  rfl

theorem timeStepCmd_op (hf : h.cmdFor m k 0x0603 = some f) (hop : f.par 0 1 = 1) : h.timeStepCmd m k =
    if !h.isMaster then h.wrongState m k 3
    else (h.timeStep (sext 64 (f.par 8 8))).ok m k (h.timeStep (sext 64 (f.par 8 8))).clk.tt := by
  have h0 : ¬ f.par 0 1 = 0 := by omega
  have h1 : ¬ f.par 0 1 ≠ 1 := by omega
  rw [Hw.timeStepCmd, onCmd_found hf, if_neg h0, if_neg h1, whenReleased_released hr]

end

end

/-- Settles O35, a lemma per command. -/
theorem tableCommands : Obligations.TableCommands :=
  ⟨fun s m k _ high hu hf hd hx => exec_of_dealer (exec_tblStatus m k high s) hu (tblStatus_plain hf high hd hx),
    fun s m k _ hu hf hr hd hfuse hoff hfit => exec_of_dealer (exec_tblSpare m k s) hu
      (tblSpare_off hr hf hd hfuse hoff hfit),
    fun s m k _ hu hf hr hd hc => exec_of_dealer (exec_tblSleep m k s) hu (tblSleep_begins hr hf hd hc),
    fun s m k _ hu hf hop hr => exec_of_dealer (exec_tblTimeRead m k s) hu (timeRead_now hr hf hop),
    fun s m k _ hu hf hop hr hm => exec_of_dealer (exec_tblTimeStep m k s) hu ((timeStepCmd_op hr hf hop).trans
      (if_neg (by rw [hm]; exact Bool.false_ne_true))),
    fun s m k _ hu hf hop hr hm => exec_of_dealer (exec_tblTimeStep m k s) hu ((timeStepCmd_op hr hf hop).trans
      (if_pos (by rw [hm]; rfl)))⟩

end Sys2Proof.Machine
end

section
/-!
SUPPORT. Commands of the raster unit, the display and the Ethernet ports (R954, R989-R993, R1003, R1019-R1052).
-/
namespace Sys2Proof.Machine

open Sys2Proof

section
variable {h : Hw} {m k : Nat} {f : InFlight}

/-! ### The raster unit and the display (R954, R989-R991, R1003) -/

/-- The frame that GFX_SUBMIT asks for, before its first entry is fetched. -/
def InFlight.frame (f : InFlight) (m k : Nat) : GFrame :=
  ⟨m, k, f.par 0 8, f.par 8 4 / 32, 0, [], false, 0, 0, false, none, false, none⟩

theorem gfxSubmit_draws {far : Memory} {r : GFrame × Hw} (hf : h.cmdFor m k 0x0400 = some f) (ha : f.par 0 8 < 2 ^ 48)
    (hl : f.par 8 4 % 32 = 0) (hr : h.is R.CFG_STAT_RELEASED = true) (hp : h.gfxParts ≠ [])
    (hfetch : h.fetchEntry (f.frame m k) 0 far = some r) :
    h.gfxSubmit m k far = (((r.2.begun m k).setFrame (some r.1)).gfxSettle r.1).gfxShow := by
  have hlen : ¬ (f.par 8 4 % 32 != 0) = true := by
    rw [hl]
    exact Bool.false_ne_true
  have hparts : ¬ h.gfxParts.isEmpty = true := fun e => hp (List.isEmpty_iff.mp e)
  rw [Hw.gfxSubmit, onCmd_found hf, if_neg (Nat.not_le.mpr ha), if_neg hlen, whenReleased_released hr, if_neg hparts]
  dsimp only
  rw [← InFlight.frame, hfetch]

theorem gfxStatus_shows (hf : h.cmdFor m k 0x0403 = some f) :
    h.gfxStatus m k = h.complete m k 0 0 (h.rd R.GFX_STAT + 2 ^ 32 * h.rd R.DPY_STAT) := by
  rw [Hw.gfxStatus, onCmd_found hf]
  rfl

/-- The display runs in a mode. -/
def Hw.modeSet (h : Hw) (bs : List Byte) (lanes rate : Nat) : Hw :=
  { h.dpySet dACTIVE lanes rate with
    dpy := { (h.dpySet dACTIVE lanes rate).dpy with mode := bs, lanes := lanes, rate := rate } }

theorem dpyMode_trained {far bs : List Byte} {g : Hw} (hf : h.cmdFor m k 0x0401 = some f) (ha : f.par 0 8 < 2 ^ 48)
    (hl : f.par 8 1 = 1 ∨ f.par 8 1 = 2 ∨ f.par 8 1 = 4) (hrate : f.par 9 1 ≤ 3)
    (hr : h.is R.CFG_STAT_RELEASED = true) (hrd : h.dealerRead (f.par 0 8) 32 far = some (0, bs, g))
    (ht : timingOk bs (f.par 8 1) (f.par 9 1) = true) (hp : g.get R.DPY_STAT_HPD ≠ 0) :
    h.dpyMode m k far true = (g.modeSet bs (f.par 8 1) (f.par 9 1)).complete m k 0 0
      ((g.modeSet bs (f.par 8 1) (f.par 9 1)).rd R.DPY_STAT) := by
  have hlanes : (!(f.par 8 1 == 1 || f.par 8 1 == 2 || f.par 8 1 == 4)) = false := by
    rcases hl with e | e | e <;> rw [e] <;> rfl
  rw [Hw.dpyMode, onCmd_found hf]
  simp only [if_neg (Nat.not_le.mpr ha), hlanes, Bool.false_eq_true, if_false, if_neg (Nat.not_lt.mpr hrate),
    whenReleased_released hr, hrd, ht, Bool.not_true, if_neg hp]
  exact congrArg (fun x : Hw => x.complete m k 0 0 (x.rd R.DPY_STAT)) rfl

theorem dpyPlane_waits {far bs : List Byte} {g : Hw} (hf : h.cmdFor m k 0x0402 = some f) (hn : f.par 0 1 ≤ 1)
    (ha : f.par 8 8 < 2 ^ 48) (hr : h.is R.CFG_STAT_RELEASED = true)
    (hrd : h.dealerRead (f.par 8 8) 32 far = some (0, bs, g)) (hok : planeOk (f.par 0 1) g.dpy.mode bs = true) :
    h.dpyPlane m k far = ({ g with dpy := { g.dpy with
      next := SMap.ins g.dpy.next (f.par 0 1) (planeOf bs) } } : Hw).complete m k 0 0 0 := by
  rw [Hw.dpyPlane, onCmd_found hf]
  simp only [if_neg (Nat.not_lt.mpr hn), if_neg (Nat.not_le.mpr ha), whenReleased_released hr, hrd, hok, Bool.not_true,
    Bool.false_eq_true, if_false]
  exact congrArg (fun x : Hw => x.complete m k 0 0 0) rfl

/-! ### Ethernet (R1019, R1024, R1036, R1041, R1047, R1052) -/

theorem netPort_waits (hf : h.cmdFor m k 0x0500 = some f) (hn : f.par 0 1 ≤ 1) (hm : f.par 1 1 ≤ 2) : h.netPort m k =
    ((h.begun m k).onPort (f.par 0 1) (fun p => { p with change := some (m, k, f.par 1 1) })).portDone (f.par 0 1) := by
  rw [Hw.netPort, onCmd_found hf]
  dsimp only
  rw [if_neg (Nat.not_lt.mpr hn), if_neg (Nat.not_lt.mpr hm)]

theorem netRule_installs {far bs : List Byte} {g g' : Hw} {gen : Nat} (hf : h.cmdFor m k 0x0501 = some f)
    (hn : f.par 0 2 ≤ 2047) (ha : f.par 8 8 < 2 ^ 48) (hrd : h.dealerRead (f.par 8 8) 160 far = some (0, bs, g))
    (hok : ruleOk bs = true) (hi : g.installRule (f.par 0 2) bs = some (gen, g')) :
    h.netRule m k far = g'.complete m k 0 0 gen := by
  rw [Hw.netRule, onCmd_found hf]
  simp only [if_neg (Nat.not_lt.mpr hn), if_neg (Nat.not_le.mpr ha), hrd, hok, hi, Bool.not_true, Bool.false_eq_true,
    if_false]
  exact congrArg (fun x : Hw => x.complete m k 0 0 gen) rfl

theorem ringSize_pos {e : Nat} (he : ringSize e = true) : e ≠ 0 := by
  rintro rfl
  exact absurd he (by decide)

/-- A closed ring is opened: entries, indices and base (R1024). -/
def Hw.ringOpened (h : Hw) (n dir q e ring : Nat) : Hw :=
  (((h.put (if dir = 0 then R.NET_P_RX_ENTRIES_ENTRIES n q else R.NET_P_TX_ENTRIES_ENTRIES n q) e).put
    (if dir = 0 then R.NET_P_RX_HEAD_HEAD n q else R.NET_P_TX_HEAD_HEAD n q) 0).put
      (if dir = 0 then R.NET_P_RX_TAIL_TAIL n q else R.NET_P_TX_TAIL_TAIL n q) 0).onPort n (fun p =>
    if dir = 0 then { p with rxRing := NMap.set p.rxRing q ring } else { p with txRing := NMap.set p.txRing q ring })

theorem netQueue_opens (hf : h.cmdFor m k 0x0502 = some f) (hn : f.par 0 1 ≤ 1) (hal : f.par 8 8 % 32 = 0)
    (ha : f.par 8 8 < 2 ^ 48) (he : ringSize (f.par 16 2) = true)
    (hq : (f.par 1 1 = 0 ∧ f.par 2 1 ≤ 15) ∨ (f.par 1 1 = 1 ∧ f.par 2 1 ≤ 7))
    (hc : h.is (if f.par 1 1 = 0 then R.NET_P_RX_ENTRIES_ENTRIES (f.par 0 1) (f.par 2 1)
      else R.NET_P_TX_ENTRIES_ENTRIES (f.par 0 1) (f.par 2 1)) = false) : h.netQueue m k =
      (h.ringOpened (f.par 0 1) (f.par 1 1) (f.par 2 1) (f.par 16 2) (f.par 8 8)).complete m k 0 0 0 := by
  have hdir : ¬ 1 < f.par 1 1 := by omega
  have hqueue : ¬ ((f.par 1 1 = 0 ∧ 15 < f.par 2 1) ∨ (f.par 1 1 = 1 ∧ 7 < f.par 2 1)) := by omega
  have hring : ¬ (f.par 8 8 % 32 ≠ 0 ∨ 2 ^ 48 ≤ f.par 8 8) := by omega
  have hsize : ¬ (f.par 16 2 ≠ 0 ∧ ¬ ringSize (f.par 16 2) = true) := fun hne => hne.2 he
  rw [Hw.netQueue, onCmd_found hf]
  dsimp only
  rw [if_neg (Nat.not_lt.mpr hn), if_neg hdir, if_neg hqueue, if_neg hring, if_neg hsize, if_neg (ringSize_pos he), hc,
    if_neg Bool.false_ne_true]
  exact congrArg (fun x : Hw => x.complete m k 0 0 0) rfl

theorem netQueue_rx (hf : h.cmdFor m k 0x0502 = some f) (hn : f.par 0 1 ≤ 1) (hd : f.par 1 1 = 0)
    (hq : f.par 2 1 ≤ 15) (hal : f.par 8 8 % 32 = 0) (ha : f.par 8 8 < 2 ^ 48) (he : ringSize (f.par 16 2) = true)
    (hc : h.is (R.NET_P_RX_ENTRIES_ENTRIES (f.par 0 1) (f.par 2 1)) = false) : h.netQueue m k =
      ((((h.put (R.NET_P_RX_ENTRIES_ENTRIES (f.par 0 1) (f.par 2 1)) (f.par 16 2)).put
        (R.NET_P_RX_HEAD_HEAD (f.par 0 1) (f.par 2 1)) 0).put (R.NET_P_RX_TAIL_TAIL (f.par 0 1) (f.par 2 1)) 0).onPort
          (f.par 0 1) (fun p => { p with rxRing := NMap.set p.rxRing (f.par 2 1) (f.par 8 8) })).complete m k 0 0 0 := by
  rw [netQueue_opens hf hn hal ha he (.inl ⟨hd, hq⟩) (by rwa [if_pos hd])]
  simp only [Hw.ringOpened, hd, if_true]

theorem netQueue_tx (hf : h.cmdFor m k 0x0502 = some f) (hn : f.par 0 1 ≤ 1) (hd : f.par 1 1 = 1)
    (hq : f.par 2 1 ≤ 7) (hal : f.par 8 8 % 32 = 0) (ha : f.par 8 8 < 2 ^ 48) (he : ringSize (f.par 16 2) = true)
    (hc : h.is (R.NET_P_TX_ENTRIES_ENTRIES (f.par 0 1) (f.par 2 1)) = false) : h.netQueue m k =
      ((((h.put (R.NET_P_TX_ENTRIES_ENTRIES (f.par 0 1) (f.par 2 1)) (f.par 16 2)).put
        (R.NET_P_TX_HEAD_HEAD (f.par 0 1) (f.par 2 1)) 0).put (R.NET_P_TX_TAIL_TAIL (f.par 0 1) (f.par 2 1)) 0).onPort
          (f.par 0 1) (fun p => { p with txRing := NMap.set p.txRing (f.par 2 1) (f.par 8 8) })).complete m k 0 0 0 := by
  have hne : ¬ f.par 1 1 = 0 := by omega
  rw [netQueue_opens hf hn hal ha he (.inr ⟨hd, hq⟩) (by rwa [if_neg hne])]
  simp only [Hw.ringOpened, if_neg hne]

theorem netShaper_sets (hf : h.cmdFor m k 0x0503 = some f) (hn : f.par 0 1 ≤ 1) (hq : f.par 1 1 ≤ 7)
    (hg : f.par 3 1 ≤ 1) (hlo : 1 ≤ f.par 4 2) (hhi : f.par 4 2 ≤ 10000) (hb : f.par 8 4 ≤ 1048576) {g : Hw}
    (hset : g = (h.setRate (f.par 0 1) (f.par 1 1) (f.par 4 2)).setBucket (f.par 0 1) (f.par 1 1) (f.par 8 4)) :
    h.netShaper m k = (if f.par 3 1 = 1 then g.forgive (f.par 0 1) (f.par 1 1) else g).complete m k 0 0 0 := by
  have hrate : ¬ (f.par 4 2 = 0 ∨ 10000 < f.par 4 2) := by omega
  rw [Hw.netShaper, onCmd_found hf]
  dsimp only
  rw [if_neg (Nat.not_lt.mpr hn), if_neg (Nat.not_lt.mpr hq), if_neg (Nat.not_lt.mpr hg), if_neg hrate,
    if_neg (Nat.not_lt.mpr hb), ← hset]
  rfl

theorem netStatus_shows {n e : Nat} (hf : h.cmdFor m k 0x0505 = some f) (hn : n = f.par 0 1) (hle : n ≤ 1)
    (he : e = min 65535 (h.get (R.NET_P_CNT_FCS_COUNT n) + h.get (R.NET_P_CNT_DEEP_COUNT n) +
      h.get (R.NET_P_CNT_LEN_COUNT n) + h.get (R.NET_P_CNT_NOBUF_COUNT n))) : h.netStatus m k = h.complete m k 0 0
        (h.get (R.NET_P_STAT_LINK n) + 2 * h.get (R.NET_P_STAT_AN_DONE n) + 4 * h.get (R.NET_P_CFG_MODE n) +
          2 ^ 16 * e + 2 ^ 32 * h.get (R.NET_P_CNT_RX_OK_COUNT n)) := by
  rw [Hw.netStatus, onCmd_found hf]
  dsimp only
  rw [← hn, if_neg (Nat.not_lt.mpr hle), ← he]
  rfl

theorem netPtp_sets (hf : h.cmdFor m k 0x0504 = some f) (hn : f.par 0 1 ≤ 1) (hm : f.par 1 1 ≤ 2) :
    h.netPtp m k = (h.put (R.NET_P_CFG_PTP (f.par 0 1)) (f.par 1 1)).complete m k 0 0 0 := by
  rw [Hw.netPtp, onCmd_found hf, if_neg (Nat.not_lt.mpr hn), if_neg (Nat.not_lt.mpr hm)]
  rfl

end

/-- Settles O34, a lemma per command. -/
theorem graphicsAndNetworkCommands : Obligations.GraphicsAndNetworkCommands :=
  ⟨fun s m k _ far _ hu hf ha hl hr hp hfetch => exec_of_dealer (exec_gfxSubmit m k far s) hu
      (gfxSubmit_draws hf ha hl hr hp hfetch),
    fun s m k _ hu hf => exec_of_dealer (exec_gfxStatus m k s) hu (gfxStatus_shows hf),
    fun s m k f far bs h hu hf ha hl hrate hr hrd ht hp => ⟨_, exec_of_dealer (exec_dpyMode m k far true s) hu
      (dpyMode_trained hf ha hl hrate hr hrd ht hp), h.modeSet bs (f.par 8 1) (f.par 9 1), rfl, rfl⟩,
    fun s m k _ far _ _ hu hf hn ha hr hrd hok => exec_of_dealer (exec_dpyPlane m k far s) hu
      (dpyPlane_waits hf hn ha hr hrd hok),
    fun s m k _ hu hf hn hm => exec_of_dealer (exec_netPort m k s) hu (netPort_waits hf hn hm),
    fun s m k _ far _ _ _ _ hu hf hn ha hrd hok hi => exec_of_dealer (exec_netRule m k far s) hu
      (netRule_installs hf hn ha hrd hok hi),
    fun s m k _ hu hf hn hd hq hal ha he hc => exec_of_dealer (exec_netQueue m k s) hu
      (netQueue_rx hf hn hd hq hal ha he hc),
    fun s m k _ hu hf hn hd hq hal ha he hc => exec_of_dealer (exec_netQueue m k s) hu
      (netQueue_tx hf hn hd hq hal ha he hc),
    fun s m k _ hu hf hn hq hg hlo hhi hb => exec_of_dealer (exec_netShaper m k s) hu
      (netShaper_sets hf hn hq hg hlo hhi hb rfl),
    fun s m k _ hu hf hn hm => exec_of_dealer (exec_netPtp m k s) hu (netPtp_sets hf hn hm),
    fun s m k _ _ _ hu hf hn hle he => exec_of_dealer (exec_netStatus m k s) hu (netStatus_shows hf hn hle he)⟩

end Sys2Proof.Machine
end

section
/-!
SUPPORT. List entries and bin jobs of the raster unit (R956-R975).
-/
namespace Sys2Proof.Machine

open Sys2Proof

section
variable {h g : Hw} {far : Memory} {f : GFrame} {bs : List Byte}

/-! ### Entries (R956, R957, R965, R975) -/

/-- The pass that a descriptor starts, before its mode is chosen. -/
def passRead (h : Hw) (bs : List Byte) : GPass :=
  ⟨bs, true, [], [], 0, false, 0, 0, [], [], false, [], 0, [], false, h.mem.hbm, h.mem.kitty⟩

/-- A pass with its mode chosen: tiled, or by the history of its AUTO mode (R964). -/
def Hw.moded (h : Hw) (p : GPass) : GPass :=
  { p with tiled := p.mode == 0 || (p.mode == 2 && (!(h.is (R.GFX_AUTO_HIST_VALID p.id)) ||
    decide (h.get (R.GFX_AUTO_HIST_DEMAND p.id) ≤ p.budget))) }

theorem gfxPass_starts {k : Hw} {p : GPass} (hf : h.entryFor 1 = some f) (hn : f.pass = none) (hok : entryOk f.ent = true)
    (hrd : h.gfxRead (leAt f.ent 8 8) 256 far = some (0, bs, g)) (hpd : p = passRead g.hbmSettle bs)
    (hp : passOk p = true) (hnx : g.hbmSettle.nextEntry { f with pass := some (g.hbmSettle.moded p) } far = some k) :
    h.gfxPass far = k.gfxShow := by
  rw [Hw.moded, hpd, passRead] at hnx
  rw [hpd, passRead] at hp
  simp only [Hw.gfxPass, hf, hn, Option.isSome_none, Bool.false_eq_true, if_false, hok, Bool.not_true, hrd, hp, hnx]

/-- The tiles' copies of a shader image do not decide which partitions draw. -/
theorem gfxParts_gfx (h : Hw) (x : GfxState) : ({ h with gfx := x } : Hw).gfxParts = h.gfxParts := rfl

theorem gfxShader_copies {k : Hw} (hf : h.entryFor 2 = some f) (hok : entryOk f.ent = true)
    (hlo : 32 ≤ leAt f.ent 0x10 4) (hhi : leAt f.ent 0x10 4 ≤ 32 + 65536 + 32768)
    (hrd : h.gfxRead (leAt f.ent 8 8) (leAt f.ent 0x10 4) far = some (0, bs, g))
    (hs : shaderOk bs (leAt f.ent 0x10 4) = true) (hnx : g.nextEntry f far = some k) :
    h.gfxShader far = k.gfxParts.foldl (fun (h : Hw) q => h.copyShader q bs)
      { k with gfx := { k.gfx with image := some bs, have_ := [] } } := by
  have hlen : ¬ (leAt f.ent 0x10 4 < 32 ∨ 32 + 65536 + 32768 < leAt f.ent 0x10 4) := by omega
  simp only [Hw.gfxShader, hf, hok, Bool.not_true, Bool.false_eq_true, if_false, if_neg hlen, hrd, hs, hnx,
    gfxParts_gfx]

section
variable {p : GPass} (hf : h.entryFor 3 = some f) (hp : f.pass = some p)
include hf hp

theorem gfxDraw_goesOn (hi : f.inDraw = true) : h.gfxDraw far = h.drawRun f p far := by
  simp only [Hw.gfxDraw, hf, hp, hi, if_true]

/-- A new draw without samplers joins the pass's draws. -/
theorem gfxDraw_joins (hi : f.inDraw = false) (hok : entryOk f.ent = true)
    (hrd : h.gfxRead (leAt f.ent 8 8) 128 far = some (0, bs, g)) (hs : leAt bs 0x1B 1 = 0)
    (hd : drawOk p ⟨bs, []⟩ = true) :
    h.gfxDraw far = g.drawRun f { p with draws := p.draws ++ [⟨bs, []⟩] } far := by
  simp only [Hw.gfxDraw, hf, hp, hi, Bool.false_eq_true, if_false, hok, Bool.not_true, hrd, hs, true_or, if_true, hd]

end

/-! ### Bin jobs (R971, R973) -/

section
variable {p : GPass} {j : GJob} (hf : h.gfx.frame = some f) (hp : f.pass = some p)
include hf hp

theorem binJobStart_noTargets {img : List Byte} {js : List GJob} {n : Nat} (hi : h.gfx.image = some img)
    (hj : p.jobs = j :: js) (ht : h.jobTile p img = some n) (hg : p.tgts = []) :
    h.binJobStart far = h.jobGo p j js n img [] := by
  simp only [Hw.binJobStart, hf, hi, hp, hj, ht, hg, List.foldl_nil]

section
variable {n : Nat} (farOk : Bool) (hj : p.run.find? (fun j => j.tile == n) = some j) (hw : h.hbmWaits = false)
include hj hw

theorem waveRecordWrite_writes {w : GWave} {d : GDraw} (hwave : j.waves[j.sent]? = some w)
    (hroom : j.sent + 1 ≤ ofLe ((h.tile n).tsRead 0x19410 4) + 4) (hd : p.draws[w.draw]? = some d) :
    h.waveRecordWrite n far farOk = h.waveWrite p j w d n far farOk := by
  have hgo : (decide (ofLe ((h.tile n).tsRead 0x19410 4) + 4 < j.sent + 1) || h.hbmWaits) = false := by
    rw [hw, decide_eq_false (Nat.not_lt.mpr hroom)]
    rfl
  simp only [Hw.waveRecordWrite, hf, hp, hj, hwave, hgo, Bool.false_eq_true, if_false, hd]

/-- A job whose records are all written stores its bin once its shader, where it has any, has halted. -/
theorem binJobStore_stores (hsent : j.sent = j.waves.length)
    (hhalt : j.waves = [] ∨ ((h.tile n).ctl.st = .halted ∧ (h.tile n).ctl.why = 1)) :
    h.binJobStore n farOk = h.jobStore p j n farOk := by
  have hshader : (!j.waves.isEmpty && !((h.tile n).ctl.st == .halted && (h.tile n).ctl.why == 1)) = false := by
    rcases hhalt with he | ⟨hst, hwhy⟩
    · rw [he]
      rfl
    · rw [hst, hwhy]
      exact Bool.and_false _
  have hgo : (j.sent != j.waves.length || (!j.waves.isEmpty && !((h.tile n).ctl.st == .halted &&
      (h.tile n).ctl.why == 1)) || h.hbmWaits) = false := by
    rw [hshader, hw, hsent, bne_self_eq_false]
    rfl
  simp only [Hw.binJobStore, hf, hp, hj, hgo, Bool.false_eq_true, if_false]

end

end

end

/-- Settles O51, a lemma per entry and per step of a bin job. -/
theorem frameEntries : Obligations.FrameEntries :=
  ⟨fun s far _ _ _ _ _ hu hf hn hok hrd hpd hp hnx => exec_of_core (exec_pass far s) hu
      (gfxPass_starts hf hn hok hrd hpd hp hnx),
    fun s far _ _ _ _ hu hf hok hlo hhi hrd hs hnx => exec_of_core (exec_shader far s) hu
      (gfxShader_copies hf hok hlo hhi hrd hs hnx),
    fun s far _ _ hu hf hp hi => exec_of_core (exec_draw far s) hu (gfxDraw_goesOn hf hp hi),
    fun s far _ _ _ _ _ _ hu hf hi hp hj ht hg => exec_of_core (exec_binJobStart far s) hu
      (binJobStart_noTargets hf hp hi hj ht hg),
    fun s n far farOk _ _ _ _ _ hu hf hp hj hwave hroom hw hd => exec_of_core (exec_waveRecordWrite n far farOk s) hu
      (waveRecordWrite_writes hf hp farOk hj hw hwave hroom hd),
    fun s n farOk _ _ _ hu hf hp hj hsent hhalt hw => exec_of_core (exec_binJobStore n farOk s) hu
      (binJobStore_stores hf hp farOk hj hw hsent hhalt),
    fun s far _ _ _ _ hu hf hp hi hok hrd hs hd => exec_of_core (exec_draw far s) hu
      (gfxDraw_joins hf hp hi hok hrd hs hd)⟩

end Sys2Proof.Machine
end

section
/-!
SUPPORT. Received and transmitted Ethernet frames, waiting rules and the ports' links (R1006-R1051).
-/
namespace Sys2Proof.Machine

open Sys2Proof

section
variable {h : Hw} {n : Nat}

theorem port_onPort (h : Hw) (n : Nat) (f : NetPort → NetPort) : (h.onPort n f).port n = f (h.port n) :=
  SMap.get_set_self ..

/-! ### Reception (R1006-R1028) -/

section
variable {bs : List Byte} (far : Memory) (farOk : Bool)

theorem rxFrame_off (ho : h.portOn n = false) : h.rxFrame n bs far farOk = h :=
  if_pos (by rw [ho]; rfl)

variable (ho : h.portOn n = true)
include ho

theorem rxFrame_runt (hl : bs.length < 64) : h.rxFrame n bs far farOk = h.netEvent n .runt := by
  rw [Hw.rxFrame, ho, if_neg (by decide), if_pos hl]

variable (hl : 64 ≤ bs.length)
include hl

theorem rxFrame_long (hm : h.get (R.NET_P_CFG_MTU n) < bs.length) : h.rxFrame n bs far farOk = h.netEvent n .long := by
  rw [Hw.rxFrame, ho, if_neg (by decide), if_neg (Nat.not_lt.mpr hl), if_pos hm]

variable (hm : bs.length ≤ h.get (R.NET_P_CFG_MTU n))
include hm

theorem rxFrame_fcs (hc : leAt bs (bs.length - 4) 4 ≠ fcs32 (bs.take (bs.length - 4))) :
    h.rxFrame n bs far farOk = h.netEvent n .fcs := by
  rw [Hw.rxFrame, ho, if_neg (by decide), if_neg (Nat.not_lt.mpr hl), if_neg (Nat.not_lt.mpr hm)]
  exact if_pos (bne_iff_ne.mpr hc)

variable {p : Parse} (hc : leAt bs (bs.length - 4) 4 = fcs32 (bs.take (bs.length - 4)))
  (hpause : isPause (bs.take (bs.length - 4)) = false)
  (hp : p = parseFrame (bs.take (bs.length - 4)) (if h.is R.NET_HST_PORT_EN = true then some (h.get R.NET_HST_PORT_PORT)
    else none)) (hcls : p.cls = .ok)
include hc hpause hp hcls

/-- A good frame goes where its verdict sends it (R1015, R1018). -/
theorem rxFrame_good : h.rxFrame n bs far farOk = ((h.verdict n p (bs.take (bs.length - 4))).queue.bind (fun q =>
    h.deliver n (h.verdict n p (bs.take (bs.length - 4))) q (bs.take (bs.length - 4)) far farOk)).getD h := by
  have hsum : (leAt bs (bs.length - 4) 4 != fcs32 (bs.take (bs.length - 4))) = false := bne_eq_false_iff_eq.mpr hc
  simp only [Hw.rxFrame, ho, Bool.not_true, Bool.false_eq_true, if_false, if_neg (Nat.not_lt.mpr hl),
    if_neg (Nat.not_lt.mpr hm), hsum, hpause, ← hp, hcls]
  cases (h.verdict n p (bs.take (bs.length - 4))).queue with
  | none => rfl
  | some q =>
    dsimp only [Option.bind]
    cases h.deliver n (h.verdict n p (bs.take (bs.length - 4))) q (bs.take (bs.length - 4)) far farOk <;> rfl

theorem rxFrame_delivered {q : Nat} {g : Hw} (hq : (h.verdict n p (bs.take (bs.length - 4))).queue = some q)
    (hd : h.deliver n (h.verdict n p (bs.take (bs.length - 4))) q (bs.take (bs.length - 4)) far farOk = some g) :
    h.rxFrame n bs far farOk = g := by
  rw [rxFrame_good far farOk ho hl hm hc hpause hp hcls, hq, Option.bind_some, hd, Option.getD_some]

theorem rxFrame_dropped (hq : (h.verdict n p (bs.take (bs.length - 4))).queue = none) :
    h.rxFrame n bs far farOk = h := by
  rw [rxFrame_good far farOk ho hl hm hc hpause hp hcls, hq, Option.bind_none, Option.getD_none]

end

/-- The descriptor of a received frame. -/
def RxFlight.bytes (x : RxFlight) (suspect : Bool) : List Byte :=
  leBytes 2 x.len ++ leBytes 2 (x.status + 1 + 8 * b2n suspect) ++ leBytes 2 x.rule ++ leBytes 2 x.gen ++
    leBytes 2 x.tag ++ leBytes 4 0 ++ leBytes 8 x.time

theorem rxDescWrite_none {q : Nat} (farOk : Bool) (hx : (h.port n).rxOf q = []) : h.rxDescWrite n q farOk = h := by
  rw [Hw.rxDescWrite, hx]

/-- The oldest frame in flight gets its descriptor, HEAD moves on, and commands that waited for the frame go on. -/
theorem rxDescWrite_writes {q : Nat} {farOk : Bool} {x : RxFlight} {l : List RxFlight} {g : Hw}
    (hx : (h.port n).rxOf q = x :: l) (hs : h.gStatus (x.desc + 10) 22 true ≠ 3) (hslot : x.slot = none)
    (hg : g = (h.nodeWrite 645 (x.desc + 10) (x.bytes h.tsSuspect) [] farOk).2.onPort n
      (fun p => { p with rx := p.rx.erase x })) (he : g.get (R.NET_P_RX_ENTRIES_ENTRIES n q) ≠ 0) :
    h.rxDescWrite n q farOk = (((((g.put (R.NET_P_RX_HEAD_HEAD n q) ((g.get (R.NET_P_RX_HEAD_HEAD n q) + 1) %
      g.get (R.NET_P_RX_ENTRIES_ENTRIES n q))).bump (R.NET_P_CNT_RX_OK_COUNT n)).ruleRetry).queueDone).portDone n) := by
  simp only [Hw.rxDescWrite, hx, if_neg hs, hslot, ← RxFlight.bytes.eq_1, ← hg, if_neg he]

/-! ### Transmission (R1009, R1027-R1041) -/

theorem txStart_waits {crc : Bool} {far : Memory} {farOk : Bool} (hw : h.portOn n = false ∨
    (h.port n).tx.isSome = true ∨ h.clk.now < (h.port n).pauseTo) : h.txStart n crc far farOk = h := by
  refine if_pos ?_
  rcases hw with ho | ht | hp
  · rw [ho]
    rfl
  · rw [ht, Bool.or_true, Bool.true_or]
  · rw [decide_eq_true hp, Bool.or_true]

/-- The first eligible queue's frame starts to be sent, stomped where its data or its packet failed. -/
theorem txStart_sends {q e : Nat} {crc : Bool} {far : Memory} {farOk : Bool} {ds bs : List Byte} {g g' : Hw}
    (ho : h.portOn n = true) (ht : (h.port n).tx = none) (hp : (h.port n).pauseTo ≤ h.clk.now)
    (hq : h.txQueue n = some q)
    (hd : h.nodeRead 645 (NMap.get (h.port n).txRing q + 32 * (h.get (R.NET_P_TX_HEAD_HEAD n q) %
      h.get (R.NET_P_TX_ENTRIES_ENTRIES n q))) 32 far = some (0, ds, g)) (hlo : 60 ≤ leAt ds 8 2)
    (hhi : leAt ds 8 2 + 4 ≤ g.get (R.NET_P_CFG_MTU n))
    (hrd : g.nodeRead 645 (leAt ds 0 8 % 2 ^ 48) (leAt ds 8 2) far = some (e, bs, g')) :
    ∃ x, ((h.txStart n crc far farOk).port n).tx = some x ∧ x.q = q ∧ x.stomped = (crc || e != 0) := by
  have hgo : (!h.portOn n || (h.port n).tx.isSome || decide (h.clk.now < (h.port n).pauseTo)) = false := by
    rw [ho, ht, decide_eq_false (Nat.not_lt.mpr hp)]
    rfl
  have hlen : ¬ (leAt ds 8 2 < 60 ∨ g.get (R.NET_P_CFG_MTU n) < leAt ds 8 2 + 4) := by omega
  simp only [Hw.txStart, hgo, Bool.false_eq_true, if_false, hq, hd, if_neg hlen, hrd, port_onPort]
  exact ⟨_, rfl, rfl, rfl⟩

theorem txDone_none (farOk : Bool) (hx : (h.port n).tx = none) : h.txDone n farOk = h := by
  rw [Hw.txDone, hx]

/-- A sent frame whose descriptor is written in `g`: TX_OK, HEAD, and commands that waited for the frame. -/
def Hw.txEnded (g : Hw) (n : Nat) (x : TxFlight) : Hw :=
  ((((if x.stomped = true then g else g.bump (R.NET_P_CNT_TX_OK_COUNT n)).txAdvance n x.q).onPort n
    (fun p => { p with tx := none })).queueDone).portDone n

theorem txDone_writes {farOk : Bool} {x : TxFlight} (hx : (h.port n).tx = some x)
    (hs : h.gStatus x.desc 32 true ≠ 3) : h.txDone n farOk =
      (((if x.ts then (h.nodeWrite 645 (x.desc + 0x18) (leBytes 8 x.time) [] farOk).2 else h).nodeWrite 645 (x.desc + 12)
        (leBytes 2 (1 + 2 * b2n x.stomped + 8 * b2n (x.ts && h.tsSuspect))) [] farOk).2).txEnded n x := by
  simp only [Hw.txDone, hx, if_neg hs, Hw.txEnded]

/-! ### Rules and links (R1004, R1023, R1051) -/

theorem ruleTimeout_ends {w : RuleWait} (hw : h.net.ruleWait = some w) : h.ruleTimeout =
    ({ h with net := { h.net with ruleWait := none } } : Hw).complete w.mb w.hd 0x17 4 0 := by
  simp only [Hw.ruleTimeout, hw]
  rfl

theorem ethUp_rises (hn : n < 2) (hm : h.get (R.NET_P_CFG_MODE n) ≠ 0) (hl : h.is (R.NET_P_STAT_LINK n) = false) :
    h.ethUp n = ((h.putB (R.NET_P_STAT_LINK n) true).putB (R.NET_P_STAT_AN_DONE n)
      (h.get (R.NET_P_CFG_MODE n) == 1 && h.is (R.NET_P_CFG_AN_EN n))).ethChange n true :=
  if_neg (by
    rw [hl]
    simp only [Bool.false_eq_true, or_false, not_or, Nat.not_le]
    exact ⟨hn, hm⟩)

theorem ethDown_falls (hn : n < 2) (hl : h.is (R.NET_P_STAT_LINK n) = true) : h.ethDown n =
    ((h.putB (R.NET_P_STAT_LINK n) false).putB (R.NET_P_STAT_AN_DONE n) false).ethChange n false :=
  if_neg (by
    rw [hl]
    simp only [not_true_eq_false, or_false, Nat.not_le]
    exact hn)

end

/-- Settles O53, a lemma per row and outcome. -/
theorem ethernetFrames : Obligations.EthernetFrames :=
  ⟨fun s n bs far farOk hz hu ho => exec_of_sysPins (exec_rxFrame n bs far farOk s) hz hu (rxFrame_off far farOk ho),
    fun s n bs far farOk hz hu ho hl => exec_of_sysPins (exec_rxFrame n bs far farOk s) hz hu
      (rxFrame_runt far farOk ho hl),
    fun s n bs far farOk hz hu ho hl hm => exec_of_sysPins (exec_rxFrame n bs far farOk s) hz hu
      (rxFrame_long far farOk ho hl hm),
    fun s n bs far farOk hz hu ho hl hm hc => exec_of_sysPins (exec_rxFrame n bs far farOk s) hz hu
      (rxFrame_fcs far farOk ho hl hm hc),
    fun s n _ bs far farOk _ _ hz hu ho hl hm hc hpause hp hcls hq hd => exec_of_sysPins (exec_rxFrame n bs far farOk s)
      hz hu (rxFrame_delivered far farOk ho hl hm hc hpause hp hcls hq hd),
    fun s n bs far farOk _ hz hu ho hl hm hc hpause hp hcls hq => exec_of_sysPins (exec_rxFrame n bs far farOk s) hz hu
      (rxFrame_dropped far farOk ho hl hm hc hpause hp hcls hq),
    fun s n q farOk hu hx => exec_of_sys (exec_rxDescriptorWrite n q farOk s) hu (rxDescWrite_none farOk hx),
    fun s n q farOk _ _ _ hu hx hs hslot hg he => exec_of_sys (exec_rxDescriptorWrite n q farOk s) hu
      (rxDescWrite_writes hx hs hslot hg he),
    fun s n crc far farOk hu hw => exec_of_sys (exec_txFrameStart n crc far farOk s) hu (txStart_waits hw),
    fun s n _ _ crc far farOk _ _ _ _ hu ho ht hp hq hd hlo hhi hrd => ⟨_,
      exec_of_sys (exec_txFrameStart n crc far farOk s) hu rfl, txStart_sends ho ht hp hq hd hlo hhi hrd⟩,
    fun s n farOk hu hx => exec_of_sys (exec_txFrameDone n farOk s) hu (txDone_none farOk hx),
    fun s n farOk _ _ hu hx hs hts hg => exec_of_sys (exec_txFrameDone n farOk s) hu
      ((txDone_writes hx hs).trans (by rw [hts, hg]; rfl)),
    fun s n farOk _ _ hu hx hs hts hg => exec_of_sys (exec_txFrameDone n farOk s) hu
      ((txDone_writes hx hs).trans (by rw [hts, hg]; rfl)),
    fun s _ hu hw => exec_of_sys (exec_netRuleSlotTimeout s) hu (ruleTimeout_ends hw),
    fun s n hz hu hn hm hl => exec_of_sysPins (exec_ethLinkUp n s) hz hu (ethUp_rises hn hm hl),
    fun s n hu hn hl => exec_of_sys (exec_ethLinkDown n s) hu (ethDown_falls hn hl)⟩

end Sys2Proof.Machine
end

section
/-!
SUPPORT. Frames of the Moazel links and the links' own states (R1089-R1103, R1115).
-/
namespace Sys2Proof.Machine

open Sys2Proof

/-! ### What link operations leave -/

/-- DONE seen high is not driven again. -/
theorem doneFollow_high {h : Hw} (hd : h.fab.doneHigh = true) : h.doneFollow = h := by
  rw [Hw.doneFollow, hd, Bool.or_true, if_pos rfl]

/-- An event leaves the table unit's state. -/
theorem postEvent_tbl (h : Hw) (code result : Nat) : (h.postEvent 16 code result).tbl = h.tbl :=
  (congrArg Hw.tbl (Hw.Posts.postEvent h 16 code result).frame :)

theorem lnkStat_ge (k : Nat) : 0x400B1000 ≤ R.LNK_STAT k := Nat.le_add_right ..

theorem tblStat_ne_lnkStat (k : Nat) : R.TBL_STAT ≠ R.LNK_STAT k := by
  have := lnkStat_ge k
  rw [R.TBL_STAT]
  omega

/-- The routes are written to two registers alone. -/
theorem Hw.rd_setRoutes (h : Hw) {a : Nat} (hgw : a ≠ R.NOC_SEAT_GW) (hrt : a ≠ R.TBL_ROUTE) :
    h.setRoutes.rd a = h.rd a := by
  refine (foldl_keeps (fun g : Hw => g.rd a) _ (fun g t _ => ?_) _).trans
    (Hw.rd_put_ne h R.NOC_SEAT_GW_SEAT_EN _ hgw)
  split
  · rw [Hw.rd_wr_ne _ _ hrt, Hw.rd_wr_ne _ _ hgw]
  · rfl

theorem Hw.Writes.setRoutes (h : Hw) : h.Writes h.setRoutes := by
  refine (Writes.put h R.NOC_SEAT_GW_SEAT_EN _).trans (foldl_steps Writes.refl Writes.trans _ (fun g t _ => ?_) _)
  split
  · exact (Writes.wr ..).trans (.wr ..)
  · exact .refl g

/-- The routes follow the links of a table that has seats present. -/
def Hw.routesFollow (h : Hw) : Hw := if h.get R.TBL_STAT_PRESENT = 0 then h else h.setRoutes

theorem routesFollow_fab (h : Hw) : h.routesFollow.fab = h.fab := by
  rw [Hw.routesFollow]
  split
  · rfl
  · exact (congrArg Hw.fab (Hw.Writes.setRoutes h).frame :)

theorem rd_routesFollow (h : Hw) : h.routesFollow.rd R.TBL_STAT = h.rd R.TBL_STAT := by
  rw [Hw.routesFollow]
  split
  · rfl
  · exact Hw.rd_setRoutes h (by decide) (by decide)

/-! ### Frames received (R1093, R1095, R1097, R1098) -/

/-- A frame discarded on link `k`. -/
def Hw.linkDiscard (h : Hw) (k : Nat) : Hw := (h.bump (R.LNK_CNT_LCRC_COUNT k)).linkFlag k lfLCRC

section
variable {h : Hw} {k : Nat} (hk : k < 4) (hu : h.linkIsUp k = true)
include hk hu

/-- An up link takes frames of every kind. -/
theorem takesFrames_of_up (ft : Nat) : ¬ (4 ≤ k ∨ h.get (R.LNK_STAT_STATE k) = lkDOWN ∨
    (ft ≠ ftHELLO ∧ h.get (R.LNK_STAT_STATE k) ≠ lkUP)) := by
  rw [Hw.linkIsUp, beq_iff_eq] at hu
  rw [hu, lkUP, lkDOWN]
  omega

variable {bs : List Byte}

theorem linkAccept_unreadable (ft : Nat) (hp : parseLFrame bs = none) :
    h.linkAccept k ft bs = (none, h.linkDiscard k) := by
  simp only [Hw.linkAccept, if_neg (takesFrames_of_up hk hu ft), hp]
  rfl

variable {f : LFrame} (hp : parseLFrame bs = some f)
include hp

/-- IDLE and NAK frames are accepted on their LCRC. -/
theorem linkAccept_repeating (hf : f.ftype = ftIDLE ∨ f.ftype = ftNAK) :
    h.linkAccept k f.ftype bs = (some f, (h.setLink k ((h.link k).acked f)).linkPump k) := by
  simp only [Hw.linkAccept, if_neg (takesFrames_of_up hk hu f.ftype), hp, ne_eq, not_true_eq_false, if_false, if_pos hf]

variable (hf : f.ftype = ftDATA)
include hf

/-- A DATA frame is accepted in sequence alone. -/
theorem linkAccept_data : h.linkAccept k ftDATA bs =
    if f.seq = ((h.link k).rx + 1) % 4096 then
      (some f, (h.setLink k ({ h.link k with rx := f.seq }.acked f)).linkPump k)
    else (none, h.linkDiscard k) := by
  have hrep : ¬ (ftDATA = ftIDLE ∨ ftDATA = ftNAK) := by decide
  have hhello : ¬ (ftDATA = ftHELLO ∧ (h.link k).hello.isNone ∧ !(h.link k).retrain) := fun e => absurd e.1 (by decide)
  simp only [Hw.linkAccept, if_neg (takesFrames_of_up hk hu ftDATA), hp, hf, ne_eq, not_true_eq_false, if_false,
    if_neg hrep, if_neg hhello]
  rfl

end

section
variable {h g : Hw} {k : Nat} {bs : List Byte}

theorem linkData_discarded (ha : h.linkAccept k ftDATA bs = (none, g)) : h.linkData k bs = g := by
  simp only [Hw.linkData, ha]

variable {f : LFrame}

theorem linkData_accepted (ha : h.linkAccept k ftDATA bs = (some f, g)) : h.linkData k bs = g.linkFlits k f.flits := by
  simp only [Hw.linkData, ha]

theorem linkIdle_accepted (ha : h.linkAccept k ftIDLE bs = (some f, g)) : h.linkIdle k bs = g := by
  rw [Hw.linkIdle, ha]

theorem linkNak_accepted (ha : h.linkAccept k ftNAK bs = (some f, g)) : h.linkNak k bs = g.linkReplay k := by
  simp only [Hw.linkNak, ha]

/-- A good HELLO of another seat's facing link is shown. -/
theorem hello_shown {sx lx : Nat} (ha : h.linkAccept k ftHELLO bs = (some f, g)) (hu : g.linkIsUp k = false)
    (hs : sx < 8) (hl : lx < 4) (hne : sx ≠ g.seat) (hf : lx = facing k) : h.hello k bs sx lx =
      (((g.setLink k { g.link k with hello := some ⟨sx, lx⟩ }).put (R.LNK_STAT_STATE k) 2).put
        (R.LNK_STAT_PEER_SEAT k) sx).put (R.LNK_STAT_PEER_LINK k) lx := by
  have haddr := tblStat_ne_lnkStat k
  have hseat : ((((g.setLink k { g.link k with hello := some ⟨sx, lx⟩ }).put (R.LNK_STAT_STATE k) 2).put
      (R.LNK_STAT_PEER_SEAT k) sx).put (R.LNK_STAT_PEER_LINK k) lx).seat = g.seat :=
    get_of_rd (f := R.TBL_STAT_SEAT) ((Hw.rd_put_ne _ (R.LNK_STAT_PEER_LINK k) _ haddr).trans
      ((Hw.rd_put_ne _ (R.LNK_STAT_PEER_SEAT k) _ haddr).trans (Hw.rd_put_ne _ (R.LNK_STAT_STATE k) _ haddr)))
  have hnot : ¬ (lx != facing k || sx == g.seat) = true := by
    rw [← hf, bne_self_eq_false, Bool.false_or, beq_iff_eq]
    exact hne
  simp only [Hw.hello, ha, hu, Bool.false_eq_true, if_false, Nat.mod_eq_of_lt hs, Nat.mod_eq_of_lt hl, lkHELLO, hseat,
    if_neg hne, if_neg hnot]

end

/-- A link's port after a TIME frame that took the delays `ds` (R1115). -/
def Hw.delaysShown (h : Hw) (k : Nat) (ds : List Nat) : Hw :=
  (h.setLink k { h.link k with delays := ds }).wr (R.LNK_DELAY k) (meanDelay ds)

section
variable {h g : Hw} {k : Nat} {bs : List Byte} {f : LFrame} (ha : h.linkAccept k ftTIME bs = (some f, g))
include ha

theorem timeFrame_accepted (sent rtt turn : Nat) : h.timeFrame k bs sent rtt turn =
    let ds := ((rtt - turn) / 2 :: (g.link k).delays).take 16
    let d := g.delaysShown k ds
    let m := d.get R.TBL_STAT_MASTER
    if m != d.seat && d.bitOf R.TBL_STAT_PRESENT m && d.routeOf m == k then
      d.servo ((d.clk.tt : Int) - (sent : Int) - (meanDelay ds : Int))
    else d := by
  simp only [Hw.timeFrame, ha]
  rfl

/-- On the time master a TIME frame joins the delays alone. -/
theorem timeFrame_master {sent rtt turn : Nat} (hm : g.get R.TBL_STAT_MASTER = g.seat) : h.timeFrame k bs sent rtt turn =
    g.delaysShown k (((rtt - turn) / 2 :: (g.link k).delays).take 16) := by
  have haddr : R.TBL_STAT ≠ R.LNK_DELAY k := by
    rw [R.TBL_STAT, R.LNK_DELAY]
    omega
  have hrd : ∀ ds, (g.delaysShown k ds).rd R.TBL_STAT = g.rd R.TBL_STAT := fun ds => Hw.rd_wr_ne _ _ haddr
  rw [timeFrame_accepted ha]
  refine if_neg ?_
  rw [get_of_rd (f := R.TBL_STAT_MASTER) (hrd _), Hw.seat, get_of_rd (f := R.TBL_STAT_SEAT) (hrd _), hm, ← Hw.seat,
    bne_self_eq_false]
  exact Bool.false_ne_true

end

/-! ### Replays (R1098) -/

/-- A replay is counted and flagged. -/
def Hw.replayCounted (h : Hw) (k n : Nat) : Hw :=
  ((h.setLink k { h.link k with replays := n }).bump (R.LNK_CNT_REPLAY_COUNT k)).linkFlag k lfREPLAY

theorem replayCounted_fab (h : Hw) (k n : Nat) : (h.replayCounted k n).fab = h.fab := by
  rw [Hw.replayCounted, Hw.linkFlag, Hw.raise_fab, Hw.bump_fab]
  rfl

/-- A link starts a retrain, its port being `l`. -/
def Hw.retrains (h : Hw) (k : Nat) (l : LinkState) : Hw :=
  ((h.setLink k { l with replays := 0, retrain := true, hello := none }).put (R.LNK_STAT_STATE k) lkTRAINING).linkFlag k
    lfRETRAIN

theorem retrains_fab (h : Hw) (k : Nat) (l : LinkState) : (h.retrains k l).fab = h.fab := by
  rw [Hw.retrains, Hw.linkFlag, Hw.raise_fab, Hw.put_fab]
  rfl

section
variable {h : Hw} {k : Nat} (hk : k < 4) (hu : h.linkIsUp k = true) (hh : (h.link k).held ≠ [])
include hk hu hh

theorem replayTimeout_eq : h.replayTimeout k =
    if 8 ≤ (h.link k).replays + 1 then (h.replayCounted k ((h.link k).replays + 1)).retrains k (h.link k)
    else h.replayCounted k ((h.link k).replays + 1) := by
  have hno : ¬ (!h.linkIsUp k || (h.link k).held.isEmpty) = true := by
    rw [hu, Bool.not_true, Bool.false_or, List.isEmpty_iff]
    exact hh
  rw [Hw.replayTimeout, if_pos hk, Hw.linkReplay]
  exact if_neg hno

variable (hd : h.fab.doneHigh = true)
include hd

theorem replayTimeout_eighth (hr : (h.link k).replays = 7) :
    (h.replayTimeout k).doneFollow = (h.replayCounted k 8).retrains k (h.link k) := by
  rw [replayTimeout_eq hk hu hh, hr, if_pos (by decide)]
  exact doneFollow_high (by rw [retrains_fab, replayCounted_fab, hd])

theorem replayTimeout_earlier (hr : (h.link k).replays < 7) :
    (h.replayTimeout k).doneFollow = h.replayCounted k ((h.link k).replays + 1) := by
  rw [replayTimeout_eq hk hu hh, if_neg (by omega)]
  exact doneFollow_high (by rw [replayCounted_fab, hd])

end

/-! ### A link comes up (R1089 step 5, R1090, R1105) -/

/-- What a link that has come up keeps from then on: its register, EVER_UP, the tiles and the HBM. -/
def Hw.upView (h : Hw) (k : Nat) := (h.rd (R.LNK_STAT k), h.tbl.everUp, h.tiles, h.mem.hbm)

section
variable (h : Hw) (k : Nat)

theorem upView_wr {a : Nat} (v : Nat) (ha : R.LNK_STAT k ≠ a) : (h.wr a v).upView k = h.upView k := by
  rw [Hw.upView, Hw.rd_wr_ne h v ha]
  rfl

theorem upView_reopen : h.reopen.upView k = h.upView k := by
  have hge := lnkStat_ge k
  have hcfg : R.LNK_STAT k ≠ R.CFG_STAT := by
    rw [R.CFG_STAT]
    omega
  have hclosed : (((h.putB R.CFG_STAT_IDENT_OK false).onTbl (fun t => { t with solo := false })) : Hw).upView k =
      h.upView k := upView_wr h k _ hcfg
  rw [Hw.reopen]
  split
  · rfl
  · dsimp only
    split
    · exact (upView_wr _ k _ (tblStat_ne_lnkStat k).symm).trans hclosed
    · exact hclosed

theorem upView_setRoutes : h.setRoutes.upView k = h.upView k := by
  have hge := lnkStat_ge k
  have hw := Hw.Writes.setRoutes h
  have htbl : h.setRoutes.tbl = h.tbl := (congrArg Hw.tbl hw.frame :)
  have hgw : R.LNK_STAT k ≠ R.NOC_SEAT_GW := by
    rw [R.NOC_SEAT_GW]
    omega
  have hrt : R.LNK_STAT k ≠ R.TBL_ROUTE := by
    rw [R.TBL_ROUTE]
    omega
  rw [Hw.upView, Hw.rd_setRoutes h hgw hrt, htbl, hw.tiles, hw.mem, Hw.upView]

theorem upView_linkPump (j : Nat) : (h.linkPump j).upView k = h.upView k := by
  rw [Hw.linkPump]
  split <;> rfl

theorem upView_postEvent (code result : Nat) : (h.postEvent 16 code result).upView k = h.upView k := by
  have hp := Hw.Posts.postEvent h 16 code result
  rw [Hw.upView, rd_postEvent h code result (Nat.le_trans (by decide) (lnkStat_ge k)),
    postEvent_tbl, hp.tiles, hp.mem_hbm, Hw.upView]

/-- The port is UP at its width, and LINK_CHANGE is posted. -/
def Hw.portUp (w4 : Bool) : Hw :=
  ((((h.put (R.LNK_STAT_STATE k) lkUP).putB (R.LNK_STAT_WIDTH4 k) w4).setLink k
    { h.link k with used := [], replays := 0, retrain := false, part := [] }).onTbl
      (fun t => { t with everUp := true })).postEvent 16 evLINK_CHANGE (0x120 + k)

/-- The table unit takes the new link in. -/
def Hw.linkJoined (retrain : Bool) : Hw :=
  let h := if h.tbl.closed || retrain then h else h.reopen
  h.routesFollow.linkPump k

theorem upView_routesFollow : h.routesFollow.upView k = h.upView k := by
  rw [Hw.routesFollow]
  split
  · rfl
  · exact upView_setRoutes h k

theorem upView_linkJoined (retrain : Bool) : (h.linkJoined k retrain).upView k = h.upView k := by
  rw [Hw.linkJoined, upView_linkPump, upView_routesFollow]
  split
  · rfl
  · exact upView_reopen h k

theorem upView_portUp (w4 : Bool) : (h.portUp k w4).upView k =
    (((h.put (R.LNK_STAT_STATE k) lkUP).putB (R.LNK_STAT_WIDTH4 k) w4).rd (R.LNK_STAT k), true, h.tiles, h.mem.hbm) :=
  upView_postEvent _ k _ _

end

/-- What the view of an up link tells. -/
theorem up_of_upView {h g : Hw} {k : Nat} {w4 : Bool} (hv : g.upView k = (h.portUp k w4).upView k) :
    g.tbl.everUp = true ∧ g.linkIsUp k = true ∧ g.is (R.LNK_STAT_WIDTH4 k) = w4 ∧ g.tiles = h.tiles ∧
      g.mem.hbm = h.mem.hbm := by
  rw [upView_portUp] at hv
  obtain ⟨hrd, hrest⟩ := Prod.mk.inj hv
  obtain ⟨hever, hkept⟩ := Prod.mk.inj hrest
  obtain ⟨htiles, hhbm⟩ := Prod.mk.inj hkept
  have hstate : g.get (R.LNK_STAT_STATE k) = lkUP :=
    (get_of_rd (f := R.LNK_STAT_STATE k) hrd).trans
      ((Hw.get_putB_other _ (R.LNK_STAT_WIDTH4 k) (R.LNK_STAT_STATE k) w4 (Nat.le_refl 3) (show 3 < 32 by decide)
        (Or.inr (Or.inr (show 2 < 3 by decide)))).trans
          (Hw.get_put_self h (R.LNK_STAT_STATE k) lkUP (Nat.zero_le 2) (show 2 < 32 by decide)))
  exact ⟨hever, beq_iff_eq.mpr hstate, (is_of_rd (f := R.LNK_STAT_WIDTH4 k) hrd).trans
    (Hw.is_putB_self _ (R.LNK_STAT_WIDTH4 k) w4 rfl (show 3 < 32 by decide)), htiles, hhbm⟩

/-- A link whose HELLO was good comes up. -/
theorem linkBringUp_eq {h : Hw} {k lanes : Nat} {e : Hello} {w4 : Bool} (he : (h.link k).hello = some e)
    (hw : laneMode lanes = some w4) (hm : h.linkMay k = true) (hst : h.get (R.LNK_STAT_STATE k) = lkHELLO)
    (hx : h.xstate ≠ xLATE) (hl : e.letter = facing k) (hs : e.seat ≠ h.seat) :
    h.linkBringUp k lanes = (h.portUp k w4).linkJoined k (h.link k).retrain := by
  have hno : ¬ (!h.linkMay k || h.get (R.LNK_STAT_STATE k) != lkHELLO || h.xstate == xLATE || e.letter != facing k ||
      e.seat == h.seat) = true := by
    rw [hm, hst, hl, bne_self_eq_false, bne_self_eq_false, beq_false_of_ne hx, beq_false_of_ne hs]
    exact Bool.false_ne_true
  unfold Hw.linkBringUp
  extract_lets l
  split
  · next e' w' he' hw' =>
    obtain rfl : e' = e := Option.some.inj (he'.symm.trans he)
    obtain rfl : w' = w4 := Option.some.inj (hw'.symm.trans hw)
    exact if_neg hno
  · next hnone => exact absurd hw (hnone e w4 he)

/-! ### A link goes down, and starts again (R1089, R1092) -/

/-- The port is down and its frames are discarded. -/
def Hw.portDown (h : Hw) (k : Nat) : Hw :=
  ((h.put (R.LNK_STAT_STATE k) lkDOWN).setLink k LinkState.reset).linkFlag k lfDOWN

section
variable (h : Hw) (k : Nat)

theorem portDown_fab : (h.portDown k).fab = h.fab := by
  rw [Hw.portDown, Hw.linkFlag, Hw.raise_fab]
  rfl

theorem rd_portDown : (h.portDown k).rd R.TBL_STAT = h.rd R.TBL_STAT := by
  have hflags : R.TBL_STAT ≠ R.LNK_FLAGS k := by
    rw [R.TBL_STAT, R.LNK_FLAGS]
    omega
  exact (rd_raise_ne _ (R.LNK_FLAGS_FLAGS k) lfDOWN hflags).trans
    (Hw.rd_put_ne h (R.LNK_STAT_STATE k) _ (tblStat_ne_lnkStat k))

end

theorem watching_of_rd {h g : Hw} (e : g.rd R.TBL_STAT = h.rd R.TBL_STAT) : g.watching = h.watching := by
  rw [Hw.watching, Hw.xstate, get_of_rd (f := R.TBL_STAT_XSTATE) e, ← Hw.xstate, Hw.watching]

section
variable {h : Hw} {k : Nat} (hk : k < 4) (hst : h.get (R.LNK_STAT_STATE k) ≠ lkDOWN) (ho : (h.link k).out = [])
  (hw : h.watching = false) (hd : h.fab.doneHigh = true)
include hk hst ho hw hd

/-- A link without waiting packets goes down, on a seat that does not watch for losses: `g` is the state once its port is
down and a change is posted. -/
theorem linkLost_eq {g : Hw} (hg : g = if h.get (R.LNK_STAT_STATE k) == lkUP || (h.link k).retrain then
    (h.portDown k).postEvent 16 evLINK_CHANGE (0x20 + k) else h.portDown k) :
    (h.linkLost k).doneFollow = g.routesFollow := by
  have hkept : g.rd R.TBL_STAT = h.rd R.TBL_STAT ∧ g.fab = h.fab := by
    subst hg
    split
    · exact ⟨(rd_postEvent _ _ _ (by decide)).trans (rd_portDown h k),
        (congrArg Hw.fab (Hw.Posts.postEvent (h.portDown k) 16 _ _).frame :).trans (portDown_fab h k)⟩
    · exact ⟨rd_portDown h k, portDown_fab h k⟩
  obtain ⟨hrd, hfab⟩ := hkept
  have hwatch : g.routesFollow.watching = false := (watching_of_rd ((rd_routesFollow g).trans hrd)).trans hw
  have hno : ¬ (4 ≤ k ∨ h.get (R.LNK_STAT_STATE k) = lkDOWN) := by
    rintro (hge | he)
    · exact absurd hk (Nat.not_lt.mpr hge)
    · exact hst he
  have hlost : h.linkLost k = if g.routesFollow.watching && g.routesFollow.allDown &&
      decide (3 ≤ g.routesFollow.presentList.length) then g.routesFollow.cut else g.routesFollow := by
    rw [hg]
    simp only [Hw.linkLost, if_neg hno, ho]
    rfl
  rw [hlost, hwatch, Bool.false_and, Bool.false_and, if_neg Bool.false_ne_true]
  exact doneFollow_high ((congrArg FabState.doneHigh ((routesFollow_fab g).trans hfab)).trans hd)

end

/-- A link that may run starts bring-up again. -/
theorem linkRestart_eq {h : Hw} {k : Nat} (hm : h.linkMay k = true) (hst : h.get (R.LNK_STAT_STATE k) = lkDOWN)
    (hx : h.xstate ≠ xDOWN) : h.linkRestart k =
      (h.put (R.LNK_STAT_STATE k) lkTRAINING).setLink k { LinkState.reset with delays := (h.link k).delays } := by
  have haddr := tblStat_ne_lnkStat k
  have hxs : ((h.put (R.LNK_STAT_STATE k) lkTRAINING).setLink k
      { LinkState.reset with delays := (h.link k).delays }).xstate = h.xstate :=
    get_of_rd (f := R.TBL_STAT_XSTATE) (Hw.rd_put_ne h (R.LNK_STAT_STATE k) _ haddr)
  simp only [Hw.linkRestart, hm, hst, beq_self_eq_true, Bool.and_self, if_true, hxs, if_neg hx]

/-- Settles O56: what a link accepts by the kind of frame, then a lemma per row of the link's own state. -/
theorem linkFrames : Obligations.LinkFrames := by
  refine ⟨?_, ?_, ?_, ?_, ?_, ?_, ?_, ?_, ?_, ?_, ?_, ?_, ?_, ?_, ?_⟩
  · intro s k bs hp hs hk hu hn
    exact exec_of_sysPins (exec_data k bs s) hp hs (linkData_discarded (linkAccept_unreadable hk hu ftDATA hn))
  · intro s k bs f hp hs hk hu hf hft hseq
    exact exec_of_sysPins (exec_data k bs s) hp hs
      (linkData_accepted ((linkAccept_data hk hu hf hft).trans (if_pos hseq)))
  · intro s k bs f hp hs hk hu hf hft hseq
    exact exec_of_sysPins (exec_data k bs s) hp hs
      (linkData_discarded ((linkAccept_data hk hu hf hft).trans (if_neg hseq)))
  · intro s k bs f hp hs hk hu hf hft
    exact exec_of_sysPins (exec_idle k bs s) hp hs
      (linkIdle_accepted (hft ▸ linkAccept_repeating hk hu hf (Or.inl hft) : s.hw.linkAccept k ftIDLE bs = _))
  · intro s k bs f hp hs hk hu hf hft
    exact exec_of_sysPins (exec_nak k bs s) hp hs
      (linkNak_accepted (hft ▸ linkAccept_repeating hk hu hf (Or.inr hft) : s.hw.linkAccept k ftNAK bs = _))
  · intro s k sx lx bs f h hp hs ha hu hsx hlx hne hface hd
    exact exec_of_sysPins (exec_hello k bs sx lx s) hp hs
      ((congrArg Hw.doneFollow (hello_shown ha hu hsx hlx hne hface)).trans (doneFollow_high hd))
  · intro s k sent rtt turn bs f h hp hs ha hm
    exact ⟨_, exec_of_sysPins (exec_time k bs sent rtt turn s) hp hs rfl, timeFrame_master ha hm⟩
  · intro s k sent rtt turn d m bs f h g hp hs ha hdel hg hm hne hpres hroute
    subst hdel hg hm
    refine exec_of_sysPins (exec_time k bs sent rtt turn s) hp hs ((timeFrame_accepted ha sent rtt turn).trans (if_pos ?_))
    rw [Bool.and_eq_true, Bool.and_eq_true]
    exact ⟨⟨bne_iff_ne.mpr hne, hpres⟩, beq_iff_eq.mpr hroute⟩
  · intro s k bs f h hp hs ha
    refine exec_of_sysPins (exec_ident k bs s) hp hs (congrArg Hw.doneFollow ?_)
    simp only [Hw.ident', show s.hw.linkAccept k ftIDENT bs = _ from ha]
  · intro s k hs hk hu hh hr hd
    exact exec_of_sys (exec_replayTimeout k s) hs (replayTimeout_eighth hk hu hh hd hr)
  · intro s k hs hk hu hh hr hd
    exact exec_of_sys (exec_replayTimeout k s) hs (replayTimeout_earlier hk hu hh hd hr)
  · intro s k lanes e w hp hs he hw hm hst hx hl hseat
    refine ⟨_, exec_of_sysPins (exec_linkUp k lanes s) hp hs rfl, up_of_upView (h := s.hw) ?_⟩
    rw [linkBringUp_eq he hw hm hst hx hl hseat]
    refine Eq.trans ?_ (upView_linkJoined (s.hw.portUp k w) k (s.hw.link k).retrain)
    rw [doneFollow_frame]
    rfl
  · intro s k hs hk hst hpres hup hre ho hw hd
    have hwas : ¬ (s.hw.get (R.LNK_STAT_STATE k) == lkUP || (s.hw.link k).retrain) = true := by
      rw [hre, Bool.or_false, beq_iff_eq]
      exact hup
    refine exec_of_sys (exec_linkDown k s) hs ((linkLost_eq hk hst ho hw hd (if_neg hwas).symm).trans (if_pos ?_))
    rw [get_of_rd (f := R.TBL_STAT_PRESENT) (rd_portDown s.hw k), hpres]
  · intro s k g hs hk hu ho hw hd hg
    have hst : s.hw.get (R.LNK_STAT_STATE k) = lkUP := beq_iff_eq.mp hu
    refine exec_of_sys (exec_linkDown k s) hs (linkLost_eq hk (by rw [hst]; decide) ho hw hd ?_)
    rw [hst, beq_self_eq_true, Bool.true_or, if_pos rfl]
    exact hg
  · intro s k hs hm hst hx
    exact exec_of_sys (exec_linkRestart k s) hs (linkRestart_eq hm hst hx)

end Sys2Proof.Machine
end

section
/-!
SUPPORT. The agreement of the table: exchange, heartbeats, losses, cuts and re-deals (R1103-R1113, R1122-R1124).
-/
namespace Sys2Proof.Machine

open Sys2Proof

/-! ### The exchange (R1103, R1104) -/

/-- The records `rs` go out on link `k`, where it is up and has room. -/
def Hw.recordsSent (rs : List IdRec) (h : Hw) (k : Nat) : Hw :=
  if h.linkIsUp k && decide ((h.link k).held.length + rs.length ≤ 64) then
    h.setLink k (rs.foldl (fun l r => l.push ftIDENT r.flits) (h.link k))
  else h

/-- What an exchange of records leaves: all but the links' ports. -/
def Hw.sendView (h : Hw) := (h.regs, h.mem, h.tiles)

section
variable (rs : List IdRec) (h : Hw)

theorem sendView_recordsSent (k : Nat) : (h.recordsSent rs k).sendView = h.sendView := by
  rw [Hw.recordsSent]
  split <;> rfl

theorem regs_recordsSent (k : Nat) : (h.recordsSent rs k).regs = h.regs := congrArg Prod.fst (sendView_recordsSent rs h k)

theorem link_recordsSent_ne {k j : Nat} (hj : j ≠ k) : (h.recordsSent rs k).link j = h.link j := by
  rw [Hw.recordsSent]
  split
  · exact link_setLink_ne h _ hj
  · rfl

end

/-- A seat that exchanges is not isolated, late or cut. -/
theorem exchanging_of_lt {h : Hw} (hx : h.xstate < 5) :
    (h.xstate == xISOLATED) = false ∧ (h.xstate == xLATE) = false ∧ (h.xstate == xCUT) = false :=
  ⟨beq_false_of_ne (Nat.ne_of_lt hx), beq_false_of_ne (Nat.ne_of_lt (Nat.lt_succ_of_lt hx)),
    beq_false_of_ne (Nat.ne_of_lt (Nat.lt_succ_of_lt (Nat.lt_succ_of_lt hx)))⟩

section
variable {h : Hw} (hc : h.tbl.closed = false) (hx : h.xstate < 5)
include hc hx

theorem identSend_eq : h.identSend = (List.range 4).foldl (Hw.recordsSent h.recList) h := by
  obtain ⟨hiso, hlate, hcut⟩ := exchanging_of_lt hx
  have hno : ¬ (h.tbl.closed || h.xstate == xISOLATED || h.xstate == xLATE || h.xstate == xCUT) = true := by
    rw [hc, hiso, hlate, hcut]
    exact Bool.false_ne_true
  exact if_neg hno

/-- Each up link with room sends the records: the other links' frames leave the registers and its port. -/
theorem link_identSend {k : Nat} (hk : k < 4) (hu : h.linkIsUp k = true)
    (hr : (h.link k).held.length + h.recList.length ≤ 64) :
    h.identSend.link k = h.recList.foldl (fun l r => l.push ftIDENT r.flits) (h.link k) := by
  rw [identSend_eq hc hx]
  refine congrArg Prod.snd (foldl_at (fun g : Hw => (g.regs, g.link k)) (f := Hw.recordsSent h.recList)
    (v := (h.regs, h.recList.foldl (fun l r => l.push ftIDENT r.flits) (h.link k))) (List.mem_range.mpr hk)
    List.nodup_range h (fun g hg => ?_) (fun g j _ hj => ?_))
  · obtain ⟨hregs, hlink⟩ := Prod.mk.inj hg
    have hgu : g.linkIsUp k = true := by rw [Hw.linkIsUp, Hw.get_congr hregs, ← Hw.linkIsUp, hu]
    rw [regs_recordsSent, hregs, Hw.recordsSent, hgu, hlink, decide_eq_true hr, Bool.and_self, if_pos rfl,
      link_setLink_self]
  · rw [regs_recordsSent, link_recordsSent_ne _ g hj.symm]

theorem sendView_identSend : h.identSend.sendView = h.sendView := by
  rw [identSend_eq hc hx]
  exact foldl_keeps Hw.sendView (List.range 4) (fun g k _ => sendView_recordsSent _ g k) h

end

/-- The seats whose entries in `m` are assigned are redirected. -/
def Hw.redirected (h : Hw) (m : List MapEnt) : Hw :=
  h.onTbl (fun t => { t with redir := (m.filter (fun e => e.st != 0)).foldl (fun s e => NSet.add s e.seat) t.redir })

/-- The exchange of a seat that does not return from LISTEN completes where two seats or more agree and its own epoch is
the highest. -/
theorem identComplete_agrees {h : Hw} {m : List MapEnt} (hc : h.tbl.closed = false) (hx : h.xstate < 5)
    (hload : h.is R.CFG_STAT_LOADED = true) (hclash : h.tbl.clash = false) (hslept : h.tbl.slept = false)
    (hdiff : digestsDiffer h.recList = false) (hlen : 2 ≤ h.recList.length)
    (hgood : h.recList.all (fun r => (r.st == iHELD || r.st == iSLEPT) && r.known == maskOf h.knownSet) = true)
    (htop : h.recList.foldl (fun (a : Nat) r => max a r.epoch) 0 = h.ownRec.epoch) :
    h.identComplete m = (h.redirected m).agree := by
  unfold Hw.identComplete
  extract_lets l k lax good away top h1 h2 sl h3 h4
  have haway : away = [] := if_neg (by rw [hslept]; exact Bool.false_ne_true)
  have hboth : ∀ r ∈ l, good r = true ∧ (lax && r.st == iRELEASED || r.known == k) = true := fun r hr => by
    obtain ⟨hst, hk⟩ := Bool.and_eq_true_iff.mp (List.all_eq_true.mp hgood r hr)
    exact ⟨Bool.or_eq_true_iff.mpr (Or.inl hst), Bool.or_eq_true_iff.mpr (Or.inr hk)⟩
  have hall : l.all good = true := List.all_eq_true.mpr (fun r hr => (hboth r hr).1)
  have hknown : l.all (fun r => lax && r.st == iRELEASED || r.known == k) = true :=
    List.all_eq_true.mpr (fun r hr => (hboth r hr).2)
  obtain ⟨hiso, hlate, hcut⟩ := exchanging_of_lt hx
  have hno : ¬ (h.tbl.closed || h.xstate == xISOLATED || h.xstate == xLATE || h.xstate == xCUT ||
      !h.is R.CFG_STAT_LOADED || h.tbl.clash || digestsDiffer l || decide (l.length + away.length < 2) ||
      !(l.all good) || !(l.all (fun r => lax && r.st == iRELEASED || r.known == k))) = true := by
    rw [hc, hiso, hlate, hcut, hload, hclash, show digestsDiffer l = false from hdiff, hall, hknown, haway,
      decide_eq_false (Nat.not_lt.mpr (show 2 ≤ l.length + ([] : List Nat).length from hlen))]
    exact Bool.false_ne_true
  refine (if_neg hno).trans ?_
  have hepoch : h1 = h := if_neg (Nat.not_lt.mpr (Nat.le_of_eq htop))
  have hagree : h4 = h3 := if_pos (by rw [haway]; rfl)
  have hsl : sl = false := by
    show h1.tbl.slept = false
    rw [hepoch, hslept]
  rw [hsl, if_neg Bool.false_ne_true, hagree]
  show (h1.redirected m).agree = _
  rw [hepoch]

/-- XWAIT ends without a link. -/
theorem xwait_solo {h : Hw} (he : h.tbl.everUp = false) (hc : h.tbl.closed = false) (hs : h.tbl.solo = false)
    (hx : h.xstate ≤ 1) :
    h.xwait = ((h.onTbl (fun t => { t with solo := true, recs := [] })).setX xEXCHANGE).soloAgree := by
  have hno : ¬ (h.tbl.everUp || h.tbl.closed || h.tbl.solo || decide (xEXCHANGE < h.xstate)) = true := by
    rw [he, hc, hs, decide_eq_false (Nat.not_lt.mpr (show h.xstate ≤ xEXCHANGE from hx))]
    exact Bool.false_ne_true
  exact if_neg hno

/-! ### Heartbeats and losses (R1110-R1113) -/

/-- The heartbeats' content is taken before the first goes out. -/
theorem heartbeatSend_eq {h : Hw} (hw : h.watching = true ∨ h.xstate = xAGREED) :
    h.heartbeatSend = (h.presentList.filter (fun q => q != h.seat)).foldl (fun (g : Hw) q =>
      g.toGate { op := 0xC3, addr := 0, srcSeat := g.seat, srcNode := 647, dstSeat := q, dstNode := 647,
                 prio := g.prioOf 647, tag := 0, status := 0, bytes := 0,
                 aux := h.seat + 8 * b2n h.tbl.sleep + 16 * b2n (h.is R.TBL_STAT_TIME_BAD) + 32 * b2n h.tblBusy +
                   h.get R.TBL_EPOCH_EPOCH * 2 ^ 16,
                 data := [], poison := [], crcBad := false }) h := by
  have hno : ¬ (!h.watching && h.xstate != xAGREED) = true := by
    rcases hw with hw | hx
    · rw [hw]
      exact Bool.false_ne_true
    · rw [hx, bne_self_eq_false, Bool.and_false]
      exact Bool.false_ne_true
  exact if_neg hno

section
variable {h : Hw}

theorem heartbeatTimeout_loses {q : Nat} (hw : h.watching = true)
    (hb : SMap.get (fun _ => none) h.tbl.hb q = none) (hd : h.allDown = false) : h.heartbeatTimeout q = h.loseSeat q := by
  rw [Hw.heartbeatTimeout, hb, hw, hd, Bool.and_false]
  rfl

/-- What a loss flags, posts and closes first. -/
def Hw.lossShown (h : Hw) (q : Nat) : Hw :=
  ((((h.putBit R.TBL_STAT_LOST q true).dis dSEAT_LOST).errAt eTABLE 1 647).postEvent 16 evSEAT_LOST q).closeSeat q

theorem errAt_tbl (h : Hw) (cls code node : Nat) : (h.errAt cls code node).tbl = h.tbl :=
  (congrArg Hw.tbl (errAt_frame h cls code node) :)

theorem lossShown_tbl (h : Hw) (q : Nat) : (h.lossShown q).tbl = h.tbl := by
  have hdis : ((h.putBit R.TBL_STAT_LOST q true).dis dSEAT_LOST).tbl = h.tbl := by
    rw [Hw.dis, Hw.raise_tbl, Hw.putBit_tbl]
  exact ((postEvent_tbl _ evSEAT_LOST q).trans (errAt_tbl _ eTABLE 1 647)).trans hdis

theorem Hw.Writes.setPresent (h : Hw) (l : List Nat) : h.Writes (h.setPresent l) :=
  ((((Writes.put ..).trans (.put ..)).trans (.put ..)).trans (.put ..)).trans (.setRoutes _)

theorem setPresent_tbl (h : Hw) (l : List Nat) : (h.setPresent l).tbl = h.tbl :=
  (congrArg Hw.tbl (Hw.Writes.setPresent h l).frame :)

/-- Without a TBL_SLEEP under way there is none to refuse. -/
theorem sleepRefuse_none (hs : h.tbl.sleepCmd = none) : h.sleepRefuse = h := by
  rw [Hw.sleepRefuse, hs]

/-- A loss while no re-deal runs, of a seat that is not the partner: its re-deal begins. -/
theorem loseSeat_begins {q : Nat} (hq : q ≠ h.seat) (hp : h.bitOf R.TBL_STAT_PRESENT q = true)
    (hl : h.bitOf R.TBL_STAT_LOST q = false) (hpar : h.get R.TBL_MIRSTAT_PARTNER ≠ q) (hs : h.tbl.sleepCmd = none)
    (hr : h.tbl.redeal = none) : h.loseSeat q =
      let g := h.lossShown q
      ((g.setPresent (g.presentList.filter (fun x => x != q))).onTbl
        (fun t => { t with redeal := some q, committed := false })).setX xREDEAL := by
  have hno : ¬ (decide (q = h.seat) || !(h.bitOf R.TBL_STAT_PRESENT q) || h.bitOf R.TBL_STAT_LOST q) = true := by
    rw [decide_eq_false hq, hp, hl]
    exact Bool.false_ne_true
  unfold Hw.loseSeat
  extract_lets partner h1 h2 h3 h4 h5 h6 g
  refine (if_neg hno).trans ?_
  have hkept : h5 = h4 := if_neg hpar
  have htbl : h5.tbl = h.tbl := by
    rw [hkept]
    exact (setPresent_tbl h3 _).trans (lossShown_tbl h q)
  have hsleep : h6 = h5 := sleepRefuse_none (htbl ▸ hs)
  rw [if_neg (by rw [hsleep, htbl, hr]; exact Bool.false_ne_true), hsleep, hkept]
  rfl

theorem cutWait_loses {o : Nat} (hw : h.watching = true) (hd : h.allDown = true) (hn : h.presentList.length = 2)
    (ho : h.presentList.find? (fun q => q != h.seat) = some o) :
    h.cutWait false = (h.onTbl (fun t => { t with doneLow := true })).loseSeat o := by
  simp only [Hw.cutWait, hw, hd, hn, ho]
  rfl

theorem cutWait_cuts (hw : h.watching = true) (hd : h.allDown = true) (hn : h.presentList.length = 2) :
    h.cutWait true = h.cut := by
  simp only [Hw.cutWait, hw, hd, hn]
  rfl

end

/-! ### Re-deals (R1124) -/

section
variable {h : Hw} (l : List LostPart) (v q : Nat)

theorem redealDone_none (hr : h.tbl.redeal = none) : h.redealDone l v q = h := by
  rw [Hw.redealDone, hr]

variable {x : Nat} (hr : h.tbl.redeal = some x)
include hr

theorem redealDone_committed (hc : h.tbl.committed = true) : h.redealDone l v q = h.redealFinish x := by
  simp only [Hw.redealDone, hr, hc]
  rfl

/-- The coordinator writes the entries with EPOCH + 1 first. -/
theorem redealDone_coordinates (hc : h.tbl.committed = false) (hk : h.coordinates = true) : h.redealDone l v q =
    let g := (h.redealEntries x l v q).foldl (fun (h : Hw) e => h.setMap e) h
    (g.put R.TBL_EPOCH_EPOCH (h.get R.TBL_EPOCH_EPOCH + 1)).redealFinish x := by
  simp only [Hw.redealDone, hr, hc, hk]
  rfl

end

/-- Map entries leave the epoch. -/
theorem epoch_setMaps (h : Hw) (es : List MapEnt) :
    (es.foldl (fun (h : Hw) e => h.setMap e) h).get R.TBL_EPOCH_EPOCH = h.get R.TBL_EPOCH_EPOCH := by
  refine get_of_rd (f := R.TBL_EPOCH_EPOCH) (foldl_keeps (fun g : Hw => g.rd R.TBL_EPOCH) es (fun g e _ => ?_) h)
  generalize hidx : 16 * (e.seat % 8) + e.part % 16 = i
  have hmap0 : R.TBL_EPOCH ≠ R.TBL_MAP0 i := by
    rw [R.TBL_EPOCH, R.TBL_MAP0]
    omega
  have hmap1 : R.TBL_EPOCH ≠ R.TBL_MAP1 i := by
    rw [R.TBL_EPOCH, R.TBL_MAP1]
    omega
  simp only [Hw.setMap, hidx, Hw.rd_wr_ne _ _ hmap0, Hw.rd_wr_ne _ _ hmap1]

/-- Settles O58: a lemma per row, the exchange by its step on one link, a loss by what it shows first. -/
theorem tableAgreement : Obligations.TableAgreement := by
  refine ⟨?_, ?_, ?_, ?_, ?_, ?_, ?_, ?_, ?_, ?_, ?_⟩
  · intro s k hs hc hx hk hu hr
    obtain ⟨hregs, hrest⟩ := Prod.mk.inj (sendView_identSend hc hx)
    exact ⟨_, exec_of_sys (exec_identSend s) hs rfl, link_identSend hc hx hk hu hr, hregs, Prod.mk.inj hrest⟩
  · intro s m l hs hc hx hload hclash hslept hreload hl hdiff hlen hgood htop
    subst hl
    exact exec_of_sys (exec_identComplete m s) hs
      (congrArg Hw.doneFollow (identComplete_agrees hc hx hload hclash hslept hdiff hlen hgood htop))
  · intro s hs he hc ho hx
    exact exec_of_sys (exec_xwaitTimeout s) hs (xwait_solo he hc ho hx)
  · intro s hs hw
    exact exec_of_sys (exec_heartbeatSend s) hs (heartbeatSend_eq hw)
  · intro s q hs hw hb hd
    exact exec_of_sys (exec_heartbeatTimeout q s) hs (congrArg Hw.doneFollow (heartbeatTimeout_loses hw hb hd))
  · intro s q g hs hw hb hd _ hq hp hl hpar hsl hr hg
    subst hg
    exact exec_of_sys (exec_heartbeatTimeout q s) hs (congrArg Hw.doneFollow
      ((heartbeatTimeout_loses hw hb hd).trans (loseSeat_begins hq hp hl hpar hsl hr)))
  · intro s o hs hw hd hn ho
    exact exec_of_sys (exec_cutWait false s) hs (congrArg Hw.doneFollow (cutWait_loses hw hd hn ho))
  · intro s hs hw hd hn
    exact exec_of_sys (exec_cutWait true s) hs (congrArg Hw.doneFollow (cutWait_cuts hw hd hn))
  · intro s l v q hs hr
    exact exec_of_sys (exec_redealDone l v q s) hs (redealDone_none l v q hr)
  · intro s l v q x hs hr hc
    exact exec_of_sys (exec_redealDone l v q s) hs (redealDone_committed l v q hr hc)
  · intro s l v q x hs hr hc hk
    refine ⟨_, exec_of_sys (exec_redealDone l v q s) hs rfl, _, rfl, ?_⟩
    rw [epoch_setMaps]
    exact redealDone_coordinates l v q hr hc hk

end Sys2Proof.Machine
end
